-- ==== Sys2Proof/Word.lean ====
section
/-! DEFINITION. The word types of the module: 48-bit words and bytes (R9), and the plainest reading of a word. -/
namespace Sys2Proof

/-- The native 48-bit data and instruction word (R9). -/
abbrev Word := BitVec 48

/-- One byte of the byte-addressed memory (R9). -/
abbrev Byte := BitVec 8

end Sys2Proof
end

