-- ==== Sys2Proof/Syntax.lean ====
section
/-! DEFINITION. The commands of the block: one constructor of `Instr` for each row of spec/opcode_table.json, with the row's
operands.  A command is a register access by a named writer or reader, one Zenou instruction on a named core, or an event of
a pin, a converter, a link, a timer or an engine. -/
namespace Sys2Proof

/-- Who performs an access (R32, R33, R70, R111): a Zenou-A core at user or supervisor privilege, Zenou-S, a management
session slot, a DMA channel, the fabric's cyclic exchange, a debugger on J-SVC, the boot ROM. -/
inductive Writer where
  | coreA (n : Fin 4) (sup : Bool)
  | coreS
  | host (slot : Fin 16)
  | dma (ch : Fin 16)
  | fabric
  | debugger
  | rom
  deriving DecidableEq, Repr

/-- The operand fields of a Zenou instruction word of formats R, I, S and B (R381): bits 39:34, 33:28, 27:22 and 21:0. -/
structure Fields where
  rd : BitVec 6
  ra : BitVec 6
  rb : BitVec 6
  imm : BitVec 22
  deriving DecidableEq, Repr

/-- A level of the Z line of a feedback port (R271, R274). -/
structure ZLevel where
  port : Fin 24
  level : Bool
  deriving DecidableEq, Repr

/-- Where a differential pair of a feedback port lies (R270): the A pair, or with `pairB` the B pair, longer than 1 µs inside the
line-fault band, or outside it again. -/
structure PairBand where
  port : Fin 24
  pairB : Bool
  inBand : Bool
  deriving DecidableEq, Repr

/-- The operand fields of a Zenou instruction word of format J (R381): bits 39:34 and 33:0. -/
structure JFields where
  rd : BitVec 6
  imm : BitVec 34
  deriving DecidableEq, Repr

/-- The commands of the block.  Cores and interrupt-controller instances are numbered 0-3 for A0-A3 and 4 for Zenou-S. -/
inductive Instr where
  /-- REGISTER_WRITE (R19): A write to a register that has no row of its own applies each field's access rule, so SP and LK fields refuse the write and other fields take their values. -/
  | registerWrite (w : Writer) (addr : Nat) (v : Word)
  /-- BOOT_PFC_START (R81): The PFC starts and begins charging the bulk. -/
  | bootPfcStart (bulk : Word) (tb : Word)
  /-- ADC_CALIBRATION_DONE (R172): After 120 ms the offsets and CALERR bits are stored, and SYS_READY.ADC is set. -/
  | adcCalibrationDone (codes : List Nat)
  /-- MODE_REQUEST (R70): A write to SYS_MODEREQ.TARGET checks the writer and the conditions, then pends, refuses or takes effect. -/
  | modeRequest (w : Writer) (v : Word)
  /-- SYS_RSTREQ_WRITE (R95): A protected write of 0x5A to SYS_RSTREQ requests a module reset, deferred while an FLC operation runs. -/
  | sysRstreqWrite (w : Writer) (v : Word)
  /-- SYS_KEY_WRITE (R377): Writing the key to SYS_KEY opens an unlock window for that writer and clears LOCK_ERR. -/
  | sysKeyWrite (w : Writer) (v : Word)
  /-- UNLOCK_WINDOW_EXPIRE (R377): An open unlock window reaches the end of its length and closes. -/
  | unlockWindowExpire (key : Nat)
  /-- SYS_CORERST_WRITE (R97): A protected write to SYS_CORERST.HOLD holds Zenou-A cores in reset or releases them at their reset vectors. -/
  | sysCorerstWrite (w : Writer) (v : Word)
  /-- CORE_RESET_RELEASE (R97): After a 1 µs watchdog or debugger core reset, the core is released at its reset vector. -/
  | coreResetRelease (c : Fin 4)
  /-- TICK_DONE (R108): A write of 1 to a TICK_DONE bit ends that slot's work and clears PEND. -/
  | tickDone (w : Writer) (v : Word)
  /-- TICK_FRAME_WRITE (R104): A write to TICK_FRAME or TICK_FCYC is accepted in STANDBY only and takes effect at the next frame tick. -/
  | tickFrameWrite (w : Writer) (fcyc : Bool) (v : Word)
  /-- SYSTIME_NS_READ (R111): A read of SYSTIME_NS latches the current epoch for that reader. -/
  | systimeNsRead (r : Writer)
  /-- TIMER_WRAP (R114): A timer counter at or above its active reload value moves to 0, raises WRAP and activates pending shadow values. -/
  | timerWrap (t : Fin 16)
  /-- TIMER_MATCH (R118): A timer counter moves into a compare value, which sets MATCHk and raises the interrupt and event. -/
  | timerMatch (t : Fin 16) (k : Fin 4)
  /-- TIMER_GSTART (R116): A write to TMR_GSTART starts the selected stopped timers in one base cycle. -/
  | timerGstart (w : Writer) (v : Word)
  /-- TIMER_GSTOP (R116): A write to TMR_GSTOP stops the selected timers and keeps their counts. -/
  | timerGstop (w : Writer) (v : Word)
  /-- TIMER_COUNT_WRITE (R116): A write to TMR_Tn_COUNT is taken while the timer is stopped and refused with WR_RUN while it runs. -/
  | timerCountWrite (w : Writer) (t : Fin 16) (v : Word)
  /-- TIMER_RELOAD_WRITE (R115): A write to RELOAD or PRE becomes pending while the timer runs and active at once while it is stopped. -/
  | timerReloadWrite (w : Writer) (t : Fin 16) (pre : Bool) (v : Word)
  /-- TIMER_CMP_WRITE (R118): A write to TMR_Tn_CMPk takes effect at the next counter clock and updates CMP_RANGE. -/
  | timerCmpWrite (w : Writer) (t : Fin 16) (k : Fin 4) (v : Word)
  /-- TIMER_CAPTURE (R121): A capture task input pushes the count into the 4-entry queue, or counts an overflow when the queue is full. -/
  | timerCapture (t : Fin 16) (k : Fin 2)
  /-- TIMER_CAP_READ (R121): A read of TMR_Tn_CAPk pops the head entry and latches its validity. -/
  | timerCapRead (r : Writer) (t : Fin 16) (k : Fin 2)
  /-- PWM_OEN_WRITE (R134): A write of OEN disables an axis at once or enables it at the next valley, and is refused in disallowed modes. -/
  | pwmOenWrite (w : Writer) (a : Fin 24) (oen : Bool)
  /-- PWM_CONFIG_WRITE (R138): A write to a carrier configuration field is accepted in STANDBY only and takes effect at the next frame tick. -/
  | pwmConfigWrite (w : Writer) (q : Fin 6) (r : Fin 5) (v : Word)
  /-- CARRIER_VALLEY (R136): A quad carrier reaches a valley, which loads armed duties at update points and ends trip states whose inputs are inactive. -/
  | carrierValley (q : Fin 6)
  /-- CARRIER_PEAK (R136): A quad carrier reaches its peak, which loads armed duties at update points. -/
  | carrierPeak (q : Fin 6)
  /-- PWM_DUTY_WRITE (R142): A write to a DUTY register updates staging, and a DUTYW write arms the axis. -/
  | pwmDutyWrite (w : Writer) (a : Fin 24) (ph : Fin 3) (v : Word)
  /-- PWM_WINDOW_EDGE (R139): The carrier reaches a high-side window edge, and the switch turning off does so there. -/
  | pwmWindowEdge (a : Fin 24) (ph : Fin 3)
  /-- PWM_DEAD_TIME_END (R140): Dead time after a window edge ends, and the opposite switch turns on. -/
  | pwmDeadTimeEnd (a : Fin 24) (ph : Fin 3)
  /-- BOOTSTRAP_REFRESH (R145): A phase reaches BSMAX periods without refresh, and a low-side pulse of BSPW counts is inserted at the next valley. -/
  | bootstrapRefresh (a : Fin 24) (ph : Fin 3)
  /-- BOOTSTRAP_UVLO (R146): A high-side bootstrap supply falls below lockout, which holds the high side off and sets UVLO. -/
  | bootstrapUvlo (a : Fin 24) (ph : Fin 3)
  /-- AXIS_TRIP (R149): A trip input of an axis rises, which puts its phases into their trip states, sets TRIP, counts it and raises the event. -/
  | axisTrip (a : Fin 24) (inp : Fin 6)
  /-- PWM_SWTRIP_WRITE (R147): A write to PWM_Qq_SWTRIP changes the software trip inputs at the next base cycle. -/
  | pwmSwtripWrite (w : Writer) (q : Fin 6) (v : Word)
  /-- PWM_DSRC_WRITE (R144): A write of DSRC selects Caldera or software as the duty source from the next frame tick. -/
  | pwmDsrcWrite (w : Writer) (a : Fin 24) (dsrc : Bool)
  /-- PWM_TRIPST_WRITE (R148): A write of the trip output states takes the codes, refuses code 3 with CFG_ERR and updates LS_ERR. -/
  | pwmTripstWrite (w : Writer) (a : Fin 24) (codes : BitVec 6)
  /-- GATEEN_WRITE (R152): Zenou-S writes SAF_GATEEN, and an axis losing its bit goes to ALL_OFF with GEN cleared. -/
  | gateenWrite (w : Writer) (v : Word)
  /-- ADC_SAMPLE (R162): The carrier reaches a sample point, the sample-and-hold of the quad's eight phase converters closes, and FB latches positions. -/
  | adcSample (q : Fin 6) (second : Bool)
  /-- ADC_CONVERSION_DONE (R165): The raw codes complete, and corrected currents, IW, result registers and plausibility flags update together. -/
  | adcConversionDone (q : Fin 6) (codes : List Nat)
  /-- ADC_IU_READ (R168): A read of ADC_AXa_IU latches IV, IW, ISTAT and RAW of the same sample for that reader. -/
  | adcIuRead (r : Writer) (a : Fin 24)
  /-- ADC_SAMP_WRITE (R164): A write to ADC_Qq_SAMP is accepted in STANDBY and takes effect at the next frame tick. -/
  | adcSampWrite (w : Writer) (q : Fin 6) (v : Word)
  /-- ADC_CALREQ (R175): A write of 0xCA to ADC_CALREQ starts an offset recalibration or refuses it with CALREFUSED. -/
  | adcCalreq (w : Writer) (v : Word)
  /-- ADC_RECAL_DONE (R175): The recalibration ends, and all new offsets and CALERR bits take effect in one cycle. -/
  | adcRecalDone (codes : List Nat)
  /-- AUX_CONVERSION (R178): An auxiliary converter completes one of its four inputs every 250 ns and updates the result and VALID. -/
  | auxConversion (q : Fin 6) (inp : Fin 4) (code : Nat)
  /-- CMP_CROSSING (R189): A comparator output changes across a threshold, setting the trip latch and PWM trip input through the trip path. -/
  | cmpCrossing (n : Fin 58) (above below : Bool)
  /-- CMP_BLANKING_END (R194): A comparator blanking window closes, and both paths see the real output again. -/
  | cmpBlankingEnd (n : Fin 58)
  /-- CMP_LATCH_CLEAR (R191): A write of 1 to STAT.LATCH clears the latch when the trip-path signal is inactive, or sets CLRFAIL. -/
  | cmpLatchClear (w : Writer) (n : Fin 58)
  /-- CMP_CLRALL (R191): A write of 0xC1 to CMP_CLRALL clears every latch under the same condition. -/
  | cmpClrall (w : Writer) (v : Word)
  /-- CMP_SP_WRITE (R198): Zenou-S writes a comparator threshold, configuration or route, which the comparator uses from the next frame tick. -/
  | cmpSpWrite (w : Writer) (n : Fin 58) (r : Fin 3) (v : Word)
  /-- CMP_SAMPLE_WINDOW (R196): A sampled EXT comparator powers for 80 ns SOFS counts after the frame tick and holds its majority result. -/
  | cmpSampleWindow (n : Fin 4) (above below : Bool)
  /-- LANE_CURRENT_PASS (R206): A lane runs the current pass of a sample set over its four axes and writes and arms the duties. -/
  | laneCurrentPass (q : Fin 6)
  /-- LANE_OUTER_STAGE (R207): A lane runs the due position and velocity loops after the current pass, and the results apply from the next pass. -/
  | laneOuterStage (q : Fin 6)
  /-- LE_COMMIT (R230): A write to LE_PARAM_COMMIT checks the inactive banks of the named axes and pends or refuses a commit. -/
  | leCommit (w : Writer) (v : Word)
  /-- LE_BANK_COPY_DONE (R231): The copy of the new active bank into the inactive bank ends, which releases stalled parameter writes. -/
  | leBankCopyDone (a : Fin 24)
  /-- LE_PARAM_WRITE (R229): A write to a banked parameter goes to the inactive bank and is refused when out of range. -/
  | leParamWrite (w : Writer) (a : Fin 24) (ofs : Fin 96) (v : Word)
  /-- LE_SETPOINT_WRITE (R227): A set-point write from the SPSRC source sets FRESH, and a write from the other source is refused. -/
  | leSetpointWrite (w : Writer) (a : Fin 24) (k : Fin 5) (v : Word)
  /-- LE_CTL_WRITE (R240): A write to LE_AXa_CTL is accepted in STANDBY and ARMED, effective at the next tick, and refused otherwise. -/
  | leCtlWrite (w : Writer) (a : Fin 24) (v : Word)
  /-- TABLE_ENTRY_WRITE (R251): A write to a table entry is accepted on a free page, marking it UNTRAINED, and refused on an active page. -/
  | tableEntryWrite (w : Writer) (addr : Nat) (v : Word)
  /-- TABLE_SEAL (R252): A write of 0x5E to TBLSEAL marks the named pages TRAINED. -/
  | tableSeal (w : Writer) (a : Fin 24) (pages : BitVec 4)
  /-- TABLE_UNSEAL (R252): A write of 0x0E to TBLSEAL marks the named pages UNTRAINED. -/
  | tableUnseal (w : Writer) (a : Fin 24) (pages : BitVec 4)
  /-- LEARN_START (R259): A write of START = 1 checks the capture conditions, then sets PEND or refuses the start with CAUSE. -/
  | learnStart (w : Writer) (v : Word)
  /-- LEARN_STOP (R262): A write of STOP = 1 ends the capture and clears BUSY and PEND. -/
  | learnStop (w : Writer)
  /-- QUAD_EDGE (R272): A filtered A or B change moves the quadrature count forward or back, or is flagged as an illegal transition. -/
  | quadEdge (a : Fin 24) (na nb : Bool)
  /-- INDEX_EDGE (R274): A Z edge into the active level sets ZEVT, latches ZCAP and acts as ZMODE selects. -/
  | indexEdge (z : ZLevel)
  /-- FB_ZARM (R274): A write of CMD.ZARM arms the index set. -/
  | fbZarm (w : Writer) (a : Fin 24)
  /-- HALL_TRANSITION (R275): A Hall code change sets the position to a sector boundary or centre, or flags HALLERR. -/
  | hallTransition (a : Fin 24) (code : BitVec 3)
  /-- HALL_INVALID_TIMEOUT (R276): An invalid Hall code lasting longer than 1 µs causes position loss with cause 5. -/
  | hallInvalidTimeout (a : Fin 24)
  /-- LINE_FAULT (R270): A differential pair stays in the line-fault band for longer than 1 µs, which sets LINEFLT and loses the position. -/
  | lineFault (p : PairBand)
  /-- SERIAL_TRIGGER (R277): A trigger starts an SSI or Tephra transaction on the port. -/
  | serialTrigger (a : Fin 24)
  /-- SSI_TRANSACTION_DONE (R278): An SSI transaction ends and its word is decoded and accepted or rejected. -/
  | ssiTransactionDone (a : Fin 24) (raw : Word) (ended : Bool)
  /-- TEPHRA_REPLY (R282): A Tephra reply is received and checked, then its position or ID is accepted or the reply rejected. -/
  | tephraReply (a : Fin 24) (bytes : Option (List Byte)) (formErr : Bool)
  /-- TEPHRA_TIMEOUT (R279): No reply SYNC has begun 1.5 µs after the request end, and the transaction is rejected. -/
  | tephraTimeout (a : Fin 24)
  /-- FB_TID (R281): A write of CMD.TID makes the next trigger send a Tephra ID request. -/
  | fbTid (w : Writer) (a : Fin 24)
  /-- FB_TCLR (R281): A write of CMD.TCLR makes the next trigger send CLRERR. -/
  | fbTclr (w : Writer) (a : Fin 24)
  /-- FB_PRESET (R292): A write of CMD.PRESET sets the position to FB_AXa_PRESET at the next sample point, or refuses it by mode. -/
  | fbPreset (w : Writer) (a : Fin 24)
  /-- FB_REVAL (R291): A write of CMD.REVAL revalidates a lost quadrature position from the present count. -/
  | fbReval (w : Writer) (a : Fin 24)
  /-- FB_POSS_READ (R293): A read of FB_AXa_POSS latches SPDS and STAT of the same point for that reader. -/
  | fbPossRead (r : Writer) (a : Fin 24)
  /-- FB_CONFIG_WRITE (R299): A write to the port configuration is accepted in STANDBY and effective at the next frame tick, and refused otherwise. -/
  | fbConfigWrite (w : Writer) (a : Fin 24) (r : Fin 5) (v : Word)
  /-- EMU_CTL_WRITE (R298): A write to FB_EMUn_CTL takes effect at the next frame tick in STANDBY, ARMED or RUN. -/
  | emuCtlWrite (w : Writer) (n : Fin 2) (v : Word)
  /-- EMU_EDGE_OUTPUT (R296): An emulation channel emits one quadrature edge of those due at its source sample point. -/
  | emuEdgeOutput (n : Fin 2)
  /-- DIO_EDGE (R308): A DIO contact crosses its threshold and reaches its event channel within 25 ns. -/
  | dioEdge (k : Fin 16) (level : Bool)
  /-- EVR_PRODUCER_EDGE (R305): A selected producer input rises and, with the gate passing, the channel fires to every enabled link. -/
  | evrProducerEdge (ch : Fin 96) (inp : Fin 32)
  /-- EVR_FIRE (R314): A write of 1 to an EVR_FIRE bit fires that channel in the next cycle, or sets FIRELOST. -/
  | evrFire (w : Writer) (r : Fin 2) (v : Word)
  /-- EVR_LOOP_CLEAR (R317): A write of 1 to STAT.LOOP clears it and FIRECNT and reactivates the channel. -/
  | evrLoopClear (w : Writer) (ch : Fin 96)
  /-- EVR_CHANNEL_LOCK (R315): A write that sets EVR_CHn_CFG.LOCK makes the channel's CFG, SRC and LINK read-only until reset. -/
  | evrChannelLock (w : Writer) (ch : Fin 96) (v : Word)
  /-- LINE_HALF_CYCLE (R326): PWR measures line rms and frequency each half-cycle and derives P_lim and PPK. -/
  | lineHalfCycle (vrms freq : Nat) (peak : Nat)
  /-- PWR_BUSMODE_WRITE (R329): A write of BUSMODE bleeds the bus or brings it into regulation in STANDBY. -/
  | pwrBusmodeWrite (w : Writer) (v : Word)
  /-- PWR_UPDATE (R337): Every 10 µs PWR updates the Geyser account, chopper energy, I²t and junction models and each axis limit. -/
  | pwrUpdate (vbulk pdraw pout : Word)
  /-- ENC5V_OVERCURRENT_OFF (R66): An encoder supply at its limit for 1 ms switches off and sets ENC_OFF, and its quad's ports lose position. -/
  | enc5vOvercurrentOff (q : Fin 6)
  /-- PWR_SUPCTL_WRITE (R346): A write of 1 to an ENC or AUX24 bit of PWR_SUPCTL switches the supply on again. -/
  | pwrSupctlWrite (w : Writer) (v : Word)
  /-- BRAKE_CTL_WRITE (R347): A write to PWR_BRKCTL sets brake ON, AUTO or SEL fields, subject to STO and mode. -/
  | brakeCtlWrite (w : Writer) (v : Word)
  /-- BRAKE_ILIM_OFF (R347): A brake output held in its current limit for 5 ms switches off and sets ILIM. -/
  | brakeIlimOff (k : Fin 4)
  /-- BRAKE_ILIM_CLEAR (R347): A write of 1 to an ILIM bit clears it together with the ON bit. -/
  | brakeIlimClear (w : Writer) (k : Fin 4)
  /-- NOP (R386): NOP does nothing. -/
  | nop (c : Fin 5) (f : Fields)
  /-- ADD (R386): ADD writes ra + rb modulo 2^48. -/
  | add (c : Fin 5) (f : Fields)
  /-- SUB (R386): SUB writes ra − rb modulo 2^48. -/
  | sub (c : Fin 5) (f : Fields)
  /-- ADDS (R384): ADDS writes the saturated sum. -/
  | adds (c : Fin 5) (f : Fields)
  /-- SUBS (R384): SUBS writes the saturated difference. -/
  | subs (c : Fin 5) (f : Fields)
  /-- AND (R386): AND writes the bitwise AND. -/
  | and (c : Fin 5) (f : Fields)
  /-- OR (R386): OR writes the bitwise OR. -/
  | or (c : Fin 5) (f : Fields)
  /-- XOR (R386): XOR writes the bitwise XOR. -/
  | xor (c : Fin 5) (f : Fields)
  /-- ANDN (R386): ANDN writes ra AND NOT rb. -/
  | andn (c : Fin 5) (f : Fields)
  /-- SLL (R386): SLL shifts left by rb[5:0]. -/
  | sll (c : Fin 5) (f : Fields)
  /-- SRL (R386): SRL shifts right logically by rb[5:0]. -/
  | srl (c : Fin 5) (f : Fields)
  /-- SRA (R386): SRA shifts right arithmetically by rb[5:0]. -/
  | sra (c : Fin 5) (f : Fields)
  /-- CMPEQ (R386): CMPEQ writes 1 when ra equals rb, else 0. -/
  | cmpeq (c : Fin 5) (f : Fields)
  /-- CMPLT (R386): CMPLT writes the signed less-than result. -/
  | cmplt (c : Fin 5) (f : Fields)
  /-- CMPLTU (R386): CMPLTU writes the unsigned less-than result. -/
  | cmpltu (c : Fin 5) (f : Fields)
  /-- MIN (R386): MIN writes the signed minimum. -/
  | min (c : Fin 5) (f : Fields)
  /-- MAX (R386): MAX writes the signed maximum. -/
  | max (c : Fin 5) (f : Fields)
  /-- MUL (R386): MUL writes the low 48 bits of the product. -/
  | mul (c : Fin 5) (f : Fields)
  /-- MULH (R386): MULH writes the high half of the signed product. -/
  | mulh (c : Fin 5) (f : Fields)
  /-- MULHU (R386): MULHU writes the high half of the unsigned product. -/
  | mulhu (c : Fin 5) (f : Fields)
  /-- MULF (R384): MULF writes the rounded, shifted and saturated fixed-point product. -/
  | mulf (c : Fin 5) (f : Fields)
  /-- MACF (R384): MACF adds the rounded, shifted product to rd with saturation. -/
  | macf (c : Fin 5) (f : Fields)
  /-- DIV (R386): DIV writes the signed quotient truncated toward 0. -/
  | div (c : Fin 5) (f : Fields)
  /-- DIVU (R386): DIVU writes the unsigned quotient. -/
  | divu (c : Fin 5) (f : Fields)
  /-- REM (R386): REM writes the signed remainder. -/
  | rem (c : Fin 5) (f : Fields)
  /-- REMU (R386): REMU writes the unsigned remainder. -/
  | remu (c : Fin 5) (f : Fields)
  /-- CLZ (R389): CLZ writes the number of leading zero bits of ra. -/
  | clz (c : Fin 5) (f : Fields)
  /-- EXTB (R388): EXTB extracts a bit field with zero or sign extension. -/
  | extb (c : Fin 5) (f : Fields)
  /-- INSB (R388): INSB inserts a bit field of ra into rd. -/
  | insb (c : Fin 5) (f : Fields)
  /-- PERM (R390): PERM builds rd byte by byte from ra under the fn selectors. -/
  | perm (c : Fin 5) (f : Fields)
  /-- ADDI (R386): ADDI adds the sign-extended immediate. -/
  | addi (c : Fin 5) (f : Fields)
  /-- ANDI (R386): ANDI ANDs with the zero-extended immediate. -/
  | andi (c : Fin 5) (f : Fields)
  /-- ORI (R386): ORI ORs with the zero-extended immediate. -/
  | ori (c : Fin 5) (f : Fields)
  /-- XORI (R386): XORI XORs with the zero-extended immediate. -/
  | xori (c : Fin 5) (f : Fields)
  /-- SLLI (R386): SLLI shifts left by an immediate amount of 0–47. -/
  | slli (c : Fin 5) (f : Fields)
  /-- SRLI (R386): SRLI shifts right logically by an immediate amount. -/
  | srli (c : Fin 5) (f : Fields)
  /-- SRAI (R386): SRAI shifts right arithmetically by an immediate amount. -/
  | srai (c : Fin 5) (f : Fields)
  /-- CMPEQI (R386): CMPEQI compares ra with the immediate for equality. -/
  | cmpeqi (c : Fin 5) (f : Fields)
  /-- CMPLTI (R386): CMPLTI compares ra with the immediate, signed. -/
  | cmplti (c : Fin 5) (f : Fields)
  /-- CMPLTUI (R386): CMPLTUI compares ra with the sign-extended immediate, unsigned. -/
  | cmpltui (c : Fin 5) (f : Fields)
  /-- LDHI (R386): LDHI loads bits 47:34 of rd from the immediate and keeps bits 33:0. -/
  | ldhi (c : Fin 5) (f : Fields)
  /-- LDI (R386): LDI loads the sign-extended 34-bit immediate. -/
  | ldi (c : Fin 5) (f : JFields)
  /-- LD1 (R387): LD1 or LD1S loads one byte with zero or sign extension. -/
  | ld1 (c : Fin 5) (sx : Bool) (f : Fields)
  /-- LD2 (R387): LD2 or LD2S loads two bytes with zero or sign extension. -/
  | ld2 (c : Fin 5) (sx : Bool) (f : Fields)
  /-- LD6 (R387): LD6 loads six bytes, split at row boundaries, checked against regions and the map. -/
  | ld6 (c : Fin 5) (f : Fields)
  /-- ST1 (R387): ST1 stores one byte. -/
  | st1 (c : Fin 5) (f : Fields)
  /-- ST2 (R387): ST2 stores two bytes. -/
  | st2 (c : Fin 5) (f : Fields)
  /-- ST6 (R387): ST6 stores six bytes through the store buffer or directly. -/
  | st6 (c : Fin 5) (f : Fields)
  /-- LDL (R375): LDL loads six bytes and sets the reservation on their row. -/
  | ldl (c : Fin 5) (f : Fields)
  /-- STC (R375): STC stores only while the reservation holds, writes 1 or 0 to rd and clears the reservation. -/
  | stc (c : Fin 5) (f : Fields)
  /-- MOVBLK (R396): MOVBLK copies 48-bit elements ascending or descending, element by element and interruptibly. -/
  | movblk (c : Fin 5) (f : Fields)
  /-- FILLBLK (R396): FILLBLK fills elements with a value. -/
  | fillblk (c : Fin 5) (f : Fields)
  /-- CMPBLK (R396): CMPBLK compares two blocks until the first difference. -/
  | cmpblk (c : Fin 5) (f : Fields)
  /-- SCANBLK (R396): SCANBLK scans a block for an equal or unequal element. -/
  | scanblk (c : Fin 5) (f : Fields)
  /-- BEQ (R387): BEQ branches when ra equals rb. -/
  | beq (c : Fin 5) (f : Fields)
  /-- BNE (R387): BNE branches when ra differs from rb. -/
  | bne (c : Fin 5) (f : Fields)
  /-- BLT (R387): BLT branches on signed less-than. -/
  | blt (c : Fin 5) (f : Fields)
  /-- BGE (R387): BGE branches on signed greater-or-equal. -/
  | bge (c : Fin 5) (f : Fields)
  /-- BLTU (R387): BLTU branches on unsigned less-than. -/
  | bltu (c : Fin 5) (f : Fields)
  /-- BGEU (R387): BGEU branches on unsigned greater-or-equal. -/
  | bgeu (c : Fin 5) (f : Fields)
  /-- JMP (R387): JMP transfers to pc + 2 × imm34. -/
  | jmp (c : Fin 5) (f : JFields)
  /-- JMPR (R387): JMPR transfers to the address in ra. -/
  | jmpr (c : Fin 5) (f : Fields)
  /-- CALL (R391): CALL waits for free groups, slides the window, writes the link into w31 and transfers. -/
  | call (c : Fin 5) (f : JFields)
  /-- CALLR (R391): CALLR makes a windowed call to the address in ra. -/
  | callr (c : Fin 5) (f : Fields)
  /-- RET (R394): RET checks the link in w31, waits for resident groups, restores WB and transfers. -/
  | ret (c : Fin 5) (f : Fields)
  /-- MFSR (R404): MFSR reads a special register at supervisor privilege. -/
  | mfsr (c : Fin 5) (f : Fields)
  /-- MTSR (R404): MTSR writes a special register at supervisor privilege. -/
  | mtsr (c : Fin 5) (f : Fields)
  /-- FENCE (R401): FENCE waits until every earlier store of the core is written. -/
  | fence (c : Fin 5) (f : Fields)
  /-- FENCE_I (R374): FENCE.I drains the store buffer, discards the fetch-ahead window and refetches. -/
  | fenceI (c : Fin 5) (f : Fields)
  /-- SYSCALL (R402): SYSCALL raises the trap exception at vector 0xC0. -/
  | syscall (c : Fin 5) (f : Fields)
  /-- RETE (R414): RETE returns from an exception, or raises privilege-forge, or tail-chains to a pending higher level. -/
  | rete (c : Fin 5) (f : Fields)
  /-- WFI (R403): WFI waits until an interrupt request or a debug halt arrives. -/
  | wfi (c : Fin 5) (f : Fields)
  /-- FLUSHW (R366): FLUSHW spills every resident group below the live window. -/
  | flushw (c : Fin 5) (f : Fields)
  /-- BRK (R402): BRK raises the debug monitor exception. -/
  | brk (c : Fin 5) (f : Fields)
  /-- STORE_BUFFER_DRAIN (R357): A store buffer entry drains to memory in program order. -/
  | storeBufferDrain (c : Fin 5)
  /-- WINDOW_SPILL (R363): The spill engine stores the lowest resident group at WSP − 48, or stops with PEND_ERR on an invalid WSP. -/
  | windowSpill (c : Fin 5)
  /-- WINDOW_FILL (R363): The spill engine loads a spilled group back below the lowest resident one. -/
  | windowFill (c : Fin 5)
  /-- INTERRUPT_ENTRY (R411): A deliverable ICU request is taken at an instruction boundary, and the core enters the level vector. -/
  | interruptEntry (c : Fin 5)
  /-- ICU_SOURCE_EDGE (R419): A source edge latches the pending bit, merges with MRGCNT, or counts for its coalescing group. -/
  | icuSourceEdge (c : Fin 5) (src : Fin 512)
  /-- ICU_CLAIM (R422): A read of ICU_CLAIM claims the qualifying pending source and makes it active, or sets SPURIOUS. -/
  | icuClaim (r : Writer) (c : Fin 5)
  /-- ICU_EOI (R423): Writing the claimed word back to ICU_CLAIM clears the source's active bit, or sets EOI_ERR. -/
  | icuEoi (w : Writer) (c : Fin 5) (v : Word)
  /-- ICU_SWI (R425): A write of 1 to an ICU_SWI bit latches an edge on S112 + m. -/
  | icuSwi (w : Writer) (c : Fin 5) (v : Word)
  /-- ICU_GROUP_TIMEOUT (R424): A group's time limit expires, which latches its group source and clears COUNT. -/
  | icuGroupTimeout (c : Fin 5) (g : Fin 32)
  /-- DMA_START (R442): A write of CTL.START checks the configuration and starts the channel or refuses the start. -/
  | dmaStart (w : Writer) (n : Fin 16) (v : Word)
  /-- DMA_GSTART (R442): A write to DMA_GSTART starts the selected channels. -/
  | dmaGstart (w : Writer) (v : Word)
  /-- DMA_ABORT (R445): A write of CTL.ABORT stops the channel after the element being written and sets ABORTED. -/
  | dmaAbort (w : Writer) (n : Fin 16)
  /-- DMA_ABORTALL (R445): A write of 0xAB to DMA_ABORTALL aborts every channel. -/
  | dmaAbortall (w : Writer) (v : Word)
  /-- DMA_ELEMENT_READ (R440): The read engine reads one element of a busy channel into the buffer. -/
  | dmaElementRead (n : Fin 16)
  /-- DMA_ELEMENT_WRITE (R443): The write engine writes one element to its destination, and the last one sets DONE. -/
  | dmaElementWrite (n : Fin 16)
  /-- FLC_ALLOC (R458): A read of FLC_ALLOC allocates the lowest free descriptor slot. -/
  | flcAlloc (r : Writer)
  /-- FLC_FREE (R458): A write of FREE returns a slot in ALLOC or DONE to FREE. -/
  | flcFree (w : Writer) (k : Fin 16)
  /-- FLC_GO (R459): A write of GO checks the descriptor and queues it or ends it with a result. -/
  | flcGo (w : Writer) (k : Fin 16) (v : Word)
  /-- FLC_PROGRAM_UNIT_DONE (R461): One program unit completes after its blank check, or the descriptor stops with a failure. -/
  | flcProgramUnitDone (ok : Bool)
  /-- SFP_INSERTION (R479): A plugged module is detected, its identification is read, and it is accepted or refused. -/
  | sfpInsertion (p : Fin 2) (ident : List Byte) (readable : Bool)
  /-- PORT_UP (R480): Block lock has held for 10 ms, and the port becomes UP. -/
  | portUp (p : Fin 2)
  /-- PORT_DOWN (R480): Block lock or signal is lost for 4 µs, the port becomes DOWN, and a ring failover follows. -/
  | portDown (p : Fin 2)
  /-- FRAME_RECEIVE (R486): A received Plovkolu frame is checked, forwarded in cut-through, consumed or dropped. -/
  | frameReceive (p : Fin 2) (frame : List Byte)
  /-- DISCOVER (R494): A DISCOVER frame sets the position and host data, may assign the ID, and is answered. -/
  | discover (p : Fin 2) (frame : List Byte)
  /-- ASSIGN (R495): An ASSIGN frame naming this identity takes, withdraws or refuses a node ID and is answered. -/
  | assign (p : Fin 2) (frame : List Byte)
  /-- FAR_READ_REQUEST (R501): A FAR_RD request is performed element by element with the session's rights and answered. -/
  | farReadRequest (p : Fin 2) (frame : List Byte)
  /-- FAR_WRITE_REQUEST (R501): A FAR_WR request is performed element by element and answered with its status. -/
  | farWriteRequest (p : Fin 2) (frame : List Byte)
  /-- FAR_RESPONSE (R498): A far response with a matching TAG completes the stalled load, store or DMA element. -/
  | farResponse (p : Fin 2) (frame : List Byte)
  /-- FAR_TIMEOUT (R498): No response arrives within TMO, and the access ends as a fault with LAST = 8. -/
  | farTimeout (n : Fin 21)
  /-- FAB_WAKEPULSE (R503): A write of WAKEPULSE turns the port transmitter off for 2 ms. -/
  | fabWakepulse (w : Writer) (p : Fin 2)
  /-- WAKEPULSE_END (R503): After 2 ms the transmitter turns on again. -/
  | wakepulseEnd (p : Fin 2)
  /-- CYCLIC_FRAME (R514): A CYCLIC frame from the host is extracted and inserted in passing, and its set-points are applied once received good. -/
  | cyclicFrame (p : Fin 2) (frame : List Byte)
  /-- ECHO_REQUEST (R521): A received ECHO request is answered with its arrival and departure times. -/
  | echoRequest (p : Fin 2) (frame : List Byte)
  /-- ECHO_RESPONSE (R522): A received ECHO response updates the link delay and NEXCH. -/
  | echoResponse (p : Fin 2) (frame : List Byte)
  /-- SYNC_RECEIVE (R523): A received SYNC forms the offset, may set TIME_VALID and step or slew time, or sets LENERR. -/
  | syncReceive (p : Fin 2) (frame : List Byte)
  /-- MGMT_OPEN (R526): An OPEN frame is verified, keys are derived, and the slot opens with ACCEPT or is refused. -/
  | mgmtOpen (p : Fin 2) (frame : List Byte)
  /-- MGMT_CLOSE (R526): A CLOSE frame closes the session slot. -/
  | mgmtClose (p : Fin 2) (frame : List Byte)
  /-- MGMT_CYCKEY (R526): A CYCKEY frame installs a cyclic key that takes effect at its cycle number. -/
  | mgmtCyckey (p : Fin 2) (frame : List Byte)
  /-- MGMT_ATTEST (R574): An ATTEST frame is answered with a signed REPORT within 1 ms. -/
  | mgmtAttest (p : Fin 2) (frame : List Byte)
  /-- SESSION_IDLE_TIMEOUT (R527): A session without an accepted frame for IDLE seconds closes. -/
  | sessionIdleTimeout (n : Fin 16)
  /-- SESSION_CLOSE_WRITE (R527): A write of 0xC5 to FAB_SESSs_CLOSE closes the slot. -/
  | sessionCloseWrite (w : Writer) (n : Fin 16) (v : Word)
  /-- STO_INPUT_ASSERT (R55): An STO channel input stays below 5 V for 500 ns, the chain asserts, and the gates and brakes are off within 2 µs. -/
  | stoInputAssert (b : Bool)
  /-- STO_INPUT_RELEASE (R55): An STO channel input rises to at least 15 V, and the channel is released. -/
  | stoInputRelease (b : Bool)
  /-- SAF_FAULT_CLEAR (R540): Zenou-S clears a SAF_FAULT bit by W1C, and a DISC clear takes effect only with both channels asserted. -/
  | safFaultClear (w : Writer) (v : Word)
  /-- SAF_DECLARE (R541): Zenou-S writes DECLARE, which raises a safety fault and SAFE_STOP with code 1. -/
  | safDeclare (w : Writer)
  /-- SAF_HOLD_WRITE (R539): Zenou-S writes SAF_STOCTL.HOLD, which holds STO or starts the release delay. -/
  | safHoldWrite (w : Writer) (hold : Bool)
  /-- SAF_ACK (R548): Zenou-S writes SAF_ACK, which ends SAFE_STOP to STANDBY when the conditions hold, or sets ACK_ERR. -/
  | safAck (w : Writer)
  /-- MWDT_SERVICE (R549): A write to SAF_MWDT_SVC restarts the module watchdog, or expires it at once on a wrong value. -/
  | mwdtService (w : Writer) (v : Word)
  /-- CWD_SERVICE (R551): A write of 0xC3A5 to AON_CWDSVCn restarts the window watchdog, or resets the core when early. -/
  | cwdService (w : Writer) (n : Fin 4) (v : Word)
  /-- CWD_EXPIRE (R551): A core window watchdog expires and resets that core with cause WDT. -/
  | cwdExpire (n : Fin 4)
  /-- CRY_HASH (R568): CRY_CMD OP 1 hashes LEN bytes with SHA-256. -/
  | cryHash (w : Writer) (v : Word)
  /-- CRY_VERIFY (R568): CRY_CMD OP 2 verifies a signature against a key in memory. -/
  | cryVerify (w : Writer) (v : Word)
  /-- CRY_VERIFY_OWNER (R568): CRY_CMD OP 3 verifies a signature against an owner key slot. -/
  | cryVerifyOwner (w : Writer) (v : Word)
  /-- CRY_SIGN_DEV (R568): CRY_CMD OP 4 signs a digest with the device key. -/
  | crySignDev (w : Writer) (v : Word)
  /-- CRY_COMMIT (R569): CRY_CMD OP 5 checks a slot and programs a commit record for it. -/
  | cryCommit (w : Writer) (v : Word)
  /-- CRY_COMPACT (R570): CRY_CMD OP 6 erases inactive slots and P1 and rewrites records for the running slots. -/
  | cryCompact (w : Writer) (v : Word)
  /-- OTP_PROV (R568): CRY_CMD OP 7 provisions an owner key into an OTP slot. -/
  | otpProv (w : Writer) (v : Word)
  /-- OTP_REVOKE (R560): CRY_CMD OP 8 revokes an owner key, unless no usable key would remain. -/
  | otpRevoke (w : Writer) (v : Word)
  /-- OTP_EPOCH (R568): CRY_CMD OP 9 raises the rollback floor. -/
  | otpEpoch (w : Writer) (v : Word)
  /-- OTP_CFGSIG (R573): CRY_CMD OP 10 sets SEC_CFG_SIGNED permanently. -/
  | otpCfgsig (w : Writer) (v : Word)
  /-- PAD_RELEASE (R590): A write of 0xA5 to AON_PADREL releases the pad hold. -/
  | padRelease (w : Writer) (v : Word)
  /-- LBIST_DONE (R591): The patterns end, the signatures are compared, and APP_PASS and SAF_PASS are latched. -/
  | lbistDone (app saf : Bool)
  /-- DBG_HALT (R597): A write of DBG_Cn_CMD.HALT requests monitor entry at the next boundary, or keeps the request pending. -/
  | dbgHalt (w : Writer) (c : Fin 5)
  /-- VT_TXD_WRITE (R606): A core write to DBG_Cn_TXD sets TXFULL, or is discarded with TXOVF. -/
  | vtTxdWrite (w : Writer) (c : Fin 5) (v : Word)
  /-- VT_RXD_WRITE (R606): A debugger write to DBG_Cn_RXD sets RXFULL, or is discarded with RXOVF. -/
  | vtRxdWrite (w : Writer) (c : Fin 5) (v : Word)
  /-- VT_RXD_READ (R606): A core read of RXD returns the word and clears RXFULL. -/
  | vtRxdRead (r : Writer) (c : Fin 5)
  /-- EXTEST (R607): The EXTEST instruction drives contacts from the boundary register when authorised and in BOOT or STANDBY. -/
  | extest (boundary : List Bool)
  /-- MEMAP (R608): Update-DR of MEMAP issues one 6-byte debug access, and Capture-DR returns data and status. -/
  | memap (rd : Bool) (addr : Nat) (v : Word)
  /-- DBG_AUTH_VERIFY (R609): A write of CMD 0x5A to DBG_AUTHCMD starts verification of the debug signature. -/
  | dbgAuthVerify (w : Writer) (v : Word)
  /-- DBG_AUTH_WITHDRAW (R609): A write of CMD 0xC1 withdraws J-SVC authorisation. -/
  | dbgAuthWithdraw (w : Writer) (v : Word)
  /-- TST_CTL_WRITE (R613): A write to the TST registers is accepted only in the permitted modes, or refused with WR_REFUSED. -/
  | tstCtlWrite (w : Writer) (r : Fin 9) (v : Word)
  /-- FLASH_BUSY_STRETCH_END (R612): With FLCSTR active, the bank becomes readable again and the operation counts as ended only when the stretch after the operation runs out. -/
  | flashBusyStretchEnd (bank : Bool)
  /-- BLOCK_LOCK_CHANGE (R480): PCS block lock on a port is gained or lost, which changes STAT.LOCK and starts the 10 ms qualification before UP or the 4 µs qualification before DOWN. -/
  | blockLockChange (p : Fin 2) (lock : Bool)
  /-- SFP_REMOVAL (R479): A plugged SFP+ module is pulled from its cage, which clears PRESENT, IDOK and MEDIA. -/
  | sfpRemoval (p : Fin 2)
  /-- MAINS_APPLIED (R74): Mains is applied in OFF, and the module starts toward BOOT. -/
  | mainsApplied
  /-- BOOT_POR_RELEASE (R81): The housekeeping supply reaches regulation, the power-on reset releases and SYS_RSTCAUSE.POR is set. -/
  | bootPorRelease
  /-- BOOT_CLOCK_LOCK (R81): The crystal and clocks lock, and the boot ROM starts on Zenou-S. -/
  | bootClockLock
  /-- BOOT_JOURNAL_SCAN (R469): The ROM scans the erase journal, lists HALF_ERASED sectors in FLC_RECOVERY and queues their re-erase. -/
  | bootJournalScan
  /-- BOOT_SAFETY_IMAGE (R564): The Zenou-S slot is selected and verified and its image loaded, or BOOT holds under R83 when no slot verifies. -/
  | bootSafetyImage
  /-- BOOT_CONFIG_READ (R92): The configuration copy is chosen, its records are checked, CFGRPT is written and SYS_READY.CFG is set. -/
  | bootConfigRead
  /-- BOOT_TICK_START (R105): TICK starts at the configured frame, which is the first frame tick, and SYS_READY.TICK is set. -/
  | bootTickStart
  /-- BOOT_APP_IMAGE (R566): The application slot is selected, verified and copied into each I-SRAM. -/
  | bootAppImage
  /-- BOOT_DRAM_INIT (R435): DRAM zeroing completes and SYS_READY.DRAM is set. -/
  | bootDramInit
  /-- ADC_CALIBRATION_START (R172): The analogue references settle, and offset calibration starts with every stage off. -/
  | adcCalibrationStart
  /-- BOOT_CORE_RELEASE (R81): The Zenou-A cores are released at their reset vectors, and the mode becomes STANDBY. -/
  | bootCoreRelease
  /-- MAINS_LOST_OFF (R74): The housekeeping supply fails after mains is lost, and the module goes to OFF. -/
  | mainsLostOff
  /-- BROWNOUT (R95): A housekeeping brown-out with mains present causes an immediate module reset. -/
  | brownout
  /-- MODULE_RESET (R96): A deferred module reset is taken once the FLC operation ends, flushing queued descriptors and starting BOOT. -/
  | moduleReset
  /-- RESET_HARDCUT (R95): The 450 ms hard timer expires during a deferral, and the module resets with HARDCUT set. -/
  | resetHardcut
  /-- FRAME_TICK (R102): TICK_PHASE wraps, and at the frame tick bank swaps, set-point takes, slot releases and the cyclic window opening run in order. -/
  | frameTick
  /-- SYSTIME_NS_WRAP (R110): SYSTIME_NS passes 2^48 − 1, returns to 0 and increments SYSTIME_EPOCH. -/
  | systimeNsWrap
  /-- TIMER_GSTART_EVENT (R116): The GSTART task input starts the timers in TMR_GSTART_EV.MASK. -/
  | timerGstartEvent
  /-- LE_COMMIT_EVENT (R230): The LE commit task input requests a commit for the axes in LE_COMMIT_EV.MASK. -/
  | leCommitEvent
  /-- LEARN_RECORD_WRITE (R260): A 40-byte learning record is written to DRAM and counted, ending the capture with DONE at LEN. -/
  | learnRecordWrite
  /-- EVR_WINDOW_EXPIRE (R317): While TICK is not running, the 32-AON-cycle window ends and FIRECNT returns to 0. -/
  | evrWindowExpire
  /-- MAINS_LOSS (R330): No line peak above 60 V for 12 ms sets MAINSLOSS, stops the PFC and applies MLACT. -/
  | mainsLoss
  /-- MAINS_RETURN (R330): Three line cycles above 80 VAC clear MAINSLOSS and restart the PFC. -/
  | mainsReturn
  /-- BUS_REGULATION_SET (R329): The bus mean stays within 44–52 V for 1 ms, and SYS_READY.BUS sets. -/
  | busRegulationSet
  /-- BUS_REGULATION_LOST (R329): The bus mean stays outside 42–58 V for 100 µs, and SYS_READY.BUS clears. -/
  | busRegulationLost
  /-- ISO_CONVERTER_STOP (R328): The bulk falls below 280 V, and the isolated converter stops. -/
  | isoConverterStop
  /-- CHOPPER_ON (R333): The bus mean exceeds 56 V, and the brake chopper connects and sets CHOPON. -/
  | chopperOn
  /-- CHOPPER_OFF (R333): The bus mean falls below 54 V, and the chopper disconnects. -/
  | chopperOff
  /-- BUS_OVERVOLTAGE (R335): The bus mean exceeds 60 V, which sets OVBUS and enters SAFE_STOP in ARMED or RUN. -/
  | busOvervoltage
  /-- BUS_UNDERVOLTAGE (R336): The bus stays below 38 V for 10 µs in ARMED or RUN, which sets UVBUS and enters SAFE_STOP with cause 5. -/
  | busUndervoltage
  /-- AUX24_OVERCURRENT_OFF (R346): AUX24 above 0.75 A for 10 ms switches off and sets AUX_OFF. -/
  | aux24OvercurrentOff
  /-- DRAM_REFRESH (R439): DRAM refreshes itself every 3.9 µs and is busy for 160 ns. -/
  | dramRefresh
  /-- FLC_OP_START (R460): The next queued descriptor starts once the previous one has ended and no hold applies. -/
  | flcOpStart
  /-- FLC_PROGRAM_TIMEOUT (R461): A program unit does not complete within 25 µs, and the descriptor ends with FAIL. -/
  | flcProgramTimeout
  /-- FLC_ERASE_DONE (R462): A journalled erase completes and its end record is written. -/
  | flcEraseDone
  /-- FLC_ERASE_TIMEOUT (R462): An erase exceeds its maximum time and ends with FAIL without an end record. -/
  | flcEraseTimeout
  /-- FLC_COMPACTION (R468): The journal compacts the other sector before an erase when fewer than four units remain. -/
  | flcCompaction
  /-- NODE_ID_LOST (R496): Both ports are DOWN for 100 ms, the ID is lost, and the state goes to NOLINK. -/
  | nodeIdLost
  /-- FABRIC_WAKE_DETECT (R503): In DORMANT, signal returning after 1 ms of absence sets the fabric wake-pending latch. -/
  | fabricWakeDetect
  /-- CYCLIC_SNAPSHOT (R515): SNAP counts after the cycle tick, insert-mapped addresses are read into the insertion buffer, which sets SNAPRDY. -/
  | cyclicSnapshot
  /-- CYCLIC_WINDOW_CLOSE (R516): The window closes without a consumed frame, the cycle is lost, and at three in a row SAFE_STOP follows. -/
  | cyclicWindowClose
  /-- ECHO_SEND (R522): Every EPER ms the module sends an ECHO request on each UP port. -/
  | echoSend
  /-- SYNC_SEND (R520): A module that is master sends a TIME SYNC broadcast every SYNCPER. -/
  | syncSend
  /-- SYNC_TIMEOUT (R524): No SYNC is accepted for 4 × SYNCPER, and TIME_VALID clears. -/
  | syncTimeout
  /-- STO_CHAIN_RELEASE (R539): 1 ms after all release conditions hold, the chain releases and the gate-driver supplies return. -/
  | stoChainRelease
  /-- STO_DISCREPANCY (R540): One channel released and the other asserted for longer than SAF_DISC.TIME sets SAF_FAULT.DISC. -/
  | stoDiscrepancy
  /-- SS1_EXPIRE (R542): The SS1 timer expires, STO asserts and SAF_STATUS.SS1 clears. -/
  | ss1Expire
  /-- SAFE_STOP_ACK_TIMEOUT (R548): A SAFE_STOP-to-STANDBY request not acknowledged within 100 ms is refused with REASON 12. -/
  | safeStopAckTimeout
  /-- LOCKSTEP_MISMATCH (R535): The Zenou-S halves differ, STO asserts, both stop, and a LOCKSTEP reset is requested. -/
  | lockstepMismatch
  /-- MWDT_HALF (R553): Half of the module watchdog time passes without service, and S26 is raised. -/
  | mwdtHalf
  /-- MWDT_EXPIRE (R549): The module watchdog expires, STO asserts and an MWDT reset is requested. -/
  | mwdtExpire
  /-- CRY_JOB_DONE (R567): A CRY job ends, RESULT and DONE are set, and S108 is raised if enabled. -/
  | cryJobDone
  /-- DORMANT_ENTRY_COMPLETE (R581): The AON domain moves onto the standby converter, and the module is in DORMANT. -/
  | dormantEntryComplete
  /-- WAKE (R585): A wake source is active in an AON cycle of DORMANT, and exit begins with the sources recorded. -/
  | wake
  /-- WAKE_RESTORE (R588): The save image is restored and checked, or a WAKE_FAIL reset is taken. -/
  | wakeRestore
  /-- WAKE_COMPLETE (R587): Time is restored, TICK restarts, the cores resume and the mode becomes STANDBY. -/
  | wakeComplete
  /-- AON_TIMER_EXPIRE (R586): The AON timer reaches 0, which sets EXP, fires CH80 and clears EN. -/
  | aonTimerExpire
  /-- LBIST_START (R591): 5 ms into SHUTDOWN the logic BIST starts, aborting DMA and stopping cores and blocks. -/
  | lbistStart
  /-- LBIST_RECORD_WRITTEN (R592): The BIST record is programmed, and SHUTDOWN ends in OFF behaviour or DORMANT as END selects. -/
  | lbistRecordWritten
  /-- TAP_RESET (R61): TMS held high for five TCK edges resets the TAP. -/
  | tapReset
  /-- IDCODE (R607): The IDCODE instruction selects the 32-bit identification register. -/
  | idcode
  /-- SAMPLE_PRELOAD (R607): The SAMPLE/PRELOAD instruction selects the boundary register, in BOOT and STANDBY only. -/
  | samplePreload
  /-- BYPASS (R607): The BYPASS instruction selects the 1-bit register. -/
  | bypass
  /-- DBG_AUTH_DONE (R609): Verification ends, setting OK or counting a failure, with LOCKOUT after three. -/
  | dbgAuthDone
  /-- TICK_JITTER_DELIVERY (R612): With the JIT perturbation active, each frame tick reaches task slots, TICKRST timers and event channels CH0 and CH1 a pseudo-random 0–J counts after the true tick. -/
  | tickJitterDelivery
  /-- ISO_CONVERTER_START (R328): The bulk rises to 280 V or above, and the isolated converter starts again to regulate the motor bus. -/
  | isoConverterStart
  deriving DecidableEq, Repr

end Sys2Proof
end

