-- ==== Sys2Proof/Machine/Fixed.lean ====
section
/-! DEFINITION. Fixed-point arithmetic (R11, R209, R384): values are integers in units of their format's resolution; products
and quotients round to the nearest value, a tie upward; results saturate at the 48-bit limits. -/
namespace Sys2Proof.Machine

/-- The largest 48-bit signed value. -/
def max48 : Int := 2 ^ 47 - 1

/-- The smallest 48-bit signed value. -/
def min48 : Int := -2 ^ 47

/-- `v` held within the 48-bit range. -/
def sat48 (v : Int) : Int := if v > max48 then max48 else if v < min48 then min48 else v

/-- `num / den` rounded to the nearest integer, a tie upward, for a positive `den`. Log entry 52 (DEDUCED). -/
def rdiv (num : Int) (den : Nat) : Int := (2 * num + den) / (2 * den : Nat)

/-- `v / 2^n` rounded to the nearest integer, a tie upward. Log entry 52 (DEDUCED). -/
def rshift (v : Int) (n : Nat) : Int := rdiv v (2 ^ n)

/-- The signed value of a 48-bit number. -/
def signed48 (v : Nat) : Int := if v < 2 ^ 47 then (v : Int) else (v : Int) - (2 ^ 48 : Nat)

/-- `v` modulo 2^48, read as a signed value (POS48 differences, R221). -/
def wrap48 (v : Int) : Int := signed48 (v % (2 ^ 48 : Nat)).toNat

/-- `v` held within ±`m`. -/
def clampI (m v : Int) : Int := if v > m then m else if v < -m then -m else v

/-- One bit of a square root: the root `r` found so far, and bit `k`. -/
def sqrtBit (v r k : Nat) : Nat := if (r + 2 ^ k) * (r + 2 ^ k) ≤ v then r + 2 ^ k else r

/-- The floor of the square root of `v`, for `v` below 2^128 (R209). -/
def isqrt (v : Nat) : Nat := ((List.range 64).map (fun i => 63 - i)).foldl (fun r k => sqrtBit v r k) 0

/-- 2π in units of 2^-100. Log entry 52 (DEDUCED). -/
def twoPi100 : Int := 7964883625991394727376702227904

/-- 1/√3 in units of 2^-120. Log entry 52 (DEDUCED). -/
def invSqrt3 : Int := 767430141180807920271061082515018431

/-- √3/2 in units of 2^-120. Log entry 52 (DEDUCED). -/
def halfSqrt3 : Int := 1151145211771211880406591623772527646

/-- The alternating series `t - t x²/((k+1)(k+2)) + …` in units of 2^-100, of `n` terms. -/
def series : Nat → Int → Int → Nat → Int
  | 0, _, _, _ => 0
  | n + 1, t, x2, k => t + series n (-(t * x2 / 2 ^ 100) / ((k + 1) * (k + 2) : Nat)) x2 (k + 2)

/-- Sine and cosine of `r`/2^24 turn for `r` at most an eighth of a turn, in units of 2^-100. -/
def sinCos100 (r : Nat) : Int × Int :=
  let x := twoPi100 * r / 2 ^ 24
  let x2 := x * x / 2 ^ 100
  (series 16 x x2 1, series 16 (2 ^ 100) x2 0)

/-- Sine and cosine of `r`/2^24 turn for `r` in the first quarter turn, in units of 2^-30 (R209). -/
def sinCosQuarter (r : Nat) : Int × Int :=
  if r ≤ 2 ^ 21 then ((sinCos100 r).1, (sinCos100 r).2) |> fun p => (rshift p.1 70, rshift p.2 70)
  else (sinCos100 (2 ^ 22 - r)) |> fun p => (rshift p.2 70, rshift p.1 70)

/-- Sine and cosine of a 24-bit angle, the exact values rounded to the nearest multiple of 2^-30 (R209).
Log entry 52 (DEDUCED). -/
def sinCos (theta : Nat) : Int × Int :=
  let t := theta % 2 ^ 24
  let (s, c) := sinCosQuarter (t % 2 ^ 22)
  match t / 2 ^ 22 with
  | 0 => (s, c)
  | 1 => (c, -s)
  | 2 => (-s, -c)
  | _ => (-c, s)

/-! ### Arithmetic that notes saturation (FLAG.ARITH) -/

/-- A computation that notes whether a result saturated. -/
abbrev Ar (α : Type) := StateM Bool α

/-- `v` held within the 48-bit range, noting a saturation. -/
def Ar.sat (v : Int) : Ar Int := fun b => (sat48 v, b || sat48 v != v)

/-- A sum of 48-bit values (R209). -/
def Ar.add (a b : Int) : Ar Int := Ar.sat (a + b)

/-- A product with `n` fraction bits too many (R209). -/
def Ar.mul (a b : Int) (n : Nat) : Ar Int := Ar.sat (rshift (a * b) n)

/-- `v` held within the range of a format with 16 guard bits, noting a saturation (R209). -/
def Ar.guard (v : Int) : Ar Int := fun b =>
  let m : Int := 2 ^ 63
  let y := if v < -m then -m else if m - 1 < v then m - 1 else v
  (y, b || y != v)

/-- A quotient (R209). -/
def Ar.div (num : Int) (den : Nat) : Ar Int := Ar.sat (rdiv num den)

end Sys2Proof.Machine
end

