-- ==== Sys2Proof/Config.lean ====
section
/-! DEFINITION. What the spec leaves to the vendor, to an implementation or open: free values without a body.  Nothing in
Lean can evaluate one, so a claim holds whatever it is. -/
namespace Sys2Proof.Config

/-- A fresh value of the spec's silence: applied to `State.freeCtr`, which the step that uses it advances.
Log entry 15 (DESIGN CHOICE). -/
opaque freeWord : Nat → BitVec 48

/-- Boot ROM code bytes below the field catalogue (R35; contents not given). Log entry 16 (DESIGN CHOICE). -/
opaque romCode : Nat → BitVec 8

/-- The FIELD number the vendor wants for a catalogue field (R89), by the field's place in the register maps; the catalogue gives
it, or the next number that no other field of the block has. Log entry 16 (DESIGN CHOICE). -/
opaque fieldNumber : Nat → Nat

/-- The module's serial identity as FAB_IDENT reads it (R506, "serial"). Log entry 16 (DESIGN CHOICE). -/
opaque serial : BitVec 48

/-- ECDSA P-256 verification: public key (64 bytes), digest (32 bytes), signature (64 bytes). Log entry 16 (DESIGN CHOICE). -/
opaque ecdsaVerify : List (BitVec 8) → List (BitVec 8) → List (BitVec 8) → Bool

/-- ECDSA P-256 signature with the device key (R560): digest to 64 bytes. Log entry 16 (DESIGN CHOICE). -/
opaque ecdsaSignDev : List (BitVec 8) → List (BitVec 8)

/-- The device's public key, 64 bytes. Log entry 16 (DESIGN CHOICE). -/
opaque devicePublicKey : List (BitVec 8)

/-- ECDH P-256 with a fresh module key pair: the `n`-th ephemeral public key, 64 bytes. Log entry 16 (DESIGN CHOICE). -/
opaque ephemeralPublic : Nat → List (BitVec 8)

/-- ECDH P-256: the shared secret (32 bytes) of the `n`-th ephemeral key with a peer's public key (64 bytes).
Log entry 16 (DESIGN CHOICE). -/
opaque ecdhShared : Nat → List (BitVec 8) → List (BitVec 8)

/-- A flash byte that a failed or cut operation left (R472): the draw of that operation and the address.
Log entries 15 (DESIGN CHOICE), 73 (DESIGN CHOICE). -/
opaque tornByte : Nat → Nat → BitVec 8

/-- Whether a program unit that a failed or cut operation left reads with an uncorrectable error (R472).
Log entry 73 (DESIGN CHOICE). -/
opaque tornEcc : Nat → Nat → Bool

/-- The vendor's public key, in OTP slot 0 at manufacture (R559), 64 bytes. Log entry 16 (DESIGN CHOICE). -/
opaque vendorKey : List (BitVec 8)

/-- What a safety parameter block (R534, its bytes; the layout is not given) allows for a safety-owned catalogue field, by the
field's place in the register maps and the instance: nothing where the field is not configurable, else its limits.
Log entries 28 (DESIGN CHOICE), 128 (DESIGN CHOICE). -/
opaque safetyLimits : List (BitVec 8) → Nat → Nat → Option (Int × Int)

/-- The setting that a safety parameter block (R534) holds for the SP register at an address. Log entry 128 (DESIGN CHOICE). -/
opaque safetySetting : List (BitVec 8) → Nat → BitVec 48

/-- A random byte string: the `n`-th draw, of the stated length (nonces and challenges). Log entry 15 (DESIGN CHOICE). -/
opaque random : Nat → Nat → List (BitVec 8)

/-- The address that the module derives from its identity (R506), before the locally administered bits are set.
Log entry 16 (DESIGN CHOICE). -/
opaque localMac : BitVec 48

/-- The destination address of originated frames before any DISCOVER has given the host's (R481). Log entry 16 (DESIGN CHOICE). -/
opaque noHostMac : BitVec 48

end Sys2Proof.Config
end

