-- ==== Sys2Proof/Machine/Field.lean ====
section
/-! DEFINITION. Register fields (R7, R13): a field is an address, its lowest bit and its width.  The bits of a field are
cut out of a word and put back into one by the two operations here.  `RegRow` and `FieldRow` are the form of the register
maps (R15). -/
namespace Sys2Proof.Machine

/-- A field: the bus address of its register, its lowest bit and its width. -/
structure Fld where
  addr : Nat
  lo : Nat
  w : Nat
  deriving DecidableEq, Repr

/-- The mask of the low `n` bits. -/
def maskW (n : Nat) : Word := BitVec.ofNat 48 (2 ^ n - 1)

/-- Bits `lo + w - 1 : lo` of a word, as a number. -/
def getBits (x : Word) (lo w : Nat) : Nat := ((x >>> lo) &&& maskW w).toNat

/-- `x` with bits `lo + w - 1 : lo` replaced by the low `w` bits of `v`. -/
def setBits (x : Word) (lo w v : Nat) : Word :=
  (x &&& ~~~(maskW w <<< lo)) ||| ((BitVec.ofNat 48 v &&& maskW w) <<< lo)

/-- The two's-complement reading of the low `w` bits of `v`. -/
def sgnOf (w v : Nat) : Int := if v < 2 ^ (w - 1) then (v : Int) else (v : Int) - (2 ^ w : Nat)

/-- The 48-bit word of an integer, modulo 2^48. -/
def wordOf (i : Int) : Word := BitVec.ofInt 48 i

/-- Access codes of R16: read-write, read-only, write-only, write-one-to-clear, writable only by the safety partition,
read-write until locked, and the two SP combinations of the SAF map. -/
inductive Access where
  | rw | ro | wo | w1c | sp | rwlk | w1csp | wosp
  deriving DecidableEq, Repr

/-- One field of a register map (R15): bits, access code, reset value (for a `cfg` field its catalogue default), Kept flag,
and for a field with a stated range the range (R89): minimum, maximum, signed format, and whether the catalogue holds it. -/
structure FieldRow where
  lo : Nat
  w : Nat
  acc : Access
  reset : Nat
  kept : Bool
  range : Option (Int × Int) := none
  signed : Bool := false
  cfg : Bool := false
  deriving DecidableEq, Repr

/-- A field with a fixed reset value. -/
def fx (lo w : Nat) (acc : Access) (reset : Nat) (kept : Bool) : FieldRow := { lo, w, acc, reset, kept }

/-- A `cfg` field with its catalogue default and range (unsigned format). -/
def cf (lo w : Nat) (acc : Access) (dflt : Nat) (kept : Bool) (mn mx : Int) : FieldRow :=
  { lo, w, acc, reset := dflt, kept, range := some (mn, mx), cfg := true }

/-- A `cfg` field with its catalogue default and range (signed format). -/
def cs (lo w : Nat) (acc : Access) (dflt : Nat) (kept : Bool) (mn mx : Int) : FieldRow :=
  { lo, w, acc, reset := dflt, kept, range := some (mn, mx), signed := true, cfg := true }

/-- A field with a fixed reset value and a stated range. -/
def rg (lo w : Nat) (acc : Access) (reset : Nat) (kept : Bool) (mn mx : Int) : FieldRow :=
  { lo, w, acc, reset, kept, range := some (mn, mx) }

/-- One register of a map: the address of its first instance, the (stride, count) of its instance indices, outermost
first, and its fields. -/
structure RegRow where
  base : Nat
  dims : List (Nat × Nat)
  fields : List FieldRow
  deriving DecidableEq, Repr

/-- Whether offset `d` from the first instance is the offset of an instance. -/
def dimsHit : List (Nat × Nat) → Nat → Bool
  | [], d => d == 0
  | (st, cnt) :: r, d => decide (d / st < cnt) && dimsHit r (d % st)

/-- Whether address `a` is an instance of the register. -/
def RegRow.hit (r : RegRow) (a : Nat) : Bool := decide (r.base ≤ a) && dimsHit r.dims (a - r.base)

/-- The first row of a map whose register lies at `a`. -/
def findRow (rows : List RegRow) (a : Nat) : Option RegRow := rows.find? (fun r => r.hit a)

/-- The reset word of a register: each field at its reset value, reserved bits 0. -/
def rowReset (fs : List FieldRow) : Word := fs.foldl (fun w f => setBits w f.lo f.w f.reset) 0

/-- The word `w` with only the Kept fields, the others at their reset values (R15). -/
def keepRow (fs : List FieldRow) (w : Word) : Word :=
  fs.foldl (fun x f => setBits x f.lo f.w (if f.kept then getBits w f.lo f.w else f.reset)) 0

/-- Whether a written field value lies in the field's range (a reserved encoding does not, R18). -/
def FieldRow.inRange (f : FieldRow) (v : Nat) : Bool :=
  match f.range with
  | none => true
  | some (mn, mx) =>
    let x : Int := if f.signed then sgnOf f.w v else v
    decide (mn ≤ x) && decide (x ≤ mx)

/-- A word whose bit `i` is `f i`. -/
def bitsWord (n : Nat) (f : Nat → Bool) : Word :=
  (List.range n).foldl (fun w i => if f i then w ||| (BitVec.ofNat 48 (2 ^ i)) else w) 0

end Sys2Proof.Machine
end

