-- ==== Sys2Proof/Machine/RegMap.lean ====
section
/-! DEFINITION. The register maps as data: for every register its address, the strides of its instances and, for every
field, the bits, the access code (R16), the reset value (R15; a `cfg` field's catalogue default, R89) and the Kept flag.
Reserved bits have no field: they read 0 and ignore writes (R18). -/
namespace Sys2Proof.Machine

/-- Register map rows of block SYS. -/
def regRowsSYS : List RegRow := [
  ⟨0x08000000, [], [fx 0 8 .ro 0x43 true, fx 16 16 .ro 0x24 true]⟩, -- SYS_ID
  ⟨0x08000008, [], [fx 0 3 .ro 2 true]⟩, -- SYS_MODE
  ⟨0x08000010, [], [fx 0 3 .rw 0 false, fx 4 1 .rw 0 false]⟩, -- SYS_MODEREQ
  ⟨0x08000018, [], [fx 0 1 .ro 0 false, fx 1 1 .w1c 0 false, fx 2 1 .w1c 0 false, fx 3 1 .ro 0 false, fx 4 4 .ro 0 false, fx 8 3 .ro 0 true, fx 11 3 .ro 0 true, fx 16 3 .ro 0 true]⟩, -- SYS_MODESTAT
  ⟨0x08000020, [], [fx 0 1 .ro 0 false, fx 1 1 .ro 0 false, fx 2 1 .ro 0 false, fx 3 1 .ro 0 false, fx 4 1 .ro 0 false, fx 5 1 .ro 0 false, fx 6 1 .ro 0 false, fx 7 1 .ro 0 false, fx 8 4 .ro 0 false, fx 12 1 .ro 0 false, fx 13 1 .ro 0 false, fx 14 1 .ro 0 false]⟩, -- SYS_READY
  ⟨0x08000028, [], [fx 0 15 .w1c 0 false]⟩, -- SYS_READYCHG
  ⟨0x08000030, [], [fx 0 1 .ro 0 true, fx 1 1 .ro 0 true, fx 2 1 .ro 0 true, fx 3 1 .ro 0 true, fx 4 1 .ro 0 true, fx 5 1 .ro 0 true, fx 6 1 .ro 0 true, fx 7 1 .ro 0 true, fx 8 1 .ro 0 true, fx 9 1 .ro 0 true, fx 10 1 .ro 0 true]⟩, -- SYS_RSTCAUSE
  ⟨0x08000038, [], [fx 0 48 .ro 0 true]⟩, -- SYS_RSTCAUSE_PREV
  ⟨0x08000040, [], [fx 0 16 .ro 0 true, fx 16 16 .ro 0 true, fx 32 16 .ro 0 true]⟩, -- SYS_RSTCNT
  ⟨0x08000048, [], [fx 0 8 .wo 0 false]⟩, -- SYS_RSTREQ
  ⟨0x08000050, [], [fx 0 4 .rw 0 false, fx 4 1 .ro 0 false]⟩, -- SYS_CORERST
  ⟨0x08000058, [], [fx 0 1 .w1c 0 true, fx 1 1 .w1c 0 true, fx 2 1 .w1c 0 true, fx 4 1 .w1c 0 true, fx 5 1 .w1c 0 true, fx 6 1 .w1c 0 true, fx 8 1 .w1c 0 true, fx 9 1 .w1c 0 true, fx 10 1 .w1c 0 true, fx 12 1 .w1c 0 true, fx 13 1 .w1c 0 true, fx 14 1 .w1c 0 true]⟩, -- SYS_CORECAUSE
  ⟨0x08000060, [], [fx 0 1 .ro 0 true, fx 1 1 .ro 0 true, fx 2 1 .ro 0 true, fx 3 1 .ro 0 true, fx 4 1 .ro 0 true, fx 5 1 .ro 0 true, fx 6 10 .ro 0 true]⟩, -- SYS_BOOTSTAT
  ⟨0x08000068, [], [fx 0 1 .ro 0 true, fx 1 1 .ro 0 true, fx 2 1 .ro 0 true]⟩, -- SYS_LBIST
  ⟨0x08000078, [], [fx 0 16 .wo 0 false]⟩ -- SYS_KEY
  ]

/-- Register map rows of block CFGRPT. -/
def regRowsCFGRPT : List RegRow := [
  ⟨0x08010000, [], [fx 0 1 .ro 0 true, fx 1 2 .ro 0 true, fx 3 1 .ro 0 true, fx 4 1 .ro 0 true, fx 5 1 .ro 0 true, fx 6 1 .ro 0 true, fx 7 1 .ro 0 true, fx 8 1 .ro 0 true, fx 9 13 .ro 0 true]⟩, -- CFGRPT_STATUS
  ⟨0x08010008, [], [fx 0 32 .ro 0 true]⟩, -- CFGRPT_SEQ
  ⟨0x08010010, [], [fx 0 12 .ro 0 true, fx 12 12 .ro 0 true, fx 24 12 .ro 0 true, fx 36 12 .ro 0 true]⟩, -- CFGRPT_COUNT1
  ⟨0x08010018, [], [fx 0 12 .ro 0 true, fx 12 12 .ro 0 true, fx 24 12 .ro 0 true]⟩, -- CFGRPT_COUNT2
  ⟨0x08010020, [(0x8, 6)], [fx 0 48 .ro 0 true]⟩, -- CFGRPT_DIGEST
  ⟨0x08010100, [(0x8, 4096)], [fx 0 10 .ro 0 true, fx 12 3 .ro 0 true, fx 15 1 .ro 0 true, fx 16 8 .ro 0 true, fx 24 16 .ro 0 true, fx 40 8 .ro 0 true]⟩ -- CFGRPT_ENTRY
  ]

/-- Register map rows of block TICK. -/
def regRowsTICK : List RegRow := [
  ⟨0x08020000, [], [fx 0 1 .rw 0 true, fx 1 2 .rw 0 true]⟩, -- TICK_CTL
  ⟨0x08020008, [], [cf 0 20 .rw 0x927C true (3750) (750000)]⟩, -- TICK_FRAME
  ⟨0x08020010, [], [cf 0 4 .rw 1 true (0) (15)]⟩, -- TICK_FCYC
  ⟨0x08020018, [], [fx 0 1 .ro 0 false, fx 1 6 .ro 0 false, fx 7 1 .w1c 0 false, fx 8 1 .w1c 0 false, fx 9 1 .w1c 0 false, fx 10 1 .ro 0 false, fx 11 1 .ro 0 false]⟩, -- TICK_STATUS
  ⟨0x08020020, [], [fx 0 48 .ro 0 false]⟩, -- TICK_FRAMECNT
  ⟨0x08020028, [], [fx 0 4 .ro 0 false]⟩, -- TICK_FRAMENO
  ⟨0x08020030, [], [fx 0 20 .ro 0 false]⟩, -- TICK_PHASE
  ⟨0x08020038, [], [fx 0 48 .ro 0 true]⟩, -- SYSTIME_NS
  ⟨0x08020040, [], [fx 0 32 .ro 0 true]⟩, -- SYSTIME_EPOCH
  ⟨0x08020048, [], [fx 0 16 .wo 0 false]⟩, -- TICK_DONE
  ⟨0x08020050, [], [fx 0 16 .w1c 0 false, fx 16 6 .ro 0 false, fx 22 1 .ro 0 false]⟩, -- TICK_OVR
  ⟨0x08020100, [(0x8, 16)], [cf 0 1 .rw 0 true (0) (1), cf 1 2 .rw 0 true (0) (3), cf 3 4 .rw 0 true (0) (15), cf 7 4 .rw 0 true (0) (15), fx 16 1 .ro 0 false, fx 24 8 .rw 0 false]⟩ -- TICK_SLOT
  ]

/-- Register map rows of block TMR. -/
def regRowsTMR : List RegRow := [
  ⟨0x08030000, [], [fx 0 16 .wo 0 false]⟩, -- TMR_GSTART
  ⟨0x08030008, [], [fx 0 16 .wo 0 false]⟩, -- TMR_GSTOP
  ⟨0x08030010, [], [cf 0 16 .rw 0 true (0) (65535), cf 16 1 .rw 0 true (0) (1)]⟩, -- TMR_GSTART_EV
  ⟨0x08030018, [], [fx 0 16 .ro 0 false]⟩, -- TMR_RUN
  ⟨0x08030400, [(0x80, 16)], [fx 0 1 .rw 0 true, fx 1 2 .rw 0 true, cf 3 1 .rw 0 true (0) (1), cf 4 4 .rw 0 true (0) (15), cf 8 1 .rw 0 true (0) (1), cf 9 1 .rw 0 true (0) (1), cf 10 16 .rw 0 true (0) (65535)]⟩, -- TMR_T_CTL
  ⟨0x08030408, [(0x80, 16)], [fx 0 48 .rw 0 false]⟩, -- TMR_T_COUNT
  ⟨0x08030410, [(0x80, 16)], [cf 0 48 .rw 0 true (0) (281474976710655)]⟩, -- TMR_T_RELOAD
  ⟨0x08030418, [(0x80, 16), (0x8, 4)], [cf 0 48 .rw 0 true (0) (281474976710655)]⟩, -- TMR_T_CMP
  ⟨0x08030438, [(0x80, 16)], [fx 0 48 .ro 0 false]⟩, -- TMR_T_CAP0
  ⟨0x08030440, [(0x80, 16)], [fx 0 48 .ro 0 false]⟩, -- TMR_T_CAP1
  ⟨0x08030448, [(0x80, 16), (0x8, 2)], [fx 0 1 .ro 0 false, fx 1 3 .ro 0 false, fx 4 4 .rw 0 false]⟩, -- TMR_T_CAPINFO
  ⟨0x08030458, [(0x80, 16)], [fx 0 4 .w1c 0 false, fx 4 1 .w1c 0 false, fx 5 1 .w1c 0 false, fx 6 1 .w1c 0 false, fx 7 4 .ro 0 false, fx 11 1 .w1c 0 false, fx 12 1 .ro 0 false, fx 13 1 .ro 0 false]⟩, -- TMR_T_FLAG
  ⟨0x08030460, [(0x80, 16)], [cf 0 14 .rw 0 true (0) (16383)]⟩ -- TMR_T_IEN
  ]

/-- Register map rows of block PWM. -/
def regRowsPWM : List RegRow := [
  ⟨0x08040000, [], [fx 0 1 .rw 0 true, fx 1 2 .rw 0 true]⟩, -- PWM_CTL
  ⟨0x08040008, [], [fx 0 24 .ro 0 false]⟩, -- PWM_TRIPSUM
  ⟨0x08040100, [(0x40, 6)], [cf 0 1 .rw 0 true (0) (1), cf 1 2 .rw 2 true (0) (2), cf 3 1 .rw 1 true (0) (1), cf 4 1 .rw 1 true (0) (1)]⟩, -- PWM_Q_CTL
  ⟨0x08040108, [(0x40, 6)], [cf 0 15 .rw 0xEA6 true (1875) (18750)]⟩, -- PWM_Q_PERIOD
  ⟨0x08040110, [(0x40, 6)], [cf 0 16 .rw 0 true (0) (37499)]⟩, -- PWM_Q_PHASE
  ⟨0x08040118, [(0x40, 6)], [cf 0 10 .rw 0x48 true (0) (600)]⟩, -- PWM_Q_DT
  ⟨0x08040120, [(0x40, 6)], [cf 0 8 .rw 8 true (1) (255), cf 8 10 .rw 0x96 true (30) (750)]⟩, -- PWM_Q_BOOT
  ⟨0x08040128, [(0x40, 6)], [fx 0 1 .ro 0 false, fx 1 1 .ro 0 false, fx 2 1 .w1c 0 false, fx 3 1 .ro 0 false]⟩, -- PWM_Q_STATUS
  ⟨0x08040130, [(0x40, 6)], [fx 0 16 .ro 0 false, fx 16 1 .ro 0 false]⟩, -- PWM_Q_CNT
  ⟨0x08040138, [(0x40, 6)], [fx 0 4 .rw 0 false]⟩, -- PWM_Q_SWTRIP
  ⟨0x08040800, [(0x40, 24)], [fx 0 20 .rw 0 false]⟩, -- PWM_AX_DUTYU
  ⟨0x08040808, [(0x40, 24)], [fx 0 20 .rw 0 false]⟩, -- PWM_AX_DUTYV
  ⟨0x08040810, [(0x40, 24)], [fx 0 20 .rw 0 false]⟩, -- PWM_AX_DUTYW
  ⟨0x08040818, [(0x40, 24)], [cf 0 1 .rw 0 true (0) (1), cf 1 1 .rw 0 true (0) (1), cf 2 2 .rw 0 true (0) (3), cf 4 2 .rw 0 true (0) (3), cf 6 2 .rw 0 true (0) (3)]⟩, -- PWM_AX_CTL
  ⟨0x08040820, [(0x40, 24)], [fx 0 1 .ro 0 false, fx 1 1 .ro 0 false, fx 2 1 .ro 0 false, fx 3 1 .w1c 0 false, fx 4 1 .w1c 0 false, fx 5 1 .w1c 0 false, fx 6 3 .w1c 0 false, fx 9 1 .ro 0 false, fx 10 1 .w1c 0 false]⟩, -- PWM_AX_STATUS
  ⟨0x08040828, [(0x40, 24)], [fx 0 8 .rw 0 false, fx 8 16 .rw 0 false, fx 24 16 .rw 0 false]⟩ -- PWM_AX_CNT
  ]

/-- Register map rows of block ADC. -/
def regRowsADC : List RegRow := [
  ⟨0x08050000, [], [fx 0 1 .rw 0 true, fx 1 2 .rw 0 true, cf 8 8 .rw 0x19 true (1) (255), cf 16 8 .rw 8 true (1) (255)]⟩, -- ADC_CTL
  ⟨0x08050008, [], [fx 0 1 .ro 0 true, fx 1 1 .ro 0 false, fx 2 1 .ro 0 true, fx 3 1 .ro 0 true, fx 4 1 .w1c 0 false]⟩, -- ADC_STATUS
  ⟨0x08050010, [], [fx 0 8 .wo 0 false]⟩, -- ADC_CALREQ
  ⟨0x08050018, [], [fx 0 24 .ro 0 true, fx 24 6 .ro 0 true]⟩, -- ADC_CALERR
  ⟨0x08050100, [(0x40, 6)], [cf 0 16 .rw 0 true (0) (65535), cf 16 16 .rw 0xEA6 true (0) (65535), cf 32 1 .rw 1 true (0) (1)]⟩, -- ADC_Q_SAMP
  ⟨0x08050108, [(0x40, 6)], [fx 0 1 .ro 0 false, fx 1 1 .ro 0 false, fx 2 1 .w1c 0 false]⟩, -- ADC_Q_STATUS
  ⟨0x08050110, [(0x40, 6)], [fx 0 48 .ro 0 false]⟩, -- ADC_Q_VBUS
  ⟨0x08050118, [(0x40, 6)], [fx 0 48 .ro 0 false]⟩, -- ADC_Q_TQ
  ⟨0x08050120, [(0x40, 6)], [fx 0 48 .ro 0 false]⟩, -- ADC_Q_XIN
  ⟨0x08050128, [(0x40, 6)], [fx 0 48 .ro 0 false]⟩, -- ADC_Q_ENC5V
  ⟨0x08050130, [(0x40, 6)], [fx 0 4 .ro 0 false, fx 4 1 .ro 1 false]⟩, -- ADC_Q_AUXSTAT
  ⟨0x08050800, [(0x40, 24)], [fx 0 48 .ro 0 false]⟩, -- ADC_AX_IU
  ⟨0x08050808, [(0x40, 24)], [fx 0 48 .ro 0 false]⟩, -- ADC_AX_IV
  ⟨0x08050810, [(0x40, 24)], [fx 0 48 .ro 0 false]⟩, -- ADC_AX_IW
  ⟨0x08050818, [(0x40, 24)], [fx 0 1 .ro 0 false, fx 1 1 .ro 0 false, fx 8 7 .ro 0 false, fx 16 16 .ro 0 false]⟩, -- ADC_AX_ISTAT
  ⟨0x08050820, [(0x40, 24)], [fx 0 1 .w1c 0 false, fx 1 1 .w1c 0 false, fx 2 1 .w1c 0 false, fx 3 1 .w1c 0 false, fx 4 1 .ro 0 true, fx 5 1 .ro 0 true, fx 6 1 .ro 0 true, fx 7 1 .ro 0 true, fx 8 1 .ro 0 true]⟩, -- ADC_AX_FLAG
  ⟨0x08050828, [(0x40, 24)], [fx 0 16 .ro 0 true, fx 16 16 .ro 0 true]⟩, -- ADC_AX_OFS
  ⟨0x08050830, [(0x40, 24)], [fx 0 24 .ro 0 true, fx 24 24 .ro 0 true]⟩, -- ADC_AX_GAIN
  ⟨0x08050838, [(0x40, 24)], [fx 0 14 .ro 0 false, fx 16 14 .ro 0 false]⟩ -- ADC_AX_RAW
  ]

/-- Register map rows of block CMP. Log entry 144 (DEDUCED). -/
def regRowsCMP : List RegRow := [
  ⟨0x08060000, [], [fx 0 1 .rw 0 true, fx 1 2 .rw 0 true]⟩, -- CMP_CTL
  ⟨0x08060010, [], [fx 0 48 .ro 0 false]⟩, -- CMP_LATSUM0
  ⟨0x08060018, [], [fx 0 10 .ro 0 false]⟩, -- CMP_LATSUM1
  ⟨0x08060020, [], [fx 0 8 .wo 0 false]⟩, -- CMP_CLRALL
  ⟨0x08060040, [(0x8, 4)], [cf 0 24 .sp 0 true (0) (16777215)]⟩, -- CMP_EXT_ROUTE
  ⟨0x08060100, [(0x20, 48)], [cf 0 10 .sp 0x3C0 true (0) (1023), cf 16 10 .sp 0x40 true (0) (1023)]⟩, -- CMP_CH_THR
  ⟨0x08060700, [(0x20, 6)], [cf 0 10 .sp 0x2EE true (0) (1023), cf 16 10 .sp 0x1DB true (0) (1023)]⟩, -- CMP_CH_THR
  ⟨0x080607C0, [(0x20, 4)], [cf 0 10 .sp 0x3FF true (0) (1023), cf 16 10 .sp 0 true (0) (1023)]⟩, -- CMP_CH_THR
  ⟨0x08060108, [(0x20, 48)], [cf 0 1 .sp 1 true (0) (1), cf 1 1 .sp 1 true (0) (1), cf 2 1 .sp 1 true (0) (1), cf 3 2 .sp 1 true (0) (2), cf 5 4 .sp 5 true (0) (15), cf 9 4 .sp 0 true (0) (15), cf 13 9 .sp 0x2D true (0) (375), cf 22 1 .sp 0 true (0) (1), cf 23 20 .sp 0 true (0) (1048575)]⟩, -- CMP_CH_CFG
  ⟨0x08060708, [(0x20, 6)], [cf 0 1 .sp 1 true (0) (1), cf 1 1 .sp 0 true (0) (1), cf 2 1 .sp 1 true (0) (1), cf 3 2 .sp 0 true (0) (2), cf 5 4 .sp 5 true (0) (15), cf 9 4 .sp 0 true (0) (15), cf 13 9 .sp 0x2D true (0) (375), cf 22 1 .sp 0 true (0) (1), cf 23 20 .sp 0 true (0) (1048575)]⟩, -- CMP_CH_CFG
  ⟨0x080607C8, [(0x20, 4)], [cf 0 1 .sp 0 true (0) (1), cf 1 1 .sp 0 true (0) (1), cf 2 1 .sp 1 true (0) (1), cf 3 2 .sp 0 true (0) (2), cf 5 4 .sp 0 true (0) (15), cf 9 4 .sp 0 true (0) (15), cf 13 9 .sp 0x2D true (0) (375), cf 22 1 .sp 0 true (0) (1), cf 23 20 .sp 0 true (0) (1048575)]⟩, -- CMP_CH_CFG
  ⟨0x08060110, [(0x20, 58)], [fx 0 1 .ro 0 false, fx 1 1 .w1c 0 false, fx 2 1 .w1c 0 false, fx 3 1 .w1c 0 false, fx 4 1 .w1c 0 false, fx 5 1 .w1c 0 false, fx 6 1 .ro 0 false, fx 7 1 .w1c 0 false, fx 8 1 .w1c 0 false, fx 16 8 .rw 0 false]⟩, -- CMP_CH_STAT
  ⟨0x08060118, [(0x20, 58)], [cf 0 9 .rw 0 true (0) (511)]⟩ -- CMP_CH_IEN
  ]

/-- Register map rows of block LE. -/
def regRowsLE0 : List RegRow := [
  ⟨0x08070000, [], [fx 0 1 .rw 0 true, fx 1 2 .rw 0 true, fx 3 1 .rw 0 true]⟩, -- LE_CTL
  ⟨0x08070008, [], [fx 0 24 .wo 0 false]⟩, -- LE_PARAM_COMMIT
  ⟨0x08070010, [], [fx 0 24 .ro 0 false]⟩, -- LE_COMMIT_PEND
  ⟨0x08070018, [], [cf 0 24 .rw 0 true (0) (16777215), cf 24 1 .rw 0 true (0) (1)]⟩, -- LE_COMMIT_EV
  ⟨0x08070020, [], [fx 0 6 .ro 0 false]⟩, -- LE_STATUS
  ⟨0x08070100, [(0x40, 6)], [fx 0 1 .ro 0 false, fx 1 1 .ro 0 false, fx 2 1 .ro 0 false, fx 3 1 .ro 0 false, fx 4 1 .ro 0 false, fx 5 1 .ro 0 false, fx 6 1 .w1c 0 false, fx 7 1 .w1c 0 false, fx 8 1 .w1c 0 false, fx 9 1 .w1c 0 false]⟩, -- LE_Q_STATUS
  ⟨0x08070108, [(0x40, 6)], [fx 0 16 .rw 0 false]⟩, -- LE_Q_OVRCNT
  ⟨0x08070110, [(0x40, 6)], [fx 0 16 .ro 0 false, fx 16 16 .ro 0 false]⟩, -- LE_Q_LOAD
  ⟨0x08071000, [(0x400, 24)], [cf 0 1 .rw 0 true (0) (1), cf 1 1 .rw 0 true (0) (1), cf 2 1 .rw 0 true (0) (1), cf 3 2 .rw 0 true (0) (2), cf 5 1 .rw 0 true (0) (1)]⟩, -- LE_AX_CTL
  ⟨0x08071008, [(0x400, 24)], [fx 0 48 .rw 0 false]⟩, -- LE_AX_SP_POS
  ⟨0x08071010, [(0x400, 24)], [fx 0 48 .rw 0 false]⟩, -- LE_AX_SP_VEL
  ⟨0x08071018, [(0x400, 24)], [fx 0 48 .rw 0 false]⟩, -- LE_AX_SP_ACC
  ⟨0x08071020, [(0x400, 24)], [fx 0 48 .rw 0 false]⟩, -- LE_AX_SP_IQ
  ⟨0x08071028, [(0x400, 24)], [fx 0 48 .rw 0 false]⟩, -- LE_AX_SP_ID
  ⟨0x08071030, [(0x400, 24)], [fx 0 1 .ro 0 false, fx 1 1 .w1c 0 false, fx 8 8 .rw 0 false]⟩, -- LE_AX_SPSTAT
  ⟨0x08071040, [(0x400, 24)], [fx 0 48 .ro 0 false]⟩, -- LE_AX_ID
  ⟨0x08071048, [(0x400, 24)], [fx 0 48 .ro 0 false]⟩, -- LE_AX_IQ
  ⟨0x08071050, [(0x400, 24)], [fx 0 48 .ro 0 false]⟩, -- LE_AX_VD
  ⟨0x08071058, [(0x400, 24)], [fx 0 48 .ro 0 false]⟩, -- LE_AX_VQ
  ⟨0x08071060, [(0x400, 24)], [fx 0 48 .ro 0 false]⟩, -- LE_AX_IQREF
  ⟨0x08071068, [(0x400, 24)], [fx 0 48 .ro 0 false]⟩, -- LE_AX_VREF
  ⟨0x08071070, [(0x400, 24)], [fx 0 48 .ro 0 false]⟩, -- LE_AX_PERR
  ⟨0x08071078, [(0x400, 24)], [fx 0 48 .ro 0 false]⟩, -- LE_AX_XD
  ⟨0x08071080, [(0x400, 24)], [fx 0 48 .ro 0 false]⟩, -- LE_AX_XQ
  ⟨0x08071088, [(0x400, 24)], [fx 0 48 .ro 0 false]⟩, -- LE_AX_XV
  ⟨0x08071090, [(0x400, 24)], [fx 0 48 .ro 0 false]⟩, -- LE_AX_DOB
  ⟨0x08071098, [(0x400, 24)], [fx 0 24 .ro 0 false]⟩, -- LE_AX_ANGLE
  ⟨0x080710A0, [(0x400, 24)], [fx 0 1 .w1c 0 false, fx 1 1 .w1c 0 false, fx 2 1 .w1c 0 false, fx 3 1 .w1c 0 false, fx 4 1 .w1c 0 false, fx 5 1 .w1c 0 false, fx 6 1 .w1c 0 false, fx 7 1 .w1c 0 false, fx 8 1 .w1c 0 false, fx 9 1 .w1c 0 false, fx 10 1 .w1c 0 false, fx 11 1 .ro 0 false, fx 12 1 .ro 0 false, fx 13 1 .w1c 0 false, fx 14 1 .w1c 0 false]⟩, -- LE_AX_FLAG
  ⟨0x080710A8, [(0x400, 24)], [fx 0 1 .ro 0 false, fx 1 1 .ro 0 true, fx 2 1 .w1c 0 false, fx 3 3 .ro 0 false, fx 6 1 .w1c 0 false]⟩, -- LE_AX_BSTAT
  ⟨0x080710B0, [(0x400, 24)], [cf 0 15 .rw 0 true (0) (32767)]⟩, -- LE_AX_IEN
  ⟨0x080710B8, [(0x400, 24)], [cs 0 48 .sp 0 true (-140737488355328) (140737488355327)]⟩, -- LE_AX_SS1DEC
  ⟨0x08071100, [(0x400, 24)], [cf 0 3 .rw 0 true (0) (4), cf 3 1 .rw 0 true (0) (1), cf 4 1 .rw 0 true (0) (1), cf 5 1 .rw 0 true (0) (1), cf 6 1 .rw 0 true (0) (1), cf 7 1 .rw 0 true (0) (1), cf 8 1 .rw 0 true (0) (1), cf 9 1 .rw 0 true (0) (1), cf 10 3 .rw 0 true (0) (5), cf 13 3 .rw 0 true (0) (5), cf 16 4 .rw 0 true (0) (15), cf 20 8 .rw 0 true (0) (255), cf 28 1 .rw 0 true (0) (1)]⟩, -- LE_AX_GRAPH
  ⟨0x08071108, [(0x400, 24)], [cf 0 7 .rw 1 true (1) (64), cf 8 16 .rw 0 true (0) (65535), cf 24 24 .rw 0 true (0) (16777215)]⟩, -- LE_AX_MOTOR
  ⟨0x08071110, [(0x400, 24)], [cs 0 48 .rw 0 true (-140737488355328) (140737488355327)]⟩, -- LE_AX_KPD
  ⟨0x08071118, [(0x400, 24)], [cs 0 48 .rw 0 true (-140737488355328) (140737488355327)]⟩, -- LE_AX_KID
  ⟨0x08071120, [(0x400, 24)], [cs 0 48 .rw 0 true (-140737488355328) (140737488355327)]⟩, -- LE_AX_KPQ
  ⟨0x08071128, [(0x400, 24)], [cs 0 48 .rw 0 true (-140737488355328) (140737488355327)]⟩, -- LE_AX_KIQ
  ⟨0x08071130, [(0x400, 24)], [cs 0 48 .rw 0x180000000000 true (-140737488355328) (140737488355327)]⟩, -- LE_AX_XLIMI
  ⟨0x08071138, [(0x400, 24)], [cs 0 48 .rw 0 true (-140737488355328) (140737488355327)]⟩, -- LE_AX_LDW
  ⟨0x08071140, [(0x400, 24)], [cs 0 48 .rw 0 true (-140737488355328) (140737488355327)]⟩ -- LE_AX_LQW
  ]

/-- Register map rows of block LE. -/
def regRowsLE1 : List RegRow := [
  ⟨0x08071148, [(0x400, 24)], [cs 0 48 .rw 0 true (-140737488355328) (140737488355327)]⟩, -- LE_AX_KE
  ⟨0x08071150, [(0x400, 24)], [cs 0 48 .rw 0x1000000 true (8388608) (19372660)]⟩, -- LE_AX_VLIM
  ⟨0x08071158, [(0x400, 24)], [cs 0 48 .rw 0x50000000000 true (0) (16492674416640)]⟩, -- LE_AX_ILIM
  ⟨0x08071160, [(0x400, 24)], [cs 0 48 .rw 0 true (-140737488355328) (140737488355327)]⟩, -- LE_AX_KPV
  ⟨0x08071168, [(0x400, 24)], [cs 0 48 .rw 0 true (-140737488355328) (140737488355327)]⟩, -- LE_AX_KIV
  ⟨0x08071170, [(0x400, 24)], [cs 0 48 .rw 0xF0000000000 true (-140737488355328) (140737488355327)]⟩, -- LE_AX_XLIMV
  ⟨0x08071178, [(0x400, 24)], [cs 0 48 .rw 0 true (-140737488355328) (140737488355327)]⟩, -- LE_AX_KPP
  ⟨0x08071180, [(0x400, 24)], [cs 0 48 .rw 0 true (0) (33554432)]⟩, -- LE_AX_KVFF
  ⟨0x08071188, [(0x400, 24)], [cs 0 48 .rw 0 true (-140737488355328) (140737488355327)]⟩, -- LE_AX_KAFF
  ⟨0x08071190, [(0x400, 24)], [cs 0 48 .rw 0 true (-140737488355328) (140737488355327)]⟩, -- LE_AX_JN
  ⟨0x08071198, [(0x400, 24)], [cs 0 48 .rw 0 true (0) (16777216)]⟩, -- LE_AX_DOBG
  ⟨0x080711A0, [(0x400, 24)], [cs 0 48 .rw 0 true (0) (16777216)]⟩, -- LE_AX_DOBK
  ⟨0x080711A8, [(0x400, 24)], [cs 0 48 .rw 0 true (-140737488355328) (140737488355327)]⟩, -- LE_AX_PERRMAX
  ⟨0x080711B0, [(0x400, 24), (0x28, 4)], [cs 0 48 .rw 0x1000000 true (-140737488355328) (140737488355327)]⟩, -- LE_AX_BQ_C
  ⟨0x080711B8, [(0x400, 24), (0x28, 4), (0x8, 4)], [cs 0 48 .rw 0 true (-140737488355328) (140737488355327)]⟩, -- LE_AX_BQ_C
  ⟨0x080710C0, [(0x400, 24)], [fx 0 1 .ro 0 true, fx 1 1 .ro 0 true, fx 2 1 .ro 0 true, fx 3 1 .ro 0 true, fx 4 1 .ro 0 false, fx 5 1 .ro 0 false, fx 6 1 .w1c 0 false, fx 7 1 .w1c 0 false, fx 8 1 .w1c 0 false, fx 9 1 .w1c 0 false, fx 10 1 .w1c 0 false, fx 11 1 .w1c 0 false, cf 16 6 .rw 0x20 true (0) (63)]⟩, -- LE_AX_TBLSTAT
  ⟨0x080710C8, [(0x400, 24)], [fx 0 8 .wo 0 false, fx 8 4 .wo 0 false]⟩, -- LE_AX_TBLSEAL
  ⟨0x080710D0, [(0x400, 24)], [fx 0 48 .ro 0 false]⟩, -- LE_AX_COGVAL
  ⟨0x080710D8, [(0x400, 24)], [fx 0 48 .ro 0 false]⟩, -- LE_AX_FRVAL
  ⟨0x08071250, [(0x400, 24)], [cf 0 1 .rw 0 true (0) (1), cf 1 1 .rw 0 true (0) (1), cf 2 1 .rw 0 true (0) (1)]⟩, -- LE_AX_TBLSEL
  ⟨0x08071258, [(0x400, 24)], [cf 0 24 .rw 0 true (0) (16777215)]⟩, -- LE_AX_COGOFS
  ⟨0x08071260, [(0x400, 24)], [cs 0 48 .rw 0 true (-140737488355328) (140737488355327)]⟩, -- LE_AX_FRSTART
  ⟨0x08071268, [(0x400, 24)], [cs 0 48 .rw 0x200000000 true (4096) (17592186044416)]⟩, -- LE_AX_FRINV
  ⟨0x08071270, [(0x400, 24)], [cs 0 48 .rw 0 true (0) (17179869184)]⟩, -- LE_AX_FRBAND
  ⟨0x08070040, [], [fx 0 5 .rw 0 false, fx 8 8 .rw 0 false, fx 16 1 .wo 0 false, fx 17 1 .wo 0 false]⟩, -- LE_LRN_CTL
  ⟨0x08070048, [], [fx 0 48 .rw 0 false]⟩, -- LE_LRN_BASE
  ⟨0x08070050, [], [fx 0 21 .rw 0 false]⟩, -- LE_LRN_LEN
  ⟨0x08070058, [], [fx 0 1 .ro 0 false, fx 1 1 .ro 0 false, fx 2 1 .w1c 0 false, fx 3 1 .w1c 0 false, fx 4 1 .w1c 0 false, fx 5 3 .ro 0 false]⟩, -- LE_LRN_STAT
  ⟨0x08070060, [], [fx 0 21 .ro 0 false, fx 24 16 .rw 0 false]⟩ -- LE_LRN_COUNT
  ]

/-- Register map rows of block FB. -/
def regRowsFB : List RegRow := [
  ⟨0x08090000, [], [fx 0 1 .rw 0 true, fx 1 2 .rw 0 true]⟩, -- FB_CTL
  ⟨0x08090008, [], [fx 0 24 .ro 0 false, fx 24 24 .ro 0 false]⟩, -- FB_VALID
  ⟨0x08090100, [(0x40, 2)], [cf 0 1 .rw 0 true (0) (1), cf 1 5 .rw 0 true (0) (23), cf 6 1 .rw 0 true (0) (1), cf 7 1 .rw 0 true (0) (1), cf 8 1 .rw 0 true (0) (1), cf 9 21 .rw 0x400 true (1) (1048576)]⟩, -- FB_EMU_CTL
  ⟨0x08090108, [(0x40, 2)], [fx 0 1 .ro 0 false, fx 1 1 .ro 0 false, fx 2 1 .w1c 0 false, fx 3 1 .w1c 0 false, fx 4 1 .w1c 0 false, fx 5 1 .w1c 0 false]⟩, -- FB_EMU_STAT
  ⟨0x08090110, [(0x40, 2)], [fx 0 48 .ro 0 false]⟩, -- FB_EMU_CNT
  ⟨0x08091000, [(0x100, 24)], [cf 0 3 .rw 0 true (0) (4), cf 3 1 .rw 1 true (0) (1), cf 4 4 .rw 3 true (0) (15), cf 8 2 .rw 0 true (0) (3), cf 10 1 .rw 0 true (0) (1), cf 11 1 .rw 0 true (0) (1), cf 12 7 .rw 4 true (1) (64), cf 19 1 .rw 1 true (0) (1), cf 20 1 .rw 0 true (0) (1)]⟩, -- FB_AX_CFG
  ⟨0x08091008, [(0x100, 24)], [cf 0 25 .rw 0x1000 true (4) (16777216)]⟩, -- FB_AX_CPE
  ⟨0x08091010, [(0x100, 24)], [cf 0 6 .rw 0x19 true (8) (48), cf 6 5 .rw 0xD true (1) (24), cf 11 1 .rw 1 true (0) (1), cf 12 1 .rw 0 true (0) (1), cf 13 12 .rw 0x177 true (38) (3750), cf 25 8 .rw 8 true (0) (255), cf 33 7 .rw 0x14 true (1) (127)]⟩, -- FB_AX_SER
  ⟨0x08091018, [(0x100, 24)], [cf 0 16 .rw 0 true (0) (65535), cf 16 6 .rw 0 true (0) (63)]⟩, -- FB_AX_TRIG
  ⟨0x08091020, [(0x100, 24)], [fx 0 48 .ro 0 true]⟩, -- FB_AX_POS
  ⟨0x08091028, [(0x100, 24)], [fx 0 48 .ro 0 false]⟩, -- FB_AX_POSS
  ⟨0x08091030, [(0x100, 24)], [fx 0 48 .ro 0 false]⟩, -- FB_AX_SPD
  ⟨0x08091038, [(0x100, 24)], [fx 0 48 .ro 0 false]⟩, -- FB_AX_SPDS
  ⟨0x08091040, [(0x100, 24)], [fx 0 1 .ro 0 false, fx 1 1 .ro 0 false, fx 2 1 .ro 0 false, fx 3 1 .ro 0 false, fx 4 1 .ro 0 false, fx 5 1 .ro 0 false, fx 6 1 .ro 0 false, fx 7 1 .ro 0 false, fx 8 7 .ro 0 false, fx 16 16 .ro 0 false, fx 32 3 .ro 7 false]⟩, -- FB_AX_STAT
  ⟨0x08091048, [(0x100, 24)], [fx 0 1 .w1c 0 false, fx 1 1 .w1c 0 false, fx 2 1 .w1c 0 false, fx 3 1 .w1c 0 false, fx 4 1 .w1c 0 false, fx 5 1 .w1c 0 false, fx 6 1 .w1c 0 false, fx 7 1 .w1c 0 false, fx 8 1 .w1c 0 false, fx 9 1 .w1c 0 false, fx 10 1 .w1c 0 false, fx 11 1 .ro 0 false, fx 12 1 .w1c 0 false, fx 13 1 .w1c 0 false]⟩, -- FB_AX_FLAG
  ⟨0x08091050, [(0x100, 24)], [fx 0 8 .rw 0 false, fx 8 8 .rw 0 false, fx 16 16 .rw 0 false, fx 32 8 .ro 0 false]⟩, -- FB_AX_CNT
  ⟨0x08091058, [(0x100, 24)], [fx 0 48 .ro 0 false]⟩, -- FB_AX_ZCAP
  ⟨0x08091060, [(0x100, 24)], [fx 0 48 .rw 0 true]⟩, -- FB_AX_PRESET
  ⟨0x08091068, [(0x100, 24)], [fx 0 1 .wo 0 false, fx 1 1 .wo 0 false, fx 2 1 .wo 0 false, fx 3 1 .wo 0 false, fx 4 1 .wo 0 false]⟩, -- FB_AX_CMD
  ⟨0x08091070, [(0x100, 24)], [fx 0 48 .ro 0 false]⟩, -- FB_AX_SERRAW
  ⟨0x08091078, [(0x100, 24)], [cf 0 24 .rw 0x100000 true (0) (16777215), cf 24 4 .rw 3 true (1) (15), cf 28 8 .rw 4 true (1) (255), cf 36 8 .rw 0x10 true (1) (255)]⟩, -- FB_AX_LIM
  ⟨0x08091080, [(0x100, 24)], [fx 0 48 .ro 0 false]⟩, -- FB_AX_TID
  ⟨0x08091088, [(0x100, 24)], [cf 0 14 .rw 0x401 true (0) (16383)]⟩ -- FB_AX_IEN
  ]

/-- Register map rows of block EVR. -/
def regRowsEVR : List RegRow := [
  ⟨0x080A0000, [], [fx 0 1 .rw 0 true, fx 1 2 .rw 0 true]⟩, -- EVR_CTL
  ⟨0x080A0008, [], [cf 0 8 .rw 0x20 true (1) (255)]⟩, -- EVR_LOOPLIM
  ⟨0x080A0010, [], [cf 0 12 .rwlk 0xFFF true (0) (4095)]⟩, -- EVR_GRPEN
  ⟨0x080A0018, [], [cf 0 12 .rwlk 0 true (0) (4095)]⟩, -- EVR_GRPLOCK
  ⟨0x080A0020, [], [fx 0 48 .wo 0 true]⟩, -- EVR_FIRE0
  ⟨0x080A0028, [], [fx 0 48 .wo 0 true]⟩, -- EVR_FIRE1
  ⟨0x080A0030, [], [fx 0 48 .ro 0 true]⟩, -- EVR_LOOPSUM0
  ⟨0x080A0038, [], [fx 0 48 .ro 0 true]⟩, -- EVR_LOOPSUM1
  ⟨0x080A0040, [], [fx 0 1 .w1c 0 true, fx 1 1 .w1c 0 true]⟩, -- EVR_STATUS
  ⟨0x080A0100, [(0x20, 96)], [cf 0 1 .rwlk 0 true (0) (1), cf 1 3 .rwlk 0 true (0) (7), cf 4 1 .rwlk 0 true (0) (1), cf 5 4 .rwlk 0 true (0) (11), cf 9 2 .rwlk 0 true (0) (2), cf 11 1 .rwlk 0 true (0) (1)]⟩, -- EVR_CH_CFG
  ⟨0x080A0108, [(0x20, 96)], [cf 0 32 .rwlk 0 true (0) (4294967295)]⟩, -- EVR_CH_SRC
  ⟨0x080A0110, [(0x20, 96)], [cf 0 11 .rwlk 0 true (0) (2047)]⟩, -- EVR_CH_LINK
  ⟨0x080A0118, [(0x20, 96)], [fx 0 1 .w1c 0 true, fx 1 1 .ro 0 true, fx 8 8 .ro 0 true, fx 16 8 .rw 0 true]⟩, -- EVR_CH_STAT
  ⟨0x080A0D00, [(0x8, 18)], [fx 0 48 .rw 0 true]⟩ -- EVR_MRG
  ]

/-- Register map rows of block PWR. -/
def regRowsPWR : List RegRow := [
  ⟨0x080B0000, [], [cf 0 1 .rw 1 true (0) (1), cf 1 1 .rw 0 true (0) (1)]⟩, -- PWR_CTL
  ⟨0x080B0008, [], [fx 0 1 .ro 0 false, fx 1 1 .ro 0 false, fx 2 1 .ro 0 false, fx 3 1 .ro 0 false, fx 4 1 .ro 0 false, fx 5 1 .ro 0 false, fx 6 1 .ro 0 false, fx 7 1 .w1c 0 false, fx 8 1 .ro 0 false, fx 9 1 .ro 0 false, fx 10 1 .ro 0 false, fx 11 1 .w1c 0 false, fx 12 1 .w1c 0 false, fx 13 1 .ro 0 false, fx 14 6 .ro 0 false, fx 20 1 .w1c 0 false]⟩, -- PWR_STATUS
  ⟨0x080B0010, [], [fx 0 48 .ro 0 false]⟩, -- PWR_GEYSER
  ⟨0x080B0018, [], [fx 0 48 .ro 0 false]⟩, -- PWR_GEYSER_B
  ⟨0x080B0020, [], [fx 0 48 .ro 0 false]⟩, -- PWR_GEYSER_T
  ⟨0x080B0028, [], [fx 0 48 .ro 0 false]⟩, -- PWR_GEYSER_MAX
  ⟨0x080B0030, [], [fx 0 10 .ro 0 false]⟩, -- PWR_GEYPCT
  ⟨0x080B0038, [], [fx 0 16 .ro 0 false, fx 16 16 .ro 0 false]⟩, -- PWR_LINE
  ⟨0x080B0040, [], [fx 0 48 .ro 0 false]⟩, -- PWR_VBULK
  ⟨0x080B0048, [], [fx 0 48 .ro 0 false]⟩, -- PWR_VBUS
  ⟨0x080B0050, [], [fx 0 48 .ro 0 false]⟩, -- PWR_PDRAW
  ⟨0x080B0058, [], [fx 0 48 .ro 0 false]⟩, -- PWR_POUT
  ⟨0x080B0060, [], [fx 0 48 .ro 0 false]⟩, -- PWR_PLIMLINE
  ⟨0x080B0068, [], [fx 0 48 .ro 0 false]⟩, -- PWR_PPEAK
  ⟨0x080B0070, [], [fx 0 48 .ro 0 false]⟩, -- PWR_CHOPE
  ⟨0x080B0078, [], [cf 0 6 .rw 0 true (0) (63), cf 6 1 .rw 1 true (0) (1)]⟩, -- PWR_SUPCTL
  ⟨0x080B0080, [], [fx 0 8 .rw 0 false, fx 8 8 .rw 0 false, fx 16 8 .rw 0 false]⟩, -- PWR_CNT
  ⟨0x080B0088, [], [cf 0 21 .rw 0x3E30 true (0) (2097151)]⟩, -- PWR_IEN
  ⟨0x080B0090, [], [fx 0 4 .rw 0 false, cf 4 4 .rw 0 true (0) (15), cf 8 5 .rw 0 true (0) (23), cf 13 5 .rw 0 true (0) (23), cf 18 5 .rw 0 true (0) (23), cf 23 5 .rw 0 true (0) (23)]⟩, -- PWR_BRKCTL
  ⟨0x080B0098, [], [fx 0 4 .ro 0 false, fx 4 4 .w1c 0 false]⟩, -- PWR_BRKSTAT
  ⟨0x080B0100, [], [fx 0 1 .ro 0 false, fx 1 1 .w1c 0 false]⟩, -- THM_STATUS
  ⟨0x080B0108, [], [fx 0 48 .ro 0 false]⟩, -- THM_TB
  ⟨0x080B0800, [(0x20, 24)], [fx 0 48 .ro 0 false]⟩, -- THM_AX_TJ
  ⟨0x080B0808, [(0x20, 24)], [fx 0 48 .ro 0 false]⟩, -- THM_AX_Q
  ⟨0x080B0810, [(0x20, 24)], [fx 0 48 .ro 0xF0000000000 false]⟩, -- THM_AX_LIM
  ⟨0x080B0818, [(0x20, 24)], [fx 0 1 .ro 0 false, fx 1 1 .ro 0 false, fx 2 1 .ro 0 false, fx 3 1 .w1c 0 false]⟩ -- THM_AX_STAT
  ]

/-- Register map rows of block ICU. -/
def regRowsICU : List RegRow := [
  ⟨0x080C0000, [(0x1000, 4)], [fx 0 1 .rw 0 true]⟩, -- ICU_CTL
  ⟨0x080C0008, [(0x1000, 4)], [fx 0 1 .rw 0 true]⟩, -- ICU_GDIS
  ⟨0x080C0010, [(0x1000, 4)], [fx 0 9 .rw 0 false, fx 9 3 .rw 0 false, fx 12 1 .rw 0 false]⟩, -- ICU_CLAIM
  ⟨0x080C0018, [(0x1000, 4)], [fx 0 1 .ro 0 false, fx 1 3 .ro 0 false, fx 4 1 .w1c 0 true, fx 5 1 .ro 0 false, fx 6 1 .w1c 0 true, fx 7 1 .w1c 0 true]⟩, -- ICU_STAT
  ⟨0x080C0020, [(0x1000, 4)], [fx 0 8 .ro 0 true, fx 8 3 .ro 0 true, fx 16 8 .ro 0 true, fx 24 1 .ro 0 true]⟩, -- ICU_FCAUSE
  ⟨0x080C0028, [(0x1000, 4)], [fx 0 48 .ro 0 true]⟩, -- ICU_FADDR
  ⟨0x080C0030, [(0x1000, 4)], [fx 0 4 .wo 0 false]⟩, -- ICU_SWI
  ⟨0x080C0038, [(0x1000, 4)], [fx 0 16 .rw 0 true]⟩, -- ICU_MRGCNT
  ⟨0x080C0100, [(0x1000, 4), (0x8, 16)], [fx 0 32 .w1c 0 true]⟩, -- ICU_PEND
  ⟨0x080C0200, [(0x1000, 4), (0x8, 16)], [fx 0 32 .ro 0 true]⟩, -- ICU_ACT
  ⟨0x080C0400, [(0x1000, 4), (0x8, 128)], [cf 0 3 .rw 0 true (0) (6), cf 12 3 .rw 0 true (0) (6), cf 24 3 .rw 0 true (0) (6), cf 36 3 .rw 0 true (0) (6), cf 3 1 .rw 0 true (0) (1), cf 15 1 .rw 0 true (0) (1), cf 27 1 .rw 0 true (0) (1), cf 39 1 .rw 0 true (0) (1), cf 4 5 .rw 0 true (0) (31), cf 16 5 .rw 0 true (0) (31), cf 28 5 .rw 0 true (0) (31), cf 40 5 .rw 0 true (0) (31)]⟩, -- ICU_CFG
  ⟨0x080C0800, [(0x1000, 4), (0x8, 32)], [cf 0 8 .rw 1 true (1) (255), cf 8 16 .rw 0 true (0) (65535), fx 24 8 .ro 0 true, fx 32 1 .ro 0 true]⟩ -- ICU_GRP
  ]

/-- Register map rows of block SAF. -/
def regRowsSAF : List RegRow := [
  ⟨0x0C001000, [], [fx 0 1 .rw 0 true]⟩, -- ICU_CTL
  ⟨0x0C001008, [], [fx 0 1 .rw 0 true]⟩, -- ICU_GDIS
  ⟨0x0C001010, [], [fx 0 9 .rw 0 false, fx 9 3 .rw 0 false, fx 12 1 .rw 0 false]⟩, -- ICU_CLAIM
  ⟨0x0C001018, [], [fx 0 1 .ro 0 false, fx 1 3 .ro 0 false, fx 4 1 .w1c 0 true, fx 5 1 .ro 0 false, fx 6 1 .w1c 0 true, fx 7 1 .w1c 0 true]⟩, -- ICU_STAT
  ⟨0x0C001020, [], [fx 0 8 .ro 0 true, fx 8 3 .ro 0 true, fx 16 8 .ro 0 true, fx 24 1 .ro 0 true]⟩, -- ICU_FCAUSE
  ⟨0x0C001028, [], [fx 0 48 .ro 0 true]⟩, -- ICU_FADDR
  ⟨0x0C001030, [], [fx 0 4 .wo 0 false]⟩, -- ICU_SWI
  ⟨0x0C001038, [], [fx 0 16 .rw 0 true]⟩, -- ICU_MRGCNT
  ⟨0x0C001100, [(0x8, 16)], [fx 0 32 .w1c 0 true]⟩, -- ICU_PEND
  ⟨0x0C001200, [(0x8, 16)], [fx 0 32 .ro 0 true]⟩, -- ICU_ACT
  ⟨0x0C001400, [(0x8, 128)], [cf 0 3 .rw 0 true (0) (6), cf 12 3 .rw 0 true (0) (6), cf 24 3 .rw 0 true (0) (6), cf 36 3 .rw 0 true (0) (6), cf 3 1 .rw 0 true (0) (1), cf 15 1 .rw 0 true (0) (1), cf 27 1 .rw 0 true (0) (1), cf 39 1 .rw 0 true (0) (1), cf 4 5 .rw 0 true (0) (31), cf 16 5 .rw 0 true (0) (31), cf 28 5 .rw 0 true (0) (31), cf 40 5 .rw 0 true (0) (31)]⟩, -- ICU_CFG
  ⟨0x0C001800, [(0x8, 32)], [cf 0 8 .rw 1 true (1) (255), cf 8 16 .rw 0 true (0) (65535), fx 24 8 .ro 0 true, fx 32 1 .ro 0 true]⟩, -- ICU_GRP
  ⟨0x0C000000, [], [fx 0 1 .ro 1 false, fx 1 1 .ro 0 false, fx 2 1 .ro 0 false, fx 3 1 .ro 0 false, fx 4 1 .w1csp 0 false]⟩, -- SAF_STATUS
  ⟨0x0C000008, [], [fx 0 24 .sp 0 true]⟩, -- SAF_GATEEN
  ⟨0x0C000010, [], [fx 0 1 .sp 1 false, fx 1 1 .sp 0 false]⟩, -- SAF_STOCTL
  ⟨0x0C000018, [], [fx 0 1 .sp 0 false, fx 1 1 .sp 0 false]⟩, -- SAF_CONSENT
  ⟨0x0C000020, [], [fx 0 1 .wosp 0 false]⟩, -- SAF_ACK
  ⟨0x0C000028, [], [cf 0 14 .sp 0x64 true (1) (10000)]⟩, -- SAF_SS1
  ⟨0x0C000030, [], [cf 0 7 .sp 0xA true (1) (100)]⟩, -- SAF_DISC
  ⟨0x0C000038, [], [cf 0 10 .sp 0x64 true (1) (1000), fx 10 1 .sp 0 false]⟩, -- SAF_MWDT
  ⟨0x0C000040, [], [fx 0 8 .wosp 0 false]⟩, -- SAF_MWDT_SVC
  ⟨0x0C000048, [], [fx 0 20 .ro 0 false]⟩, -- SAF_MWDT_REM
  ⟨0x0C000050, [], [fx 0 16 .sp 0 true, fx 16 3 .ro 0 true]⟩, -- SAF_VIOL
  ⟨0x0C000058, [], [fx 0 41 .ro 0 true]⟩, -- SAF_VIOLADDR
  ⟨0x0C000060, [], [fx 0 1 .w1csp 0 false, fx 1 1 .w1csp 0 false, fx 2 1 .w1csp 0 false, fx 3 1 .w1csp 0 false, fx 4 1 .w1csp 0 false, fx 5 1 .w1csp 0 false]⟩, -- SAF_FAULT
  ⟨0x0C000068, [], [fx 0 16 .sp 0 false]⟩, -- SAF_NOTE
  ⟨0x0C000070, [], [cf 0 6 .sp 0x14 true (1) (63), cf 6 8 .sp 4 true (1) (255)]⟩, -- SAF_SPD
  ⟨0x0C000080, [(0x8, 4)], [cf 0 1 .sp 1 true (0) (1), cf 1 1 .sp 1 true (0) (1), cf 2 14 .sp 0x3E8 true (1) (10000), cf 16 4 .sp 0 true (0) (15)]⟩, -- SAF_CWD
  ⟨0x0C0000A0, [(0x8, 4)], [fx 0 14 .ro 0 false]⟩, -- SAF_CWD_REM
  ⟨0x0C000100, [(0x40, 24)], [fx 0 48 .ro 0 false]⟩, -- SAF_AX_POS
  ⟨0x0C000108, [(0x40, 24)], [fx 0 48 .ro 0 false]⟩, -- SAF_AX_SPD
  ⟨0x0C000110, [(0x40, 24)], [cs 0 48 .sp 0 true (-140737488355328) (140737488355327)]⟩, -- SAF_AX_SLS
  ⟨0x0C000118, [(0x40, 24)], [cf 0 2 .sp 0 true (0) (3), cf 2 4 .sp 0 true (0) (15), cf 6 1 .sp 0 true (0) (1), cf 7 24 .sp 0x10000 true (0) (16777215), cf 31 16 .sp 0x100 true (0) (65535)]⟩, -- SAF_AX_CFG
  ⟨0x0C000120, [(0x40, 24)], [fx 0 1 .ro 0 false, fx 1 1 .ro 0 false, fx 2 1 .w1csp 0 false, fx 3 1 .w1csp 0 false]⟩, -- SAF_AX_STAT
  ⟨0x0C000128, [(0x40, 24)], [cf 0 3 .sp 0 true (0) (4), cf 3 25 .sp 0x1000 true (4) (16777216), cf 28 7 .sp 4 true (1) (64)]⟩, -- SAF_AX_RXCFG
  ⟨0x0C000130, [(0x40, 24)], [cf 0 48 .sp 0x28102EEB59 true (0) (281474976710655)]⟩ -- SAF_AX_RXSER
  ]

/-- Register map rows of block DMA. -/
def regRowsDMA : List RegRow := [
  ⟨0x080D0000, [], [fx 0 1 .rw 0 true, fx 1 2 .rw 0 true]⟩, -- DMA_CTL
  ⟨0x080D0008, [], [fx 0 16 .wo 0 false]⟩, -- DMA_GSTART
  ⟨0x080D0010, [], [fx 0 8 .wo 0 false]⟩, -- DMA_ABORTALL
  ⟨0x080D0018, [], [fx 0 16 .ro 0 false]⟩, -- DMA_BUSY
  ⟨0x080D0020, [], [fx 0 1 .w1c 0 true, fx 1 1 .w1c 0 true, fx 4 4 .ro 0 true]⟩, -- DMA_ECCSTAT
  ⟨0x080D0028, [], [fx 0 41 .ro 0 true]⟩, -- DMA_ECCADDR
  ⟨0x080D0030, [], [fx 0 16 .rw 0 true, fx 16 16 .rw 0 true]⟩, -- DMA_ECCCNT
  ⟨0x080D0100, [(0x40, 16)], [fx 0 48 .rw 0 true]⟩, -- DMA_CH_SRC
  ⟨0x080D0108, [(0x40, 16)], [fx 0 48 .rw 0 true]⟩, -- DMA_CH_DST
  ⟨0x080D0110, [(0x40, 16)], [fx 0 24 .rw 0 true]⟩, -- DMA_CH_CNT
  ⟨0x080D0118, [(0x40, 16)], [fx 0 16 .rw 0 true, fx 16 16 .rw 0 true]⟩, -- DMA_CH_STRIDE
  ⟨0x080D0120, [(0x40, 16)], [fx 0 1 .wo 0 false, fx 1 1 .wo 0 false, fx 2 2 .rw 0 true, fx 4 2 .rw 0 true, fx 6 1 .rw 0 true, fx 7 1 .rw 0 true]⟩, -- DMA_CH_CTL
  ⟨0x080D0128, [(0x40, 16)], [fx 0 1 .ro 0 false, fx 1 1 .w1c 0 false, fx 2 1 .w1c 0 false, fx 3 1 .w1c 0 false, fx 4 4 .ro 0 false, fx 8 1 .ro 0 false, fx 9 1 .w1c 0 false, fx 10 1 .w1c 0 false]⟩, -- DMA_CH_STAT
  ⟨0x080D0130, [(0x40, 16)], [fx 0 48 .ro 0 false]⟩ -- DMA_CH_ERRADDR
  ]

/-- Register map rows of block FLC. -/
def regRowsFLC : List RegRow := [
  ⟨0x080E0000, [], [fx 0 1 .rw 0 true, fx 1 2 .rw 0 true, fx 3 1 .rw 0 true, cf 4 1 .rw 1 true (0) (1)]⟩, -- FLC_CTL
  ⟨0x080E0008, [], [fx 0 1 .ro 0 false, fx 1 1 .ro 0 false, fx 2 1 .ro 0 false, fx 3 1 .ro 0 false, fx 4 5 .ro 0 false, fx 9 4 .ro 0 false, fx 13 1 .ro 0 false]⟩, -- FLC_STATUS
  ⟨0x080E0010, [], [fx 0 4 .ro 0 false, fx 4 1 .ro 0 false]⟩, -- FLC_ALLOC
  ⟨0x080E0018, [], [fx 0 1 .w1c 0 true, fx 1 1 .w1c 0 true, fx 8 16 .rw 0 true, fx 24 16 .rw 0 true]⟩, -- FLC_ECCSTAT
  ⟨0x080E0020, [], [fx 0 41 .ro 0 true]⟩, -- FLC_ECCADDR
  ⟨0x080E0028, [], [fx 0 2 .ro 0 true, fx 2 1 .ro 0 true, fx 3 8 .ro 0 true, fx 11 1 .ro 0 true, fx 12 1 .ro 0 true]⟩, -- FLC_RECOVERY
  ⟨0x080E0030, [], [fx 0 1 .ro 0 true, fx 1 1 .ro 0 true, fx 2 1 .ro 0 true, fx 3 4 .ro 0 true, fx 7 2 .ro 0 true, fx 9 9 .ro 0 true, fx 18 1 .ro 0 true, fx 19 8 .ro 0 true]⟩, -- FLC_RSTINFO
  ⟨0x080E0038, [], [fx 0 1 .ro 0 true, fx 1 8 .ro 0 true, fx 9 32 .ro 0 true]⟩, -- FLC_JSTAT
  ⟨0x080E0100, [(0x20, 16)], [fx 0 48 .rw 0 false]⟩, -- FLC_D_ADDR
  ⟨0x080E0108, [(0x20, 16)], [fx 0 48 .rw 0 false]⟩, -- FLC_D_SRC
  ⟨0x080E0110, [(0x20, 16)], [fx 0 1 .wo 0 false, fx 1 2 .rw 0 false, fx 3 9 .rw 0 false, fx 12 1 .rw 0 false, fx 13 1 .wo 0 false]⟩, -- FLC_D_CTL
  ⟨0x080E0118, [(0x20, 16)], [fx 0 3 .ro 0 false, fx 3 4 .ro 0 false, fx 7 9 .ro 0 false, fx 16 3 .ro 0 false]⟩ -- FLC_D_STAT
  ]

/-- Register map rows of block FAB. -/
def regRowsFAB : List RegRow := [
  ⟨0x080F0000, [], [fx 0 1 .rw 0 true, fx 1 2 .rw 0 true, cf 3 2 .rw 0 true (0) (3), cf 5 1 .rw 0 true (0) (1), cf 6 1 .rw 1 true (0) (1), cf 7 8 .rw 0x40 true (1) (255)]⟩, -- FAB_CTL
  ⟨0x080F0008, [], [cf 0 11 .rw 0 true (0) (2047), cf 12 11 .rw 1 true (1) (2047)]⟩, -- FAB_CFGID
  ⟨0x080F0010, [], [fx 0 11 .ro 0 false, fx 11 1 .ro 0 false, fx 12 3 .ro 0 false, fx 15 8 .ro 0 false, fx 23 1 .ro 0 false, fx 24 11 .ro 0 false]⟩, -- FAB_NODE
  ⟨0x080F0018, [], [fx 0 48 .ro 0 true]⟩, -- FAB_IDENT
  ⟨0x080F0020, [], [fx 0 48 .ro 0 true]⟩, -- FAB_MAC
  ⟨0x080F0028, [], [fx 0 1 .w1c 0 false, fx 1 1 .w1c 0 false, fx 2 1 .ro 0 false, fx 3 1 .w1c 0 false, fx 4 1 .w1c 0 false, fx 5 1 .w1c 0 false]⟩, -- FAB_STATUS
  ⟨0x080F0030, [], [cf 0 6 .rw 0xA true (0) (63)]⟩, -- FAB_IEN
  ⟨0x080F0100, [(0x80, 2)], [cf 0 1 .rw 1 true (0) (1), fx 1 1 .rw 0 true, fx 2 1 .wo 0 false, cf 3 1 .rw 1 true (0) (1), cf 4 1 .rw 1 true (0) (1)]⟩, -- FAB_P_CTL
  ⟨0x080F0108, [(0x80, 2)], [fx 0 1 .ro 0 false, fx 1 1 .ro 0 false, fx 2 1 .ro 0 false, fx 3 1 .ro 0 false, fx 4 1 .ro 0 false, fx 5 1 .w1c 0 false, fx 6 1 .w1c 0 false, fx 7 3 .ro 0 false, fx 10 1 .ro 1 false]⟩, -- FAB_P_STAT
  ⟨0x080F0110, [(0x80, 2)], [fx 0 24 .rw 0 false, fx 24 24 .rw 0 false]⟩, -- FAB_P_FRCNT
  ⟨0x080F0118, [(0x80, 2)], [fx 0 12 .rw 0 false, fx 12 12 .rw 0 false, fx 24 12 .rw 0 false, fx 36 12 .rw 0 false]⟩, -- FAB_P_ERRCNT
  ⟨0x080F0120, [(0x80, 2)], [fx 0 16 .rw 0 false]⟩, -- FAB_P_DOWNCNT
  ⟨0x080F0400, [], [cf 0 14 .rw 0x32 true (5) (10000), cf 14 4 .rw 0 true (0) (15)]⟩, -- FAB_FARCTL
  ⟨0x080F0408, [], [fx 0 4 .ro 0 false, fx 4 1 .w1c 0 false, fx 5 1 .w1c 0 false, fx 8 16 .rw 0 false, fx 24 16 .rw 0 false]⟩, -- FAB_FARSTAT
  ⟨0x080F0410, [], [fx 0 41 .ro 0 false]⟩, -- FAB_FARADDR
  ⟨0x080F1000, [], [cf 0 1 .rw 1 true (0) (1), cf 1 1 .rw 0 true (0) (1), cf 2 18 .rw 0x96 true (0) (262143), cf 20 14 .rw 0x14 true (1) (10000)]⟩, -- FAB_CYC_CTL
  ⟨0x080F1008, [], [cf 0 11 .rw 0 true (0) (2047), cf 11 10 .rw 0 true (0) (1023), cf 21 11 .rw 0 true (0) (2047), cf 32 10 .rw 0 true (0) (1023)]⟩, -- FAB_CYC_REGION
  ⟨0x080F1010, [], [fx 0 1 .ro 0 false, fx 1 1 .w1c 0 false, fx 2 1 .w1c 0 false, fx 3 1 .w1c 0 false, fx 4 1 .w1c 0 false, fx 5 1 .w1c 0 false, fx 6 1 .ro 0 false, fx 7 1 .ro 0 false, fx 8 2 .ro 0 false, fx 10 1 .ro 0 false, fx 11 1 .w1c 0 false]⟩, -- FAB_CYC_STAT
  ⟨0x080F1018, [], [fx 0 12 .rw 0 false, fx 12 12 .rw 0 false, fx 24 12 .rw 0 false, fx 36 12 .rw 0 false]⟩, -- FAB_CYC_CNT
  ⟨0x080F1020, [], [fx 0 32 .ro 0 false]⟩, -- FAB_CYC_NO
  ⟨0x080F1028, [], [fx 0 24 .ro 0 false]⟩, -- FAB_CYC_ARR
  ⟨0x080F1030, [], [cf 0 6 .rw 0x1C true (0) (63)]⟩, -- FAB_CYC_IEN
  ⟨0x080F1100, [(0x8, 64)], [cf 0 1 .rw 0 true (0) (1), cf 1 1 .rw 0 true (0) (1), cf 2 6 .rw 0 true (0) (63), cf 8 30 .rw 0 true (0) (1073741823)]⟩, -- FAB_CYC_MAP
  ⟨0x080F1400, [], [cf 0 1 .rw 0 true (0) (1), cf 1 7 .rw 0xA true (1) (100), cf 8 8 .rw 1 true (1) (255), cf 16 12 .rw 0xC8 true (10) (4095)]⟩, -- FAB_TIME_CTL
  ⟨0x080F1408, [], [fx 0 1 .ro 0 false, fx 1 1 .ro 0 false, fx 2 1 .w1c 0 false, fx 3 1 .w1c 0 false, fx 4 1 .w1c 0 false, fx 8 4 .ro 0 false, fx 12 1 .ro 0 false]⟩, -- FAB_TIME_STAT
  ⟨0x080F1410, [], [fx 0 48 .ro 0 false]⟩, -- FAB_TIME_OFS
  ⟨0x080F1418, [], [fx 0 48 .ro 0 false]⟩, -- FAB_TIME_FREQ
  ⟨0x080F1420, [(0x8, 2)], [fx 0 48 .ro 0 false]⟩, -- FAB_P_LDELAY
  ⟨0x080F1430, [], [cf 0 5 .rw 0x1C true (0) (31)]⟩, -- FAB_TIME_IEN
  ⟨0x080F17F8, [], [cf 0 16 .rw 0x3C true (1) (65535)]⟩, -- FAB_SESSCTL
  ⟨0x080F1800, [(0x20, 16)], [fx 0 2 .ro 0 false, fx 2 6 .ro 0 false, fx 8 2 .ro 0 false, fx 10 11 .ro 0 false]⟩, -- FAB_SESS_STAT
  ⟨0x080F1808, [(0x20, 16)], [fx 0 16 .rw 0 false, fx 16 16 .rw 0 false]⟩, -- FAB_SESS_CNT
  ⟨0x080F1810, [(0x20, 16)], [fx 0 8 .wo 0 false]⟩ -- FAB_SESS_CLOSE
  ]

/-- Register map rows of block CRY. -/
def regRowsCRY : List RegRow := [
  ⟨0x08130000, [], [fx 0 1 .rw 0 true, fx 1 2 .rw 0 true, fx 3 1 .rw 0 true]⟩, -- CRY_CTL
  ⟨0x08130008, [], [fx 0 48 .rw 0 false]⟩, -- CRY_SRC
  ⟨0x08130010, [], [fx 0 24 .rw 0 false]⟩, -- CRY_LEN
  ⟨0x08130018, [], [fx 0 48 .rw 0 false]⟩, -- CRY_KEY
  ⟨0x08130020, [], [fx 0 48 .rw 0 false]⟩, -- CRY_SIG
  ⟨0x08130028, [], [fx 0 48 .rw 0 false]⟩, -- CRY_DST
  ⟨0x08130030, [], [fx 0 4 .wo 0 false, fx 4 2 .wo 0 false, fx 6 1 .wo 0 false, fx 7 1 .wo 0 false, fx 8 6 .wo 0 false]⟩, -- CRY_CMD
  ⟨0x08130038, [], [fx 0 1 .ro 0 false, fx 1 1 .w1c 0 false, fx 2 4 .ro 0 false, fx 6 3 .ro 0 false]⟩, -- CRY_STAT
  ⟨0x08130040, [], [fx 0 4 .ro 0 true, fx 4 4 .ro 0 true, fx 8 6 .ro 0 true, fx 14 1 .ro 0 true]⟩, -- CRY_OTPSTAT
  ⟨0x08130048, [], [fx 0 1 .ro 0 true, fx 1 1 .ro 0 true, fx 2 4 .ro 0 true, fx 6 2 .ro 0 true, fx 8 2 .ro 0 true]⟩, -- CRY_BOOTINFO
  ⟨0x08130050, [], [fx 0 32 .ro 0 true]⟩, -- CRY_SAFVER
  ⟨0x08130058, [], [fx 0 32 .ro 0 true]⟩, -- CRY_APPVER
  ⟨0x08130060, [], [fx 0 9 .ro 0 true, fx 9 32 .ro 0 true]⟩, -- CRY_COMMITSTAT
  ⟨0x08130080, [(0x8, 6)], [fx 0 48 .ro 0 true]⟩, -- CRY_SAFDIG
  ⟨0x081300B0, [(0x8, 6)], [fx 0 48 .ro 0 true]⟩ -- CRY_APPDIG
  ]

/-- Register map rows of block AON. -/
def regRowsAON : List RegRow := [
  ⟨0x08100000, [], [cf 0 16 .rw 0 true (0) (65535), cf 16 16 .rw 0 true (0) (65535), cf 32 1 .rw 0 true (0) (1), cf 33 1 .rw 0 true (0) (1)]⟩, -- AON_WAKECFG
  ⟨0x08100008, [], [fx 0 1 .ro 0 true, fx 1 1 .ro 0 true, fx 2 1 .ro 0 true, fx 3 1 .ro 0 true, fx 4 7 .ro 0 true]⟩, -- AON_WAKESTAT
  ⟨0x08100010, [], [fx 0 32 .rw 0 true, fx 32 1 .rw 0 true, fx 33 1 .w1c 0 true]⟩, -- AON_TMR
  ⟨0x08100018, [], [fx 0 8 .wo 0 true, fx 8 1 .ro 0 true]⟩, -- AON_PADREL
  ⟨0x08100020, [], [cf 0 16 .rw 0 true (0) (65535)]⟩, -- AON_DIODIR
  ⟨0x08100028, [], [cf 0 16 .rw 0 true (0) (65535)]⟩, -- AON_DIOOUT
  ⟨0x08100030, [], [fx 0 16 .ro 0 true]⟩, -- AON_DIOIN
  ⟨0x08100038, [], [fx 0 1 .ro 0 true, fx 1 1 .ro 0 true, fx 2 1 .ro 0 true, fx 3 14 .ro 0 true, fx 17 31 .ro 0 true]⟩, -- AON_SAVESTAT
  ⟨0x08100040, [], [fx 0 48 .ro 0 true]⟩, -- AON_DCYC
  ⟨0x08100048, [], [fx 0 2 .ro 2 true, fx 2 2 .ro 2 true, fx 4 2 .ro 2 true, fx 6 2 .ro 2 true, fx 8 2 .ro 2 true]⟩, -- AON_PWRSTAT
  ⟨0x08100060, [(0x8, 4)], [fx 0 16 .wo 0 true]⟩ -- AON_CWDSVC
  ]

/-- Register map rows of block DBG. -/
def regRowsDBG : List RegRow := [
  ⟨0x08110000, [], [fx 0 3 .rw 3 true, fx 3 1 .rw 0 true]⟩, -- DBG_CTL
  ⟨0x08110008, [], [fx 0 1 .w1c 0 false, fx 1 1 .w1c 0 false]⟩, -- DBG_STATUS
  ⟨0x08110010, [], [fx 0 1 .ro 0 false, fx 1 1 .ro 0 false, fx 2 2 .ro 0 false, fx 4 1 .ro 0 false]⟩, -- DBG_AUTHSTAT
  ⟨0x08110018, [], [fx 0 8 .wo 0 false, fx 8 2 .wo 0 false]⟩, -- DBG_AUTHCMD
  ⟨0x08110020, [(0x8, 6)], [fx 0 48 .ro 0 false]⟩, -- DBG_AUTHNONCE
  ⟨0x08110050, [(0x8, 11)], [fx 0 48 .wo 0 false]⟩, -- DBG_AUTHSIG
  ⟨0x08110100, [(0x100, 5)], [fx 0 1 .rw 0 false, fx 1 1 .rw 0 true]⟩, -- DBG_C_CTL
  ⟨0x08110108, [(0x100, 5)], [fx 0 1 .wo 0 false]⟩, -- DBG_C_CMD
  ⟨0x08110110, [(0x100, 5)], [fx 0 1 .ro 0 true, fx 1 1 .ro 0 false, fx 2 5 .ro 0 true, fx 7 3 .ro 0 true, fx 10 2 .ro 0 true, fx 12 1 .w1c 0 false]⟩, -- DBG_C_STAT
  ⟨0x08110118, [(0x100, 5)], [fx 0 41 .ro 0 true]⟩, -- DBG_C_WADDR
  ⟨0x08110120, [(0x100, 5), (0x8, 8)], [fx 0 41 .rw 0 true, fx 45 2 .rw 0 true, fx 47 1 .rw 0 true]⟩, -- DBG_C_BP
  ⟨0x08110160, [(0x100, 5), (0x8, 4)], [fx 0 41 .rw 0 true, fx 41 5 .rw 0 true, fx 46 1 .rw 0 true, fx 47 1 .rw 0 true]⟩, -- DBG_C_WP
  ⟨0x08110180, [(0x100, 5)], [fx 0 48 .rw 0 false]⟩, -- DBG_C_TXD
  ⟨0x08110188, [(0x100, 5)], [fx 0 48 .rw 0 false]⟩, -- DBG_C_RXD
  ⟨0x08110190, [(0x100, 5)], [fx 0 1 .w1c 0 false, fx 1 1 .ro 0 false, fx 2 1 .w1c 0 false, fx 3 1 .w1c 0 false, fx 4 1 .rw 0 true]⟩ -- DBG_C_VTSTAT
  ]

/-- Register map rows of block TST. -/
def regRowsTST : List RegRow := [
  ⟨0x08120000, [], [cf 0 1 .ro 0 true (0) (1), cf 1 1 .ro 0 true (0) (1), fx 2 1 .ro 0 false, fx 3 7 .rw 0 false, fx 10 1 .w1c 0 false]⟩, -- TST_CTL
  ⟨0x08120008, [], [fx 0 1 .sp 0 false]⟩, -- TST_SAF
  ⟨0x08120010, [], [fx 0 10 .rw 0 false, fx 10 2 .rw 0 false]⟩, -- TST_FABDLY
  ⟨0x08120018, [], [fx 0 16 .rw 2 false, fx 16 2 .rw 0 false, fx 18 1 .rw 0 false, fx 24 24 .rw 0 false]⟩, -- TST_FABDROP
  ⟨0x08120020, [], [fx 0 8 .rw 1 false, fx 8 8 .rw 0 false]⟩, -- TST_DMABP
  ⟨0x08120028, [], [fx 0 6 .rw 0 false, fx 6 12 .rw 0 false, fx 18 7 .rw 0 false, fx 25 1 .rw 0 false]⟩, -- TST_LANE
  ⟨0x08120030, [], [fx 0 6 .rw 0 false, fx 6 8 .rw 0 false]⟩, -- TST_ADCDLY
  ⟨0x08120038, [], [fx 0 20 .rw 0 false]⟩, -- TST_FLCSTR
  ⟨0x08120040, [], [fx 0 8 .rw 0 false, fx 16 16 .rw 1 false]⟩ -- TST_JIT
  ]

/-- The rows of the block that holds address `a` (R22). -/
def blockRows (a : Nat) : List RegRow :=
  match a / 0x10000 with
  | 0x800 => regRowsSYS
  | 0x801 => regRowsCFGRPT
  | 0x802 => regRowsTICK
  | 0x803 => regRowsTMR
  | 0x804 => regRowsPWM
  | 0x805 => regRowsADC
  | 0x806 => regRowsCMP
  | 0x807 => regRowsLE0 ++ regRowsLE1
  | 0x809 => regRowsFB
  | 0x80A => regRowsEVR
  | 0x80B => regRowsPWR
  | 0x80C => regRowsICU
  | 0xC00 => regRowsSAF
  | 0x80D => regRowsDMA
  | 0x80E => regRowsFLC
  | 0x80F => regRowsFAB
  | 0x813 => regRowsCRY
  | 0x810 => regRowsAON
  | 0x811 => regRowsDBG
  | 0x812 => regRowsTST
  | _ => []

end Sys2Proof.Machine
end

