-- ==== Sys2Proof/Machine/Regs.lean ====
section
/-! DEFINITION. The bus address of every register of the spec's register maps (namespace `A`) and every named field of
them (namespace `F`: address, lowest bit, width), written from the tables of R99, R101, R128-R130, R157-R159, R183-R185,
R203-R204, R243-R245, R266-R268, R301-R303, R322-R324, R350-R351, R431, R450-R451, R476-R477, R506-R508, R531-R532,
R556-R557, R577, R595, R615-R617 and the block bases of R22.  Instance letters follow R13. -/
namespace Sys2Proof.Machine

/-- Base of an interrupt-controller instance: A0-A3 at 0x080C_0000 + 0x1000 n (R23), Zenou-S at 0x0C00_1000 (R553). -/
def icuBase (c : Nat) : Nat := if c < 4 then 0x080C0000 + 0x1000 * c else 0x0C001000

def A.SYS_ID : Nat := 0x08000000
def A.SYS_MODE : Nat := 0x08000008
def A.SYS_MODEREQ : Nat := 0x08000010
def A.SYS_MODESTAT : Nat := 0x08000018
def A.SYS_READY : Nat := 0x08000020
def A.SYS_READYCHG : Nat := 0x08000028
def A.SYS_RSTCAUSE : Nat := 0x08000030
def A.SYS_RSTCAUSE_PREV : Nat := 0x08000038
def A.SYS_RSTCNT : Nat := 0x08000040
def A.SYS_RSTREQ : Nat := 0x08000048
def A.SYS_CORERST : Nat := 0x08000050
def A.SYS_CORECAUSE : Nat := 0x08000058
def A.SYS_BOOTSTAT : Nat := 0x08000060
def A.SYS_LBIST : Nat := 0x08000068
def A.SYS_KEY : Nat := 0x08000078
def A.CFGRPT_STATUS : Nat := 0x08010000
def A.CFGRPT_SEQ : Nat := 0x08010008
def A.CFGRPT_COUNT1 : Nat := 0x08010010
def A.CFGRPT_COUNT2 : Nat := 0x08010018
def A.CFGRPT_DIGEST (k : Nat) : Nat := 0x08010020 + 0x8 * k
def A.CFGRPT_ENTRY (i : Nat) : Nat := 0x08010100 + 0x8 * i
def A.TICK_CTL : Nat := 0x08020000
def A.TICK_FRAME : Nat := 0x08020008
def A.TICK_FCYC : Nat := 0x08020010
def A.TICK_STATUS : Nat := 0x08020018
def A.TICK_FRAMECNT : Nat := 0x08020020
def A.TICK_FRAMENO : Nat := 0x08020028
def A.TICK_PHASE : Nat := 0x08020030
def A.SYSTIME_NS : Nat := 0x08020038
def A.SYSTIME_EPOCH : Nat := 0x08020040
def A.TICK_DONE : Nat := 0x08020048
def A.TICK_OVR : Nat := 0x08020050
def A.TICK_SLOT (n : Nat) : Nat := 0x08020100 + 0x8 * n
def A.TMR_GSTART : Nat := 0x08030000
def A.TMR_GSTOP : Nat := 0x08030008
def A.TMR_GSTART_EV : Nat := 0x08030010
def A.TMR_RUN : Nat := 0x08030018
def A.TMR_T_CTL (n : Nat) : Nat := 0x08030400 + 0x80 * n
def A.TMR_T_COUNT (n : Nat) : Nat := 0x08030408 + 0x80 * n
def A.TMR_T_RELOAD (n : Nat) : Nat := 0x08030410 + 0x80 * n
def A.TMR_T_CMP (n k : Nat) : Nat := 0x08030418 + 0x80 * n + 0x8 * k
def A.TMR_T_CAP0 (n : Nat) : Nat := 0x08030438 + 0x80 * n
def A.TMR_T_CAP1 (n : Nat) : Nat := 0x08030440 + 0x80 * n
def A.TMR_T_CAPINFO (n k : Nat) : Nat := 0x08030448 + 0x80 * n + 0x8 * k
def A.TMR_T_FLAG (n : Nat) : Nat := 0x08030458 + 0x80 * n
def A.TMR_T_IEN (n : Nat) : Nat := 0x08030460 + 0x80 * n
def A.PWM_CTL : Nat := 0x08040000
def A.PWM_TRIPSUM : Nat := 0x08040008
def A.PWM_Q_CTL (q : Nat) : Nat := 0x08040100 + 0x40 * q
def A.PWM_Q_PERIOD (q : Nat) : Nat := 0x08040108 + 0x40 * q
def A.PWM_Q_PHASE (q : Nat) : Nat := 0x08040110 + 0x40 * q
def A.PWM_Q_DT (q : Nat) : Nat := 0x08040118 + 0x40 * q
def A.PWM_Q_BOOT (q : Nat) : Nat := 0x08040120 + 0x40 * q
def A.PWM_Q_STATUS (q : Nat) : Nat := 0x08040128 + 0x40 * q
def A.PWM_Q_CNT (q : Nat) : Nat := 0x08040130 + 0x40 * q
def A.PWM_Q_SWTRIP (q : Nat) : Nat := 0x08040138 + 0x40 * q
def A.PWM_AX_DUTYU (a : Nat) : Nat := 0x08040800 + 0x40 * a
def A.PWM_AX_DUTYV (a : Nat) : Nat := 0x08040808 + 0x40 * a
def A.PWM_AX_DUTYW (a : Nat) : Nat := 0x08040810 + 0x40 * a
def A.PWM_AX_CTL (a : Nat) : Nat := 0x08040818 + 0x40 * a
def A.PWM_AX_STATUS (a : Nat) : Nat := 0x08040820 + 0x40 * a
def A.PWM_AX_CNT (a : Nat) : Nat := 0x08040828 + 0x40 * a
def A.ADC_CTL : Nat := 0x08050000
def A.ADC_STATUS : Nat := 0x08050008
def A.ADC_CALREQ : Nat := 0x08050010
def A.ADC_CALERR : Nat := 0x08050018
def A.ADC_Q_SAMP (q : Nat) : Nat := 0x08050100 + 0x40 * q
def A.ADC_Q_STATUS (q : Nat) : Nat := 0x08050108 + 0x40 * q
def A.ADC_Q_VBUS (q : Nat) : Nat := 0x08050110 + 0x40 * q
def A.ADC_Q_TQ (q : Nat) : Nat := 0x08050118 + 0x40 * q
def A.ADC_Q_XIN (q : Nat) : Nat := 0x08050120 + 0x40 * q
def A.ADC_Q_ENC5V (q : Nat) : Nat := 0x08050128 + 0x40 * q
def A.ADC_Q_AUXSTAT (q : Nat) : Nat := 0x08050130 + 0x40 * q
def A.ADC_AX_IU (a : Nat) : Nat := 0x08050800 + 0x40 * a
def A.ADC_AX_IV (a : Nat) : Nat := 0x08050808 + 0x40 * a
def A.ADC_AX_IW (a : Nat) : Nat := 0x08050810 + 0x40 * a
def A.ADC_AX_ISTAT (a : Nat) : Nat := 0x08050818 + 0x40 * a
def A.ADC_AX_FLAG (a : Nat) : Nat := 0x08050820 + 0x40 * a
def A.ADC_AX_OFS (a : Nat) : Nat := 0x08050828 + 0x40 * a
def A.ADC_AX_GAIN (a : Nat) : Nat := 0x08050830 + 0x40 * a
def A.ADC_AX_RAW (a : Nat) : Nat := 0x08050838 + 0x40 * a
def A.CMP_CTL : Nat := 0x08060000
def A.CMP_LATSUM0 : Nat := 0x08060010
def A.CMP_LATSUM1 : Nat := 0x08060018
def A.CMP_CLRALL : Nat := 0x08060020
def A.CMP_EXT_ROUTE (n : Nat) : Nat := 0x08060040 + 0x8 * n
def A.CMP_CH_THR (n : Nat) : Nat := 0x08060100 + 0x20 * n
def A.CMP_CH_CFG (n : Nat) : Nat := 0x08060108 + 0x20 * n
def A.CMP_CH_STAT (n : Nat) : Nat := 0x08060110 + 0x20 * n
def A.CMP_CH_IEN (n : Nat) : Nat := 0x08060118 + 0x20 * n
def A.LE_CTL : Nat := 0x08070000
def A.LE_PARAM_COMMIT : Nat := 0x08070008
def A.LE_COMMIT_PEND : Nat := 0x08070010
def A.LE_COMMIT_EV : Nat := 0x08070018
def A.LE_STATUS : Nat := 0x08070020
def A.LE_Q_STATUS (q : Nat) : Nat := 0x08070100 + 0x40 * q
def A.LE_Q_OVRCNT (q : Nat) : Nat := 0x08070108 + 0x40 * q
def A.LE_Q_LOAD (q : Nat) : Nat := 0x08070110 + 0x40 * q
def A.LE_AX_CTL (a : Nat) : Nat := 0x08071000 + 0x400 * a
def A.LE_AX_SP_POS (a : Nat) : Nat := 0x08071008 + 0x400 * a
def A.LE_AX_SP_VEL (a : Nat) : Nat := 0x08071010 + 0x400 * a
def A.LE_AX_SP_ACC (a : Nat) : Nat := 0x08071018 + 0x400 * a
def A.LE_AX_SP_IQ (a : Nat) : Nat := 0x08071020 + 0x400 * a
def A.LE_AX_SP_ID (a : Nat) : Nat := 0x08071028 + 0x400 * a
def A.LE_AX_SPSTAT (a : Nat) : Nat := 0x08071030 + 0x400 * a
def A.LE_AX_ID (a : Nat) : Nat := 0x08071040 + 0x400 * a
def A.LE_AX_IQ (a : Nat) : Nat := 0x08071048 + 0x400 * a
def A.LE_AX_VD (a : Nat) : Nat := 0x08071050 + 0x400 * a
def A.LE_AX_VQ (a : Nat) : Nat := 0x08071058 + 0x400 * a
def A.LE_AX_IQREF (a : Nat) : Nat := 0x08071060 + 0x400 * a
def A.LE_AX_VREF (a : Nat) : Nat := 0x08071068 + 0x400 * a
def A.LE_AX_PERR (a : Nat) : Nat := 0x08071070 + 0x400 * a
def A.LE_AX_XD (a : Nat) : Nat := 0x08071078 + 0x400 * a
def A.LE_AX_XQ (a : Nat) : Nat := 0x08071080 + 0x400 * a
def A.LE_AX_XV (a : Nat) : Nat := 0x08071088 + 0x400 * a
def A.LE_AX_DOB (a : Nat) : Nat := 0x08071090 + 0x400 * a
def A.LE_AX_ANGLE (a : Nat) : Nat := 0x08071098 + 0x400 * a
def A.LE_AX_FLAG (a : Nat) : Nat := 0x080710A0 + 0x400 * a
def A.LE_AX_BSTAT (a : Nat) : Nat := 0x080710A8 + 0x400 * a
def A.LE_AX_IEN (a : Nat) : Nat := 0x080710B0 + 0x400 * a
def A.LE_AX_SS1DEC (a : Nat) : Nat := 0x080710B8 + 0x400 * a
def A.LE_AX_GRAPH (a : Nat) : Nat := 0x08071100 + 0x400 * a
def A.LE_AX_MOTOR (a : Nat) : Nat := 0x08071108 + 0x400 * a
def A.LE_AX_KPD (a : Nat) : Nat := 0x08071110 + 0x400 * a
def A.LE_AX_KID (a : Nat) : Nat := 0x08071118 + 0x400 * a
def A.LE_AX_KPQ (a : Nat) : Nat := 0x08071120 + 0x400 * a
def A.LE_AX_KIQ (a : Nat) : Nat := 0x08071128 + 0x400 * a
def A.LE_AX_XLIMI (a : Nat) : Nat := 0x08071130 + 0x400 * a
def A.LE_AX_LDW (a : Nat) : Nat := 0x08071138 + 0x400 * a
def A.LE_AX_LQW (a : Nat) : Nat := 0x08071140 + 0x400 * a
def A.LE_AX_KE (a : Nat) : Nat := 0x08071148 + 0x400 * a
def A.LE_AX_VLIM (a : Nat) : Nat := 0x08071150 + 0x400 * a
def A.LE_AX_ILIM (a : Nat) : Nat := 0x08071158 + 0x400 * a
def A.LE_AX_KPV (a : Nat) : Nat := 0x08071160 + 0x400 * a
def A.LE_AX_KIV (a : Nat) : Nat := 0x08071168 + 0x400 * a
def A.LE_AX_XLIMV (a : Nat) : Nat := 0x08071170 + 0x400 * a
def A.LE_AX_KPP (a : Nat) : Nat := 0x08071178 + 0x400 * a
def A.LE_AX_KVFF (a : Nat) : Nat := 0x08071180 + 0x400 * a
def A.LE_AX_KAFF (a : Nat) : Nat := 0x08071188 + 0x400 * a
def A.LE_AX_JN (a : Nat) : Nat := 0x08071190 + 0x400 * a
def A.LE_AX_DOBG (a : Nat) : Nat := 0x08071198 + 0x400 * a
def A.LE_AX_DOBK (a : Nat) : Nat := 0x080711A0 + 0x400 * a
def A.LE_AX_PERRMAX (a : Nat) : Nat := 0x080711A8 + 0x400 * a
def A.LE_AX_BQ_C (a k j : Nat) : Nat := 0x080711B0 + 0x400 * a + 0x28 * k + 0x8 * j
def A.LE_AX_TBLSTAT (a : Nat) : Nat := 0x080710C0 + 0x400 * a
def A.LE_AX_TBLSEAL (a : Nat) : Nat := 0x080710C8 + 0x400 * a
def A.LE_AX_COGVAL (a : Nat) : Nat := 0x080710D0 + 0x400 * a
def A.LE_AX_FRVAL (a : Nat) : Nat := 0x080710D8 + 0x400 * a
def A.LE_AX_TBLSEL (a : Nat) : Nat := 0x08071250 + 0x400 * a
def A.LE_AX_COGOFS (a : Nat) : Nat := 0x08071258 + 0x400 * a
def A.LE_AX_FRSTART (a : Nat) : Nat := 0x08071260 + 0x400 * a
def A.LE_AX_FRINV (a : Nat) : Nat := 0x08071268 + 0x400 * a
def A.LE_AX_FRBAND (a : Nat) : Nat := 0x08071270 + 0x400 * a
def A.LE_LRN_CTL : Nat := 0x08070040
def A.LE_LRN_BASE : Nat := 0x08070048
def A.LE_LRN_LEN : Nat := 0x08070050
def A.LE_LRN_STAT : Nat := 0x08070058
def A.LE_LRN_COUNT : Nat := 0x08070060
def A.FB_CTL : Nat := 0x08090000
def A.FB_VALID : Nat := 0x08090008
def A.FB_EMU_CTL (n : Nat) : Nat := 0x08090100 + 0x40 * n
def A.FB_EMU_STAT (n : Nat) : Nat := 0x08090108 + 0x40 * n
def A.FB_EMU_CNT (n : Nat) : Nat := 0x08090110 + 0x40 * n
def A.FB_AX_CFG (a : Nat) : Nat := 0x08091000 + 0x100 * a
def A.FB_AX_CPE (a : Nat) : Nat := 0x08091008 + 0x100 * a
def A.FB_AX_SER (a : Nat) : Nat := 0x08091010 + 0x100 * a
def A.FB_AX_TRIG (a : Nat) : Nat := 0x08091018 + 0x100 * a
def A.FB_AX_POS (a : Nat) : Nat := 0x08091020 + 0x100 * a
def A.FB_AX_POSS (a : Nat) : Nat := 0x08091028 + 0x100 * a
def A.FB_AX_SPD (a : Nat) : Nat := 0x08091030 + 0x100 * a
def A.FB_AX_SPDS (a : Nat) : Nat := 0x08091038 + 0x100 * a
def A.FB_AX_STAT (a : Nat) : Nat := 0x08091040 + 0x100 * a
def A.FB_AX_FLAG (a : Nat) : Nat := 0x08091048 + 0x100 * a
def A.FB_AX_CNT (a : Nat) : Nat := 0x08091050 + 0x100 * a
def A.FB_AX_ZCAP (a : Nat) : Nat := 0x08091058 + 0x100 * a
def A.FB_AX_PRESET (a : Nat) : Nat := 0x08091060 + 0x100 * a
def A.FB_AX_CMD (a : Nat) : Nat := 0x08091068 + 0x100 * a
def A.FB_AX_SERRAW (a : Nat) : Nat := 0x08091070 + 0x100 * a
def A.FB_AX_LIM (a : Nat) : Nat := 0x08091078 + 0x100 * a
def A.FB_AX_TID (a : Nat) : Nat := 0x08091080 + 0x100 * a
def A.FB_AX_IEN (a : Nat) : Nat := 0x08091088 + 0x100 * a
def A.EVR_CTL : Nat := 0x080A0000
def A.EVR_LOOPLIM : Nat := 0x080A0008
def A.EVR_GRPEN : Nat := 0x080A0010
def A.EVR_GRPLOCK : Nat := 0x080A0018
def A.EVR_FIRE0 : Nat := 0x080A0020
def A.EVR_FIRE1 : Nat := 0x080A0028
def A.EVR_LOOPSUM0 : Nat := 0x080A0030
def A.EVR_LOOPSUM1 : Nat := 0x080A0038
def A.EVR_STATUS : Nat := 0x080A0040
def A.EVR_CH_CFG (n : Nat) : Nat := 0x080A0100 + 0x20 * n
def A.EVR_CH_SRC (n : Nat) : Nat := 0x080A0108 + 0x20 * n
def A.EVR_CH_LINK (n : Nat) : Nat := 0x080A0110 + 0x20 * n
def A.EVR_CH_STAT (n : Nat) : Nat := 0x080A0118 + 0x20 * n
def A.PWR_CTL : Nat := 0x080B0000
def A.PWR_STATUS : Nat := 0x080B0008
def A.PWR_GEYSER : Nat := 0x080B0010
def A.PWR_GEYSER_B : Nat := 0x080B0018
def A.PWR_GEYSER_T : Nat := 0x080B0020
def A.PWR_GEYSER_MAX : Nat := 0x080B0028
def A.PWR_GEYPCT : Nat := 0x080B0030
def A.PWR_LINE : Nat := 0x080B0038
def A.PWR_VBULK : Nat := 0x080B0040
def A.PWR_VBUS : Nat := 0x080B0048
def A.PWR_PDRAW : Nat := 0x080B0050
def A.PWR_POUT : Nat := 0x080B0058
def A.PWR_PLIMLINE : Nat := 0x080B0060
def A.PWR_PPEAK : Nat := 0x080B0068
def A.PWR_CHOPE : Nat := 0x080B0070
def A.PWR_SUPCTL : Nat := 0x080B0078
def A.PWR_CNT : Nat := 0x080B0080
def A.PWR_IEN : Nat := 0x080B0088
def A.PWR_BRKCTL : Nat := 0x080B0090
def A.PWR_BRKSTAT : Nat := 0x080B0098
def A.THM_STATUS : Nat := 0x080B0100
def A.THM_TB : Nat := 0x080B0108
def A.THM_AX_TJ (a : Nat) : Nat := 0x080B0800 + 0x20 * a
def A.THM_AX_Q (a : Nat) : Nat := 0x080B0808 + 0x20 * a
def A.THM_AX_LIM (a : Nat) : Nat := 0x080B0810 + 0x20 * a
def A.THM_AX_STAT (a : Nat) : Nat := 0x080B0818 + 0x20 * a
def A.ICU_CTL (c : Nat) : Nat := icuBase c + 0x0
def A.ICU_GDIS (c : Nat) : Nat := icuBase c + 0x8
def A.ICU_CLAIM (c : Nat) : Nat := icuBase c + 0x10
def A.ICU_STAT (c : Nat) : Nat := icuBase c + 0x18
def A.ICU_FCAUSE (c : Nat) : Nat := icuBase c + 0x20
def A.ICU_FADDR (c : Nat) : Nat := icuBase c + 0x28
def A.ICU_SWI (c : Nat) : Nat := icuBase c + 0x30
def A.ICU_MRGCNT (c : Nat) : Nat := icuBase c + 0x38
def A.ICU_PEND (c r : Nat) : Nat := icuBase c + 0x100 + 0x8 * r
def A.ICU_ACT (c r : Nat) : Nat := icuBase c + 0x200 + 0x8 * r
def A.ICU_CFG (c r : Nat) : Nat := icuBase c + 0x400 + 0x8 * r
def A.ICU_GRP (c g : Nat) : Nat := icuBase c + 0x800 + 0x8 * g
def A.DMA_CTL : Nat := 0x080D0000
def A.DMA_GSTART : Nat := 0x080D0008
def A.DMA_ABORTALL : Nat := 0x080D0010
def A.DMA_BUSY : Nat := 0x080D0018
def A.DMA_ECCSTAT : Nat := 0x080D0020
def A.DMA_ECCADDR : Nat := 0x080D0028
def A.DMA_ECCCNT : Nat := 0x080D0030
def A.DMA_CH_SRC (n : Nat) : Nat := 0x080D0100 + 0x40 * n
def A.DMA_CH_DST (n : Nat) : Nat := 0x080D0108 + 0x40 * n
def A.DMA_CH_CNT (n : Nat) : Nat := 0x080D0110 + 0x40 * n
def A.DMA_CH_STRIDE (n : Nat) : Nat := 0x080D0118 + 0x40 * n
def A.DMA_CH_CTL (n : Nat) : Nat := 0x080D0120 + 0x40 * n
def A.DMA_CH_STAT (n : Nat) : Nat := 0x080D0128 + 0x40 * n
def A.DMA_CH_ERRADDR (n : Nat) : Nat := 0x080D0130 + 0x40 * n
def A.FLC_CTL : Nat := 0x080E0000
def A.FLC_STATUS : Nat := 0x080E0008
def A.FLC_ALLOC : Nat := 0x080E0010
def A.FLC_ECCSTAT : Nat := 0x080E0018
def A.FLC_ECCADDR : Nat := 0x080E0020
def A.FLC_RECOVERY : Nat := 0x080E0028
def A.FLC_RSTINFO : Nat := 0x080E0030
def A.FLC_JSTAT : Nat := 0x080E0038
def A.FLC_D_ADDR (k : Nat) : Nat := 0x080E0100 + 0x20 * k
def A.FLC_D_SRC (k : Nat) : Nat := 0x080E0108 + 0x20 * k
def A.FLC_D_CTL (k : Nat) : Nat := 0x080E0110 + 0x20 * k
def A.FLC_D_STAT (k : Nat) : Nat := 0x080E0118 + 0x20 * k
def A.FAB_CTL : Nat := 0x080F0000
def A.FAB_CFGID : Nat := 0x080F0008
def A.FAB_NODE : Nat := 0x080F0010
def A.FAB_IDENT : Nat := 0x080F0018
def A.FAB_MAC : Nat := 0x080F0020
def A.FAB_STATUS : Nat := 0x080F0028
def A.FAB_IEN : Nat := 0x080F0030
def A.FAB_P_CTL (p : Nat) : Nat := 0x080F0100 + 0x80 * p
def A.FAB_P_STAT (p : Nat) : Nat := 0x080F0108 + 0x80 * p
def A.FAB_P_FRCNT (p : Nat) : Nat := 0x080F0110 + 0x80 * p
def A.FAB_P_ERRCNT (p : Nat) : Nat := 0x080F0118 + 0x80 * p
def A.FAB_P_DOWNCNT (p : Nat) : Nat := 0x080F0120 + 0x80 * p
def A.FAB_FARCTL : Nat := 0x080F0400
def A.FAB_FARSTAT : Nat := 0x080F0408
def A.FAB_FARADDR : Nat := 0x080F0410
def A.FAB_CYC_CTL : Nat := 0x080F1000
def A.FAB_CYC_REGION : Nat := 0x080F1008
def A.FAB_CYC_STAT : Nat := 0x080F1010
def A.FAB_CYC_CNT : Nat := 0x080F1018
def A.FAB_CYC_NO : Nat := 0x080F1020
def A.FAB_CYC_ARR : Nat := 0x080F1028
def A.FAB_CYC_IEN : Nat := 0x080F1030
def A.FAB_CYC_MAP (k : Nat) : Nat := 0x080F1100 + 0x8 * k
def A.FAB_TIME_CTL : Nat := 0x080F1400
def A.FAB_TIME_STAT : Nat := 0x080F1408
def A.FAB_TIME_OFS : Nat := 0x080F1410
def A.FAB_TIME_FREQ : Nat := 0x080F1418
def A.FAB_P_LDELAY (p : Nat) : Nat := 0x080F1420 + 0x8 * p
def A.FAB_TIME_IEN : Nat := 0x080F1430
def A.FAB_SESSCTL : Nat := 0x080F17F8
def A.FAB_SESS_STAT (s : Nat) : Nat := 0x080F1800 + 0x20 * s
def A.FAB_SESS_CNT (s : Nat) : Nat := 0x080F1808 + 0x20 * s
def A.FAB_SESS_CLOSE (s : Nat) : Nat := 0x080F1810 + 0x20 * s
def A.SAF_STATUS : Nat := 0x0C000000
def A.SAF_GATEEN : Nat := 0x0C000008
def A.SAF_STOCTL : Nat := 0x0C000010
def A.SAF_CONSENT : Nat := 0x0C000018
def A.SAF_ACK : Nat := 0x0C000020
def A.SAF_SS1 : Nat := 0x0C000028
def A.SAF_DISC : Nat := 0x0C000030
def A.SAF_MWDT : Nat := 0x0C000038
def A.SAF_MWDT_SVC : Nat := 0x0C000040
def A.SAF_MWDT_REM : Nat := 0x0C000048
def A.SAF_VIOL : Nat := 0x0C000050
def A.SAF_VIOLADDR : Nat := 0x0C000058
def A.SAF_FAULT : Nat := 0x0C000060
def A.SAF_NOTE : Nat := 0x0C000068
def A.SAF_SPD : Nat := 0x0C000070
def A.SAF_CWD (n : Nat) : Nat := 0x0C000080 + 0x8 * n
def A.SAF_CWD_REM (n : Nat) : Nat := 0x0C0000A0 + 0x8 * n
def A.SAF_AX_POS (a : Nat) : Nat := 0x0C000100 + 0x40 * a
def A.SAF_AX_SPD (a : Nat) : Nat := 0x0C000108 + 0x40 * a
def A.SAF_AX_SLS (a : Nat) : Nat := 0x0C000110 + 0x40 * a
def A.SAF_AX_CFG (a : Nat) : Nat := 0x0C000118 + 0x40 * a
def A.SAF_AX_STAT (a : Nat) : Nat := 0x0C000120 + 0x40 * a
def A.SAF_AX_RXCFG (a : Nat) : Nat := 0x0C000128 + 0x40 * a
def A.SAF_AX_RXSER (a : Nat) : Nat := 0x0C000130 + 0x40 * a
def A.CRY_CTL : Nat := 0x08130000
def A.CRY_SRC : Nat := 0x08130008
def A.CRY_LEN : Nat := 0x08130010
def A.CRY_KEY : Nat := 0x08130018
def A.CRY_SIG : Nat := 0x08130020
def A.CRY_DST : Nat := 0x08130028
def A.CRY_CMD : Nat := 0x08130030
def A.CRY_STAT : Nat := 0x08130038
def A.CRY_OTPSTAT : Nat := 0x08130040
def A.CRY_BOOTINFO : Nat := 0x08130048
def A.CRY_SAFVER : Nat := 0x08130050
def A.CRY_APPVER : Nat := 0x08130058
def A.CRY_COMMITSTAT : Nat := 0x08130060
def A.CRY_SAFDIG (k : Nat) : Nat := 0x08130080 + 0x8 * k
def A.CRY_APPDIG (k : Nat) : Nat := 0x081300B0 + 0x8 * k
def A.AON_WAKECFG : Nat := 0x08100000
def A.AON_WAKESTAT : Nat := 0x08100008
def A.AON_TMR : Nat := 0x08100010
def A.AON_PADREL : Nat := 0x08100018
def A.AON_DIODIR : Nat := 0x08100020
def A.AON_DIOOUT : Nat := 0x08100028
def A.AON_DIOIN : Nat := 0x08100030
def A.AON_SAVESTAT : Nat := 0x08100038
def A.AON_DCYC : Nat := 0x08100040
def A.AON_PWRSTAT : Nat := 0x08100048
def A.AON_CWDSVC (n : Nat) : Nat := 0x08100060 + 0x8 * n
def A.DBG_CTL : Nat := 0x08110000
def A.DBG_STATUS : Nat := 0x08110008
def A.DBG_AUTHSTAT : Nat := 0x08110010
def A.DBG_AUTHCMD : Nat := 0x08110018
def A.DBG_AUTHNONCE (k : Nat) : Nat := 0x08110020 + 0x8 * k
def A.DBG_AUTHSIG (k : Nat) : Nat := 0x08110050 + 0x8 * k
def A.DBG_C_CTL (c : Nat) : Nat := 0x08110100 + 0x100 * c
def A.DBG_C_CMD (c : Nat) : Nat := 0x08110108 + 0x100 * c
def A.DBG_C_STAT (c : Nat) : Nat := 0x08110110 + 0x100 * c
def A.DBG_C_WADDR (c : Nat) : Nat := 0x08110118 + 0x100 * c
def A.DBG_C_BP (c k : Nat) : Nat := 0x08110120 + 0x100 * c + 0x8 * k
def A.DBG_C_WP (c k : Nat) : Nat := 0x08110160 + 0x100 * c + 0x8 * k
def A.DBG_C_TXD (c : Nat) : Nat := 0x08110180 + 0x100 * c
def A.DBG_C_RXD (c : Nat) : Nat := 0x08110188 + 0x100 * c
def A.DBG_C_VTSTAT (c : Nat) : Nat := 0x08110190 + 0x100 * c
def A.TST_CTL : Nat := 0x08120000
def A.TST_SAF : Nat := 0x08120008
def A.TST_FABDLY : Nat := 0x08120010
def A.TST_FABDROP : Nat := 0x08120018
def A.TST_DMABP : Nat := 0x08120020
def A.TST_LANE : Nat := 0x08120028
def A.TST_ADCDLY : Nat := 0x08120030
def A.TST_FLCSTR : Nat := 0x08120038
def A.TST_JIT : Nat := 0x08120040
def A.EVR_MRG (r : Nat) : Nat := 0x080A0D00 + 0x8 * r

def F.SYS_ID_HWREV : Fld := ⟨A.SYS_ID, 0, 8⟩
def F.SYS_ID_PART : Fld := ⟨A.SYS_ID, 16, 16⟩
def F.SYS_MODE_MODE : Fld := ⟨A.SYS_MODE, 0, 3⟩
def F.SYS_MODEREQ_TARGET : Fld := ⟨A.SYS_MODEREQ, 0, 3⟩
def F.SYS_MODEREQ_END : Fld := ⟨A.SYS_MODEREQ, 4, 1⟩
def F.SYS_MODESTAT_PEND : Fld := ⟨A.SYS_MODESTAT, 0, 1⟩
def F.SYS_MODESTAT_REQ_LOST : Fld := ⟨A.SYS_MODESTAT, 1, 1⟩
def F.SYS_MODESTAT_REFUSED : Fld := ⟨A.SYS_MODESTAT, 2, 1⟩
def F.SYS_MODESTAT_RST_PENDING : Fld := ⟨A.SYS_MODESTAT, 3, 1⟩
def F.SYS_MODESTAT_REASON : Fld := ⟨A.SYS_MODESTAT, 4, 4⟩
def F.SYS_MODESTAT_LAST_FROM : Fld := ⟨A.SYS_MODESTAT, 8, 3⟩
def F.SYS_MODESTAT_LAST_TO : Fld := ⟨A.SYS_MODESTAT, 11, 3⟩
def F.SYS_MODESTAT_SS_CAUSE : Fld := ⟨A.SYS_MODESTAT, 16, 3⟩
def F.SYS_READY_SAF : Fld := ⟨A.SYS_READY, 0, 1⟩
def F.SYS_READY_FLASH : Fld := ⟨A.SYS_READY, 1, 1⟩
def F.SYS_READY_CFG : Fld := ⟨A.SYS_READY, 2, 1⟩
def F.SYS_READY_TICK : Fld := ⟨A.SYS_READY, 3, 1⟩
def F.SYS_READY_DRAM : Fld := ⟨A.SYS_READY, 4, 1⟩
def F.SYS_READY_FABM : Fld := ⟨A.SYS_READY, 5, 1⟩
def F.SYS_READY_FABC : Fld := ⟨A.SYS_READY, 6, 1⟩
def F.SYS_READY_ADC : Fld := ⟨A.SYS_READY, 7, 1⟩
def F.SYS_READY_APP : Fld := ⟨A.SYS_READY, 8, 4⟩
def F.SYS_READY_BUS : Fld := ⟨A.SYS_READY, 12, 1⟩
def F.SYS_READY_GEY50 : Fld := ⟨A.SYS_READY, 13, 1⟩
def F.SYS_READY_LE : Fld := ⟨A.SYS_READY, 14, 1⟩
def F.SYS_READYCHG_CHG : Fld := ⟨A.SYS_READYCHG, 0, 15⟩
def F.SYS_RSTCAUSE_POR : Fld := ⟨A.SYS_RSTCAUSE, 0, 1⟩
def F.SYS_RSTCAUSE_BROWNOUT : Fld := ⟨A.SYS_RSTCAUSE, 1, 1⟩
def F.SYS_RSTCAUSE_MWDT : Fld := ⟨A.SYS_RSTCAUSE, 2, 1⟩
def F.SYS_RSTCAUSE_LOCKSTEP : Fld := ⟨A.SYS_RSTCAUSE, 3, 1⟩
def F.SYS_RSTCAUSE_REQ_S : Fld := ⟨A.SYS_RSTCAUSE, 4, 1⟩
def F.SYS_RSTCAUSE_REQ_A : Fld := ⟨A.SYS_RSTCAUSE, 5, 1⟩
def F.SYS_RSTCAUSE_HOST : Fld := ⟨A.SYS_RSTCAUSE, 6, 1⟩
def F.SYS_RSTCAUSE_DEBUG : Fld := ⟨A.SYS_RSTCAUSE, 7, 1⟩
def F.SYS_RSTCAUSE_WAKE_FAIL : Fld := ⟨A.SYS_RSTCAUSE, 8, 1⟩
def F.SYS_RSTCAUSE_DEFERRED : Fld := ⟨A.SYS_RSTCAUSE, 9, 1⟩
def F.SYS_RSTCAUSE_HARDCUT : Fld := ⟨A.SYS_RSTCAUSE, 10, 1⟩
def F.SYS_RSTCAUSE_PREV_PREV : Fld := ⟨A.SYS_RSTCAUSE_PREV, 0, 48⟩
def F.SYS_RSTCNT_N_WDT : Fld := ⟨A.SYS_RSTCNT, 0, 16⟩
def F.SYS_RSTCNT_N_REQ : Fld := ⟨A.SYS_RSTCNT, 16, 16⟩
def F.SYS_RSTCNT_N_OTHER : Fld := ⟨A.SYS_RSTCNT, 32, 16⟩
def F.SYS_RSTREQ_CMD : Fld := ⟨A.SYS_RSTREQ, 0, 8⟩
def F.SYS_CORERST_HOLD : Fld := ⟨A.SYS_CORERST, 0, 4⟩
def F.SYS_CORERST_LOCK_ERR : Fld := ⟨A.SYS_CORERST, 4, 1⟩
def F.SYS_CORECAUSE_WDT (n : Nat) : Fld := ⟨A.SYS_CORECAUSE, 4 * n + 0, 1⟩
def F.SYS_CORECAUSE_REQ (n : Nat) : Fld := ⟨A.SYS_CORECAUSE, 4 * n + 1, 1⟩
def F.SYS_CORECAUSE_DBG (n : Nat) : Fld := ⟨A.SYS_CORECAUSE, 4 * n + 2, 1⟩
def F.SYS_BOOTSTAT_HOLD : Fld := ⟨A.SYS_BOOTSTAT, 0, 1⟩
def F.SYS_BOOTSTAT_SAF_IMG_BAD : Fld := ⟨A.SYS_BOOTSTAT, 1, 1⟩
def F.SYS_BOOTSTAT_APP_IMG_BAD : Fld := ⟨A.SYS_BOOTSTAT, 2, 1⟩
def F.SYS_BOOTSTAT_SAF_SLOT : Fld := ⟨A.SYS_BOOTSTAT, 3, 1⟩
def F.SYS_BOOTSTAT_APP_SLOT : Fld := ⟨A.SYS_BOOTSTAT, 4, 1⟩
def F.SYS_BOOTSTAT_HALF_ERASED : Fld := ⟨A.SYS_BOOTSTAT, 5, 1⟩
def F.SYS_BOOTSTAT_BOOT_MS : Fld := ⟨A.SYS_BOOTSTAT, 6, 10⟩
def F.SYS_LBIST_VALID : Fld := ⟨A.SYS_LBIST, 0, 1⟩
def F.SYS_LBIST_APP_PASS : Fld := ⟨A.SYS_LBIST, 1, 1⟩
def F.SYS_LBIST_SAF_PASS : Fld := ⟨A.SYS_LBIST, 2, 1⟩
def F.SYS_KEY_KEY : Fld := ⟨A.SYS_KEY, 0, 16⟩
def F.CFGRPT_STATUS_DONE : Fld := ⟨A.CFGRPT_STATUS, 0, 1⟩
def F.CFGRPT_STATUS_COPY : Fld := ⟨A.CFGRPT_STATUS, 1, 2⟩
def F.CFGRPT_STATUS_HALF_WRITTEN : Fld := ⟨A.CFGRPT_STATUS, 3, 1⟩
def F.CFGRPT_STATUS_CORRUPT : Fld := ⟨A.CFGRPT_STATUS, 4, 1⟩
def F.CFGRPT_STATUS_SEQ_EQUAL : Fld := ⟨A.CFGRPT_STATUS, 5, 1⟩
def F.CFGRPT_STATUS_SIGNED : Fld := ⟨A.CFGRPT_STATUS, 6, 1⟩
def F.CFGRPT_STATUS_SIG_OK : Fld := ⟨A.CFGRPT_STATUS, 7, 1⟩
def F.CFGRPT_STATUS_TRUNC : Fld := ⟨A.CFGRPT_STATUS, 8, 1⟩
def F.CFGRPT_STATUS_NENTRY : Fld := ⟨A.CFGRPT_STATUS, 9, 13⟩
def F.CFGRPT_SEQ_SEQ : Fld := ⟨A.CFGRPT_SEQ, 0, 32⟩
def F.CFGRPT_COUNT1_N_ACCEPT : Fld := ⟨A.CFGRPT_COUNT1, 0, 12⟩
def F.CFGRPT_COUNT1_N_CLAMP : Fld := ⟨A.CFGRPT_COUNT1, 12, 12⟩
def F.CFGRPT_COUNT1_N_DEFAULT : Fld := ⟨A.CFGRPT_COUNT1, 24, 12⟩
def F.CFGRPT_COUNT1_N_UNKNOWN : Fld := ⟨A.CFGRPT_COUNT1, 36, 12⟩
def F.CFGRPT_COUNT2_N_BAD : Fld := ⟨A.CFGRPT_COUNT2, 0, 12⟩
def F.CFGRPT_COUNT2_N_LOCKED : Fld := ⟨A.CFGRPT_COUNT2, 12, 12⟩
def F.CFGRPT_COUNT2_N_DUP : Fld := ⟨A.CFGRPT_COUNT2, 24, 12⟩
def F.CFGRPT_DIGEST_DIGEST (k : Nat) : Fld := ⟨A.CFGRPT_DIGEST k, 0, 48⟩
def F.CFGRPT_ENTRY_RECNO (i : Nat) : Fld := ⟨A.CFGRPT_ENTRY i, 0, 10⟩
def F.CFGRPT_ENTRY_OUTCOME (i : Nat) : Fld := ⟨A.CFGRPT_ENTRY i, 12, 3⟩
def F.CFGRPT_ENTRY_DUP (i : Nat) : Fld := ⟨A.CFGRPT_ENTRY i, 15, 1⟩
def F.CFGRPT_ENTRY_INST (i : Nat) : Fld := ⟨A.CFGRPT_ENTRY i, 16, 8⟩
def F.CFGRPT_ENTRY_FIELD (i : Nat) : Fld := ⟨A.CFGRPT_ENTRY i, 24, 16⟩
def F.CFGRPT_ENTRY_BLOCK (i : Nat) : Fld := ⟨A.CFGRPT_ENTRY i, 40, 8⟩
def F.TICK_CTL_FRZ : Fld := ⟨A.TICK_CTL, 0, 1⟩
def F.TICK_CTL_FRZCORE : Fld := ⟨A.TICK_CTL, 1, 2⟩
def F.TICK_FRAME_COUNTS : Fld := ⟨A.TICK_FRAME, 0, 20⟩
def F.TICK_FCYC_MM1 : Fld := ⟨A.TICK_FCYC, 0, 4⟩
def F.TICK_STATUS_RUNNING : Fld := ⟨A.TICK_STATUS, 0, 1⟩
def F.TICK_STATUS_RATIO_ERR : Fld := ⟨A.TICK_STATUS, 1, 6⟩
def F.TICK_STATUS_WR_REFUSED : Fld := ⟨A.TICK_STATUS, 7, 1⟩
def F.TICK_STATUS_STEPPED : Fld := ⟨A.TICK_STATUS, 8, 1⟩
def F.TICK_STATUS_TSTEP : Fld := ⟨A.TICK_STATUS, 9, 1⟩
def F.TICK_STATUS_APPROX : Fld := ⟨A.TICK_STATUS, 10, 1⟩
def F.TICK_STATUS_DISC : Fld := ⟨A.TICK_STATUS, 11, 1⟩
def F.TICK_FRAMECNT_COUNT : Fld := ⟨A.TICK_FRAMECNT, 0, 48⟩
def F.TICK_FRAMENO_IDX : Fld := ⟨A.TICK_FRAMENO, 0, 4⟩
def F.TICK_PHASE_PHASE : Fld := ⟨A.TICK_PHASE, 0, 20⟩
def F.SYSTIME_NS_NS : Fld := ⟨A.SYSTIME_NS, 0, 48⟩
def F.SYSTIME_EPOCH_EPOCH : Fld := ⟨A.SYSTIME_EPOCH, 0, 32⟩
def F.TICK_DONE_DONE : Fld := ⟨A.TICK_DONE, 0, 16⟩
def F.TICK_OVR_SLOT : Fld := ⟨A.TICK_OVR, 0, 16⟩
def F.TICK_OVR_LANE : Fld := ⟨A.TICK_OVR, 16, 6⟩
def F.TICK_OVR_FABINS : Fld := ⟨A.TICK_OVR, 22, 1⟩
def F.TICK_SLOT_EN (n : Nat) : Fld := ⟨A.TICK_SLOT n, 0, 1⟩
def F.TICK_SLOT_ACORE (n : Nat) : Fld := ⟨A.TICK_SLOT n, 1, 2⟩
def F.TICK_SLOT_DIV (n : Nat) : Fld := ⟨A.TICK_SLOT n, 3, 4⟩
def F.TICK_SLOT_OFS (n : Nat) : Fld := ⟨A.TICK_SLOT n, 7, 4⟩
def F.TICK_SLOT_PEND (n : Nat) : Fld := ⟨A.TICK_SLOT n, 16, 1⟩
def F.TICK_SLOT_OVRCNT (n : Nat) : Fld := ⟨A.TICK_SLOT n, 24, 8⟩
def F.TMR_GSTART_START : Fld := ⟨A.TMR_GSTART, 0, 16⟩
def F.TMR_GSTOP_STOP : Fld := ⟨A.TMR_GSTOP, 0, 16⟩
def F.TMR_GSTART_EV_MASK : Fld := ⟨A.TMR_GSTART_EV, 0, 16⟩
def F.TMR_GSTART_EV_EN : Fld := ⟨A.TMR_GSTART_EV, 16, 1⟩
def F.TMR_RUN_RUN : Fld := ⟨A.TMR_RUN, 0, 16⟩
def F.TMR_T_CTL_FRZ (n : Nat) : Fld := ⟨A.TMR_T_CTL n, 0, 1⟩
def F.TMR_T_CTL_FRZCORE (n : Nat) : Fld := ⟨A.TMR_T_CTL n, 1, 2⟩
def F.TMR_T_CTL_TICKRST (n : Nat) : Fld := ⟨A.TMR_T_CTL n, 3, 1⟩
def F.TMR_T_CTL_CMPEN (n : Nat) : Fld := ⟨A.TMR_T_CTL n, 4, 4⟩
def F.TMR_T_CTL_CAPEN0 (n : Nat) : Fld := ⟨A.TMR_T_CTL n, 8, 1⟩
def F.TMR_T_CTL_CAPEN1 (n : Nat) : Fld := ⟨A.TMR_T_CTL n, 9, 1⟩
def F.TMR_T_CTL_PRE (n : Nat) : Fld := ⟨A.TMR_T_CTL n, 10, 16⟩
def F.TMR_T_COUNT_COUNT (n : Nat) : Fld := ⟨A.TMR_T_COUNT n, 0, 48⟩
def F.TMR_T_RELOAD_RELOAD (n : Nat) : Fld := ⟨A.TMR_T_RELOAD n, 0, 48⟩
def F.TMR_T_CMP_C (n k : Nat) : Fld := ⟨A.TMR_T_CMP n k, 0, 48⟩
def F.TMR_T_CAP0_COUNT (n : Nat) : Fld := ⟨A.TMR_T_CAP0 n, 0, 48⟩
def F.TMR_T_CAP1_COUNT (n : Nat) : Fld := ⟨A.TMR_T_CAP1 n, 0, 48⟩
def F.TMR_T_CAPINFO_VALID (n k : Nat) : Fld := ⟨A.TMR_T_CAPINFO n k, 0, 1⟩
def F.TMR_T_CAPINFO_LEVEL (n k : Nat) : Fld := ⟨A.TMR_T_CAPINFO n k, 1, 3⟩
def F.TMR_T_CAPINFO_OVF (n k : Nat) : Fld := ⟨A.TMR_T_CAPINFO n k, 4, 4⟩
def F.TMR_T_FLAG_MATCH (n : Nat) : Fld := ⟨A.TMR_T_FLAG n, 0, 4⟩
def F.TMR_T_FLAG_WRAP (n : Nat) : Fld := ⟨A.TMR_T_FLAG n, 4, 1⟩
def F.TMR_T_FLAG_CAPOVF0 (n : Nat) : Fld := ⟨A.TMR_T_FLAG n, 5, 1⟩
def F.TMR_T_FLAG_CAPOVF1 (n : Nat) : Fld := ⟨A.TMR_T_FLAG n, 6, 1⟩
def F.TMR_T_FLAG_CMP_RANGE (n : Nat) : Fld := ⟨A.TMR_T_FLAG n, 7, 4⟩
def F.TMR_T_FLAG_WR_RUN (n : Nat) : Fld := ⟨A.TMR_T_FLAG n, 11, 1⟩
def F.TMR_T_FLAG_CAPNE0 (n : Nat) : Fld := ⟨A.TMR_T_FLAG n, 12, 1⟩
def F.TMR_T_FLAG_CAPNE1 (n : Nat) : Fld := ⟨A.TMR_T_FLAG n, 13, 1⟩
def F.TMR_T_IEN_IEN (n : Nat) : Fld := ⟨A.TMR_T_IEN n, 0, 14⟩
def F.PWM_CTL_FRZ : Fld := ⟨A.PWM_CTL, 0, 1⟩
def F.PWM_CTL_FRZCORE : Fld := ⟨A.PWM_CTL, 1, 2⟩
def F.PWM_TRIPSUM_TRIP : Fld := ⟨A.PWM_TRIPSUM, 0, 24⟩
def F.PWM_Q_CTL_EN (q : Nat) : Fld := ⟨A.PWM_Q_CTL q, 0, 1⟩
def F.PWM_Q_CTL_UPD (q : Nat) : Fld := ⟨A.PWM_Q_CTL q, 1, 2⟩
def F.PWM_Q_CTL_MPMODE (q : Nat) : Fld := ⟨A.PWM_Q_CTL q, 3, 1⟩
def F.PWM_Q_CTL_BSMODE (q : Nat) : Fld := ⟨A.PWM_Q_CTL q, 4, 1⟩
def F.PWM_Q_PERIOD_PEAK (q : Nat) : Fld := ⟨A.PWM_Q_PERIOD q, 0, 15⟩
def F.PWM_Q_PHASE_OFS (q : Nat) : Fld := ⟨A.PWM_Q_PHASE q, 0, 16⟩
def F.PWM_Q_DT_DT (q : Nat) : Fld := ⟨A.PWM_Q_DT q, 0, 10⟩
def F.PWM_Q_BOOT_BSMAX (q : Nat) : Fld := ⟨A.PWM_Q_BOOT q, 0, 8⟩
def F.PWM_Q_BOOT_BSPW (q : Nat) : Fld := ⟨A.PWM_Q_BOOT q, 8, 10⟩
def F.PWM_Q_STATUS_RUNNING (q : Nat) : Fld := ⟨A.PWM_Q_STATUS q, 0, 1⟩
def F.PWM_Q_STATUS_RATIO (q : Nat) : Fld := ⟨A.PWM_Q_STATUS q, 1, 1⟩
def F.PWM_Q_STATUS_WR_REFUSED (q : Nat) : Fld := ⟨A.PWM_Q_STATUS q, 2, 1⟩
def F.PWM_Q_STATUS_OFS_ERR (q : Nat) : Fld := ⟨A.PWM_Q_STATUS q, 3, 1⟩
def F.PWM_Q_CNT_POS (q : Nat) : Fld := ⟨A.PWM_Q_CNT q, 0, 16⟩
def F.PWM_Q_CNT_DIR (q : Nat) : Fld := ⟨A.PWM_Q_CNT q, 16, 1⟩
def F.PWM_Q_SWTRIP_TRIP (q : Nat) : Fld := ⟨A.PWM_Q_SWTRIP q, 0, 4⟩
def F.PWM_AX_DUTYU_D (a : Nat) : Fld := ⟨A.PWM_AX_DUTYU a, 0, 20⟩
def F.PWM_AX_DUTYV_D (a : Nat) : Fld := ⟨A.PWM_AX_DUTYV a, 0, 20⟩
def F.PWM_AX_DUTYW_D (a : Nat) : Fld := ⟨A.PWM_AX_DUTYW a, 0, 20⟩
def F.PWM_AX_CTL_OEN (a : Nat) : Fld := ⟨A.PWM_AX_CTL a, 0, 1⟩
def F.PWM_AX_CTL_DSRC (a : Nat) : Fld := ⟨A.PWM_AX_CTL a, 1, 1⟩
def F.PWM_AX_CTL_TRIPSTU (a : Nat) : Fld := ⟨A.PWM_AX_CTL a, 2, 2⟩
def F.PWM_AX_CTL_TRIPSTV (a : Nat) : Fld := ⟨A.PWM_AX_CTL a, 4, 2⟩
def F.PWM_AX_CTL_TRIPSTW (a : Nat) : Fld := ⟨A.PWM_AX_CTL a, 6, 2⟩
def F.PWM_AX_STATUS_ARM (a : Nat) : Fld := ⟨A.PWM_AX_STATUS a, 0, 1⟩
def F.PWM_AX_STATUS_GEN (a : Nat) : Fld := ⟨A.PWM_AX_STATUS a, 1, 1⟩
def F.PWM_AX_STATUS_TRIPIN (a : Nat) : Fld := ⟨A.PWM_AX_STATUS a, 2, 1⟩
def F.PWM_AX_STATUS_TRIP (a : Nat) : Fld := ⟨A.PWM_AX_STATUS a, 3, 1⟩
def F.PWM_AX_STATUS_OVWR (a : Nat) : Fld := ⟨A.PWM_AX_STATUS a, 4, 1⟩
def F.PWM_AX_STATUS_WR_OWNED (a : Nat) : Fld := ⟨A.PWM_AX_STATUS a, 5, 1⟩
def F.PWM_AX_STATUS_UVLO (a : Nat) : Fld := ⟨A.PWM_AX_STATUS a, 6, 3⟩
def F.PWM_AX_STATUS_LS_ERR (a : Nat) : Fld := ⟨A.PWM_AX_STATUS a, 9, 1⟩
def F.PWM_AX_STATUS_CFG_ERR (a : Nat) : Fld := ⟨A.PWM_AX_STATUS a, 10, 1⟩
def F.PWM_AX_CNT_TRIPCNT (a : Nat) : Fld := ⟨A.PWM_AX_CNT a, 0, 8⟩
def F.PWM_AX_CNT_MPCNT (a : Nat) : Fld := ⟨A.PWM_AX_CNT a, 8, 16⟩
def F.PWM_AX_CNT_BSCNT (a : Nat) : Fld := ⟨A.PWM_AX_CNT a, 24, 16⟩
def F.ADC_CTL_FRZ : Fld := ⟨A.ADC_CTL, 0, 1⟩
def F.ADC_CTL_FRZCORE : Fld := ⟨A.ADC_CTL, 1, 2⟩
def F.ADC_CTL_ZTHR : Fld := ⟨A.ADC_CTL, 8, 8⟩
def F.ADC_CTL_ZFR : Fld := ⟨A.ADC_CTL, 16, 8⟩
def F.ADC_STATUS_CALDONE : Fld := ⟨A.ADC_STATUS, 0, 1⟩
def F.ADC_STATUS_CALBUSY : Fld := ⟨A.ADC_STATUS, 1, 1⟩
def F.ADC_STATUS_CALFAIL : Fld := ⟨A.ADC_STATUS, 2, 1⟩
def F.ADC_STATUS_TRIM_MISSING : Fld := ⟨A.ADC_STATUS, 3, 1⟩
def F.ADC_STATUS_CALREFUSED : Fld := ⟨A.ADC_STATUS, 4, 1⟩
def F.ADC_CALREQ_CMD : Fld := ⟨A.ADC_CALREQ, 0, 8⟩
def F.ADC_CALERR_AXIS : Fld := ⟨A.ADC_CALERR, 0, 24⟩
def F.ADC_CALERR_AUX : Fld := ⟨A.ADC_CALERR, 24, 6⟩
def F.ADC_Q_SAMP_SP0 (q : Nat) : Fld := ⟨A.ADC_Q_SAMP q, 0, 16⟩
def F.ADC_Q_SAMP_SP1 (q : Nat) : Fld := ⟨A.ADC_Q_SAMP q, 16, 16⟩
def F.ADC_Q_SAMP_DBL (q : Nat) : Fld := ⟨A.ADC_Q_SAMP q, 32, 1⟩
def F.ADC_Q_STATUS_RUNNING (q : Nat) : Fld := ⟨A.ADC_Q_STATUS q, 0, 1⟩
def F.ADC_Q_STATUS_SP_ERR (q : Nat) : Fld := ⟨A.ADC_Q_STATUS q, 1, 1⟩
def F.ADC_Q_STATUS_WR_REFUSED (q : Nat) : Fld := ⟨A.ADC_Q_STATUS q, 2, 1⟩
def F.ADC_Q_VBUS_V (q : Nat) : Fld := ⟨A.ADC_Q_VBUS q, 0, 48⟩
def F.ADC_Q_TQ_T (q : Nat) : Fld := ⟨A.ADC_Q_TQ q, 0, 48⟩
def F.ADC_Q_XIN_X (q : Nat) : Fld := ⟨A.ADC_Q_XIN q, 0, 48⟩
def F.ADC_Q_ENC5V_V (q : Nat) : Fld := ⟨A.ADC_Q_ENC5V q, 0, 48⟩
def F.ADC_Q_AUXSTAT_VALID (q : Nat) : Fld := ⟨A.ADC_Q_AUXSTAT q, 0, 4⟩
def F.ADC_Q_AUXSTAT_UNCAL (q : Nat) : Fld := ⟨A.ADC_Q_AUXSTAT q, 4, 1⟩
def F.ADC_AX_IU_I (a : Nat) : Fld := ⟨A.ADC_AX_IU a, 0, 48⟩
def F.ADC_AX_IV_I (a : Nat) : Fld := ⟨A.ADC_AX_IV a, 0, 48⟩
def F.ADC_AX_IW_I (a : Nat) : Fld := ⟨A.ADC_AX_IW a, 0, 48⟩
def F.ADC_AX_ISTAT_VALID (a : Nat) : Fld := ⟨A.ADC_AX_ISTAT a, 0, 1⟩
def F.ADC_AX_ISTAT_STALE (a : Nat) : Fld := ⟨A.ADC_AX_ISTAT a, 1, 1⟩
def F.ADC_AX_ISTAT_SIDX (a : Nat) : Fld := ⟨A.ADC_AX_ISTAT a, 8, 7⟩
def F.ADC_AX_ISTAT_FRAME (a : Nat) : Fld := ⟨A.ADC_AX_ISTAT a, 16, 16⟩
def F.ADC_AX_FLAG_CLIP_U (a : Nat) : Fld := ⟨A.ADC_AX_FLAG a, 0, 1⟩
def F.ADC_AX_FLAG_CLIP_V (a : Nat) : Fld := ⟨A.ADC_AX_FLAG a, 1, 1⟩
def F.ADC_AX_FLAG_WRANGE (a : Nat) : Fld := ⟨A.ADC_AX_FLAG a, 2, 1⟩
def F.ADC_AX_FLAG_DRIFT (a : Nat) : Fld := ⟨A.ADC_AX_FLAG a, 3, 1⟩
def F.ADC_AX_FLAG_CALERR_U (a : Nat) : Fld := ⟨A.ADC_AX_FLAG a, 4, 1⟩
def F.ADC_AX_FLAG_CALERR_V (a : Nat) : Fld := ⟨A.ADC_AX_FLAG a, 5, 1⟩
def F.ADC_AX_FLAG_GAIN_DEV_U (a : Nat) : Fld := ⟨A.ADC_AX_FLAG a, 6, 1⟩
def F.ADC_AX_FLAG_GAIN_DEV_V (a : Nat) : Fld := ⟨A.ADC_AX_FLAG a, 7, 1⟩
def F.ADC_AX_FLAG_TRIM_MISSING (a : Nat) : Fld := ⟨A.ADC_AX_FLAG a, 8, 1⟩
def F.ADC_AX_OFS_OFSU (a : Nat) : Fld := ⟨A.ADC_AX_OFS a, 0, 16⟩
def F.ADC_AX_OFS_OFSV (a : Nat) : Fld := ⟨A.ADC_AX_OFS a, 16, 16⟩
def F.ADC_AX_GAIN_GAINU (a : Nat) : Fld := ⟨A.ADC_AX_GAIN a, 0, 24⟩
def F.ADC_AX_GAIN_GAINV (a : Nat) : Fld := ⟨A.ADC_AX_GAIN a, 24, 24⟩
def F.ADC_AX_RAW_RAWU (a : Nat) : Fld := ⟨A.ADC_AX_RAW a, 0, 14⟩
def F.ADC_AX_RAW_RAWV (a : Nat) : Fld := ⟨A.ADC_AX_RAW a, 16, 14⟩
def F.CMP_CTL_FRZ : Fld := ⟨A.CMP_CTL, 0, 1⟩
def F.CMP_CTL_FRZCORE : Fld := ⟨A.CMP_CTL, 1, 2⟩
def F.CMP_LATSUM0_LATCH : Fld := ⟨A.CMP_LATSUM0, 0, 48⟩
def F.CMP_LATSUM1_LATCH : Fld := ⟨A.CMP_LATSUM1, 0, 10⟩
def F.CMP_CLRALL_CMD : Fld := ⟨A.CMP_CLRALL, 0, 8⟩
def F.CMP_EXT_ROUTE_AXIS (n : Nat) : Fld := ⟨A.CMP_EXT_ROUTE n, 0, 24⟩
def F.CMP_CH_THR_HI (n : Nat) : Fld := ⟨A.CMP_CH_THR n, 0, 10⟩
def F.CMP_CH_THR_LO (n : Nat) : Fld := ⟨A.CMP_CH_THR n, 16, 10⟩
def F.CMP_CH_CFG_TRIPEN_HI (n : Nat) : Fld := ⟨A.CMP_CH_CFG n, 0, 1⟩
def F.CMP_CH_CFG_TRIPEN_LO (n : Nat) : Fld := ⟨A.CMP_CH_CFG n, 1, 1⟩
def F.CMP_CH_CFG_MAJ (n : Nat) : Fld := ⟨A.CMP_CH_CFG n, 2, 1⟩
def F.CMP_CH_CFG_CLR (n : Nat) : Fld := ⟨A.CMP_CH_CFG n, 3, 2⟩
def F.CMP_CH_CFG_BSRC (n : Nat) : Fld := ⟨A.CMP_CH_CFG n, 5, 4⟩
def F.CMP_CH_CFG_BTMR (n : Nat) : Fld := ⟨A.CMP_CH_CFG n, 9, 4⟩
def F.CMP_CH_CFG_BLK (n : Nat) : Fld := ⟨A.CMP_CH_CFG n, 13, 9⟩
def F.CMP_CH_CFG_SAMP (n : Nat) : Fld := ⟨A.CMP_CH_CFG n, 22, 1⟩
def F.CMP_CH_CFG_SOFS (n : Nat) : Fld := ⟨A.CMP_CH_CFG n, 23, 20⟩
def F.CMP_CH_STAT_OUT (n : Nat) : Fld := ⟨A.CMP_CH_STAT n, 0, 1⟩
def F.CMP_CH_STAT_LATCH (n : Nat) : Fld := ⟨A.CMP_CH_STAT n, 1, 1⟩
def F.CMP_CH_STAT_EDGE_HI (n : Nat) : Fld := ⟨A.CMP_CH_STAT n, 2, 1⟩
def F.CMP_CH_STAT_EDGE_LO (n : Nat) : Fld := ⟨A.CMP_CH_STAT n, 3, 1⟩
def F.CMP_CH_STAT_CLRFAIL (n : Nat) : Fld := ⟨A.CMP_CH_STAT n, 4, 1⟩
def F.CMP_CH_STAT_THR_ERR (n : Nat) : Fld := ⟨A.CMP_CH_STAT n, 5, 1⟩
def F.CMP_CH_STAT_SOFS_ERR (n : Nat) : Fld := ⟨A.CMP_CH_STAT n, 6, 1⟩
def F.CMP_CH_STAT_CFG_ERR (n : Nat) : Fld := ⟨A.CMP_CH_STAT n, 7, 1⟩
def F.CMP_CH_STAT_WR_REFUSED (n : Nat) : Fld := ⟨A.CMP_CH_STAT n, 8, 1⟩
def F.CMP_CH_STAT_ECNT (n : Nat) : Fld := ⟨A.CMP_CH_STAT n, 16, 8⟩
def F.CMP_CH_IEN_IEN (n : Nat) : Fld := ⟨A.CMP_CH_IEN n, 0, 9⟩
def F.LE_CTL_FRZ : Fld := ⟨A.LE_CTL, 0, 1⟩
def F.LE_CTL_FRZCORE : Fld := ⟨A.LE_CTL, 1, 2⟩
def F.LE_CTL_RDACT : Fld := ⟨A.LE_CTL, 3, 1⟩
def F.LE_PARAM_COMMIT_AXIS : Fld := ⟨A.LE_PARAM_COMMIT, 0, 24⟩
def F.LE_COMMIT_PEND_PEND : Fld := ⟨A.LE_COMMIT_PEND, 0, 24⟩
def F.LE_COMMIT_EV_MASK : Fld := ⟨A.LE_COMMIT_EV, 0, 24⟩
def F.LE_COMMIT_EV_EN : Fld := ⟨A.LE_COMMIT_EV, 24, 1⟩
def F.LE_STATUS_RUN : Fld := ⟨A.LE_STATUS, 0, 6⟩
def F.LE_Q_STATUS_RUNNING (q : Nat) : Fld := ⟨A.LE_Q_STATUS q, 0, 1⟩
def F.LE_Q_STATUS_NOCARRIER (q : Nat) : Fld := ⟨A.LE_Q_STATUS q, 1, 1⟩
def F.LE_Q_STATUS_NOSAMP (q : Nat) : Fld := ⟨A.LE_Q_STATUS q, 2, 1⟩
def F.LE_Q_STATUS_NOCAL (q : Nat) : Fld := ⟨A.LE_Q_STATUS q, 3, 1⟩
def F.LE_Q_STATUS_NOVBUS (q : Nat) : Fld := ⟨A.LE_Q_STATUS q, 4, 1⟩
def F.LE_Q_STATUS_BUDGET (q : Nat) : Fld := ⟨A.LE_Q_STATUS q, 5, 1⟩
def F.LE_Q_STATUS_OVR (q : Nat) : Fld := ⟨A.LE_Q_STATUS q, 6, 1⟩
def F.LE_Q_STATUS_OVR_DROP (q : Nat) : Fld := ⟨A.LE_Q_STATUS q, 7, 1⟩
def F.LE_Q_STATUS_OVR_LATE (q : Nat) : Fld := ⟨A.LE_Q_STATUS q, 8, 1⟩
def F.LE_Q_STATUS_OVR_FRAME (q : Nat) : Fld := ⟨A.LE_Q_STATUS q, 9, 1⟩
def F.LE_Q_OVRCNT_COUNT (q : Nat) : Fld := ⟨A.LE_Q_OVRCNT q, 0, 16⟩
def F.LE_Q_LOAD_NEED (q : Nat) : Fld := ⟨A.LE_Q_LOAD q, 0, 16⟩
def F.LE_Q_LOAD_AVAIL (q : Nat) : Fld := ⟨A.LE_Q_LOAD q, 16, 16⟩
def F.LE_AX_CTL_SPSRC (a : Nat) : Fld := ⟨A.LE_AX_CTL a, 0, 1⟩
def F.LE_AX_CTL_SPINT (a : Nat) : Fld := ⟨A.LE_AX_CTL a, 1, 1⟩
def F.LE_AX_CTL_TRIPACT (a : Nat) : Fld := ⟨A.LE_AX_CTL a, 2, 1⟩
def F.LE_AX_CTL_FAULTACT (a : Nat) : Fld := ⟨A.LE_AX_CTL a, 3, 2⟩
def F.LE_AX_CTL_OPENSTART (a : Nat) : Fld := ⟨A.LE_AX_CTL a, 5, 1⟩
def F.LE_AX_SP_POS_P (a : Nat) : Fld := ⟨A.LE_AX_SP_POS a, 0, 48⟩
def F.LE_AX_SP_VEL_V (a : Nat) : Fld := ⟨A.LE_AX_SP_VEL a, 0, 48⟩
def F.LE_AX_SP_ACC_A (a : Nat) : Fld := ⟨A.LE_AX_SP_ACC a, 0, 48⟩
def F.LE_AX_SP_IQ_I (a : Nat) : Fld := ⟨A.LE_AX_SP_IQ a, 0, 48⟩
def F.LE_AX_SP_ID_I (a : Nat) : Fld := ⟨A.LE_AX_SP_ID a, 0, 48⟩
def F.LE_AX_SPSTAT_FRESH (a : Nat) : Fld := ⟨A.LE_AX_SPSTAT a, 0, 1⟩
def F.LE_AX_SPSTAT_SPMISS (a : Nat) : Fld := ⟨A.LE_AX_SPSTAT a, 1, 1⟩
def F.LE_AX_SPSTAT_HOLDCNT (a : Nat) : Fld := ⟨A.LE_AX_SPSTAT a, 8, 8⟩
def F.LE_AX_ID_I (a : Nat) : Fld := ⟨A.LE_AX_ID a, 0, 48⟩
def F.LE_AX_IQ_I (a : Nat) : Fld := ⟨A.LE_AX_IQ a, 0, 48⟩
def F.LE_AX_VD_V (a : Nat) : Fld := ⟨A.LE_AX_VD a, 0, 48⟩
def F.LE_AX_VQ_V (a : Nat) : Fld := ⟨A.LE_AX_VQ a, 0, 48⟩
def F.LE_AX_IQREF_I (a : Nat) : Fld := ⟨A.LE_AX_IQREF a, 0, 48⟩
def F.LE_AX_VREF_V (a : Nat) : Fld := ⟨A.LE_AX_VREF a, 0, 48⟩
def F.LE_AX_PERR_E (a : Nat) : Fld := ⟨A.LE_AX_PERR a, 0, 48⟩
def F.LE_AX_XD_X (a : Nat) : Fld := ⟨A.LE_AX_XD a, 0, 48⟩
def F.LE_AX_XQ_X (a : Nat) : Fld := ⟨A.LE_AX_XQ a, 0, 48⟩
def F.LE_AX_XV_X (a : Nat) : Fld := ⟨A.LE_AX_XV a, 0, 48⟩
def F.LE_AX_DOB_D (a : Nat) : Fld := ⟨A.LE_AX_DOB a, 0, 48⟩
def F.LE_AX_ANGLE_THETA (a : Nat) : Fld := ⟨A.LE_AX_ANGLE a, 0, 24⟩
def F.LE_AX_FLAG_VSAT (a : Nat) : Fld := ⟨A.LE_AX_FLAG a, 0, 1⟩
def F.LE_AX_FLAG_ISAT (a : Nat) : Fld := ⟨A.LE_AX_FLAG a, 1, 1⟩
def F.LE_AX_FLAG_XSAT_D (a : Nat) : Fld := ⟨A.LE_AX_FLAG a, 2, 1⟩
def F.LE_AX_FLAG_XSAT_Q (a : Nat) : Fld := ⟨A.LE_AX_FLAG a, 3, 1⟩
def F.LE_AX_FLAG_XSAT_V (a : Nat) : Fld := ⟨A.LE_AX_FLAG a, 4, 1⟩
def F.LE_AX_FLAG_OVM (a : Nat) : Fld := ⟨A.LE_AX_FLAG a, 5, 1⟩
def F.LE_AX_FLAG_ARITH (a : Nat) : Fld := ⟨A.LE_AX_FLAG a, 6, 1⟩
def F.LE_AX_FLAG_BQSAT (a : Nat) : Fld := ⟨A.LE_AX_FLAG a, 7, 1⟩
def F.LE_AX_FLAG_LATE (a : Nat) : Fld := ⟨A.LE_AX_FLAG a, 8, 1⟩
def F.LE_AX_FLAG_PERR (a : Nat) : Fld := ⟨A.LE_AX_FLAG a, 9, 1⟩
def F.LE_AX_FLAG_FBLOSS (a : Nat) : Fld := ⟨A.LE_AX_FLAG a, 10, 1⟩
def F.LE_AX_FLAG_SPDINV (a : Nat) : Fld := ⟨A.LE_AX_FLAG a, 11, 1⟩
def F.LE_AX_FLAG_TRIPHOLD (a : Nat) : Fld := ⟨A.LE_AX_FLAG a, 12, 1⟩
def F.LE_AX_FLAG_WR_REFUSED (a : Nat) : Fld := ⟨A.LE_AX_FLAG a, 13, 1⟩
def F.LE_AX_FLAG_VBUS_LOW (a : Nat) : Fld := ⟨A.LE_AX_FLAG a, 14, 1⟩
def F.LE_AX_BSTAT_PEND (a : Nat) : Fld := ⟨A.LE_AX_BSTAT a, 0, 1⟩
def F.LE_AX_BSTAT_ACTIVE (a : Nat) : Fld := ⟨A.LE_AX_BSTAT a, 1, 1⟩
def F.LE_AX_BSTAT_REFUSED (a : Nat) : Fld := ⟨A.LE_AX_BSTAT a, 2, 1⟩
def F.LE_AX_BSTAT_CAUSE (a : Nat) : Fld := ⟨A.LE_AX_BSTAT a, 3, 3⟩
def F.LE_AX_BSTAT_MISS (a : Nat) : Fld := ⟨A.LE_AX_BSTAT a, 6, 1⟩
def F.LE_AX_IEN_IEN (a : Nat) : Fld := ⟨A.LE_AX_IEN a, 0, 15⟩
def F.LE_AX_SS1DEC_DEC (a : Nat) : Fld := ⟨A.LE_AX_SS1DEC a, 0, 48⟩
def F.LE_AX_GRAPH_MODE (a : Nat) : Fld := ⟨A.LE_AX_GRAPH a, 0, 3⟩
def F.LE_AX_GRAPH_DECOUP (a : Nat) : Fld := ⟨A.LE_AX_GRAPH a, 3, 1⟩
def F.LE_AX_GRAPH_BEMF (a : Nat) : Fld := ⟨A.LE_AX_GRAPH a, 4, 1⟩
def F.LE_AX_GRAPH_VFF (a : Nat) : Fld := ⟨A.LE_AX_GRAPH a, 5, 1⟩
def F.LE_AX_GRAPH_AFF (a : Nat) : Fld := ⟨A.LE_AX_GRAPH a, 6, 1⟩
def F.LE_AX_GRAPH_DOB (a : Nat) : Fld := ⟨A.LE_AX_GRAPH a, 7, 1⟩
def F.LE_AX_GRAPH_COG (a : Nat) : Fld := ⟨A.LE_AX_GRAPH a, 8, 1⟩
def F.LE_AX_GRAPH_FRIC (a : Nat) : Fld := ⟨A.LE_AX_GRAPH a, 9, 1⟩
def F.LE_AX_GRAPH_VDIV (a : Nat) : Fld := ⟨A.LE_AX_GRAPH a, 10, 3⟩
def F.LE_AX_GRAPH_PDIV (a : Nat) : Fld := ⟨A.LE_AX_GRAPH a, 13, 3⟩
def F.LE_AX_GRAPH_BQEN (a : Nat) : Fld := ⟨A.LE_AX_GRAPH a, 16, 4⟩
def F.LE_AX_GRAPH_BQPOS (a : Nat) : Fld := ⟨A.LE_AX_GRAPH a, 20, 8⟩
def F.LE_AX_GRAPH_INTERP (a : Nat) : Fld := ⟨A.LE_AX_GRAPH a, 28, 1⟩
def F.LE_AX_MOTOR_PP (a : Nat) : Fld := ⟨A.LE_AX_MOTOR a, 0, 7⟩
def F.LE_AX_MOTOR_ADVNS (a : Nat) : Fld := ⟨A.LE_AX_MOTOR a, 8, 16⟩
def F.LE_AX_MOTOR_ANGOFS (a : Nat) : Fld := ⟨A.LE_AX_MOTOR a, 24, 24⟩
def F.LE_AX_KPD_K (a : Nat) : Fld := ⟨A.LE_AX_KPD a, 0, 48⟩
def F.LE_AX_KID_K (a : Nat) : Fld := ⟨A.LE_AX_KID a, 0, 48⟩
def F.LE_AX_KPQ_K (a : Nat) : Fld := ⟨A.LE_AX_KPQ a, 0, 48⟩
def F.LE_AX_KIQ_K (a : Nat) : Fld := ⟨A.LE_AX_KIQ a, 0, 48⟩
def F.LE_AX_XLIMI_X (a : Nat) : Fld := ⟨A.LE_AX_XLIMI a, 0, 48⟩
def F.LE_AX_LDW_L (a : Nat) : Fld := ⟨A.LE_AX_LDW a, 0, 48⟩
def F.LE_AX_LQW_L (a : Nat) : Fld := ⟨A.LE_AX_LQW a, 0, 48⟩
def F.LE_AX_KE_K (a : Nat) : Fld := ⟨A.LE_AX_KE a, 0, 48⟩
def F.LE_AX_VLIM_MI (a : Nat) : Fld := ⟨A.LE_AX_VLIM a, 0, 48⟩
def F.LE_AX_ILIM_I (a : Nat) : Fld := ⟨A.LE_AX_ILIM a, 0, 48⟩
def F.LE_AX_KPV_K (a : Nat) : Fld := ⟨A.LE_AX_KPV a, 0, 48⟩
def F.LE_AX_KIV_K (a : Nat) : Fld := ⟨A.LE_AX_KIV a, 0, 48⟩
def F.LE_AX_XLIMV_X (a : Nat) : Fld := ⟨A.LE_AX_XLIMV a, 0, 48⟩
def F.LE_AX_KPP_K (a : Nat) : Fld := ⟨A.LE_AX_KPP a, 0, 48⟩
def F.LE_AX_KVFF_K (a : Nat) : Fld := ⟨A.LE_AX_KVFF a, 0, 48⟩
def F.LE_AX_KAFF_K (a : Nat) : Fld := ⟨A.LE_AX_KAFF a, 0, 48⟩
def F.LE_AX_JN_J (a : Nat) : Fld := ⟨A.LE_AX_JN a, 0, 48⟩
def F.LE_AX_DOBG_G (a : Nat) : Fld := ⟨A.LE_AX_DOBG a, 0, 48⟩
def F.LE_AX_DOBK_K (a : Nat) : Fld := ⟨A.LE_AX_DOBK a, 0, 48⟩
def F.LE_AX_PERRMAX_E (a : Nat) : Fld := ⟨A.LE_AX_PERRMAX a, 0, 48⟩
def F.LE_AX_BQ_C_C (a k j : Nat) : Fld := ⟨A.LE_AX_BQ_C a k j, 0, 48⟩
def F.LE_AX_TBLSTAT_COG0_TR (a : Nat) : Fld := ⟨A.LE_AX_TBLSTAT a, 0, 1⟩
def F.LE_AX_TBLSTAT_COG1_TR (a : Nat) : Fld := ⟨A.LE_AX_TBLSTAT a, 1, 1⟩
def F.LE_AX_TBLSTAT_FR0_TR (a : Nat) : Fld := ⟨A.LE_AX_TBLSTAT a, 2, 1⟩
def F.LE_AX_TBLSTAT_FR1_TR (a : Nat) : Fld := ⟨A.LE_AX_TBLSTAT a, 3, 1⟩
def F.LE_AX_TBLSTAT_COG_UNTR (a : Nat) : Fld := ⟨A.LE_AX_TBLSTAT a, 4, 1⟩
def F.LE_AX_TBLSTAT_FR_UNTR (a : Nat) : Fld := ⟨A.LE_AX_TBLSTAT a, 5, 1⟩
def F.LE_AX_TBLSTAT_WR_ACTIVE (a : Nat) : Fld := ⟨A.LE_AX_TBLSTAT a, 6, 1⟩
def F.LE_AX_TBLSTAT_SEAL_LOST (a : Nat) : Fld := ⟨A.LE_AX_TBLSTAT a, 7, 1⟩
def F.LE_AX_TBLSTAT_FR_OUT (a : Nat) : Fld := ⟨A.LE_AX_TBLSTAT a, 8, 1⟩
def F.LE_AX_TBLSTAT_FR_NEG (a : Nat) : Fld := ⟨A.LE_AX_TBLSTAT a, 9, 1⟩
def F.LE_AX_TBLSTAT_ECC_COR (a : Nat) : Fld := ⟨A.LE_AX_TBLSTAT a, 10, 1⟩
def F.LE_AX_TBLSTAT_ECC_ERR (a : Nat) : Fld := ⟨A.LE_AX_TBLSTAT a, 11, 1⟩
def F.LE_AX_TBLSTAT_IEN (a : Nat) : Fld := ⟨A.LE_AX_TBLSTAT a, 16, 6⟩
def F.LE_AX_TBLSEAL_CMD (a : Nat) : Fld := ⟨A.LE_AX_TBLSEAL a, 0, 8⟩
def F.LE_AX_TBLSEAL_PAGES (a : Nat) : Fld := ⟨A.LE_AX_TBLSEAL a, 8, 4⟩
def F.LE_AX_COGVAL_C (a : Nat) : Fld := ⟨A.LE_AX_COGVAL a, 0, 48⟩
def F.LE_AX_FRVAL_F (a : Nat) : Fld := ⟨A.LE_AX_FRVAL a, 0, 48⟩
def F.LE_AX_TBLSEL_COGPG (a : Nat) : Fld := ⟨A.LE_AX_TBLSEL a, 0, 1⟩
def F.LE_AX_TBLSEL_FRPG (a : Nat) : Fld := ⟨A.LE_AX_TBLSEL a, 1, 1⟩
def F.LE_AX_TBLSEL_FRWRAP (a : Nat) : Fld := ⟨A.LE_AX_TBLSEL a, 2, 1⟩
def F.LE_AX_COGOFS_OFS (a : Nat) : Fld := ⟨A.LE_AX_COGOFS a, 0, 24⟩
def F.LE_AX_FRSTART_P (a : Nat) : Fld := ⟨A.LE_AX_FRSTART a, 0, 48⟩
def F.LE_AX_FRINV_K (a : Nat) : Fld := ⟨A.LE_AX_FRINV a, 0, 48⟩
def F.LE_AX_FRBAND_V (a : Nat) : Fld := ⟨A.LE_AX_FRBAND a, 0, 48⟩
def F.LE_LRN_CTL_AXIS : Fld := ⟨A.LE_LRN_CTL, 0, 5⟩
def F.LE_LRN_CTL_DIV : Fld := ⟨A.LE_LRN_CTL, 8, 8⟩
def F.LE_LRN_CTL_START : Fld := ⟨A.LE_LRN_CTL, 16, 1⟩
def F.LE_LRN_CTL_STOP : Fld := ⟨A.LE_LRN_CTL, 17, 1⟩
def F.LE_LRN_BASE_ADDR : Fld := ⟨A.LE_LRN_BASE, 0, 48⟩
def F.LE_LRN_LEN_LEN : Fld := ⟨A.LE_LRN_LEN, 0, 21⟩
def F.LE_LRN_STAT_BUSY : Fld := ⟨A.LE_LRN_STAT, 0, 1⟩
def F.LE_LRN_STAT_PEND : Fld := ⟨A.LE_LRN_STAT, 1, 1⟩
def F.LE_LRN_STAT_DONE : Fld := ⟨A.LE_LRN_STAT, 2, 1⟩
def F.LE_LRN_STAT_ABORT : Fld := ⟨A.LE_LRN_STAT, 3, 1⟩
def F.LE_LRN_STAT_REFUSED : Fld := ⟨A.LE_LRN_STAT, 4, 1⟩
def F.LE_LRN_STAT_CAUSE : Fld := ⟨A.LE_LRN_STAT, 5, 3⟩
def F.LE_LRN_COUNT_COUNT : Fld := ⟨A.LE_LRN_COUNT, 0, 21⟩
def F.LE_LRN_COUNT_LOST : Fld := ⟨A.LE_LRN_COUNT, 24, 16⟩
def F.FB_CTL_FRZ : Fld := ⟨A.FB_CTL, 0, 1⟩
def F.FB_CTL_FRZCORE : Fld := ⟨A.FB_CTL, 1, 2⟩
def F.FB_VALID_POS : Fld := ⟨A.FB_VALID, 0, 24⟩
def F.FB_VALID_SPD : Fld := ⟨A.FB_VALID, 24, 24⟩
def F.FB_EMU_CTL_EN (n : Nat) : Fld := ⟨A.FB_EMU_CTL n, 0, 1⟩
def F.FB_EMU_CTL_SRC (n : Nat) : Fld := ⟨A.FB_EMU_CTL n, 1, 5⟩
def F.FB_EMU_CTL_VIRT (n : Nat) : Fld := ⟨A.FB_EMU_CTL n, 6, 1⟩
def F.FB_EMU_CTL_INV (n : Nat) : Fld := ⟨A.FB_EMU_CTL n, 7, 1⟩
def F.FB_EMU_CTL_ZEN (n : Nat) : Fld := ⟨A.FB_EMU_CTL n, 8, 1⟩
def F.FB_EMU_CTL_LPT (n : Nat) : Fld := ⟨A.FB_EMU_CTL n, 9, 21⟩
def F.FB_EMU_STAT_RUNNING (n : Nat) : Fld := ⟨A.FB_EMU_STAT n, 0, 1⟩
def F.FB_EMU_STAT_SRCINV (n : Nat) : Fld := ⟨A.FB_EMU_STAT n, 1, 1⟩
def F.FB_EMU_STAT_SAT (n : Nat) : Fld := ⟨A.FB_EMU_STAT n, 2, 1⟩
def F.FB_EMU_STAT_LOST (n : Nat) : Fld := ⟨A.FB_EMU_STAT n, 3, 1⟩
def F.FB_EMU_STAT_CFG_ERR (n : Nat) : Fld := ⟨A.FB_EMU_STAT n, 4, 1⟩
def F.FB_EMU_STAT_WR_REFUSED (n : Nat) : Fld := ⟨A.FB_EMU_STAT n, 5, 1⟩
def F.FB_EMU_CNT_CNT (n : Nat) : Fld := ⟨A.FB_EMU_CNT n, 0, 48⟩
def F.FB_AX_CFG_MODE (a : Nat) : Fld := ⟨A.FB_AX_CFG a, 0, 3⟩
def F.FB_AX_CFG_TERM (a : Nat) : Fld := ⟨A.FB_AX_CFG a, 3, 1⟩
def F.FB_AX_CFG_FILT (a : Nat) : Fld := ⟨A.FB_AX_CFG a, 4, 4⟩
def F.FB_AX_CFG_ZMODE (a : Nat) : Fld := ⟨A.FB_AX_CFG a, 8, 2⟩
def F.FB_AX_CFG_ZPOL (a : Nat) : Fld := ⟨A.FB_AX_CFG a, 10, 1⟩
def F.FB_AX_CFG_INV (a : Nat) : Fld := ⟨A.FB_AX_CFG a, 11, 1⟩
def F.FB_AX_CFG_HPP (a : Nat) : Fld := ⟨A.FB_AX_CFG a, 12, 7⟩
def F.FB_AX_CFG_EXTRAP (a : Nat) : Fld := ⟨A.FB_AX_CFG a, 19, 1⟩
def F.FB_AX_CFG_HINTERP (a : Nat) : Fld := ⟨A.FB_AX_CFG a, 20, 1⟩
def F.FB_AX_CPE_CPE (a : Nat) : Fld := ⟨A.FB_AX_CPE a, 0, 25⟩
def F.FB_AX_SER_BITS (a : Nat) : Fld := ⟨A.FB_AX_SER a, 0, 6⟩
def F.FB_AX_SER_ST (a : Nat) : Fld := ⟨A.FB_AX_SER a, 6, 5⟩
def F.FB_AX_SER_GRAY (a : Nat) : Fld := ⟨A.FB_AX_SER a, 11, 1⟩
def F.FB_AX_SER_MTSIGN (a : Nat) : Fld := ⟨A.FB_AX_SER a, 12, 1⟩
def F.FB_AX_SER_HP (a : Nat) : Fld := ⟨A.FB_AX_SER a, 13, 12⟩
def F.FB_AX_SER_DLY (a : Nat) : Fld := ⟨A.FB_AX_SER a, 25, 8⟩
def F.FB_AX_SER_MONO (a : Nat) : Fld := ⟨A.FB_AX_SER a, 33, 7⟩
def F.FB_AX_TRIG_POS (a : Nat) : Fld := ⟨A.FB_AX_TRIG a, 0, 16⟩
def F.FB_AX_TRIG_DIV (a : Nat) : Fld := ⟨A.FB_AX_TRIG a, 16, 6⟩
def F.FB_AX_POS_P (a : Nat) : Fld := ⟨A.FB_AX_POS a, 0, 48⟩
def F.FB_AX_POSS_P (a : Nat) : Fld := ⟨A.FB_AX_POSS a, 0, 48⟩
def F.FB_AX_SPD_V (a : Nat) : Fld := ⟨A.FB_AX_SPD a, 0, 48⟩
def F.FB_AX_SPDS_V (a : Nat) : Fld := ⟨A.FB_AX_SPDS a, 0, 48⟩
def F.FB_AX_STAT_POSVALID (a : Nat) : Fld := ⟨A.FB_AX_STAT a, 0, 1⟩
def F.FB_AX_STAT_SPDVALID (a : Nat) : Fld := ⟨A.FB_AX_STAT a, 1, 1⟩
def F.FB_AX_STAT_METHOD (a : Nat) : Fld := ⟨A.FB_AX_STAT a, 2, 1⟩
def F.FB_AX_STAT_BLEND (a : Nat) : Fld := ⟨A.FB_AX_STAT a, 3, 1⟩
def F.FB_AX_STAT_DIR (a : Nat) : Fld := ⟨A.FB_AX_STAT a, 4, 1⟩
def F.FB_AX_STAT_REF (a : Nat) : Fld := ⟨A.FB_AX_STAT a, 5, 1⟩
def F.FB_AX_STAT_SAFMIS (a : Nat) : Fld := ⟨A.FB_AX_STAT a, 6, 1⟩
def F.FB_AX_STAT_ZARMED (a : Nat) : Fld := ⟨A.FB_AX_STAT a, 7, 1⟩
def F.FB_AX_STAT_SIDX (a : Nat) : Fld := ⟨A.FB_AX_STAT a, 8, 7⟩
def F.FB_AX_STAT_FRAME (a : Nat) : Fld := ⟨A.FB_AX_STAT a, 16, 16⟩
def F.FB_AX_STAT_LOSS (a : Nat) : Fld := ⟨A.FB_AX_STAT a, 32, 3⟩
def F.FB_AX_FLAG_DIRCHG (a : Nat) : Fld := ⟨A.FB_AX_FLAG a, 0, 1⟩
def F.FB_AX_FLAG_ZEVT (a : Nat) : Fld := ⟨A.FB_AX_FLAG a, 1, 1⟩
def F.FB_AX_FLAG_ZERR (a : Nat) : Fld := ⟨A.FB_AX_FLAG a, 2, 1⟩
def F.FB_AX_FLAG_QERR (a : Nat) : Fld := ⟨A.FB_AX_FLAG a, 3, 1⟩
def F.FB_AX_FLAG_LINEFLT (a : Nat) : Fld := ⟨A.FB_AX_FLAG a, 4, 1⟩
def F.FB_AX_FLAG_HALLERR (a : Nat) : Fld := ⟨A.FB_AX_FLAG a, 5, 1⟩
def F.FB_AX_FLAG_SERERR (a : Nat) : Fld := ⟨A.FB_AX_FLAG a, 6, 1⟩
def F.FB_AX_FLAG_JUMP (a : Nat) : Fld := ⟨A.FB_AX_FLAG a, 7, 1⟩
def F.FB_AX_FLAG_ENCERR (a : Nat) : Fld := ⟨A.FB_AX_FLAG a, 8, 1⟩
def F.FB_AX_FLAG_MTLOST (a : Nat) : Fld := ⟨A.FB_AX_FLAG a, 9, 1⟩
def F.FB_AX_FLAG_POSLOSS (a : Nat) : Fld := ⟨A.FB_AX_FLAG a, 10, 1⟩
def F.FB_AX_FLAG_TRIG_ERR (a : Nat) : Fld := ⟨A.FB_AX_FLAG a, 11, 1⟩
def F.FB_AX_FLAG_CFG_ERR (a : Nat) : Fld := ⟨A.FB_AX_FLAG a, 12, 1⟩
def F.FB_AX_FLAG_WR_REFUSED (a : Nat) : Fld := ⟨A.FB_AX_FLAG a, 13, 1⟩
def F.FB_AX_CNT_QERRCNT (a : Nat) : Fld := ⟨A.FB_AX_CNT a, 0, 8⟩
def F.FB_AX_CNT_SERERRCNT (a : Nat) : Fld := ⟨A.FB_AX_CNT a, 8, 8⟩
def F.FB_AX_CNT_DIRCNT (a : Nat) : Fld := ⟨A.FB_AX_CNT a, 16, 16⟩
def F.FB_AX_CNT_EPF (a : Nat) : Fld := ⟨A.FB_AX_CNT a, 32, 8⟩
def F.FB_AX_ZCAP_P (a : Nat) : Fld := ⟨A.FB_AX_ZCAP a, 0, 48⟩
def F.FB_AX_PRESET_P (a : Nat) : Fld := ⟨A.FB_AX_PRESET a, 0, 48⟩
def F.FB_AX_CMD_PRESET (a : Nat) : Fld := ⟨A.FB_AX_CMD a, 0, 1⟩
def F.FB_AX_CMD_REVAL (a : Nat) : Fld := ⟨A.FB_AX_CMD a, 1, 1⟩
def F.FB_AX_CMD_ZARM (a : Nat) : Fld := ⟨A.FB_AX_CMD a, 2, 1⟩
def F.FB_AX_CMD_TID (a : Nat) : Fld := ⟨A.FB_AX_CMD a, 3, 1⟩
def F.FB_AX_CMD_TCLR (a : Nat) : Fld := ⟨A.FB_AX_CMD a, 4, 1⟩
def F.FB_AX_SERRAW_RAW (a : Nat) : Fld := ⟨A.FB_AX_SERRAW a, 0, 48⟩
def F.FB_AX_LIM_JUMPMAX (a : Nat) : Fld := ⟨A.FB_AX_LIM a, 0, 24⟩
def F.FB_AX_LIM_SERLIM (a : Nat) : Fld := ⟨A.FB_AX_LIM a, 24, 4⟩
def F.FB_AX_LIM_QERRLIM (a : Nat) : Fld := ⟨A.FB_AX_LIM a, 28, 8⟩
def F.FB_AX_LIM_TSTOP (a : Nat) : Fld := ⟨A.FB_AX_LIM a, 36, 8⟩
def F.FB_AX_TID_ID (a : Nat) : Fld := ⟨A.FB_AX_TID a, 0, 48⟩
def F.FB_AX_IEN_IEN (a : Nat) : Fld := ⟨A.FB_AX_IEN a, 0, 14⟩
def F.EVR_CTL_FRZ : Fld := ⟨A.EVR_CTL, 0, 1⟩
def F.EVR_CTL_FRZCORE : Fld := ⟨A.EVR_CTL, 1, 2⟩
def F.EVR_LOOPLIM_LIM : Fld := ⟨A.EVR_LOOPLIM, 0, 8⟩
def F.EVR_GRPEN_EN : Fld := ⟨A.EVR_GRPEN, 0, 12⟩
def F.EVR_GRPLOCK_LOCK : Fld := ⟨A.EVR_GRPLOCK, 0, 12⟩
def F.EVR_FIRE0_FIRE : Fld := ⟨A.EVR_FIRE0, 0, 48⟩
def F.EVR_FIRE1_FIRE : Fld := ⟨A.EVR_FIRE1, 0, 48⟩
def F.EVR_LOOPSUM0_LOOP : Fld := ⟨A.EVR_LOOPSUM0, 0, 48⟩
def F.EVR_LOOPSUM1_LOOP : Fld := ⟨A.EVR_LOOPSUM1, 0, 48⟩
def F.EVR_STATUS_FIRELOST : Fld := ⟨A.EVR_STATUS, 0, 1⟩
def F.EVR_STATUS_CFG_ERR : Fld := ⟨A.EVR_STATUS, 1, 1⟩
def F.EVR_CH_CFG_EN (n : Nat) : Fld := ⟨A.EVR_CH_CFG n, 0, 1⟩
def F.EVR_CH_CFG_GATE (n : Nat) : Fld := ⟨A.EVR_CH_CFG n, 1, 3⟩
def F.EVR_CH_CFG_GINV (n : Nat) : Fld := ⟨A.EVR_CH_CFG n, 4, 1⟩
def F.EVR_CH_CFG_TGRP (n : Nat) : Fld := ⟨A.EVR_CH_CFG n, 5, 4⟩
def F.EVR_CH_CFG_DIOACT (n : Nat) : Fld := ⟨A.EVR_CH_CFG n, 9, 2⟩
def F.EVR_CH_CFG_LOCK (n : Nat) : Fld := ⟨A.EVR_CH_CFG n, 11, 1⟩
def F.EVR_CH_SRC_MASK (n : Nat) : Fld := ⟨A.EVR_CH_SRC n, 0, 32⟩
def F.EVR_CH_LINK_LINK (n : Nat) : Fld := ⟨A.EVR_CH_LINK n, 0, 11⟩
def F.EVR_CH_STAT_LOOP (n : Nat) : Fld := ⟨A.EVR_CH_STAT n, 0, 1⟩
def F.EVR_CH_STAT_ACTIVE (n : Nat) : Fld := ⟨A.EVR_CH_STAT n, 1, 1⟩
def F.EVR_CH_STAT_FIRECNT (n : Nat) : Fld := ⟨A.EVR_CH_STAT n, 8, 8⟩
def F.EVR_CH_STAT_DROPCNT (n : Nat) : Fld := ⟨A.EVR_CH_STAT n, 16, 8⟩
def F.PWR_CTL_BUSMODE : Fld := ⟨A.PWR_CTL, 0, 1⟩
def F.PWR_CTL_MLACT : Fld := ⟨A.PWR_CTL, 1, 1⟩
def F.PWR_STATUS_PFCRUN : Fld := ⟨A.PWR_STATUS, 0, 1⟩
def F.PWR_STATUS_ISORUN : Fld := ⟨A.PWR_STATUS, 1, 1⟩
def F.PWR_STATUS_BUSREG : Fld := ⟨A.PWR_STATUS, 2, 1⟩
def F.PWR_STATUS_LOWLINE : Fld := ⟨A.PWR_STATUS, 3, 1⟩
def F.PWR_STATUS_MAINSLOSS : Fld := ⟨A.PWR_STATUS, 4, 1⟩
def F.PWR_STATUS_GEYSER_LOW : Fld := ⟨A.PWR_STATUS, 5, 1⟩
def F.PWR_STATUS_GEYSER_EMPTY : Fld := ⟨A.PWR_STATUS, 6, 1⟩
def F.PWR_STATUS_PLIM : Fld := ⟨A.PWR_STATUS, 7, 1⟩
def F.PWR_STATUS_CHOPON : Fld := ⟨A.PWR_STATUS, 8, 1⟩
def F.PWR_STATUS_CHOPWARN : Fld := ⟨A.PWR_STATUS, 9, 1⟩
def F.PWR_STATUS_CHOPHOT : Fld := ⟨A.PWR_STATUS, 10, 1⟩
def F.PWR_STATUS_OVBUS : Fld := ⟨A.PWR_STATUS, 11, 1⟩
def F.PWR_STATUS_UVBUS : Fld := ⟨A.PWR_STATUS, 12, 1⟩
def F.PWR_STATUS_AUX_OFF : Fld := ⟨A.PWR_STATUS, 13, 1⟩
def F.PWR_STATUS_ENC_OFF : Fld := ⟨A.PWR_STATUS, 14, 6⟩
def F.PWR_STATUS_WR_REFUSED : Fld := ⟨A.PWR_STATUS, 20, 1⟩
def F.PWR_GEYSER_G : Fld := ⟨A.PWR_GEYSER, 0, 48⟩
def F.PWR_GEYSER_B_EB : Fld := ⟨A.PWR_GEYSER_B, 0, 48⟩
def F.PWR_GEYSER_T_ET : Fld := ⟨A.PWR_GEYSER_T, 0, 48⟩
def F.PWR_GEYSER_MAX_GMAX : Fld := ⟨A.PWR_GEYSER_MAX, 0, 48⟩
def F.PWR_GEYPCT_PERMILLE : Fld := ⟨A.PWR_GEYPCT, 0, 10⟩
def F.PWR_LINE_VRMS : Fld := ⟨A.PWR_LINE, 0, 16⟩
def F.PWR_LINE_FREQ : Fld := ⟨A.PWR_LINE, 16, 16⟩
def F.PWR_VBULK_V : Fld := ⟨A.PWR_VBULK, 0, 48⟩
def F.PWR_VBUS_V : Fld := ⟨A.PWR_VBUS, 0, 48⟩
def F.PWR_PDRAW_P : Fld := ⟨A.PWR_PDRAW, 0, 48⟩
def F.PWR_POUT_P : Fld := ⟨A.PWR_POUT, 0, 48⟩
def F.PWR_PLIMLINE_P : Fld := ⟨A.PWR_PLIMLINE, 0, 48⟩
def F.PWR_PPEAK_P : Fld := ⟨A.PWR_PPEAK, 0, 48⟩
def F.PWR_CHOPE_E : Fld := ⟨A.PWR_CHOPE, 0, 48⟩
def F.PWR_SUPCTL_ENC : Fld := ⟨A.PWR_SUPCTL, 0, 6⟩
def F.PWR_SUPCTL_AUX24 : Fld := ⟨A.PWR_SUPCTL, 6, 1⟩
def F.PWR_CNT_GLOWCNT : Fld := ⟨A.PWR_CNT, 0, 8⟩
def F.PWR_CNT_MLCNT : Fld := ⟨A.PWR_CNT, 8, 8⟩
def F.PWR_CNT_CHOPHOTCNT : Fld := ⟨A.PWR_CNT, 16, 8⟩
def F.PWR_IEN_IEN : Fld := ⟨A.PWR_IEN, 0, 21⟩
def F.PWR_BRKCTL_ON : Fld := ⟨A.PWR_BRKCTL, 0, 4⟩
def F.PWR_BRKCTL_AUTO : Fld := ⟨A.PWR_BRKCTL, 4, 4⟩
def F.PWR_BRKCTL_SEL0 : Fld := ⟨A.PWR_BRKCTL, 8, 5⟩
def F.PWR_BRKCTL_SEL1 : Fld := ⟨A.PWR_BRKCTL, 13, 5⟩
def F.PWR_BRKCTL_SEL2 : Fld := ⟨A.PWR_BRKCTL, 18, 5⟩
def F.PWR_BRKCTL_SEL3 : Fld := ⟨A.PWR_BRKCTL, 23, 5⟩
def F.PWR_BRKSTAT_OUT : Fld := ⟨A.PWR_BRKSTAT, 0, 4⟩
def F.PWR_BRKSTAT_ILIM : Fld := ⟨A.PWR_BRKSTAT, 4, 4⟩
def F.THM_STATUS_TBWARN : Fld := ⟨A.THM_STATUS, 0, 1⟩
def F.THM_STATUS_TBFAULT : Fld := ⟨A.THM_STATUS, 1, 1⟩
def F.THM_TB_T : Fld := ⟨A.THM_TB, 0, 48⟩
def F.THM_AX_TJ_T (a : Nat) : Fld := ⟨A.THM_AX_TJ a, 0, 48⟩
def F.THM_AX_Q_Q (a : Nat) : Fld := ⟨A.THM_AX_Q a, 0, 48⟩
def F.THM_AX_LIM_I (a : Nat) : Fld := ⟨A.THM_AX_LIM a, 0, 48⟩
def F.THM_AX_STAT_GEY (a : Nat) : Fld := ⟨A.THM_AX_STAT a, 0, 1⟩
def F.THM_AX_STAT_I2T (a : Nat) : Fld := ⟨A.THM_AX_STAT a, 1, 1⟩
def F.THM_AX_STAT_TJ (a : Nat) : Fld := ⟨A.THM_AX_STAT a, 2, 1⟩
def F.THM_AX_STAT_TJTRIP (a : Nat) : Fld := ⟨A.THM_AX_STAT a, 3, 1⟩
def F.ICU_CTL_FRZ (c : Nat) : Fld := ⟨A.ICU_CTL c, 0, 1⟩
def F.ICU_GDIS_DIS (c : Nat) : Fld := ⟨A.ICU_GDIS c, 0, 1⟩
def F.ICU_CLAIM_SRC (c : Nat) : Fld := ⟨A.ICU_CLAIM c, 0, 9⟩
def F.ICU_CLAIM_LEVEL (c : Nat) : Fld := ⟨A.ICU_CLAIM c, 9, 3⟩
def F.ICU_CLAIM_VALID (c : Nat) : Fld := ⟨A.ICU_CLAIM c, 12, 1⟩
def F.ICU_STAT_REQ (c : Nat) : Fld := ⟨A.ICU_STAT c, 0, 1⟩
def F.ICU_STAT_REQLVL (c : Nat) : Fld := ⟨A.ICU_STAT c, 1, 3⟩
def F.ICU_STAT_EOI_ERR (c : Nat) : Fld := ⟨A.ICU_STAT c, 4, 1⟩
def F.ICU_STAT_LOCKUP (c : Nat) : Fld := ⟨A.ICU_STAT c, 5, 1⟩
def F.ICU_STAT_SPURIOUS (c : Nat) : Fld := ⟨A.ICU_STAT c, 6, 1⟩
def F.ICU_STAT_CFG_ERR (c : Nat) : Fld := ⟨A.ICU_STAT c, 7, 1⟩
def F.ICU_FCAUSE_CAUSE (c : Nat) : Fld := ⟨A.ICU_FCAUSE c, 0, 8⟩
def F.ICU_FCAUSE_LEVEL (c : Nat) : Fld := ⟨A.ICU_FCAUSE c, 8, 3⟩
def F.ICU_FCAUSE_ESCCAUSE (c : Nat) : Fld := ⟨A.ICU_FCAUSE c, 16, 8⟩
def F.ICU_FCAUSE_ESC (c : Nat) : Fld := ⟨A.ICU_FCAUSE c, 24, 1⟩
def F.ICU_FADDR_ADDR (c : Nat) : Fld := ⟨A.ICU_FADDR c, 0, 48⟩
def F.ICU_SWI_RAISE (c : Nat) : Fld := ⟨A.ICU_SWI c, 0, 4⟩
def F.ICU_MRGCNT_N (c : Nat) : Fld := ⟨A.ICU_MRGCNT c, 0, 16⟩
def F.ICU_PEND_PEND (c r : Nat) : Fld := ⟨A.ICU_PEND c r, 0, 32⟩
def F.ICU_ACT_ACT (c r : Nat) : Fld := ⟨A.ICU_ACT c r, 0, 32⟩
def F.ICU_CFG_LEVEL (c src : Nat) : Fld := ⟨A.ICU_CFG c (src / 4), 12 * (src % 4) + 0, 3⟩
def F.ICU_CFG_GEN (c src : Nat) : Fld := ⟨A.ICU_CFG c (src / 4), 12 * (src % 4) + 3, 1⟩
def F.ICU_CFG_GRP (c src : Nat) : Fld := ⟨A.ICU_CFG c (src / 4), 12 * (src % 4) + 4, 5⟩
def F.ICU_GRP_THR (c g : Nat) : Fld := ⟨A.ICU_GRP c g, 0, 8⟩
def F.ICU_GRP_TLIM (c g : Nat) : Fld := ⟨A.ICU_GRP c g, 8, 16⟩
def F.ICU_GRP_COUNT (c g : Nat) : Fld := ⟨A.ICU_GRP c g, 24, 8⟩
def F.ICU_GRP_RUN (c g : Nat) : Fld := ⟨A.ICU_GRP c g, 32, 1⟩
def F.DMA_CTL_FRZ : Fld := ⟨A.DMA_CTL, 0, 1⟩
def F.DMA_CTL_FRZCORE : Fld := ⟨A.DMA_CTL, 1, 2⟩
def F.DMA_GSTART_START : Fld := ⟨A.DMA_GSTART, 0, 16⟩
def F.DMA_ABORTALL_CMD : Fld := ⟨A.DMA_ABORTALL, 0, 8⟩
def F.DMA_BUSY_BUSY : Fld := ⟨A.DMA_BUSY, 0, 16⟩
def F.DMA_ECCSTAT_COR : Fld := ⟨A.DMA_ECCSTAT, 0, 1⟩
def F.DMA_ECCSTAT_UNCOR : Fld := ⟨A.DMA_ECCSTAT, 1, 1⟩
def F.DMA_ECCSTAT_MEM : Fld := ⟨A.DMA_ECCSTAT, 4, 4⟩
def F.DMA_ECCADDR_ADDR : Fld := ⟨A.DMA_ECCADDR, 0, 41⟩
def F.DMA_ECCCNT_NCOR : Fld := ⟨A.DMA_ECCCNT, 0, 16⟩
def F.DMA_ECCCNT_NUNCOR : Fld := ⟨A.DMA_ECCCNT, 16, 16⟩
def F.DMA_CH_SRC_ADDR (n : Nat) : Fld := ⟨A.DMA_CH_SRC n, 0, 48⟩
def F.DMA_CH_DST_ADDR (n : Nat) : Fld := ⟨A.DMA_CH_DST n, 0, 48⟩
def F.DMA_CH_CNT_COUNT (n : Nat) : Fld := ⟨A.DMA_CH_CNT n, 0, 24⟩
def F.DMA_CH_STRIDE_SSTR (n : Nat) : Fld := ⟨A.DMA_CH_STRIDE n, 0, 16⟩
def F.DMA_CH_STRIDE_DSTR (n : Nat) : Fld := ⟨A.DMA_CH_STRIDE n, 16, 16⟩
def F.DMA_CH_CTL_START (n : Nat) : Fld := ⟨A.DMA_CH_CTL n, 0, 1⟩
def F.DMA_CH_CTL_ABORT (n : Nat) : Fld := ⟨A.DMA_CH_CTL n, 1, 1⟩
def F.DMA_CH_CTL_ESIZE (n : Nat) : Fld := ⟨A.DMA_CH_CTL n, 2, 2⟩
def F.DMA_CH_CTL_SWAP (n : Nat) : Fld := ⟨A.DMA_CH_CTL n, 4, 2⟩
def F.DMA_CH_CTL_IEN_DONE (n : Nat) : Fld := ⟨A.DMA_CH_CTL n, 6, 1⟩
def F.DMA_CH_CTL_IEN_ERR (n : Nat) : Fld := ⟨A.DMA_CH_CTL n, 7, 1⟩
def F.DMA_CH_STAT_BUSY (n : Nat) : Fld := ⟨A.DMA_CH_STAT n, 0, 1⟩
def F.DMA_CH_STAT_DONE (n : Nat) : Fld := ⟨A.DMA_CH_STAT n, 1, 1⟩
def F.DMA_CH_STAT_ERR (n : Nat) : Fld := ⟨A.DMA_CH_STAT n, 2, 1⟩
def F.DMA_CH_STAT_ABORTED (n : Nat) : Fld := ⟨A.DMA_CH_STAT n, 3, 1⟩
def F.DMA_CH_STAT_CAUSE (n : Nat) : Fld := ⟨A.DMA_CH_STAT n, 4, 4⟩
def F.DMA_CH_STAT_ERRSIDE (n : Nat) : Fld := ⟨A.DMA_CH_STAT n, 8, 1⟩
def F.DMA_CH_STAT_START_REFUSED (n : Nat) : Fld := ⟨A.DMA_CH_STAT n, 9, 1⟩
def F.DMA_CH_STAT_WR_REFUSED (n : Nat) : Fld := ⟨A.DMA_CH_STAT n, 10, 1⟩
def F.DMA_CH_ERRADDR_ADDR (n : Nat) : Fld := ⟨A.DMA_CH_ERRADDR n, 0, 48⟩
def F.FLC_CTL_FRZ : Fld := ⟨A.FLC_CTL, 0, 1⟩
def F.FLC_CTL_FRZCORE : Fld := ⟨A.FLC_CTL, 1, 2⟩
def F.FLC_CTL_HOLD : Fld := ⟨A.FLC_CTL, 3, 1⟩
def F.FLC_CTL_MLHOLD : Fld := ⟨A.FLC_CTL, 4, 1⟩
def F.FLC_STATUS_BUSY0 : Fld := ⟨A.FLC_STATUS, 0, 1⟩
def F.FLC_STATUS_BUSY1 : Fld := ⟨A.FLC_STATUS, 1, 1⟩
def F.FLC_STATUS_RUNNING : Fld := ⟨A.FLC_STATUS, 2, 1⟩
def F.FLC_STATUS_HELD : Fld := ⟨A.FLC_STATUS, 3, 1⟩
def F.FLC_STATUS_QLEN : Fld := ⟨A.FLC_STATUS, 4, 5⟩
def F.FLC_STATUS_RUNSLOT : Fld := ⟨A.FLC_STATUS, 9, 4⟩
def F.FLC_STATUS_ACCEPT_OFF : Fld := ⟨A.FLC_STATUS, 13, 1⟩
def F.FLC_ALLOC_SLOT : Fld := ⟨A.FLC_ALLOC, 0, 4⟩
def F.FLC_ALLOC_VALID : Fld := ⟨A.FLC_ALLOC, 4, 1⟩
def F.FLC_ECCSTAT_COR : Fld := ⟨A.FLC_ECCSTAT, 0, 1⟩
def F.FLC_ECCSTAT_UNCOR : Fld := ⟨A.FLC_ECCSTAT, 1, 1⟩
def F.FLC_ECCSTAT_NCOR : Fld := ⟨A.FLC_ECCSTAT, 8, 16⟩
def F.FLC_ECCSTAT_NUNCOR : Fld := ⟨A.FLC_ECCSTAT, 24, 16⟩
def F.FLC_ECCADDR_ADDR : Fld := ⟨A.FLC_ECCADDR, 0, 41⟩
def F.FLC_RECOVERY_STATE : Fld := ⟨A.FLC_RECOVERY, 0, 2⟩
def F.FLC_RECOVERY_BANK : Fld := ⟨A.FLC_RECOVERY, 2, 1⟩
def F.FLC_RECOVERY_SECTOR : Fld := ⟨A.FLC_RECOVERY, 3, 8⟩
def F.FLC_RECOVERY_JOURNAL : Fld := ⟨A.FLC_RECOVERY, 11, 1⟩
def F.FLC_RECOVERY_SLOTINV : Fld := ⟨A.FLC_RECOVERY, 12, 1⟩
def F.FLC_RSTINFO_VALID : Fld := ⟨A.FLC_RSTINFO, 0, 1⟩
def F.FLC_RSTINFO_CUT : Fld := ⟨A.FLC_RSTINFO, 1, 1⟩
def F.FLC_RSTINFO_FLUSHED : Fld := ⟨A.FLC_RSTINFO, 2, 1⟩
def F.FLC_RSTINFO_SLOT : Fld := ⟨A.FLC_RSTINFO, 3, 4⟩
def F.FLC_RSTINFO_OP : Fld := ⟨A.FLC_RSTINFO, 7, 2⟩
def F.FLC_RSTINFO_UNITS : Fld := ⟨A.FLC_RSTINFO, 9, 9⟩
def F.FLC_RSTINFO_BANK : Fld := ⟨A.FLC_RSTINFO, 18, 1⟩
def F.FLC_RSTINFO_SECTOR : Fld := ⟨A.FLC_RSTINFO, 19, 8⟩
def F.FLC_JSTAT_ACTIVE : Fld := ⟨A.FLC_JSTAT, 0, 1⟩
def F.FLC_JSTAT_FREE : Fld := ⟨A.FLC_JSTAT, 1, 8⟩
def F.FLC_JSTAT_GEN : Fld := ⟨A.FLC_JSTAT, 9, 32⟩
def F.FLC_D_ADDR_ADDR (k : Nat) : Fld := ⟨A.FLC_D_ADDR k, 0, 48⟩
def F.FLC_D_SRC_ADDR (k : Nat) : Fld := ⟨A.FLC_D_SRC k, 0, 48⟩
def F.FLC_D_CTL_GO (k : Nat) : Fld := ⟨A.FLC_D_CTL k, 0, 1⟩
def F.FLC_D_CTL_OP (k : Nat) : Fld := ⟨A.FLC_D_CTL k, 1, 2⟩
def F.FLC_D_CTL_N (k : Nat) : Fld := ⟨A.FLC_D_CTL k, 3, 9⟩
def F.FLC_D_CTL_IEN (k : Nat) : Fld := ⟨A.FLC_D_CTL k, 12, 1⟩
def F.FLC_D_CTL_FREE (k : Nat) : Fld := ⟨A.FLC_D_CTL k, 13, 1⟩
def F.FLC_D_STAT_STATE (k : Nat) : Fld := ⟨A.FLC_D_STAT k, 0, 3⟩
def F.FLC_D_STAT_RESULT (k : Nat) : Fld := ⟨A.FLC_D_STAT k, 3, 4⟩
def F.FLC_D_STAT_UNITS (k : Nat) : Fld := ⟨A.FLC_D_STAT k, 7, 9⟩
def F.FLC_D_STAT_ORIGIN (k : Nat) : Fld := ⟨A.FLC_D_STAT k, 16, 3⟩
def F.FAB_CTL_FRZ : Fld := ⟨A.FAB_CTL, 0, 1⟩
def F.FAB_CTL_FRZCORE : Fld := ⟨A.FAB_CTL, 1, 2⟩
def F.FAB_CTL_TOPO : Fld := ⟨A.FAB_CTL, 3, 2⟩
def F.FAB_CTL_IDMODE : Fld := ⟨A.FAB_CTL, 5, 1⟩
def F.FAB_CTL_LEARN : Fld := ⟨A.FAB_CTL, 6, 1⟩
def F.FAB_CTL_HLIM : Fld := ⟨A.FAB_CTL, 7, 8⟩
def F.FAB_CFGID_NODEID : Fld := ⟨A.FAB_CFGID, 0, 11⟩
def F.FAB_CFGID_POSBASE : Fld := ⟨A.FAB_CFGID, 12, 11⟩
def F.FAB_NODE_ID : Fld := ⟨A.FAB_NODE, 0, 11⟩
def F.FAB_NODE_VALID : Fld := ⟨A.FAB_NODE, 11, 1⟩
def F.FAB_NODE_STATE : Fld := ⟨A.FAB_NODE, 12, 3⟩
def F.FAB_NODE_POS : Fld := ⟨A.FAB_NODE, 15, 8⟩
def F.FAB_NODE_HOSTPORT : Fld := ⟨A.FAB_NODE, 23, 1⟩
def F.FAB_NODE_HOSTID : Fld := ⟨A.FAB_NODE, 24, 11⟩
def F.FAB_IDENT_IDENT : Fld := ⟨A.FAB_IDENT, 0, 48⟩
def F.FAB_MAC_MAC : Fld := ⟨A.FAB_MAC, 0, 48⟩
def F.FAB_STATUS_POSCHG : Fld := ⟨A.FAB_STATUS, 0, 1⟩
def F.FAB_STATUS_CONFLICT : Fld := ⟨A.FAB_STATUS, 1, 1⟩
def F.FAB_STATUS_ROUTE_ALT : Fld := ⟨A.FAB_STATUS, 2, 1⟩
def F.FAB_STATUS_IDLOST : Fld := ⟨A.FAB_STATUS, 3, 1⟩
def F.FAB_STATUS_CFG_ERR : Fld := ⟨A.FAB_STATUS, 4, 1⟩
def F.FAB_STATUS_WR_REFUSED : Fld := ⟨A.FAB_STATUS, 5, 1⟩
def F.FAB_IEN_IEN : Fld := ⟨A.FAB_IEN, 0, 6⟩
def F.FAB_P_CTL_EN (p : Nat) : Fld := ⟨A.FAB_P_CTL p, 0, 1⟩
def F.FAB_P_CTL_TXOFF (p : Nat) : Fld := ⟨A.FAB_P_CTL p, 1, 1⟩
def F.FAB_P_CTL_WAKEPULSE (p : Nat) : Fld := ⟨A.FAB_P_CTL p, 2, 1⟩
def F.FAB_P_CTL_IEN_DOWN (p : Nat) : Fld := ⟨A.FAB_P_CTL p, 3, 1⟩
def F.FAB_P_CTL_IEN_UP (p : Nat) : Fld := ⟨A.FAB_P_CTL p, 4, 1⟩
def F.FAB_P_STAT_PRESENT (p : Nat) : Fld := ⟨A.FAB_P_STAT p, 0, 1⟩
def F.FAB_P_STAT_IDOK (p : Nat) : Fld := ⟨A.FAB_P_STAT p, 1, 1⟩
def F.FAB_P_STAT_PWRERR (p : Nat) : Fld := ⟨A.FAB_P_STAT p, 2, 1⟩
def F.FAB_P_STAT_LOCK (p : Nat) : Fld := ⟨A.FAB_P_STAT p, 3, 1⟩
def F.FAB_P_STAT_UP (p : Nat) : Fld := ⟨A.FAB_P_STAT p, 4, 1⟩
def F.FAB_P_STAT_DOWNEVT (p : Nat) : Fld := ⟨A.FAB_P_STAT p, 5, 1⟩
def F.FAB_P_STAT_UPEVT (p : Nat) : Fld := ⟨A.FAB_P_STAT p, 6, 1⟩
def F.FAB_P_STAT_MEDIA (p : Nat) : Fld := ⟨A.FAB_P_STAT p, 7, 3⟩
def F.FAB_P_STAT_TXDIS (p : Nat) : Fld := ⟨A.FAB_P_STAT p, 10, 1⟩
def F.FAB_P_FRCNT_RX (p : Nat) : Fld := ⟨A.FAB_P_FRCNT p, 0, 24⟩
def F.FAB_P_FRCNT_TX (p : Nat) : Fld := ⟨A.FAB_P_FRCNT p, 24, 24⟩
def F.FAB_P_ERRCNT_FCS (p : Nat) : Fld := ⟨A.FAB_P_ERRCNT p, 0, 12⟩
def F.FAB_P_ERRCNT_HCRC (p : Nat) : Fld := ⟨A.FAB_P_ERRCNT p, 12, 12⟩
def F.FAB_P_ERRCNT_HOPDROP (p : Nat) : Fld := ⟨A.FAB_P_ERRCNT p, 24, 12⟩
def F.FAB_P_ERRCNT_OTHER (p : Nat) : Fld := ⟨A.FAB_P_ERRCNT p, 36, 12⟩
def F.FAB_P_DOWNCNT_N (p : Nat) : Fld := ⟨A.FAB_P_DOWNCNT p, 0, 16⟩
def F.FAB_FARCTL_TMO : Fld := ⟨A.FAB_FARCTL, 0, 14⟩
def F.FAB_FARCTL_SESS : Fld := ⟨A.FAB_FARCTL, 14, 4⟩
def F.FAB_FARSTAT_LAST : Fld := ⟨A.FAB_FARSTAT, 0, 4⟩
def F.FAB_FARSTAT_TMOFLG : Fld := ⟨A.FAB_FARSTAT, 4, 1⟩
def F.FAB_FARSTAT_REFFLG : Fld := ⟨A.FAB_FARSTAT, 5, 1⟩
def F.FAB_FARSTAT_TMOCNT : Fld := ⟨A.FAB_FARSTAT, 8, 16⟩
def F.FAB_FARSTAT_REFCNT : Fld := ⟨A.FAB_FARSTAT, 24, 16⟩
def F.FAB_FARADDR_ADDR : Fld := ⟨A.FAB_FARADDR, 0, 41⟩
def F.FAB_CYC_CTL_EN : Fld := ⟨A.FAB_CYC_CTL, 0, 1⟩
def F.FAB_CYC_CTL_AUTH : Fld := ⟨A.FAB_CYC_CTL, 1, 1⟩
def F.FAB_CYC_CTL_SNAP : Fld := ⟨A.FAB_CYC_CTL, 2, 18⟩
def F.FAB_CYC_CTL_RXWIN : Fld := ⟨A.FAB_CYC_CTL, 20, 14⟩
def F.FAB_CYC_REGION_RXOFS : Fld := ⟨A.FAB_CYC_REGION, 0, 11⟩
def F.FAB_CYC_REGION_RXLEN : Fld := ⟨A.FAB_CYC_REGION, 11, 10⟩
def F.FAB_CYC_REGION_TXOFS : Fld := ⟨A.FAB_CYC_REGION, 21, 11⟩
def F.FAB_CYC_REGION_TXLEN : Fld := ⟨A.FAB_CYC_REGION, 32, 10⟩
def F.FAB_CYC_STAT_ACTIVE : Fld := ⟨A.FAB_CYC_STAT, 0, 1⟩
def F.FAB_CYC_STAT_LATE : Fld := ⟨A.FAB_CYC_STAT, 1, 1⟩
def F.FAB_CYC_STAT_LOST : Fld := ⟨A.FAB_CYC_STAT, 2, 1⟩
def F.FAB_CYC_STAT_OVR : Fld := ⟨A.FAB_CYC_STAT, 3, 1⟩
def F.FAB_CYC_STAT_AUTHFAIL : Fld := ⟨A.FAB_CYC_STAT, 4, 1⟩
def F.FAB_CYC_STAT_CYCMIS : Fld := ⟨A.FAB_CYC_STAT, 5, 1⟩
def F.FAB_CYC_STAT_CFGERR : Fld := ⟨A.FAB_CYC_STAT, 6, 1⟩
def F.FAB_CYC_STAT_LENERR : Fld := ⟨A.FAB_CYC_STAT, 7, 1⟩
def F.FAB_CYC_STAT_CONSEC : Fld := ⟨A.FAB_CYC_STAT, 8, 2⟩
def F.FAB_CYC_STAT_SNAPRDY : Fld := ⟨A.FAB_CYC_STAT, 10, 1⟩
def F.FAB_CYC_STAT_WR_REFUSED : Fld := ⟨A.FAB_CYC_STAT, 11, 1⟩
def F.FAB_CYC_CNT_LOSTCNT : Fld := ⟨A.FAB_CYC_CNT, 0, 12⟩
def F.FAB_CYC_CNT_LATECNT : Fld := ⟨A.FAB_CYC_CNT, 12, 12⟩
def F.FAB_CYC_CNT_OVRCNT : Fld := ⟨A.FAB_CYC_CNT, 24, 12⟩
def F.FAB_CYC_CNT_AUTHCNT : Fld := ⟨A.FAB_CYC_CNT, 36, 12⟩
def F.FAB_CYC_NO_CYCNO : Fld := ⟨A.FAB_CYC_NO, 0, 32⟩
def F.FAB_CYC_ARR_T : Fld := ⟨A.FAB_CYC_ARR, 0, 24⟩
def F.FAB_CYC_IEN_IEN : Fld := ⟨A.FAB_CYC_IEN, 0, 6⟩
def F.FAB_CYC_MAP_EN (k : Nat) : Fld := ⟨A.FAB_CYC_MAP k, 0, 1⟩
def F.FAB_CYC_MAP_DIR (k : Nat) : Fld := ⟨A.FAB_CYC_MAP k, 1, 1⟩
def F.FAB_CYC_MAP_WORD (k : Nat) : Fld := ⟨A.FAB_CYC_MAP k, 2, 6⟩
def F.FAB_CYC_MAP_ADDR (k : Nat) : Fld := ⟨A.FAB_CYC_MAP k, 8, 30⟩
def F.FAB_TIME_CTL_MASTER : Fld := ⟨A.FAB_TIME_CTL, 0, 1⟩
def F.FAB_TIME_CTL_SYNCPER : Fld := ⟨A.FAB_TIME_CTL, 1, 7⟩
def F.FAB_TIME_CTL_EPER : Fld := ⟨A.FAB_TIME_CTL, 8, 8⟩
def F.FAB_TIME_CTL_LIM : Fld := ⟨A.FAB_TIME_CTL, 16, 12⟩
def F.FAB_TIME_STAT_TIME_VALID : Fld := ⟨A.FAB_TIME_STAT, 0, 1⟩
def F.FAB_TIME_STAT_DISC : Fld := ⟨A.FAB_TIME_STAT, 1, 1⟩
def F.FAB_TIME_STAT_LOSTSYNC : Fld := ⟨A.FAB_TIME_STAT, 2, 1⟩
def F.FAB_TIME_STAT_OFSERR : Fld := ⟨A.FAB_TIME_STAT, 3, 1⟩
def F.FAB_TIME_STAT_VALIDCHG : Fld := ⟨A.FAB_TIME_STAT, 4, 1⟩
def F.FAB_TIME_STAT_NEXCH : Fld := ⟨A.FAB_TIME_STAT, 8, 4⟩
def F.FAB_TIME_STAT_SYNCPORT : Fld := ⟨A.FAB_TIME_STAT, 12, 1⟩
def F.FAB_TIME_OFS_OFS : Fld := ⟨A.FAB_TIME_OFS, 0, 48⟩
def F.FAB_TIME_FREQ_F : Fld := ⟨A.FAB_TIME_FREQ, 0, 48⟩
def F.FAB_P_LDELAY_D (p : Nat) : Fld := ⟨A.FAB_P_LDELAY p, 0, 48⟩
def F.FAB_TIME_IEN_IEN : Fld := ⟨A.FAB_TIME_IEN, 0, 5⟩
def F.FAB_SESSCTL_IDLE : Fld := ⟨A.FAB_SESSCTL, 0, 16⟩
def F.FAB_SESS_STAT_STATE (s : Nat) : Fld := ⟨A.FAB_SESS_STAT s, 0, 2⟩
def F.FAB_SESS_STAT_RIGHTS (s : Nat) : Fld := ⟨A.FAB_SESS_STAT s, 2, 6⟩
def F.FAB_SESS_STAT_KEYIDX (s : Nat) : Fld := ⟨A.FAB_SESS_STAT s, 8, 2⟩
def F.FAB_SESS_STAT_PEER (s : Nat) : Fld := ⟨A.FAB_SESS_STAT s, 10, 11⟩
def F.FAB_SESS_CNT_RXOK (s : Nat) : Fld := ⟨A.FAB_SESS_CNT s, 0, 16⟩
def F.FAB_SESS_CNT_REJ (s : Nat) : Fld := ⟨A.FAB_SESS_CNT s, 16, 16⟩
def F.FAB_SESS_CLOSE_CMD (s : Nat) : Fld := ⟨A.FAB_SESS_CLOSE s, 0, 8⟩
def F.SAF_STATUS_STO : Fld := ⟨A.SAF_STATUS, 0, 1⟩
def F.SAF_STATUS_STOA_REL : Fld := ⟨A.SAF_STATUS, 1, 1⟩
def F.SAF_STATUS_STOB_REL : Fld := ⟨A.SAF_STATUS, 2, 1⟩
def F.SAF_STATUS_SS1 : Fld := ⟨A.SAF_STATUS, 3, 1⟩
def F.SAF_STATUS_ACK_ERR : Fld := ⟨A.SAF_STATUS, 4, 1⟩
def F.SAF_GATEEN_EN : Fld := ⟨A.SAF_GATEEN, 0, 24⟩
def F.SAF_STOCTL_HOLD : Fld := ⟨A.SAF_STOCTL, 0, 1⟩
def F.SAF_STOCTL_DECLARE : Fld := ⟨A.SAF_STOCTL, 1, 1⟩
def F.SAF_CONSENT_ARM : Fld := ⟨A.SAF_CONSENT, 0, 1⟩
def F.SAF_CONSENT_RUN : Fld := ⟨A.SAF_CONSENT, 1, 1⟩
def F.SAF_ACK_ACK : Fld := ⟨A.SAF_ACK, 0, 1⟩
def F.SAF_SS1_TIME : Fld := ⟨A.SAF_SS1, 0, 14⟩
def F.SAF_DISC_TIME : Fld := ⟨A.SAF_DISC, 0, 7⟩
def F.SAF_MWDT_TMO : Fld := ⟨A.SAF_MWDT, 0, 10⟩
def F.SAF_MWDT_DBGREL : Fld := ⟨A.SAF_MWDT, 10, 1⟩
def F.SAF_MWDT_SVC_KEY : Fld := ⟨A.SAF_MWDT_SVC, 0, 8⟩
def F.SAF_MWDT_REM_US : Fld := ⟨A.SAF_MWDT_REM, 0, 20⟩
def F.SAF_VIOL_COUNT : Fld := ⟨A.SAF_VIOL, 0, 16⟩
def F.SAF_VIOL_ORIGIN : Fld := ⟨A.SAF_VIOL, 16, 3⟩
def F.SAF_VIOLADDR_ADDR : Fld := ⟨A.SAF_VIOLADDR, 0, 41⟩
def F.SAF_FAULT_DISC : Fld := ⟨A.SAF_FAULT, 0, 1⟩
def F.SAF_FAULT_SLS : Fld := ⟨A.SAF_FAULT, 1, 1⟩
def F.SAF_FAULT_XCHK : Fld := ⟨A.SAF_FAULT, 2, 1⟩
def F.SAF_FAULT_SS1MON : Fld := ⟨A.SAF_FAULT, 3, 1⟩
def F.SAF_FAULT_ECC_S : Fld := ⟨A.SAF_FAULT, 4, 1⟩
def F.SAF_FAULT_DECL : Fld := ⟨A.SAF_FAULT, 5, 1⟩
def F.SAF_NOTE_NOTE : Fld := ⟨A.SAF_NOTE, 0, 16⟩
def F.SAF_SPD_WIN : Fld := ⟨A.SAF_SPD, 0, 6⟩
def F.SAF_SPD_SLSN : Fld := ⟨A.SAF_SPD, 6, 8⟩
def F.SAF_CWD_EN (n : Nat) : Fld := ⟨A.SAF_CWD n, 0, 1⟩
def F.SAF_CWD_FRZ (n : Nat) : Fld := ⟨A.SAF_CWD n, 1, 1⟩
def F.SAF_CWD_TMO (n : Nat) : Fld := ⟨A.SAF_CWD n, 2, 14⟩
def F.SAF_CWD_WIN (n : Nat) : Fld := ⟨A.SAF_CWD n, 16, 4⟩
def F.SAF_CWD_REM_REM (n : Nat) : Fld := ⟨A.SAF_CWD_REM n, 0, 14⟩
def F.SAF_AX_POS_P (a : Nat) : Fld := ⟨A.SAF_AX_POS a, 0, 48⟩
def F.SAF_AX_SPD_V (a : Nat) : Fld := ⟨A.SAF_AX_SPD a, 0, 48⟩
def F.SAF_AX_SLS_V (a : Nat) : Fld := ⟨A.SAF_AX_SLS a, 0, 48⟩
def F.SAF_AX_CFG_SLSSRC (a : Nat) : Fld := ⟨A.SAF_AX_CFG a, 0, 2⟩
def F.SAF_AX_CFG_SLSDIO (a : Nat) : Fld := ⟨A.SAF_AX_CFG a, 2, 4⟩
def F.SAF_AX_CFG_XEN (a : Nat) : Fld := ⟨A.SAF_AX_CFG a, 6, 1⟩
def F.SAF_AX_CFG_XTOL (a : Nat) : Fld := ⟨A.SAF_AX_CFG a, 7, 24⟩
def F.SAF_AX_CFG_SS1TOL (a : Nat) : Fld := ⟨A.SAF_AX_CFG a, 31, 16⟩
def F.SAF_AX_STAT_VALID (a : Nat) : Fld := ⟨A.SAF_AX_STAT a, 0, 1⟩
def F.SAF_AX_STAT_SLSACT (a : Nat) : Fld := ⟨A.SAF_AX_STAT a, 1, 1⟩
def F.SAF_AX_STAT_SLSEXC (a : Nat) : Fld := ⟨A.SAF_AX_STAT a, 2, 1⟩
def F.SAF_AX_STAT_XERR (a : Nat) : Fld := ⟨A.SAF_AX_STAT a, 3, 1⟩
def F.SAF_AX_RXCFG_MODE (a : Nat) : Fld := ⟨A.SAF_AX_RXCFG a, 0, 3⟩
def F.SAF_AX_RXCFG_CPE (a : Nat) : Fld := ⟨A.SAF_AX_RXCFG a, 3, 25⟩
def F.SAF_AX_RXCFG_HPP (a : Nat) : Fld := ⟨A.SAF_AX_RXCFG a, 28, 7⟩
def F.SAF_AX_RXSER_SER (a : Nat) : Fld := ⟨A.SAF_AX_RXSER a, 0, 48⟩
def F.CRY_CTL_FRZ : Fld := ⟨A.CRY_CTL, 0, 1⟩
def F.CRY_CTL_FRZCORE : Fld := ⟨A.CRY_CTL, 1, 2⟩
def F.CRY_CTL_IEN : Fld := ⟨A.CRY_CTL, 3, 1⟩
def F.CRY_SRC_ADDR : Fld := ⟨A.CRY_SRC, 0, 48⟩
def F.CRY_LEN_LEN : Fld := ⟨A.CRY_LEN, 0, 24⟩
def F.CRY_KEY_ADDR : Fld := ⟨A.CRY_KEY, 0, 48⟩
def F.CRY_SIG_ADDR : Fld := ⟨A.CRY_SIG, 0, 48⟩
def F.CRY_DST_ADDR : Fld := ⟨A.CRY_DST, 0, 48⟩
def F.CRY_CMD_OP : Fld := ⟨A.CRY_CMD, 0, 4⟩
def F.CRY_CMD_KEYIDX : Fld := ⟨A.CRY_CMD, 4, 2⟩
def F.CRY_CMD_KIND : Fld := ⟨A.CRY_CMD, 6, 1⟩
def F.CRY_CMD_SLOT : Fld := ⟨A.CRY_CMD, 7, 1⟩
def F.CRY_CMD_ARG : Fld := ⟨A.CRY_CMD, 8, 6⟩
def F.CRY_STAT_BUSY : Fld := ⟨A.CRY_STAT, 0, 1⟩
def F.CRY_STAT_DONE : Fld := ⟨A.CRY_STAT, 1, 1⟩
def F.CRY_STAT_RESULT : Fld := ⟨A.CRY_STAT, 2, 4⟩
def F.CRY_STAT_ORIGIN : Fld := ⟨A.CRY_STAT, 6, 3⟩
def F.CRY_OTPSTAT_PROV : Fld := ⟨A.CRY_OTPSTAT, 0, 4⟩
def F.CRY_OTPSTAT_REVOKED : Fld := ⟨A.CRY_OTPSTAT, 4, 4⟩
def F.CRY_OTPSTAT_EPOCH : Fld := ⟨A.CRY_OTPSTAT, 8, 6⟩
def F.CRY_OTPSTAT_CFGSIG : Fld := ⟨A.CRY_OTPSTAT, 14, 1⟩
def F.CRY_BOOTINFO_SAF_NOCOMMIT : Fld := ⟨A.CRY_BOOTINFO, 0, 1⟩
def F.CRY_BOOTINFO_APP_NOCOMMIT : Fld := ⟨A.CRY_BOOTINFO, 1, 1⟩
def F.CRY_BOOTINFO_VALID : Fld := ⟨A.CRY_BOOTINFO, 2, 4⟩
def F.CRY_BOOTINFO_SAF_KEY : Fld := ⟨A.CRY_BOOTINFO, 6, 2⟩
def F.CRY_BOOTINFO_APP_KEY : Fld := ⟨A.CRY_BOOTINFO, 8, 2⟩
def F.CRY_SAFVER_VER : Fld := ⟨A.CRY_SAFVER, 0, 32⟩
def F.CRY_APPVER_VER : Fld := ⟨A.CRY_APPVER, 0, 32⟩
def F.CRY_COMMITSTAT_FREE : Fld := ⟨A.CRY_COMMITSTAT, 0, 9⟩
def F.CRY_COMMITSTAT_SEQ : Fld := ⟨A.CRY_COMMITSTAT, 9, 32⟩
def F.CRY_SAFDIG_DIGEST (k : Nat) : Fld := ⟨A.CRY_SAFDIG k, 0, 48⟩
def F.CRY_APPDIG_DIGEST (k : Nat) : Fld := ⟨A.CRY_APPDIG k, 0, 48⟩
def F.AON_WAKECFG_LVLEN : Fld := ⟨A.AON_WAKECFG, 0, 16⟩
def F.AON_WAKECFG_LVLPOL : Fld := ⟨A.AON_WAKECFG, 16, 16⟩
def F.AON_WAKECFG_FABEN : Fld := ⟨A.AON_WAKECFG, 32, 1⟩
def F.AON_WAKECFG_TMREN : Fld := ⟨A.AON_WAKECFG, 33, 1⟩
def F.AON_WAKESTAT_EDGE : Fld := ⟨A.AON_WAKESTAT, 0, 1⟩
def F.AON_WAKESTAT_DIOLVL : Fld := ⟨A.AON_WAKESTAT, 1, 1⟩
def F.AON_WAKESTAT_FAB : Fld := ⟨A.AON_WAKESTAT, 2, 1⟩
def F.AON_WAKESTAT_TMR : Fld := ⟨A.AON_WAKESTAT, 3, 1⟩
def F.AON_WAKESTAT_CHAN : Fld := ⟨A.AON_WAKESTAT, 4, 7⟩
def F.AON_TMR_CNT : Fld := ⟨A.AON_TMR, 0, 32⟩
def F.AON_TMR_EN : Fld := ⟨A.AON_TMR, 32, 1⟩
def F.AON_TMR_EXP : Fld := ⟨A.AON_TMR, 33, 1⟩
def F.AON_PADREL_CMD : Fld := ⟨A.AON_PADREL, 0, 8⟩
def F.AON_PADREL_HELD : Fld := ⟨A.AON_PADREL, 8, 1⟩
def F.AON_DIODIR_DIR : Fld := ⟨A.AON_DIODIR, 0, 16⟩
def F.AON_DIOOUT_OUT : Fld := ⟨A.AON_DIOOUT, 0, 16⟩
def F.AON_DIOIN_IN : Fld := ⟨A.AON_DIOIN, 0, 16⟩
def F.AON_SAVESTAT_VALID : Fld := ⟨A.AON_SAVESTAT, 0, 1⟩
def F.AON_SAVESTAT_RESTORED : Fld := ⟨A.AON_SAVESTAT, 1, 1⟩
def F.AON_SAVESTAT_CRCERR : Fld := ⟨A.AON_SAVESTAT, 2, 1⟩
def F.AON_SAVESTAT_LEN : Fld := ⟨A.AON_SAVESTAT, 3, 14⟩
def F.AON_SAVESTAT_GEN : Fld := ⟨A.AON_SAVESTAT, 17, 31⟩
def F.AON_DCYC_N : Fld := ⟨A.AON_DCYC, 0, 48⟩
def F.AON_PWRSTAT_APP : Fld := ⟨A.AON_PWRSTAT, 0, 2⟩
def F.AON_PWRSTAT_SAF : Fld := ⟨A.AON_PWRSTAT, 2, 2⟩
def F.AON_PWRSTAT_DRV : Fld := ⟨A.AON_PWRSTAT, 4, 2⟩
def F.AON_PWRSTAT_FABD : Fld := ⟨A.AON_PWRSTAT, 6, 2⟩
def F.AON_PWRSTAT_DRAM : Fld := ⟨A.AON_PWRSTAT, 8, 2⟩
def F.AON_CWDSVC_KEY (n : Nat) : Fld := ⟨A.AON_CWDSVC n, 0, 16⟩
def F.DBG_CTL_MONLVL : Fld := ⟨A.DBG_CTL, 0, 3⟩
def F.DBG_CTL_SIDEFX : Fld := ⟨A.DBG_CTL, 3, 1⟩
def F.DBG_STATUS_CFG_ERR : Fld := ⟨A.DBG_STATUS, 0, 1⟩
def F.DBG_STATUS_WR_REFUSED : Fld := ⟨A.DBG_STATUS, 1, 1⟩
def F.DBG_AUTHSTAT_OK : Fld := ⟨A.DBG_AUTHSTAT, 0, 1⟩
def F.DBG_AUTHSTAT_LOCKOUT : Fld := ⟨A.DBG_AUTHSTAT, 1, 1⟩
def F.DBG_AUTHSTAT_FAILS : Fld := ⟨A.DBG_AUTHSTAT, 2, 2⟩
def F.DBG_AUTHSTAT_BUSY : Fld := ⟨A.DBG_AUTHSTAT, 4, 1⟩
def F.DBG_AUTHCMD_CMD : Fld := ⟨A.DBG_AUTHCMD, 0, 8⟩
def F.DBG_AUTHCMD_KEYIDX : Fld := ⟨A.DBG_AUTHCMD, 8, 2⟩
def F.DBG_AUTHNONCE_NONCE (k : Nat) : Fld := ⟨A.DBG_AUTHNONCE k, 0, 48⟩
def F.DBG_AUTHSIG_SIG (k : Nat) : Fld := ⟨A.DBG_AUTHSIG k, 0, 48⟩
def F.DBG_C_CTL_STEP (c : Nat) : Fld := ⟨A.DBG_C_CTL c, 0, 1⟩
def F.DBG_C_CTL_STEPINT (c : Nat) : Fld := ⟨A.DBG_C_CTL c, 1, 1⟩
def F.DBG_C_CMD_HALT (c : Nat) : Fld := ⟨A.DBG_C_CMD c, 0, 1⟩
def F.DBG_C_STAT_MONST (c : Nat) : Fld := ⟨A.DBG_C_STAT c, 0, 1⟩
def F.DBG_C_STAT_HALTPEND (c : Nat) : Fld := ⟨A.DBG_C_STAT c, 1, 1⟩
def F.DBG_C_STAT_CAUSE (c : Nat) : Fld := ⟨A.DBG_C_STAT c, 2, 5⟩
def F.DBG_C_STAT_BPHIT (c : Nat) : Fld := ⟨A.DBG_C_STAT c, 7, 3⟩
def F.DBG_C_STAT_WPHIT (c : Nat) : Fld := ⟨A.DBG_C_STAT c, 10, 2⟩
def F.DBG_C_STAT_MISSED (c : Nat) : Fld := ⟨A.DBG_C_STAT c, 12, 1⟩
def F.DBG_C_WADDR_ADDR (c : Nat) : Fld := ⟨A.DBG_C_WADDR c, 0, 41⟩
def F.DBG_C_BP_ADDR (c k : Nat) : Fld := ⟨A.DBG_C_BP c k, 0, 41⟩
def F.DBG_C_BP_PRIVF (c k : Nat) : Fld := ⟨A.DBG_C_BP c k, 45, 2⟩
def F.DBG_C_BP_EN (c k : Nat) : Fld := ⟨A.DBG_C_BP c k, 47, 1⟩
def F.DBG_C_WP_ADDR (c k : Nat) : Fld := ⟨A.DBG_C_WP c k, 0, 41⟩
def F.DBG_C_WP_LEN (c k : Nat) : Fld := ⟨A.DBG_C_WP c k, 41, 5⟩
def F.DBG_C_WP_RD (c k : Nat) : Fld := ⟨A.DBG_C_WP c k, 46, 1⟩
def F.DBG_C_WP_WR (c k : Nat) : Fld := ⟨A.DBG_C_WP c k, 47, 1⟩
def F.DBG_C_TXD_D (c : Nat) : Fld := ⟨A.DBG_C_TXD c, 0, 48⟩
def F.DBG_C_RXD_D (c : Nat) : Fld := ⟨A.DBG_C_RXD c, 0, 48⟩
def F.DBG_C_VTSTAT_TXFULL (c : Nat) : Fld := ⟨A.DBG_C_VTSTAT c, 0, 1⟩
def F.DBG_C_VTSTAT_RXFULL (c : Nat) : Fld := ⟨A.DBG_C_VTSTAT c, 1, 1⟩
def F.DBG_C_VTSTAT_TXOVF (c : Nat) : Fld := ⟨A.DBG_C_VTSTAT c, 2, 1⟩
def F.DBG_C_VTSTAT_RXOVF (c : Nat) : Fld := ⟨A.DBG_C_VTSTAT c, 3, 1⟩
def F.DBG_C_VTSTAT_IEN_RX (c : Nat) : Fld := ⟨A.DBG_C_VTSTAT c, 4, 1⟩
def F.TST_CTL_TEST_ENABLE : Fld := ⟨A.TST_CTL, 0, 1⟩
def F.TST_CTL_TEST_RUN : Fld := ⟨A.TST_CTL, 1, 1⟩
def F.TST_CTL_ACTIVE : Fld := ⟨A.TST_CTL, 2, 1⟩
def F.TST_CTL_EN : Fld := ⟨A.TST_CTL, 3, 7⟩
def F.TST_CTL_WR_REFUSED : Fld := ⟨A.TST_CTL, 10, 1⟩
def F.TST_SAF_RUNOK : Fld := ⟨A.TST_SAF, 0, 1⟩
def F.TST_FABDLY_DLY : Fld := ⟨A.TST_FABDLY, 0, 10⟩
def F.TST_FABDLY_PORTS : Fld := ⟨A.TST_FABDLY, 10, 2⟩
def F.TST_FABDROP_N : Fld := ⟨A.TST_FABDROP, 0, 16⟩
def F.TST_FABDROP_PORTS : Fld := ⟨A.TST_FABDROP, 16, 2⟩
def F.TST_FABDROP_CYCONLY : Fld := ⟨A.TST_FABDROP, 18, 1⟩
def F.TST_FABDROP_CNT : Fld := ⟨A.TST_FABDROP, 24, 24⟩
def F.TST_DMABP_M : Fld := ⟨A.TST_DMABP, 0, 8⟩
def F.TST_DMABP_N : Fld := ⟨A.TST_DMABP, 8, 8⟩
def F.TST_LANE_QUADS : Fld := ⟨A.TST_LANE, 0, 6⟩
def F.TST_LANE_DLY : Fld := ⟨A.TST_LANE, 6, 12⟩
def F.TST_LANE_SIDX : Fld := ⟨A.TST_LANE, 18, 7⟩
def F.TST_LANE_ALL : Fld := ⟨A.TST_LANE, 25, 1⟩
def F.TST_ADCDLY_QUADS : Fld := ⟨A.TST_ADCDLY, 0, 6⟩
def F.TST_ADCDLY_DLY : Fld := ⟨A.TST_ADCDLY, 6, 8⟩
def F.TST_FLCSTR_US : Fld := ⟨A.TST_FLCSTR, 0, 20⟩
def F.TST_JIT_J : Fld := ⟨A.TST_JIT, 0, 8⟩
def F.TST_JIT_SEED : Fld := ⟨A.TST_JIT, 16, 16⟩
def F.EVR_MRG_N (r : Nat) : Fld := ⟨A.EVR_MRG r, 0, 48⟩

end Sys2Proof.Machine
end

