-- ==== Sys2Proof/Machine/Tab.lean ====
section
/-! DEFINITION. Sparse tables: a list of (key, value) pairs with strictly rising keys, in which a key that is not listed
reads as a default.  A write of the default removes the entry, so equal tables are equal lists.  The register space, the
per-axis, per-quad, per-core working state and the memory are all held in this one form. -/
namespace Sys2Proof.Machine

/-- A sparse table over `α`, keyed by natural numbers. -/
abbrev Tab (α : Type) := List (Nat × α)

/-- The listed value of key `k`, if any. -/
def Tab.find {α : Type} : Tab α → Nat → Option α
  | [], _ => none
  | (k', v) :: t, k => if k' = k then some v else Tab.find t k

/-- The value of key `k`: the listed one, else the default `d`. -/
def Tab.get {α : Type} (d : α) (t : Tab α) (k : Nat) : α :=
  match Tab.find t k with
  | some v => v
  | none => d

/-- `t` with key `k` no longer listed. -/
def Tab.del {α : Type} : Tab α → Nat → Tab α
  | [], _ => []
  | (k', v) :: t, k =>
    if k' = k then Tab.del t k
    else (k', v) :: Tab.del t k

/-- `t` with key `k` listed as `v`, keeping the keys in rising order. -/
def Tab.put {α : Type} : Tab α → Nat → α → Tab α
  | [], k, v => [(k, v)]
  | (k', v') :: t, k, v =>
    if k < k' then (k, v) :: (k', v') :: t
    else if k = k' then (k, v) :: t
    else (k', v') :: Tab.put t k v

/-- `t` with key `k` reading `v`, in canonical form for the default `d`. -/
def Tab.set {α : Type} [DecidableEq α] (d : α) (t : Tab α) (k : Nat) (v : α) : Tab α :=
  if v = d then Tab.del t k else Tab.put t k v

/-- The canonical form: keys strictly rising, no entry equal to the default of its key. -/
def Tab.wf {α : Type} [DecidableEq α] (d : Nat → α) : Tab α → Bool
  | [] => true
  | [(k, v)] => decide (v ≠ d k)
  | (k, v) :: (k', v') :: t => decide (k < k') && decide (v ≠ d k) && Tab.wf d ((k', v') :: t)

end Sys2Proof.Machine
end

