-- ==== Sys2Proof/Machine/State.lean ====
section
/-! DEFINITION. The state of the block as plain data: every register under its bus address, the memories, the cores and the
working state that the spec gives each block, and the queue of waiting commands. -/
namespace Sys2Proof.Machine

/-- Working state of a timer (R114-R122). -/
structure Timer where
  /-- base cycles since the prescaler last restarted or clocked the counter -/
  pre : Nat
  /-- the active reload value while a written one waits for a wrap (R115) -/
  oldReload : Option Nat
  /-- the active prescaler while a written one waits (R115) -/
  oldPre : Option Nat
  /-- capture queue 0, oldest first -/
  q0 : List Word
  /-- capture queue 1, oldest first -/
  q1 : List Word
  /-- instant of the last natural wrap (R117) -/
  wrapAt : Option (Nat × Nat)
  /-- instant of the last stop (R116) -/
  stopAt : Option (Nat × Nat)
  /-- instant of the capture that found queue 0 empty (R122) -/
  newAt0 : Option (Nat × Nat)
  /-- instant of the capture that found queue 1 empty -/
  newAt1 : Option (Nat × Nat)
  /-- a capture of this cycle that found queue 0 full (R122) -/
  lost0 : Option Word
  /-- a capture of this cycle that found queue 1 full -/
  lost1 : Option Word
  deriving DecidableEq, Repr

/-- The reset value of `Timer`. -/
def Timer.init : Timer where
  pre := 0
  oldReload := none
  oldPre := none
  q0 := []
  q1 := []
  wrapAt := none
  stopAt := none
  newAt0 := none
  newAt1 := none
  lost0 := none
  lost1 := none

/-- What a core is doing. -/
inductive CoreRun where
  | held
  | running
  | waiting
  | lockup
  | stopped
  | stalled
  deriving DecidableEq, Repr

/-- A Zenou core (R352-R368). -/
structure Core where
  /-- held in reset, running, waiting in WFI, in lockup, stopped by the hardware, or stalled on a far transaction -/
  run : CoreRun
  /-- address of the next instruction -/
  pc : Word
  /-- the 256 window registers by physical number, then g0-g7 at 256-263 -/
  wregs : Tab Word
  /-- the special registers by number (R367); PSR reads 1 after reset -/
  sregs : Tab Word
  /-- the load-link reservation: a 16-byte row, by its first address (R375) -/
  resv : Option Nat
  /-- the store buffer, oldest entry first: address and bytes (R357) -/
  sbuf : List (Nat × List Byte)
  /-- the address whose next fetch is exempt from the breakpoints (R598) -/
  exempt : Option Nat
  /-- monitor state was left with STEP set: one instruction runs (R600) -/
  stepping : Bool
  /-- the handler's first instruction has not run yet (R411) -/
  fresh : Bool
  /-- the core has been released at the end of BOOT (R81) -/
  released : Bool
  deriving DecidableEq, Repr

/-- The reset value of `Core`. Log entry 5 (DESIGN CHOICE). -/
def Core.init : Core where
  run := .held
  pc := 0
  wregs := []
  sregs := []
  resv := none
  sbuf := []
  exempt := none
  stepping := false
  fresh := false
  released := false

/-- Working state of an axis. -/
structure Axis where
  /-- the output enable in effect (R134: 0 at once, 1 from the next valley) -/
  oenEff : Bool
  /-- the phases are in their trip output states until a valley with no trip input (R149, R150) -/
  inTrip : Bool
  /-- the OR of the axis's trip inputs when last looked at (R149) -/
  lvl : Bool
  /-- d integrator, F40 with 16 guard bits (R209, R215) -/
  xd : Int
  /-- q integrator, F40 with 16 guard bits -/
  xq : Int
  /-- velocity integrator, F40 with 16 guard bits (R220) -/
  xv : Int
  /-- states s1, s2 of the four biquads with 16 guard bits (R222) -/
  bq : List (Int × Int)
  /-- disturbance observer, F40 with 16 guard bits (R223) -/
  dob : Int
  /-- speed at the previous velocity update, F24 (R223) -/
  wPrev : Int
  /-- integrated angle of mode 4, 2^-40 turn (R211) -/
  theta : Int
  /-- q reference in use, F40 -/
  qCur : Int
  /-- q reference in use before the last velocity update -/
  qPrev : Int
  /-- q reference of the last velocity update -/
  qNew : Int
  /-- inner updates since the last velocity update (R226) -/
  qI : Nat
  /-- velocity reference in use, F24 -/
  vCur : Int
  /-- velocity reference in use before the last position update -/
  vPrev : Int
  /-- velocity reference of the last position update -/
  vNew : Int
  /-- velocity updates since the last position update -/
  vI : Nat
  /-- position set-point taken at the last frame tick (R227) -/
  spPos : Word
  /-- velocity set-point taken -/
  spVel : Word
  /-- acceleration set-point taken -/
  spAcc : Word
  /-- q current set-point taken -/
  spIq : Word
  /-- d current set-point taken -/
  spId : Word
  /-- position set-point of the tick before (R228) -/
  ppPos : Word
  /-- velocity set-point of the tick before -/
  ppVel : Word
  /-- acceleration set-point of the tick before -/
  ppAcc : Word
  /-- velocity reference of the stop ramp, F24 (R241) -/
  ramp : Option Int
  /-- d current reference kept through the stop ramp (R241) -/
  ssId : Int
  /-- the speed estimate was invalid at a pass or update since the last valid velocity update (R236) -/
  spdWasInv : Bool
  /-- KAFF term of the last velocity update, limited, F40 (R236) -/
  affNow : Int
  /-- the axis was in its trip states or without gate enable at the last pass (R239) -/
  passHold : Bool
  /-- instant of the last commit request that the budget refused (R230) -/
  refAt : Option (Nat × Nat)
  /-- the new active bank is being copied (R231) -/
  copying : Bool
  /-- the stop ramp sets both current references to 0 (R241) -/
  ssZero : Bool
  /-- q reference in force before a swap that activated the velocity loop (R232) -/
  seed : Option Int
  /-- FLAG.VSAT was raised in the last pass (R261) -/
  vsat : Bool
  /-- cogging term of the last pass (R261) -/
  cogNow : Int
  /-- |ωs| at entry to SAFE_STOP plus SS1TOL, F24 (R543) -/
  ssBound : Int
  /-- consecutive SLS counts (R546) -/
  slsRun : Nat
  /-- parameter writes that wait for the bank copy: offset, word (R231) -/
  stalled : List (Nat × Word)
  /-- drive-base cycle of the last bank swap (R231) -/
  swapAt : Option (Nat × Nat)
  /-- drive-base cycle of the pending commit's request (R230) -/
  pendAt : Option (Nat × Nat)
  /-- drive-base cycle of the last set-point write (R227) -/
  spAt : Option (Nat × Nat)
  /-- the five set-points before the writes of that cycle -/
  spOld : List Word
  /-- FRESH before the writes of that cycle -/
  spFresh : Bool
  /-- instant of the software write that armed the duties (R143) -/
  armAt : Option (Nat × Nat)
  /-- the axis was armed before that write (R143) -/
  armOld : Bool
  /-- drive-base cycle of the last result set (R170) -/
  adcAt : Option (Nat × Nat)
  /-- IU, IV, IW, ISTAT and RAW before it -/
  adcOld : List Word
  /-- the I²t limit LI, F40 A (R343) -/
  li : Int
  /-- the junction limit LJ, F40 A (R344) -/
  lj : Int
  /-- consecutive frame ticks with a current above ZTHR (R177) -/
  drift : Nat
  deriving DecidableEq, Repr

/-- The reset value of `Axis`. Log entry 5 (DESIGN CHOICE). -/
def Axis.init : Axis where
  oenEff := false
  inTrip := true
  lvl := false
  xd := 0
  xq := 0
  xv := 0
  bq := [(0, 0), (0, 0), (0, 0), (0, 0)]
  dob := 0
  wPrev := 0
  theta := 0
  qCur := 0
  qPrev := 0
  qNew := 0
  qI := 0
  vCur := 0
  vPrev := 0
  vNew := 0
  vI := 0
  spPos := 0
  spVel := 0
  spAcc := 0
  spIq := 0
  spId := 0
  ppPos := 0
  ppVel := 0
  ppAcc := 0
  ramp := none
  ssId := 0
  spdWasInv := false
  affNow := 0
  passHold := false
  refAt := none
  copying := false
  ssZero := false
  seed := none
  vsat := false
  cogNow := 0
  ssBound := 0
  slsRun := 0
  stalled := []
  swapAt := none
  pendAt := none
  spAt := none
  spOld := []
  spFresh := false
  armAt := none
  armOld := false
  adcAt := none
  adcOld := [0, 0, 0, 0, 0]
  li := 15 * 2 ^ 40
  lj := 15 * 2 ^ 40
  drift := 0

/-- Switch state of a half-bridge: both off with the driver de-energised, both off with the driver powered, high side on,
low side on, or both off through the dead time before the named side turns on (R139, R140, R148, R152). -/
inductive Gate where
  | allOff
  | gatesLow
  | high
  | low
  | dead (toHigh : Bool)
  deriving DecidableEq, Repr

/-- Working state of a half-bridge. -/
structure Phase where
  /-- active duty in steps (R142) -/
  duty : Nat
  /-- switch state -/
  gate : Gate
  /-- the high-side pulse of this window is dropped (R141) -/
  dropHigh : Bool
  /-- the low-side pulse of this window is dropped (R141) -/
  dropLow : Bool
  /-- steps by which the present pulse is widened (R141) -/
  ext : Nat
  /-- drive-base cycle in which the present gate turned on (R141, R154) -/
  onAt : Nat
  /-- carrier periods since the last low-side pulse of BSPW counts (R145) -/
  bs : Nat
  /-- a refresh pulse is inserted around the coming valley (R145) -/
  refresh : Bool
  /-- high-side undervoltage lockout (R146) -/
  uvlo : Bool
  /-- drive-base cycle of the last valley inside a low-side pulse of 150 counts (R146) -/
  lowAt : Option Nat
  /-- staged duty before the write of stgAt (R143) -/
  stgOld : Nat
  /-- instant of the last write of the staged duty by software (R143) -/
  stgAt : Option (Nat × Nat)
  deriving DecidableEq, Repr

/-- The reset value of `Phase`. -/
def Phase.init : Phase where
  duty := 0
  gate := .allOff
  dropHigh := false
  dropLow := false
  ext := 0
  onAt := 0
  bs := 0
  refresh := false
  uvlo := false
  lowAt := none
  stgOld := 0
  stgAt := none

/-- Working state of a window comparator. -/
structure Comp where
  /-- comparator output above HI (R186) -/
  above : Bool
  /-- comparator output below LO -/
  below : Bool
  /-- samples of "above" after the blanking gate in the last five cycles, newest in bit 0 (R189, R193) -/
  histA : Nat
  /-- samples of "below" -/
  histB : Nat
  /-- result of the last sampled window above (R196) -/
  resA : Bool
  /-- result of the last sampled window below -/
  resB : Bool
  /-- drive-base cycle in which a trip's gate edges start the blanking window (R147, R194) -/
  gateAt : Option Nat
  /-- the blanking window is open (R194) -/
  blank : Bool
  /-- the trip latch, kept also while CLR is 2 (R190, R198) -/
  latch : Bool
  /-- flag-path result above (R193) -/
  fa : Bool
  /-- flag-path result below -/
  fb : Bool
  deriving DecidableEq, Repr

/-- The reset value of `Comp`. -/
def Comp.init : Comp where
  above := false
  below := false
  histA := 0
  histB := 0
  resA := false
  resB := false
  gateAt := none
  blank := false
  latch := false
  fa := false
  fb := false

/-- What an outer stage has computed for one axis from the values of its sample; it counts when the stage ends (R207). -/
structure OuterRes where
  /-- axis -/
  a : Nat
  /-- the axis with its outer loops, filters and observer moved on -/
  x : Axis
  /-- VREF, PERR, XV, DOB and FRVAL -/
  regs : List Word
  /-- bits of LE_AXa_FLAG that rise -/
  flags : Nat
  /-- bits of LE_AXa_TBLSTAT that rise -/
  tbl : Nat
  /-- what FAULTACT asks for: 1 the software trip, 2 also SAFE_STOP (R221) -/
  act : Nat
  /-- the position loop was due -/
  pos : Bool
  /-- the velocity loop was due -/
  vel : Bool
  /-- the record for the learning capture (R261) -/
  capRec : List Byte
  deriving DecidableEq, Repr

/-- The reset value of `OuterRes`. -/
def OuterRes.init : OuterRes where
  a := 0
  x := Axis.init
  regs := []
  flags := 0
  tbl := 0
  act := 0
  pos := false
  vel := false
  capRec := []

/-- Working state of a Caldera lane. -/
structure Lane where
  /-- a sample set waits for its pass, or is in it (R234) -/
  setReady : Bool
  /-- drive-base cycle in which a delayed pass begins (R234, R612) -/
  beginAt : Option Nat
  /-- a further sample set has completed during the pass (R234) -/
  next : Bool
  /-- results of the outer stage that runs (R207) -/
  outRes : Option (List OuterRes)
  /-- SIDX of the samples whose outer stage is due or running, oldest first (R207, R234) -/
  outer : List Nat
  /-- the last sample point was SP1 (R211) -/
  second : Bool
  deriving DecidableEq, Repr

/-- The reset value of `Lane`. -/
def Lane.init : Lane where
  setReady := false
  beginAt := none
  next := false
  outRes := none
  outer := []
  second := false

/-- The learning capture engine (R259-R263). -/
structure Learn where
  /-- velocity updates until the next record -/
  skip : Nat
  /-- the first record of the capture has been due -/
  started : Bool
  /-- the record that waits to be written; empty for none -/
  record : List Byte
  deriving DecidableEq, Repr

/-- The reset value of `Learn`. -/
def Learn.init : Learn where
  skip := 0
  started := false
  record := []

/-- Working state of a feedback port (R269-R293). -/
structure Port where
  /-- port mode in force while the port runs; 0 while it is stopped -/
  mode : Nat
  /-- filtered A level -/
  la : Bool
  /-- filtered B level -/
  lb : Bool
  /-- filtered Z level -/
  lz : Bool
  /-- instant of the last change of the filtered A (R271) -/
  aAt : Option (Nat × Nat)
  /-- instant of the last change of the filtered B -/
  bAt : Option (Nat × Nat)
  /-- instant of the last change of the filtered Z -/
  zAt : Option (Nat × Nat)
  /-- the A pair, used by the port, stays in the line-fault band (R270) -/
  faultA : Bool
  /-- the B pair does -/
  faultB : Bool
  /-- edges per turn in force (R272, R275) -/
  n : Nat
  /-- whole turns, modulo 2^24 (R272) -/
  t : Nat
  /-- edges within the turn -/
  r : Nat
  /-- Hall position set at the last transition (R275) -/
  hpos : Word
  /-- last valid Hall sector -/
  sector : Option Nat
  /-- drive-base cycles of the edges since the last direction change, newest first (R285, R286) -/
  edges : List Nat
  /-- edges, or accepted serial samples, since start or loss, up to 2 (R289) -/
  seen : Nat
  /-- an edge, or a nonzero serial difference, was seen since the port started (R290) -/
  moved : Bool
  /-- position shown while the position is invalid (R291) -/
  held : Word
  /-- numerator of the weight k (R287) -/
  kn : Nat
  /-- denominator of the weight k -/
  kd : Nat
  /-- ωM of the last sample point, with its sign, F24 (R286) -/
  wm : Int
  /-- r at the first index after port start (R274) -/
  zRef : Option Nat
  /-- illegal transitions in this frame (R273) -/
  qerr : Nat
  /-- last accepted serial position (R284) -/
  pser : Word
  /-- its latch instant, drive-base cycle -/
  tl : Nat
  /-- serial speed, F24 (R288) -/
  wser : Int
  /-- last accepted absolute value since start or loss (R283) -/
  prevA : Option Int
  /-- preset offset of a serial port (R292) -/
  ofs : Word
  /-- cycle of the last acceptance -/
  accAt : Option (Nat × Nat)
  /-- pser, tl, wser and seen before it -/
  oldSer : Word × Nat × Int × Nat
  /-- consecutive rejections (R282) -/
  rej : Nat
  /-- a serial transaction runs -/
  busy : Bool
  /-- its command: 0 POS, 1 ID, 2 CLRERR -/
  sent : Nat
  /-- the 12 bits of the last Tephra request sent (R280) -/
  request : Nat
  /-- instant of the last trigger (R281) -/
  trigAt : Option (Nat × Nat)
  /-- settings that the last check of the serial port found (R277) -/
  checked : List Nat
  /-- its latch instant -/
  latchAt : Nat
  /-- command of the next trigger: 0 POS, 1 ID, 2 CLRERR (R281) -/
  nextCmd : Nat
  /-- a preset waits for the next sample point (R292) -/
  preset : Bool
  /-- cycle in which the last preset applied -/
  presetAt : Option (Nat × Nat)
  /-- cycle in which an index last set the position -/
  zsetAt : Option (Nat × Nat)
  /-- STAT of the last sample point (R293) -/
  stat : Word
  /-- POSS, SPDS and STAT before the last latch (R293) -/
  shown : List Word
  /-- cycle of the last latch -/
  setAt : Option (Nat × Nat)
  deriving DecidableEq, Repr

/-- The reset value of `Port`. Log entry 5 (DESIGN CHOICE). -/
def Port.init : Port where
  mode := 0
  la := false
  lb := false
  lz := false
  aAt := none
  bAt := none
  zAt := none
  faultA := false
  faultB := false
  n := 4096
  t := 0
  r := 0
  hpos := 0
  sector := none
  edges := []
  seen := 0
  moved := false
  held := 0
  kn := 0
  kd := 1
  wm := 0
  zRef := none
  qerr := 0
  pser := 0
  tl := 0
  wser := 0
  prevA := none
  ofs := 0
  accAt := none
  oldSer := (0, 0, 0, 0)
  rej := 0
  busy := false
  sent := 0
  request := 0
  trigAt := none
  checked := []
  latchAt := 0
  nextCmd := 1
  preset := false
  presetAt := none
  zsetAt := none
  stat := 0x700000000
  shown := [0, 0, 0x700000000]
  setAt := none

/-- Working state of an independent feedback receiver (R544). -/
structure Rx where
  /-- A level -/
  la : Bool
  /-- B level -/
  lb : Bool
  /-- whole turns, modulo 2^24 -/
  t : Nat
  /-- edges within the turn -/
  r : Nat
  /-- Hall position -/
  hpos : Word
  /-- last valid Hall sector -/
  sector : Option Nat
  /-- serial position -/
  pos : Word
  /-- last accepted absolute value -/
  prevA : Option Int
  /-- the receiver has a position with no decoding error since -/
  okay : Bool
  /-- positions at the last frame ticks with valid positions, newest first -/
  hist : List Word
  deriving DecidableEq, Repr

/-- The reset value of `Rx`. -/
def Rx.init : Rx where
  la := false
  lb := false
  t := 0
  r := 0
  hpos := 0
  sector := none
  pos := 0
  prevA := none
  okay := false
  hist := []

/-- Working state of an encoder-emulation channel (R296-R298). -/
structure Emu where
  /-- enabled and driven -/
  on : Bool
  /-- the source was valid at the last sample point -/
  valid : Bool
  /-- place of the outputs in the sequence (A, B) = 00, 10, 11, 01 (R296) -/
  place : Nat
  /-- edges to emit before the next sample point, signed -/
  left : Int
  /-- edges emitted since the sample point -/
  done : Nat
  /-- edges planned at the sample point -/
  total : Nat
  /-- cycle of the sample point -/
  start : Nat
  /-- cycles to the next one -/
  span : Nat
  deriving DecidableEq, Repr

/-- The reset value of `Emu`. -/
def Emu.init : Emu where
  on := false
  valid := false
  place := 0
  left := 0
  done := 0
  total := 0
  start := 0
  span := 0

/-- Working state of a quad's sampling (R162-R171, R178). -/
structure Quad where
  /-- index of the next sample within the frame -/
  next : Nat
  /-- index of the sample being converted -/
  point : Nat
  /-- TICK_FRAMECNT bits 15:0 at that sample -/
  frame : Nat
  /-- it was taken at SP1 -/
  second : Bool
  /-- a conversion runs -/
  busy : Bool
  deriving DecidableEq, Repr

/-- The reset value of `Quad`. -/
def Quad.init : Quad where
  next := 0
  point := 0
  frame := 0
  second := false
  busy := false

/-- Working state of a fabric port (R480, R503, R522) -/
structure FabPort where
  /-- the last link delays, newest first, at most 8, in 2^-16 ns (R522) -/
  delays : List Int
  /-- completed echo exchanges since the port became UP, at most 8 -/
  nexch : Nat
  /-- departure of the ECHO request that has no response yet, 2^-16 ns; -1 for none -/
  t1 : Int
  /-- its exchange number -/
  echoNo : Nat
  /-- the 2 ms transmitter gap runs (R503) -/
  pulse : Bool
  deriving DecidableEq, Repr

/-- The reset value of `FabPort`. -/
def FabPort.init : FabPort where
  delays := []
  nexch := 0
  t1 := -1
  echoNo := 0
  pulse := false

/-- Keys and state of a management session slot (R526, R527) -/
structure Sess where
  /-- MAC key -/
  mac : List Byte
  /-- wrap key -/
  wrap : List Byte
  /-- last accepted SEQ -/
  lastSeq : Nat
  /-- port that the session was opened on -/
  port : Nat
  /-- source address of the peer -/
  peerMac : List Byte
  deriving DecidableEq, Repr

/-- The reset value of `Sess`. -/
def Sess.init : Sess where
  mac := []
  wrap := []
  lastSeq := 0
  port := 0
  peerMac := []

/-- What a core's far load or store is for (R396, R498): a load or store instruction, or an element of a block instruction
(0 MOVBLK, 1 FILLBLK, 2 CMPBLK, 3 SCANBLK) with the words its accesses have returned so far. -/
inductive FarUse where
  | plain
  | block (kind : Nat) (f : Fields) (got : List Word)
  deriving DecidableEq, Repr

/-- A far transaction that waits for its response (R498) -/
structure FarOp where
  /-- 0-3 An, 4 S, 5 + n DMA channel n -/
  owner : Nat
  /-- TAG -/
  tag : Nat
  /-- FAR_WR -/
  write : Bool
  /-- global address -/
  addr : Nat
  /-- bytes of an element -/
  esize : Nat
  /-- bytes -/
  count : Nat
  /-- register that a load writes; for a DMA write, the source address of its first element -/
  reg : Nat
  /-- the load sign-extends; for a DMA write, an abort waits for its end -/
  sext : Bool
  /-- data of a write -/
  bytes : List Byte
  /-- the instruction that waits -/
  use : FarUse
  deriving DecidableEq, Repr

/-- The reset value of `FarOp`. -/
def FarOp.init : FarOp where
  owner := 0
  tag := 0
  write := false
  addr := 0
  esize := 0
  count := 0
  reg := 0
  sext := false
  bytes := []
  use := .plain

/-- The operation that the FLC runs (R460, R471).  A slot number of 16 stands for the re-erase of R470, 17 for a compaction. -/
inductive FlcOp where
  | idle
  | unit (slot : Nat) (data : Option (List Byte))
  | erase (slot : Nat) (bank : Nat) (sector : Nat)
  | compact
  | stretch (slot : Nat) (result : Nat) (bank : Nat)
  deriving DecidableEq, Repr

/-- A frame of the module's own that waits for its turn (R488). -/
structure TxFrame where
  /-- the port that it leaves on -/
  port : Nat
  /-- destination address -/
  dest : List Byte
  /-- VLAN tags -/
  tags : List Byte
  /-- TYPE -/
  type : Nat
  /-- FLAGS without AUTH -/
  flags : Nat
  /-- DST -/
  dst : Nat
  /-- payload; the times of a TIME frame are filled in as it leaves -/
  payload : List Byte
  /-- key of its authentication tag -/
  key : Option (List Byte)
  deriving DecidableEq, Repr

/-- The reset value of `TxFrame`. -/
def TxFrame.init : TxFrame where
  port := 0
  dest := []
  tags := []
  type := 0
  flags := 0
  dst := 0
  payload := []
  key := none


/-- The state of the module. -/
structure State where
  /-- the commands that wait, first in, first out -/
  pending : List Instr
  /-- events that come due: (drive-base cycle, event), earliest first -/
  alarms : List (Nat × Instr)
  /-- drive-base cycles passed -/
  now : Nat
  /-- every architectural register under its bus address; an unlisted one holds its reset value (the second Caldera bank under its address + 2^32) -/
  regs : Tab Word
  /-- the value still in force of a register whose new value waits for the next frame tick -/
  held : Tab Word
  /-- before the writes of the instant `heldAt`: the values that a tick of that cycle still leaves to the tick after it (R294) -/
  heldNew : Tab Word
  /-- the last such write's instant -/
  heldAt : Option (Nat × Nat)
  /-- the logic BIST of SHUTDOWN runs (R591) -/
  bistRunning : Bool
  /-- MODEL'S OWN: how many free values have been drawn -/
  freeCtr : Nat
  /-- memories by local address; an unlisted byte reads 0, in flash 0xFF (R433, R435) -/
  mem : Tab Byte
  /-- ECC units that hold a single-bit error, by address (R434) -/
  eccSoft : List Nat
  /-- ECC units that hold an uncorrectable error -/
  eccHard : List Nat
  /-- MODEL'S OWN: the word the last read command returned -/
  rdata : Word
  /-- working state of the sixteen timers -/
  timers : Tab Timer
  /-- A0-A3 and Zenou-S (key 4) -/
  cores : Tab Core
  /-- working state of the 24 axes -/
  axes : Tab Axis
  /-- working state of the 72 half-bridges, key 3 × axis + phase -/
  phases : Tab Phase
  /-- working state of the 58 comparators -/
  comps : Tab Comp
  /-- cycle of each event channel's last firing (R316) -/
  evrLast : Tab (Nat × Nat)
  /-- cycle of the last arrival at each task input, by merge index (R312) -/
  evrArr : Tab (Nat × Nat)
  /-- bit n: EVR_FIRE fires channel n in the next drive-base cycle (R314) -/
  evrSoft : Nat
  /-- EVR settings before the writes of the instant `evrOldAt`, which firings of that cycle still use (R313, R318) -/
  evrOld : Tab Word
  /-- the last such write's instant -/
  evrOldAt : Option (Nat × Nat)
  /-- the AON wake latch: the first channel that set it (R310) -/
  wakeLatch : Option Nat
  /-- SAFE_STOP was entered from RUN (R79, R153, R542) -/
  ssFromRun : Bool
  /-- working state of the six lanes -/
  lanes : Tab Lane
  /-- the learning capture engine -/
  learn : Learn
  /-- drive-base cycle of the last frame tick -/
  tickAt : Option (Nat × Nat)
  /-- cycle of the last entry write of each table page, key 4 × axis + page (R252) -/
  tblWr : Tab (Nat × Nat)
  /-- cycle of the last seal of each table page -/
  tblSeal : Tab (Nat × Nat)
  /-- the SAFE_STOP causes that arrived in this SAFE_STOP, one bit per row of R636 -/
  ssCauses : Nat
  /-- a lockstep mismatch, a Zenou-S lockup or a module watchdog expiry holds STO until the reset (R535, R536, R549) -/
  stoForce : Bool
  /-- bit k: brake output k waits for a fresh start of its AUTO condition (R347) -/
  brkWait : Nat
  /-- writers whose SYS unlock window is open (R377) -/
  windows : List Nat
  /-- the 24 feedback ports -/
  ports : Tab Port
  /-- the 24 independent feedback receivers -/
  rxs : Tab Rx
  /-- the two encoder-emulation channels -/
  emus : Tab Emu
  /-- sampling of the six quads -/
  quads : Tab Quad
  /-- snapshot latches, key 64 × reader + axis for currents, 1024 more for positions (R168, R293) -/
  latches : Tab (List Word)
  /-- SYSTIME_EPOCH latches by reader (R111) -/
  epochs : Tab Word
  /-- the live epoch of SYSTIME_NS (R110) -/
  epoch : Word
  /-- place in the 1, 1, 2 sequence of R110 -/
  nsPhase : Nat
  /-- the auxiliary converters run: the PFC has started since BOOT or the wake (R178) -/
  auxOn : Bool
  /-- drive-base cycle in which the auxiliary converters started (R178) -/
  auxAt : Nat
  /-- MODEL'S OWN: commands executed, so that commands of one drive-base cycle have an order -/
  beat : Nat
  /-- MODEL'S OWN: what happens now is an event whose time has come in the drive base, not a command of the queue -/
  clocked : Bool
  /-- the bulk is at or above 280 V, so that the isolated converter can run (R328) -/
  bulkOk : Bool
  /-- line half-cycles above 80 VAC in a row since a mains loss (R330) -/
  lineGood : Nat
  /-- the Geyser limit LG, F40 A (R339) -/
  lg : Int
  /-- the STO contacts: bit 0 channel A, bit 1 channel B at its release level (R55) -/
  stoIn : Nat
  /-- the next service of the module watchdog is 0x92 (R549) -/
  mwdtSecond : Bool
  /-- cycles that the window watchdog of each core was last restarted with (R551) -/
  cwdLen : Tab Nat
  /-- the DMA buffer, oldest element first: channel, source address, bytes as read (R440) -/
  dmaBuf : List (Nat × Nat × List Byte)
  /-- the channel whose turn the read engine serves, and the bytes moved in it (R440) -/
  dmaRd : Nat × Nat
  /-- drive-base cycle until which the last DRAM refresh lasts (R439) -/
  dramUntil : Nat
  /-- the QUEUED descriptor slots in the order of their GO writes (R460) -/
  flcQueue : List Nat
  /-- the flash operation in progress -/
  flcOp : FlcOp
  /-- drive-base cycle until which a journal record keeps bank 0 busy (R464) -/
  jUntil : Nat
  /-- flash bytes that a failed or cut operation left undefined: first address, number of bytes, draw (R472) -/
  torn : List (Nat × Nat × Nat)
  /-- program units that were programmed with 32 bytes of 0xFF: not erased (R453) -/
  ffUnits : List Nat
  /-- the HALF_ERASED sectors that wait for their re-erase: bank, sector (R469, R470) -/
  flcHalf : List (Nat × Nat)
  /-- what FLC_RSTINFO is to show after the deferred reset (R472) -/
  flcRst : Word
  /-- how far BOOT has come through R81: 1 once the power-on reset is released -/
  bootStage : Nat
  /-- the software job of the CRY engine as it was submitted: CMD, SRC, LEN, KEY, SIG, DST -/
  cryJob : List Word
  /-- its origin -/
  cryWriter : Writer
  /-- 0 while the job computes, 1 while one of its FLC descriptors runs, 2 while it waits for a free slot -/
  cryStage : Nat
  /-- FLC descriptors that the job still needs: OP, ADDR, data (R569, R570) -/
  cryTodo : List (Nat × Nat × List Byte)
  /-- the FLC slot that the job uses -/
  crySlot : Option Nat
  /-- owner keys written into OTP; slot 0 holds the vendor's from manufacture (R559) -/
  otpKeys : Tab (List Byte)
  /-- module settings that have no register, key 256 × FIELD + instance (R353, R526) -/
  settings : Tab Nat
  /-- causes of the deferred module reset, bits of SYS_RSTCAUSE (R96) -/
  rstWait : Nat
  /-- mains is applied -/
  mainsOn : Bool
  /-- SHUTDOWN has ended with END = 0: nothing but a removal of mains leaves this state (R76) -/
  offHold : Bool
  /-- drive-base cycle in which the DORMANT request was accepted (R581) -/
  dormAt : Option Nat
  /-- this DORMANT was reached from SHUTDOWN (R588, R589) -/
  fromShutdown : Bool
  /-- phase of the AON oscillator in 1/750 000 000 of its period (R31) -/
  aonFrac : Nat
  /-- fabric wake-pending latch (R503) -/
  fabLatch : Bool
  /-- drive-base cycle of mains-on or of the reset's release (R81) -/
  bootAt : Nat
  /-- drive-base cycle in which the ADC offset calibration of BOOT began (R81) -/
  calAt : Nat
  /-- drive-base cycle of the AON cycle in which a wake source was active (R587) -/
  wakeAt : Option Nat
  /-- result of the logic BIST: bit 0 APP_PASS, bit 1 SAF_PASS (R591) -/
  lbist : Nat
  /-- MODEL'S OWN: the frames sent by the last command that sent any: its instant; port and bytes from the destination address through the FCS -/
  egress : (Nat × Nat) × List (Nat × List Byte)
  /-- the two fabric ports -/
  fabPorts : Tab FabPort
  /-- the sixteen session slots -/
  sess : Tab Sess
  /-- outstanding far transactions -/
  farOps : List FarOp
  /-- TAG of the next far transaction -/
  farTag : Nat
  /-- SEQ of the next frame that this module originates (R482) -/
  fabSeq : Nat
  /-- the host's address, from the last DISCOVER (R481) -/
  hostMac : List Byte
  /-- the cyclic key in use (R528) -/
  cycKey : Option (List Byte)
  /-- the next cyclic key and its CYCNO -/
  cycKeyNext : Option (Nat × List Byte)
  /-- insertion buffer: the last complete snapshot (R515) -/
  cycBuf : List Word
  /-- CYCNO of its cycle -/
  cycBufNo : Nat
  /-- the snapshot before it -/
  cycOld : List Word
  /-- CYCNO of that cycle -/
  cycOldNo : Nat
  /-- instant at which SNAPRDY set -/
  snapAt : Option (Nat × Nat)
  /-- a frame of this cycle was consumed (R516) -/
  cycGot : Bool
  /-- the cyclic window is open -/
  cycOpen : Bool
  /-- drive-base cycle of the last cycle tick -/
  cycAt : Nat
  /-- values in force of CYC and TIME registers until the next cycle tick (R530) -/
  heldCyc : Tab Word
  /-- the last offset, in 2^-16 ns (R523) -/
  fabOfs : Int
  /-- a SYNC has been accepted (R524) -/
  syncSeen : Bool
  /-- TIME_VALID has set since TICK started (R112) -/
  timeSet : Bool
  /-- consecutive SYNCs with an offset beyond LIM (R524) -/
  ofsBad : Nat
  /-- frames received for the FABDROP perturbation (R612) -/
  dropNo : Nat
  /-- an ATTEST that waits for a software job: arrival port, frame (R575) -/
  attestWait : Option (Nat × List Byte)
  /-- levels the outside gives the DIO contacts; the pull-down (R64) where it gives none -/
  dioExt : Word
  /-- contacts latched as outputs while the pads are held (R67) -/
  padOut : Word
  /-- draw of the debug challenge (R609) -/
  authDraw : Nat
  /-- DBG_AUTHSIG words -/
  authSig : Tab Word
  /-- owner key of the verification in progress -/
  authKey : Option Nat
  /-- instruction register of the TAP; IDCODE after a TAP reset -/
  tapIr : Nat
  /-- data register that the last TAP command captured -/
  tapData : Nat
  /-- STATUS of the last MEMAP access (R608) -/
  tapStat : Nat
  /-- DATA of the last MEMAP access -/
  tapWord : Word
  /-- levels that EXTEST drives; empty when it does not -/
  boundary : List Bool
  /-- source edges of this cycle: 512 * instance + source, instant (R427) -/
  icuEdges : List (Nat × Nat × Nat)
  /-- instant of the last expiry of the AON timer (R594) -/
  expAt : Option (Nat × Nat)
  /-- drive-base cycle in which a flash operation last ended, and its banks (R464) -/
  flcDone : Nat × Nat
  /-- GOs of this cycle: slot, instant (R474) -/
  flcGoAt : List (Nat × Nat × Nat)
  /-- frames of the module's own that wait for the cyclic window to close (R488) -/
  txHold : List TxFrame
  /-- TIME_VALID cleared in this window (R529) -/
  cycBad : Bool
  /-- the last acknowledge of SAFE_STOP: its instant, and the causes, LAST_FROM and the ramp before it (R554) -/
  ackWas : Option ((Nat × Nat) × Nat × Nat × Bool)
  /-- per core, what DBG_Cn_RXD held before the last debugger's write, and its instant (R606) -/
  rxWas : Tab (Word × (Nat × Nat))
  deriving DecidableEq, Repr

/-- Why a step stops with a fault. -/
inductive Fault where
  /-- An operation for which a reader broke an obligation whose consequence the manual does not state (R6): undefined.
  Raised by no meaning of this model; kept for the interface.  Safe: the machine stops. -/
  | undefinedOperation
  deriving DecidableEq, Repr

/-- Why a command has no meaning here. -/
inductive Refusal where
  /-- The command's meaning is not written yet.  Raised by the arms of `exec` alone.  Safe: the machine stops. -/
  | notModelled (mnemonic : String)
  deriving DecidableEq, Repr

/-- The module right after the power-on reset releases (R81, R95): mode BOOT, cause POR, every register at the reset value of
its map, nothing listed in memory, nothing waiting. Log entries 4 (DESIGN CHOICE), 5 (DESIGN CHOICE), 6 (DEDUCED). -/
def State.reset : State where
  pending := []
  alarms := [(2250000, .bootClockLock)]
  now := 0
  regs := [(0x08000030, 1), (0x08130040, 1)]
  held := []
  heldNew := []
  heldAt := none
  bistRunning := false
  freeCtr := 0
  mem := []
  eccSoft := []
  eccHard := []
  rdata := 0
  timers := []
  cores := []
  axes := []
  phases := []
  comps := []
  evrLast := []
  evrArr := []
  evrSoft := 0
  evrOld := []
  evrOldAt := none
  wakeLatch := none
  ssFromRun := false
  lanes := []
  learn := ⟨0, false, []⟩
  tickAt := none
  tblWr := []
  tblSeal := []
  ssCauses := 0
  stoForce := false
  brkWait := 0
  windows := []
  ports := []
  rxs := []
  emus := []
  quads := []
  latches := []
  epochs := []
  epoch := 0
  nsPhase := 0
  auxOn := false
  auxAt := 0
  beat := 0
  clocked := false
  bulkOk := false
  lineGood := 0
  lg := 15 * 2 ^ 40
  stoIn := 0
  mwdtSecond := false
  cwdLen := []
  dmaBuf := []
  dmaRd := (0, 0)
  dramUntil := 0
  flcQueue := []
  flcOp := .idle
  jUntil := 0
  torn := []
  ffUnits := []
  flcHalf := []
  flcRst := 0
  bootStage := 1
  cryJob := []
  cryWriter := .coreS
  cryStage := 0
  cryTodo := []
  crySlot := none
  otpKeys := []
  settings := []
  rstWait := 0
  mainsOn := true
  offHold := false
  dormAt := none
  fromShutdown := false
  aonFrac := 0
  fabLatch := false
  bootAt := 0
  calAt := 0
  wakeAt := none
  lbist := 0
  egress := ((0, 0), [])
  fabPorts := []
  sess := []
  farOps := []
  farTag := 0
  fabSeq := 0
  hostMac := []
  cycKey := none
  cycKeyNext := none
  cycBuf := []
  cycBufNo := 0
  cycOld := []
  cycOldNo := 0
  snapAt := none
  cycGot := false
  cycOpen := false
  cycAt := 0
  heldCyc := []
  fabOfs := 0
  syncSeen := false
  timeSet := false
  ofsBad := 0
  dropNo := 0
  attestWait := none
  dioExt := 0
  padOut := 0
  authDraw := 0
  authSig := []
  authKey := none
  tapIr := 1
  tapData := 0
  tapStat := 0
  tapWord := 0
  boundary := []
  icuEdges := []
  expAt := none
  flcDone := (0, 0)
  flcGoAt := []
  txHold := []
  cycBad := false
  ackWas := none
  rxWas := []

end Sys2Proof.Machine
end

