-- ==== Sys2Proof/Machine/Ops.lean ====
section
/-! DEFINITION. The named operations over the state: registers and their fields, values held until a frame tick, alarms, the
readers and writers of R32 and R111, interrupt latching (R419) and the notices that many blocks share. -/
namespace Sys2Proof.Machine

/-- What a command's meaning answers. -/
abbrev Result := Host.Outcome State Fault Refusal

/-- The next state of a command: its effect, and one more command executed. Log entry 1 (DESIGN CHOICE). -/
def ok (s : State) : Result := .next { s with beat := s.beat + 1 }

/-- The instant of what happens now: the drive-base cycle, and 0 for an event whose time has come in it, else a number of its own
for the command. Log entry 12 (DEDUCED). -/
def State.instant (s : State) : Nat × Nat := (s.now, if s.clocked then 0 else s.beat + 1)

/-- Whether what happened at instant `x` falls in the same drive-base cycle as what happens now: an event whose time has come falls
together with everything of its cycle, a command of the queue only with such events. Log entry 12 (DEDUCED). -/
def State.same (s : State) (x : Nat × Nat) : Bool :=
  x.1 == s.now && (s.clocked || x.2 == 0 || x.2 == s.beat + 1)

/-- `State.same` of an instant that may be missing. -/
def State.sameAs (s : State) (o : Option (Nat × Nat)) : Bool :=
  match o with
  | some x => s.same x
  | none => false

/-- Whether what the hardware brought at instant `o` falls in the present drive-base cycle: also a command of the queue that stands for
an occurrence outside, for a read of that cycle (R122, R170). Log entry 12 (DEDUCED). -/
def State.thisCycle (s : State) (o : Option (Nat × Nat)) : Bool :=
  match o with
  | some x => x.1 == s.now
  | none => false

/-- Offset that keys the second bank of a banked Caldera register (R229). Log entry 7 (DESIGN CHOICE). -/
def bankKey : Nat := 0x100000000

/-- The reset word of the register at key `a` (R15); 0 where the maps place none (R38). Log entry 7 (DESIGN CHOICE). -/
def regReset (a : Nat) : Word :=
  match findRow (blockRows (a % bankKey)) (a % bankKey) with
  | some r => rowReset r.fields
  | none => 0

/-- The stored word of register `a`. Log entry 7 (DESIGN CHOICE). -/
def State.reg (s : State) (a : Nat) : Word :=
  match Tab.find s.regs a with
  | some v => v
  | none => regReset a

/-- `s` with register `a` holding `v`. Log entry 7 (DESIGN CHOICE). -/
def State.setReg (s : State) (a : Nat) (v : Word) : State :=
  { s with regs := Tab.set (regReset a) s.regs a v }

/-- The value of field `f`. -/
def State.rd (s : State) (f : Fld) : Nat := getBits (s.reg f.addr) f.lo f.w

/-- `s` with field `f` holding the low bits of `v`. -/
def State.wr (s : State) (f : Fld) (v : Nat) : State :=
  s.setReg f.addr (setBits (s.reg f.addr) f.lo f.w v)

/-- Whether field `f` is not 0. -/
def State.bit (s : State) (f : Fld) : Bool := s.rd f != 0

/-- `s` with field `f` holding 1. -/
def State.on (s : State) (f : Fld) : State := s.wr f 1

/-- `s` with field `f` holding 0. -/
def State.off0 (s : State) (f : Fld) : State := s.wr f 0

/-- `s` with a one-bit field holding `b`. -/
def State.wrb (s : State) (f : Fld) (b : Bool) : State := s.wr f (if b then 1 else 0)

/-- Whether bit `i` of field `f` is 1. -/
def State.bitAt (s : State) (f : Fld) (i : Nat) : Bool := (s.rd f).testBit i

/-- `v` with bit `i` set to `b`. -/
def natBit (v i : Nat) (b : Bool) : Nat :=
  if b then (if v.testBit i then v else v + 2 ^ i) else (if v.testBit i then v - 2 ^ i else v)

/-- `s` with bit `i` of field `f` set to `b`. -/
def State.setBitAt (s : State) (f : Fld) (i : Nat) (b : Bool) : State := s.wr f (natBit (s.rd f) i b)

/-- A counter field that saturates at its largest value (R123). -/
def State.inc (s : State) (f : Fld) : State :=
  if s.rd f + 1 < 2 ^ f.w then s.wr f (s.rd f + 1) else s

/-- The signed value of field `f`. -/
def State.rdS (s : State) (f : Fld) : Int := sgnOf f.w (s.rd f)

/-- `s` with field `f` holding the integer `v` modulo 2^w. -/
def State.wrI (s : State) (f : Fld) (v : Int) : State := s.wr f (v % (2 ^ f.w : Nat)).toNat

/-- `s` after `g 0`, …, `g (n-1)`. -/
def State.upto (s : State) (n : Nat) (g : Nat → State → State) : State :=
  (List.range n).foldl (fun s i => g i s) s

/-- `g s` where `b` holds, else `s`. -/
def State.when (s : State) (b : Bool) (g : State → State) : State := if b then g s else s

/-- Two sorted lists merged, an element of the first before an equal one of the second. -/
def mergeBy {α : Type} (le : α → α → Bool) : Nat → List α → List α → List α
  | 0, a, b => a ++ b
  | _ + 1, [], b => b
  | _ + 1, a, [] => a
  | n + 1, x :: a, y :: b => if le x y then x :: mergeBy le n a (y :: b) else y :: mergeBy le n (x :: a) b

/-- `l` in rising order by `le`, equal elements in the order that they have, for lists of at most 2^n elements. -/
def sortBy {α : Type} (le : α → α → Bool) : Nat → List α → List α
  | 0, l => l
  | n + 1, l =>
    let h := l.length / 2
    if h = 0 then l else mergeBy le l.length (sortBy le n (l.take h)) (sortBy le n (l.drop h))

/-! ### Cores -/

/-- Core `c`: A0-A3, and Zenou-S as 4. -/
def State.core (s : State) (c : Nat) : Core := Tab.get Core.init s.cores c

/-- `s` with core `c` replaced. -/
def State.setCore (s : State) (c : Nat) (x : Core) : State := { s with cores := Tab.set Core.init s.cores c x }

/-- The first address above a core's own D-SRAM (R35). -/
def dsramTop (c : Nat) : Nat := if c < 4 then 0x02000000 + 0x100000 * c + 0x40000 else 0x0C220000

/-- Reset values of core `c`'s special registers (R367): PSR.PRIV is 1, WSP the top of the core's own D-SRAM, CORECFG the
core's number; the others 0. Log entry 5 (DESIGN CHOICE). -/
def sregReset (c n : Nat) : Word :=
  if n = 0 then 1 else if n = 2 then BitVec.ofNat 48 (dsramTop c) else if n = 5 then BitVec.ofNat 48 c else 0

/-- Special register `n` of core `c`. -/
def State.sreg (s : State) (c n : Nat) : Word := Tab.get (sregReset c n) (s.core c).sregs n

/-- `s` with special register `n` of core `c` holding `v`. -/
def State.setSreg (s : State) (c n : Nat) (v : Word) : State :=
  let x := s.core c
  s.setCore c { x with sregs := Tab.set (sregReset c n) x.sregs n v }

/-- Whether core `c` is in monitor state (DBG_Cn_STAT.MONST, R596, R605). -/
def State.coreMon (s : State) (c : Nat) : Bool := s.bit (F.DBG_C_STAT_MONST c)

/-- Whether a block's FRZ and FRZCORE fields freeze it now. -/
def State.frz (s : State) (f fcore : Fld) : Bool := s.bit f && s.coreMon (s.rd fcore)

/-! ### Values held until a boundary -/

/-- The value of field `f` that the hardware uses: the one in force while a new one waits for the frame tick, else the
written one. Log entry 8 (DEDUCED). -/
def State.inForce (s : State) (f : Fld) : Nat :=
  match Tab.find s.held f.addr with
  | some v => getBits v f.lo f.w
  | none => s.rd f

/-- The word of register `a` that the hardware uses. Log entry 8 (DEDUCED). -/
def State.regInForce (s : State) (a : Nat) : Word :=
  match Tab.find s.held a with
  | some v => v
  | none => s.reg a

/-- The words before the writes of this instant to registers whose values wait for a frame tick. -/
def State.heldHere (s : State) : Tab Word := if s.sameAs s.heldAt then s.heldNew else []

/-- Register `a` written with `v`, the value in force kept until the frame tick after this instant. Log entry 8 (DEDUCED). -/
def State.hold (s : State) (a : Nat) (v : Word) : State :=
  let first (t : Tab Word) : Tab Word := if (Tab.find t a).isSome then t else Tab.put t a (s.reg a)
  let s1 := { s with held := first s.held, heldNew := first s.heldHere, heldAt := some s.instant }
  s1.setReg a v

/-- `State.hold` of a value other than the written one. Log entry 8 (DEDUCED). -/
def State.setHeld (s : State) (a : Nat) (v : Word) : State := if v = s.reg a then s else s.hold a v

/-- The word of register `a` that a frame tick at this instant brings into force, if one waits for it: a write of the tick's own
base cycle waits for the following tick (R294). Log entry 8 (DEDUCED). -/
def State.takesNow (s : State) (a : Nat) : Option Word :=
  match Tab.find s.held a, Tab.find s.heldHere a with
  | none, _ => none
  | some _, none => some (s.reg a)
  | some v, some w => if v = w then none else some w

/-- A frame tick brings into force what waits for it. -/
def State.heldTick (s : State) : State := { s with held := s.heldHere, heldNew := [], heldAt := none }

/-! ### Alarms -/

/-- `s` with event `e` no longer due. -/
def State.cancel (s : State) (e : Instr) : State := { s with alarms := s.alarms.filter (fun p => p.2 != e) }

/-- `l` with the alarm `p` placed after the ones due no later. -/
def alarmInsert (p : Nat × Instr) : List (Nat × Instr) → List (Nat × Instr)
  | [] => [p]
  | q :: t => if p.1 < q.1 then p :: q :: t else q :: alarmInsert p t

/-- `s` with event `e` due `n` drive-base cycles from now; an earlier alarm for `e` is replaced. -/
def State.after (s : State) (n : Nat) (e : Instr) : State :=
  let s1 := s.cancel e
  { s1 with alarms := alarmInsert (s.now + n, e) s1.alarms }

/-- Drive-base cycles in `n` microseconds (R31). Log entry 13 (DESIGN CHOICE). -/
def us (n : Nat) : Nat := 750 * n

/-- Drive-base cycles in `n` milliseconds. Log entry 13 (DESIGN CHOICE). -/
def ms (n : Nat) : Nat := 750000 * n

/-- Drive-base cycles in `n` nanoseconds, rounded up to a whole cycle. Log entry 13 (DESIGN CHOICE). -/
def nsCycles (n : Nat) : Nat := (3 * n + 3) / 4

/-- Cycles left until event `e`, 0 if it is not due. -/
def State.remaining (s : State) (e : Instr) : Nat :=
  match s.alarms.find? (fun p => p.2 == e) with
  | some (t, _) => t - s.now
  | none => 0

/-- Whether event `e` is due. -/
def State.due (s : State) (e : Instr) : Bool := s.alarms.any (fun p => p.2 == e)

/-! ### Free values -/

/-- A fresh free value: nothing constrains it. Log entry 15 (DESIGN CHOICE). -/
def State.fresh (s : State) : Word × State :=
  (Config.freeWord s.freeCtr, { s with freeCtr := s.freeCtr + 1 })

/-! ### Modes -/

/-- The eight modes (R20) and their codes. -/
inductive Mode where
  | off | dormant | boot | standby | armed | run | safeStop | shutdown
  deriving DecidableEq, Repr

/-- The code of a mode. -/
def Mode.code : Mode → Nat
  | .off => 0 | .dormant => 1 | .boot => 2 | .standby => 3 | .armed => 4 | .run => 5 | .safeStop => 6 | .shutdown => 7

/-- The mode with a code. -/
def Mode.ofCode : Nat → Mode
  | 0 => .off | 1 => .dormant | 2 => .boot | 3 => .standby | 4 => .armed | 5 => .run | 6 => .safeStop | _ => .shutdown

/-- The current mode. -/
def State.mode (s : State) : Mode := Mode.ofCode (s.rd F.SYS_MODE_MODE)

/-- Whether the mode is one of `l`. -/
def State.modeIn (s : State) (l : List Mode) : Bool := l.contains s.mode

/-! ### Writers and readers -/

/-- The rights bits of a management session (R526). -/
def State.rights (s : State) (slot : Nat) : Nat := s.rd (F.FAB_SESS_STAT_RIGHTS slot)

/-- Whether an access carries the debug attribute (R32, R602, R610). -/
def State.isDebug (s : State) : Writer → Bool
  | .debugger => true
  | .host k => (s.rights k.val).testBit 4
  | _ => false

/-- The reader's own snapshot latch (R111): A0-A3, S, DMA, the fabric, the debugger. Log entry 62 (DEDUCED). -/
def readerIx : Writer → Nat
  | .coreA n _ => n.val
  | .coreS => 4
  | .rom => 4
  | .dma _ => 5
  | .host _ => 6
  | .fabric => 6
  | .debugger => 7

/-- Whether a read performs the side effects of an RS field (R17). -/
def State.sideFx (s : State) (r : Writer) : Bool := !s.isDebug r || s.bit F.DBG_CTL_SIDEFX

/-- The writer's key for unlock windows (R377): each core, the debugger, each DMA channel, each session slot. -/
def writerKey : Writer → Nat
  | .coreA n _ => n.val
  | .coreS => 4
  | .rom => 4
  | .debugger => 5
  | .fabric => 6
  | .dma c => 0x10 + c.val
  | .host k => 0x20 + k.val

/-- Whether the writer is the safety partition (R16). The boot ROM runs on Zenou-S. -/
def isSafety : Writer → Bool
  | .coreS => true
  | .rom => true
  | _ => false

/-- The ORIGIN code of a writer in SAF_VIOL and in FLC and CRY status (R556, R477, R577). Log entry 17 (DEDUCED). -/
def originCode (s : State) : Writer → Nat
  | .coreA n _ => n.val
  | .coreS => 4
  | .rom => 4
  | .dma _ => 5
  | .host k => if s.isDebug (.host k) then 7 else 6
  | .fabric => 6
  | .debugger => 7

/-! ### Interrupt sources -/

/-- The sources a controller instance has (R426, R553); the others are reserved and never latch (R419). -/
def sourceExists (c src : Nat) : Bool :=
  if c < 4 then
    decide (src ≤ 105) || (decide (107 ≤ src) && decide (src ≤ 115)) || (decide (128 ≤ src) && decide (src ≤ 223))
      || (decide (480 ≤ src) && decide (src ≤ 511))
  else decide (src ≤ 28) || (decide (112 ≤ src) && decide (src ≤ 115)) || (decide (480 ≤ src) && decide (src ≤ 511))

/-- The pending bit of a source. -/
def pendFld (c src : Nat) : Fld := ⟨A.ICU_PEND c (src / 32), src % 32, 1⟩

/-- The active bit of a source. -/
def actFld (c src : Nat) : Fld := ⟨A.ICU_ACT c (src / 32), src % 32, 1⟩

/-- The edge of a source noted for this cycle (R427). Log entry 12 (DEDUCED). -/
def State.noteEdge (s : State) (c src : Nat) : State :=
  { s with icuEdges := (512 * c + src, s.instant) :: s.icuEdges.filter (fun p => p.2.1 == s.now) }

/-- Whether an edge of a source has arrived in the cycle of what happens now (R427). -/
def State.edgeHere (s : State) (c src : Nat) : Bool := s.icuEdges.any (fun p => p.1 == 512 * c + src && s.same p.2)

/-- Latch one edge: set the pending bit, or merge (R419). -/
def State.latchPend (s : State) (c src : Nat) : State :=
  let s1 := s.noteEdge c src
  if s1.bit (pendFld c src) then s1.inc (F.ICU_MRGCNT_N c) else s1.on (pendFld c src)

/-- The event of a coalescing group's time limit. -/
def groupEvent (c g : Nat) : Instr := .icuGroupTimeout (Fin.ofNat 5 c) (Fin.ofNat 32 g)

/-- A group fires: its group source latches an edge, the count clears, the timer stops (R424). -/
def State.groupFire (s : State) (c g : Nat) : State :=
  let s := s.latchPend c (480 + g)
  let s := (s.wr (F.ICU_GRP_COUNT c g) 0).off0 (F.ICU_GRP_RUN c g)
  s.cancel (groupEvent c g)

/-- A group's timer starts, where the group has a time limit (R424). -/
def State.groupTimer (s : State) (c g : Nat) : State :=
  let tl := s.rd (F.ICU_GRP_TLIM c g)
  if tl = 0 then s else (s.on (F.ICU_GRP_RUN c g)).after (75 * tl) (groupEvent c g)

/-- A member edge counts for its group (R424). -/
def State.groupCount (s : State) (c g : Nat) : State :=
  let n := s.rd (F.ICU_GRP_COUNT c g) + 1
  let s1 := s.wr (F.ICU_GRP_COUNT c g) n
  let s2 := if n = 1 then s1.groupTimer c g else s1
  if s2.rd (F.ICU_GRP_THR c g) ≤ n then s2.groupFire c g else s2

/-- Whether an interrupt controller latches: not in OFF or DORMANT, and in BOOT only once its core is released (R428). -/
def State.icuLive (s : State) (c : Nat) : Bool :=
  match s.mode with
  | .off => false
  | .dormant => false
  | .boot => c == 4 || s.bitAt F.SYS_READY_APP c
  | .shutdown => !s.bistRunning
  | _ => true

/-- A source edge at instance `c` (R419, R424). -/
def State.edge (s : State) (c src : Nat) : State :=
  if sourceExists c src && s.icuLive c then
    let s1 := s.latchPend c src
    if s1.bit (F.ICU_CFG_GEN c src) && decide (src < 480) then s1.groupCount c (s1.rd (F.ICU_CFG_GRP c src)) else s1
  else s

/-- A source edge at every Zenou-A instance (R426). Log entry 3 (DESIGN CHOICE). -/
def State.irq (s : State) (src : Nat) : State := s.upto 4 (fun c s => s.edge c src)

/-- A source edge at the Zenou-S controller (R553). -/
def State.irqS (s : State) (src : Nat) : State := s.edge 4 src

/-- Whether perturbation bit `k` of TST_CTL acts (R611). Log entry 126 (DEDUCED). -/
def State.tstOn (s : State) (k : Nat) : Bool := s.bit F.TST_CTL_ACTIVE && (s.reg A.TST_CTL).getLsbD k

/-- `n` cycles of a DMA engine or of the learning capture under the back-pressure of TST: N of every M cycles stall (R612).
Log entry 69 (DESIGN CHOICE). -/
def State.dmaCycles (s : State) (n : Nat) : Nat :=
  if s.tstOn 5 then
    let k := s.rd F.TST_DMABP_N
    let m := s.rd F.TST_DMABP_M
    if k < m then n + (n * k + (m - k - 1)) / (m - k) else n
  else n

/-! ### Safety-partition refusals -/

/-- A refused write to an SP field or to the safety region (R537). -/
def State.spViol (s : State) (w : Writer) (addr : Nat) : State :=
  let s1 := s.inc F.SAF_VIOL_COUNT
  let s2 := s1.wr F.SAF_VIOL_ORIGIN (originCode s w)
  let s3 := s2.wr F.SAF_VIOLADDR_ADDR addr
  s3.irqS 0

/-! ### Field-by-field register writes -/

/-- One field of a register write by a writer of which `saf` says whether it is the safety partition (R16, R18). -/
def fieldNew (saf : Bool) (f : FieldRow) (old v : Word) : Word :=
  let nv := getBits v f.lo f.w
  let ov := getBits old f.lo f.w
  let take := if f.inRange nv then nv else ov
  let clr := ov &&& ((2 ^ f.w - 1) - nv)
  let x := match f.acc with
    | .rw => take
    | .rwlk => take
    | .ro => ov
    | .wo => ov
    | .w1c => clr
    | .sp => if saf then take else ov
    | .w1csp => if saf then clr else ov
    | .wosp => ov
  setBits old f.lo f.w x

/-- The word a register holds after a write, each field under its own rule (R19). Log entry 129 (DEDUCED). -/
def rowWrite (saf : Bool) (fs : List FieldRow) (old v : Word) : Word :=
  fs.foldl (fun x f => fieldNew saf f x v) old

/-- Whether a row holds a field that only the safety partition may write. -/
def rowHasSP (fs : List FieldRow) : Bool :=
  fs.any (fun f => match f.acc with | .sp => true | .w1csp => true | .wosp => true | _ => false)

/-- Whether every field of `fs` takes a value inside its range. -/
def rowInRange (fs : List FieldRow) (v : Word) : Bool := fs.all (fun f => f.inRange (getBits v f.lo f.w))

/-- The fields of the register at `a`. -/
def fieldsAt (a : Nat) : List FieldRow :=
  match findRow (blockRows a) a with
  | some r => r.fields
  | none => []

/-- Whether a written value asks a field for a change: a value that it does not hold, a bit to clear or to trigger (R19). -/
def FieldRow.asks (f : FieldRow) (old v : Word) : Bool :=
  let nv := getBits v f.lo f.w
  let ov := getBits old f.lo f.w
  match f.acc with
  | .rw => nv != ov
  | .rwlk => nv != ov
  | .sp => nv != ov
  | .ro => false
  | .wo => nv != 0
  | .wosp => nv != 0
  | .w1c => nv &&& ov != 0
  | .w1csp => nv &&& ov != 0

/-- Whether a write of `v` at `a` asks a field for a change: a write that does not is not refused by mode or writer (R19), and
there is nothing to refuse at an offset without a register (R38). -/
def State.asksChange (s : State) (a : Nat) (v : Word) : Bool := (fieldsAt a).any (fun f => f.asks (s.reg a) v)

/-- The plain register write (R19): every field its own rule; a refused SP field counts once. -/
def State.plainWrite (s : State) (w : Writer) (a : Nat) (v : Word) : State :=
  let fs := fieldsAt a
  let s1 := s.setReg a (rowWrite (isSafety w) fs (s.reg a) v)
  if !isSafety w && rowHasSP fs then s1.spViol w a else s1

/-- A rise of a status bit that raises interrupt `src` at every Zenou-A instance when its enable bit is 1. -/
def State.rise (s : State) (flag : Fld) (ien : Fld) (k : Nat) (src : Nat) : State :=
  if s.bit flag then s
  else
    let s1 := s.on flag
    if s1.bitAt ien k then s1.irq src else s1

/-- Whether TICK and SYSTIME_NS stand still for the monitor (R126). -/
def State.tickFrozen (s : State) : Bool := s.mode == .standby && s.frz F.TICK_CTL_FRZ F.TICK_CTL_FRZCORE

/-- Whether TICK runs. -/
def State.tickRuns (s : State) : Bool := s.bit F.TICK_STATUS_RUNNING && !s.tickFrozen

end Sys2Proof.Machine
end

