-- ==== Sys2Proof/Machine/Memory.lean ====
section
/-! DEFINITION. Memories (R9, R35, R246, R432-R436): the local address map, bytes and little-endian words, and the
error-correcting codes.  A memory is a sparse table of bytes: what reset leaves (0, in flash the erased 0xFF) is not listed. -/
namespace Sys2Proof.Machine

/-- What lies at a local address (R35, R36, R246). -/
inductive Region where
  | rom
  | isram (n : Nat)
  | dsram (n : Nat)
  | shared
  | flash (bank : Bool)
  | periph
  | table
  | aon
  | saf
  | sIsram
  | sDsram
  | dram
  | unmapped
  deriving DecidableEq, Repr

/-- Whether an offset within an axis's table area is an entry byte (R246). -/
def tableOffset (o : Nat) : Bool :=
  decide (o < 0x1800) || (decide (0x2000 ≤ o) && decide (o < 0x3800)) || (decide (0x4000 ≤ o) && decide (o < 0x4C00))
    || (decide (0x5000 ≤ o) && decide (o < 0x5C00))

/-- The local address map. -/
def region (a : Nat) : Region :=
  let hi := a / 0x10000
  if a < 0x20000 then .rom
  else if 0x100 ≤ hi ∧ hi < 0x140 ∧ hi % 16 < 4 then .isram (hi / 16 % 16)
  else if 0x200 ≤ hi ∧ hi < 0x240 ∧ hi % 16 < 4 then .dsram (hi / 16 % 16)
  else if 0x300 ≤ hi ∧ hi < 0x340 then .shared
  else if 0x400 ≤ hi ∧ hi < 0x480 then .flash false
  else if 0x480 ≤ hi ∧ hi < 0x500 then .flash true
  else if 0x800 ≤ hi ∧ hi < 0x814 ∧ hi ≠ 0x808 then .periph
  else if 0x900 ≤ hi ∧ hi < 0x90C ∧ tableOffset (a % 0x8000) then .table
  else if hi = 0xA00 then .aon
  else if hi = 0xC00 then .saf
  else if 0xC10 ≤ hi ∧ hi < 0xC14 then .sIsram
  else if 0xC20 ≤ hi ∧ hi < 0xC22 then .sDsram
  else if 0x2000 ≤ hi ∧ hi < 0x4000 then .dram
  else .unmapped

/-- What an unlisted byte of memory reads as: erased flash 0xFF, every other memory 0 (R435, R453).
Log entry 4 (DESIGN CHOICE). -/
def memDefault (a : Nat) : Byte := if 0x04000000 ≤ a ∧ a < 0x05000000 then 0xFF else 0

/-- The draw of the failed or cut flash operation that left byte `a` undefined, if any (R472). Log entry 73 (DESIGN CHOICE). -/
def State.tornAt (s : State) (a : Nat) : Option Nat :=
  match s.torn.find? (fun e => decide (e.1 ≤ a) && decide (a < e.1 + e.2.1)) with
  | some e => some e.2.2
  | none => none

/-- The byte at local address `a`. Log entry 4 (DESIGN CHOICE). -/
def State.byte (s : State) (a : Nat) : Byte :=
  match s.tornAt a with
  | some d => Config.tornByte d a
  | none => Tab.get (memDefault a) s.mem a

/-- `s` with the byte at `a` holding `b`. -/
def State.setByte (s : State) (a : Nat) (b : Byte) : State := { s with mem := Tab.set (memDefault a) s.mem a b }

/-- The canonical form of the memory. -/
abbrev Memory.wf (m : Tab Byte) : Prop := Tab.wf memDefault m = true

/-- The `n` bytes from `a`, in address order. -/
def State.bytes (s : State) (a n : Nat) : List Byte := (List.range n).map (fun i => s.byte (a + i))

/-- `s` with the bytes `l` stored from `a` on. -/
def State.setBytes (s : State) (a : Nat) : List Byte → State
  | [] => s
  | b :: t => (s.setByte a b).setBytes (a + 1) t

/-- The number whose little-endian bytes are `l` (R9). -/
def leNat : List Byte → Nat
  | [] => 0
  | b :: t => b.toNat + 256 * leNat t

/-- The `n` little-endian bytes of `v`. -/
def leBytes : Nat → Nat → List Byte
  | 0, _ => []
  | n + 1, v => BitVec.ofNat 8 v :: leBytes n (v / 256)

/-- The number whose big-endian bytes are `l` (R9). -/
def beNat (l : List Byte) : Nat := leNat l.reverse

/-- The `n` big-endian bytes of `v`. -/
def beBytes (n v : Nat) : List Byte := (leBytes n v).reverse

/-- The little-endian word of `n` bytes at `a`. -/
def State.load (s : State) (a n : Nat) : Nat := leNat (s.bytes a n)

/-- `s` with the `n` low bytes of `v` stored at `a`. -/
def State.store (s : State) (a n v : Nat) : State := s.setBytes a (leBytes n v)

/-! ### Nodes (R40) -/

/-- The node field of an address (R40). -/
def nodeOf (a : Nat) : Nat := a / 2 ^ 30 % 2 ^ 11

/-- The local address within a node (R40). -/
def localOf (a : Nat) : Nat := a % 2 ^ 30

/-- Whether an address names this module (R40, R42). -/
def State.isLocal (s : State) (a : Nat) : Bool :=
  nodeOf a == 0 || (s.bit F.FAB_NODE_VALID && nodeOf a == s.rd F.FAB_NODE_ID)

/-! ### Error-correcting codes -/

/-- The base of the table page that holds byte `a` of the table window (R246). -/
def pageBase (a : Nat) : Nat :=
  let o := a % 0x8000
  a - o + (if o < 0x2000 then 0 else if o < 0x4000 then 0x2000 else if o < 0x5000 then 0x4000 else 0x5000)

/-- The code unit that covers byte `a`: a 16-bit halfword of an SRAM, 64 bits of DRAM, a table entry, a program unit of 32
bytes of flash (R249, R433, R453). -/
def eccUnit (a : Nat) : Nat :=
  match region a with
  | .dram => a / 8 * 8
  | .table => pageBase a + (a - pageBase a) / 6 * 6
  | .flash _ => a / 32 * 32
  | _ => a / 2 * 2

/-- The code units that the `n` bytes from `a` touch. -/
def eccUnits (a n : Nat) : List Nat := ((List.range n).map (fun i => eccUnit (a + i))).eraseDups

/-- The memory code of DMA_ECCSTAT.MEM (R450). -/
def eccMem (a : Nat) : Nat :=
  match region a with
  | .isram n => n
  | .dsram n => 4 + n
  | .shared => 8
  | .aon => 9
  | _ => 10

/-- Whether a region is a Zenou-S memory. -/
def safMem (a : Nat) : Bool :=
  match region a with
  | .sIsram => true
  | .sDsram => true
  | _ => false

/-- A rise of an LE table flag (R249, R252, R266): bit `k` of TBLSTAT, whose IEN bit is 10 + k. -/
def State.tblFlag (s : State) (a k : Nat) : State :=
  let f : Fld := ⟨A.LE_AX_TBLSTAT a, k, 1⟩
  if s.bit f then s
  else
    let s1 := s.on f
    if s1.bit ⟨A.LE_AX_TBLSTAT a, k + 10, 1⟩ then s1.irq (67 + a / 4) else s1

/-- Record an ECC error of the unit at `u` (R249, R434, R465, R536). -/
def State.eccNote (s : State) (u : Nat) (hard : Bool) : State :=
  if region u = .table then s.tblFlag ((u - 0x09000000) / 0x8000) (if hard then 11 else 10)
  else if safMem u then
    if hard then (s.on F.SAF_FAULT_ECC_S).irqS 15 else s
  else if 0x04000000 ≤ u ∧ u < 0x05000000 then
    let s1 := s.wr F.FLC_ECCADDR_ADDR u
    if hard then (s1.on F.FLC_ECCSTAT_UNCOR).inc F.FLC_ECCSTAT_NUNCOR
    else (s1.on F.FLC_ECCSTAT_COR).inc F.FLC_ECCSTAT_NCOR
  else
    let s1 := (s.wr F.DMA_ECCSTAT_MEM (eccMem u)).wr F.DMA_ECCADDR_ADDR u
    if hard then (((s1.on F.DMA_ECCSTAT_UNCOR).inc F.DMA_ECCCNT_NUNCOR)).irqS 14
    else (s1.on F.DMA_ECCSTAT_COR).inc F.DMA_ECCCNT_NCOR

/-- Whether the code unit at `u` holds an uncorrectable error. -/
def State.hardAt (s : State) (u : Nat) : Bool :=
  s.eccHard.contains u || (match s.tornAt u with
    | some d => Config.tornEcc d u
    | none => false)

/-- A read of the `n` bytes from `a` passes the codes: single-bit errors are corrected in place and recorded, and the answer
is whether the data is lost to an uncorrectable error (R434). -/
def State.eccRead (s : State) (a n : Nat) : Bool × State :=
  let us := eccUnits a n
  let bad := us.any (fun u => s.hardAt u)
  let s1 := us.foldl (fun s u =>
    if s.hardAt u then s.eccNote u true
    else if s.eccSoft.contains u && decide (0x04000000 ≤ u ∧ u < 0x05000000) then s.eccNote u false
    else if s.eccSoft.contains u then { s with eccSoft := s.eccSoft.filter (fun x => x != u) }.eccNote u false
    else s) s
  (bad, s1)

/-- Size of the code unit at `u`. -/
def eccSize (u : Nat) : Nat :=
  match region u with
  | .dram => 8
  | .table => 6
  | .flash _ => 32
  | _ => 2

/-- A write of the `n` bytes from `a` replaces the code of every unit that it covers whole (R249). -/
def State.eccWrite (s : State) (a n : Nat) : State :=
  let kept (l : List Nat) : List Nat := l.filter (fun u => !(decide (a ≤ u) && decide (u + eccSize u ≤ a + n)))
  { s with eccSoft := kept s.eccSoft, eccHard := kept s.eccHard }

/-- A store of `n` bytes: the bytes and their codes. -/
def State.memStore (s : State) (a n v : Nat) : State := (s.store a n v).eccWrite a n

end Sys2Proof.Machine
end

