-- ==== Sys2Proof/Machine/LeBank.lean ====
section
/-! DEFINITION. Caldera parameter banks (R208, R225, R229-R232): which bank is active, the rate and budget checks, the commit
request, and the swap at the frame tick. -/
namespace Sys2Proof.Machine

/-- The working state of axis `a`. -/
def State.axis (s : State) (a : Nat) : Axis := Tab.get Axis.init s.axes a

/-- `s` with axis `a` replaced. -/
def State.setAxis (s : State) (a : Nat) (x : Axis) : State := { s with axes := Tab.set Axis.init s.axes a x }

/-- The LE interrupt of quad `q`. -/
def State.leIrq (s : State) (q : Nat) : State := s.irq (67 + q)

/-- A FLAG bit of axis `a` set; its rise raises the interrupt when IEN enables it (R245). Log entry 50 (DEDUCED). -/
def State.leFlag (s : State) (a k : Nat) : State :=
  let f : Fld := ⟨A.LE_AX_FLAG a, k, 1⟩
  if s.bit f then s
  else
    let s1 := s.on f
    if s1.bitAt (F.LE_AX_IEN_IEN a) k then s1.leIrq (a / 4) else s1

/-- A level FLAG bit of axis `a` (SPDINV, TRIPHOLD). -/
def State.leLevel (s : State) (a k : Nat) (b : Bool) : State :=
  if b then s.leFlag a k else s.off0 ⟨A.LE_AX_FLAG a, k, 1⟩

/-- Whether lane `q` runs. -/
def State.laneOn (s : State) (q : Nat) : Bool := s.bitAt F.LE_STATUS_RUN q

/-- Field `f` of a banked register in bank `b`. -/
def bankFld (b : Nat) (f : Fld) : Fld := { f with addr := f.addr + b * bankKey }

/-- The active bank of axis `a`: 0 A, 1 B (BSTAT.ACTIVE). -/
def State.actBank (s : State) (a : Nat) : Nat := s.rd (F.LE_AX_BSTAT_ACTIVE a)

/-- A parameter of axis `a` in the active bank. -/
def State.par (s : State) (a : Nat) (f : Nat → Fld) : Nat := s.rd (bankFld (s.actBank a) (f a))

/-- A signed parameter of axis `a` in the active bank. -/
def State.parS (s : State) (a : Nat) (f : Nat → Fld) : Int := s.rdS (bankFld (s.actBank a) (f a))

/-- A parameter of axis `a` in bank `b`. -/
def State.parIn (s : State) (a b : Nat) (f : Nat → Fld) : Nat := s.rd (bankFld b (f a))

/-- The axis mode of R210 in the active bank: 0 OFF, 1 CURRENT, 2 VELOCITY, 3 POSITION, 4 OPEN. -/
def State.leMode (s : State) (a : Nat) : Nat := s.par a F.LE_AX_GRAPH_MODE

/-- The carrier period of quad `q` in counts, 2 × PEAK in force (R135). -/
def State.carrierPeriod (s : State) (q : Nat) : Nat := 2 * s.inForce (F.PWM_Q_PERIOD_PEAK q)

/-- Carrier periods in a frame, N of R103. -/
def State.periodsPerFrame (s : State) (q : Nat) : Nat := s.inForce F.TICK_FRAME_COUNTS / s.carrierPeriod q

/-- Whether double sampling is in force (R162). -/
def State.dbl (s : State) (q : Nat) : Bool := s.inForce (F.ADC_Q_SAMP_DBL q) != 0

/-- Samples in a frame, S of R225. -/
def State.samplesPerFrame (s : State) (q : Nat) : Nat :=
  if s.dbl q then 2 * s.periodsPerFrame q else s.periodsPerFrame q

/-- The divider of a rate code, in samples (R225); 0 for a reserved code. Log entry 57 (DEDUCED). -/
def divider (code samples : Nat) : Nat :=
  if code ≤ 4 then 2 ^ code else if code = 5 then samples else 0

/-- Whether `d` divides `n` (with 0 dividing nothing). -/
def divides (d n : Nat) : Bool := decide (0 < d) && n % d == 0

/-- Whether bank `b` of axis `a` is valid for rates (R225). Log entry 57 (DEDUCED). -/
def State.ratesOk (s : State) (a b : Nat) : Bool :=
  let n := s.samplesPerFrame (a / 4)
  let v := divider (s.parIn a b F.LE_AX_GRAPH_VDIV) n
  let p := divider (s.parIn a b F.LE_AX_GRAPH_PDIV) n
  divides v n && divides v p && divides p n

/-- Outer-stage cycles of axis `a` with bank `b`, when all its loops are due (R207); a biquad on the position error
runs only in mode 3. -/
def State.outerCost (s : State) (a b : Nat) : Nat :=
  let m := s.parIn a b F.LE_AX_GRAPH_MODE
  if m = 2 ∨ m = 3 then
    4 + (if s.parIn a b F.LE_AX_GRAPH_INTERP ≠ 0 ∨ s.inForce (F.LE_AX_CTL_SPINT a) ≠ 0 then 2 else 0)
      + (if m = 3 then 4 else 0) + 6
      + (if s.parIn a b F.LE_AX_GRAPH_FRIC ≠ 0 then 3 else 0)
      + (if s.parIn a b F.LE_AX_GRAPH_DOB ≠ 0 then 8 else 0)
      + 5 * ((List.range 4).filter (fun k => (s.parIn a b F.LE_AX_GRAPH_BQEN).testBit k
          && (m = 3 || s.parIn a b F.LE_AX_GRAPH_BQPOS / 4 ^ k % 4 != 0))).length
  else 0

/-- NEED of quad `q` (R208), the axes of `mask` taken with their inactive bank. -/
def State.laneNeed (s : State) (q mask : Nat) : Nat :=
  (List.range 4).foldl (fun n k =>
    let a := 4 * q + k
    let b := if mask.testBit a then 1 - s.actBank a else s.actBank a
    n + s.outerCost a b) 0

/-- AVAIL of quad `q` (R208): the smallest spacing between consecutive sample points, less 36. -/
def State.laneAvail (s : State) (q : Nat) : Nat :=
  let p := s.carrierPeriod q
  let d := s.inForce (F.ADC_Q_SAMP_SP1 q) - s.inForce (F.ADC_Q_SAMP_SP0 q)
        + (s.inForce (F.ADC_Q_SAMP_SP0 q) - s.inForce (F.ADC_Q_SAMP_SP1 q))
  (if s.dbl q then min d (p - d) else p) - 36

/-- NEED and AVAIL shown in LE_Qq_LOAD. -/
def State.showLoad (s : State) (q : Nat) : State :=
  (s.wr (F.LE_Q_LOAD_NEED q) (s.laneNeed q 0)).wr (F.LE_Q_LOAD_AVAIL q) (s.laneAvail q)

/-- Why a commit of axis `a` is refused before the budget: the CAUSE code of R230, 0 for none. Log entry 57 (DEDUCED). -/
def State.commitEarly (s : State) (a : Nat) : Nat :=
  let now := s.leMode a
  let new := s.parIn a (1 - s.actBank a) F.LE_AX_GRAPH_MODE
  if s.modeIn [.boot, .safeStop, .shutdown] then 4
  else if s.modeIn [.armed, .run] && decide (new ≠ now) && !(decide (1 ≤ now ∧ now ≤ 3) && decide (1 ≤ new ∧ new ≤ 3)) then 3
  else if !s.ratesOk a (1 - s.actBank a) then 1
  else 0

/-- The axes of `mask` that the earlier checks let pass, whose new banks the budget counts (R208, R230). -/
def State.commitMask (s : State) (mask : Nat) : Nat :=
  (bitsWord 24 (fun a => mask.testBit a && s.commitEarly a == 0)).toNat

/-- Why a commit of axis `a`, made together with the axes of `mask`, is refused: the CAUSE code of R230, 0 for none.
Log entry 57 (DEDUCED). -/
def State.commitCause (s : State) (a mask : Nat) : Nat :=
  let c := s.commitEarly a
  if c ≠ 0 then c else if s.laneAvail (a / 4) < s.laneNeed (a / 4) (s.commitMask mask) then 2 else 0

/-- A refused commit: PEND clears, REFUSED and CAUSE set, the quad's LE interrupt is raised (R230). -/
def State.commitRefuse (s : State) (a cause : Nat) : State :=
  let s1 := (s.off0 (F.LE_AX_BSTAT_PEND a)).setBitAt F.LE_COMMIT_PEND_PEND a false
  let s2 := (s1.on (F.LE_AX_BSTAT_REFUSED a)).wr (F.LE_AX_BSTAT_CAUSE a) cause
  s2.irq (67 + a / 4)

/-- The axes whose commit request fell in this base cycle: those that wait, and those that the budget refused (R230). -/
def State.commitNow (s : State) : Nat :=
  (bitsWord 24 (fun a => (s.bit (F.LE_AX_BSTAT_PEND a) && s.sameAs (s.axis a).pendAt) || s.sameAs (s.axis a).refAt)).toNat

/-- One axis of a commit request: it waits, or is refused (R230). -/
def State.commitAxis (s : State) (a cause : Nat) : State :=
  if cause = 0 then
    if s.bit (F.LE_AX_BSTAT_PEND a) then s
    else
      let s1 := if s.sameAs (s.axis a).refAt then (s.off0 (F.LE_AX_BSTAT_REFUSED a)).wr (F.LE_AX_BSTAT_CAUSE a) 0 else s
      ((s1.on (F.LE_AX_BSTAT_PEND a)).setBitAt F.LE_COMMIT_PEND_PEND a true).setAxis a
        { s1.axis a with pendAt := some s1.instant, refAt := none }
  else
    let s1 := s.commitRefuse a cause
    s1.setAxis a { s1.axis a with refAt := if cause = 2 then some s1.instant else none }

/-- A commit request for the axes of `mask`, with those that a request of the same base cycle named (R230): all are checked as one
request, before any of them waits; one that waits from an earlier cycle stays. -/
def State.commitRequest (s : State) (mask : Nat) : State :=
  let ask := mask ||| s.commitNow
  let all := ask ||| s.rd F.LE_COMMIT_PEND_PEND
  (List.range 24).foldl (fun t a =>
    if ask.testBit a && (!s.bit (F.LE_AX_BSTAT_PEND a) || s.sameAs (s.axis a).pendAt) then t.commitAxis a (s.commitCause a all)
    else t) s

/-- The LE commit task input (R230). -/
def State.commitTask (s : State) : State :=
  if s.bit F.LE_COMMIT_EV_EN then s.commitRequest (s.rd F.LE_COMMIT_EV_MASK) else s

/-- The banked registers of axis `a`, as offsets from its base. -/
def bankOffsets : List Nat := (List.range 47).map (fun k => 0x100 + 8 * k)

/-- The inactive bank becomes a copy of the active one (R231). -/
def State.copyBank (s : State) (a : Nat) : State :=
  let b := s.actBank a
  let base := 0x08071000 + 0x400 * a
  bankOffsets.foldl (fun s o =>
    if (findRow (blockRows (base + o)) (base + o)).isSome then
      s.setReg (base + o + (1 - b) * bankKey) (s.reg (base + o + b * bankKey))
    else s) s

end Sys2Proof.Machine
end

