-- ==== Sys2Proof/Machine/TmrOps.lean ====
section
/-! DEFINITION. Timers (R114-R122): starting, stopping, captures, and the register accesses that have a rule of their own.
The moves of the counters themselves are in Timers.lean, because they fire events. -/
namespace Sys2Proof.Machine

/-- The working state of timer `t`. -/
def State.tmr (s : State) (t : Nat) : Timer := Tab.get Timer.init s.timers t

/-- `s` with timer `t`'s working state replaced. -/
def State.setTmr (s : State) (t : Nat) (x : Timer) : State := { s with timers := Tab.set Timer.init s.timers t x }

/-- Whether timer `t` runs (TMR_RUN). -/
def State.tmrRun (s : State) (t : Nat) : Bool := s.bitAt F.TMR_RUN_RUN t

/-- The active reload value: the written one unless it still waits for a wrap (R115). Log entry 41 (DEDUCED). -/
def State.activeReload (s : State) (t : Nat) : Nat :=
  match (s.tmr t).oldReload with
  | some r => r
  | none => s.rd (F.TMR_T_RELOAD_RELOAD t)

/-- The active prescaler value (R115). -/
def State.activePre (s : State) (t : Nat) : Nat :=
  match (s.tmr t).oldPre with
  | some p => p
  | none => s.rd (F.TMR_T_CTL_PRE t)

/-- Whether timer `t`, its prescaler and its captures are frozen (R126). -/
def State.tmrFrozen (s : State) (t : Nat) : Bool :=
  s.frz (F.TMR_T_CTL_FRZ t) (F.TMR_T_CTL_FRZCORE t)

/-- CMP_RANGE recomputed (R119); a bit that rises raises the timer's interrupt when enabled (R130). Log entry 41 (DEDUCED). -/
def State.cmpRange (s : State) (t : Nat) : State :=
  let old := s.rd (F.TMR_T_FLAG_CMP_RANGE t)
  let one := fun k => s.bitAt (F.TMR_T_CTL_CMPEN t) k && decide (s.activeReload t < s.rd (F.TMR_T_CMP_C t k))
  let new := (List.range 4).foldl (fun v k => natBit v k (one k)) 0
  let rises := (List.range 4).any (fun k => new.testBit k && !old.testBit k && s.bitAt (F.TMR_T_IEN_IEN t) (7 + k))
  let s1 := s.wr (F.TMR_T_FLAG_CMP_RANGE t) new
  if rises then s1.irq (32 + t) else s1

/-- Start the stopped timers of `mask`, their prescalers restarting; a stop of the same cycle wins (R116). -/
def State.tmrStart (s : State) (mask : Nat) : State :=
  s.upto 16 (fun t s =>
    if mask.testBit t && !s.tmrRun t && !s.sameAs (s.tmr t).stopAt then
      (s.setBitAt F.TMR_RUN_RUN t true).setTmr t { s.tmr t with pre := 0 }
    else s)

/-- Stop the timers of `mask`, keeping their counts (R116). -/
def State.tmrStop (s : State) (mask : Nat) : State :=
  s.upto 16 (fun t s =>
    if mask.testBit t then (s.setBitAt F.TMR_RUN_RUN t false).setTmr t { s.tmr t with stopAt := some s.instant } else s)

/-- The GSTART task input (R116). -/
def State.gstartTask (s : State) : State :=
  if s.bit F.TMR_GSTART_EV_EN then s.tmrStart (s.rd F.TMR_GSTART_EV_MASK) else s

/-- The capture queue `k` of timer `t`. -/
def State.capQ (s : State) (t k : Nat) : List Word := if k = 0 then (s.tmr t).q0 else (s.tmr t).q1

/-- `s` with capture queue `k` of timer `t` holding `q`, LEVEL and CAPNE following it. -/
def State.setCapQ (s : State) (t k : Nat) (q : List Word) : State :=
  let x := s.tmr t
  let s1 := s.setTmr t (if k = 0 then { x with q0 := q } else { x with q1 := q })
  let s2 := s1.wr (F.TMR_T_CAPINFO_LEVEL t k) q.length
  s2.wrb (if k = 0 then F.TMR_T_FLAG_CAPNE0 t else F.TMR_T_FLAG_CAPNE1 t) (!q.isEmpty)

/-- A capture that finds queue `k` of timer `t` full is discarded (R121). -/
def State.capLost (s : State) (t k : Nat) : State :=
  let s1 := s.inc (F.TMR_T_CAPINFO_OVF t k)
  s1.rise (if k = 0 then F.TMR_T_FLAG_CAPOVF0 t else F.TMR_T_FLAG_CAPOVF1 t) (F.TMR_T_IEN_IEN t) (5 + k) (32 + t)

/-- `s` with the capture of this cycle that found queue `k` of timer `t` full. -/
def State.setLost (s : State) (t k : Nat) (v : Option Word) : State :=
  let x := s.tmr t
  s.setTmr t (if k = 0 then { x with lost0 := v } else { x with lost1 := v })

/-- The capture of this cycle that found the queue full, if there is one. -/
def State.capWaits (s : State) (t k : Nat) : Option Word := if k = 0 then (s.tmr t).lost0 else (s.tmr t).lost1

/-- A capture on input `k` of timer `t` (R121): the count enters the 4-entry queue.  One that finds the queue full is discarded at
the end of its cycle, unless a read of that cycle frees a place (R122). -/
def State.capture (s : State) (t k : Nat) : State :=
  let en := if k = 0 then s.bit (F.TMR_T_CTL_CAPEN0 t) else s.bit (F.TMR_T_CTL_CAPEN1 t)
  if !en || s.tmrFrozen t then s
  else
    let q := s.capQ t k
    let v := s.reg (A.TMR_T_COUNT t)
    if q.length < 4 then
      let s1 := s.setCapQ t k (q ++ [v])
      if q.isEmpty then
        let x := s1.tmr t
        let s2 := s1.setTmr t (if k = 0 then { x with newAt0 := some s.instant } else { x with newAt1 := some s.instant })
        if s.bitAt (F.TMR_T_IEN_IEN t) (12 + k) then s2.irq (32 + t) else s2
      else s1
    else if s.clocked then s.setLost t k (some v) else s.capLost t k

/-- The captures that found a queue full and no read of their cycle are discarded. -/
def State.capSettle (s : State) : State :=
  s.upto 32 (fun i s =>
    let t := i / 2
    let k := i % 2
    if (s.capWaits t k).isSome then (s.setLost t k none).capLost t k else s)

/-- Whether queue `k` of timer `t` holds nothing but a capture of this cycle (R122). -/
def State.capOnlyNew (s : State) (t k : Nat) : Bool :=
  (s.capQ t k).length == 1 && s.thisCycle (if k = 0 then (s.tmr t).newAt0 else (s.tmr t).newAt1)

/-- A read of TMR_Tn_CAPk (R121, R122): pops the head and latches its validity; an empty queue reads 0.  A capture of the same cycle
enters behind what the read takes. -/
def State.capRead (s : State) (r : Writer) (t k : Nat) : Word × State :=
  let q := s.capQ t k
  if s.capOnlyNew t k then (0, if s.sideFx r then s.off0 (F.TMR_T_CAPINFO_VALID t k) else s)
  else
    let tail := q.tail ++ (s.capWaits t k).toList
    (q.headD 0,
      if s.sideFx r then ((s.setLost t k none).setCapQ t k tail).wrb (F.TMR_T_CAPINFO_VALID t k) (!q.isEmpty) else s)

/-- A write of TMR_Tn_COUNT (R116). -/
def State.tmrCountWrite (s : State) (t : Nat) (v : Word) : State :=
  if s.tmrRun t then s.rise (F.TMR_T_FLAG_WR_RUN t) (F.TMR_T_IEN_IEN t) 14 (32 + t)
  else s.setReg (A.TMR_T_COUNT t) v

/-- A write of TMR_Tn_RELOAD (R115): pending while the timer runs, active at once while it is stopped. Log entry 41 (DEDUCED). -/
def State.tmrReloadWrite (s : State) (t : Nat) (v : Word) : State :=
  let x := s.tmr t
  let s1 := if s.tmrRun t then s.setTmr t { x with oldReload := some (s.activeReload t) }
    else s.setTmr t { x with oldReload := none }
  (s1.setReg (A.TMR_T_RELOAD t) v).cmpRange t

/-- A write of TMR_Tn_CTL: PRE has its shadow (R115), CMPEN bears on CMP_RANGE (R119), the rest is plain. -/
def State.tmrCtlWrite (s : State) (w : Writer) (t : Nat) (v : Word) : State :=
  let x := s.tmr t
  let s1 := if getBits v 10 16 = s.rd (F.TMR_T_CTL_PRE t) ∧ x.oldPre = none then s
    else if s.tmrRun t then s.setTmr t { x with oldPre := some (s.activePre t) }
    else s.setTmr t { x with oldPre := none }
  (s1.plainWrite w (A.TMR_T_CTL t) v).cmpRange t

/-- A write of TMR_Tn_CMPk (R118). -/
def State.tmrCmpWrite (s : State) (t k : Nat) (v : Word) : State :=
  (s.setReg (A.TMR_T_CMP t k) v).cmpRange t

/-- Every timer stopped, as on entry to DORMANT and at the start of the logic BIST (R125). -/
def State.tmrStopAll (s : State) : State := s.tmrStop 0xFFFF

end Sys2Proof.Machine
end

