-- ==== Sys2Proof/Machine/Evr.lean ====
section
/-! DEFINITION. Event routing (R304-R321): channels, gates, links, merge counters, holdoff, the loop limit, and the DIO
contacts that events drive. Log entry 12 says which arrivals are of one drive-base cycle. -/
namespace Sys2Proof.Machine

/-! ### DIO contacts (R67, R311, R590) -/

/-- The level that DIO `k` drives at its contact, if it is an output: while the pads are held, the latched one (R67, R590); up to
the end of BOOT every contact is an input (R64). Log entry 131 (DEDUCED). -/
def State.dioDriven (s : State) (k : Nat) : Option Bool :=
  if s.bit F.AON_PADREL_HELD then (if s.padOut.getLsbD k then some (s.bitAt F.AON_DIOIN_IN k) else none)
  else if s.modeIn [.off, .boot] then none
  else if s.bitAt F.AON_DIODIR_DIR k then some (s.bitAt F.AON_DIOOUT_OUT k) else none

/-- The contact of DIO `k` follows its register, or, as an input, what the outside gives it: the edge reaches its channel within
15 ns + 25 ns (R308, R311). Log entry 131 (DEDUCED). -/
def State.dioFollow (s : State) (k : Nat) : State :=
  let b := (s.dioDriven k).getD (s.dioExt.getLsbD k)
  if s.bitAt F.AON_DIOIN_IN k = b then s.cancel (.dioEdge (Fin.ofNat 16 k) (!b))
  else s.after (nsCycles 40) (.dioEdge (Fin.ofNat 16 k) b)

/-- Every contact follows its register. -/
def State.dioFollowAll (s : State) : State := s.upto 16 (fun k s => s.dioFollow k)

/-! ### Channels -/

/-- How many producer inputs a channel has (R307). -/
def evrInputs (ch : Nat) : Nat :=
  if ch ≤ 1 then 1 else if ch ≤ 3 then 16 else if ch = 4 then 7 else if ch = 5 then 2 else if ch = 6 then 3
  else if ch = 7 then 32 else if ch ≤ 23 then 5 else if ch ≤ 29 then 2 else if ch ≤ 31 then 24 else if ch ≤ 37 then 2
  else if ch = 38 then 1 else if ch = 39 then 24 else if ch ≤ 45 then 27 else if ch = 46 then 12 else if ch = 47 then 4
  else if ch ≤ 53 then 3 else if ch ≤ 55 then 24 else if ch ≤ 61 then 12 else if ch = 62 then 3 else if ch = 63 then 2
  else if ch ≤ 79 then 2 else if ch ≤ 81 then 1 else 0

/-- Whether only the AON-resident part of the network lives: DORMANT, and SHUTDOWN from the start of the BIST (R319, R320). -/
def State.evrAonOnly (s : State) : Bool := s.mode == .dormant || (s.mode == .shutdown && s.bistRunning)

/-- `s` before EVR setting `a` changes: firings of this cycle still use the value from before (R313, R318). -/
def State.evrNote (s : State) (a : Nat) : State :=
  let old := if s.sameAs s.evrOldAt then s.evrOld else []
  { s with evrOld := if (Tab.find old a).isSome then old else Tab.put old a (s.reg a), evrOldAt := some s.instant }

/-- EVR setting `f` as a firing of this cycle uses it. -/
def State.evrSet (s : State) (f : Fld) : Nat :=
  match if s.sameAs s.evrOldAt then Tab.find s.evrOld f.addr else none with
  | some v => getBits v f.lo f.w
  | none => s.rd f

/-- Whether the network takes part in the mode (R320): in BOOT once SYS_READY.CFG sets. -/
def State.evrLive (s : State) : Bool := s.mode != .off && (s.mode != .boot || s.bit F.SYS_READY_CFG)

/-- Whether a channel is active (R305; R320 for BOOT and OFF). -/
def State.evrActive (s : State) (ch : Nat) : Bool :=
  s.bit (F.EVR_CH_CFG_EN ch) && s.bitAt F.EVR_GRPEN_EN (ch / 8) && !s.bit (F.EVR_CH_STAT_LOOP ch) && s.evrLive

/-- Whether a channel is active for a firing of this cycle (R305, R313, R318). -/
def State.evrFires (s : State) (ch : Nat) : Bool :=
  s.evrSet (F.EVR_CH_CFG_EN ch) == 1 && (s.evrSet F.EVR_GRPEN_EN).testBit (ch / 8) && !s.bit (F.EVR_CH_STAT_LOOP ch) && s.evrLive

/-- The gate of a channel (R309). -/
def State.evrGate (s : State) (ch : Nat) : Bool :=
  let inv := s.evrSet (F.EVR_CH_CFG_GINV ch) == 1
  let pass (b : Bool) := b != inv
  match s.evrSet (F.EVR_CH_CFG_GATE ch) with
  | 1 => pass (s.mode == .run)
  | 2 => pass (s.bitAt F.AON_DIOIN_IN (ch % 16))
  | 3 => pass (s.tmrRun (ch % 16))
  | 4 => pass (s.bit (F.PWM_Q_STATUS_RUNNING (ch % 6)) && !s.bit (F.PWM_Q_CNT_DIR (ch % 6)))
  | _ => true

/-- Merge counter `t` (R312): 8 bits, byte t mod 6 of EVR_MRG(t div 6). -/
def mrgFld (t : Nat) : Fld := ⟨A.EVR_MRG (t / 6), 8 * (t % 6), 8⟩

/-- Whether an arrival at task input `t` fell less than `win` cycles ago. Log entry 12 (DEDUCED). -/
def State.arrived (s : State) (t win : Nat) : Bool :=
  match Tab.find s.evrArr t with
  | some x => s.same x || (decide (x.1 < s.now) && decide (s.now < x.1 + win))
  | none => false

/-- `s` with an arrival at task input `t` noted. -/
def State.noteArrival (s : State) (t : Nat) : State := { s with evrArr := Tab.put s.evrArr t s.instant }

/-- One arrival at task input `t`: the first activates, those within `win` cycles merge (R312). -/
def State.arrive (s : State) (t win : Nat) (act : State → State) : State :=
  if s.arrived t win then s.inc (mrgFld t) else act (s.noteArrival t)

/-- The WAKE latch (R310, R319, R583): honoured in DORMANT only; the first channel to set it is kept. -/
def State.wakeSet (s : State) (ch : Nat) : State :=
  match s.wakeLatch with
  | some _ => s
  | none => { s with wakeLatch := some ch }

/-- Whether an edge reaches the WAKE latch: in DORMANT, and in the entry to it before its last 6 AON cycles (R583, R584). -/
def State.wakeHonoured (s : State) : Bool :=
  s.mode == .dormant || (match s.dormAt with
    | some t => decide (s.now < t + 1212675)
    | none => false)

/-- A GEN or GDIS activation of group `g` (R313), from the next cycle; both in one cycle leave the group disabled. -/
def State.groupTask (s : State) (g : Nat) (gen : Bool) : State :=
  let set (b : Bool) (s : State) : State := (s.evrNote A.EVR_GRPEN).setBitAt F.EVR_GRPEN_EN g b
  if s.bitAt F.EVR_GRPLOCK_LOCK g then s
  else if gen then s.arrive (82 + g) 6 (fun s => if s.arrived (94 + g) 1 then s else set true s)
  else s.arrive (94 + g) 6 (set false)

/-- The DIO link (R311): 0 SET, 1 CLR, 2 TGL on DIO `k`; a TGL that a SET or CLR of its cycle makes void is counted. -/
def State.dioTask (s : State) (k act : Nat) : State :=
  if !s.bitAt F.AON_DIODIR_DIR k then s
  else
    let t := 34 + 3 * k
    let setNow := s.arrived t 1
    let clrNow := s.arrived (t + 1) 1
    let set (b : Bool) (s : State) : State := (s.setBitAt F.AON_DIOOUT_OUT k b).dioFollow k
    let void (s : State) : State := if s.arrived (t + 2) 1 && !setNow && !clrNow then s.inc (mrgFld (t + 2)) else s
    match act with
    | 0 => (void s).arrive t 1 (fun s => if clrNow then s else set true s)
    | 1 => (void s).arrive (t + 1) 1 (set false)
    | 2 => if setNow || clrNow then s.inc (mrgFld (t + 2)) else s.arrive (t + 2) 1 (fun s => set (!s.bitAt F.AON_DIOOUT_OUT k) s)
    | _ => s

/-- A software write of AON_DIOOUT has been made: the actions of the same cycle come after it (R311). -/
def State.dioActions (s : State) : State :=
  s.upto 16 (fun k s =>
    let t := 34 + 3 * k
    if !s.bitAt F.AON_DIODIR_DIR k then s
    else if s.arrived (t + 1) 1 then s.setBitAt F.AON_DIOOUT_OUT k false
    else if s.arrived t 1 then s.setBitAt F.AON_DIOOUT_OUT k true
    else if s.arrived (t + 2) 1 then s.setBitAt F.AON_DIOOUT_OUT k (!s.bitAt F.AON_DIOOUT_OUT k)
    else s)

/-- Deliver a firing of channel `ch` to the task input of every enabled link (R310, R319). -/
def State.evrDeliver (s : State) (ch : Nat) : State :=
  let links := s.evrSet (F.EVR_CH_LINK_LINK ch)
  let tgrp := s.evrSet (F.EVR_CH_CFG_TGRP ch)
  let act := s.evrSet (F.EVR_CH_CFG_DIOACT ch)
  let aon := s.evrAonOnly
  let s := if aon then s else s.upto 4 (fun k s => if links.testBit k then s.edge k (128 + ch) else s)
  let s := if s.wakeHonoured && links.testBit 4 then s.wakeSet ch else s
  let s := if !aon && links.testBit 5 then s.arrive 0 1 State.gstartTask else s
  let s := if !aon && links.testBit 6 then s.arrive 1 1 State.commitTask else s
  let s := if links.testBit 7 then s.groupTask tgrp true else s
  let s := if links.testBit 8 then s.groupTask tgrp false else s
  let s := if !aon && links.testBit 9 then
      s.arrive (2 + 2 * (ch % 16) + (ch / 16) % 2) 1 (fun s => s.capture (ch % 16) ((ch / 16) % 2)) else s
  if links.testBit 10 then s.dioTask (ch % 16) act else s

/-- Whether channel `ch` is within its holdoff: it fired, in an earlier cycle, less than 6 cycles ago (R316).
Log entry 12 (DEDUCED). -/
def State.evrHoldoff (s : State) (ch : Nat) : Bool :=
  match Tab.find s.evrLast ch with
  | some (t, _) => decide (t < s.now ∧ s.now < t + 6)
  | none => false

/-- Whether channel `ch` already fired in this cycle. -/
def State.evrFiredNow (s : State) (ch : Nat) : Bool := s.sameAs (Tab.find s.evrLast ch)

/-- FIRECNT as a firing finds it: a firing in the cycle of a frame tick counts in the new frame (R317). -/
def State.fireCount (s : State) (ch : Nat) : Nat :=
  if s.alarms.any (fun p => p.2 == .frameTick && decide (p.1 ≤ s.now)) then 0 else s.rd (F.EVR_CH_STAT_FIRECNT ch)

/-- A firing of an active channel: one per cycle, dropped within the holdoff, stopped at the loop limit (R306, R316, R317).
Log entry 149 (DESIGN CHOICE). -/
def State.evrFireCh (s : State) (ch : Nat) : State :=
  if s.evrFiredNow ch then s
  else if s.evrHoldoff ch then s.inc (F.EVR_CH_STAT_DROPCNT ch)
  else if s.rd F.EVR_LOOPLIM_LIM < s.fireCount ch + 1 then (s.on (F.EVR_CH_STAT_LOOP ch)).irq 110
  else
    let s1 := s.wr (F.EVR_CH_STAT_FIRECNT ch) (min 255 (s.fireCount ch + 1))
    let s2 := if !s.bit F.TICK_STATUS_RUNNING && !s.due .evrWindowExpire then s1.after 732422 .evrWindowExpire else s1
    { s2 with evrLast := Tab.put s2.evrLast ch s2.instant }.evrDeliver ch

/-- Whether the producers and FIRECNT are frozen (R321). -/
def State.evrFrozen (s : State) : Bool := s.mode == .standby && s.frz F.EVR_CTL_FRZ F.EVR_CTL_FRZCORE

/-- A producer input of channel `ch` rises (R305, R307, R309, R319, R321). Log entry 3 (DESIGN CHOICE). -/
def State.fire (s : State) (ch inp : Nat) : State :=
  let live := if s.evrAonOnly then decide (64 ≤ ch ∧ ch ≤ 81) else true
  if live && !s.evrFrozen && decide (inp < evrInputs ch) && (s.evrSet (F.EVR_CH_SRC_MASK ch)).testBit inp && s.evrFires ch
    && s.evrGate ch
  then s.evrFireCh ch else s

/-- A write of EVR_FIRE0 (`hi = false`) or EVR_FIRE1 (R314): its bits fire in the next drive-base cycle. -/
def State.evrFireWrite (s : State) (hi : Bool) (v : Word) : State :=
  { s with evrSoft := Nat.lor s.evrSoft (if hi then v.toNat * 2 ^ 48 else v.toNat) }

/-- The software firings of this cycle (R314, R316): a channel that is inactive, or within its holdoff, sets FIRELOST. -/
def State.softFire (s : State) : State :=
  if s.evrSoft = 0 then s
  else
    { s with evrSoft := 0 }.upto 96 (fun ch t =>
      if !s.evrSoft.testBit ch then t
      else if !t.evrFires ch then t.on F.EVR_STATUS_FIRELOST
      else if t.evrHoldoff ch then (t.on F.EVR_STATUS_FIRELOST).evrFireCh ch
      else t.evrFireCh ch)

/-- A write of EVR_CHn_STAT: 1 to LOOP clears it and FIRECNT (R317), DROPCNT takes its value. -/
def State.evrStatWrite (s : State) (w : Writer) (ch : Nat) (v : Word) : State :=
  let s1 := s.plainWrite w (A.EVR_CH_STAT ch) v
  if v.getLsbD 0 then s1.wr (F.EVR_CH_STAT_FIRECNT ch) 0 else s1

/-- A write of EVR_CHn_CFG (R315, R323): refused once locked; a reserved code keeps its field and sets CFG_ERR. -/
def State.evrCfgWrite (s0 : State) (w : Writer) (ch : Nat) (v : Word) : State :=
  let s := s0.evrNote (A.EVR_CH_CFG ch)
  if s.bit (F.EVR_CH_CFG_LOCK ch) then s0
  else
    let gateBad := decide (4 < getBits v 1 3)
    let s1 := (s.plainWrite w (A.EVR_CH_CFG ch) v)
    let s2 := if gateBad then s1.wr (F.EVR_CH_CFG_GATE ch) (s.rd (F.EVR_CH_CFG_GATE ch)) else s1
    if gateBad || decide (11 < getBits v 5 4) || getBits v 9 2 == 3 then s2.on F.EVR_STATUS_CFG_ERR else s2

/-- A write of EVR_CHn_SRC: refused once locked; mask bits without an input read 0 (R307). -/
def State.evrSrcWrite (s : State) (ch : Nat) (v : Word) : State :=
  if s.bit (F.EVR_CH_CFG_LOCK ch) then s
  else (s.evrNote (A.EVR_CH_SRC ch)).wr (F.EVR_CH_SRC_MASK ch) (getBits v 0 32 % 2 ^ evrInputs ch)

/-- A write of EVR_CHn_LINK: refused once locked. -/
def State.evrLinkWrite (s : State) (ch : Nat) (v : Word) : State :=
  if s.bit (F.EVR_CH_CFG_LOCK ch) then s else (s.evrNote (A.EVR_CH_LINK ch)).wr (F.EVR_CH_LINK_LINK ch) (getBits v 0 11)

/-- A write of EVR_GRPEN or EVR_GRPLOCK: a locked bit keeps its value (R313, R315). -/
def State.evrGrpWrite (s : State) (f : Fld) (v : Word) : State :=
  let lock := s.rd F.EVR_GRPLOCK_LOCK
  (s.evrNote f.addr).upto 12 (fun g s => if lock.testBit g then s else s.setBitAt f g (v.getLsbD g))

/-- A write of EVR_GRPEN: the activations of the same cycle come after it (R313). -/
def State.grpEnWrite (s : State) (v : Word) : State :=
  (s.evrGrpWrite F.EVR_GRPEN_EN v).upto 12 (fun g s =>
    if s.bitAt F.EVR_GRPLOCK_LOCK g then s
    else if s.arrived (94 + g) 1 then s.setBitAt F.EVR_GRPEN_EN g false
    else if s.arrived (82 + g) 1 then s.setBitAt F.EVR_GRPEN_EN g true
    else s)

/-- The loop window ends: every FIRECNT goes to 0, but for the firings of this cycle (R317). -/
def State.evrWindow (s : State) : State :=
  s.upto 96 (fun ch s =>
    if s.bit (F.EVR_CH_STAT_FIRECNT ch) then s.wr (F.EVR_CH_STAT_FIRECNT ch) (if s.evrFiredNow ch then 1 else 0) else s)

/-- A DIO contact takes level `b`: the edge fires its channel (R307, R308). -/
def State.dioEdge (s : State) (k : Nat) (b : Bool) : State :=
  if s.bitAt F.AON_DIOIN_IN k = b then s
  else (s.setBitAt F.AON_DIOIN_IN k b).fire (64 + k) (if b then 0 else 1)

/-- A change of SYS_READY bit `k` (R84): the bit, its CHG bit, S81 and CH63 input 1. -/
def State.setReady (s : State) (k : Nat) (b : Bool) : State :=
  let f : Fld := ⟨A.SYS_READY, k, 1⟩
  if s.bit f = b then s
  else (((s.wrb f b).on ⟨A.SYS_READYCHG, k, 1⟩).irq 81).fire 63 1

end Sys2Proof.Machine
end

