-- ==== Sys2Proof/Machine/CmpOps.lean ====
section
/-! DEFINITION. Comparators (R186-R202), the part the gate logic needs: trip-path signals, trip inputs, blanking windows. -/
namespace Sys2Proof.Machine

/-- The working state of comparator `n`. -/
def State.comp (s : State) (n : Nat) : Comp := Tab.get Comp.init s.comps n

/-- `s` with comparator `n` replaced. -/
def State.setComp (s : State) (n : Nat) (x : Comp) : State := { s with comps := Tab.set Comp.init s.comps n x }

/-- Whether the comparators are powered (R201). -/
def State.compLive (s : State) : Bool :=
  match s.mode with
  | .off => false
  | .dormant => false
  | .boot => s.bit F.SYS_READY_CFG
  | .shutdown => !s.bistRunning
  | _ => true

/-- Whether comparator `n` is an EXT channel that works in sampled operation now (R196, R197). -/
def State.compSampled (s : State) (n : Nat) : Bool :=
  decide (54 ≤ n) && s.inForce (F.CMP_CH_CFG_SAMP n) != 0 && !s.bit (F.CMP_CH_STAT_SOFS_ERR n)

/-- Whether at least `k` of the last `n` samples of a history are outside (R189, R193). -/
def majority (k n h : Nat) : Bool := decide (k ≤ ((List.range n).filter h.testBit).length)

/-- The output of comparator `n` that its trip path takes: above and below (R189, R195, R196).  A sampled EXT channel's is the result
of its last window; with MAJ = 1 it is the 2-of-3 majority, and an open blanking window shows the input inside. -/
def State.compPath (s : State) (n : Nat) : Bool × Bool :=
  let c := s.comp n
  if s.compSampled n then (c.resA, c.resB)
  else if c.blank then (false, false)
  else if s.inForce (F.CMP_CH_CFG_MAJ n) = 0 then (c.above, c.below)
  else (majority 2 3 c.histA, majority 2 3 c.histB)

/-- The trip-path signal of comparator `n`, after blanking and majority (R187, R191). -/
def State.compSig (s : State) (n : Nat) : Bool :=
  s.compLive && (((s.compPath n).1 && s.inForce (F.CMP_CH_CFG_TRIPEN_HI n) != 0)
    || ((s.compPath n).2 && s.inForce (F.CMP_CH_CFG_TRIPEN_LO n) != 0))

/-- Whether comparator `n` has a TRIPEN bit at 1 (R187, R192). -/
def State.compTripen (s : State) (n : Nat) : Bool :=
  s.inForce (F.CMP_CH_CFG_TRIPEN_HI n) != 0 || s.inForce (F.CMP_CH_CFG_TRIPEN_LO n) != 0

/-- The trip input that comparator `n` drives (R187, R190, R198). -/
def State.compTrip (s : State) (n : Nat) : Bool :=
  if s.inForce (F.CMP_CH_CFG_CLR n) = 2 then s.compSig n else s.compLive && (s.comp n).latch && s.compTripen n

/-- Whether a trip input of axis `a` is active (R147, R187). -/
def State.tripLevel (s : State) (a : Nat) : Bool :=
  s.compTrip (2 * a) || s.compTrip (2 * a + 1) || s.compTrip (48 + a / 4)
    || (List.range 4).any (fun m => s.compTrip (54 + m) && (s.inForce (F.CMP_EXT_ROUTE_AXIS m)).testBit a)
    || s.bitAt (F.PWM_Q_SWTRIP_TRIP (a / 4)) (a % 4)

/-- The axis's trip level falls with its inputs; it never rises here. -/
def State.lvlFall (s : State) (a : Nat) : State :=
  let x := s.axis a
  if x.lvl && !s.tripLevel a then s.setAxis a { x with lvl := false } else s

/-- A start event of comparator `n`'s blanking window (R194): the window runs its full length from here. -/
def State.blankStart (s : State) (n : Nat) : State :=
  let blk := s.inForce (F.CMP_CH_CFG_BLK n)
  if blk = 0 || s.compSampled n || !s.compLive then s
  else (s.setComp n { s.comp n with blank := true }).after blk (.cmpBlankingEnd (Fin.ofNat 58 n))

/-- Start the blanking of channel `n` if its BSRC selects event `b`. -/
def State.blankIf (s : State) (b n : Nat) : State :=
  if (s.inForce (F.CMP_CH_CFG_BSRC n)).testBit b then s.blankStart n else s

/-- The comparators of quad `q`: eight phase channels and the bus channel. -/
def quadComps (q : Nat) : List Nat := (List.range 8).map (fun j => 8 * q + j) ++ [48 + q]

/-- A carrier valley (`b = 0`) or peak (`b = 1`) of quad `q` as a blanking start event. -/
def State.blankCarrier (s : State) (q b : Nat) : State :=
  let s1 := (quadComps q).foldl (fun s n => s.blankIf b n) s
  s1.upto 4 (fun k s => s.lvlFall (4 * q + k))

/-- Drive-base cycles from a change of a trip input to the change of the gate signals, at most 6 ns (R147).
Log entry 43 (DESIGN CHOICE). -/
def tripLag : Nat := 4

/-- A gate edge of axis `a` as a blanking start event; the edges of a trip come `tripLag` after its trip input changed. -/
def State.gateEdge (s : State) (a : Nat) : State :=
  if (s.axis a).inTrip then
    [2 * a, 2 * a + 1, 48 + a / 4].foldl (fun s n =>
      if (s.inForce (F.CMP_CH_CFG_BSRC n)).testBit 2 then s.setComp n { s.comp n with gateAt := some (s.now + tripLag) } else s) s
  else
    let s1 := ((s.blankIf 2 (2 * a)).blankIf 2 (2 * a + 1)).blankIf 2 (48 + a / 4)
    s1.upto 4 (fun k s => s.lvlFall (4 * (a / 4) + k))

/-- MATCH0 of timer `t` as a blanking start event. -/
def State.blankTimer (s : State) (t : Nat) : State :=
  let s1 := s.upto 58 (fun n s => if s.inForce (F.CMP_CH_CFG_BTMR n) = t then s.blankIf 3 n else s)
  s1.upto 24 (fun a s => s.lvlFall a)

end Sys2Proof.Machine
end

