-- ==== Sys2Proof/Machine/PwmOps.lean ====
section
/-! DEFINITION. Half-bridges (R131-R156): what each gate does, trips, and the state of an axis's outputs when the mode, the
gate enables, STO or a trip input changes. -/
namespace Sys2Proof.Machine

/-- The working state of phase `p` (0 U, 1 V, 2 W) of axis `a`. -/
def State.phase (s : State) (a p : Nat) : Phase := Tab.get Phase.init s.phases (3 * a + p)

/-- `s` with phase `p` of axis `a` replaced. -/
def State.setPhase (s : State) (a p : Nat) (x : Phase) : State :=
  { s with phases := Tab.set Phase.init s.phases (3 * a + p) x }

/-- The dead-time event of a phase. -/
def deadEvent (a p : Nat) : Instr := .pwmDeadTimeEnd (Fin.ofNat 24 a) (Fin.ofNat 3 p)

/-- The window-edge event of a phase. -/
def edgeEvent (a p : Nat) : Instr := .pwmWindowEdge (Fin.ofNat 24 a) (Fin.ofNat 3 p)

/-- Whether the carrier of quad `q` runs. -/
def State.carrierOn (s : State) (q : Nat) : Bool := s.bit (F.PWM_Q_STATUS_RUNNING q)

/-- The dead time of quad `q` in steps. -/
def State.deadSteps (s : State) (q : Nat) : Nat := s.inForce (F.PWM_Q_DT_DT q)

/-- Steps in a carrier period, 16 × PEAK. -/
def State.periodSteps (s : State) (q : Nat) : Nat := 16 * s.inForce (F.PWM_Q_PERIOD_PEAK q)

/-- Gate enable and STO both present (R133, R152): what PWM_AXa_STATUS.GEN shows. -/
def State.gateEnable (s : State) (a : Nat) : Bool := !s.bit F.SAF_STATUS_STO && s.bitAt F.SAF_GATEEN_EN a

/-- Whether the gate drivers of axis `a` may act (R133, R153). Log entry 45 (DEDUCED). -/
def State.powered (s : State) (a : Nat) : Bool :=
  s.gateEnable a && (s.axis a).oenEff && s.modeIn [.armed, .run, .safeStop]

/-- Whether duty 0 is forced (R153): ARMED, and a SAFE_STOP not entered from RUN. -/
def State.zeroForced (s : State) : Bool := s.mode == .armed || (s.mode == .safeStop && !s.ssFromRun)

/-- The duty that the edge logic uses for a phase (R139, R146, R153). -/
def State.edgeDuty (s : State) (a p : Nat) : Nat :=
  if (s.phase a p).uvlo || s.zeroForced then 0 else min (s.phase a p).duty (s.periodSteps (a / 4))

/-- Steps by which a gate pulse of a window of `window` steps is widened to 120 steps, `none` where it is dropped (R141).
Log entry 44 (DEDUCED). -/
def pulseChoice (extend : Bool) (window dt : Nat) : Option Nat :=
  if 120 + dt ≤ window then some 0 else if extend then some (120 + dt - window) else none

/-- Whether quad `q` extends short pulses (R141). -/
def State.extends (s : State) (q : Nat) : Bool := s.inForce (F.PWM_Q_CTL_MPMODE q) == 1

/-- The widening of the pulse of a window of `window` steps on quad `q`; a window of length 0 has none. Log entry 44 (DEDUCED). -/
def State.widening (s : State) (q window : Nat) : Nat :=
  if window = 0 then 0 else (pulseChoice (s.extends q) window (s.deadSteps q)).getD 0

/-- The step at which a phase's high-side window opens in the rising half (R139, R141): later by the later half of a present
low-side pulse's widening, earlier by the earlier half of its own, and not before a refresh pulse ends (R145).
Log entries 14 (DESIGN CHOICE), 44 (DEDUCED). -/
def State.onStep (s : State) (a p : Nat) : Nat :=
  let q := a / 4
  let x := s.phase a p
  let d := s.edgeDuty a p
  let half := s.periodSteps q / 2
  let e := half + (if x.gate == .high then 0 else (x.ext + 1) / 2) - (d + 1) / 2
    - (if d = s.periodSteps q then 0 else s.widening q d / 2)
  if x.refresh && x.bs == 0 then max e (4 * s.inForce (F.PWM_Q_BOOT_BSPW q)) else e

/-- The step at which a phase's high-side window closes in the falling half (R139, R141), a refresh pulse beginning DT and half
its width before the valley (R145). Log entries 14 (DESIGN CHOICE), 44 (DEDUCED). -/
def State.offStep (s : State) (a p : Nat) : Nat :=
  let q := a / 4
  let x := s.phase a p
  let d := s.edgeDuty a p
  let full := s.periodSteps q
  let e := full / 2 + d / 2 + (if x.gate == .low then 0 else (x.ext + 1) / 2)
    - (if d = 0 then 0 else s.widening q (full - d) / 2)
  if x.refresh then min e (full - 4 * s.inForce (F.PWM_Q_BOOT_BSPW q) - s.deadSteps q) else e

/-- Whether the carrier stands in the high-side window of a phase (R139, R145). -/
def State.inHigh (s : State) (a p : Nat) : Bool :=
  let pos := s.rd (F.PWM_Q_CNT_POS (a / 4))
  if s.bit (F.PWM_Q_CNT_DIR (a / 4)) then decide (pos < s.offStep a p / 8)
  else decide (0 < s.edgeDuty a p ∧ s.onStep a p / 8 ≤ pos)

/-- The window that the edges so far have opened for a phase: the high-side one, also where its pulse is dropped (R141). -/
def State.highSide (s : State) (a p : Nat) : Bool :=
  let x := s.phase a p
  x.dropHigh || (!x.dropLow && (x.gate == .high || x.gate == .dead true))

/-- No pulse of the phase is dropped or widened any more (R149, R154). -/
def State.undrop (s : State) (a p : Nat) : State :=
  s.setPhase a p { s.phase a p with dropHigh := false, dropLow := false, ext := 0 }

/-- Whether a gate state holds a switch on. -/
def Gate.isOn : Gate → Bool
  | .high => true
  | .low => true
  | _ => false

/-- Whether a gate state follows the windows: a switch is on, or waits for its dead time. -/
def Gate.follows : Gate → Bool
  | .allOff => false
  | .gatesLow => false
  | _ => true

/-- Phase `p` of axis `a` takes gate state `g`; a change of a gate signal is a gate edge (R194). -/
def State.setGate (s : State) (a p : Nat) (g : Gate) : State :=
  let x := s.phase a p
  if x.gate = g then s
  else
    let s1 := s.setPhase a p { x with gate := g, onAt := s.now }
    if x.gate.isOn || g.isOn then s1.gateEdge a else s1

/-- Phase `p` of axis `a` switches to its high side (`hi`) or its low side: a switch that conducts turns off now and the
other turns on DT later (R140). Log entry 44 (DEDUCED). -/
def State.turn (s : State) (a p : Nat) (hi : Bool) : State :=
  let x := s.phase a p
  let dt := s.deadSteps (a / 4)
  let on : Gate := if hi then .high else .low
  let wait (s : State) : State :=
    if dt = 0 then s.setGate a p on
    else (s.setGate a p (.dead hi)).after ((dt + 7) / 8) (deadEvent a p)
  match x.gate with
  | .high => if hi then s else wait s
  | .low => if hi then wait s else s
  | .dead b => if b == hi then s else wait s
  | .gatesLow => s.setGate a p on
  | .allOff => s.setGate a p on

/-- The three trip-state codes of axis `a` (R148). -/
def State.tripCode (s : State) (a p : Nat) : Nat :=
  if p = 0 then s.rd (F.PWM_AX_CTL_TRIPSTU a) else if p = 1 then s.rd (F.PWM_AX_CTL_TRIPSTV a)
  else s.rd (F.PWM_AX_CTL_TRIPSTW a)

/-- Whether the LS_SHORT setting of axis `a` is mixed (R148). -/
def State.lsMixed (s : State) (a : Nat) : Bool :=
  let n := ((List.range 3).filter (fun p => s.tripCode a p == 2)).length
  decide (0 < n ∧ n < 3)

/-- Phase `p` of axis `a` goes to its trip output state (R148, R149): in LS_SHORT a low side turns on DT after its high side
turned off, at once where that is past. -/
def State.tripPhase (s0 : State) (a p : Nat) : State :=
  let s := s0.undrop a p
  let c := s.tripCode a p
  if c = 2 ∧ !s.lsMixed a then
    match (s.phase a p).gate with
    | .low => s
    | .dead false => s
    | .high => s.turn a p false
    | _ => (s.setGate a p .low).cancel (deadEvent a p)
  else (s.setGate a p (if c = 1 then .allOff else .gatesLow)).cancel (deadEvent a p)

/-- Every phase of axis `a` goes to ALL_OFF (R133, R152). -/
def State.allOff (s : State) (a : Nat) : State :=
  s.upto 3 (fun p s => ((s.undrop a p).setGate a p .allOff).cancel (deadEvent a p))

/-- Whether axis `a` is in its trip states, or without its gate enable or STO (R239). -/
def State.loopHold (s : State) (a : Nat) : Bool := (s.axis a).inTrip || !s.gateEnable a

/-- FLAG.TRIPHOLD of an axis whose lane runs (R239). -/
def State.holdLook (s : State) (a : Nat) : State := if s.laneOn (a / 4) then s.leLevel a 12 (s.loopHold a) else s

/-- Every phase of axis `a` takes the state that the mode, the enables, the trip inputs and the carrier position give it; one that
follows its windows already goes on, and a pulse whose end is set runs to it (R141, R154). Log entry 45 (DEDUCED). -/
def State.drive (s0 : State) (a : Nat) : State :=
  let s := s0.holdLook a
  if !s.powered a then s.allOff a
  else if (s.axis a).inTrip || !s.carrierOn (a / 4) then s.upto 3 (fun p s => s.tripPhase a p)
  else s.upto 3 (fun p s =>
    if (s.phase a p).gate.follows && (s.highSide a p == s.inHigh a p || s.due (edgeEvent a p)) then s
    else (s.undrop a p).turn a p (s.inHigh a p))

/-- The quad's PWM interrupt. -/
def State.pwmIrq (s : State) (q : Nat) : State := s.irq (48 + q)

/-- A refused configuration write (R134, R138, R144, R148): WR_REFUSED, whose rise raises the interrupt. -/
def State.pwmRefuse (s : State) (q : Nat) : State :=
  let f := F.PWM_Q_STATUS_WR_REFUSED q
  if s.bit f then s else (s.on f).pwmIrq q

/-- A rise of a PWM_AXa_STATUS flag raises the quad's interrupt. -/
def State.pwmFlag (s : State) (a : Nat) (f : Fld) : State := if s.bit f then s else (s.on f).pwmIrq (a / 4)

/-- The integrators of axis `a` go to 0 (R240). -/
def State.intClear (s : State) (a : Nat) : State :=
  let s1 := s.setAxis a { s.axis a with xd := 0, xq := 0, xv := 0 }
  ((s1.setReg (A.LE_AX_XD a) 0).setReg (A.LE_AX_XQ a) 0).setReg (A.LE_AX_XV a) 0

/-- The integrators and the observer of axis `a` go to 0 (R235, R239). -/
def State.loopClear (s : State) (a : Nat) : State :=
  let s1 := s.intClear a
  (s1.setAxis a { s1.axis a with dob := 0 }).setReg (A.LE_AX_DOB a) 0

/-- A rising edge of the OR of the axis's trip inputs (R149): the trip states, TRIP, TRIPCNT, the trip event, the interrupt. -/
def State.tripEdge (s : State) (a : Nat) : State :=
  let s0 := if s.inForce (F.LE_AX_CTL_TRIPACT a) = 0 then s else s.loopClear a
  let s1 := (s0.setAxis a { s0.axis a with inTrip := true, lvl := true }).drive a
  let s2 := ((s1.on (F.PWM_AX_STATUS_TRIP a)).inc (F.PWM_AX_CNT_TRIPCNT a)).pwmIrq (a / 4)
  (s2.fire 30 a).fire 31 a

/-- The trip level of axis `a` looked at again: a rise is a trip, a fall waits for the next valley (R149, R150).
Log entry 3 (DESIGN CHOICE). -/
def State.tripLook (s : State) (a : Nat) : State :=
  let x := s.axis a
  let l := s.tripLevel a
  if l && !x.lvl then s.tripEdge a
  else if x.lvl && !l then s.setAxis a { x with lvl := false }
  else s

/-- The trip levels of every axis looked at again. -/
def State.tripLookAll (s : State) : State := s.upto 24 (fun a s => s.tripLook a)

/-- The outputs of every axis after a change of mode, of STO or of the enables.  An axis whose gate enable is missing stays
in its trip states until a valley after it returns (R152). -/
def State.driveAll (s : State) : State :=
  s.upto 24 (fun a s =>
    let s1 := if s.gateEnable a then s else s.setAxis a { s.axis a with inTrip := true }
    s1.drive a)

/-- The quad's carrier stops (R137): every phase of the quad to its trip output state. Log entry 132 (DEDUCED). -/
def State.carrierStop (s : State) (q : Nat) : State :=
  let s1 := s.off0 (F.PWM_Q_STATUS_RUNNING q)
  s1.upto 4 (fun k s => (s.setAxis (4 * q + k) { s.axis (4 * q + k) with inTrip := true }).drive (4 * q + k))

/-- The frame tick that leaves RUN for ARMED (R154): a high pulse younger than 120 steps runs to 120 steps and counts. -/
def State.leaveRun (s : State) : State :=
  s.upto 24 (fun a s => s.upto 3 (fun p s =>
    let x := s.phase a p
    if x.gate == .high && decide (8 * (s.now - x.onAt) < 120) && s.powered a then
      (s.inc (F.PWM_AX_CNT_MPCNT a)).after (15 - (s.now - x.onAt)) (edgeEvent a p)
    else if x.gate == .high || x.gate == .dead true then ((s.undrop a p).turn a p false).cancel (edgeEvent a p) else s))

end Sys2Proof.Machine
end

