-- ==== Sys2Proof/Machine/Cmp.lean ====
section
/-! DEFINITION. Comparators (R186-R202): crossings, latches, the flag path, clears and the writes of Zenou-S. -/
namespace Sys2Proof.Machine

/-- The quad, and the event channel and its first input, of comparator `n` (R307, R426). -/
def compEvent (n : Nat) : Nat × Nat :=
  if n < 48 then (40 + n / 8, 3 * (n % 8)) else if n < 54 then (40 + (n - 48), 24) else (46, 3 * (n - 54))

/-- The interrupt source of comparator `n` at the Zenou-A instances (R426). -/
def compSource (n : Nat) : Nat := if n < 48 then 60 + n / 8 else if n < 54 then 60 + (n - 48) else 66

/-- The source of comparator `n` at the Zenou-S controller (R553). -/
def compSourceS (n : Nat) : Nat := if n < 48 then 3 + n / 8 else if n < 54 then 3 + (n - 48) else 9

/-- The STAT bits of `bits` set; one interrupt if one rises whose IEN bit is 1. -/
def State.compFlags (s : State) (n : Nat) (bits : List Nat) : State :=
  let f (k : Nat) : Fld := ⟨A.CMP_CH_STAT n, k, 1⟩
  let hit := bits.any (fun k => !s.bit (f k) && s.bitAt (F.CMP_CH_IEN_IEN n) k)
  let s1 := bits.foldl (fun s k => s.on (f k)) s
  if hit then s1.irq (compSource n) else s1

/-- The axes whose trip inputs comparator `n` drives are looked at again. -/
def State.compLook (s : State) (n : Nat) : State :=
  if n < 48 then s.tripLook (n / 2)
  else if n < 54 then s.upto 4 (fun k s => s.tripLook (4 * (n - 48) + k))
  else s.tripLookAll

/-- The latch of comparator `n` sets (R190, R192). -/
def State.compLatch (s : State) (n : Nat) : State :=
  let s1 := s.setComp n { s.comp n with latch := true }
  let s2 := (s1.compFlags n [1]).irqS (compSourceS n)
  s2.fire (compEvent n).1 ((compEvent n).2 + 2)

/-- Whether the flag path and the sampled windows stand still (R202). -/
def State.cmpFrozen (s : State) : Bool := s.mode == .standby && s.frz F.CMP_CTL_FRZ F.CMP_CTL_FRZCORE

/-- The flag path of comparator `n` (R193): the 3-of-5 majority of the last five cycles, or a sampled window's result. -/
def State.compFlag (s : State) (n : Nat) : State :=
  if s.cmpFrozen then s
  else
    let c := s.comp n
    let hi := if s.compSampled n then c.resA else majority 3 5 c.histA
    let lo := if s.compSampled n then c.resB else majority 3 5 c.histB
    let ch := compEvent n
    let s1 := s.setComp n { c with fa := hi, fb := lo }
    let edgeHi := hi && !c.fa
    let edgeLo := lo && !c.fb
    let s2 := if edgeHi then s1.inc (F.CMP_CH_STAT_ECNT n) else s1
    let s3 := if edgeLo then s2.inc (F.CMP_CH_STAT_ECNT n) else s2
    let s4 := s3.compFlags n ((if edgeHi then [2] else []) ++ (if edgeLo then [3] else []) ++ (if hi || lo then [0] else []))
    let s5 := if hi || lo then s4 else s4.off0 (F.CMP_CH_STAT_OUT n)
    let s6 := if edgeHi then s5.fire ch.1 ch.2 else s5
    if edgeLo then s6.fire ch.1 (ch.2 + 1) else s6

/-- The trip path of comparator `n` acts on its present output: the latch, then the trip inputs. -/
def State.compAct (s : State) (n : Nat) : State :=
  let s1 := if s.compSig n && s.inForce (F.CMP_CH_CFG_CLR n) != 2 && !(s.comp n).latch then s.compLatch n else s
  s1.compLook n

/-- Both paths of comparator `n` act: the trip path at once, the flag path on the samples it has. Log entry 43 (DESIGN CHOICE). -/
def State.compEval (s : State) (n : Nat) : State := (s.compAct n).compFlag n

/-- The base cycles since the frame tick at which comparator `n`'s sampled window ends (R196). -/
def State.windowEnd (s : State) (n : Nat) : Nat := s.inForce (F.CMP_CH_CFG_SOFS n) + 60

/-- The sample of comparator `n` for the cycle that ends (R189, R193-R196), taken after the blanking gate; a sampled channel takes one
in each cycle of its window, and at the window's end the 3-of-5 majority is its output. -/
def State.compSample (s : State) (phase n : Nat) : State :=
  let c := s.comp n
  let sampled := s.compSampled n
  let a := c.above && (sampled || !c.blank)
  let b := c.below && (sampled || !c.blank)
  let x := { c with histA := (2 * c.histA + a.toNat) % 32, histB := (2 * c.histB + b.toNat) % 32 }
  if sampled then
    let e := s.windowEnd n
    if s.cmpFrozen || !(decide (phase < e ∧ e ≤ phase + 60)) then s
    else if phase + 1 < e then s.setComp n x
    else (s.setComp n { x with resA := majority 3 5 x.histA, resB := majority 3 5 x.histB, blank := false }).compEval n
  else if x.histA = c.histA ∧ x.histB = c.histB then s
  else (s.setComp n x).compEval n

/-- Whether comparator `n` has something to do in the coming cycle: samples that still change, a window, a blanking start. -/
def State.compBusy (s : State) (n : Nat) : Bool :=
  let c := s.comp n
  c.histA != (if c.above && !c.blank then 31 else 0) || c.histB != (if c.below && !c.blank then 31 else 0)
    || c.gateAt.isSome || s.compSampled n

/-- One drive-base cycle of the comparators; `phase` is TICK_PHASE in the cycle that ends. -/
def State.compCycle (s : State) (phase : Nat) : State :=
  if !s.compLive then s
  else
    (((s.comps.map (fun p => p.1)).filter s.compBusy)).foldl (fun s n =>
      let s1 := s.compSample phase n
      match (s1.comp n).gateAt with
      | some t =>
        if t ≤ s1.now then ((s1.setComp n { s1.comp n with gateAt := none }).blankStart n).compLook n else s1
      | none => s1) s

/-- A clear of comparator `n`'s latch (R191): lost, with CLRFAIL, while the trip-path signal is active. -/
def State.compClear (s : State) (n : Nat) : State :=
  if !(s.comp n).latch then s
  else if s.compSig n then s.compFlags n [4]
  else ((s.setComp n { s.comp n with latch := false }).off0 (F.CMP_CH_STAT_LATCH n)).compLook n

/-- A PERIOD clear (R190). -/
def State.compPeriod (s : State) (n : Nat) : State :=
  if s.inForce (F.CMP_CH_CFG_CLR n) = 1 then s.compClear n else s

/-- A clear by a writer (R199): in SAFE_STOP only Zenou-S clears; a refusal that meets a set latch (`set`) sets WR_REFUSED. -/
def State.compClearBy (s : State) (w : Writer) (n : Nat) (set : Bool) : State :=
  if s.mode == .safeStop && w != .coreS then (if set then s.compFlags n [8] else s) else s.compClear n

/-- A write of CMP_CHn_STAT: each flag its own rule, bit 1 a clear of the latch, also of one that CLR 2 keeps unshown (R198). -/
def State.compStatWrite (s : State) (w : Writer) (n : Nat) (v : Word) : State :=
  let s1 := s.plainWrite w (A.CMP_CH_STAT n) (setBits v 1 1 0)
  if v.getLsbD 1 then s1.compClearBy w n (s1.comp n).latch else s1

/-- A write of CMP_CLRALL. -/
def State.compClrAll (s : State) (w : Writer) (v : Word) : State :=
  if getBits v 0 8 = 0xC1 then s.upto 58 (fun n s => s.compClearBy w n (s.bit (F.CMP_CH_STAT_LATCH n))) else s

/-- A write of CMP_CHn_THR by Zenou-S (R188, R198). -/
def State.compThrWrite (s : State) (n : Nat) (v : Word) : State :=
  let a := A.CMP_CH_THR n
  if getBits v 16 10 < getBits v 0 10 then s.setHeld a (rowWrite true (fieldsAt a) (s.reg a) v)
  else s.compFlags n [5]

/-- A write of CMP_CHn_CFG by Zenou-S (R190, R194, R196, R198): a reserved code and a BSRC that the channel does not have
keep their fields and set CFG_ERR; SAMP is an EXT field. Log entry 129 (DEDUCED). -/
def State.compCfgWrite (s : State) (n : Nat) (v : Word) : State :=
  let a := A.CMP_CH_CFG n
  let old := s.reg a
  let badClr := getBits v 3 2 == 3
  let badBlk := decide (375 < getBits v 13 9)
  let badSrc := decide (54 ≤ n) && getBits v 5 3 != 0
  let v1 := if badClr then setBits v 3 2 (getBits old 3 2) else v
  let v2 := if badBlk then setBits v1 13 9 (getBits old 13 9) else v1
  let v3 := if badSrc then setBits v2 5 4 (getBits old 5 4) else v2
  let v4 := if n < 54 then setBits v3 22 1 0 else v3
  let s1 := s.setHeld a (rowWrite true (fieldsAt a) old v4)
  if badClr || badBlk || badSrc then s1.compFlags n [7] else s1

/-- A write of CMP_EXTm_ROUTE by Zenou-S. -/
def State.compRouteWrite (s : State) (m : Nat) (v : Word) : State :=
  let a := A.CMP_EXT_ROUTE m
  s.setHeld a (rowWrite true (fieldsAt a) (s.reg a) v)

/-- Whether comparator `n`'s sampled window does not fit in the frame in force (R197). -/
def State.sofsErr (s : State) (n : Nat) : Bool :=
  decide (54 ≤ n) && s.inForce (F.CMP_CH_CFG_SAMP n) != 0
    && decide (s.inForce F.TICK_FRAME_COUNTS < s.inForce (F.CMP_CH_CFG_SOFS n) + 60)

/-- STAT.LATCH shows the latch of comparator `n` (R190, R198); a rise is signalled as any (R192). -/
def State.compShow (s : State) (n : Nat) : State :=
  if (s.comp n).latch && s.inForce (F.CMP_CH_CFG_CLR n) != 2 then
    if s.bit (F.CMP_CH_STAT_LATCH n) then s else s.compLatch n
  else s.off0 (F.CMP_CH_STAT_LATCH n)

/-- The thresholds that a frame tick brings into force move (R186, R198): an input inside the old window lies above a window that moves
below it, and below one that moves above it.  Where the old output does not say where the input lies against the new thresholds,
its next crossing does. Log entries 43 (DESIGN CHOICE), 127 (DESIGN CHOICE). -/
def State.compMove (s : State) : State :=
  s.upto 58 (fun n s =>
    let c := s.comp n
    match s.takesNow (A.CMP_CH_THR n) with
    | none => s
    | some w =>
      let hi := F.CMP_CH_THR_HI n
      let lo := F.CMP_CH_THR_LO n
      if c.above || c.below then s
      else if getBits w hi.lo hi.w < s.inForce lo then s.setComp n { c with above := true, resA := true }
      else if s.inForce hi < getBits w lo.lo lo.w then s.setComp n { c with below := true, resB := true }
      else s)

/-- The comparators at a frame tick: new settings in force, the shown latches, SOFS_ERR, PERIOD clears of EXT channels
(R190, R197, R198). -/
def State.compTick (s : State) : State :=
  s.upto 58 (fun n s =>
    let s1 := s.compShow n
    let s2 := if s.sofsErr n then s1.compFlags n [6] else s1.off0 (F.CMP_CH_STAT_SOFS_ERR n)
    let s3 := if 54 ≤ n then s2.compPeriod n else s2
    s3.compEval n)

/-- Whether a latched trip of a comparator with a TRIPEN bit blocks ARMED (R192). -/
def State.latchBlocks (s : State) : Bool :=
  (List.range 58).any (fun n => s.bit (F.CMP_CH_STAT_LATCH n) && s.compTripen n)

/-- Every latch, flag and blanking window cleared, as after a wake (R202). -/
def State.compReset (s : State) : State :=
  s.upto 58 (fun n s => { s with comps := Tab.del s.comps n, regs := Tab.del s.regs (A.CMP_CH_STAT n) })

/-- Whether comparator `n` is powered and its output can change: a sampled EXT channel only in its window (R196, R201). -/
def State.compPowered (s : State) (n : Nat) : Bool :=
  let ph := s.rd F.TICK_PHASE_PHASE
  s.compLive && (!s.compSampled n || decide (ph < s.windowEnd n ∧ s.windowEnd n ≤ ph + 60))

/-- CMP_CROSSING (R186, R189): the output of comparator `n` becomes `above`, `below` or neither.  HI is above LO (R188), so both at
once cannot come about.  The trip path acts at once with MAJ = 0, the majorities on the samples of the cycles from here.
Log entries 43 (DESIGN CHOICE), 127 (DESIGN CHOICE). -/
def execCmpCrossing (n : Fin 58) (above below : Bool) (s : State) : Result :=
  if !s.compPowered n || (above && below) then ok s
  else if s.compSampled n then ok (s.setComp n { s.comp n with above, below })
  else ok ((s.setComp n { s.comp n with above, below, resA := above, resB := below }).compEval n)

/-- CMP_BLANKING_END (R194, R195). -/
def execCmpBlankingEnd (n : Fin 58) (s : State) : Result :=
  if (s.comp n).blank then
    ok (((s.setComp n { s.comp n with blank := false }).cancel (.cmpBlankingEnd n)).compEval n)
  else ok s

/-- Whether the sampled window of EXT comparator `m` ends in this cycle (R196): 60 counts after it opened. -/
def State.windowEnds (s : State) (m : Nat) : Bool :=
  s.windowEnd (54 + m) % max 1 (s.inForce F.TICK_FRAME_COUNTS) == s.rd F.TICK_PHASE_PHASE

/-- CMP_SAMPLE_WINDOW (R196): the window of EXT comparator `m` ends with this majority, the one of its own samples where the outside
brings none; what a channel outputs before its first window the spec leaves open: the model keeps the last output.
Log entries 43 (DESIGN CHOICE), 145 (DESIGN CHOICE). -/
def execCmpSampleWindow (m : Fin 4) (above below : Bool) (s : State) : Result :=
  let n := 54 + m.val
  if !s.compSampled n || !s.compLive || (above && below) || !s.windowEnds m || s.cmpFrozen then ok s
  else ok ((s.setComp n { s.comp n with above, below, resA := above, resB := below, blank := false }).compEval n)

end Sys2Proof.Machine
end

