-- ==== Sys2Proof/Machine/Pwm.lean ====
section
/-! DEFINITION. PWM (R131-R159): carriers, duty loads, window edges, bootstrap refresh, and the register writes of the block. -/
namespace Sys2Proof.Machine

/-! ### Update points and the carrier -/

/-- The staged duty of a phase. -/
def State.staged (s : State) (a p : Nat) : Nat :=
  if p = 0 then s.rd (F.PWM_AX_DUTYU_D a) else if p = 1 then s.rd (F.PWM_AX_DUTYV_D a) else s.rd (F.PWM_AX_DUTYW_D a)

/-- The duty that an update point of this base cycle loads: not one that software writes in the same cycle (R143). -/
def State.stagedBefore (s : State) (a p : Nat) : Nat :=
  if s.sameAs (s.phase a p).stgAt then (s.phase a p).stgOld else s.staged a p

/-- Whether axis `a` was armed in an earlier cycle, or by its lane, which writes in time for its own cycle (R143, R166). -/
def State.armedBefore (s : State) (a : Nat) : Bool :=
  s.bit (F.PWM_AX_STATUS_ARM a) && (!s.sameAs (s.axis a).armAt || (s.axis a).armOld)

/-- An update point of quad `q` (R142, R143): every axis armed before copies its three duties; what software writes in the same
cycle stays staged, and armed, for the next. -/
def State.dutyLoad (s : State) (q : Nat) : State :=
  s.upto 4 (fun k s =>
    let a := 4 * q + k
    if s.armedBefore a then
      let s1 := s.upto 3 (fun p s => s.setPhase a p { s.phase a p with duty := s.stagedBefore a p })
      if s.sameAs (s.axis a).armAt then s1.setAxis a { s1.axis a with armOld := false }
      else (s1.off0 (F.PWM_AX_STATUS_ARM a)).setAxis a { s1.axis a with armAt := none, armOld := false }
    else s)

/-- The three duties of axis `a` written by its lane in one cycle, arming the axis (R143, R144). -/
def State.armDuties (s : State) (a u v w : Nat) : State :=
  let s1 := ((s.wr (F.PWM_AX_DUTYU_D a) u).wr (F.PWM_AX_DUTYV_D a) v).wr (F.PWM_AX_DUTYW_D a) w
  let s2 := if s.bit (F.PWM_AX_STATUS_ARM a) then s1.pwmFlag a (F.PWM_AX_STATUS_OVWR a) else s1
  (s2.on (F.PWM_AX_STATUS_ARM a)).setAxis a { s2.axis a with armAt := none, armOld := false }

/-- Base cycles of the low-side gate pulse in which a valley finds a phase: since its gate turned on, and to its next edge. -/
def State.lowPulse (s : State) (a p : Nat) : Nat :=
  if (s.phase a p).gate != .low then 0
  else s.now - (s.phase a p).onAt + (if s.edgeDuty a p = 0 then s.periodSteps (a / 4) else s.onStep a p) / 8

/-- What the low-side pulse at a valley does for the bootstrap supply of a phase (R145, R146): one of BSPW counts starts the count
of periods again, one of 150 counts the hold time. -/
def State.bootValley (s : State) (a p : Nat) : State :=
  let x := s.phase a p
  let n := s.lowPulse a p
  let x1 := if s.inForce (F.PWM_Q_BOOT_BSPW (a / 4)) ≤ n then { x with bs := 0 } else x
  s.setPhase a p (if 150 ≤ n then { x1 with lowAt := some s.now } else x1)

/-- The count of carrier periods of a phase at a peak (R145): BSMAX of them, the last ending around the next valley, ask for a
refresh pulse there; the pulse of the valley before is over. Log entry 44 (DEDUCED). -/
def State.bootPeak (s : State) (a p : Nat) : State :=
  let q := a / 4
  let x := s.phase a p
  let x1 := if x.bs = 0 then { x with refresh := false } else x
  if s.inForce (F.PWM_Q_CTL_BSMODE q) = 0 then s.setPhase a p x1
  else
    let s1 := s.setPhase a p { x1 with bs := x.bs + 1 }
    if s.inForce (F.PWM_Q_BOOT_BSMAX q) ≤ x.bs + 1 ∧ !x1.refresh then
      s1.after 0 (.bootstrapRefresh (Fin.ofNat 24 a) (Fin.ofNat 3 p))
    else s1

/-- The lockout of a phase releases at a valley once its low side has conducted for 3 µs (R146), the longest that a supply takes
from empty.  When it counts as recovered within them the spec leaves open. Log entry 139 (DESIGN CHOICE). -/
def State.uvloRelease (s : State) (a p : Nat) : State :=
  let x := s.phase a p
  if x.uvlo && x.gate == .low && decide (x.onAt + us 3 ≤ s.now) then s.setPhase a p { x with uvlo := false } else s

/-- What a valley does for axis `a` after the blanking, the latch clears and the duty load (R134, R145, R146, R150). -/
def State.axisValley (s : State) (a : Nat) : State :=
  let s1 := s.upto 3 (fun p s => (s.bootValley a p).uvloRelease a p)
  let oen := s1.bit (F.PWM_AX_CTL_OEN a)
  let x := s1.axis a
  let x1 := { x with oenEff := oen }
  if x1.inTrip && !s1.tripLevel a && s1.gateEnable a then (s1.setAxis a { x1 with inTrip := false }).drive a
  else if oen && !x.oenEff then (s1.setAxis a x1).drive a
  else s1.setAxis a x1

/-- Whether updates happen at valleys (`0`) or at peaks (`1`) of quad `q` (R142). -/
def State.updAt (s : State) (q point : Nat) : Bool :=
  let u := s.inForce (F.PWM_Q_CTL_UPD q)
  u == 2 || u == point

/-! ### Edges -/

/-- Whether window edges of axis `a` act (R140, R148): not in its trip states, unpowered or with the carrier stopped. -/
def State.edgesAct (s : State) (a : Nat) : Bool := s.powered a && !(s.axis a).inTrip && s.carrierOn (a / 4)

/-- A gate pulse at its first edge, widened by `e` steps (R141). -/
def State.pulseStart (s : State) (a p e : Nat) : State :=
  let s1 := s.setPhase a p { s.phase a p with dropHigh := false, dropLow := false, ext := e }
  if e = 0 then s1 else s1.inc (F.PWM_AX_CNT_MPCNT a)

/-- The high-side window of a phase opens (R139-R141): the end of a dropped low-side window has no edge; a high-side pulse too
short is dropped or widened, as MPMODE says, and counts. Log entry 44 (DEDUCED). -/
def State.openHigh (s : State) (a p : Nat) : State :=
  let x := s.phase a p
  if x.dropLow then s.setPhase a p { x with dropLow := false }
  else match pulseChoice (s.extends (a / 4)) (s.edgeDuty a p) (s.deadSteps (a / 4)) with
    | none => (s.setPhase a p { x with dropHigh := true, ext := 0 }).inc (F.PWM_AX_CNT_MPCNT a)
    | some e => (s.pulseStart a p e).turn a p true

/-- The low-side window of a phase opens, as `openHigh`; a refresh pulse is always produced (R145). Log entry 44 (DEDUCED). -/
def State.openLow (s : State) (a p : Nat) : State :=
  let q := a / 4
  let x := s.phase a p
  if x.dropHigh then s.setPhase a p { x with dropHigh := false }
  else if x.refresh then (s.pulseStart a p 0).turn a p false
  else match pulseChoice (s.extends q) (s.periodSteps q - s.edgeDuty a p) (s.deadSteps q) with
    | none => (s.setPhase a p { x with dropLow := true, ext := 0 }).inc (F.PWM_AX_CNT_MPCNT a)
    | some e => (s.pulseStart a p e).turn a p false

/-- PWM_WINDOW_EDGE (R139-R141, R151): the edge of the half in which the carrier is; duty 0 keeps the low side on and full duty,
but for a refresh pulse, the high side. Log entry 14 (DESIGN CHOICE). -/
def State.windowEdge (s : State) (a p : Nat) : State :=
  let dir := s.bit (F.PWM_Q_CNT_DIR (a / 4))
  if !s.edgesAct a then s
  else if s.edgeDuty a p = 0 then (s.undrop a p).turn a p false
  else if s.edgeDuty a p = s.periodSteps (a / 4) ∧ !(dir && (s.phase a p).refresh) then (s.undrop a p).turn a p true
  else if dir then s.openLow a p
  else s.openHigh a p

/-- The first base cycle in which a gate pulse of a phase may end: 120 steps after its gate turned on, or will turn on (R141). -/
def State.pulseEnd (s : State) (a p : Nat) : Nat :=
  let x := s.phase a p
  match x.gate with
  | .dead _ => x.onAt + (s.deadSteps (a / 4) + 7) / 8 + 15
  | g => if g.isOn then x.onAt + 15 else s.now

/-- The window edge of a phase is due, and not before its pulse may end (R141). -/
def State.edgeDue (s : State) (a p : Nat) : State := s.after (s.pulseEnd a p - s.now) (edgeEvent a p)

/-- The edge of a phase comes due in the base cycle in which the carrier reaches it, where its window is not open already
(R139, R141). Log entry 14 (DESIGN CHOICE). -/
def State.edgeLook (s : State) (a p : Nat) : State :=
  let dir := s.bit (F.PWM_Q_CNT_DIR (a / 4))
  if !s.edgesAct a || s.highSide a p != dir || s.due (edgeEvent a p) then s
  else if (if dir then s.offStep a p else s.onStep a p) / 8 = s.rd (F.PWM_Q_CNT_POS (a / 4)) then s.edgeDue a p
  else s

/-- The windows of a phase at a valley or a peak, where duties load (R139): a window that the duty now in force opens there or has
opened before begins at once. Log entry 44 (DEDUCED). -/
def State.edgeTurn (s : State) (a p : Nat) : State :=
  let dir := s.bit (F.PWM_Q_CNT_DIR (a / 4))
  let want := s.inHigh a p
  if !s.edgesAct a || s.highSide a p == want then s
  else if want == dir then (if want then s.openHigh a p else s.openLow a p)
  else s.edgeDue a p

/-- The windows of every phase of quad `q` at a valley or a peak. -/
def State.edgeTurns (s : State) (q : Nat) : State := s.upto 12 (fun k s => s.edgeTurn (4 * q + k / 3) (k % 3))

/-- CARRIER_VALLEY (R134, R136, R142, R145, R146, R150, R190, R194), of a running carrier. -/
def execCarrierValley (q : Fin 6) (s : State) : Result :=
  let s := s.cancel (.carrierValley q)
  let q := q.val
  if !s.carrierOn q then ok s
  else
    let s1 := (s.wr (F.PWM_Q_CNT_POS q) 0).wr (F.PWM_Q_CNT_DIR q) 0
    let s2 := s1.blankCarrier q 0
    let s3 := (quadComps q).foldl (fun s n => s.compPeriod n) s2
    let s4 := s3.fire (24 + q) 0
    let s5 := if s4.updAt q 0 then s4.dutyLoad q else s4
    ok ((s5.upto 4 (fun k s => s.axisValley (4 * q + k))).edgeTurns q)

/-- CARRIER_PEAK (R136, R142, R145, R194). -/
def execCarrierPeak (q : Fin 6) (s : State) : Result :=
  let s := s.cancel (.carrierPeak q)
  let q := q.val
  if !s.carrierOn q then ok s
  else
    let s1 := (s.wr (F.PWM_Q_CNT_POS q) (s.inForce (F.PWM_Q_PERIOD_PEAK q))).wr (F.PWM_Q_CNT_DIR q) 1
    let s2 := (s1.blankCarrier q 1).fire (24 + q) 1
    let s3 := if s2.updAt q 1 then s2.dutyLoad q else s2
    ok ((s3.upto 12 (fun k s => s.bootPeak (4 * q + k / 3) (k % 3))).edgeTurns q)

/-- PWM_WINDOW_EDGE. -/
def execPwmWindowEdge (a : Fin 24) (ph : Fin 3) (s : State) : Result :=
  ok ((s.cancel (.pwmWindowEdge a ph)).windowEdge a ph)

/-- PWM_DEAD_TIME_END (R140): the switch that waited turns on. -/
def execPwmDeadTimeEnd (a : Fin 24) (ph : Fin 3) (s : State) : Result :=
  let s1 := s.cancel (.pwmDeadTimeEnd a ph)
  match (s.phase a ph).gate with
  | .dead hi => ok (s1.setGate a ph (if hi then .high else .low))
  | _ => ok s1

/-- BOOTSTRAP_REFRESH (R145). -/
def execBootstrapRefresh (a : Fin 24) (ph : Fin 3) (s : State) : Result :=
  let q := a.val / 4
  let s1 := s.cancel (.bootstrapRefresh a ph)
  let x := s.phase a ph
  if s.inForce (F.PWM_Q_CTL_BSMODE q) = 1 ∧ s.inForce (F.PWM_Q_BOOT_BSMAX q) ≤ x.bs ∧ !x.refresh ∧ s.carrierOn q then
    ok ((s1.setPhase a ph { x with refresh := true }).inc (F.PWM_AX_CNT_BSCNT a))
  else ok s1

/-- The UVLO bit of a phase in PWM_AXa_STATUS. -/
def uvloFld (a p : Nat) : Fld := ⟨A.PWM_AX_STATUS a, 6 + p, 1⟩

/-- Whether the bootstrap supply of a phase can fall below the lockout level (R146): not within 20 ms of a low-side pulse of 150
counts, and not from high-side conduction while a refresh of at least 150 counts works. -/
def State.lockoutMay (s : State) (a p : Nat) : Bool :=
  let q := a / 4
  let held : Bool := match (s.phase a p).lowAt with
    | none => false
    | some t => decide (s.now < t + ms 20)
  !held && !(s.edgesAct a && s.inForce (F.PWM_Q_CTL_BSMODE q) == 1 && decide (150 ≤ s.inForce (F.PWM_Q_BOOT_BSPW q)))

/-- BOOTSTRAP_UVLO (R146): the high side of the phase stays off, UVLO sets and the interrupt is raised; no supply is that low
where R146 says that none can be. -/
def execBootstrapUvlo (a : Fin 24) (ph : Fin 3) (s : State) : Result :=
  if !s.lockoutMay a ph then ok s
  else
    let s1 := s.setPhase a ph { s.phase a ph with uvlo := true }
    let s2 := match (s1.phase a ph).gate with
      | .high => (s1.undrop a ph).turn a ph false
      | .dead true => (s1.undrop a ph).turn a ph false
      | _ => s1
    ok ((s2.on (uvloFld a ph)).pwmIrq (a.val / 4))

/-- AXIS_TRIP (R147, R149): trip input `inp` of axis `a` rises: 0 the U comparator, 1 V, 2 the bus comparator of its quad, 3
an EXT comparator routed to it, 4 its software trip bit; 5 any other rise of the inputs' OR.  A comparator input stands for
its latch or signal, so the trip counts when the OR is in fact active; a rise while it was active is no new edge (R151). -/
def execAxisTrip (a : Fin 24) (inp : Fin 6) (s : State) : Result :=
  let s1 := if inp.val = 4 then s.setBitAt (F.PWM_Q_SWTRIP_TRIP (a.val / 4)) (a.val % 4) true else s
  ok (s1.tripLook a)

/-! ### Register writes -/

/-- Whether an update point of quad `q` falls in this base cycle and has not been taken yet (R143). -/
def State.updateNow (s : State) (q : Nat) : Bool :=
  s.alarms.any (fun p => decide (p.1 ≤ s.now)
    && ((s.updAt q 0 && p.2 == .carrierValley (Fin.ofNat 6 q)) || (s.updAt q 1 && p.2 == .carrierPeak (Fin.ofNat 6 q))))

/-- Software stages the duty `d` of a phase (R142, R143): the W duty arms the axis, and one that replaces a pending set sets OVWR,
but not in the cycle of an update point, which loads the set before. -/
def State.dutyStage (s : State) (a p d : Nat) : State :=
  let x := s.phase a p
  let s0 := if s.sameAs x.stgAt then s
    else s.setPhase a p { x with stgOld := s.staged a p, stgAt := some s.instant }
  if p = 0 then s0.wr (F.PWM_AX_DUTYU_D a) d
  else if p = 1 then s0.wr (F.PWM_AX_DUTYV_D a) d
  else
    let arm := s0.bit (F.PWM_AX_STATUS_ARM a)
    let s1 := s0.wr (F.PWM_AX_DUTYW_D a) d
    let s2 := if arm && !s0.updateNow (a / 4) then s1.pwmFlag a (F.PWM_AX_STATUS_OVWR a) else s1
    (s2.on (F.PWM_AX_STATUS_ARM a)).setAxis a
      { s2.axis a with armAt := some s.instant, armOld := s0.armedBefore a }

/-- A write of a DUTY register by software (R142-R144, R153); one of the value held sets no flag (R19). -/
def State.dutyWrite (s : State) (a p : Nat) (v : Word) : State :=
  if s.modeIn [.boot, .shutdown] then s
  else if s.mode == .safeStop || s.inForce (F.PWM_AX_CTL_DSRC a) = 0 then
    if getBits v 0 20 = s.staged a p then s else s.pwmFlag a (F.PWM_AX_STATUS_WR_OWNED a)
  else s.dutyStage a p (getBits v 0 20)

/-- A write of OEN (R134). -/
def State.oenWrite (s : State) (a : Nat) (v : Bool) : State :=
  if s.bit (F.PWM_AX_CTL_OEN a) = v then s
  else if s.modeIn [.standby, .armed, .run] || (s.mode == .safeStop && !v) then
    let s1 := s.wrb (F.PWM_AX_CTL_OEN a) v
    if v then s1 else (s1.setAxis a { s1.axis a with oenEff := false }).drive a
  else s.pwmRefuse (a / 4)

/-- A write of DSRC (R144): in force from the next frame tick. -/
def State.dsrcWrite (s : State) (a : Nat) (v : Bool) : State :=
  if s.bit (F.PWM_AX_CTL_DSRC a) = v then s
  else if s.modeIn [.standby, .armed] then
    s.setHeld (A.PWM_AX_CTL a) (setBits (s.reg (A.PWM_AX_CTL a)) 1 1 (if v then 1 else 0))
  else s.pwmRefuse (a / 4)

/-- A write of the three trip-state fields (R148), `codes` holding U in bits 1:0, V in 3:2, W in 5:4. -/
def State.tripstWrite (s : State) (a codes : Nat) : State :=
  let old := getBits (s.reg (A.PWM_AX_CTL a)) 2 6
  if old = codes then s
  else if s.modeIn [.standby, .armed] then
    let one (p : Nat) : Nat := if codes / 4 ^ p % 4 = 3 then old / 4 ^ p % 4 else codes / 4 ^ p % 4
    let bad := (List.range 3).any (fun p => codes / 4 ^ p % 4 == 3)
    let s1 := s.wr ⟨A.PWM_AX_CTL a, 2, 6⟩ (one 0 + 4 * one 1 + 16 * one 2)
    let s2 := if bad then s1.pwmFlag a (F.PWM_AX_STATUS_CFG_ERR a) else s1
    let s3 := if s2.lsMixed a then s2.pwmFlag a (F.PWM_AX_STATUS_LS_ERR a) else s2.off0 (F.PWM_AX_STATUS_LS_ERR a)
    if (s3.axis a).inTrip then s3.drive a else s3
  else s.pwmRefuse (a / 4)

/-- A write of PWM_AXa_CTL: each field under its own rule (R19). Log entry 11 (DEDUCED). -/
def State.axCtlWrite (s : State) (a : Nat) (v : Word) : State :=
  ((s.oenWrite a (v.getLsbD 0)).dsrcWrite a (v.getLsbD 1)).tripstWrite a (getBits v 2 6)

/-- A write of PWM_Qq_CTL, PERIOD, PHASE, DT or BOOT (R138): STANDBY only, in force from the next frame tick; a value outside
its range keeps its field and sets WR_REFUSED. Log entry 11 (DEDUCED). -/
def State.quadCfgWrite (s : State) (q addr : Nat) (v : Word) : State :=
  let fs := fieldsAt addr
  let nw := rowWrite false fs (s.reg addr) v
  if s.mode == .standby then
    let s1 := s.setHeld addr nw
    if rowInRange fs v then s1 else s1.pwmRefuse q
  else if nw = s.reg addr && rowInRange fs v then s else s.pwmRefuse q

/-- A write of PWM_Qq_SWTRIP (R147). -/
def State.swtripWrite (s : State) (q : Nat) (v : Word) : State :=
  let s1 := s.wr (F.PWM_Q_SWTRIP_TRIP q) (getBits v 0 4)
  s1.upto 4 (fun k s => s.tripLook (4 * q + k))

/-- The software trip bit of axis `a` set by the hardware (R237, R344). -/
def State.swtripSet (s : State) (a : Nat) : State :=
  (s.setBitAt (F.PWM_Q_SWTRIP_TRIP (a / 4)) (a % 4) true).tripLook a

/-- A write of SAF_GATEEN by Zenou-S (R133, R152): an axis that loses its bit goes to ALL_OFF; in SAFE_STOP no bit is set, which
would enable an output (R34). Log entry 137 (DEDUCED). -/
def State.gateenWrite (s : State) (v : Word) : State :=
  let en := getBits v 0 24
  (s.wr F.SAF_GATEEN_EN (if s.mode == .safeStop then en &&& s.rd F.SAF_GATEEN_EN else en)).driveAll

/-- Whether quad `q` passes the ratio check with the written values (R103): the frame is N carrier periods, 1 ≤ N ≤ 64. -/
def State.ratioOk (s : State) (q : Nat) : Bool :=
  let p := 2 * s.rd (F.PWM_Q_PERIOD_PEAK q)
  let c := s.rd F.TICK_FRAME_COUNTS
  decide (0 < p) && c % p == 0 && decide (1 ≤ c / p ∧ c / p ≤ 64)

/-- A quad flag set or cleared by the tick checks; its rise raises the PWM interrupt. -/
def State.quadCheck (s : State) (q : Nat) (f : Fld) (bad : Bool) : State :=
  if bad then (if s.bit f then s else (s.on f).pwmIrq q) else s.off0 f

/-- Whether the carriers stand still for the monitor (R155). -/
def State.carriersFrozen (s : State) : Bool := s.mode == .standby && s.frz F.PWM_CTL_FRZ F.PWM_CTL_FRZCORE

/-- The carrier of quad `q` at a frame tick (R103, R136-R138): the checks with the values in force from here, start or stop,
and the position OFS, which a carrier that stands still for the monitor (R155) does not take; in BOOT the carriers stay
stopped (R153). Log entry 132 (DEDUCED). -/
def State.carrierTick (s : State) (q : Nat) : State :=
  let peak := s.rd (F.PWM_Q_PERIOD_PEAK q)
  let ofs := s.rd (F.PWM_Q_PHASE_OFS q)
  let en := s.bit (F.PWM_Q_CTL_EN q)
  let ratio := s.ratioOk q
  let s1 := s.quadCheck q (F.PWM_Q_STATUS_RATIO q) (en && !ratio)
  let s2 := s1.setBitAt F.TICK_STATUS_RATIO_ERR q (en && !ratio)
  let s3 := s2.quadCheck q (F.PWM_Q_STATUS_OFS_ERR q) (decide (2 * peak ≤ ofs))
  if en && ratio && decide (ofs < 2 * peak) && s3.bit F.SYS_READY_TICK && !s3.modeIn [.off, .dormant, .boot] then
    if s3.carrierOn q && s3.carriersFrozen then s3
    else ((s3.on (F.PWM_Q_STATUS_RUNNING q)).wr (F.PWM_Q_CNT_POS q) ofs).wrb (F.PWM_Q_CNT_DIR q) (decide (peak ≤ ofs))
  else if s3.carrierOn q then s3.carrierStop q
  else s3

end Sys2Proof.Machine
end

