-- ==== Sys2Proof/Machine/Lane.lean ====
section
/-! DEFINITION. Caldera lanes (R205-R242) and tables (R246-R257): the current pass, the outer stage, the stop ramp, starting and
stopping a lane, the bank swap and the taking of set-points at a frame tick. -/
namespace Sys2Proof.Machine

/-- The working state of lane `q`. -/
def State.lane (s : State) (q : Nat) : Lane := Tab.get Lane.init s.lanes q

/-- `s` with lane `q` replaced. -/
def State.setLane (s : State) (q : Nat) (x : Lane) : State := { s with lanes := Tab.set Lane.init s.lanes q x }

/-- The flags of the list `l` set. -/
def State.leFlags (s : State) (a : Nat) (l : List Nat) : State := l.foldl (fun s k => s.leFlag a k) s

/-- A read-only result register shows the signed value `v`. -/
def State.show (s : State) (addr : Nat) (v : Int) : State := s.setReg addr (wordOf v)

/-- Whether lane `q` is frozen (R242). -/
def State.laneFrozen (s : State) : Bool := s.mode == .standby && s.frz F.LE_CTL_FRZ F.LE_CTL_FRZCORE

/-- Whether the lane computes duties for axis `a` (R144, R205, R210). -/
def State.laneDrives (s : State) (a : Nat) : Bool := s.leMode a != 0 && s.inForce (F.PWM_AX_CTL_DSRC a) == 0

/-- Whether integrators run (R240). -/
def State.integrates (s : State) : Bool := s.modeIn [.run, .safeStop]

/-- A lane overrun of quad `q` with cause bit `k` (R234): OVR, its cause, the count, the events, the interrupt.
Log entry 51 (DEDUCED). -/
def State.laneOverrun (s : State) (q k : Nat) : State :=
  let s1 := ((s.on (F.LE_Q_STATUS_OVR q)).on ⟨A.LE_Q_STATUS q, k, 1⟩).inc (F.LE_Q_OVRCNT_COUNT q)
  ((s1.leIrq q).fire (48 + q) 1).fire 4 q

/-! ### Tables -/

/-- The base of page `pg` (0, 1) of axis `a`'s cogging or friction table (R246). -/
def tablePage (a : Nat) (friction : Bool) (pg : Nat) : Nat :=
  0x09000000 + 0x8000 * a + (if friction then 0x4000 + 0x1000 * pg else 0x2000 * pg)

/-- Whether a page is TRAINED (R252). -/
def State.trained (s : State) (a : Nat) (friction : Bool) (pg : Nat) : Bool :=
  s.bit ⟨A.LE_AX_TBLSTAT a, (if friction then 2 else 0) + pg, 1⟩

/-- The active page of a table of axis `a` (R250). -/
def State.activePage (s : State) (a : Nat) (friction : Bool) : Nat :=
  if friction then s.par a F.LE_AX_TBLSEL_FRPG else s.par a F.LE_AX_TBLSEL_COGPG

/-- The lane's read of entry `k` (R249): 0 where the code cannot correct it. -/
def State.entry (s : State) (a : Nat) (friction : Bool) (k : Nat) : Int × State :=
  let at_ := tablePage a friction (s.activePage a friction) + 6 * k
  let (bad, s1) := s.eccRead at_ 6
  (if bad then 0 else signed48 (s1.load at_ 6), s1)

/-- The cogging term at position `p` (R254). -/
def State.cogging (s : State) (a : Nat) (p : Int) : Int × Bool × State :=
  let u := (p + s.par a F.LE_AX_COGOFS_OFS) % (2 ^ 24 : Nat)
  let i := u.toNat / 2 ^ 14
  let w : Nat := u.toNat % 2 ^ 14
  let (t0, s1) := s.entry a false i
  let (t1, s2) := s1.entry a false ((i + 1) % 1024)
  let (c, sat) := (do
    let d ← Ar.add t1 (-t0)
    let m ← Ar.mul d (Int.ofNat w) 14
    Ar.add t0 m : Ar Int) false
  (c, sat, s2)

/-- Whether the lane applies a page (R253, R258): TRAINED, and not by a seal of this base cycle. -/
def State.pageApplies (s : State) (a : Nat) (friction : Bool) : Bool :=
  let pg := s.activePage a friction
  s.trained a friction pg && !s.sameAs (Tab.find s.tblSeal (4 * a + (if friction then 2 else 0) + pg))

/-- The friction coordinate x at position `p`, F24, as FRWRAP maps it (R256): with whether it lay outside the span, and whether the
product saturated.  WRAP repeats over the whole position range. -/
def State.frictionX (s : State) (a : Nat) (p : Int) : Int × Bool × Bool :=
  let d := wrap48 (p - s.parS a F.LE_AX_FRSTART_P)
  let k := s.parS a F.LE_AX_FRINV_K
  let top : Int := 511 * 2 ^ 24
  if s.par a F.LE_AX_TBLSEL_FRWRAP = 1 then (rshift (d * k) 24 % (512 * 2 ^ 24 : Nat), false, false)
  else
    let (x, sat) := Ar.mul d k 24 false
    (if x < 0 then 0 else if x > top then top else x, decide (x < 0) || decide (x > top), sat)

/-- The friction magnitude at table coordinate `x` (R256). -/
def State.frictionMag (s : State) (a : Nat) (x : Int) (sat0 : Bool) : Int × Bool × State :=
  let j := x.toNat / 2 ^ 24
  let f : Nat := x.toNat % 2 ^ 24
  let (t0, s1) := s.entry a true j
  let (t1, s2) := if j = 511 ∧ s.par a F.LE_AX_TBLSEL_FRWRAP = 0 then (t0, s1) else s1.entry a true ((j + 1) % 512)
  let (v, sat) := (do
    let d ← Ar.add t1 (-t0)
    let m ← Ar.mul d (Int.ofNat f) 24
    Ar.add t0 m : Ar Int) sat0
  if v < 0 then (0, sat, s2.tblFlag a 9) else (v, sat, s2)

/-- The friction term at position `p` and velocity reference `vref` (R253, R256, R257); `act` where R236 lets it act. -/
def State.friction (s : State) (a : Nat) (p vref : Int) (act : Bool) : Int × Bool × State :=
  let (x, out, sat0) := s.frictionX a p
  let s0 := if out then s.tblFlag a 8 else s
  if !act || !s0.pageApplies a true then (0, sat0, s0)
  else
    let (mag, sat, s1) := s0.frictionMag a x sat0
    let band := s.par a F.LE_AX_FRBAND_V
    let one : Int := 2 ^ 24
    let sg : Int := if band = 0 then (if vref > 0 then one else if vref < 0 then -one else 0)
      else clampI one (rdiv (vref * 2 ^ 24) band)
    let (v, sat1) := Ar.mul mag sg 24 sat
    (v, sat1, s1)

/-! ### References and limits -/

/-- The axis's current limit ILIMA (R217). -/
def State.ilima (s : State) (a : Nat) : Int :=
  min (s.parS a F.LE_AX_ILIM_I) (s.rdS (F.THM_AX_LIM_I a))

/-- The d and q references limited to ILIMA, and whether anything was limited (R217). -/
def State.limitRefs (s : State) (a : Nat) (idr iqr : Int) : Int × Int × Bool :=
  let lim := s.ilima a
  if lim < idr ∨ idr < -lim then ((if idr < 0 then -lim else lim), 0, true)
  else
    let m : Int := isqrt (lim * lim - idr * idr).toNat
    (idr, clampI m iqr, clampI m iqr != iqr)

/-- `prev + (new - prev) × i / r`, `new` from the r-th on (R226). -/
def interpolate (linear : Bool) (prev new : Int) (i r : Nat) : Ar Int :=
  if !linear || decide (r ≤ i) then pure new
  else do
    let d ← Ar.add new (-prev)
    Ar.add prev (rdiv (d * i) (max r 1))

/-- A set-point during the frame at sample `sidx` (R228): in steps of the position divider, so that a divider of one frame is the
step at the tick; a position moves modulo 2^48. Log entry 53 (DEDUCED). -/
def State.setpoint (s : State) (a : Nat) (pos : Bool) (old new : Word) (sidx : Nat) : Ar Int :=
  let div := divider (s.par a F.LE_AX_GRAPH_PDIV) (s.samplesPerFrame (a / 4))
  let n := s.samplesPerFrame (a / 4) / max div 1
  let j := sidx / max div 1 + 1
  let o := signed48 old.toNat
  let w := signed48 new.toNat
  if s.inForce (F.LE_AX_CTL_SPINT a) = 0 ∨ n ≤ j then pure w
  else if pos then pure (wrap48 (o + rdiv (wrap48 (w - o) * j) n))
  else do
    let d ← Ar.add w (-o)
    Ar.add o (rdiv (d * j) n)

/-- Cycles from the quad's previous sample point to this one (R211). -/
def State.sampleSpan (s : State) (q : Nat) (second : Bool) : Nat :=
  let p := s.carrierPeriod q
  let d := (s.inForce (F.ADC_Q_SAMP_SP1 q) + p - s.inForce (F.ADC_Q_SAMP_SP0 q)) % p
  if !s.dbl q then p else if second then d else p - d

/-- One integrator update with 16 guard bits (R209, R215, R220): `step` is added unless the limit cut in its direction; the
clamp ±`lim` is noted. Log entry 53 (DEDUCED). -/
def integrate (x step lim : Int) (cut : Bool) (u : Int) : Int × Bool :=
  let grow := (decide (0 < step) && decide (0 < u)) || (decide (step < 0) && decide (u < 0))
  let y := if cut && grow then x else x + step
  let m := (if lim < 0 then -lim else lim) * 2 ^ 16
  (clampI m y, clampI m y != y)

/-! ### The current pass -/

/-- What the voltage stage of a pass gives (R212-R216). -/
structure PassResult where
  id : Int
  iq : Int
  vd : Int
  vq : Int
  xd : Int
  xq : Int
  duty : List Nat
  flags : List Nat
  deriving DecidableEq, Repr

/-- The voltages of R213 before the limit. -/
def passVolts (s : State) (a : Nat) (id iq ed eq omega xd xq : Int) : Ar (Int × Int) := do
  let decoup := s.par a F.LE_AX_GRAPH_DECOUP = 1
  let bemf := s.par a F.LE_AX_GRAPH_BEMF = 1
  let pd ← Ar.mul (s.parS a F.LE_AX_KPD_K) ed 24
  let d1 ← Ar.add pd xd
  let cross (f : Nat → Fld) (i : Int) : Ar Int := if decoup then (do
      let l ← Ar.mul (s.parS a f) omega 24
      Ar.mul l i 40) else pure 0
  let lqi ← cross F.LE_AX_LQW_L iq
  let vd ← Ar.add d1 (-lqi)
  let pq ← Ar.mul (s.parS a F.LE_AX_KPQ_K) eq 24
  let q1 ← Ar.add pq xq
  let ldi ← cross F.LE_AX_LDW_L id
  let q2 ← Ar.add q1 ldi
  let ke ← if bemf then Ar.mul (s.parS a F.LE_AX_KE_K) omega 24 else pure 0
  let vq ← Ar.add q2 ke
  pure (vd, vq)

/-- The three duties for voltages `vd`, `vq` at angle `theta` (R216), and whether the span exceeded VBUS. -/
def passDuties (s : State) (q : Nat) (vd vq : Int) (theta : Nat) (vbus : Int) : Ar (List Nat × Bool) := do
  let (sn, cs) := sinCos theta
  let a1 ← Ar.mul vd cs 30
  let a2 ← Ar.mul vq sn 30
  let va ← Ar.add a1 (-a2)
  let b1 ← Ar.mul vd sn 30
  let b2 ← Ar.mul vq cs 30
  let vb ← Ar.add b1 b2
  let h := rshift (-va) 1
  let t ← Ar.mul vb halfSqrt3 120
  let vv ← Ar.add h t
  let vw ← Ar.add h (-t)
  let hi := max va (max vv vw)
  let lo := min va (min vv vw)
  let sum ← Ar.add hi lo
  let mid := rshift sum 1
  let u1 ← Ar.add va (-mid)
  let v1 ← Ar.add vv (-mid)
  let w1 ← Ar.add vw (-mid)
  let span ← Ar.add (max u1 (max v1 w1)) (-(min u1 (min v1 w1)))
  let excess := decide (vbus < span)
  let sc (x : Int) : Int := if excess then rdiv (x * vbus) span.toNat else x
  let full := s.periodSteps q
  let dty (x : Int) : Nat := min full (rdiv ((full : Int) * (vbus + 2 * sc x)) (2 * vbus).toNat).toNat
  pure ([dty u1, dty v1, dty w1], excess)

/-- The current loop of one pass (R212-R216): references `idr`, `iqr`; `upd` lets the integrators move. -/
def passLoop (s : State) (a : Nat) (idr iqr omega : Int) (theta thetaOut : Nat) (upd : Bool) : Ar PassResult := do
  let x := s.axis a
  let q := a / 4
  let iu := s.rdS (F.ADC_AX_IU_I a)
  let iv := s.rdS (F.ADC_AX_IV_I a)
  let sum ← Ar.add iu (2 * iv)
  let ib ← Ar.mul sum invSqrt3 120
  let (sn, cs) := sinCos theta
  let d1 ← Ar.mul iu cs 30
  let d2 ← Ar.mul ib sn 30
  let id ← Ar.add d1 d2
  let q1 ← Ar.mul iu sn 30
  let q2 ← Ar.mul ib cs 30
  let iq ← Ar.add (-q1) q2
  let ed ← Ar.add idr (-id)
  let eq ← Ar.add iqr (-iq)
  let (vdS, vqS) ← passVolts s a id iq ed eq omega (rshift x.xd 16) (rshift x.xq 16)
  let raw := s.rdS (F.ADC_Q_VBUS_V q)
  let floor24 : Int := 24 * 2 ^ 40
  let low := decide (raw < floor24)
  let vbus := if low then floor24 else raw
  let mi ← Ar.mul (s.parS a F.LE_AX_VLIM_MI) vbus 24
  let vmax ← Ar.mul mi invSqrt3 120
  let cutD := decide (vmax < vdS) || decide (vdS < -vmax)
  let vd := clampI vmax vdS
  let vqMax : Int := if cutD then 0 else isqrt (vmax * vmax - vd * vd).toNat
  let vq := clampI vqMax vqS
  let cutQ := vq != vqS
  let lim := s.parS a F.LE_AX_XLIMI_X
  let stepD ← Ar.guard (rshift (s.parS a F.LE_AX_KID_K * ed) 8)
  let stepQ ← Ar.guard (rshift (s.parS a F.LE_AX_KIQ_K * eq) 8)
  let (xd, satD) := if upd then integrate x.xd stepD lim cutD vdS else (x.xd, false)
  let (xq, satQ) := if upd then integrate x.xq stepQ lim cutQ vqS else (x.xq, false)
  let (duty, excess) ← passDuties s q vd vq thetaOut vbus
  pure { id, iq, vd, vq, xd, xq, duty,
         flags := (if cutD || cutQ then [0] else []) ++ (if satD then [2] else []) ++ (if satQ then [3] else [])
           ++ (if excess then [5] else []) ++ (if low then [14] else []) }

/-- The angle of a pass, its speed, and the mode-4 integrator (R211, R236). Log entry 53 (DEDUCED). -/
def State.passAngle (s : State) (a : Nat) (second : Bool) : Nat × Int × Int :=
  let x := s.axis a
  let pp := s.par a F.LE_AX_MOTOR_PP
  if s.leMode a = 4 then
    let w := signed48 x.spVel.toNat
    let th := (x.theta + rdiv ((pp : Int) * w * s.sampleSpan (a / 4) second * 2 ^ 16) 750000000) % (2 ^ 40 : Nat)
    ((rshift th 16 % (2 ^ 24 : Nat)).toNat, w, th)
  else
    let p := s.rdS (F.FB_AX_POSS_P a)
    let w := if s.bit (F.FB_AX_STAT_SPDVALID a) then s.rdS (F.FB_AX_SPDS_V a) else 0
    (((pp * p + s.par a F.LE_AX_MOTOR_ANGOFS) % (2 ^ 24 : Nat)).toNat, w, x.theta)

/-- The q-current reference of a pass before cogging, and the advanced interpolation count (R210, R226, R241); from a pass without a
valid speed to the next valid velocity update it is the KAFF term (R236). -/
def State.passQref (s : State) (a : Nat) : Ar (Int × Nat) :=
  let x := s.axis a
  let m := s.leMode a
  if x.ssZero then pure (0, x.qI)
  else if m = 2 ∨ m = 3 then
    if x.spdWasInv then pure (x.affNow, x.qI)
    else do
      let i := x.qI + 1
      let q ← interpolate (s.par a F.LE_AX_GRAPH_INTERP = 1) x.qPrev x.qNew i
        (divider (s.par a F.LE_AX_GRAPH_VDIV) (s.samplesPerFrame (a / 4)))
      pure (q, i)
  else if m = 1 then pure (signed48 x.spIq.toNat, x.qI)
  else pure (0, x.qI)

/-- The d-current reference of a pass (R210, R241). -/
def State.passDref (s : State) (a : Nat) : Int :=
  let x := s.axis a
  if x.ssZero then 0 else if x.ramp.isSome then x.ssId else signed48 x.spId.toNat

/-- Feedback lost on an axis that needs its position (R237): FBLOSS, with the interrupt that IEN enables (R245), and the software
trip bit. Log entry 50 (DEDUCED). -/
def State.feedbackLoss (s : State) (a : Nat) : State := (s.leFlag a 10).swtripSet a

/-- Whether the lane finds the position of axis `a` invalid in a mode that needs it (R237). Log entry 23 (DEDUCED). -/
def State.lacksFeedback (s : State) (a : Nat) : Bool :=
  let m := s.leMode a
  (decide (1 ≤ m) && decide (m ≤ 3)) && !s.bit (F.FB_AX_STAT_POSVALID a)

/-- The velocity loop of axis `a` without a valid speed (R236): integrator and observer at 0. -/
def State.speedLost (s : State) (a : Nat) : State :=
  let s1 := s.setAxis a { s.axis a with xv := 0, dob := 0, spdWasInv := true }
  (s1.setReg (A.LE_AX_XV a) 0).setReg (A.LE_AX_DOB a) 0

/-- The current pass of axis `a` (R205, R206, R210-R218, R236-R239): the duties of an axis that software drives are not written
(R144). -/
def State.axisPass (s : State) (a : Nat) (second : Bool) : State :=
  let hold := s.loopHold a
  let valid := s.bit (F.FB_AX_STAT_SPDVALID a)
  let s0 := (((s.leLevel a 12 hold).leLevel a 11 (!valid)).setAxis a { s.axis a with passHold := hold })
  let m := s.leMode a
  if m = 0 then s0
  else
    let s1 := if s0.lacksFeedback a then s0.feedbackLoss a else s0
    let s2 := if (m == 2 || m == 3) && !valid then s1.speedLost a else s1
    let s3 := if s2.integrates then s2 else s2.intClear a
    let (theta, omega, th) := s3.passAngle a second
    let ((qr, qi), satQ) := s3.passQref a false
    let cogOn := decide (1 ≤ m ∧ m ≤ 3) && s3.par a F.LE_AX_GRAPH_COG == 1 && s3.mode != .shutdown
    let (cog, sat0, s4) :=
      if cogOn && s3.pageApplies a false && s3.bit (F.FB_AX_STAT_POSVALID a) && !(s3.axis a).ssZero then
        s3.cogging a (s3.rdS (F.FB_AX_POSS_P a))
      else (0, false, s3)
    let (sum, sat1) := Ar.add qr cog (satQ || sat0)
    let (idr, iqr, isat) := s4.limitRefs a (s4.passDref a) sum
    let pp := s4.par a F.LE_AX_MOTOR_PP
    let adv := rdiv ((pp : Int) * omega * s4.par a F.LE_AX_MOTOR_ADVNS) 1000000000
    let out := ((theta + adv) % (2 ^ 24 : Nat)).toNat
    let (r, sat) := passLoop s4 a idr iqr omega theta out (s4.integrates && !hold) sat1
    let x := s4.axis a
    let vs := r.flags.contains 0
    let s5 := s4.setAxis a { x with xd := r.xd, xq := r.xq, theta := th, qCur := qr, qI := qi, vsat := vs, cogNow := cog }
    let s6 := ((((s5.show (A.LE_AX_ID a) r.id).show (A.LE_AX_IQ a) r.iq).show (A.LE_AX_VD a) r.vd).show (A.LE_AX_VQ a) r.vq)
    let s7 := (((s6.show (A.LE_AX_IQREF a) iqr).show (A.LE_AX_XD a) (rshift r.xd 16)).show (A.LE_AX_XQ a) (rshift r.xq 16))
    let s8 := (s7.show (A.LE_AX_XV a) (rshift x.xv 16)).wr (F.LE_AX_ANGLE_THETA a) theta
    let s9 := if cogOn then s8.show (A.LE_AX_COGVAL a) cog else s8
    let drives := s9.laneDrives a
    let s10 := s9.leFlags a ((if drives then r.flags else r.flags.filter (· != 5)) ++ (if isat then [1] else [])
      ++ (if sat then [6] else []))
    if drives then s10.armDuties a (r.duty.getD 0 0) (r.duty.getD 1 0) (r.duty.getD 2 0) else s10

/-- Whether the velocity loop (`pos = false`) or the position loop of axis `a` is due on sample `sidx` (R225).
Log entry 57 (DEDUCED). -/
def State.loopDue (s : State) (a sidx : Nat) (pos : Bool) : Bool :=
  let m := s.leMode a
  let n := s.samplesPerFrame (a / 4)
  (if pos then m == 3 else m == 2 || m == 3) &&
    divides (divider (if pos then s.par a F.LE_AX_GRAPH_PDIV else s.par a F.LE_AX_GRAPH_VDIV) n) sidx

/-! ### The outer stage -/

/-- Biquad `k` of axis `a` on input `x` (R209, R222): output, new states, and the flags BQSAT and ARITH of what saturates.
Log entry 53 (DEDUCED). -/
def State.biquad (s : State) (a k : Nat) (x : Int) : Int × State :=
  let c (j : Nat) : Int := s.rdS (bankFld (s.actBank a) (F.LE_AX_BQ_C_C a k j))
  let (s1, s2) := (s.axis a).bq.getD k (0, 0)
  let term (j : Nat) (v : Int) : Ar Int := Ar.guard (rshift (c j * v) 8)
  let ((y, n1, n2), sat) := (do
    let p0 ← term 0 x
    let y ← Ar.sat (rshift (p0 + s1) 16)
    let p1 ← term 1 x
    let q1 ← term 3 y
    let d1 ← Ar.guard (p1 - q1)
    let n1 ← Ar.guard (d1 + s2)
    let p2 ← term 2 x
    let q2 ← term 4 y
    let n2 ← Ar.guard (p2 - q2)
    pure (y, n1, n2) : Ar (Int × Int × Int)) false
  let z := s.setAxis a { s.axis a with bq := (s.axis a).bq.set k (n1, n2) }
  let z1 := if y = max48 ∨ y = min48 then (if rshift (rshift (c 0 * x) 8 + s1) 16 = y then z else z.leFlag a 7) else z
  (y, if sat then z1.leFlag a 6 else z1)

/-- The enabled biquads of axis `a` at point `pt`, in index order (R222). -/
def State.biquads (s : State) (a pt : Nat) (x : Int) : Int × State :=
  (List.range 4).foldl (fun (p : Int × State) k =>
    if (p.2.par a F.LE_AX_GRAPH_BQEN).testBit k && p.2.par a F.LE_AX_GRAPH_BQPOS / 4 ^ k % 4 == pt then p.2.biquad a k p.1
    else p) (x, s)

/-- The position update of axis `a` at sample `sidx` (R221), with what FAULTACT asks for: 1 the software trip, 2 also SAFE_STOP.
Log entry 53 (DEDUCED). -/
def State.posUpdate (s : State) (a sidx : Nat) : Nat × State :=
  let x := s.axis a
  let (sp, _) := s.setpoint a true x.ppPos x.spPos sidx false
  let perr := wrap48 (sp - s.rdS (F.FB_AX_POSS_P a))
  let s1 := s.show (A.LE_AX_PERR a) perr
  let (pf, s2) := s1.biquads a 0 perr
  let (v, sat) := (do
    let p ← Ar.mul (s2.parS a F.LE_AX_KPP_K) pf 24
    if s2.par a F.LE_AX_GRAPH_VFF = 1 then
      let sv ← s2.setpoint a false x.ppVel x.spVel sidx
      let f ← Ar.mul (s2.parS a F.LE_AX_KVFF_K) sv 24
      Ar.add p f
    else pure p : Ar Int) false
  let s3 := if sat then s2.leFlag a 6 else s2
  let s4 := s3.setAxis a { s3.axis a with vPrev := (s3.axis a).vCur, vNew := v, vI := 0 }
  let lim := s4.parS a F.LE_AX_PERRMAX_E
  if lim ≠ 0 ∧ (lim < perr ∨ perr < -lim) then
    let act := s4.inForce (F.LE_AX_CTL_FAULTACT a)
    (if act = 1 ∨ act = 2 then act else 0, s4.leFlag a 9)
  else (0, s4)

/-- Cycles between velocity updates (Tv), as samples × frame counts over samples per frame (R223, R241). -/
def State.velSpan (s : State) (a : Nat) : Nat × Nat :=
  let n := s.samplesPerFrame (a / 4)
  (divider (s.par a F.LE_AX_GRAPH_VDIV) n * s.inForce F.TICK_FRAME_COUNTS, max n 1)

/-- The observer at a velocity update with speed `w`, before the filters of BQPOS 1 (R223). Log entries 53 (DEDUCED),
146 (DEDUCED). Log entries 53 (DEDUCED), 146 (DEDUCED). -/
def State.observe (s : State) (a : Nat) (w : Int) (upd : Bool) : Int × State :=
  let x := s.axis a
  let (num, den) := s.velSpan a
  if s.par a F.LE_AX_GRAPH_DOB = 0 ∨ !upd then (x.dob, s)
  else
    let (d, sat) := (do
      let dw ← Ar.add w (-x.wPrev)
      let acc ← Ar.div (s.parS a F.LE_AX_JN_J * dw * 750000000 * den) (256 * max num 1)
      let r ← Ar.add (s.rdS (F.LE_AX_IQREF_I a)) (-acc)
      let e ← Ar.guard (r * 2 ^ 16 - x.dob)
      let g ← Ar.guard (rshift (s.parS a F.LE_AX_DOBG_G * e) 24)
      Ar.guard (x.dob + g) : Ar Int) false
    let s1 := (s.setAxis a { x with dob := d }).show (A.LE_AX_DOB a) (rshift d 16)
    (d, if sat then s1.leFlag a 6 else s1)

/-- The record of a velocity update for the learning capture (R261). Log entry 56 (DEDUCED). -/
def State.learnRecord (s : State) (a : Nat) (xv qout comp : Int) (isat : Bool) : List Byte :=
  let v := s.bit (F.FB_AX_STAT_SPDVALID a)
  let w6 (i : Int) : List Byte := leBytes 6 (wordOf i).toNat
  let flags := (if v then 1 else 0) + (if isat then 2 else 0) + (if (s.axis a).passHold then 4 else 0)
    + (if (s.axis a).vsat then 8 else 0)
  w6 (s.rdS (F.FB_AX_POSS_P a)) ++ w6 (if v then s.rdS (F.FB_AX_SPDS_V a) else 0) ++ w6 xv ++ w6 qout ++ w6 comp
    ++ w6 (s.axis a).cogNow ++ leBytes 2 (s.rd F.TICK_FRAMECNT_COUNT) ++ leBytes 2 flags

/-- A velocity update of the captured axis, which gives `rec` (R260, R263): every (DIV + 1)-th makes a record; one that meets an
unwritten record is dropped and counted. Log entry 56 (DEDUCED). -/
def State.learnStep (s : State) (a sidx : Nat) (rec : List Byte) : State :=
  let l := s.learn
  if !s.bit F.LE_LRN_STAT_BUSY || s.rd F.LE_LRN_CTL_AXIS != a || (!l.started && sidx != 0) then s
  else if l.started && l.skip != 0 then { s with learn := { l with skip := l.skip - 1 } }
  else
    let l1 := { l with started := true, skip := s.rd F.LE_LRN_CTL_DIV }
    if l.record.isEmpty then
      { s with learn := { l1 with record := rec } }.after (s.dmaCycles 1) .learnRecordWrite
    else { s with learn := l1 }.inc F.LE_LRN_COUNT_LOST

/-- The velocity reference of an update (R226, R228, R241). -/
def State.velRef (s : State) (a sidx : Nat) : Ar (Int × Axis) :=
  let x := s.axis a
  let n := s.samplesPerFrame (a / 4)
  let vdiv := divider (s.par a F.LE_AX_GRAPH_VDIV) n
  match x.ramp with
  | some r =>
    let (num, den) := s.velSpan a
    let dec := s.rdS (F.LE_AX_SS1DEC_DEC a)
    let st := rdiv ((if dec < 0 then -dec else dec) * num) (750000000 * den)
    let r1 : Int := if 0 < r then max 0 (r - st) else min 0 (r + st)
    pure (r1, { x with ramp := some r1, vCur := r1 })
  | none =>
    if s.leMode a = 3 then do
      let i := x.vI + 1
      let pdiv := divider (s.par a F.LE_AX_GRAPH_PDIV) n
      let v ← interpolate (s.par a F.LE_AX_GRAPH_INTERP = 1) x.vPrev x.vNew i (pdiv / max vdiv 1)
      pure (v, { x with vI := i, vCur := v })
    else do
      let v ← s.setpoint a false x.ppVel x.spVel sidx
      pure (v, { x with vCur := v })

/-- The velocity update of axis `a` at sample `sidx` (R219, R220, R222-R224, R232, R236, R241), with its record for the capture. -/
def State.velUpdate (s : State) (a sidx : Nat) : List Byte × State :=
  let ss := (s.axis a).ramp.isSome
  let ((vref, x1), sat0) := s.velRef a sidx false
  let s1 := (s.setAxis a x1).show (A.LE_AX_VREF a) vref
  let valid := s1.bit (F.FB_AX_STAT_SPDVALID a)
  let w := s1.rdS (F.FB_AX_SPDS_V a)
  let upd := s1.integrates && !x1.passHold
  let (aff, satA) : Int × Bool := if ss || s1.par a F.LE_AX_GRAPH_AFF == 0 then (0, sat0) else (do
    let acc ← s1.setpoint a false x1.ppAcc x1.spAcc sidx
    Ar.mul (s1.parS a F.LE_AX_KAFF_K) acc 8 : Ar Int) sat0
  let (_, affL, isatA) := s1.limitRefs a (s1.passDref a) aff
  let fricOn := !ss && s1.par a F.LE_AX_GRAPH_FRIC == 1 && s1.mode != .shutdown
  let (fr, satF, s2) := if fricOn then s1.friction a (s1.rdS (F.FB_AX_POSS_P a)) vref valid else (0, false, s1)
  let s3 := if fricOn || ss then s2.show (A.LE_AX_FRVAL a) fr else s2
  if !valid then
    let s4 := s3.setAxis a { s3.axis a with
      xv := 0, dob := 0, qPrev := (s3.axis a).qCur, qNew := affL, affNow := affL, qI := 0, spdWasInv := true, seed := none, wPrev := 0 }
    let s5 := ((s4.show (A.LE_AX_XV a) 0).show (A.LE_AX_DOB a) 0).leFlags a
      ((if isatA then [1] else []) ++ (if satA || satF then [6] else []))
    (s5.learnRecord a 0 affL 0 isatA, s5)
  else
    let (wf, s4) := s3.biquads a 1 w
    let (ev0, sat1) := Ar.add vref (-wf) (satA || satF)
    let (ev, s5) := s4.biquads a 2 ev0
    let (dob, s6) := s5.observe a w (!x1.passHold)
    let useDob := !ss && s6.par a F.LE_AX_GRAPH_DOB == 1
    let ((base, step), sat3) := (do
      let p ← Ar.mul (s6.parS a F.LE_AX_KPV_K) ev 8
      let b1 ← Ar.add p aff
      let b2 ← Ar.add b1 fr
      let step ← Ar.guard (s6.parS a F.LE_AX_KIV_K * ev * 2 ^ 8)
      if useDob then
        let d ← Ar.mul (s6.parS a F.LE_AX_DOBK_K) (rshift dob 16) 24
        let b3 ← Ar.add b2 (-d)
        pure (b3, step)
      else pure (b2, step) : Ar (Int × Int)) sat1
    let x := s6.axis a
    let xlim := s6.parS a F.LE_AX_XLIMV_X
    let m : Int := if xlim < 0 then -xlim else xlim
    let xv0 : Int := match x.seed with
      | some q => if upd then clampI m (q - base) * 2 ^ 16 else x.xv
      | none => x.xv
    let (u0, sat4) := Ar.add base (rshift xv0 16) sat3
    let (u, s7) := s6.biquads a 3 u0
    let (_, ul, isat) := s7.limitRefs a (s7.passDref a) u
    let (xv, xsat) := if upd then integrate xv0 step xlim isat u else (xv0, false)
    let y := s7.axis a
    let s8 := s7.setAxis a { y with
      xv := xv, qPrev := y.qCur, qNew := ul, affNow := affL, qI := 0, spdWasInv := false, seed := none, wPrev := w }
    let s9 := s8.show (A.LE_AX_XV a) (rshift xv 16)
    let s10 := s9.leFlags a ((if isat then [1] else []) ++ (if xsat then [4] else []) ++ (if sat4 then [6] else []))
    (s10.learnRecord a (rshift xv 16) ul fr isat, s10)

/-! What a stage computes and when it counts (R207): its inputs are those of its sample, its results those of its end. -/

/-- The registers that an outer stage shows. -/
def outerRegs (a : Nat) : List Nat := [A.LE_AX_VREF a, A.LE_AX_PERR a, A.LE_AX_XV a, A.LE_AX_DOB a, A.LE_AX_FRVAL a]

/-- `s` with the flags that an outer stage can raise for axis `a` at 0, so that what rises shows. -/
def State.flagsDown (s : State) (a : Nat) : State :=
  (s.setReg (A.LE_AX_FLAG a) 0).setReg (A.LE_AX_TBLSTAT a) (setBits (s.reg (A.LE_AX_TBLSTAT a)) 6 6 0)

/-- The outer stage of axis `a` on sample `sidx`, computed aside (R207): its result, where a loop is due, and the state that the next
axis computes in. -/
def State.outerAxis (s : State) (a sidx : Nat) : Option OuterRes × State :=
  let x := s.axis a
  let pos := s.loopDue a sidx true && !x.ramp.isSome
  let vel := s.loopDue a sidx false
  if x.ssZero || !(pos || vel) then (none, s)
  else
    let s0 := s.flagsDown a
    let (act, s1) := if pos then s0.posUpdate a sidx else (0, s0)
    let (rec, s2) := if vel then s1.velUpdate a sidx else ([], s1)
    (some { a, x := s2.axis a, regs := (outerRegs a).map s2.reg, flags := (s2.reg (A.LE_AX_FLAG a)).toNat,
            tbl := getBits (s2.reg (A.LE_AX_TBLSTAT a)) 6 6 * 64, act, pos, vel, capRec := rec }, s2)

/-- The results of the outer stage of quad `q` on sample `sidx`, from the values that its sample gave; single-bit errors of the tables
are corrected by its reads (R249). -/
def State.outerCompute (s : State) (q sidx : Nat) : List OuterRes × State :=
  let (l, s1) := (List.range 4).foldl (fun (p : List OuterRes × State) k =>
    let (r, s1) := p.2.outerAxis (4 * q + k) sidx
    (p.1 ++ r.toList, s1)) ([], s)
  (l, { s with eccSoft := s1.eccSoft })

/-- An outer stage's result for one axis counts (R207): references, filters and flags; integrator and observer where the axis is not
held by a trip by now (R239).  The answer says whether a fault is reported. -/
def State.outerApply (s : State) (sidx : Nat) (r : OuterRes) : Bool × State :=
  let a := r.a
  let y := s.axis a
  let hold := (y.passHold || s.loopHold a) && !r.x.spdWasInv
  let z := { y with bq := r.x.bq, vCur := r.x.vCur, vPrev := r.x.vPrev, vNew := r.x.vNew, vI := r.x.vI, ramp := r.x.ramp }
  let z1 := if r.vel then { z with
      xv := if hold then y.xv else r.x.xv
      dob := if hold then y.dob else r.x.dob
      qPrev := y.qCur, qNew := r.x.qNew, affNow := r.x.affNow, qI := 0, spdWasInv := r.x.spdWasInv, seed := r.x.seed, wPrev := r.x.wPrev }
    else z
  let keep (i : Nat) : Bool := (i == 1 && !r.pos) || (i != 1 && !r.vel) || (hold && (i == 2 || i == 3))
  let s1 := (List.range 5).foldl (fun s i =>
    if keep i then s else s.setReg ((outerRegs a).getD i 0) (r.regs.getD i 0)) (s.setAxis a z1)
  let s2 := s1.leFlags a ((List.range 15).filter (fun k => r.flags.testBit k && !(hold && k == 4)))
  let s3 := ((List.range 12).filter r.tbl.testBit).foldl (fun s k => s.tblFlag a k) s2
  let s4 := if r.act = 0 then s3 else s3.swtripSet a
  (r.act = 2, if r.vel then s4.learnStep a sidx r.capRec else s4)

/-- The end of the outer stage of quad `q` on sample `sidx`; the answer says whether a fault is reported. -/
def State.outerEnd (s : State) (sidx : Nat) (l : List OuterRes) : Bool × State :=
  l.foldl (fun (p : Bool × State) r =>
    let (f, s1) := p.2.outerApply sidx r
    (p.1 || f, s1)) (false, s)

/-- A pass that begins while an outer stage is unfinished (R234): LATE, on the lane and on the axes whose loops were due.
Log entry 51 (DEDUCED). -/
def State.passLate (s : State) (q : Nat) : State :=
  match (s.lane q).outer with
  | [] => s
  | sidx :: _ =>
    (s.upto 4 (fun k s => if s.loopDue (4 * q + k) sidx false then s.leFlag (4 * q + k) 8 else s)).laneOverrun q 8

/-- The event of a pass's end. -/
def passEvent (q : Nat) : Instr := .laneCurrentPass (Fin.ofNat 6 q)

/-- The pass of the waiting sample set begins (R206, R234): 45 cycles to its duties. -/
def State.passBegin (s : State) (q : Nat) : State :=
  let s1 := s.passLate q
  (s1.setLane q { s1.lane q with beginAt := none }).after 45 (passEvent q)

/-- Whether a pass of lane `q` is in progress. -/
def State.passRuns (s : State) (q : Nat) : Bool := (s.lane q).setReady && (s.lane q).beginAt.isNone && s.due (passEvent q)

/-! ### Starting, stopping, banks and set-points -/

/-- The loop state of axis `a` starts at 0 (R235), and what a running outer stage has computed for it does not count; the angle of
mode 4 goes on (R211). -/
def State.loopInit (s : State) (a : Nat) : State :=
  let x := s.axis a
  let i := Axis.init
  let s1 := s.setAxis a { x with
    bq := i.bq, wPrev := 0, qCur := 0, qPrev := 0, qNew := 0, qI := 0, vCur := 0, vPrev := 0, vNew := 0, vI := 0, seed := none, ramp := none, ssZero := false, cogNow := 0, affNow := 0, spdWasInv := false }
  let l := s1.lane (a / 4)
  let s2 := match l.outRes with
    | some r => s1.setLane (a / 4) { l with outRes := some (r.filter (fun r => r.a != a)) }
    | none => s1
  s2.loopClear a

/-- The angle of mode 4 starts from ANGOFS, as the axis enters the mode (R211). -/
def State.thetaInit (s : State) (a : Nat) : State :=
  s.setAxis a { s.axis a with theta := s.par a F.LE_AX_MOTOR_ANGOFS * 2 ^ 16 }

/-- Every axis's loop state starts at 0: at the entry to RUN from ARMED and after a wake (R235). -/
def State.loopInitAll (s : State) : State := s.upto 24 (fun a s => s.loopInit a)

/-- Lane `q` at a frame tick (R208, R238): START_ERR bits, start or stop. -/
def State.laneTick (s : State) (q : Nat) : State :=
  let noCar := !s.carrierOn q
  let noSamp := s.bit (F.ADC_Q_STATUS_SP_ERR q)
  let noCal := !s.bit F.SYS_READY_ADC
  let noVbus := !s.bitAt (F.ADC_Q_AUXSTAT_VALID q) 0
  let s0 := s.showLoad q
  let budget := decide (s0.laneAvail q < s0.laneNeed q 0)
  let s1 := ((((s0.wrb (F.LE_Q_STATUS_NOCARRIER q) noCar).wrb (F.LE_Q_STATUS_NOSAMP q) noSamp).wrb
    (F.LE_Q_STATUS_NOCAL q) noCal).wrb (F.LE_Q_STATUS_NOVBUS q) noVbus).wrb (F.LE_Q_STATUS_BUDGET q) budget
  let run := !(noCar || noSamp || noCal || noVbus || budget) && !s.modeIn [.off, .dormant, .boot]
  let was := s1.laneOn q
  let s2 := (s1.setBitAt F.LE_STATUS_RUN q run).wrb (F.LE_Q_STATUS_RUNNING q) run
  if run && !was then
    let s3 := (s2.setLane q Lane.init).upto 4 (fun k s => s.loopInit (4 * q + k))
    s3.upto 4 (fun k s => s.holdLook (4 * q + k))
  else if !run && was then (s2.setLane q Lane.init).cancel (.laneOuterStage (Fin.ofNat 6 q))
  else s2

/-- SYS_READY.LE follows the lanes of the enabled quads (R238). -/
def State.readyLe (s : State) : State :=
  s.setReady 14 ((List.range 6).all (fun q => !s.bit (F.PWM_Q_CTL_EN q) || s.laneOn q))

/-- Every lane stops (R240). -/
def State.lanesStop (s : State) : State :=
  (s.upto 6 (fun q s =>
    ((s.setBitAt F.LE_STATUS_RUN q false).off0 (F.LE_Q_STATUS_RUNNING q)).setLane q Lane.init)).setReady 14 false

/-- The record that waits is written at BASE + 40 × COUNT, and COUNT shows it (R260). Log entry 56 (DEDUCED). -/
def State.learnPut (s : State) : State :=
  if s.learn.record.isEmpty then s
  else
    let a := s.rd F.LE_LRN_BASE_ADDR + 40 * s.rd F.LE_LRN_COUNT_COUNT
    let s1 := (s.setBytes a s.learn.record).eccWrite a 40
    ({ s1 with learn := { s1.learn with record := [] } }.inc F.LE_LRN_COUNT_COUNT).cancel .learnRecordWrite

/-- The captured axis's quad gets its interrupt, and CH38 its event (R263). -/
def State.learnEnd (s : State) : State := (s.leIrq (s.rd F.LE_LRN_CTL_AXIS / 4)).fire 38 0

/-- A record is written; the last one ends the capture with DONE (R262). -/
def State.learnWrite (s : State) : State :=
  let s1 := s.learnPut
  if s.bit F.LE_LRN_STAT_BUSY && decide (s.rd F.LE_LRN_LEN_LEN ≤ s1.rd F.LE_LRN_COUNT_COUNT) then
    ((s1.off0 F.LE_LRN_STAT_BUSY).on F.LE_LRN_STAT_DONE).learnEnd
  else s1

/-- The learning capture ends by an abort; a record that is being written is completed, and the last record written in this
cycle gives DONE only (R262). -/
def State.learnAbort (s : State) : State :=
  let last := s.due .learnRecordWrite && s.remaining .learnRecordWrite == 0
    && s.rd F.LE_LRN_COUNT_COUNT + 1 == s.rd F.LE_LRN_LEN_LEN
  if s.bit F.LE_LRN_STAT_BUSY && last then s.learnWrite
  else if s.bit F.LE_LRN_STAT_BUSY || s.bit F.LE_LRN_STAT_PEND then
    let s1 := ((s.learnPut.off0 F.LE_LRN_STAT_BUSY).off0 F.LE_LRN_STAT_PEND).on F.LE_LRN_STAT_ABORT
    s1.learnEnd
  else s

/-- A pending capture begins at the frame tick (R260). -/
def State.learnTick (s : State) : State :=
  if s.bit F.LE_LRN_STAT_PEND then
    { (s.off0 F.LE_LRN_STAT_PEND).on F.LE_LRN_STAT_BUSY with learn := ⟨0, false, s.learn.record⟩ }
  else s

/-- Whether biquad `k` of axis `a` works (R222): enabled, and at a point that the mode's loops pass. -/
def State.bqWorks (s : State) (a k : Nat) : Bool :=
  let m := s.leMode a
  (s.par a F.LE_AX_GRAPH_BQEN).testBit k && (m == 3 || (m == 2 && s.par a F.LE_AX_GRAPH_BQPOS / 4 ^ k % 4 != 0))

/-- Whether the observer of axis `a` works (R223). -/
def State.dobWorks (s : State) (a : Nat) : Bool := (s.leMode a == 2 || s.leMode a == 3) && s.par a F.LE_AX_GRAPH_DOB == 1

/-- What a swap from the banks of `b` to those of `s` starts anew on axis `a` (R211, R232): the integrators, filters and observer
that did not work before. -/
def State.swapInit (s b : State) (a : Nat) : State :=
  let old := b.leMode a
  let new := s.leMode a
  let x := s.axis a
  let x1 := if old = 0 then { x with xd := 0, xq := 0 } else x
  let vel (m : Nat) : Bool := m == 2 || m == 3
  let iq := s.rdS (F.LE_AX_IQREF_I a)
  let x2 := if vel new && !vel old then { x1 with seed := some iq, qPrev := iq, qNew := iq, qCur := iq, qI := 0 } else x1
  let x3 := if new = 3 ∧ old ≠ 3 then { x2 with vPrev := x2.vCur, vNew := x2.vCur, vI := 0 } else x2
  let x4 := if new = 4 ∧ old ≠ 4 then { x3 with theta := s.par a F.LE_AX_MOTOR_ANGOFS * 2 ^ 16 } else x3
  let x5 := if s.dobWorks a && !b.dobWorks a then { x4 with dob := 0, wPrev := 0 } else x4
  let bq := x5.bq.mapIdx (fun k st => if s.bqWorks a k && !b.bqWorks a k then (0, 0) else st)
  s.setAxis a { x5 with bq := bq }

/-- The bank swap of axis `a` at a frame tick, the copy of its new active bank ending after `n` copies (R231, R232). -/
def State.bankSwap (s : State) (a n : Nat) : State :=
  let s1 := (s.wr (F.LE_AX_BSTAT_ACTIVE a) (1 - s.actBank a)).off0 (F.LE_AX_BSTAT_PEND a)
  let s2 := (s1.setBitAt F.LE_COMMIT_PEND_PEND a false).swapInit s a
  let s3 := s2.setAxis a { s2.axis a with copying := true, swapAt := some s2.instant }
  let s4 := s3.after (64 * n) (.leBankCopyDone (Fin.ofNat 24 a))
  if s4.leMode a = 1 ∧ s4.rd F.LE_LRN_CTL_AXIS = a ∧ (s4.bit F.LE_LRN_STAT_BUSY || s4.bit F.LE_LRN_STAT_PEND) then s4.learnAbort
  else s4

/-- The axes whose commits a frame tick takes: those requested in an earlier base cycle (R230, R233). -/
def State.commitTaken (s : State) : Nat :=
  (bitsWord 24 (fun a => s.bit (F.LE_AX_BSTAT_PEND a) && !s.sameAs (s.axis a).pendAt)).toNat

/-- The bank swaps of every axis, each checked again with those that swap beside it, and each lane's swap event and load (R29, R208,
R230, R231). -/
def State.swapAll (s : State) : State :=
  let mask := s.commitTaken
  s.upto 6 (fun q t =>
    let axes := ((List.range 4).map (fun k => 4 * q + k)).filter mask.testBit
    let good := axes.filter (fun a => s.commitCause a mask == 0)
    let t1 := axes.foldl (fun t a => if s.commitCause a mask = 0 then t else t.commitRefuse a (s.commitCause a mask)) t
    let t2 := (good.foldl (fun (p : State × Nat) a => (p.1.bankSwap a (p.2 + 1), p.2 + 1)) (t1, 0)).1
    if good.isEmpty then t2 else (t2.fire (48 + q) 2).showLoad q)

/-- The page-in-use flags COG_UNTR and FR_UNTR (R253). -/
def State.untrained (s : State) (a : Nat) : State :=
  let c := s.par a F.LE_AX_GRAPH_COG = 1 ∧ !s.trained a false (s.activePage a false)
  let f := s.par a F.LE_AX_GRAPH_FRIC = 1 ∧ !s.trained a true (s.activePage a true)
  (s.wrb (F.LE_AX_TBLSTAT_COG_UNTR a) c).wrb (F.LE_AX_TBLSTAT_FR_UNTR a) f

/-- The copy of the new active bank ends, and the stalled writes land (R231). Log entry 54 (DEDUCED). -/
def State.copyDone (s : State) (a : Nat) : State :=
  let x := s.axis a
  let s1 := (s.copyBank a).setAxis a { x with copying := false, stalled := [] }
  let b := 1 - s1.actBank a
  let base := 0x08071000 + 0x400 * a
  x.stalled.foldl (fun s p => s.setReg (base + p.1 + b * bankKey) p.2) s1

/-- The set-points of axis `a` at a frame tick (R227): a write of this cycle waits for the next. Log entry 54 (DEDUCED). -/
def State.takeSetpoints (s : State) (a : Nat) : State :=
  let x := s.axis a
  let now := [s.reg (A.LE_AX_SP_POS a), s.reg (A.LE_AX_SP_VEL a), s.reg (A.LE_AX_SP_ACC a), s.reg (A.LE_AX_SP_IQ a), s.reg (A.LE_AX_SP_ID a)]
  let late := s.sameAs x.spAt
  let v := if late then x.spOld else now
  let fresh := if late then x.spFresh else s.bit (F.LE_AX_SPSTAT_FRESH a)
  let s1 := s.setAxis a { x with
    ppPos := x.spPos, ppVel := x.spVel, ppAcc := x.spAcc, spPos := v.getD 0 0, spVel := v.getD 1 0, spAcc := v.getD 2 0, spIq := v.getD 3 0, spId := v.getD 4 0 }
  let s2 := if late then s1.on (F.LE_AX_SPSTAT_SPMISS a) else s1.off0 (F.LE_AX_SPSTAT_FRESH a)
  if fresh then s2 else s2.inc (F.LE_AX_SPSTAT_HOLDCNT a)

/-- A set-point written by its source (R227). Log entry 54 (DEDUCED). -/
def State.spStore (s : State) (a k : Nat) (v : Word) : State :=
  let x := s.axis a
  let now := [s.reg (A.LE_AX_SP_POS a), s.reg (A.LE_AX_SP_VEL a), s.reg (A.LE_AX_SP_ACC a), s.reg (A.LE_AX_SP_IQ a), s.reg (A.LE_AX_SP_ID a)]
  let x1 := if s.sameAs x.spAt then x
    else { x with spAt := some s.instant, spOld := now, spFresh := s.bit (F.LE_AX_SPSTAT_FRESH a) }
  let s1 := (s.setAxis a x1).setReg (A.LE_AX_SP_POS a + 8 * k) v
  let s2 := s1.on (F.LE_AX_SPSTAT_FRESH a)
  if s2.sameAs s2.tickAt then s2.on (F.LE_AX_SPSTAT_SPMISS a) else s2

/-- The lanes at the entry to SAFE_STOP from RUN (R241). -/
def State.rampStart (s : State) : State :=
  s.upto 24 (fun a s =>
    let m := s.leMode a
    let x := s.axis a
    if m = 0 then s
    else if s.bit (F.FB_AX_STAT_SPDVALID a) && (m == 2 || m == 3) then
      s.setAxis a { x with ramp := some (s.rdS (F.FB_AX_SPDS_V a)), ssId := signed48 x.spId.toNat }
    else (s.setAxis a { x with ssZero := true }).setReg (A.LE_AX_FRVAL a) 0)

/-- The stop ramp is over: SAFE_STOP has been left. -/
def State.rampEnd (s : State) : State :=
  s.upto 24 (fun a s => s.setAxis a { s.axis a with ramp := none, ssZero := false })

end Sys2Proof.Machine
end

