-- ==== Sys2Proof/Machine/Stop.lean ====
section
/-! DEFINITION. The STO chain (R538-R540), brake outputs (R347), mode changes (R74) and the entry to SAFE_STOP (R79, R541). -/
namespace Sys2Proof.Machine

/-! ### Brakes -/

/-- The mean bus voltage that PWR shows, F40 volts (R179). -/
def State.busMean (s : State) : Int := s.rdS F.PWR_VBUS_V

/-- `v` volts in F40. -/
def volts (v : Int) : Int := v * 2 ^ 40

/-- The axis that SELk names. -/
def State.brakeAxis (s : State) (k : Nat) : Nat :=
  s.rd (if k = 0 then F.PWR_BRKCTL_SEL0 else if k = 1 then F.PWR_BRKCTL_SEL1 else if k = 2 then F.PWR_BRKCTL_SEL2
    else F.PWR_BRKCTL_SEL3)

/-- The AUTO condition of brake output `k` (R347). Log entry 67 (DEDUCED). -/
def State.brakeAuto (s : State) (k : Nat) : Bool :=
  let a := s.brakeAxis k
  s.modeIn [.armed, .run] && s.gateEnable a && s.bit (F.PWM_AX_CTL_OEN a)

/-- The brake outputs follow their commands and conditions (R49, R50, R64, R347). Log entry 67 (DEDUCED). -/
def State.brakeLook (s : State) : State :=
  s.upto 4 (fun k s =>
    let auto := s.bitAt F.PWR_BRKCTL_AUTO k
    let cond := s.brakeAuto k
    let s1 := if auto && !cond then { s with brkWait := natBit s.brkWait k false } else s
    let may := !s1.bit F.SAF_STATUS_STO && decide (volts 38 ≤ s1.busMean) && !s1.bitAt F.PWR_BRKSTAT_ILIM k
      && s1.modeIn [.standby, .armed, .run]
    let cmd := if auto then cond && !s1.brkWait.testBit k else s1.bitAt F.PWR_BRKCTL_ON k
    s1.setBitAt F.PWR_BRKSTAT_OUT k (may && cmd))

/-! ### Modes -/

/-- Counts by which TST delays the pass of quad `q` after its conversion (R612). Log entry 126 (DEDUCED). -/
def State.tstDelay (s : State) (q : Nat) : Nat :=
  let x := Tab.get Quad.init s.quads q
  (if s.tstOn 7 && s.bitAt F.TST_ADCDLY_QUADS q then s.rd F.TST_ADCDLY_DLY else 0)
    + (if s.tstOn 6 && s.bitAt F.TST_LANE_QUADS q && (s.bit F.TST_LANE_ALL || s.rd F.TST_LANE_SIDX == x.point) then
        s.rd F.TST_LANE_DLY else 0)

/-- TST_CTL.ACTIVE follows the mode and the consents; when it clears, every perturbation stops and a flash stretch in progress
ends (R611). Log entry 126 (DEDUCED). -/
def State.tstLook (s : State) : State :=
  let act := s.bit F.TST_CTL_TEST_ENABLE && (s.modeIn [.standby, .armed]
    || (s.mode == .run && s.bit F.TST_CTL_TEST_RUN && s.bit F.TST_SAF_RUNOK))
  if act == s.bit F.TST_CTL_ACTIVE then s
  else if act then s.on F.TST_CTL_ACTIVE
  else
    let s1 := s.upto 6 (fun q s =>
      let e : Instr := .laneCurrentPass (Fin.ofNat 6 q)
      match (Tab.get Lane.init s.lanes q).beginAt with
      | some t =>
        let n := t - s.now - s.tstDelay q
        { s with lanes := Tab.set Lane.init s.lanes q { Tab.get Lane.init s.lanes q with beginAt := some (s.now + n) } }.after n e
      | none => s)
    let s2 := if s1.due .tickJitterDelivery then s1.after 0 .tickJitterDelivery else s1
    let s3 := match s2.flcOp with
      | .stretch _ _ b => s2.after 0 (.flashBusyStretchEnd (b == 1))
      | _ => s2
    s3.off0 F.TST_CTL_ACTIVE

/-- Save set `n` of core `c`: the numbers of SPC and SPS (R367, R412). -/
def spcReg (n : Nat) : Nat := 0x10 + 2 * n

/-- SPS of a save set. -/
def spsReg (n : Nat) : Nat := 0x11 + 2 * n

/-- Zenou-S leaves monitor state at an exit from STANDBY, as if its monitor had executed RETE (R604): the monitor's saved state
is restored, or takes the place of the monitor in the save set of the handler that interrupted it. -/
def State.monitorDrop (s : State) : State :=
  if !s.coreMon 4 then s
  else
    let s1 := s.off0 (F.DBG_C_STAT_MONST 4)
    let lvl := s1.rd F.DBG_CTL_MONLVL
    let sps := s1.sreg 4 (spsReg 8)
    if getBits (s1.sreg 4 0) 2 3 = lvl then
      let s2 := s1.setSreg 4 0 (setBits (s1.sreg 4 0) 0 5 (getBits sps 0 5))
      s2.setCore 4 { s2.core 4 with pc := s2.sreg 4 (spcReg 8), exempt := some (s2.sreg 4 (spcReg 8)).toNat, stepping := false }
    else s1.upto 8 (fun n s =>
      if lvl < n ∧ n < 8 ∧ getBits (s.sreg 4 (spsReg n)) 2 3 = lvl ∧ n ≤ getBits (s.sreg 4 0) 2 3 then
        (s.setSreg 4 (spcReg n) (s.sreg 4 (spcReg 8))).setSreg 4 (spsReg n) (setBits (s.sreg 4 (spsReg n)) 0 5 (getBits sps 0 5))
      else s)

/-- The DRIFT counts restart as STANDBY is left (R177). -/
def State.driftClear (s : State) : State :=
  s.upto 24 (fun a s => if (s.axis a).drift = 0 then s else s.setAxis a { s.axis a with drift := 0 })

/-- The mode changes (R20, R553, R307): SYS_MODE, LAST_FROM and LAST_TO, S16 and CH63 input 0; DBGREL clears and Zenou-S leaves
monitor state at every exit from STANDBY (R550, R604); a boundary-scan instruction becomes BYPASS outside BOOT and STANDBY
(R62). -/
def State.setMode (s : State) (m : Mode) : State :=
  let old := s.rd F.SYS_MODE_MODE
  let s1 := ((s.wr F.SYS_MODE_MODE m.code).wr F.SYS_MODESTAT_LAST_FROM old).wr F.SYS_MODESTAT_LAST_TO m.code
  let s2 := if old = 3 then (s1.off0 F.SAF_MWDT_DBGREL).driftClear.monitorDrop else s1
  let s3 := if m = .boot ∨ m = .standby ∨ !(s2.tapIr == 2 || s2.tapIr == 3) then s2
    else { s2 with tapIr := 0x1F, tapData := 0, boundary := [] }
  (s3.tstLook.irqS 16).fire 63 0

/-- A request refused with `reason` (R72). Log entry 21 (DEDUCED). -/
def State.modeRefuse (s : State) (reason : Nat) : State :=
  let s1 := ((s.off0 F.SYS_MODESTAT_PEND).on F.SYS_MODESTAT_REFUSED).wr F.SYS_MODESTAT_REASON reason
  (s1.irq 80).cancel .safeStopAckTimeout

/-! ### The STO chain -/

/-- Whether something asserts the chain (R538, R542): a channel not released, HOLD, a safety fault outside a running SS1, or a
cause of R535, R536 or R549; and every mode in which the chain is not released (R555). -/
def State.stoDemand (s : State) : Bool :=
  !s.bit F.SAF_STATUS_STOA_REL || !s.bit F.SAF_STATUS_STOB_REL || s.bit F.SAF_STOCTL_HOLD || s.stoForce
    || (s.reg A.SAF_FAULT != 0 && !s.bit F.SAF_STATUS_SS1) || s.modeIn [.off, .dormant, .boot, .shutdown]

/-- Whether the conditions of R539 for a release hold. -/
def State.stoMayRelease (s : State) : Bool :=
  s.bit F.SAF_STATUS_STOA_REL && s.bit F.SAF_STATUS_STOB_REL && !s.bit F.SAF_STOCTL_HOLD && s.reg A.SAF_FAULT == 0
    && !s.stoForce && s.modeIn [.standby, .armed, .run]

/-- The chain asserts (R50, R152, R538, R539): every gate off, every brake command cleared, CH62 input 0, S1; HOLD when the mode
is SAFE_STOP. Log entries 3 (DESIGN CHOICE), 67 (DEDUCED), 133 (DEDUCED). -/
def State.stoAssert (s : State) : State :=
  let s0 := s.cancel .stoChainRelease
  if s0.bit F.SAF_STATUS_STO then s0
  else
    let s1 := s0.on F.SAF_STATUS_STO
    let s2 := if s1.mode == .safeStop then s1.on F.SAF_STOCTL_HOLD else s1
    (((s2.wr F.PWR_BRKCTL_ON 0).driveAll.brakeLook).fire 62 0).irqS 1

/-- The chain looked at again: assert on demand, start the release delay when the conditions hold, cancel it when not (R538,
R539, R554).  The delay is 1 ms, and the supplies return within 100 µs. Log entries 26 (DEDUCED), 64 (DEDUCED). -/
def State.stoLook (s : State) : State :=
  if s.stoDemand then s.stoAssert
  else if s.bit F.SAF_STATUS_STO && s.stoMayRelease then
    if s.due .stoChainRelease then s else s.after (ms 1 + us 100) .stoChainRelease
  else s.cancel .stoChainRelease

/-- STO_CHAIN_RELEASE (R539): the supplies are back, STATUS.STO clears, CH62 input 1. Log entry 64 (DEDUCED). -/
def execStoChainRelease (s : State) : Result :=
  let s1 := s.cancel .stoChainRelease
  if s1.bit F.SAF_STATUS_STO && s1.stoMayRelease && !s1.stoDemand then
    ok (((s1.off0 F.SAF_STATUS_STO).driveAll.brakeLook.fire 62 1).irqS 1)
  else ok s1

/-! ### SAFE_STOP -/

/-- The rows of R636, as bits of `ssCauses`: 0 a safety fault, 1 an STO input, 2 a position-error fault, 3 mains loss, 4 bus
overvoltage, 5 baseplate, 6 a deferred module reset, 7 three lost fabric cycles, 8 the bus at 38 V. -/
def ssCode (kind : Nat) : Nat :=
  if kind = 0 then 1 else if kind = 1 then 2 else if kind ≤ 6 then 3 else if kind = 7 then 4 else 5

/-- Whether cause `kind` is still present (R636). Log entry 65 (DEDUCED). -/
def State.causePresent (s : State) (kind : Nat) : Bool :=
  match kind with
  | 0 => s.reg A.SAF_FAULT != 0
  | 1 => !s.bit F.SAF_STATUS_STOA_REL || !s.bit F.SAF_STATUS_STOB_REL
  | 2 => false
  | 3 => s.bit F.PWR_STATUS_MAINSLOSS
  | 4 => decide (volts 60 < s.busMean)
  | 5 => decide ((95 : Int) * 2 ^ 24 ≤ s.rdS F.THM_TB_T)
  | 6 => s.bit F.SYS_MODESTAT_RST_PENDING
  | 7 => s.bit F.FAB_CYC_STAT_CONSEC
  | _ => !s.bit F.SYS_READY_BUS

/-- Whether a cause that arrived during this SAFE_STOP is still present (R548, R636). Log entry 65 (DEDUCED). -/
def State.anyCausePresent (s : State) : Bool :=
  (List.range 9).any (fun k => s.ssCauses.testBit k && s.causePresent k)

/-- The speed bounds that the SS1 monitor keeps from entry on (R543). -/
def State.ssBounds (s : State) : State :=
  s.upto 24 (fun a s =>
    let v := s.rdS (F.SAF_AX_SPD_V a)
    let m : Int := if v < 0 then -v else v
    s.setAxis a { s.axis a with ssBound := m + (s.rd (F.SAF_AX_CFG_SS1TOL a) : Int) * 2 ^ 16 })

/-- SAFE_STOP is entered with first cause `kind` (R73, R79, R153, R241, R262, R542): the pending request is refused, from RUN the
ramp and the SS1 timer start, otherwise STO asserts at once; a chain that is asserted already is held too (R539).
Log entries 65 (DEDUCED), 133 (DEDUCED). -/
def State.enterSafeStop (s : State) (kind : Nat) : State :=
  let s0 := if s.bit F.SYS_MODESTAT_PEND then s.modeRefuse 9 else s
  let run := s0.mode == .run
  let s1 := { (s0.learnAbort.setMode .safeStop) with ssFromRun := run, ssCauses := 2 ^ kind }
  let s2 := (s1.wr F.SYS_MODESTAT_SS_CAUSE (ssCode kind)).fire 62 2
  let s3 := if run then (s2.ssBounds.rampStart.on F.SAF_STATUS_SS1).after (ms (s2.rd F.SAF_SS1_TIME)) .ss1Expire else s2
  let s4 := (if s3.bit F.SAF_STATUS_STO then s3.on F.SAF_STOCTL_HOLD else s3).brakeLook
  if run then s4 else s4.stoAssert.stoLook

/-- A SAFE_STOP cause in the cycle of an acknowledge (R554): the acknowledge is refused and SAFE_STOP goes on; the edges that the mode
change raised stay. Log entry 20 (DEDUCED). -/
def State.ackUndo (s : State) (causes from_ : Nat) (run : Bool) (kind : Nat) : State :=
  let s1 := ((s.wr F.SYS_MODE_MODE Mode.safeStop.code).wr F.SYS_MODESTAT_LAST_FROM from_).wr F.SYS_MODESTAT_LAST_TO Mode.safeStop.code
  ({ s1 with ssCauses := natBit causes kind true, ssFromRun := run, ackWas := none }.modeRefuse 9).tstLook.brakeLook.stoLook

/-- A SAFE_STOP cause (R73, R79, R80, R541): entry from ARMED and RUN, from STANDBY for a safety fault; in SAFE_STOP it counts
as a later cause and refuses the waiting request. Log entries 65 (DEDUCED), 134 (DEDUCED). -/
def State.safeStop (s : State) (kind : Nat) : State :=
  match s.mode with
  | .armed => s.enterSafeStop kind
  | .run => s.enterSafeStop kind
  | .standby =>
    match s.ackWas with
    | some (t, causes, from_, run) =>
      if s.same t then s.ackUndo causes from_ run kind else if kind = 0 then s.enterSafeStop kind else s
    | none => if kind = 0 then s.enterSafeStop kind else s
  | .safeStop =>
    let s1 := { s with ssCauses := natBit s.ssCauses kind true }
    if s1.bit F.SYS_MODESTAT_PEND then s1.modeRefuse 9 else s1
  | _ => s

/-- A safety fault: the SAF_FAULT bit, SAFE_STOP, then the chain (R538, R541). Log entry 134 (DEDUCED). -/
def State.safetyFault (s : State) (f : Fld) : State := ((s.on f).safeStop 0).stoLook

/-- An SLS or cross-check fault: in STANDBY the bit and the chain alone (R74, R541, R555). Log entry 134 (DEDUCED). -/
def State.driveFault (s : State) (f : Fld) : State :=
  if s.mode == .standby then (s.on f).stoLook else s.safetyFault f

/-- SAFE_ST conducts (R56). -/
def State.safeStConducts (s : State) : Bool :=
  s.bit F.SAF_STATUS_STOA_REL && s.bit F.SAF_STATUS_STOB_REL && s.reg A.SAF_FAULT == 0
    && s.modeIn [.standby, .armed, .run]

end Sys2Proof.Machine
end

