-- ==== Sys2Proof/Machine/Cores.lean ====
section
/-! DEFINITION. The Zenou cores as the rest of the module sees them: PSR, the load-link reservation (R375, R376), the unlock
window of SYS (R377), core resets (R97, R379, R428) and the interrupt controllers (R419-R425). -/
namespace Sys2Proof.Machine

/-! ### PSR -/

/-- PSR.MON (R596): monitor state at the monitor level. -/
def State.psrMon (s : State) (c : Nat) : Bool :=
  s.coreMon c && getBits (s.sreg c 0) 2 3 == s.rd F.DBG_CTL_MONLVL

/-- PSR as it reads (R367). -/
def State.psr (s : State) (c : Nat) : Word := setBits (s.sreg c 0) 5 1 (if s.psrMon c then 1 else 0)

/-- PSR.PRIV: supervisor. -/
def State.psrSup (s : State) (c : Nat) : Bool := (s.sreg c 0).getLsbD 0

/-- PSR.IE. -/
def State.psrIE (s : State) (c : Nat) : Bool := (s.sreg c 0).getLsbD 1

/-- PSR.LEVEL. -/
def State.psrLevel (s : State) (c : Nat) : Nat := getBits (s.sreg c 0) 2 3

/-- `s` with PRIV, IE and LEVEL of core `c` replaced. -/
def State.setPsr (s : State) (c : Nat) (sup ie : Bool) (level : Nat) : State :=
  s.setSreg c 0 (setBits (setBits (setBits (s.sreg c 0) 0 1 (if sup then 1 else 0)) 1 1 (if ie then 1 else 0)) 2 3 level)

/-- The base of core `c`'s I-SRAM, its reset vector (R35, R352, R379). -/
def isramBase (c : Nat) : Nat := if c < 4 then 0x01000000 + 0x100000 * c else 0x0C100000

/-- The writer that core `c` is. -/
def State.coreWriter (s : State) (c : Nat) : Writer := if c < 4 then .coreA (Fin.ofNat 4 c) (s.psrSup c) else .coreS

/-- Whether core `c` runs in deterministic mode (R352, R353). -/
def State.deterministic (s : State) (c : Nat) : Bool := c == 4 || (s.sreg c 5).getLsbD 3

/-! ### Reservation and unlock window -/

/-- `s` with the reservation of core `c` cleared. -/
def State.resvClear (s : State) (c : Nat) : State := s.setCore c { s.core c with resv := none }

/-- A store to the `n` bytes from `a` clears every reservation on a row that it touches (R376). -/
def State.resvStore (s : State) (a n : Nat) : State :=
  s.upto 5 (fun c s =>
    match (s.core c).resv with
    | some r => if r < a + n ∧ a < r + 16 then s.resvClear c else s
    | none => s)

/-- Whether the SYS unlock window of the writer with key `k` is open (R377). Log entry 34 (DEDUCED). -/
def State.windowOpen (s : State) (k : Nat) : Bool := s.windows.contains k

/-- The window of the writer with key `k` closes. -/
def State.windowClose (s : State) (k : Nat) : State :=
  { s with windows := s.windows.filter (fun x => x != k) }.cancel (.unlockWindowExpire k)

/-- The length of a writer's window in drive-base cycles (R377). -/
def windowLength : Writer → Nat
  | .coreA _ _ => 8
  | .coreS => 16
  | .rom => 16
  | .dma _ => 16
  | _ => us 100

/-- A write of SYS_KEY (R99, R377). Log entry 34 (DEDUCED). -/
def State.keyWrite (s : State) (w : Writer) (v : Word) : State :=
  let user := match w with
    | .coreA _ sup => !sup
    | _ => false
  if getBits v 0 16 != 0x7A3C || user then s
  else
    let k := writerKey w
    let s1 := s.windowClose k
    let s2 := { s1 with windows := k :: s1.windows }
    (s2.off0 F.SYS_CORERST_LOCK_ERR).after (windowLength w) (.unlockWindowExpire k)

/-- A write of a protected SYS register (R99, R377): `act` where the writer's window is open, which closes; else LOCK_ERR. -/
def State.protect (s : State) (w : Writer) (act : State → State) : State :=
  let user := match w with
    | .coreA _ sup => !sup
    | _ => false
  if s.windowOpen (writerKey w) && !user then act (s.windowClose (writerKey w)) else s.on F.SYS_CORERST_LOCK_ERR

/-- UNLOCK_WINDOW_EXPIRE (R377). -/
def execUnlockWindowExpire (key : Nat) (s : State) : Result := ok (s.windowClose key)

/-! ### Window watchdogs (R551) -/

/-- The event of a window watchdog's expiry. -/
def cwdEvent (c : Nat) : Instr := .cwdExpire (Fin.ofNat 4 c)

/-- The window watchdog of core `c` restarts, if it is enabled. -/
def State.cwdStart (s : State) (c : Nat) : State :=
  if s.bit (F.SAF_CWD_EN c) then
    let n := 75000 * s.rd (F.SAF_CWD_TMO c)
    { s with cwdLen := Tab.put s.cwdLen c n }.after n (cwdEvent c)
  else s.cancel (cwdEvent c)

/-- The window watchdog of core `c` stops. -/
def State.cwdStop (s : State) (c : Nat) : State := { s with cwdLen := Tab.del s.cwdLen c }.cancel (cwdEvent c)

/-- Whether core `c`'s window watchdog stands still. -/
def State.cwdFrozen (s : State) (c : Nat) : Bool := s.bit (F.SAF_CWD_FRZ c) && s.coreMon c

/-- Core `c` leaves monitor state: a frozen watchdog resumes with at least 1 ms. -/
def State.cwdResume (s : State) (c : Nat) : State :=
  if s.bit (F.SAF_CWD_FRZ c) && s.due (cwdEvent c) && decide (s.remaining (cwdEvent c) < ms 1) then s.after (ms 1) (cwdEvent c)
  else s

/-! ### Core reset -/

/-- The event of the end of a core reset's least length. -/
def coreEvent (c : Nat) : Instr := .coreResetRelease (Fin.ofNat 4 c)

/-- The interrupt controller of a core after its reset (R428). -/
def State.icuReset (s : State) (c : Nat) : State :=
  let s1 := s.upto 16 (fun r s => (s.setReg (A.ICU_PEND c r) 0).setReg (A.ICU_ACT c r) 0)
  let s2 := (s1.off0 (F.ICU_GDIS_DIS c)).off0 (F.ICU_STAT_LOCKUP c)
  s2.upto 32 (fun g s => ((s.wr (F.ICU_GRP_COUNT c g) 0).off0 (F.ICU_GRP_RUN c g)).cancel (groupEvent c g))

/-- Core `c` enters reset (R97, R107, R379, R428, R601): its special registers at reset but for the memory mode, its window
registers and memories kept, its slots' PEND, its window and its reservation cleared; a far transaction of its own
no longer has an issuer. -/
def State.coreHold (s : State) (c : Nat) : State :=
  let x := s.core c
  let cfg := s.sreg c 5
  let s1 := s.setCore c { Core.init with wregs := x.wregs, sbuf := x.sbuf, pc := BitVec.ofNat 48 (isramBase c), released := x.released }
  let s1b := { s1 with farOps := s1.farOps.filter (fun o => o.owner != c) }.cancel (.farTimeout (Fin.ofNat 21 c))
  let s2 := (s1b.setSreg c 5 cfg).icuReset c
  let s3 := ((s2.off0 (F.DBG_C_STAT_MONST c)).off0 (F.DBG_C_STAT_HALTPEND c)).off0 (F.DBG_C_CTL_STEP c)
  let s4 := s3.upto 16 (fun n s => if s.rd (F.TICK_SLOT_ACORE n) = c then s.off0 (F.TICK_SLOT_PEND n) else s)
  ((s4.windowClose c).cwdStop c).setReady (8 + c) false

/-- Core `c` starts at its reset vector (R379). -/
def State.coreGo (s : State) (c : Nat) : State :=
  let x := s.core c
  ((s.setCore c { x with run := .running, released := true, fresh := false }).cwdStart c).setReady (8 + c) true

/-- The cause of a core reset in SYS_CORECAUSE: 0 WDT, 1 REQ, 2 DBG. Log entry 32 (DEDUCED). -/
def State.coreCause (s : State) (c k : Nat) : State := s.wr ⟨A.SYS_CORECAUSE, 4 * c, 3⟩ (2 ^ k)

/-- A core reset of cause `k` that ends by itself after 1 µs (R97). Log entry 33 (DEDUCED). -/
def State.coreReset (s : State) (c k : Nat) : State :=
  if !(s.core c).released then s
  else ((s.coreHold c).coreCause c k).after (us 1) (coreEvent c)

/-- Whether core `c` may leave its reset: released at the end of BOOT and not held by its HOLD bit. Log entry 32 (DEDUCED). -/
def State.coreMayGo (s : State) (c : Nat) : Bool :=
  (s.core c).run == .held && (s.core c).released && !s.bitAt F.SYS_CORERST_HOLD c

/-- CORE_RESET_RELEASE (R97). -/
def execCoreResetRelease (c : Fin 4) (s : State) : Result :=
  let s1 := s.cancel (.coreResetRelease c)
  ok (if s1.coreMayGo c then s1.coreGo c else s1)

/-- A write of SYS_CORERST.HOLD inside the window (R97). -/
def State.coreHoldWrite (s : State) (w : Writer) (v : Word) : State :=
  let old := s.rd F.SYS_CORERST_HOLD
  let s1 := s.wr F.SYS_CORERST_HOLD (getBits v 0 4)
  s1.upto 4 (fun c s =>
    if v.getLsbD c && !old.testBit c then
      ((s.coreHold c).coreCause c (if s.isDebug w then 2 else 1)).after (us 1) (coreEvent c)
    else if !v.getLsbD c && old.testBit c && !s.due (coreEvent c) && s.coreMayGo c then s.coreGo c
    else s)

/-- A write of AON_CWDSVCn by core `n` (R551): 0xC3A5 restarts the watchdog; inside the closed window it resets the core.
Log entry 49 (DEDUCED). -/
def State.cwdService (s : State) (w : Writer) (c : Nat) (v : Word) : State :=
  let own := match w with
    | .coreA n _ => n.val == c
    | _ => false
  if !own || getBits v 0 16 != 0xC3A5 || !s.due (cwdEvent c) then s
  else
    let len := Tab.get 0 s.cwdLen c
    if 16 * (len - s.remaining (cwdEvent c)) < s.rd (F.SAF_CWD_WIN c) * len then s.coreReset c 0 else s.cwdStart c

/-- CWD_EXPIRE (R551): the window watchdog of a core that runs resets it. -/
def execCwdExpire (c : Fin 4) (s : State) : Result :=
  let s1 := s.cancel (.cwdExpire c)
  ok (if s.due (.cwdExpire c) && !s.cwdFrozen c then s1.coreReset c 0 else s1)

/-- SYS_CORERST_WRITE. Log entry 32 (DEDUCED). -/
def State.corerstWrite (s : State) (w : Writer) (v : Word) : State := s.protect w (fun s => s.coreHoldWrite w v)

/-! ### Interrupt controllers -/

/-- The pending, inactive sources of instance `c`, in rising order. -/
def State.icuReady (s : State) (c : Nat) : List Nat :=
  (List.range 16).flatMap (fun r =>
    let p := s.rd (F.ICU_PEND_PEND c r)
    if p = 0 then []
    else
      let a := s.rd (F.ICU_ACT_ACT c r)
      ((List.range 32).filter (fun i => p.testBit i && !a.testBit i)).map (fun i => 32 * r + i))

/-- The level of a source, 0 for one that is disabled. -/
def State.icuLevel (s : State) (c src : Nat) : Nat := s.rd (F.ICU_CFG_LEVEL c src)

/-- The level on the request line, 0 for none (R420, R421). -/
def State.icuRequest (s : State) (c : Nat) : Nat :=
  if s.bit (F.ICU_GDIS_DIS c) then 0
  else (s.icuReady c).foldl (fun m src =>
    let l := s.icuLevel c src
    if 1 ≤ l ∧ l ≤ 6 ∧ !s.bit (F.ICU_CFG_GEN c src) then max m l else m) 0

/-- The source that a claim returns (R422): by level `some l`, or the highest. -/
def State.icuPick (s : State) (c : Nat) (level : Option Nat) : Option Nat :=
  let l := (s.icuReady c).filter (fun src => decide (1 ≤ s.icuLevel c src ∧ s.icuLevel c src ≤ 6))
  match level with
  | some m => l.find? (fun src => s.icuLevel c src == m)
  | none => l.foldl (fun best src =>
      match best with
      | some b => if s.icuLevel c b < s.icuLevel c src then some src else some b
      | none => some src) none

/-- The level by which reader `r` claims at instance `c`: its own core at levels 1-7 by its level, else the highest. -/
def State.icuBy (s : State) (r : Writer) (c : Nat) : Option Nat :=
  let own := match r with
    | .coreA n _ => n.val == c
    | .coreS => c == 4
    | _ => false
  if own && s.psrLevel c != 0 then some (s.psrLevel c) else none

/-- The word that names a claimed source (R431). -/
def claimWord (src level : Nat) : Word := BitVec.ofNat 48 (src + 512 * level + 4096)

/-- A read of ICU_CLAIM (R422): an edge of the same cycle stays pending (R427). -/
def State.icuClaim (s : State) (r : Writer) (c : Nat) : Word × State :=
  match s.icuPick c (s.icuBy r c) with
  | none => (0, if s.sideFx r then s.on (F.ICU_STAT_SPURIOUS c) else s)
  | some src =>
    let w := claimWord src (s.icuLevel c src)
    (w, if s.sideFx r then (s.wrb (pendFld c src) (s.edgeHere c src)).on (actFld c src) else s)

/-- A write of ICU_CLAIM (R423). -/
def State.icuEoi (s : State) (c : Nat) (v : Word) : State :=
  let src := getBits v 0 9
  if v.getLsbD 12 && s.bit (actFld c src) then s.off0 (actFld c src) else s.on (F.ICU_STAT_EOI_ERR c)

/-- A write of ICU_PENDr (R431): a source with an edge in the same cycle stays pending (R427). -/
def State.icuPendWrite (s : State) (c r : Nat) (v : Word) : State :=
  s.upto 32 (fun i s => if v.getLsbD i && !s.edgeHere c (32 * r + i) then s.off0 (pendFld c (32 * r + i)) else s)

/-- A write of ICU_SWI (R425, R553). -/
def State.icuSwi (s : State) (c : Nat) (v : Word) : State :=
  s.upto 4 (fun m s => if v.getLsbD m then s.edge c (112 + m) else s)

/-- A write of ICU_CFGr (R419, R424, R431): reserved sources ignore it; LEVEL 7 and a GEN bit on S480-S511 are refused. -/
def State.icuCfgWrite (s : State) (c r : Nat) (v : Word) : State :=
  s.upto 4 (fun j s =>
    let src := 4 * r + j
    if !sourceExists c src then s
    else
      let lv := getBits v (12 * j) 3
      let gen := v.getLsbD (12 * j + 3)
      let s1 := if lv = 7 then s.on (F.ICU_STAT_CFG_ERR c) else s.wr (F.ICU_CFG_LEVEL c src) lv
      let s2 := if gen && decide (480 ≤ src) then s1.on (F.ICU_STAT_CFG_ERR c) else s1.wrb (F.ICU_CFG_GEN c src) gen
      s2.wr (F.ICU_CFG_GRP c src) (getBits v (12 * j + 4) 5))

/-- A write of ICU_GRPg (R424, R431): THR 0 is refused. -/
def State.icuGrpWrite (s : State) (c g : Nat) (v : Word) : State :=
  let s1 := if getBits v 0 8 = 0 then s.on (F.ICU_STAT_CFG_ERR c) else s.wr (F.ICU_GRP_THR c g) (getBits v 0 8)
  s1.wr (F.ICU_GRP_TLIM c g) (getBits v 8 16)

/-- ICU_STAT as it reads: the request line and the lockup of the core (R431). -/
def State.icuStat (s : State) (c : Nat) : Word :=
  let m := s.icuRequest c
  let w := setBits (setBits (s.reg (A.ICU_STAT c)) 0 1 (if m = 0 then 0 else 1)) 1 3 m
  setBits w 5 1 (if (s.core c).run == .lockup then 1 else 0)

/-- ICU_SOURCE_EDGE (R419, R424, R426, R553). -/
def execIcuSourceEdge (c : Fin 5) (src : Fin 512) (s : State) : Result := ok (s.edge c src)

/-- The member edges of group `g` in the cycle of what happens now. -/
def State.groupEdges (s : State) (c g : Nat) : Nat :=
  (s.icuEdges.filter (fun p =>
    let src := p.1 % 512
    p.1 / 512 == c && decide (src < 480) && s.same p.2 && s.bit (F.ICU_CFG_GEN c src) && s.rd (F.ICU_CFG_GRP c src) == g)).length

/-- ICU_GROUP_TIMEOUT (R424): a group whose timer runs fires; member edges of the same cycle count in the new window (R427). -/
def execIcuGroupTimeout (c : Fin 5) (g : Fin 32) (s : State) : Result :=
  let n := s.groupEdges c g
  let s1 := s.groupFire c g
  ok (if !s.bit (F.ICU_GRP_RUN c g) then s
    else if n = 0 then s1
    else ((s1.wr (F.ICU_GRP_COUNT c g) n).groupTimer c g))

end Sys2Proof.Machine
end

