-- ==== Sys2Proof/Machine/Fb.lean ====
section
/-! DEFINITION. Position and speed feedback (R269-R300): the ports, the independent receivers of the safety partition (R544),
the serial links, the latch at a sample point and the encoder-emulation channels. -/
namespace Sys2Proof.Machine

/-- The working state of port `a`. -/
def State.port (s : State) (a : Nat) : Port := Tab.get Port.init s.ports a

/-- `s` with port `a` replaced. -/
def State.setPort (s : State) (a : Nat) (x : Port) : State := { s with ports := Tab.set Port.init s.ports a x }

/-- The working state of receiver `a`. -/
def State.rx (s : State) (a : Nat) : Rx := Tab.get Rx.init s.rxs a

/-- `s` with receiver `a` replaced. -/
def State.setRx (s : State) (a : Nat) (x : Rx) : State := { s with rxs := Tab.set Rx.init s.rxs a x }

/-- The working state of quad `q`'s sampling. -/
def State.quad (s : State) (q : Nat) : Quad := Tab.get Quad.init s.quads q

/-- `s` with quad `q`'s sampling replaced. -/
def State.setQuad (s : State) (q : Nat) (x : Quad) : State := { s with quads := Tab.set Quad.init s.quads q x }

/-- Whether quad `q` takes phase-current samples (R162, R163, R180, R181). -/
def State.sampling (s : State) (q : Nat) : Bool :=
  s.carrierOn q && !s.bit (F.ADC_Q_STATUS_SP_ERR q) && !s.modeIn [.off, .dormant, .boot]
    && !(s.mode == .shutdown && s.bistRunning) && !(s.mode == .standby && s.frz F.ADC_CTL_FRZ F.ADC_CTL_FRZCORE)

/-- A FLAG bit of port `a` set; its rise raises the FB interrupt when IEN enables it (R303). -/
def State.fbFlag (s : State) (a k : Nat) : State :=
  let f : Fld := ⟨A.FB_AX_FLAG a, k, 1⟩
  if s.bit f then s
  else
    let s1 := s.on f
    if s1.bitAt (F.FB_AX_IEN_IEN a) k then s1.irq (73 + a / 4) else s1

/-- Whether the contacts are in their reset and early BOOT states: up to the point at which the configuration is read (R64). -/
def State.earlyBoot (s : State) : Bool := s.mode == .boot && !s.bit F.SYS_READY_CFG

/-- Whether the encoder supply of quad `q` is on (R64, R66, R346). -/
def State.encOn (s : State) (q : Nat) : Bool :=
  s.bitAt F.PWR_SUPCTL_ENC q && !s.bitAt F.PWR_STATUS_ENC_OFF q && !s.modeIn [.off, .dormant, .shutdown] && !s.earlyBoot

/-- Whether FB is frozen (R300). -/
def State.fbFrozen (s : State) : Bool := s.mode == .standby && s.frz F.FB_CTL_FRZ F.FB_CTL_FRZCORE

/-! ### Counting (R272, R275) -/

/-- The place of levels (A, B) in the sequence 00, 10, 11, 01. -/
def quadIx (a b : Bool) : Nat :=
  match a, b with
  | false, false => 0
  | true, false => 1
  | true, true => 2
  | false, true => 3

/-- What a change of levels is: 0 none, 1 forward, 2 illegal, 3 backward. -/
def quadMove (a b na nb : Bool) : Nat := (quadIx na nb + 4 - quadIx a b) % 4

/-- Turns and remainder after an edge, `n` edges to a turn. -/
def countEdge (n t r : Nat) (fwd : Bool) : Nat × Nat :=
  if fwd then (if r + 1 = n then ((t + 1) % 2 ^ 24, 0) else (t, r + 1))
  else if r = 0 then ((t + 2 ^ 24 - 1) % 2 ^ 24, n - 1) else (t, r - 1)

/-- The position of `r` edges out of `n` in turn `t` (R272). -/
def gridPos (n t r : Nat) : Word := BitVec.ofNat 48 (t * 2 ^ 24 + r * 2 ^ 24 / max n 1)

/-- Turns and remainder nearest to a position (R272). -/
def gridOf (n : Nat) (p : Word) : Nat × Nat :=
  let t := p.toNat / 2 ^ 24
  let r := (2 * (p.toNat % 2 ^ 24) * n + 2 ^ 24) / 2 ^ 25
  if r = n then ((t + 1) % 2 ^ 24, 0) else (t, r)

/-- The sector 0-5 of a Hall code (R275), none for 0 and 7. -/
def hallSector (inv : Bool) (c : Nat) : Option Nat :=
  let k : Option Nat := match c with
    | 1 => some 0 | 3 => some 1 | 2 => some 2 | 6 => some 3 | 4 => some 4 | 5 => some 5 | _ => none
  match k with
  | some n => some (if inv then 5 - n else n)
  | none => none

/-- The centre of the `r`-th of `n` sectors of turn `t` (R275). -/
def hallCentre (n t r : Nat) : Word := BitVec.ofNat 48 (t * 2 ^ 24 + (2 * r + 1) * 2 ^ 24 / (2 * max n 1))

/-- The count nearest to `r` of `n` whose sector is `new`, with the turns: at most three sectors away, three counting as
forward. -/
def hallTo (n t r new : Nat) : Nat × Nat :=
  let d := (new + 6 - r % 6) % 6
  if d ≤ 3 then (if r + d < n then (t, r + d) else ((t + 1) % 2 ^ 24, r + d - n))
  else if 6 - d ≤ r then (t, r - (6 - d)) else ((t + 2 ^ 24 - 1) % 2 ^ 24, r + n - (6 - d))

/-- What a Hall code does to a counter of `n` sectors a turn at position `p`: turns, count, position, whether sectors were skipped,
direction (`none` where nothing moves).  A transition sets the boundary that it crosses: the near end of the sector that it enters
(R275). -/
def hallStep (n t r : Nat) (p : Word) (old : Option Nat) (restart : Bool) (new : Nat) : Nat × Nat × Word × Bool × Option Bool :=
  match old with
  | none => (0, new, hallCentre n 0 new, false, none)
  | some o =>
    let (t1, r1) := hallTo n t r new
    let (t2, r2) := countEdge n t1 r1 true
    let d := (new + 6 - o) % 6
    if restart then (t1, r1, hallCentre n t1 r1, false, none)
    else if d = 0 then (t, r, p, false, none)
    else if d = 1 then (t1, r1, gridPos n t1 r1, false, some true)
    else if d = 5 then (t1, r1, gridPos n t2 r2, false, some false)
    else (t1, r1, hallCentre n t1 r1, true, some (decide (d ≤ 3)))

/-- Edges per turn of port `a` (R272, R275). -/
def State.fbEdges (s : State) (a : Nat) : Nat :=
  if (s.port a).mode = 2 then 6 * s.inForce (F.FB_AX_CFG_HPP a) else s.inForce (F.FB_AX_CPE_CPE a)

/-! ### Speed (R285-R289) -/

/-- Whether the speed of port `a` is valid (R289). -/
def State.fbSpdValid (s : State) (a : Nat) : Bool :=
  let x := s.port a
  x.mode != 0 && s.bit (F.FB_AX_STAT_POSVALID a) && decide (2 ≤ x.seen) && s.bit F.SYS_READY_TICK

/-- `n / (e × d)` turns per second in F24, `d` in drive-base cycles. Log entry 61 (DEDUCED). -/
def edgeSpeed (n e d : Nat) : Int := rdiv ((n : Int) * 750000000 * 2 ^ 24) (max (e * d) 1)

/-- The edges of the last frame (R286). -/
def State.fbWindow (s : State) (a : Nat) : List Nat :=
  (s.port a).edges.filter (fun t => decide (s.now < t + s.inForce F.TICK_FRAME_COUNTS))

/-- ωT without its sign (R285). Log entry 61 (DEDUCED). -/
def State.fbSpeedT (s : State) (a : Nat) : Int :=
  match (s.port a).edges with
  | t1 :: t0 :: _ =>
    if s.now < t1 + s.inForce (F.FB_AX_LIM_TSTOP a) * s.inForce F.TICK_FRAME_COUNTS then
      edgeSpeed 1 (s.fbEdges a) (max (t1 - t0) (s.now - t1))
    else 0
  | _ => 0

/-- ωM without its sign (R286). Log entry 61 (DEDUCED). -/
def State.fbSpeedM (s : State) (a : Nat) : Int :=
  let w := s.fbWindow a
  match w with
  | t1 :: _ :: _ => edgeSpeed (w.length - 1) (s.fbEdges a) (t1 - w.getLastD t1)
  | _ => 0

/-- The serial speed (R288): 0 after TSTOP frames without an accepted sample. -/
def State.serSpeed (s : State) (a : Nat) : Int :=
  let x := s.port a
  let last := match x.accAt with
    | some t => t.1
    | none => x.tl
  if s.now < last + s.inForce (F.FB_AX_LIM_TSTOP a) * s.inForce F.TICK_FRAME_COUNTS then x.wser else 0

/-- What the last accepted serial sample, or at a sample point the one before a sample of the same cycle, leaves: position, latch
instant, speed, count of samples (R284). -/
def State.serLast (s : State) (a : Nat) : Word × Nat × Int × Nat :=
  let x := s.port a
  if s.sameAs x.accAt then x.oldSer else (x.pser, x.tl, s.serSpeed a, x.seen)

/-- The speed of a QUAD or HALL port with ωM `wm`, F24 (R285-R287). Log entry 61 (DEDUCED). -/
def State.edgeOmega (s : State) (a : Nat) (wm : Int) : Int :=
  let x := s.port a
  let t := s.fbSpeedT a
  let wt := if s.bit (F.FB_AX_STAT_DIR a) then -t else t
  sat48 (wt + rdiv ((wm - wt) * x.kn) (max x.kd 1))

/-- The live speed of port `a`, F24 (R285-R289): ωM is that of the last sample point; 0 where the speed is invalid, the
last one while the estimators are frozen (R300). Log entry 61 (DEDUCED). -/
def State.fbSpeed (s : State) (a : Nat) : Int :=
  let x := s.port a
  if !s.fbSpdValid a then 0
  else if s.fbFrozen then s.rdS (F.FB_AX_SPD_V a)
  else if x.mode = 1 ∨ x.mode = 2 then s.edgeOmega a x.wm
  else s.serSpeed a

/-- The selection of the method and its weight at a sample point, `n` samples to a frame (R287). Log entry 61 (DEDUCED). -/
def State.fbBlend (s : State) (a n : Nat) : State :=
  let x := s.port a
  let epf := min 255 (s.fbWindow a).length
  let m := if 5 ≤ epf then true else if epf ≤ 1 then false else s.bit (F.FB_AX_STAT_METHOD a)
  let num := if m then x.kn * n + x.kd else x.kn * n - x.kd
  let den := x.kd * n
  let (kn, kd) := if num = 0 then (0, 1) else if den ≤ num then (1, 1) else (num / Nat.gcd num den, den / Nat.gcd num den)
  let w := s.fbSpeedM a
  let s1 := s.setPort a { x with kn, kd, wm := if s.bit (F.FB_AX_STAT_DIR a) then -w else w }
  ((s1.wr (F.FB_AX_CNT_EPF a) epf).wrb (F.FB_AX_STAT_METHOD a) m).wrb (F.FB_AX_STAT_BLEND a) (decide (0 < kn ∧ kn < kd))

/-! ### Position -/

/-- The live position of port `a` (R272, R275, R284, R291). -/
def State.fbPos (s : State) (a : Nat) : Word :=
  let x := s.port a
  if x.mode = 0 ∨ !s.bit (F.FB_AX_STAT_POSVALID a) then x.held
  else if x.mode = 1 then gridPos (s.fbEdges a) x.t x.r
  else if x.mode = 2 then
    let n := s.fbEdges a
    if s.inForce (F.FB_AX_CFG_HINTERP a) = 1 ∧ s.fbSpdValid a then
      let at_ := x.edges.headD s.now
      let rel : Int := wrap48 ((x.hpos.toNat : Int) - (gridPos n x.t x.r).toNat) + rdiv (s.fbSpeed a * (s.now - at_ : Nat)) 750000000
      let top : Int := 2 ^ 24 / max n 1
      wordOf ((gridPos n x.t x.r).toNat + (if rel < 0 then 0 else if top < rel then top else rel))
    else x.hpos
  else x.pser

/-- FB_AXa_CFG.MODE, CPE, HPP or FB_AXa_SER disagrees with the receiver's settings (R295). -/
def State.safMis (s : State) (a : Nat) : Bool :=
  s.inForce (F.FB_AX_CFG_MODE a) != s.rd (F.SAF_AX_RXCFG_MODE a) || s.inForce (F.FB_AX_CPE_CPE a) != s.rd (F.SAF_AX_RXCFG_CPE a)
    || s.inForce (F.FB_AX_CFG_HPP a) != s.rd (F.SAF_AX_RXCFG_HPP a)
    || (s.regInForce (A.FB_AX_SER a)).toNat != s.rd (F.SAF_AX_RXSER_SER a)

/-- FB_AXa_STAT as it is now: SPDVALID and SAFMIS follow what they show (R289, R295). -/
def State.fbStat (s : State) (a : Nat) : Word :=
  setBits (setBits (s.reg (A.FB_AX_STAT a)) 1 1 (if s.fbSpdValid a then 1 else 0)) 6 1 (if s.safMis a then 1 else 0)

/-- The bits and registers of port `a` that follow its state: SPDVALID, SAFMIS, POS (R289, R293, R295). -/
def State.fbShow (s : State) (a : Nat) : State :=
  let s1 := (s.wrb (F.FB_AX_STAT_SPDVALID a) (s.fbSpdValid a)).wrb (F.FB_AX_STAT_SAFMIS a) (s.safMis a)
  s1.setReg (A.FB_AX_POS a) (s1.fbPos a)

/-- The event inputs of an axis in its quad's FB channel: 0 index, 1 direction change, 2 position loss (R307). -/
def State.fbEvent (s : State) (a ch j : Nat) : State := (s.fire ch a).fire (56 + a / 4) (3 * (a % 4) + j)

/-- The transaction of serial port `a` ends with nothing taken. -/
def State.serStop (s : State) (a : Nat) : State :=
  (s.setPort a { s.port a with busy := false }).cancel (.tephraTimeout (Fin.ofNat 24 a))

/-- A position loss with cause `k` (R291): REF reads 0 from then on, and transactions stop with cause 7 (R277).
Log entry 59 (DEDUCED). -/
def State.fbLoss (s0 : State) (a k : Nat) : State :=
  let s := if k = 7 then s0.serStop a else s0
  let x := s.port a
  let was := s.bit (F.FB_AX_STAT_POSVALID a)
  let s1 := (s.wr (F.FB_AX_STAT_LOSS a) k).off0 (F.FB_AX_STAT_REF a)
  if !was then s1.setPort a { x with seen := 0, prevA := none }
  else
    let s2 := (s1.setPort a { x with held := s.fbPos a, seen := 0, prevA := none, edges := [] }).off0 (F.FB_AX_STAT_POSVALID a)
    ((s2.fbShow a).fbFlag a 10).fbEvent a 54 2

/-- The position of port `a` is valid again. -/
def State.fbValid (s : State) (a : Nat) : State := (s.on (F.FB_AX_STAT_POSVALID a)).fbShow a

/-! ### Port start and stop (R269, R272, R277, R281) -/

/-- The transaction time of a serial port in counts (R277). -/
def State.serTime (s : State) (a : Nat) : Nat :=
  if s.inForce (F.FB_AX_CFG_MODE a) = 4 then 6750
  else (s.inForce (F.FB_AX_SER_BITS a) + 1) * 2 * s.inForce (F.FB_AX_SER_HP a) + s.inForce (F.FB_AX_SER_DLY a)
    + us (s.inForce (F.FB_AX_SER_MONO a))

/-- The shortest interval between triggers in counts (R277). -/
def State.trigGap (s : State) (a : Nat) : Nat :=
  let q := a / 4
  let frame := s.inForce F.TICK_FRAME_COUNTS
  if !s.carrierOn q then frame
  else
    let d := s.inForce (F.FB_AX_TRIG_DIV a) + 1
    let n := s.periodsPerFrame q
    let p := s.carrierPeriod q
    let last := (n - 1) / d * d
    if n ≤ d then frame else min (d * p) ((n - last) * p)

/-- Whether an SSI setting is one that the port can use (R278). -/
def State.serOk (s : State) (a : Nat) : Bool :=
  let b := s.inForce (F.FB_AX_SER_BITS a)
  let st := s.inForce (F.FB_AX_SER_ST a)
  decide (st ≤ b ∧ b - st ≤ 24 ∧ 8 ≤ b ∧ b ≤ 48)

/-- What the check of a serial port rests on: SER, TRIG, the carrier and the frame in force (R277). -/
def State.serBasis (s : State) (a : Nat) : List Nat :=
  [(s.regInForce (A.FB_AX_SER a)).toNat, (s.regInForce (A.FB_AX_TRIG a)).toNat, s.inForce (F.PWM_Q_PERIOD_PEAK (a / 4)),
    s.inForce F.TICK_FRAME_COUNTS, if s.carrierOn (a / 4) then 1 else 0]

/-- The checks of a serial port (R277, R278), made when what they rest on is new: CFG_ERR, TRIG_ERR, and the loss with cause 7.
Log entry 59 (DEDUCED). -/
def State.serCheck (s0 : State) (a : Nat) : State :=
  let m := (s0.port a).mode
  if m ≠ 3 ∧ m ≠ 4 then s0.off0 (F.FB_AX_FLAG_TRIG_ERR a)
  else if (s0.port a).checked = s0.serBasis a then s0
  else
    let s := s0.setPort a { s0.port a with checked := s0.serBasis a }
    let bad := m == 3 && !s.serOk a
    let short := decide (s.trigGap a < s.serTime a)
    let s1 := if bad then s.fbFlag a 12 else s
    let s2 := if short then s1.fbFlag a 11 else s1.off0 (F.FB_AX_FLAG_TRIG_ERR a)
    if bad || short then s2.fbLoss a 7 else s2

/-- Port `a` stops: mode OFF, or the block is switched off (R269, R299).  Its position and its preset offset stay (R291, R292).
Log entry 147 (DESIGN CHOICE). -/
def State.fbStop (s : State) (a : Nat) : State :=
  let x := s.port a
  let held := if x.mode = 0 then s.reg (A.FB_AX_POS a) else s.fbPos a
  let s1 := s.setPort a { Port.init with
    held, ofs := x.ofs, preset := x.preset, la := x.la, lb := x.lb, lz := x.lz, stat := x.stat, shown := x.shown, setAt := x.setAt }
  let s2 := ((s1.off0 (F.FB_AX_STAT_POSVALID a)).off0 (F.FB_AX_STAT_SPDVALID a)).off0 (F.FB_AX_FLAG_TRIG_ERR a)
  (((s2.cancel (.serialTrigger (Fin.ofNat 24 a))).cancel (.tephraTimeout (Fin.ofNat 24 a))).cancel
    (.hallInvalidTimeout (Fin.ofNat 24 a))).fbShow a

/-- Port `a` starts in the mode in force (R269, R272, R281, R287). -/
def State.fbStart (s : State) (a : Nat) : State :=
  let s0 := s.fbStop a
  let m := s0.inForce (F.FB_AX_CFG_MODE a)
  if m = 0 then s0
  else
    let p := s0.reg (A.FB_AX_POS a)
    let n := if m = 2 then 6 * s0.inForce (F.FB_AX_CFG_HPP a) else s0.inForce (F.FB_AX_CPE_CPE a)
    let (t, r) := gridOf n p
    let s1 := (s0.setPort a { s0.port a with mode := m, n, t, r, held := p, pser := p }).off0 (F.FB_AX_STAT_REF a)
    let s2 := ((s1.wrb (F.FB_AX_STAT_POSVALID a) (m == 1)).off0 (F.FB_AX_STAT_METHOD a)).off0 (F.FB_AX_STAT_BLEND a)
    let s3 := (s2.serCheck a).fbShow a
    if s3.encOn (a / 4) then s3 else s3.fbLoss a 2

/-- Every port starts, when SYS_READY.CFG sets (R299). -/
def State.fbStartAll (s : State) : State := s.upto 24 (fun a s => s.fbStart a)

/-- Every port stops (R299). -/
def State.fbStopAll (s : State) : State := s.upto 24 (fun a s => s.fbStop a)

/-- The ports after DORMANT (R300): QUAD and HALL ports lost the position with the encoder supply, serial ports start again. -/
def State.fbWake (s : State) : State :=
  s.fbStartAll.upto 24 (fun a s => if (s.port a).mode = 1 ∨ (s.port a).mode = 2 then s.fbLoss a 2 else s)

/-! ### Edges and index -/

/-- Whether the filter can let an input change that last changed at instant `o` (R271): it has held for FILT + 1 cycles since; commands
with no cycle between them stand for changes that lie apart. Log entry 127 (DESIGN CHOICE). -/
def State.filterPasses (s : State) (a : Nat) (o : Option (Nat × Nat)) : Bool :=
  match o with
  | none => true
  | some x => decide (x.1 + s.inForce (F.FB_AX_CFG_FILT a) + 1 ≤ s.now) || (x.1 == s.now && !s.same x)

/-- An input of port `a` at level `old` that last changed at instant `o` and is given level `new`: its level and its last change. -/
def State.filtered (s : State) (a : Nat) (old : Bool) (o : Option (Nat × Nat)) (new : Bool) : Bool × Option (Nat × Nat) :=
  if new != old && s.filterPasses a o then (new, some s.instant) else (old, o)

/-- Port `a` with the filtered levels of its inputs A, B and Z (R271). -/
def State.levels (s : State) (a : Nat) (na nb nz : Bool) : Port :=
  let x := s.port a
  let (la, aAt) := s.filtered a x.la x.aAt na
  let (lb, bAt) := s.filtered a x.lb x.bAt nb
  let (lz, zAt) := s.filtered a x.lz x.zAt nz
  { x with la, aAt, lb, bAt, lz, zAt }

/-- An edge of port `a` in direction `fwd` (R285, R286, R290). -/
def State.fbEdge (s : State) (a : Nat) (fwd : Bool) : State :=
  let x := s.port a
  let turned := x.moved && s.bit (F.FB_AX_STAT_DIR a) == fwd
  let keep := (if turned then [] else x.edges).filter (fun t => decide (s.now < t + s.inForce F.TICK_FRAME_COUNTS))
  let last := if turned then [] else x.edges.take 1
  let edges := s.now :: (if keep.isEmpty then last else keep)
  let s1 := s.setPort a { x with edges, seen := min 2 (x.seen + 1), moved := true }
  let s2 := s1.wrb (F.FB_AX_STAT_DIR a) (!fwd)
  if turned then ((s2.fbFlag a 0).inc (F.FB_AX_CNT_DIRCNT a)).fbEvent a 55 1 else s2

/-- The receiver of axis `a` lost its position to a decoding error (R544, R553). -/
def State.rxError (s : State) (a : Nat) : State :=
  let x := s.rx a
  ((s.setRx a { x with okay := false, hist := [] }).off0 (F.SAF_AX_STAT_VALID a)).irqS (18 + a / 4)

/-- The receiver's edge in QUAD mode (R544). -/
def State.rxQuad (s : State) (a : Nat) (na nb : Bool) : State :=
  let x := s.rx a
  if s.rd (F.SAF_AX_RXCFG_MODE a) ≠ 1 then s
  else
    let x1 := { x with la := na, lb := nb }
    match quadMove x.la x.lb na nb with
    | 0 => s
    | 2 => (s.setRx a x1).rxError a
    | d =>
      let (t, r) := countEdge (s.rd (F.SAF_AX_RXCFG_CPE a)) x.t x.r (d == 1)
      s.setRx a { x1 with t, r, okay := true }

/-- QUAD_EDGE (R271-R273): the inputs A and B change to `na`, `nb`. Log entry 127 (DESIGN CHOICE). -/
def execQuadEdge (a : Fin 24) (na nb : Bool) (s : State) : Result :=
  let s := s.rxQuad a na nb
  let x := s.port a
  if x.mode ≠ 1 then ok s
  else
    let x1 := s.levels a na nb x.lz
    match quadMove x.la x.lb x1.la x1.lb with
    | 0 => ok s
    | 2 =>
      let s1 := (((s.setPort a { x1 with qerr := x.qerr + 1 }).fbFlag a 3).inc (F.FB_AX_CNT_QERRCNT a))
      ok (if s1.inForce (F.FB_AX_LIM_QERRLIM a) < x.qerr + 1 then s1.fbLoss a 3 else s1)
    | d =>
      let fwd := (d == 1) != (s.inForce (F.FB_AX_CFG_INV a) == 1)
      let (t, r) := countEdge (s.fbEdges a) x.t x.r fwd
      ok (((s.setPort a { x1 with t, r }).fbEdge a fwd).fbShow a)

/-- Whether a preset is accepted (R292). -/
def State.presetOk (s : State) (a : Nat) : Bool :=
  s.modeIn [.standby, .armed] || (s.mode == .run && (s.leMode a == 0 || s.leMode a == 4))

/-- The position of port `a` takes the preset (R292). -/
def State.presetTake (s : State) (a : Nat) : State :=
  let x := s.port a
  let p := s.reg (A.FB_AX_PRESET a)
  if x.mode = 1 then
    let (t, r) := gridOf (s.fbEdges a) p
    (s.setPort a { x with t, r, held := gridPos (s.fbEdges a) t r }).on (F.FB_AX_STAT_REF a)
  else if x.mode = 2 then
    let n := s.fbEdges a
    let t := p.toNat / 2 ^ 24
    let r := (p.toNat % 2 ^ 24) * n / 2 ^ 24
    (s.setPort a { x with t, r, hpos := p, held := p }).on (F.FB_AX_STAT_REF a)
  else if x.mode = 0 then s.setPort a { x with held := p }
  else s.setPort a { x with ofs := x.ofs + (p - x.pser), pser := p, held := p }

/-- Whether causes 1 to 3 can end (R291): the supply is on and no line fault persists. Log entry 59 (DEDUCED). -/
def State.mayReval (s : State) (a : Nat) : Bool :=
  let k := s.rd (F.FB_AX_STAT_LOSS a)
  let x := s.port a
  x.mode == 1 && !s.bit (F.FB_AX_STAT_POSVALID a) && s.encOn (a / 4) && !x.faultA && !x.faultB && decide (1 ≤ k ∧ k ≤ 3)

/-- INDEX_EDGE (R271, R274): the input Z changes to the level of `z`; into its active level this is an index, after an A or B edge of the
same cycle. Log entry 127 (DESIGN CHOICE). -/
def execIndexEdge (z : ZLevel) (s0 : State) : Result :=
  let ⟨a, level⟩ := z
  let x0 := s0.port a
  let s := s0.setPort a (s0.levels a x0.la x0.lb level)
  let x := s.port a
  if x.mode ≠ 1 then ok s0
  else if x.lz = x0.lz ∨ x.lz = (s.inForce (F.FB_AX_CFG_ZPOL a) == 1) then ok s
  else
    let s1 := (((s.fbFlag a 1).setReg (A.FB_AX_ZCAP a) (gridPos (s.fbEdges a) x.t x.r)).fbEvent a 39 0)
    let s2 := if x.zRef.isNone then s1.setPort a { s1.port a with zRef := some x.r } else s1
    let zm := s2.inForce (F.FB_AX_CFG_ZMODE a)
    if zm = 2 ∧ s2.bit (F.FB_AX_STAT_ZARMED a) ∧ s2.presetOk a ∧ !s.sameAs x.presetAt then
      let s3 := (s2.presetTake a).off0 (F.FB_AX_STAT_ZARMED a)
      let s4 := s3.setPort a { s3.port a with zsetAt := some s3.instant }
      ok (if s4.mayReval a then s4.fbValid a else s4.fbShow a)
    else
      match x.zRef with
      | some z =>
        let d := (x.r - z) + (z - x.r)
        let n := s2.fbEdges a
        ok (if zm = 3 ∧ 2 < min d (n - d) then s2.fbFlag a 2 else s2)
      | none => ok s2

/-! ### Hall (R275, R276) -/

/-- The receiver's Hall code (R544). -/
def State.rxHall (s : State) (a c : Nat) : State :=
  let x := s.rx a
  if s.rd (F.SAF_AX_RXCFG_MODE a) ≠ 2 then s
  else
    match hallSector false c with
    | none => s.rxError a
    | some new =>
      let (t, r, p, skip, _) := hallStep (6 * s.rd (F.SAF_AX_RXCFG_HPP a)) x.t x.r x.hpos x.sector false new
      let s1 := s.setRx a { x with t, r, hpos := p, sector := some new, okay := true }
      if skip then s1.rxError a else s1

/-- HALL_TRANSITION (R271, R275, R276): the inputs H1, H2, H3 change to the bits of `code`. Log entry 127 (DESIGN CHOICE). -/
def execHallTransition (a : Fin 24) (code : BitVec 3) (s : State) : Result :=
  let s := s.rxHall a code.toNat
  if (s.port a).mode ≠ 2 then ok s
  else
    let old := ((s.port a).la, (s.port a).lb, (s.port a).lz)
    let x := s.levels a (code.getLsbD 0) (code.getLsbD 1) (code.getLsbD 2)
    let s := s.setPort a x
    match hallSector (s.inForce (F.FB_AX_CFG_INV a) == 1) (natBit (natBit (natBit 0 0 x.la) 1 x.lb) 2 x.lz) with
    | none =>
      let s1 := s.fbFlag a 5
      let y := s1.port a
      ok (if s1.due (.hallInvalidTimeout a) && (y.la, y.lb, y.lz) == old then s1 else s1.after (us 1 + 1) (.hallInvalidTimeout a))
    | some new =>
      let s0 := s.cancel (.hallInvalidTimeout a)
      let lost := !s0.bit (F.FB_AX_STAT_POSVALID a)
      let back := s0.encOn (a.val / 4)
      let (t, r, p, skip, dir) := hallStep (s0.fbEdges a) x.t x.r x.hpos x.sector lost new
      let s1 := s0.setPort a { x with t, r, hpos := p, sector := some new }
      let s2 := if skip then s1.fbFlag a 5 else s1
      let s3 := match dir with
        | some fwd => s2.fbEdge a fwd
        | none => s2
      ok (if lost && back then s3.fbValid a else s3.fbShow a)

/-- HALL_INVALID_TIMEOUT (R276): an invalid code has lasted longer than 1 µs. Log entry 60 (DESIGN CHOICE). -/
def execHallInvalidTimeout (a : Fin 24) (s : State) : Result :=
  let s1 := s.cancel (.hallInvalidTimeout a)
  ok (if (s1.port a).mode = 2 then s1.fbLoss a 5 else s1)

/-- Whether the module drives the B pair of Tephra port `a`: from the trigger to the last bit of the request (R279, R280). -/
def State.drivesB (s : State) (a : Nat) : Bool :=
  let x := s.port a
  x.mode == 4 && x.busy && decide (s.now + s.inForce (F.FB_AX_SER_DLY a) < x.latchAt)

/-- Whether port `a` uses its A pair (`b` false) or its B pair as a differential input (R52, R270). -/
def State.pairUsed (s : State) (a : Nat) (b : Bool) : Bool :=
  match (s.port a).mode with
  | 1 => true
  | 3 => b
  | 4 => b && !s.drivesB a
  | _ => false

/-- LINE_FAULT (R270): the A pair, or with `pairB` the B pair, has stayed in the fault band for longer than 1 µs, or has left it; a pair
that the port does not use is not checked. Log entry 60 (DESIGN CHOICE). -/
def execLineFault (p : PairBand) (s : State) : Result :=
  let ⟨a, b, inBand⟩ := p
  if !s.pairUsed a b then ok s
  else
    let s1 := s.setPort a (if b then { s.port a with faultB := inBand } else { s.port a with faultA := inBand })
    ok (if inBand then (s1.fbFlag a 4).fbLoss a 1 else s1)

/-- The encoder supply of quad `q` is off (R66, R291 cause 2). Log entry 59 (DEDUCED). -/
def State.encLost (s : State) (q : Nat) : State :=
  s.upto 4 (fun k s => if (s.port (4 * q + k)).mode = 0 then s else s.fbLoss (4 * q + k) 2)

/-! ### Serial ports (R277-R283) -/

/-- The 12 bits of Tephra request `k`: 0 POS, 1 ID, 2 CLRERR (R280). -/
def tephraRequest (k : Nat) : Nat :=
  let cmd := match k with | 1 => 2 | 2 => 4 | _ => 1
  0xE00 + 16 * cmd + (15 - cmd)

/-- SERIAL_TRIGGER (R277-R281). -/
def execSerialTrigger (a : Fin 24) (s : State) : Result :=
  let s := s.cancel (.serialTrigger a)
  let x := s.port a
  let dly := s.inForce (F.FB_AX_SER_DLY a)
  if (x.mode ≠ 3 ∧ x.mode ≠ 4) || s.fbFrozen || s.bit (F.FB_AX_FLAG_TRIG_ERR a) || (x.mode == 3 && !s.serOk a)
      || !s.encOn (a.val / 4) then ok s
  else if x.mode = 3 then ok (s.setPort a { x with busy := true, latchAt := s.now + dly })
  else
    let x1 := { x with
      busy := true, sent := x.nextCmd, request := tephraRequest x.nextCmd, nextCmd := 0, trigAt := some s.instant
      latchAt := s.now + 900 + dly }
    ok ((s.setPort a x1).after 2025 (.tephraTimeout a))

/-- A rejected transaction (R282). -/
def State.serReject (s : State) (a : Nat) (jump : Bool) : State :=
  let x := s.port a
  let s1 := (s.setPort a { x with busy := false, rej := x.rej + 1 }).inc (F.FB_AX_CNT_SERERRCNT a)
  let s2 := s1.fbFlag a 6
  let s3 := if jump then s2.fbFlag a 7 else s2
  if s3.inForce (F.FB_AX_LIM_SERLIM a) ≤ x.rej + 1 then s3.fbLoss a 4 else s3

/-- `d` modulo `full`, read as signed. -/
def signedMod (d : Int) (full : Nat) : Int :=
  let m := d % full
  if (full : Int) ≤ 2 * m then m - full else m

/-- The receiver takes absolute value `v` of an encoder of range `full` (R544). -/
def State.rxSerial (s : State) (a mode : Nat) (v : Int) (full : Nat) : State :=
  let x := s.rx a
  if s.rd (F.SAF_AX_RXCFG_MODE a) ≠ mode then s
  else
    let p := match x.prevA with
      | some q => x.pos + wordOf (signedMod (v - q) full)
      | none => wordOf v
    s.setRx a { x with pos := p, prevA := some v, okay := true }

/-- A serial sample of absolute value `v` (R282, R283, R288, R290): the raw word is shown once it is accepted. -/
def State.serSample (s : State) (a : Nat) (v : Int) (full : Nat) (raw : Word) : State :=
  let x := s.port a
  let diff := match x.prevA with
    | some q => signedMod (v - q) full
    | none => 0
  let lim := s.inForce (F.FB_AX_LIM_JUMPMAX a)
  if lim ≠ 0 ∧ ((lim : Int) < diff ∨ diff < -(lim : Int)) then s.serReject a true
  else
    let p := match x.prevA with
      | some _ => x.pser + wordOf diff
      | none => wordOf v + x.ofs
    let dt := x.latchAt - x.tl
    let w := if 0 < x.seen then sat48 (rdiv (diff * 750000000) (max dt 1)) else 0
    let turned := decide (diff ≠ 0) && x.moved && (s.bit (F.FB_AX_STAT_DIR a) != decide (diff < 0))
    let x1 := { x with
      busy := false, rej := 0, prevA := some v, pser := p, tl := x.latchAt, wser := w, seen := min 2 (x.seen + 1)
      moved := x.moved || decide (diff ≠ 0), accAt := some s.instant, oldSer := (x.pser, x.tl, s.serSpeed a, x.seen) }
    let s1 := (s.setPort a x1).setReg (A.FB_AX_SERRAW a) raw
    let s2 := if diff = 0 then s1 else s1.wrb (F.FB_AX_STAT_DIR a) (decide (diff < 0))
    let s3 := if turned then ((s2.fbFlag a 0).inc (F.FB_AX_CNT_DIRCNT a)).fbEvent a 55 1 else s2
    if s3.encOn (a / 4) then s3.fbValid a else s3.fbShow a

/-- Gray code to binary, `n` bits. -/
def ungray : Nat → Nat → Nat
  | 0, v => v
  | n + 1, v => Nat.xor v (ungray n (v / 2))

/-- The absolute value and range of a serial word of `bits` bits with `st` single-turn bits (R278, R283). -/
def serAbs (bits st : Nat) (gray signed : Bool) (raw : Nat) : Int × Nat :=
  let w := (if gray then ungray bits (raw % 2 ^ bits) else raw) % 2 ^ bits
  let mt := w / 2 ^ st
  let n := bits - st
  let m : Int := if signed && decide (0 < n) then sgnOf n mt else mt
  (m * 2 ^ 24 + (w % 2 ^ st : Nat) * 2 ^ (24 - st), 2 ^ n * 2 ^ 24)

/-- SSI_TRANSACTION_DONE (R278, R282, R283): the word read, and whether the data line was high at the start. -/
def execSsiTransactionDone (a : Fin 24) (raw : Word) (ended : Bool) (s : State) : Result :=
  let x := s.port a
  if x.mode ≠ 3 ∨ !x.busy then ok s
  else
    let ser := s.rd (F.SAF_AX_RXSER_SER a)
    let (rv, rf) := serAbs (ser % 64) (ser / 64 % 32) (ser.testBit 11) (ser.testBit 12) raw.toNat
    let s0 := if ended then s.rxSerial a 3 rv rf else if s.rd (F.SAF_AX_RXCFG_MODE a) = 3 then s.rxError a else s
    if !ended then ok (s0.serReject a false)
    else
      let (v, full) := serAbs (s0.inForce (F.FB_AX_SER_BITS a)) (s0.inForce (F.FB_AX_SER_ST a))
        (s0.inForce (F.FB_AX_SER_GRAY a) == 1) (s0.inForce (F.FB_AX_SER_MTSIGN a) == 1) raw.toNat
      ok (s0.serSample a v full (BitVec.ofNat 48 (raw.toNat % 2 ^ s0.inForce (F.FB_AX_SER_BITS a))))

/-- One bit of the CRC-8 of R280. -/
def crc8Bit (c : Nat) (b : Bool) : Nat :=
  let top := c.testBit 7 != b
  let c1 := c * 2 % 256
  if top then Nat.xor c1 0x2F else c1

/-- The CRC-8 of R280 over bytes, most significant bit first. -/
def crc8 (l : List Byte) : Nat :=
  l.foldl (fun c b => (List.range 8).foldl (fun c i => crc8Bit c (b.getLsbD (7 - i))) c) 0xFF

/-- A whole Tephra reply (R280-R283): STATUS, five bytes of DATA and the CRC; `formErr` a wrong SYNC or a Manchester violation. -/
def State.tephraDone (s0 : State) (a : Nat) (bytes : List Byte) (formErr : Bool) : State :=
  let s := s0.cancel (.tephraTimeout (Fin.ofNat 24 a))
  let x := s.port a
  let body := bytes.take 6
  let good := !formErr && bytes.length == 7 && crc8 body == (bytes.getD 6 0).toNat
  let rxOn := s.rd (F.SAF_AX_RXCFG_MODE a) = 4
  let w : Word := BitVec.ofNat 48 (beNat body)
  let st := (bytes.getD 0 0).toNat
  let v : Int := sgnOf 16 (getBits w 0 16) * 2 ^ 24 + (getBits w 16 24 : Nat)
  if !good then (if rxOn then s.rxError a else s).serReject a false
  else if st.testBit 7 then
    (((if rxOn then s.rxError a else s).setPort a { x with busy := false }).fbFlag a 8).fbLoss a 6
  else
    let s1 := if st.testBit 6 then (s.fbFlag a 9).off0 (F.FB_AX_STAT_REF a) else s
    if x.sent = 1 then (s1.setPort a { x with busy := false, rej := 0 }).setReg (A.FB_AX_TID a) w
    else (s1.rxSerial a 4 v (2 ^ 40)).serSample a v (2 ^ 40) w

/-- TEPHRA_REPLY (R279-R283): a whole reply, or (with no bytes) its SYNC begins, after which the 60 bits have their 6 µs.
Log entry 148 (DESIGN CHOICE). -/
def execTephraReply (a : Fin 24) (bytes : Option (List Byte)) (formErr : Bool) (s : State) : Result :=
  let x := s.port a
  if x.mode ≠ 4 ∨ !x.busy then ok s
  else
    match bytes with
    | none => ok (s.after 4501 (.tephraTimeout a))
    | some l => ok (s.tephraDone a l formErr)

/-- TEPHRA_TIMEOUT (R279, R282): no SYNC has begun in time, or what began is no whole reply. Log entry 148 (DESIGN CHOICE). -/
def execTephraTimeout (a : Fin 24) (s : State) : Result :=
  let s1 := s.cancel (.tephraTimeout a)
  let x := s1.port a
  if x.mode ≠ 4 ∨ !x.busy then ok s1
  else ok ((if s1.rd (F.SAF_AX_RXCFG_MODE a) = 4 then s1.rxError a else s1).serReject a false)

/-! ### The latch at a sample point (R284, R292, R293) -/

/-- The position that a sample point latches. -/
def State.fbLatchPos (s : State) (a : Nat) : Word :=
  let x := s.port a
  if (x.mode = 3 ∨ x.mode = 4) ∧ s.bit (F.FB_AX_STAT_POSVALID a) then
    let (p, tl, w, n) := s.serLast a
    if s.inForce (F.FB_AX_CFG_EXTRAP a) = 1 ∧ 2 ≤ n ∧ s.bit F.SYS_READY_TICK then
      p + wordOf (rdiv (w * ((s.now : Int) - tl)) 750000000)
    else p
  else s.fbPos a

/-- The speed that a sample point latches (R284-R289). -/
def State.fbLatchSpeed (s : State) (a : Nat) : Int :=
  let x := s.port a
  if x.mode = 3 ∨ x.mode = 4 then
    let (_, _, w, n) := s.serLast a
    if s.fbSpdValid a && decide (2 ≤ n) then w else 0
  else s.fbSpeed a

/-- The latch of axis `a` at a sample point of index `sidx`, `n` samples to a frame. -/
def State.fbLatch (s : State) (a sidx n : Nat) : State :=
  let x := s.port a
  let s1 := if x.preset then
      let s1 := s.presetTake a
      let s2 := s1.setPort a { s1.port a with preset := false, presetAt := some s1.instant }
      if s.sameAs x.zsetAt then s2.on (F.FB_AX_STAT_ZARMED a) else s2
    else s
  let old := [s1.reg (A.FB_AX_POSS a), s1.reg (A.FB_AX_SPDS a), (s1.port a).stat]
  let s2 := if ((s1.port a).mode == 1 || (s1.port a).mode == 2) && !s1.fbFrozen then s1.fbBlend a n else s1
  let s3 := s2.fbShow a
  let s4 := (s3.setReg (A.FB_AX_POSS a) (s3.fbLatchPos a)).setReg (A.FB_AX_SPDS a) (wordOf (s3.fbLatchSpeed a))
  let s5 := ((s4.setReg (A.FB_AX_SPD a) (wordOf (s4.fbSpeed a))).wr (F.FB_AX_STAT_SIDX a) sidx).wr (F.FB_AX_STAT_FRAME a)
    (s4.rd F.TICK_FRAMECNT_COUNT)
  s5.setPort a { s5.port a with stat := s5.fbStat a, shown := old, setAt := some s5.instant }

/-! ### Encoder emulation (R296-R298) -/

/-- The working state of emulation channel `n`. -/
def State.emu (s : State) (n : Nat) : Emu := Tab.get Emu.init s.emus n

/-- `s` with emulation channel `n` replaced. -/
def State.setEmu (s : State) (n : Nat) (x : Emu) : State := { s with emus := Tab.set Emu.init s.emus n x }

/-- The event of an output edge of channel `n`. -/
def emuEvent (n : Nat) : Instr := .emuEdgeOutput (Fin.ofNat 2 n)

/-- The source position of channel `n` at sample `sidx`, and whether it is valid. -/
def State.emuSource (s : State) (n sidx : Nat) : Int × Bool :=
  let a := s.inForce (F.FB_EMU_CTL_SRC n) % 24
  if s.inForce (F.FB_EMU_CTL_VIRT n) = 1 then
    let x := s.axis a
    ((s.setpoint a true x.ppPos x.spPos sidx false).1, true)
  else (s.rdS (F.FB_AX_POSS_P a), s.bit (F.FB_AX_STAT_POSVALID a))

/-- The target count for position `p` (R296). Log entry 63 (DEDUCED). -/
def State.emuTarget (s : State) (n : Nat) (p : Int) : Int := p * (4 * s.inForce (F.FB_EMU_CTL_LPT n) : Nat) / 2 ^ 24

/-- Channel `n` at a sample point of its source, `span` cycles before the next one (R296, R297). Log entry 63 (DEDUCED). -/
def State.emuSample (s : State) (n sidx span : Nat) : State :=
  let x := s.emu n
  if !x.on || s.fbFrozen then s
  else
    let (p, ok) := s.emuSource n sidx
    let g := s.emuTarget n p
    let cnt := s.rdS (F.FB_EMU_CNT_CNT n)
    let s0 := s.cancel (emuEvent n)
    if !ok then (s0.setEmu n { x with valid := false, left := 0, total := 0 }).on (F.FB_EMU_STAT_SRCINV n)
    else
      let s1 := s0.off0 (F.FB_EMU_STAT_SRCINV n)
      let d := wrap48 (g - cnt)
      if !x.valid ∨ ((4 * s1.inForce (F.FB_EMU_CTL_LPT n) : Nat) : Int) < d.natAbs then
        ((s1.setEmu n { x with valid := true, left := 0, total := 0 }).wrI (F.FB_EMU_CNT_CNT n) g).on (F.FB_EMU_STAT_LOST n)
      else
        let fit := span * 4 / 75
        let m := min d.natAbs fit
        let s2 := if fit < d.natAbs then s1.on (F.FB_EMU_STAT_SAT n) else s1
        let s3 := s2.setEmu n { x with left := (if d < 0 then -(m : Int) else m), done := 0, total := m, start := s2.now, span := span }
        if m = 0 then s3 else s3.after (span / m) (emuEvent n)

/-- Whether the outputs of channel `n` are driven (R299). -/
def State.emuDrives (s : State) (n : Nat) : Bool := (s.emu n).on && s.modeIn [.standby, .armed, .run, .safeStop]

/-- The output levels of channel `n`: A, B and Z (R296, R298); `none` at high impedance. -/
def State.emuLevels (s : State) (n : Nat) : Option (Bool × Bool × Bool) :=
  if !s.emuDrives n then none
  else
    let k := (s.emu n).place
    let z := s.inForce (F.FB_EMU_CTL_ZEN n) == 1 && s.rdS (F.FB_EMU_CNT_CNT n) % (4 * s.inForce (F.FB_EMU_CTL_LPT n) : Nat) == 0
    some (k == 1 || k == 2, k == 2 || k == 3, z)

/-- EMU_EDGE_OUTPUT (R296): one edge of those due; INV reverses the sequence. Log entry 63 (DEDUCED). -/
def execEmuEdgeOutput (n : Fin 2) (s : State) : Result :=
  let s1 := s.cancel (.emuEdgeOutput n)
  let x := s1.emu n
  if !s1.emuDrives n ∨ x.left = 0 then ok s1
  else
    let d : Int := if x.left < 0 then -1 else 1
    let up := decide (0 < d) != (s1.inForce (F.FB_EMU_CTL_INV n) == 1)
    let place := (x.place + (if up then 1 else 3)) % 4
    let s2 := (s1.setEmu n { x with left := x.left - d, done := x.done + 1, place }).wrI (F.FB_EMU_CNT_CNT n) (s1.rdS (F.FB_EMU_CNT_CNT n) + d)
    if x.left = d then ok s2
    else ok (s2.after (x.start + (x.done + 2) * x.span / max x.total 1 - s2.now) (emuEvent n))

/-- Channel `n` at a frame tick: a new CTL in force (R296, R298, R299). -/
def State.emuTick (s : State) (n : Nat) : State :=
  let x := s.emu n
  let run := s.inForce (F.FB_EMU_CTL_EN n) == 1 && s.modeIn [.standby, .armed, .run, .safeStop]
  if run && !x.on then
    let (p, ok) := s.emuSource n 0
    let s1 := (s.setEmu n { Emu.init with on := true, valid := ok }).on (F.FB_EMU_STAT_RUNNING n)
    if ok then s1.wrI (F.FB_EMU_CNT_CNT n) (s1.emuTarget n p) else s1.on (F.FB_EMU_STAT_SRCINV n)
  else if !run && x.on then ((s.setEmu n Emu.init).off0 (F.FB_EMU_STAT_RUNNING n)).cancel (emuEvent n)
  else s

/-- A write of FB_EMUn_CTL (R298): in force from the next frame tick; SRC above 23 or LPT out of range keeps its field. -/
def State.emuCtlWrite (s : State) (n : Nat) (v : Word) : State :=
  let a := A.FB_EMU_CTL n
  let fs := fieldsAt a
  let nw := rowWrite false fs (s.reg a) v
  if s.modeIn [.standby, .armed, .run] then
    let s1 := s.setHeld a nw
    if rowInRange fs v then s1 else s1.on (F.FB_EMU_STAT_CFG_ERR n)
  else if nw = s.reg a ∧ rowInRange fs v then s else s.on (F.FB_EMU_STAT_WR_REFUSED n)

/-! ### Frame tick, commands and configuration -/

/-- Whether a trigger of port `a` falls in this cycle (R277). -/
def State.triggerDue (s : State) (a : Nat) : Bool :=
  let m := (s.port a).mode
  let q := a / 4
  let pos := s.inForce (F.FB_AX_TRIG_POS a)
  let ph := s.rd F.TICK_PHASE_PHASE
  (m == 3 || m == 4) && s.tickRuns &&
    if s.carrierOn q then
      s.rd (F.PWM_Q_CNT_POS q) == pos
        && ph / max 1 (2 * s.inForce (F.PWM_Q_PERIOD_PEAK q)) % (s.inForce (F.FB_AX_TRIG_DIV a) + 1) == 0
    else ph == pos

/-- A new count per turn of port `a` in force: the turns and the remainder nearest to the present position (R272). -/
def State.regrid (s : State) (a : Nat) : State :=
  let x := s.port a
  let n := s.fbEdges a
  if x.n = n then s
  else if x.mode = 1 then
    let (t, r) := gridOf n (gridPos x.n x.t x.r)
    s.setPort a { x with n, t, r }
  else if x.mode = 2 then s.setPort a { x with n, t := x.hpos.toNat / 2 ^ 24, r := (x.hpos.toNat % 2 ^ 24) * n / 2 ^ 24 }
  else s

/-- Port `a` at a frame tick, the settings of this tick in force (R269, R272, R273, R277, R291, R293). Log entry 59 (DEDUCED). -/
def State.fbTick (s : State) (a : Nat) : State :=
  let x := s.port a
  let m := s.inForce (F.FB_AX_CFG_MODE a)
  let s1 := if x.mode ≠ m ∧ s.bit F.SYS_READY_CFG then s.fbStart a
    else
      let s1 := s.regrid a
      (s1.setPort a { s1.port a with qerr := 0 }).serCheck a
  let s2 := if !s1.sampling (a / 4) then s1.fbLatch a 0 1 else s1.fbShow a
  let e : Instr := .serialTrigger (Fin.ofNat 24 a)
  if s2.triggerDue a then s2.after 0 e else s2.cancel e

/-- The command of the next Tephra trigger, or of the trigger of this cycle, becomes `k` (R281). -/
def State.tephraCmd (s : State) (a k : Nat) : State :=
  let x := s.port a
  if x.mode == 4 && x.busy && s.sameAs x.trigAt then s.setPort a { x with sent := k, request := tephraRequest k, nextCmd := 0 }
  else s.setPort a { x with nextCmd := k }

/-- A write of FB_AXa_CMD (R274, R281, R291, R292). -/
def State.fbCmdWrite (s : State) (a : Nat) (v : Word) : State :=
  let s1 := if v.getLsbD 0 then
      if s.presetOk a then s.setPort a { s.port a with preset := true } else s.fbFlag a 13
    else s
  let s2 := if v.getLsbD 1 && s1.mayReval a then (s1.off0 (F.FB_AX_STAT_REF a)).fbValid a else s1
  let s3 := if v.getLsbD 2 then s2.on (F.FB_AX_STAT_ZARMED a) else s2
  if v.getLsbD 4 then s3.tephraCmd a 2 else if v.getLsbD 3 then s3.tephraCmd a 1 else s3

/-- The address of FB register `r` of axis `a`: CFG, CPE, SER, TRIG, LIM. -/
def fbCfgAddr (a r : Nat) : Nat :=
  match r with
  | 0 => A.FB_AX_CFG a
  | 1 => A.FB_AX_CPE a
  | 2 => A.FB_AX_SER a
  | 3 => A.FB_AX_TRIG a
  | _ => A.FB_AX_LIM a

/-- A write of one of those registers (R269, R278, R299): STANDBY only, in force from the next frame tick; a SER.BITS outside its
range is taken, and the check at that tick finds it. -/
def State.fbCfgWrite (s : State) (a r : Nat) (v : Word) : State :=
  let addr := fbCfgAddr a r
  let fs := fieldsAt addr
  let b := F.FB_AX_SER_BITS a
  let nw0 := rowWrite false fs (s.reg addr) v
  let nw := if r = 2 then setBits nw0 b.lo b.w (getBits v b.lo b.w) else nw0
  let good := rowInRange (if r = 2 then fs.filter (fun f => f.lo != b.lo) else fs) v
  if s.mode == .standby then
    let s1 := s.setHeld addr nw
    if good then s1 else s1.fbFlag a 12
  else if nw = s.reg addr ∧ good then s else s.fbFlag a 13

/-- A read of FB_AXa_POSS by reader `r` (R293): the set of this cycle comes with the next read. -/
def State.fbSet (s : State) (a : Nat) : List Word :=
  let x := s.port a
  if s.thisCycle x.setAt then x.shown else [s.reg (A.FB_AX_POSS a), s.reg (A.FB_AX_SPDS a), x.stat]

/-- The key of a reader's latch for axis `a`: currents, or positions. Log entry 62 (DEDUCED). -/
def latchKey (r : Writer) (pos : Bool) (a : Nat) : Nat := 64 * readerIx r + a + (if pos then 1024 else 0)

/-- A read of POSS: the position, and the latch of SPDS and STAT. Log entry 62 (DEDUCED). -/
def State.possRead (s : State) (r : Writer) (a : Nat) : Word × State :=
  let l := s.fbSet a
  (l.getD 0 0, if s.sideFx r then { s with latches := Tab.put s.latches (latchKey r true a) l } else s)

/-- A read of SPDS (`k` 1) or STAT (`k` 2) by a reader that may hold a latch. Log entry 62 (DEDUCED). -/
def State.possLatched (s : State) (r : Writer) (a k : Nat) : Word :=
  match Tab.find s.latches (latchKey r true a) with
  | some l => l.getD k 0
  | none => if k = 1 then s.reg (A.FB_AX_SPDS a) else s.fbStat a

/-- FB_VALID as it reads (R301). -/
def State.fbValidWord (s : State) : Word :=
  BitVec.ofNat 48 ((List.range 24).foldl (fun v a =>
    natBit (natBit v a (s.bit (F.FB_AX_STAT_POSVALID a))) (24 + a) (s.fbSpdValid a)) 0)

end Sys2Proof.Machine
end

