-- ==== Sys2Proof/Machine/Adc.lean ====
section
/-! DEFINITION. Current and voltage sensing (R160-R182): samples, results and their latches, calibration, the auxiliary
measurements, and the checks at a frame tick. -/
namespace Sys2Proof.Machine

/-- The ADC interrupt of quad `q`. -/
def State.adcIrq (s : State) (q : Nat) : State := s.irq (54 + q)

/-- A flag of axis `a` set; its rise raises the ADC interrupt (R176, R185). -/
def State.adcFlag (s : State) (a k : Nat) : State :=
  let f : Fld := ⟨A.ADC_AX_FLAG a, k, 1⟩
  if s.bit f then s else (s.on f).adcIrq (a / 4)

/-! ### Samples -/

/-- ADC_SAMPLE (R162, R171, R293): the sample-and-holds of quad `q` close, at SP1 where `second`, and FB latches. -/
def execAdcSample (q : Fin 6) (second : Bool) (s : State) : Result :=
  let s := s.cancel (.adcSample q second)
  let q := q.val
  if !s.sampling q || (second && !s.dbl q) then ok s
  else
    let x := s.quad q
    let n := s.samplesPerFrame q
    let s1 := s.setQuad q { x with
      next := x.next + 1, point := x.next, frame := s.rd F.TICK_FRAMECNT_COUNT % 65536, second := second, busy := true }
    let s2 := s1.upto 4 (fun k s => s.fbLatch (4 * q + k) x.next n)
    let span := s2.sampleSpan q (!second)
    ok (s2.upto 2 (fun c s =>
      if s.inForce (F.FB_EMU_CTL_SRC c) / 4 = q then s.emuSample c x.next span else s))

/-- The corrected current of a raw code, F40 amperes (R161). -/
def current (raw : Nat) (ofs : Int) (gain : Nat) : Int := (16 * ((raw : Int) - 8192) - ofs) * gain * 40

/-- The five result registers of axis `a`. -/
def State.adcNow (s : State) (a : Nat) : List Word :=
  [s.reg (A.ADC_AX_IU a), s.reg (A.ADC_AX_IV a), s.reg (A.ADC_AX_IW a), s.reg (A.ADC_AX_ISTAT a), s.reg (A.ADC_AX_RAW a)]

/-- The results of axis `a` for raw codes `u`, `v` (R161, R167, R169, R171, R176). -/
def State.adcResult (s : State) (a u v : Nat) : State :=
  let x := s.quad (a / 4)
  let old := s.adcNow a
  let iu := sat48 (current u (s.rdS (F.ADC_AX_OFS_OFSU a)) (s.rd (F.ADC_AX_GAIN_GAINU a)))
  let iv := sat48 (current v (s.rdS (F.ADC_AX_OFS_OFSV a)) (s.rd (F.ADC_AX_GAIN_GAINV a)))
  let iw := sat48 (-(iu + iv))
  let s1 := ((s.show (A.ADC_AX_IU a) iu).show (A.ADC_AX_IV a) iv).show (A.ADC_AX_IW a) iw
  let s2 := (s1.wr (F.ADC_AX_RAW_RAWU a) u).wr (F.ADC_AX_RAW_RAWV a) v
  let s3 := ((s2.wrb (F.ADC_AX_ISTAT_VALID a) (s2.bit F.ADC_STATUS_CALDONE)).wr (F.ADC_AX_ISTAT_SIDX a) x.point).wr
    (F.ADC_AX_ISTAT_FRAME a) x.frame
  let s4 := s3.setAxis a { s3.axis a with adcAt := some s3.instant, adcOld := old }
  let s5 := if u = 0 ∨ u = 16383 then s4.adcFlag a 0 else s4
  let s6 := if v = 0 ∨ v = 16383 then s5.adcFlag a 1 else s5
  if 20 * 2 ^ 40 < iw ∨ iw < -(20 * 2 ^ 40) then s6.adcFlag a 2 else s6

/-- A complete sample set reaches lane `q` (R165, R234): its pass begins, or is delayed by TST (R612); one that still waits for its
pass is dropped, and a set that completes during a pass waits. Log entry 51 (DEDUCED). -/
def State.laneSet (s : State) (q : Nat) : State :=
  if !s.laneOn q || s.laneFrozen then s
  else if s.passRuns q then
    let s1 := if (s.lane q).next then s.laneOverrun q 7 else s
    s1.setLane q { s1.lane q with next := true }
  else
    let s1 := if (s.lane q).setReady then s.laneOverrun q 7 else s
    let d := s1.tstDelay q
    let x := { s1.lane q with setReady := true, second := (s1.quad q).second, next := false }
    if d = 0 then (s1.setLane q x).passBegin q
    else (s1.setLane q { x with beginAt := some (s1.now + d) }).after d (passEvent q)

/-- ADC_CONVERSION_DONE (R161, R165, R167): `codes` are U and V of the quad's four axes in turn. -/
def execAdcConversionDone (q : Fin 6) (codes : List Nat) (s : State) : Result :=
  let x := s.quad q
  if !x.busy then ok s
  else
    let s1 := s.setQuad q { x with busy := false }
    let code (i : Nat) : Nat := codes.getD i 8192 % 16384
    let s2 := s1.upto 4 (fun k s => s.adcResult (4 * q + k) (code (2 * k)) (code (2 * k + 1)))
    ok ((s2.fire (32 + q) (if x.second then 1 else 0)).laneSet q)

/-! ### Reads (R168, R170) -/

/-- ADC_AXa_ISTAT as it reads: STALE while the quad takes no samples (R171), also after reset and a wake, when its carrier is
stopped, and while FRZ stops sampling. Log entry 140 (DEDUCED). -/
def State.adcStale (s : State) (a : Nat) (w : Word) : Word := setBits w 1 1 (if s.sampling (a / 4) then 0 else 1)

/-- The set that a read of IU returns: the one before in the cycle of a new set (R170). -/
def State.adcSet (s : State) (a : Nat) : List Word :=
  let l := if s.thisCycle (s.axis a).adcAt then (s.axis a).adcOld else s.adcNow a
  l.set 3 (s.adcStale a (l.getD 3 0))

/-- A read of ADC_AXa_IU. -/
def State.iuRead (s : State) (r : Writer) (a : Nat) : Word × State :=
  let l := s.adcSet a
  (l.getD 0 0, if s.sideFx r then { s with latches := Tab.put s.latches (latchKey r false a) l } else s)

/-- A read of IV, IW, ISTAT or RAW (`k` 1 to 4). -/
def State.iuLatched (s : State) (r : Writer) (a k : Nat) : Word :=
  match Tab.find s.latches (latchKey r false a) with
  | some l => l.getD k 0
  | none => let w := (s.adcNow a).getD k 0
    if k = 3 then s.adcStale a w else w

/-! ### Settings and calibration -/

/-- A write of ADC_Qq_SAMP (R164). -/
def State.sampWrite (s : State) (q : Nat) (v : Word) : State :=
  let a := A.ADC_Q_SAMP q
  let nw := rowWrite false (fieldsAt a) (s.reg a) v
  if s.mode == .standby then s.setHeld a nw
  else if nw = s.reg a ∨ s.bit (F.ADC_Q_STATUS_WR_REFUSED q) then s
  else (s.on (F.ADC_Q_STATUS_WR_REFUSED q)).adcIrq q

/-- Whether the motor bus is in one of its two STANDBY states (R175, R329). -/
def State.busSettled (s : State) : Bool :=
  if s.bit F.PWR_CTL_BUSMODE then s.bit F.SYS_READY_BUS else decide (s.busMean < volts 5)

/-- A write of ADC_CALREQ (R175). -/
def State.calReq (s : State) (v : Word) : State :=
  if getBits v 0 8 ≠ 0xCA then s
  else if s.mode == .standby && !s.bit F.ADC_STATUS_CALBUSY && s.busSettled then s.on F.ADC_STATUS_CALBUSY
  else s.on F.ADC_STATUS_CALREFUSED

/-- New offsets and CALERR bits (R172, R175): `codes` are the 54 averages in sixteenths of a code, U and V of each axis, then
the six auxiliary converters; one that is missing is the nominal zero. Log entry 46 (DESIGN CHOICE). -/
def State.calApply (s : State) (codes : List Nat) : State :=
  let ofs (i : Nat) : Int := (codes.getD i 131072 : Int) - 131072
  let clip (v : Int) : Int := if v < -32768 then -32768 else if 32767 < v then 32767 else v
  let bad (i : Nat) : Bool := decide (256 * 16 < ofs i ∨ ofs i < -(256 * 16))
  let s1 := s.upto 24 (fun a s =>
    let s1 := (s.wrI (F.ADC_AX_OFS_OFSU a) (clip (ofs (2 * a)))).wrI (F.ADC_AX_OFS_OFSV a) (clip (ofs (2 * a + 1)))
    let s2 := (s1.wrb (F.ADC_AX_FLAG_CALERR_U a) (bad (2 * a))).wrb (F.ADC_AX_FLAG_CALERR_V a) (bad (2 * a + 1))
    s2.setBitAt F.ADC_CALERR_AXIS a (bad (2 * a) || bad (2 * a + 1)))
  let s2 := s1.upto 6 (fun q s => (s.setBitAt F.ADC_CALERR_AUX q (bad (48 + q))).off0 (F.ADC_Q_AUXSTAT_UNCAL q))
  (s2.wrb F.ADC_STATUS_CALFAIL (s2.reg A.ADC_CALERR != 0)).on F.ADC_STATUS_CALDONE

/-- ADC_RECAL_DONE (R175): the calibration in progress ends, in whatever mode the module is by then.
Log entries 46 (DESIGN CHOICE), 142 (DESIGN CHOICE). -/
def execAdcRecalDone (codes : List Nat) (s : State) : Result :=
  if !s.bit F.ADC_STATUS_CALBUSY || s.mode == .boot then ok s else ok ((s.calApply codes).off0 F.ADC_STATUS_CALBUSY)

/-- Whether a gain `g` and a trim, 22 fraction bits each, differ from 1 by more than 2% in their product (R174). -/
def gainOff (g trim : Nat) : Bool :=
  let p := 50 * (g * trim)
  decide (p < 49 * 2 ^ 44) || decide (51 * 2 ^ 44 < p)

/-- The gain check of the BOOT calibration: measured gains from `codes` 54 on, 22 fraction bits. -/
def State.gainCheck (s : State) (codes : List Nat) : State :=
  s.upto 24 (fun a s =>
    let one (s : State) (f t : Fld) (k i : Nat) : State :=
      if gainOff (codes.getD (54 + i) (2 ^ 22)) (s.rd t) then s.adcFlag a k else s.off0 f
    one (one s (F.ADC_AX_FLAG_GAIN_DEV_U a) (F.ADC_AX_GAIN_GAINU a) 6 (2 * a))
      (F.ADC_AX_FLAG_GAIN_DEV_V a) (F.ADC_AX_GAIN_GAINV a) 7 (2 * a + 1))

/-! ### Auxiliary measurements (R178, R345) -/

/-- Whether the auxiliary converters run (R178, R180, R181). -/
def State.auxLive (s : State) : Bool :=
  s.auxOn && !s.modeIn [.off, .dormant] && !(s.mode == .shutdown && s.bistRunning)
    && !(s.mode == .standby && s.frz F.ADC_CTL_FRZ F.ADC_CTL_FRZCORE)

/-- Whether input `k` of quad `q` can complete a conversion (R178): its first one 250 ns × (k + 1) after the converters started, and
after those of the inputs before it. -/
def State.auxTurn (s : State) (q k : Nat) : Bool :=
  s.auxLive && decide (375 * (k + 1) ≤ 2 * (s.now - s.auxAt))
    && (List.range k).all (fun j => s.bitAt (F.ADC_Q_AUXSTAT_VALID q) j)

/-- The result of input `k` of quad `q` for a code, in its register's format; no offset of the auxiliary converter enters it.
Log entry 141 (DESIGN CHOICE). -/
def auxValue (q k code : Nat) : Int :=
  let temp : Int := -40 * 2 ^ 24 + (code * 190 * 2 ^ 10 : Nat)
  match k with
  | 0 => (code * 80 * 2 ^ 26 : Nat)
  | 1 => temp
  | 2 => if q < 4 then -12 * 2 ^ 40 + (code * 24 * 2 ^ 26 : Nat) else if q = 4 then temp else (code * 5 * 2 ^ 26 : Nat)
  | _ => (code * 8 * 2 ^ 26 : Nat)

/-- The register of input `k` of quad `q`. -/
def auxAddr (q k : Nat) : Nat :=
  match k with
  | 0 => A.ADC_Q_VBUS q
  | 1 => A.ADC_Q_TQ q
  | 2 => A.ADC_Q_XIN q
  | _ => A.ADC_Q_ENC5V q

/-- A new baseplate temperature (R344, R345): the first one starts every junction estimate. Log entry 47 (DEDUCED). -/
def State.baseplate (s : State) (t : Int) (first : Bool) : State :=
  let s1 := s.show A.THM_TB t
  let s2 := if first then s1.upto 24 (fun a s => s.show (A.THM_AX_TJ a) t) else s1
  let s3 := s2.wrb F.THM_STATUS_TBWARN (decide (85 * 2 ^ 24 ≤ t))
  if t < 95 * 2 ^ 24 then s3
  else
    let s4 := if s3.bit F.THM_STATUS_TBFAULT then s3 else (s3.on F.THM_STATUS_TBFAULT).irqS 24
    if !s3.bit F.THM_STATUS_TBFAULT || s4.modeIn [.armed, .run] then s4.safeStop 5 else s4

/-- The mean of the six bus voltages (R179), and what the bus thresholds make due (R328, R329, R333, R335, R336): regulation
after 1 ms within 44-52 V, its loss after 100 µs outside 42-58 V, the chopper at 56 V and 54 V, overvoltage above 60 V,
undervoltage after 10 µs below 38 V in ARMED and RUN; and the brakes at 38 V. Log entry 47 (DEDUCED). -/
def State.busLook (s : State) : State :=
  let sum := (List.range 6).foldl (fun (n : Int) q => n + s.rdS (F.ADC_Q_VBUS_V q)) 0
  let old := s.busMean
  let m := rdiv sum 6
  let s1 := s.show A.PWR_VBUS m
  let arm (cond : Bool) (n : Nat) (e : Instr) (s : State) : State :=
    if cond then (if s.due e then s else s.after n e) else s.cancel e
  let reg := s1.bit F.SYS_READY_BUS
  let chop := s1.bit F.PWR_STATUS_CHOPON
  let act := s1.modeIn [.armed, .run]
  let s2 := arm (!reg && decide (volts 44 ≤ m ∧ m ≤ volts 52)) (ms 1) .busRegulationSet s1
  let s3 := arm (reg && decide (m < volts 42 ∨ volts 58 < m)) (us 100) .busRegulationLost s2
  let s4 := arm (!chop && !s.bit F.PWR_STATUS_CHOPHOT && decide (volts 56 < m)) 0 .chopperOn s3
  let s5 := arm (chop && decide (m < volts 54)) 0 .chopperOff s4
  let s6 := arm (decide (volts 60 < m) && (decide (old ≤ volts 60) || act)) 0 .busOvervoltage s5
  (arm (act && decide (m < volts 38)) (us 10) .busUndervoltage s6).brakeLook

/-- AUX_CONVERSION (R178, R179): input `inp` of quad `q` reads `code`. Log entries 47 (DEDUCED), 127 (DESIGN CHOICE). -/
def execAuxConversion (q : Fin 6) (inp : Fin 4) (code : Nat) (s : State) : Result :=
  if !s.auxTurn q inp then ok s
  else
    let v := auxValue q inp (code % 16384)
    let first := !s.bitAt (F.ADC_Q_AUXSTAT_VALID q) inp
    let s1 := (s.show (auxAddr q inp) v).setBitAt (F.ADC_Q_AUXSTAT_VALID q) inp true
    ok (if inp.val = 0 then s1.busLook else if q.val = 4 ∧ inp.val = 2 then s1.baseplate v first else s1)

/-! ### The frame tick -/

/-- The sample-point check with the values in force (R163): SP1 is a sample point while DBL makes it active.
Log entry 143 (DEDUCED). -/
def State.spBad (s : State) (q : Nat) : Bool :=
  let p := s.carrierPeriod q
  let a := s.inForce (F.ADC_Q_SAMP_SP0 q)
  let b := s.inForce (F.ADC_Q_SAMP_SP1 q)
  let d := (a - b) + (b - a)
  decide (p ≤ a) || (s.dbl q && (decide (p ≤ b) || decide (min d (p - d) < 150)))

/-- The converters of quad `q` at a frame tick (R163, R171, R177). -/
def State.adcTick (s : State) (q : Nat) : State :=
  let bad := s.spBad q
  let s1 := if !s.carrierOn q then s
    else if bad then (if s.bit (F.ADC_Q_STATUS_SP_ERR q) then s else (s.on (F.ADC_Q_STATUS_SP_ERR q)).adcIrq q)
    else s.off0 (F.ADC_Q_STATUS_SP_ERR q)
  let s2 := s1.setQuad q { s1.quad q with next := 0 }
  s2.upto 4 (fun k s =>
    let a := 4 * q + k
    let lim : Int := s.rd F.ADC_CTL_ZTHR * 2 ^ 40
    let beyond (f : Fld) : Bool := decide (lim < 100 * s.rdS f) || decide (100 * s.rdS f < -lim)
    if s.mode == .standby && (beyond (F.ADC_AX_IU_I a) || beyond (F.ADC_AX_IV_I a)) then
      let n := (s.axis a).drift + 1
      let s1 := s.setAxis a { s.axis a with drift := n }
      if s1.rd F.ADC_CTL_ZFR ≤ n then s1.adcFlag a 3 else s1
    else if (s.axis a).drift = 0 then s
    else s.setAxis a { s.axis a with drift := 0 })

/-- What the carrier of quad `q` reaches at its present position: a valley, a peak, a sample point (R135, R136, R162). -/
def State.carrierPoint (s : State) (q : Nat) : State :=
  let pos := s.rd (F.PWM_Q_CNT_POS q)
  let iq : Fin 6 := Fin.ofNat 6 q
  let s1 := if pos = 0 then s.after 0 (.carrierValley iq)
    else if pos = s.inForce (F.PWM_Q_PERIOD_PEAK q) then s.after 0 (.carrierPeak iq) else s
  let s2 := if s1.sampling q && pos == s1.inForce (F.ADC_Q_SAMP_SP0 q) then s1.after 0 (.adcSample iq false) else s1
  if s2.sampling q && s2.inForce (F.ADC_Q_SAMP_DBL q) == 1 && pos == s2.inForce (F.ADC_Q_SAMP_SP1 q) then
    s2.after 0 (.adcSample iq true) else s2

/-- The carrier of quad `q` after a frame tick has set it: what it reaches at the position that holds from the tick replaces what
the position before would have reached in that cycle (R136-R138, R164). Log entry 132 (DEDUCED). -/
def State.carrierPlaced (s : State) (q : Nat) : State :=
  let iq : Fin 6 := Fin.ofNat 6 q
  if !s.carrierOn q || s.carriersFrozen then s
  else ((((s.cancel (.carrierValley iq)).cancel (.carrierPeak iq)).cancel (.adcSample iq false)).cancel
    (.adcSample iq true)).carrierPoint q

/-- Whether an enabled axis's offset calibration is not done (R172, R175). -/
def State.calMissing (s : State) : Bool :=
  !s.bit F.SYS_READY_ADC || s.bit F.ADC_STATUS_CALBUSY ||
    (List.range 24).any (fun a => s.bitAt F.ADC_CALERR_AXIS a && s.bit (F.PWM_AX_CTL_OEN a))

end Sys2Proof.Machine
end

