-- ==== Sys2Proof/Machine/LaneEvents.lean ====
section
/-! DEFINITION. Caldera's events and register writes: the current pass (R206, R234), the outer stage (R207), commits and bank
copies (R230, R231), parameter, set-point and control writes (R227, R229, R240), table entries and seals (R249-R253), and the
learning capture (R259-R263). -/
namespace Sys2Proof.Machine

/-! ### Passes -/

/-- Cycles of the outer stage of axis `a` on sample `sidx` (R207). -/
def State.outerCycles (s : State) (a sidx : Nat) : Nat :=
  if !s.loopDue a sidx false then 0
  else
    let m := s.leMode a
    let posBq := ((List.range 4).filter (fun k => (s.par a F.LE_AX_GRAPH_BQEN).testBit k
      && s.par a F.LE_AX_GRAPH_BQPOS / 4 ^ k % 4 == 0)).length
    s.outerCost a (s.actBank a) - (if m = 3 ∧ !s.loopDue a sidx true then 4 + 5 * posBq else 0)

/-- Cycles of the outer stage of quad `q` on sample `sidx`. -/
def State.stageCycles (s : State) (q sidx : Nat) : Nat :=
  (List.range 4).foldl (fun n k => n + s.outerCycles (4 * q + k) sidx) 0

/-- The event of an outer stage's end. -/
def outerEvent (q : Nat) : Instr := .laneOuterStage (Fin.ofNat 6 q)

/-- The outer stage at the front of lane `q`'s queue starts: it computes from its sample's values (R207). -/
def State.stageBegin (s : State) (q sidx cycles : Nat) : State :=
  let (l, s1) := s.outerCompute q sidx
  (s1.setLane q { s1.lane q with outRes := some l }).after cycles (outerEvent q)

/-- An outer stage for sample `sidx` is due: it runs after the pass, or after the stage that still runs. -/
def State.outerDue (s : State) (q sidx : Nat) : State :=
  if (List.range 4).any (fun k => s.loopDue (4 * q + k) sidx false) then
    let x := s.lane q
    let s1 := s.setLane q { x with outer := x.outer ++ [sidx] }
    if x.outer.isEmpty then s1.stageBegin q sidx (max 1 (s.stageCycles q sidx - 9)) else s1
  else s

/-- The current pass of the waiting sample set of quad `q` over its four axes (R205, R206). -/
def State.lanePass (s : State) (q : Nat) : State :=
  let x := s.lane q
  let s1 := s.setLane q { x with setReady := false, next := false, beginAt := none }
  let s2 := s1.upto 4 (fun k s => s.axisPass (4 * q + k) x.second)
  let s3 := (s2.fire (48 + q) 0).outerDue q (s2.rd (F.ADC_AX_ISTAT_SIDX (4 * q)))
  if x.next then (s3.setLane q { s3.lane q with setReady := true, second := (s3.quad q).second }).passBegin q else s3

/-- LANE_CURRENT_PASS (R206, R210-R218, R234, R237): the waiting sample set of quad `q` passes through its lane; the end of TST's
delay only begins the pass. -/
def execLaneCurrentPass (q : Fin 6) (s : State) : Result :=
  let s := s.cancel (.laneCurrentPass q)
  let q := q.val
  let x := s.lane q
  if !s.laneOn q || !x.setReady || s.laneFrozen then ok s
  else if s.clocked && x.beginAt == some s.now then ok (s.passBegin q)
  else ok ((if x.beginAt.isSome then s.passLate q else s).lanePass q)

/-- LANE_OUTER_STAGE (R207, R219-R226): the oldest outer stage of quad `q` is done, after the pass that may be in progress and uses
the references before it (R234). -/
def execLaneOuterStage (q : Fin 6) (s : State) : Result :=
  let s := s.cancel (.laneOuterStage q)
  let q := q.val
  match (s.lane q).outer with
  | [] => ok s
  | sidx :: rest =>
    if !s.laneOn q || s.laneFrozen then ok s
    else if s.clocked && s.passRuns q then ok (s.after (s.remaining (passEvent q)) (outerEvent q))
    else
      let (l, s0) := match (s.lane q).outRes with
        | some l => (l, s)
        | none => s.outerCompute q sidx
      let (fault, s1) := s0.outerEnd sidx l
      let s2 := s1.setLane q { s1.lane q with outer := rest, outRes := none }
      let s3 := match rest with
        | [] => s2
        | n :: _ => s2.stageBegin q n (max 1 (s2.stageCycles q n))
      ok (if fault then s3.safeStop 2 else s3)

/-! ### Banks -/

/-- A write of LE_PARAM_COMMIT (R230). -/
def State.commitWrite (s : State) (v : Word) : State := s.commitRequest (getBits v 0 24)

/-- LE_COMMIT_EVENT (R230, R312): the commit task input is reached. -/
def execLeCommitEvent (s : State) : Result :=
  ok (if s.modeIn [.off, .dormant] then s else s.arrive 1 1 State.commitTask)

/-- LE_BANK_COPY_DONE (R231). -/
def execLeBankCopyDone (a : Fin 24) (s : State) : Result :=
  let s1 := s.cancel (.leBankCopyDone a)
  ok (if (s.axis a).copying then s1.copyDone a else s1)

/-- A write of the banked register at offset `o` of axis `a` (R229, R231): into the inactive bank, each field that is out of its
range ignored with WR_REFUSED; in the swap cycle or during the copy it stalls. Log entry 54 (DEDUCED). -/
def State.paramWrite (s : State) (a o : Nat) (v : Word) : State :=
  let addr := 0x08071000 + 0x400 * a + o
  match findRow (blockRows addr) addr with
  | none => s
  | some r =>
    let x := s.axis a
    let swapping := s.sameAs x.swapAt
    let s1 := if rowInRange r.fields v then s else s.leFlag a 13
    if x.copying || swapping then
      let old := match x.stalled.reverse.find? (fun p => p.1 == o) with
        | some p => p.2
        | none => s.reg (addr + s.actBank a * bankKey)
      let s2 := s1.setAxis a { s1.axis a with stalled := x.stalled ++ [(o, rowWrite false r.fields old v)] }
      if s.bit (F.LE_AX_BSTAT_PEND a) || swapping then s2.on (F.LE_AX_BSTAT_MISS a) else s2
    else
      let k := addr + (1 - s.actBank a) * bankKey
      s1.setReg k (rowWrite false r.fields (s.reg k) v)

/-- A read of the banked register at `addr` of axis `a` (R229). -/
def State.paramRead (s : State) (a addr : Nat) : Word :=
  let b := s.actBank a
  s.reg (addr + (if s.bit F.LE_CTL_RDACT then b else 1 - b) * bankKey)

/-! ### Set-points and control -/

/-- A set-point write by `w` (R227): the source that SPSRC names is taken, the other ignored with WR_REFUSED. -/
def State.spWrite (s : State) (w : Writer) (a k : Nat) (v : Word) : State :=
  if (s.inForce (F.LE_AX_CTL_SPSRC a) != 0) == (w == .fabric) then s.spStore a k v
  else if v = s.reg (A.LE_AX_SP_POS a + 8 * k) then s else s.leFlag a 13

/-- A write of LE_AXa_CTL (R221, R240): accepted in STANDBY and ARMED, from the next frame tick; FAULTACT 3 keeps the field. -/
def State.leCtlWrite (s : State) (a : Nat) (v : Word) : State :=
  let addr := A.LE_AX_CTL a
  let bad := getBits v 3 2 == 3
  let nw := setBits v 3 2 (if bad then s.rd (F.LE_AX_CTL_FAULTACT a) else getBits v 3 2)
  let nw := rowWrite false (fieldsAt addr) (s.reg addr) nw
  let s1 := if bad then s.leFlag a 13 else s
  if nw = s.reg addr then s1
  else if s.modeIn [.standby, .armed] then s1.setHeld addr nw
  else s1.leFlag a 13

/-! ### Tables -/

/-- The axis of an address of the table window. -/
def tableAxis (addr : Nat) : Nat := (addr - 0x09000000) / 0x8000

/-- The page of an address of the table window: 0 COG0, 1 COG1, 2 FR0, 3 FR1. -/
def tablePg (addr : Nat) : Nat :=
  let o := addr % 0x8000
  if o < 0x2000 then 0 else if o < 0x4000 then 1 else if o < 0x5000 then 2 else 3

/-- Whether page `pg` of axis `a` is active (R250). -/
def State.pageActive (s : State) (a pg : Nat) : Bool := s.activePage a (decide (2 ≤ pg)) == pg % 2

/-- The TRAINED bit of a page. -/
def trainedFld (a pg : Nat) : Fld := ⟨A.LE_AX_TBLSTAT a, pg, 1⟩

/-- Whether the tables take entry writes and seals (R265): not in BOOT, nor unpowered, nor once the logic BIST runs. -/
def State.tablesLive (s : State) : Bool := !s.modeIn [.off, .dormant, .boot] && !(s.mode == .shutdown && s.bistRunning)

/-- A store of `l` into the table window (R247, R249, R251, R252): refused on an active page; else the page is UNTRAINED.
Log entry 58 (DEDUCED). -/
def State.tableStore (s : State) (addr : Nat) (l : List Byte) : State :=
  let a := tableAxis addr
  let pg := tablePg addr
  if !s.tablesLive then s
  else if s.pageActive a pg then s.tblFlag a 6
  else
    let s1 := (s.setBytes addr l).eccWrite addr l.length
    let s2 := if s.sameAs (Tab.find s.tblSeal (4 * a + pg)) then s1.tblFlag a 7 else s1
    ({ s2 with tblWr := Tab.put s2.tblWr (4 * a + pg) s2.instant }.off0 (trainedFld a pg)).untrained a

/-- TABLE_ENTRY_WRITE: a 6-byte store at an address whose bytes all lie in one page. Log entry 58 (DEDUCED). -/
def State.entryWrite (s : State) (addr : Nat) (v : Word) : State :=
  if (List.range 6).all (fun i => decide (region (addr + i) = .table)) then s.tableStore addr (leBytes 6 v.toNat) else s

/-- A write of LE_AXa_TBLSEAL (R252). Log entry 58 (DEDUCED). -/
def State.sealWrite (s : State) (a : Nat) (v : Word) : State :=
  let cmd := getBits v 0 8
  if !s.tablesLive || (cmd != 0x5E && cmd != 0x0E) then s
  else
    (s.upto 4 (fun pg s =>
      if !v.getLsbD (8 + pg) then s
      else if cmd = 0x0E then s.off0 (trainedFld a pg)
      else if s.sameAs (Tab.find s.tblWr (4 * a + pg)) then (s.off0 (trainedFld a pg)).tblFlag a 7
      else { s with tblSeal := Tab.put s.tblSeal (4 * a + pg) s.instant }.on (trainedFld a pg))).untrained a

/-! ### Learning capture -/

/-- A learning-capture start or write refused (R259). -/
def State.learnRefuse (s : State) (cause : Nat) : State :=
  (s.on F.LE_LRN_STAT_REFUSED).wr F.LE_LRN_STAT_CAUSE cause

/-- Whether the capture engine is busy (R259). -/
def State.learnBusy (s : State) : Bool := s.bit F.LE_LRN_STAT_BUSY || s.bit F.LE_LRN_STAT_PEND

/-- The CAUSE that refuses a start, 0 for none (R259). -/
def State.learnCause (s : State) : Nat :=
  let a := s.rd F.LE_LRN_CTL_AXIS
  let base := s.rd F.LE_LRN_BASE_ADDR
  let len := s.rd F.LE_LRN_LEN_LEN
  if s.mode != .run then 1
  else if 24 ≤ a ∨ !(s.leMode a = 2 ∨ s.leMode a = 3) then 2
  else if base % 8 ≠ 0 ∨ len = 0 ∨ 1048576 < len ∨ base < 0x20000000 ∨ 0x40000000 < base + 40 * len then 3
  else if !s.bit F.SYS_READY_DRAM then 4
  else if s.learnBusy then 5
  else 0

/-- A start request (R259, R260). -/
def State.learnStart (s : State) : State :=
  let c := s.learnCause
  if c ≠ 0 then s.learnRefuse c
  else ((s.on F.LE_LRN_STAT_PEND).wr F.LE_LRN_COUNT_COUNT 0).wr F.LE_LRN_COUNT_LOST 0

/-- A stop (R262): no flag sets; the end of a capture fires its event (R263). -/
def State.learnStop (s : State) : State :=
  let s1 := (s.learnPut.off0 F.LE_LRN_STAT_BUSY).off0 F.LE_LRN_STAT_PEND
  if s.learnBusy then s1.fire 38 0 else s1

/-- A write of LE_LRN_CTL: STOP, then AXIS and DIV, then START. Log entry 55 (DEDUCED). -/
def State.learnCtlWrite (s : State) (v : Word) : State :=
  let s0 := if v.getLsbD 17 then s.learnStop else s
  let nw := setBits (setBits (s0.reg A.LE_LRN_CTL) 0 5 (getBits v 0 5)) 8 8 (getBits v 8 8)
  let s1 := if s0.learnBusy then s0.learnRefuse 5 else s0.setReg A.LE_LRN_CTL nw
  if v.getLsbD 16 then s1.learnStart else s1

/-- A write of LE_LRN_BASE or LE_LRN_LEN (R259): ignored with CAUSE 5 while the engine is busy. -/
def State.learnBufWrite (s : State) (w : Writer) (addr : Nat) (v : Word) : State :=
  if s.learnBusy then s.learnRefuse 5 else s.plainWrite w addr v

/-- LEARN_RECORD_WRITE (R260-R262): the record that waits is complete in DRAM. Log entry 56 (DEDUCED). -/
def execLearnRecordWrite (s : State) : Result := ok (s.cancel .learnRecordWrite).learnWrite

end Sys2Proof.Machine
end

