-- ==== Sys2Proof/Machine/Timers.lean ====
section
/-! DEFINITION. TICK and TMR (R102-R130): the clock of a timer, captures and starts by events, system time, task slots, and
the register writes of the tick. -/
namespace Sys2Proof.Machine

/-! ### Timers -/

/-- Flag `k` of timer `t` sets; the timer's interrupt when enabled (R120). -/
def State.tmrFlag (s : State) (t k : Nat) : State :=
  let s1 := s.on ⟨A.TMR_T_FLAG t, k, 1⟩
  if s1.bitAt (F.TMR_T_IEN_IEN t) k then s1.irq (32 + t) else s1

/-- Timer `t` has moved into its present count: the enabled channels that hold it match (R118, R120); MATCH0
starts the blanking windows that it selects (R194). -/
def State.tmrMatch (s : State) (t : Nat) : State :=
  s.upto 4 (fun k s =>
    if s.bitAt (F.TMR_T_CTL_CMPEN t) k && s.reg (A.TMR_T_CMP t k) == s.reg (A.TMR_T_COUNT t) then
      let s1 := if k = 0 then s.blankTimer t else s
      (s1.tmrFlag t k).fire (8 + t) k
    else s)

/-- Whether the next counter clock of timer `t` is a natural wrap (R114). -/
def State.tmrWraps (s : State) (t : Nat) : Bool := decide (s.activeReload t ≤ s.rd (F.TMR_T_COUNT_COUNT t))

/-- The count of timer `t` moves on by one counter clock (R114); at a natural wrap it goes to 0 and pending values become active
(R115). -/
def State.tmrMove (s : State) (t : Nat) : State :=
  if s.tmrWraps t then
    (s.setTmr t { s.tmr t with pre := 0, oldReload := none, oldPre := none, wrapAt := some s.instant }).setReg (A.TMR_T_COUNT t) 0
  else (s.setTmr t { s.tmr t with pre := 0 }).wr (F.TMR_T_COUNT_COUNT t) (s.rd (F.TMR_T_COUNT_COUNT t) + 1)

/-- What a move of timer `t` brings: its matches, and at a natural wrap (`w`) WRAP and the look at CMP_RANGE (R114, R118, R119). -/
def State.tmrMoved (s : State) (t : Nat) (w : Bool) : State :=
  (if w then ((s.cmpRange t).tmrFlag t 4).fire (8 + t) 4 else s).tmrMatch t

/-- One counter clock of timer `t` (R114, R118). -/
def State.tmrClock (s : State) (t : Nat) : State := (s.tmrMove t).tmrMoved t (s.tmrWraps t)

/-- Whether timer `t` counts (R125, R126). -/
def State.tmrCounts (s : State) (t : Nat) : Bool := s.tmrRun t && !s.tmrFrozen t

/-- Whether a frame tick reaches the timers in this cycle. -/
def State.tickReaches (s : State) : Bool :=
  s.alarms.any (fun p => decide (p.1 ≤ s.now) && ((p.2 == .frameTick && !s.tstOn 9) || p.2 == .tickJitterDelivery))

/-- One drive-base cycle of timer `t`: the prescaler, and at its end the counter clock (R114).  In the cycle of a tick that resets
it the counter makes one move only: the wrap, or the reset (R117).  With the state, the timers that moved, each with whether it
wrapped. -/
def tmrCycle (reset : Bool) (acc : State × List (Nat × Bool)) (t : Nat) : State × List (Nat × Bool) :=
  let s := acc.1
  if !s.tmrCounts t then acc
  else
    let n := (s.tmr t).pre + 1
    let w := s.tmrWraps t
    if s.activePre t < n then
      if reset && s.bit (F.TMR_T_CTL_TICKRST t) && !w then acc else (s.tmrMove t, acc.2 ++ [(t, w)])
    else (s.setTmr t { s.tmr t with pre := n }, acc.2)

/-- One drive-base cycle of the timers: every counter moves before what the moves bring, so that an event of this cycle starts a
timer or captures a count as the cycle shows it (R116, R121). -/
def State.tmrCycles (s : State) : State :=
  let x := (List.range 16).foldl (tmrCycle s.tickReaches) (s, [])
  x.2.foldl (fun s (p : Nat × Bool) => s.tmrMoved p.1 p.2) x.1

/-- A frame tick's reset of timer `t` (R117): the count goes to 0 and its prescaler restarts with a pending PRE; one move into 0
when it wrapped in this cycle. -/
def State.tmrTickReset (s : State) (t : Nat) : State :=
  if !s.bit (F.TMR_T_CTL_TICKRST t) || !s.tmrCounts t then s
  else
    let x := s.tmr t
    let s1 := (s.setTmr t { x with pre := 0, oldPre := none }).setReg (A.TMR_T_COUNT t) 0
    if s.sameAs x.wrapAt then s1 else s1.tmrMatch t

/-- TIMER_WRAP (R114): the counter clock of a running timer at or above its active reload value. -/
def execTimerWrap (t : Fin 16) (s : State) : Result :=
  ok (if s.tmrCounts t && decide (s.activeReload t ≤ s.rd (F.TMR_T_COUNT_COUNT t)) then s.tmrClock t else s)

/-- The count that the next counter clock of timer `t` gives. -/
def State.tmrNext (s : State) (t : Nat) : Nat :=
  let n := s.rd (F.TMR_T_COUNT_COUNT t)
  if s.activeReload t ≤ n then 0 else n + 1

/-- TIMER_MATCH (R118): the counter clock that moves a running timer into the compare value of an enabled channel. -/
def execTimerMatch (t : Fin 16) (k : Fin 4) (s : State) : Result :=
  ok (if s.tmrCounts t && s.bitAt (F.TMR_T_CTL_CMPEN t) k && s.rd (F.TMR_T_CMP_C t k) == s.tmrNext t then s.tmrClock t else s)

/-- Whether the timers may run: not in OFF, DORMANT or BOOT, nor from the start of the logic BIST (R125). -/
def State.tmrLive (s : State) : Bool := !s.modeIn [.off, .dormant, .boot] && !(s.mode == .shutdown && s.bistRunning)

/-- A write of TMR_GSTART (R116). -/
def State.gstartWrite (s : State) (v : Word) : State := if s.tmrLive then s.tmrStart (getBits v 0 16) else s

/-- TIMER_GSTART_EVENT (R116, R312). -/
def execTimerGstartEvent (s : State) : Result := ok (if s.tmrLive then s.arrive 0 1 State.gstartTask else s)

/-- TIMER_CAPTURE (R121, R312): the capture task input `k` of timer `t` is reached. -/
def execTimerCapture (t : Fin 16) (k : Fin 2) (s : State) : Result :=
  ok (if s.tmrLive then s.arrive (2 + 2 * t.val + k.val) 1 (fun s => s.capture t k) else s)

/-! ### System time -/

/-- System time moved on by `n` ns, with carry into the epoch (R110). -/
def State.timeAdd (s : State) (n : Nat) : State :=
  let t := s.rd F.SYSTIME_NS_NS + n
  let s1 := s.setReg A.SYSTIME_NS (BitVec.ofNat 48 t)
  if 2 ^ 48 ≤ t then { s1 with epoch := BitVec.ofNat 48 ((s1.epoch.toNat + t / 2 ^ 48) % 2 ^ 32) } else s1

/-- What the next drive-base cycle adds: 1, 1 and 2 in turn (R110). -/
def State.nsStep (s : State) : Nat := if s.nsPhase = 2 then 2 else 1

/-- One drive-base cycle of system time. -/
def State.timeCycle (s : State) : State :=
  { s.timeAdd s.nsStep with nsPhase := if s.nsPhase = 2 then 0 else s.nsPhase + 1 }

/-- SYSTIME_NS_WRAP (R110): the cycle in which the count passes 2^48 - 1. -/
def execSystimeNsWrap (s : State) : Result :=
  ok (if s.tickRuns && decide (2 ^ 48 ≤ s.rd F.SYSTIME_NS_NS + s.nsStep) then s.timeCycle else s)

/-- A read of SYSTIME_NS by reader `r` (R111). -/
def State.nsRead (s : State) (r : Writer) : Word × State :=
  (s.reg A.SYSTIME_NS, if s.sideFx r then { s with epochs := Tab.set 0 s.epochs (readerIx r) s.epoch } else s)

/-- A read of SYSTIME_EPOCH (R111). -/
def State.epochRead (s : State) (r : Writer) : Word := Tab.get 0 s.epochs (readerIx r)

/-- TICK starts (R105): FRAMECNT and IDX 0, the first frame tick due at once; `fresh` also starts system time from 0.
Log entry 42 (DEDUCED). -/
def State.tickStart (s : State) (fresh : Bool) : State :=
  let s1 := (((s.on F.TICK_STATUS_RUNNING).wr F.TICK_FRAMECNT_COUNT 0).wr F.TICK_FRAMENO_IDX 0).wr F.TICK_PHASE_PHASE 0
  let s2 := if fresh then { s1.setReg A.SYSTIME_NS 0 with epoch := 0, nsPhase := 0 } else s1
  { s2 with tickAt := none, timeSet := false, alarms := (s2.now, .frameTick) :: (s2.cancel .frameTick).alarms }

/-! ### The registers of the tick -/

/-- A write of TICK_FRAME or TICK_FCYC (R104): STANDBY only, in force from the next frame tick; any
accepted value of TICK_FCYC counts as a new one there. Log entries 11 (DEDUCED), 130 (DEDUCED). -/
def State.tickWrite (s : State) (addr : Nat) (v : Word) : State :=
  let fs := fieldsAt addr
  let nw := rowWrite false fs (s.reg addr) v
  if s.mode == .standby then
    let s1 := if addr = A.TICK_FCYC then s.hold addr nw else s.setHeld addr nw
    if rowInRange fs v then s1 else s1.on F.TICK_STATUS_WR_REFUSED
  else if nw = s.reg addr ∧ rowInRange fs v then s else s.on F.TICK_STATUS_WR_REFUSED

/-- A write of TICK_DONE (R108). -/
def State.doneWrite (s : State) (v : Word) : State :=
  s.upto 16 (fun n s => if v.getLsbD n then s.off0 (F.TICK_SLOT_PEND n) else s)

/-! ### Task slots -/

/-- Whether slot `n` releases at this tick (R107). -/
def State.slotHits (s : State) (n : Nat) : Bool :=
  let d := s.rd (F.TICK_SLOT_DIV n) + 1
  s.bit (F.TICK_SLOT_EN n) && s.rd F.TICK_FRAMECNT_COUNT % d == s.rd (F.TICK_SLOT_OFS n) % d
    && s.bitAt F.SYS_READY_APP (s.rd (F.TICK_SLOT_ACORE n))

/-- Slot `n` at a frame tick (R107, R108): an overrun when its last release is still pending, then its release. -/
def State.slotTick (s : State) (n : Nat) : State :=
  if !s.slotHits n then s
  else
    let c := s.rd (F.TICK_SLOT_ACORE n)
    let s1 := if s.bit (F.TICK_SLOT_PEND n) then
        (((s.setBitAt F.TICK_OVR_SLOT n true).inc (F.TICK_SLOT_OVRCNT n)).edge c (16 + n)).fire 3 n
      else s
    ((s1.on (F.TICK_SLOT_PEND n)).edge c n).fire 2 n

/-- What a frame tick brings to slots, tick-reset timers and the tick's channels (R29, R107, R117, R307).
Log entry 125 (DESIGN CHOICE). -/
def State.tickDeliver (s : State) : State :=
  let s1 := s.upto 16 (fun t s => s.tmrTickReset t)
  let s2 := s1.upto 16 (fun n s => s.slotTick n)
  let s3 := s2.fire 0 0
  if s3.rd F.TICK_FRAMENO_IDX = 0 then s3.fire 1 0 else s3

/-- TICK_JITTER_DELIVERY (R612): a tick that the TST block holds back is delivered. -/
def execTickJitterDelivery (s : State) : Result :=
  ok (if s.due .tickJitterDelivery then (s.cancel .tickJitterDelivery).tickDeliver else s)

end Sys2Proof.Machine
end

