-- ==== Sys2Proof/Machine/Pwr.lean ====
section
/-! DEFINITION. PWR (R325-R351): the line and the converters, the bus thresholds, the brake chopper, the Geyser account, the
per-axis limits, the supplies and the brake outputs. -/
namespace Sys2Proof.Machine

/-- The PWR interrupt. -/
def State.pwrIrq (s : State) : State := s.irq 79

/-- Bit `k` of PWR_STATUS rises; the interrupt when IEN enables it (R350). -/
def State.pwrFlag (s : State) (k : Nat) : State := s.rise ⟨A.PWR_STATUS, k, 1⟩ F.PWR_IEN_IEN k 79

/-- `v` in F24. -/
def f24 (v : Int) : Int := v * 2 ^ 24

/-! ### Converters -/

/-- Whether the isolated converter is to run (R329, R349). -/
def State.isoWanted (s : State) : Bool :=
  s.modeIn [.armed, .run, .safeStop] || (s.mode == .standby && s.bit F.PWR_CTL_BUSMODE)

/-- The isolated converter follows the mode, BUSMODE and the bulk (R328, R329). -/
def State.isoLook (s : State) : State :=
  let run := s.isoWanted && s.bulkOk
  if run == s.bit F.PWR_STATUS_ISORUN then s
  else if run then s.pwrFlag 1 else s.off0 F.PWR_STATUS_ISORUN

/-- ISO_CONVERTER_STOP (R328): the bulk falls below 280 V. -/
def execIsoConverterStop (s : State) : Result :=
  ok { s.cancel .isoConverterStop with bulkOk := false }.isoLook

/-- ISO_CONVERTER_START (R328): the bulk rises to 280 V. -/
def execIsoConverterStart (s : State) : Result :=
  ok { s.cancel .isoConverterStart with bulkOk := true }.isoLook

/-- Whether PWR runs: not in OFF or DORMANT, nor from the start of the logic BIST (R349). -/
def State.pwrLive (s : State) : Bool := !s.modeIn [.off, .dormant] && !(s.mode == .shutdown && s.bistRunning)

/-! ### The line (R326, R330) -/

/-- The line voltage held within 100-180 VAC, tenths of a volt. -/
def lineClip (v : Nat) : Int := max 1000 (min 1800 (v : Int))

/-- P_lim of a line voltage in tenths of a volt, F24 W. -/
def pLim (v : Nat) : Int := f24 700 + rdiv (f24 450 * (lineClip v - 1000)) 800

/-- PPK of a line voltage, F24 W. -/
def pPeak (v : Nat) : Int := f24 1600 + rdiv (f24 1100 * (lineClip v - 1000)) 800

/-- P_lim, PPK and LOWLINE follow the measured line. -/
def State.lineShow (s : State) : State :=
  let v := s.rd F.PWR_LINE_VRMS
  let lim := if s.bit F.PWR_STATUS_MAINSLOSS then 0 else pLim v
  let s1 := (s.setReg A.PWR_PLIMLINE (wordOf lim)).setReg A.PWR_PPEAK (wordOf (pPeak v))
  if v < 1800 then s1.pwrFlag 3 else s1.off0 F.PWR_STATUS_LOWLINE

/-- LINE_HALF_CYCLE (R326, R330): `vrms` in tenths of a volt, `freq` in hundredths of a hertz, `peak` in volts. A peak above 60 V
starts the 12 ms of R330 again; six half-cycles above 80 VAC end a mains loss. -/
def execLineHalfCycle (vrms freq peak : Nat) (s : State) : Result :=
  if !s.pwrLive then ok s
  else
    let s1 := ((s.wr F.PWR_LINE_VRMS (min vrms 65535)).wr F.PWR_LINE_FREQ (min freq 65535)).lineShow
    let s2 := if 60 < peak ∧ !s1.bit F.PWR_STATUS_MAINSLOSS then s1.after (ms 12) .mainsLoss else s1
    if !s2.bit F.PWR_STATUS_MAINSLOSS then ok { s2 with lineGood := 0 }
    else
      let n := if 800 < vrms then s2.lineGood + 1 else 0
      let s3 := { s2 with lineGood := n }
      ok (if n = 6 then s3.after 0 .mainsReturn else s3)

/-- MAINS_LOSS (R330, R331). -/
def execMainsLoss (s : State) : Result :=
  let s0 := s.cancel .mainsLoss
  if !s.pwrLive || s.bit F.PWR_STATUS_MAINSLOSS then ok s0
  else
    let s1 := ((s0.pwrFlag 4).off0 F.PWR_STATUS_PFCRUN).lineShow
    let s2 := (({ s1 with lineGood := 0 }.inc F.PWR_CNT_MLCNT).fire 47 1).irqS 24
    ok (if s2.bit F.PWR_CTL_MLACT && s2.modeIn [.armed, .run, .safeStop] then s2.safeStop 3 else s2)

/-- MAINS_RETURN (R330). -/
def execMainsReturn (s : State) : Result :=
  let s0 := s.cancel .mainsReturn
  if !s.bit F.PWR_STATUS_MAINSLOSS then ok s0
  else
    let s1 := { s0.off0 F.PWR_STATUS_MAINSLOSS with lineGood := 0 }
    ok ((if s1.auxOn && s1.pwrLive then s1.pwrFlag 0 else s1).lineShow.after (ms 12) .mainsLoss)

/-! ### Bus thresholds -/

/-- BUS_REGULATION_SET (R329). -/
def execBusRegulationSet (s : State) : Result :=
  let s0 := s.cancel .busRegulationSet
  if s.bit F.SYS_READY_BUS || !(decide (volts 44 ≤ s.busMean ∧ s.busMean ≤ volts 52)) || !s.pwrLive then ok s0
  else ok ((s0.pwrFlag 2).setReady 12 true)

/-- BUS_REGULATION_LOST (R329). -/
def execBusRegulationLost (s : State) : Result :=
  let s0 := s.cancel .busRegulationLost
  if !s.bit F.SYS_READY_BUS || !(decide (s.busMean < volts 42 ∨ volts 58 < s.busMean)) then ok s0
  else ok (((s0.off0 F.PWR_STATUS_BUSREG).setReady 12 false).fire 47 3)

/-- CHOPPER_ON (R333). -/
def execChopperOn (s : State) : Result :=
  let s0 := s.cancel .chopperOn
  if s.bit F.PWR_STATUS_CHOPON || s.bit F.PWR_STATUS_CHOPHOT || decide (s.busMean ≤ volts 56) || !s.pwrLive then ok s0
  else ok ((s0.pwrFlag 8).fire 47 2)

/-- CHOPPER_OFF (R333). -/
def execChopperOff (s : State) : Result :=
  let s0 := s.cancel .chopperOff
  ok (if s.bit F.PWR_STATUS_CHOPON && decide (s.busMean < volts 54) then s0.off0 F.PWR_STATUS_CHOPON else s0)

/-- BUS_OVERVOLTAGE (R335). -/
def execBusOvervoltage (s : State) : Result :=
  let s0 := s.cancel .busOvervoltage
  if decide (s.busMean ≤ volts 60) || !s.pwrLive then ok s0
  else
    let s1 := if s0.bit F.PWR_STATUS_OVBUS then s0 else (s0.pwrFlag 11).irqS 24
    ok (if s1.modeIn [.armed, .run, .safeStop] then s1.safeStop 4 else s1)

/-- BUS_UNDERVOLTAGE (R336). -/
def execBusUndervoltage (s : State) : Result :=
  let s0 := s.cancel .busUndervoltage
  if decide (volts 38 ≤ s.busMean) || !s.modeIn [.armed, .run] then ok s0
  else ok (((s0.pwrFlag 12).irqS 24).safeStop 8)

/-! ### The Geyser account (R337-R341) -/

/-- ETMAX at baseplate temperature `tb`, F24 (R338). -/
def etMax (tb : Int) : Int :=
  if tb ≤ f24 25 then f24 32 else max 0 (f24 32 - rdiv ((tb - f24 25) * 16) 60)

/-- EB of a bulk voltage, F24 (R337). -/
def bulkEnergy (v : Int) : Int :=
  if v ≤ f24 300 then 0 else rdiv (34 * (v * v - f24 300 * f24 300)) (10000 * 2 ^ 24)

/-- PPFC, what the PFC delivers into the bulk at voltage `vbulk` with a draw of `draw` (R327, R330): up to 600 W of recharge below 400 V. -/
def pfcPower (loss : Bool) (vbulk et draw lim : Int) : Int :=
  if loss then 0
  else if draw ≤ lim then (if f24 400 ≤ vbulk then draw else min lim (draw + f24 600))
  else if 0 < et then min draw (lim + f24 200)
  else lim

/-- ET after one update with PPFC `pfc` (R338): it falls by what the PFC delivers above P_lim, rises otherwise, and holds in a mains
loss. -/
def etNext (loss : Bool) (et mx pfc lim : Int) : Int :=
  if loss then et
  else if lim < pfc then max 0 (et - rdiv (pfc - lim) 100000)
  else min mx (et + rdiv mx 40000)

/-- The low current limit of R339, R343 and R344, 7.071 A in F40. -/
def limLow : Int := 7774646720004

/-- The high one, 15 A. -/
def limHigh : Int := 15 * 2 ^ 40

/-- What a limit moves in 10 µs: (15 - 7.071) A in 5 ms. -/
def limStep : Int := 17436055393

/-- The account in one update: EB, ET, GMAX, G, GEYSER_LOW, GEYSER_EMPTY, GEY50 and LG. -/
def State.geyser (s : State) (vbulk draw : Int) : State :=
  let mx := etMax (s.rdS F.THM_TB_T)
  let loss := s.bit F.PWR_STATUS_MAINSLOSS
  let et0 := s.rdS F.PWR_GEYSER_T_ET
  let lim := s.rdS F.PWR_PLIMLINE_P
  let et := etNext loss et0 mx (pfcPower loss vbulk et0 draw lim) lim
  let eb := bulkEnergy vbulk
  let g := eb + et
  let gm := f24 238 + mx
  let wasLow := s.bit F.PWR_STATUS_GEYSER_LOW
  let s1 := (((s.show A.PWR_GEYSER_B eb).show A.PWR_GEYSER_T et).show A.PWR_GEYSER g).show A.PWR_GEYSER_MAX gm
  let s2 := s1.wr F.PWR_GEYPCT_PERMILLE (min 1000 (g * 1000 / gm).toNat)
  let s3 := if g = 0 then s2.pwrFlag 6 else s2.off0 F.PWR_STATUS_GEYSER_EMPTY
  let lg := if wasLow then max limLow (s.lg - limStep) else min limHigh (s.lg + limStep)
  let s4 := { s3 with lg := lg }
  let s5 := if !wasLow && decide (10 * g ≤ gm) then ((s4.pwrFlag 5).inc F.PWR_CNT_GLOWCNT).fire 47 0
    else if wasLow && decide (gm ≤ 4 * g) then s4.off0 F.PWR_STATUS_GEYSER_LOW else s4
  s5.setReady 13 (decide (gm ≤ 2 * g))

/-- The chopper resistor in one update (R334). -/
def State.chopper (s : State) : State :=
  let v := s.busMean
  let heat := if s.bit F.PWR_STATUS_CHOPON then rdiv (v * v) (140000 * 2 ^ 56) else 0
  let e := max 0 (s.rdS F.PWR_CHOPE_E + heat - 4194)
  let s1 := s.show A.PWR_CHOPE e
  let s2 := if f24 240 ≤ e then s1.pwrFlag 9 else s1.off0 F.PWR_STATUS_CHOPWARN
  if f24 300 ≤ e ∧ !s2.bit F.PWR_STATUS_CHOPHOT then
    ((s2.pwrFlag 10).inc F.PWR_CNT_CHOPHOTCNT).off0 F.PWR_STATUS_CHOPON
  else if e ≤ f24 150 ∧ s2.bit F.PWR_STATUS_CHOPHOT then (s2.off0 F.PWR_STATUS_CHOPHOT).busLook
  else s2

/-- The current magnitude squared of axis `a`, F24 A² (R342). -/
def State.iSquared (s : State) (a : Nat) : Int :=
  let u := s.rdS (F.ADC_AX_IU_I a)
  let v := s.rdS (F.ADC_AX_IV_I a)
  rdiv (4 * (u * u + u * v + v * v)) (3 * 2 ^ 56)

/-- A THM_AXa_STAT bit: its rise raises the PWR interrupt (R351). -/
def State.thmFlag (s : State) (f : Fld) (b : Bool) : State :=
  if b then (if s.bit f then s else (s.on f).pwrIrq) else s.off0 f

/-- The axis model in one update (R342-R344). -/
def State.axisLimit (s : State) (a : Nat) : State :=
  let i2 := s.iSquared a
  let q := max 0 (min (f24 105 / 4) (s.rdS (F.THM_AX_Q_Q a) + rdiv (i2 - f24 50) 100000))
  let wasI := s.bit (F.THM_AX_STAT_I2T a)
  let isI := if wasI then decide (f24 105 / 8 < q) else decide (f24 105 / 4 ≤ q)
  let tj0 := s.rdS (F.THM_AX_TJ_T a)
  let tj := if s.bitAt (F.ADC_Q_AUXSTAT_VALID 4) 2 then
      tj0 + rdiv (100 * (s.rdS (F.ADC_Q_TQ_T (a / 4)) - tj0) + 24 * i2) 1000000
    else tj0
  let wasJ := s.bit (F.THM_AX_STAT_TJ a)
  let isJ := if wasJ then decide (f24 115 < tj) else decide (f24 125 ≤ tj)
  let x := s.axis a
  let li := if isI then limLow else if wasI then x.li else min limHigh (x.li + limStep)
  let lj := if isJ then limLow else if wasJ then x.lj else min limHigh (x.lj + limStep)
  let s1 := ((s.show (A.THM_AX_Q a) q).show (A.THM_AX_TJ a) tj).setAxis a { x with li, lj }
  let s2 := (s1.thmFlag (F.THM_AX_STAT_I2T a) isI).thmFlag (F.THM_AX_STAT_TJ a) isJ
  let s3 := (s2.wrb (F.THM_AX_STAT_GEY a) (decide (s2.lg < limHigh))).show (A.THM_AX_LIM a) (min s2.lg (min li lj))
  if f24 140 ≤ tj then (s3.thmFlag (F.THM_AX_STAT_TJTRIP a) true).swtripSet a else s3

/-- PWR_UPDATE (R328, R334, R337-R344): the measured bulk voltage, PDRAW and bus output power, each F24. -/
def execPwrUpdate (vbulk pdraw pout : Word) (s : State) : Result :=
  if !s.pwrLive || !s.auxOn then ok s
  else
    let vb := signed48 vbulk.toNat
    let s1 := ((s.setReg A.PWR_VBULK vbulk).setReg A.PWR_PDRAW pdraw).setReg A.PWR_POUT pout
    let s2 := if 0 < s1.rdS F.PWR_PPEAK_P ∧ s1.rdS F.PWR_PPEAK_P ≤ signed48 pout.toNat then s1.pwrFlag 7 else s1
    let s3 := if vb < f24 280 ∧ s2.bulkOk then s2.after 0 .isoConverterStop
      else if f24 280 ≤ vb ∧ !s2.bulkOk then s2.after 0 .isoConverterStart else s2
    ok ((s3.geyser vb (signed48 pdraw.toNat)).chopper.upto 24 (fun a s => s.axisLimit a))

/-! ### Registers -/

/-- A refused write of the block (R347, R349). -/
def State.pwrRefuse (s : State) : State := s.pwrFlag 20

/-- A write of PWR_CTL (R329, R349): STANDBY only. -/
def State.pwrCtlWrite (s : State) (w : Writer) (v : Word) : State :=
  let nw := rowWrite false (fieldsAt A.PWR_CTL) (s.reg A.PWR_CTL) v
  if nw = s.reg A.PWR_CTL then s
  else if s.mode == .standby then (s.plainWrite w A.PWR_CTL v).isoLook
  else s.pwrRefuse

/-- A write of PWR_SUPCTL (R346): STANDBY, ARMED and RUN; a 1 restores a supply that had switched itself off. -/
def State.supctlWrite (s : State) (v : Word) : State :=
  let enc := getBits v 0 6
  let aux := v.getLsbD 6
  let offs := s.rd F.PWR_STATUS_ENC_OFF
  if s.modeIn [.standby, .armed, .run] then
    let s1 := s.upto 6 (fun q s =>
      let on := enc.testBit q
      let was := s.bitAt F.PWR_SUPCTL_ENC q
      let s1 := s.setBitAt F.PWR_SUPCTL_ENC q on
      if on then s1.setBitAt F.PWR_STATUS_ENC_OFF q false else if was then s1.encLost q else s1)
    let s2 := s1.wrb F.PWR_SUPCTL_AUX24 aux
    if aux then s2.off0 F.PWR_STATUS_AUX_OFF else s2
  else if enc = s.rd F.PWR_SUPCTL_ENC ∧ aux = s.bit F.PWR_SUPCTL_AUX24 ∧ enc &&& offs = 0 then s
  else s.pwrRefuse

/-- Whether AUX24 is on (R64, R346). -/
def State.aux24On (s : State) : Bool :=
  s.bit F.PWR_SUPCTL_AUX24 && !s.bit F.PWR_STATUS_AUX_OFF && s.modeIn [.standby, .armed, .run, .safeStop]

/-- AUX24_OVERCURRENT_OFF (R346). -/
def execAux24OvercurrentOff (s : State) : Result :=
  ok (if s.aux24On then (s.off0 F.PWR_SUPCTL_AUX24).pwrFlag 13 else s)

/-- ENC5V_OVERCURRENT_OFF (R66, R346). -/
def execEnc5vOvercurrentOff (q : Fin 6) (s : State) : Result :=
  ok (if s.encOn q then ((s.setBitAt F.PWR_SUPCTL_ENC q false).pwrFlag (14 + q)).encLost q else s)

/-- A write of PWR_BRKCTL (R347): each ON bit, AUTO and the four SEL fields, each under its own conditions.
Log entry 11 (DEDUCED). -/
def State.brkCtlWrite (s : State) (v : Word) : State :=
  let may := !s.bit F.SAF_STATUS_STO && s.modeIn [.standby, .armed, .run]
  let on := getBits v 0 4
  let old := s.rd F.PWR_BRKCTL_ON
  let s1 := if may then s.wr F.PWR_BRKCTL_ON on
    else (if on &&& (15 - old) = 0 then s else s.pwrRefuse).wr F.PWR_BRKCTL_ON (on &&& old)
  let autoF (s : State) : State :=
    if getBits v 4 4 = s.rd F.PWR_BRKCTL_AUTO then s
    else if s.mode == .standby then s.wr F.PWR_BRKCTL_AUTO (getBits v 4 4) else s.pwrRefuse
  let sel (s : State) (k : Nat) : State :=
    let f : Fld := ⟨A.PWR_BRKCTL, 8 + 5 * k, 5⟩
    let x := getBits v (8 + 5 * k) 5
    if x = s.rd f then s
    else if s.mode == .standby ∧ x ≤ 23 then s.wr f x else s.pwrRefuse
  ((List.range 4).foldl sel (autoF s1)).brakeLook

/-- BRAKE_ILIM_OFF (R347, R625): an output held in its current limit for 5 ms. -/
def execBrakeIlimOff (k : Fin 4) (s : State) : Result :=
  if !s.bitAt F.PWR_BRKSTAT_OUT k then ok s
  else
    let s1 := { s.setBitAt F.PWR_BRKSTAT_ILIM k true with brkWait := natBit s.brkWait k true }
    ok (s1.pwrIrq.brakeLook)

/-- A write of PWR_BRKSTAT (R347): 1 to an ILIM bit clears it together with its ON bit. -/
def State.brkStatWrite (s : State) (v : Word) : State :=
  (s.upto 4 (fun k s =>
    if v.getLsbD (4 + k) && s.bitAt F.PWR_BRKSTAT_ILIM k then
      (s.setBitAt F.PWR_BRKSTAT_ILIM k false).setBitAt F.PWR_BRKCTL_ON k false
    else s)).brakeLook

end Sys2Proof.Machine
end

