-- ==== Sys2Proof/Machine/Saf.lean ====
section
/-! DEFINITION. The safety partition (R533-R557): the STO inputs and the discrepancy check, declared faults, SS1, the
acknowledge of SAFE_STOP, and the frame checks of the independent receivers. -/
namespace Sys2Proof.Machine

/-! ### STO inputs (R55, R538, R540) -/

/-- Whether the STO inputs are monitored (R64, R555). -/
def State.stoSeen (s : State) : Bool := !s.modeIn [.off, .dormant]

/-- The discrepancy timer follows the two channels (R540). -/
def State.discLook (s : State) : State :=
  if s.bit F.SAF_STATUS_STOA_REL == s.bit F.SAF_STATUS_STOB_REL then s.cancel .stoDiscrepancy
  else if s.due .stoDiscrepancy then s else s.after (ms (s.rd F.SAF_DISC_TIME)) .stoDiscrepancy

/-- The release bit of channel B (`b`) or A. -/
def stoFld (b : Bool) : Fld := if b then F.SAF_STATUS_STOB_REL else F.SAF_STATUS_STOA_REL

/-- STO_INPUT_ASSERT (R55, R538, R541): channel B (`b`) or A has stayed below 5 V for 500 ns. -/
def execStoInputAssert (b : Bool) (s : State) : Result :=
  let s0 := { s with stoIn := natBit s.stoIn (if b then 1 else 0) false }
  if !s.stoSeen then ok s0
  else
    let s1 := (s0.off0 (stoFld b)).discLook
    ok (if s.bit (stoFld b) then s1.safeStop 1 else s1).stoLook

/-- STO_INPUT_RELEASE (R55, R539): channel B (`b`) or A is at 15 V or above. -/
def execStoInputRelease (b : Bool) (s : State) : Result :=
  let s0 := { s with stoIn := natBit s.stoIn (if b then 1 else 0) true }
  ok (if s.stoSeen then ((s0.on (stoFld b)).discLook).stoLook else s0)

/-- The channels as their contacts show them, once they are monitored again. -/
def State.stoSample (s : State) : State :=
  ((s.wrb F.SAF_STATUS_STOA_REL (s.stoIn.testBit 0)).wrb F.SAF_STATUS_STOB_REL (s.stoIn.testBit 1)).discLook

/-- STO_DISCREPANCY (R540): the channels have disagreed for longer than SAF_DISC.TIME. -/
def execStoDiscrepancy (s : State) : Result :=
  let s1 := s.cancel .stoDiscrepancy
  if s.bit F.SAF_STATUS_STOA_REL == s.bit F.SAF_STATUS_STOB_REL || !s.stoSeen then ok s1
  else ok ((if s.bit F.SAF_FAULT_DISC then s1 else s1.irqS 2).safetyFault F.SAF_FAULT_DISC)

/-- A write of SAF_FAULT by Zenou-S (R540): DISC clears only while both channels are asserted. -/
def State.faultClear (s : State) (w : Writer) (v : Word) : State :=
  let both := !s.bit F.SAF_STATUS_STOA_REL && !s.bit F.SAF_STATUS_STOB_REL
  (s.plainWrite w A.SAF_FAULT (if both then v else setBits v 0 1 0)).stoLook

/-- A write of SAF_STOCTL by Zenou-S (R538, R539, R541): HOLD, and DECLARE.  In SAFE_STOP a write that would release STO, HOLD = 0,
is refused (R34). Log entry 137 (DEDUCED). -/
def State.stoctlWrite (s : State) (v : Word) : State :=
  let s1 := if s.mode == .safeStop && !v.getLsbD 0 then s else s.wr F.SAF_STOCTL_HOLD (getBits v 0 1)
  if v.getLsbD 1 then s1.safetyFault F.SAF_FAULT_DECL else s1.stoLook

/-! ### SAFE_STOP -/

/-- SS1_EXPIRE (R542). -/
def execSs1Expire (s : State) : Result :=
  let s1 := s.cancel .ss1Expire
  if !s.bit F.SAF_STATUS_SS1 then ok s1 else ok (s1.stoAssert.off0 F.SAF_STATUS_SS1)

/-- Whether SS1 is complete (R542). -/
def State.ss1Done (s : State) : Bool := s.bit F.SAF_STATUS_STO && !s.bit F.SAF_STATUS_SS1

/-- Whether a request for STANDBY waits for the acknowledge (R548). -/
def State.ackWaits (s : State) : Bool := s.mode == .safeStop && s.bit F.SYS_MODESTAT_PEND

/-- The module leaves SAFE_STOP for STANDBY (R74, R153). Log entry 20 (DEDUCED). -/
def State.leaveSafeStop (s : State) : State :=
  let was := some (s.instant, s.ssCauses, s.rd F.SYS_MODESTAT_LAST_FROM, s.ssFromRun)
  let s1 := (({ s with ackWas := was }.off0 F.SYS_MODESTAT_PEND).cancel .safeStopAckTimeout).setMode .standby
  ({ s1.rampEnd with ssFromRun := false, ssCauses := 0 }.isoLook.driveAll.brakeLook).stoLook

/-- A write of 1 to SAF_ACK.ACK by Zenou-S (R548). Log entry 20 (DEDUCED). -/
def State.ackWrite (s : State) (v : Word) : State :=
  if !v.getLsbD 0 then s
  else if !s.ackWaits then s.on F.SAF_STATUS_ACK_ERR
  else if s.ss1Done && s.reg A.SAF_FAULT == 0 && !s.anyCausePresent then s.leaveSafeStop
  else s

/-- SAFE_STOP_ACK_TIMEOUT (R548): 100 ms without the acknowledge. -/
def execSafeStopAckTimeout (s : State) : Result :=
  let s1 := s.cancel .safeStopAckTimeout
  ok (if s.ackWaits then s1.modeRefuse 12 else s1)

/-! ### Frame checks (R543-R546) -/

/-- The position that the receiver of axis `a` has (R544). -/
def State.rxPos (s : State) (a : Nat) : Word :=
  let x := s.rx a
  match s.rd (F.SAF_AX_RXCFG_MODE a) with
  | 1 => gridPos (s.rd (F.SAF_AX_RXCFG_CPE a)) x.t x.r
  | 2 => x.hpos
  | 3 => x.pos
  | 4 => x.pos
  | _ => 0

/-- Whether the receiver's position is valid at this frame tick (R295, R544). Log entry 48 (DEDUCED). -/
def State.rxGood (s : State) (a : Nat) : Bool :=
  match s.rd (F.SAF_AX_RXCFG_MODE a) with
  | 1 => true
  | 2 => (s.rx a).okay
  | 3 => (s.rx a).okay && s.inForce (F.FB_AX_CFG_MODE a) != 0
  | 4 => (s.rx a).okay && s.inForce (F.FB_AX_CFG_MODE a) != 0
  | _ => false

/-- The receiver of axis `a` latches: POS, the speed over WIN frames, VALID (R544). Log entry 48 (DEDUCED). -/
def State.rxLatch (s : State) (a : Nat) : State :=
  let x := s.rx a
  let p := s.rxPos a
  let win := s.rd F.SAF_SPD_WIN
  let hist := if s.rxGood a then (p :: x.hist).take (win + 1) else []
  let s1 := (s.setRx a { x with hist }).setReg (A.SAF_AX_POS a) p
  let valid := decide (win < hist.length)
  let s2 := s1.wrb (F.SAF_AX_STAT_VALID a) valid
  if valid then
    let d := wrap48 ((p.toNat : Int) - ((hist.getD win 0).toNat : Int))
    s2.show (A.SAF_AX_SPD a) (rdiv (d * 750000000) (max 1 (win * s.inForce F.TICK_FRAME_COUNTS)))
  else s2.setReg (A.SAF_AX_SPD a) 0

/-- The magnitude of the independent speed. -/
def State.safSpeed (s : State) (a : Nat) : Int := (s.rdS (F.SAF_AX_SPD_V a)).natAbs

/-- The SS1 monitor of axis `a` (R543). Log entry 48 (DEDUCED). -/
def State.ss1Check (s : State) (a : Nat) : State :=
  if s.bit F.SAF_STATUS_SS1 && s.bit (F.SAF_AX_STAT_VALID a) && decide ((s.axis a).ssBound < s.safSpeed a) then
    (s.on F.SAF_FAULT_SS1MON).stoAssert
  else s

/-- The cross-check of axis `a` (R545), with the position that FB latches at this tick. Log entry 48 (DEDUCED). -/
def State.crossCheck (s : State) (a : Nat) : State :=
  if s.bit (F.SAF_AX_CFG_XEN a) && s.bit (F.SAF_AX_STAT_VALID a) && s.bit (F.FB_AX_STAT_POSVALID a) then
    let d := wrap48 (((s.reg (A.SAF_AX_POS a)).toNat : Int) - ((s.fbLatchPos a).toNat : Int))
    if s.rd (F.SAF_AX_CFG_XTOL a) < d.natAbs then
      let s1 := if s.bit (F.SAF_AX_STAT_XERR a) then s else (s.on (F.SAF_AX_STAT_XERR a)).irqS (18 + a / 4)
      s1.driveFault F.SAF_FAULT_XCHK
    else s
  else s

/-- Whether SLS is active on axis `a` (R546). -/
def State.slsActive (s : State) (a : Nat) : Bool :=
  let dio := s.bitAt F.AON_DIOIN_IN (s.rd (F.SAF_AX_CFG_SLSDIO a))
  match s.rd (F.SAF_AX_CFG_SLSSRC a) with
  | 1 => true
  | 2 => dio
  | 3 => !dio
  | _ => false

/-- The SLS check of axis `a` (R546). -/
def State.slsCheck (s : State) (a : Nat) : State :=
  let act := s.slsActive a
  let lim := s.rdS (F.SAF_AX_SLS_V a)
  let s1 := s.wrb (F.SAF_AX_STAT_SLSACT a) act
  let beyond := act && lim != 0 && (!s.bit (F.SAF_AX_STAT_VALID a) || decide (lim < s.safSpeed a))
  let n := if beyond then (s.axis a).slsRun + 1 else 0
  let s2 := if n = (s1.axis a).slsRun then s1 else s1.setAxis a { s1.axis a with slsRun := n }
  if beyond && decide (s.rd F.SAF_SPD_SLSN ≤ n) then
    let s3 := if s2.bit (F.SAF_AX_STAT_SLSEXC a) then s2 else (s2.on (F.SAF_AX_STAT_SLSEXC a)).irqS 28
    (s3.setAxis a { s3.axis a with slsRun := 0 }).driveFault F.SAF_FAULT_SLS
  else s2

/-- The safety partition at a frame tick: receivers, SS1 monitor, cross-check, SLS. -/
def State.safTick (s : State) : State :=
  let s1 := s.upto 24 (fun a s => s.rxLatch a)
  s1.upto 24 (fun a s => ((s.ss1Check a).crossCheck a).slsCheck a)

/-- Whether the safety partition withholds its consent to ARMED (R547). -/
def State.consentHeld (s : State) : Bool :=
  (List.range 24).any (fun a => s.bitAt F.SAF_GATEEN_EN a
    && (s.safMis a || (s.bit (F.SAF_AX_CFG_XEN a) && !s.bit (F.SAF_AX_STAT_VALID a))))

/-! ### The module watchdog (R549, R550) -/

/-- The module watchdog restarts. -/
def State.mwdtStart (s : State) : State :=
  let n := ms (s.rd F.SAF_MWDT_TMO)
  (s.after n .mwdtExpire).after (n / 2) .mwdtHalf

/-- The module watchdog stops. -/
def State.mwdtStop (s : State) : State := (s.cancel .mwdtExpire).cancel .mwdtHalf

/-- Whether the module watchdog stands still (R550). -/
def State.mwdtFrozen (s : State) : Bool :=
  s.mode == .standby && s.coreMon 4 && s.bit F.DBG_AUTHSTAT_OK && s.bit F.SAF_MWDT_DBGREL

/-- SAF_MWDT_REM and SAF_CWDn_REM as they read. -/
def State.mwdtRem (s : State) : Word := BitVec.ofNat 48 (s.remaining .mwdtExpire / 750)

/-- The remaining time of a window watchdog in 100 µs. -/
def State.cwdRem (s : State) (c : Nat) : Word := BitVec.ofNat 48 (s.remaining (cwdEvent c) / 75000)

/-- MWDT_HALF (R553): half of the time has gone without service. -/
def execMwdtHalf (s : State) : Result :=
  let s1 := s.cancel .mwdtHalf
  ok (if s.due .mwdtExpire && !s.mwdtFrozen then s1.irqS 26 else s1)

/-- A write of SAF_NOTE by Zenou-S (R552): rising bits raise S111. -/
def State.noteWrite (s : State) (v : Word) : State :=
  let old := s.rd F.SAF_NOTE_NOTE
  let new := getBits v 0 16
  let s1 := s.wr F.SAF_NOTE_NOTE new
  if (List.range 16).any (fun k => new.testBit k && !old.testBit k) then s1.irq 111 else s1

/-- A write of SAF_CWDn by Zenou-S (R551): a change of EN starts or stops the watchdog of a running core.
Log entry 49 (DEDUCED). -/
def State.cwdWrite (s : State) (w : Writer) (c : Nat) (v : Word) : State :=
  let was := s.bit (F.SAF_CWD_EN c)
  let s1 := s.plainWrite w (A.SAF_CWD c) v
  let on := s1.bit (F.SAF_CWD_EN c)
  if on && !was && s1.bitAt F.SYS_READY_APP c then s1.cwdStart c else if !on && was then s1.cwdStop c else s1

end Sys2Proof.Machine
end

