-- ==== Sys2Proof/Machine/Dma.lean ====
section
/-! DEFINITION. DMA channels (R440-R451): starts, aborts, ends, and the register writes of the block.  The engines that move
elements are in DmaEngine.lean, because they read and write everything. -/
namespace Sys2Proof.Machine

/-- Bytes of an element of channel `n` (R441). -/
def State.dmaSize (s : State) (n : Nat) : Nat :=
  match s.rd (F.DMA_CH_CTL_ESIZE n) with
  | 0 => 1
  | 1 => 2
  | _ => 6

/-- Whether SWAP mode `sw` is allowed for ESIZE code `es` (R441, R442). -/
def swapOk (es sw : Nat) : Bool :=
  match es with
  | 0 => sw == 0
  | 1 => decide (sw ≤ 1)
  | 2 => true
  | _ => false

/-- The bytes of an element as SWAP writes them (R441). -/
def swapBytes (sw : Nat) (l : List Byte) : List Byte :=
  match sw, l with
  | 1, [a, b] => [b, a]
  | 1, [a, b, c, d, e, f] => [b, a, d, c, f, e]
  | 2, [a, b, c, d, e, f] => [e, f, c, d, a, b]
  | 3, [a, b, c, d, e, f] => [f, e, d, c, b, a]
  | _, l => l

/-- Whether channel `n` is busy. -/
def State.dmaBusy (s : State) (n : Nat) : Bool := s.bit (F.DMA_CH_STAT_BUSY n)

/-- BUSY of channel `n`, in its STAT and in DMA_BUSY. -/
def State.dmaSetBusy (s : State) (n : Nat) (b : Bool) : State :=
  (s.wrb (F.DMA_CH_STAT_BUSY n) b).setBitAt F.DMA_BUSY_BUSY n b

/-- The events of the engines for channel `n`. -/
def dmaReadEvent (n : Nat) : Instr := .dmaElementRead (Fin.ofNat 16 n)

/-- The write engine's event for channel `n`. -/
def dmaWriteEvent (n : Nat) : Instr := .dmaElementWrite (Fin.ofNat 16 n)

/-- A pointer moved by a signed 16-bit step, within 48 bits. -/
def dmaStep (p : Word) (stride : Nat) : Word := wordOf ((p.toNat : Int) + sgnOf 16 stride)

/-- The elements of channel `n` in the buffer.  An entry with 16 × CAUSE added to its channel is no element: it stands for the element
that could not be read, which ends the channel once the elements before it are written (R444). Log entry 70 (DEDUCED). -/
def State.dmaHeld (s : State) (n : Nat) : List (Nat × Nat × List Byte) := s.dmaBuf.filter (fun e => e.1 == n)

/-- Channel `n`'s data in the buffer is discarded; SRC goes back to the first unwritten element (R444, R445).
Log entry 70 (DEDUCED). -/
def State.dmaDiscard (s : State) (n : Nat) : State :=
  let s1 := match s.dmaHeld n with
    | [] => s
    | e :: _ => s.setReg (A.DMA_CH_SRC n) (BitVec.ofNat 48 e.2.1)
  ({ s1 with dmaBuf := s1.dmaBuf.filter (fun e => e.1 % 16 != n) }.cancel (dmaReadEvent n)).cancel (dmaWriteEvent n)

/-- Whether an engine stands still for the monitor (R449). -/
def State.dmaFrozen (s : State) : Bool := s.frz F.DMA_CTL_FRZ F.DMA_CTL_FRZCORE

/-- Whether a far transaction of channel `n` is outstanding (R498). -/
def State.dmaFar (s : State) (n : Nat) : Bool := s.farOps.any (fun x => x.owner == 5 + n)

/-- Whether the reading of channel `n` has met its end. -/
def State.dmaReadEnd (s : State) (n : Nat) : Bool := s.dmaBuf.any (fun e => e.1 % 16 == n && decide (16 ≤ e.1))

/-- The engines go on: the front of the buffer is written, and the channel whose turn it is reads (R440).
Log entry 69 (DESIGN CHOICE). -/
def State.dmaKick (s : State) : State :=
  let busy := (List.range 16).filter (fun n => s.dmaBusy n)
  let total := s.dmaBuf.foldl (fun k e => k + e.2.2.length) 0
  let can (n : Nat) : Bool :=
    let h := s.dmaHeld n
    !s.dmaFar n && !s.dmaReadEnd n && decide (h.length < s.rd (F.DMA_CH_CNT_COUNT n)) && decide ((h.length + 1) * s.dmaSize n ≤ 2048)
      && decide (total + s.dmaSize n ≤ 8192)
  let ready := busy.filter can
  let s1 := match s.dmaBuf.find? (fun e => !s.dmaFar (e.1 % 16)) with
    | none => s
    | some e => if s.due (dmaWriteEvent e.1) then s else s.after (s.dmaCycles 1) (dmaWriteEvent e.1)
  if ready.isEmpty || (List.range 16).any (fun n => s1.due (dmaReadEvent n)) then s1
  else
    let cur := s1.dmaRd.1
    let keep := ready.contains cur && decide (s1.dmaRd.2 + s1.dmaSize cur ≤ 64)
    let nxt := if keep then cur else
      match ready.find? (fun n => decide (cur < n)) with
      | some n => n
      | none => ready.headD 0
    let s2 := { s1 with dmaRd := (nxt, if keep then s1.dmaRd.2 else 0) }
    s2.after (s2.dmaCycles 1) (dmaReadEvent nxt)

/-- The transfer of channel `n` is complete: DONE, its interrupt and its event (R443). -/
def State.dmaDone (s : State) (n : Nat) : State :=
  let s1 := (s.dmaSetBusy n false).on (F.DMA_CH_STAT_DONE n)
  (if s1.bit (F.DMA_CH_CTL_IEN_DONE n) then s1.irq (82 + n) else s1).fire 7 n

/-- Channel `n` ends with an error (R442, R444). Log entry 68 (DEDUCED). -/
def State.dmaError (s : State) (n cause : Nat) (write : Bool) (addr : Nat) : State :=
  let s1 := (s.dmaDiscard n).dmaSetBusy n false
  let s2 := ((s1.on (F.DMA_CH_STAT_ERR n)).wr (F.DMA_CH_STAT_CAUSE n) cause).wrb (F.DMA_CH_STAT_ERRSIDE n) write
  let s3 := s2.setReg (A.DMA_CH_ERRADDR n) (BitVec.ofNat 48 addr)
  (if s3.bit (F.DMA_CH_CTL_IEN_ERR n) then s3.irq (82 + n) else s3).fire 7 (16 + n)

/-- Whether channels may run: not unpowered, nor once the logic BIST runs (R449). -/
def State.dmaLive (s : State) : Bool := !s.modeIn [.off, .dormant] && !(s.mode == .shutdown && s.bistRunning)

/-- A start of channel `n` (R442). Log entry 68 (DEDUCED). -/
def State.dmaStart (s : State) (n : Nat) : State :=
  let src := (s.reg (A.DMA_CH_SRC n)).toNat
  let dst := (s.reg (A.DMA_CH_DST n)).toNat
  if !s.dmaLive then s
  else if s.dmaBusy n then s.on (F.DMA_CH_STAT_START_REFUSED n)
  else if !swapOk (s.rd (F.DMA_CH_CTL_ESIZE n)) (s.rd (F.DMA_CH_CTL_SWAP n)) then s.dmaError n 1 false src
  else if 2 ^ 41 ≤ src then s.dmaError n 2 false src
  else if 2 ^ 41 ≤ dst then s.dmaError n 2 true dst
  else if s.rd (F.DMA_CH_CNT_COUNT n) = 0 then
    ((if s.bit (F.DMA_CH_CTL_IEN_DONE n) then s.irq (82 + n) else s).on (F.DMA_CH_STAT_DONE n)).fire 7 n
  else
    let s1 := ((s.off0 (F.DMA_CH_STAT_DONE n)).off0 (F.DMA_CH_STAT_ERR n)).off0 (F.DMA_CH_STAT_ABORTED n)
    (s1.dmaSetBusy n true).dmaKick

/-- An abort of channel `n` (R445).  A far write that is under way ends first; a far read is forgotten. -/
def State.dmaAbort (s : State) (n : Nat) : State :=
  if !s.dmaBusy n then s
  else if s.farOps.any (fun x => x.owner == 5 + n && x.write) then
    { s.dmaDiscard n with farOps := s.farOps.map (fun x => if x.owner == 5 + n then { x with sext := true } else x) }
  else
    let s1 := { s with farOps := s.farOps.filter (fun x => x.owner != 5 + n) }.cancel (.farTimeout (Fin.ofNat 21 (5 + n)))
    (((s1.dmaDiscard n).dmaSetBusy n false).on (F.DMA_CH_STAT_ABORTED n)).dmaKick

/-- A write of DMA_CHn_CTL (R442, R443, R445, R448): the configuration fields first; an ABORT in the same write keeps the channel
idle.  A command written with the configuration that is there asks no change of it.  The reserved ESIZE 3 is not taken (R18), and a start written with it is refused. -/
def State.dmaCtlWrite (s : State) (n : Nat) (v : Word) : State :=
  let cfg := getBits v 2 6
  let f : Fld := ⟨A.DMA_CH_CTL n, 2, 6⟩
  let esize := F.DMA_CH_CTL_ESIZE n
  let free := !s.dmaBusy n
  let s1 := if cfg = s.rd f && (free || v.getLsbD 0 || v.getLsbD 1) then s
    else if free then s.wr f cfg else s.on (F.DMA_CH_STAT_WR_REFUSED n)
  let s2 := if v.getLsbD 1 then s1.dmaAbort n else if v.getLsbD 0 then s1.dmaStart n else s1
  if free && getBits v 2 2 == 3 then s2.wr esize (s.rd esize) else s2

/-- A write of DMA_GSTART (R442). -/
def State.dmaGstart (s : State) (v : Word) : State :=
  s.upto 16 (fun n s => if v.getLsbD n then s.dmaStart n else s)

/-- A write of DMA_ABORTALL (R445). -/
def State.dmaAbortAll (s : State) (v : Word) : State :=
  if getBits v 0 8 = 0xAB then s.upto 16 (fun n s => s.dmaAbort n) else s

/-- A write of SRC, DST, CNT or STRIDE of channel `n` (R443): a busy channel refuses it, whatever value it carries. -/
def State.dmaRegWrite (s : State) (w : Writer) (n addr : Nat) (v : Word) : State :=
  if s.dmaBusy n then s.on (F.DMA_CH_STAT_WR_REFUSED n)
  else s.plainWrite w addr v

/-- DRAM_REFRESH (R439): the DRAM is busy for 160 ns, every 3.9 µs while it is ready. -/
def execDramRefresh (s : State) : Result :=
  let s1 := s.cancel .dramRefresh
  ok (if s.bit F.SYS_READY_DRAM then { s1 with dramUntil := s1.now + nsCycles 160 }.after (nsCycles 3900) .dramRefresh else s1)

end Sys2Proof.Machine
end

