-- ==== Sys2Proof/Machine/Hash.lean ====
section
/-! DEFINITION. Checksums and digests: the CRC-32 of R88, the header CRC-16 of R504, SHA-256, HMAC-SHA-256 and HKDF-SHA-256
(R559, R524). -/
namespace Sys2Proof.Machine

/-- One bit of the reflected CRC-32. -/
def crc32Bit (c : Nat) : Nat := if c % 2 = 1 then Nat.xor (c / 2) 0xEDB88320 else c / 2

/-- One byte of the reflected CRC-32. -/
def crc32Byte (c : Nat) (b : Byte) : Nat := (List.range 8).foldl (fun x _ => crc32Bit x) (Nat.xor c b.toNat)

/-- The CRC-32 of R88: IEEE 802.3 polynomial, reflected, initial value 0xFFFF_FFFF, final complement. Log entry 89 (PRESUMED). -/
def crc32 (l : List Byte) : Nat := Nat.xor (l.foldl crc32Byte 0xFFFFFFFF) 0xFFFFFFFF

/-- One bit of the CRC-16. -/
def crc16Bit (c : Nat) : Nat := if 0x8000 ≤ c then Nat.xor (c * 2 % 65536) 0x1021 else c * 2 % 65536

/-- One byte of the CRC-16, most significant bit first. -/
def crc16Byte (c : Nat) (b : Byte) : Nat := (List.range 8).foldl (fun x _ => crc16Bit x) (Nat.xor c (b.toNat * 256))

/-- The CRC-16 of the Plovkolu header (R504): polynomial 0x1021, initial value 0xFFFF, no final complement. -/
def crc16 (l : List Byte) : Nat := l.foldl crc16Byte 0xFFFF

/-! ### SHA-256 -/

/-- The 32-bit words of SHA-256. -/
abbrev W32 := BitVec 32

/-- The largest `r` below `2 ^ n` above `acc` with `r ^ k` at most `x`, found from its highest bit down. -/
def rootFloor (k x : Nat) : Nat → Nat → Nat
  | 0, acc => acc
  | n + 1, acc => rootFloor k x n (if (acc + 2 ^ n) ^ k ≤ x then acc + 2 ^ n else acc)

/-- The primes below 312: the first sixty-four. -/
def smallPrimes : List Nat :=
  (List.range 312).filter (fun p => decide (2 ≤ p) && (List.range 18).all (fun d => decide (d < 2) || p % d != 0 || p == d))

/-- The first 32 bits of the fraction of the `k`-th root of `p`. -/
def rootWord (k p : Nat) : W32 := BitVec.ofNat 32 (rootFloor k (p * 2 ^ (32 * k)) 37 0)

/-- The round constants: the fractions of the primes' cube roots. -/
def shaK : List W32 := smallPrimes.map (rootWord 3)

/-- The initial hash value: the fractions of the first eight primes' square roots. -/
def shaH0 : List W32 := (smallPrimes.take 8).map (rootWord 2)

/-- Σ and σ functions: a combination of rotations and of a shift. -/
def shaMix (x : W32) (a b c : Nat) : W32 := x.rotateRight a ^^^ x.rotateRight b ^^^ x.rotateRight c

/-- The σ functions. -/
def shaSmall (x : W32) (a b c : Nat) : W32 := x.rotateRight a ^^^ x.rotateRight b ^^^ (x >>> c)

/-- The next word of a message schedule, given the last sixteen (oldest first). -/
def shaNext (w : List W32) : W32 :=
  shaSmall (w.getD 14 0) 17 19 10 + w.getD 9 0 + shaSmall (w.getD 1 0) 7 18 3 + w.getD 0 0

/-- One round on (a, …, h), with the schedule's window. -/
def shaRound (st : List W32 × List W32) (k : W32) : List W32 × List W32 :=
  match st with
  | ([a, b, c, d, e, f, g, h], w) =>
    let t1 := h + shaMix e 6 11 25 + ((e &&& f) ^^^ (~~~e &&& g)) + k + w.getD 0 0
    let t2 := shaMix a 2 13 22 + ((a &&& b) ^^^ (a &&& c) ^^^ (b &&& c))
    ([t1 + t2, a, b, c, d + t1, e, f, g], w.drop 1 ++ [shaNext w])
  | x => x

/-- The sixteen words of a 64-byte block. -/
def shaWords (l : List Byte) : List W32 :=
  (List.range 16).map (fun i => BitVec.ofNat 32 (beNat ((l.drop (4 * i)).take 4)))

/-- One block into the hash value. -/
def shaBlock (h : List W32) (blk : List Byte) : List W32 :=
  List.zipWith (· + ·) h (shaK.foldl shaRound (h, shaWords blk)).1

/-- The padded message. -/
def shaPad (l : List Byte) : List Byte :=
  let z := (119 - l.length % 64) % 64
  l ++ [0x80] ++ List.replicate z 0 ++ beBytes 8 (8 * l.length)

/-- The blocks of a padded message. -/
def shaBlocks : Nat → List W32 → List Byte → List W32
  | 0, h, _ => h
  | n + 1, h, l => shaBlocks n (shaBlock h (l.take 64)) (l.drop 64)

/-- SHA-256 of a byte string, 32 bytes. -/
def sha256 (l : List Byte) : List Byte :=
  let p := shaPad l
  (shaBlocks (p.length / 64) shaH0 p).flatMap (fun w => beBytes 4 w.toNat)

/-- A key as HMAC takes it: 64 bytes. -/
def hmacKey (k : List Byte) : List Byte :=
  let k1 := if 64 < k.length then sha256 k else k
  k1 ++ List.replicate (64 - k1.length) 0

/-- HMAC-SHA-256. -/
def hmac (k m : List Byte) : List Byte :=
  let kk := hmacKey k
  sha256 (kk.map (· ^^^ 0x5C) ++ sha256 (kk.map (· ^^^ 0x36) ++ m))

/-- The expansion blocks of HKDF-SHA-256. -/
def hkdfBlocks (prk info : List Byte) : Nat → Nat → List Byte → List Byte
  | 0, _, _ => []
  | n + 1, i, prev =>
    let t := hmac prk (prev ++ info ++ [BitVec.ofNat 8 i])
    t ++ hkdfBlocks prk info n (i + 1) t

/-- HKDF-SHA-256: `n` bytes from the input key material, a salt and an info string. -/
def hkdf (ikm salt info : List Byte) (n : Nat) : List Byte :=
  (hkdfBlocks (hmac salt ikm) info ((n + 31) / 32) 1 []).take n

/-- The bytes of an ASCII string. -/
def ascii (t : String) : List Byte := t.toList.map (fun c => BitVec.ofNat 8 c.toNat)

end Sys2Proof.Machine
end

