-- ==== Sys2Proof/Machine/Flc.lean ====
section
/-! DEFINITION. The flash controller (R452-R477): descriptors, program units, erases, the erase journal, compaction, the
deferral of a reset and the stretch of R612. -/
namespace Sys2Proof.Machine

/-! ### Sectors and areas -/

/-- First address of a bank. -/
def bankBase (bank : Nat) : Nat := 0x04000000 + 0x800000 * bank

/-- First address of a sector (R452). -/
def sectorBase (bank sec : Nat) : Nat :=
  bankBase bank + (if sec < 8 then 0x2000 * sec else 0x10000 * (sec - 7))

/-- Bytes of a sector (R452). -/
def sectorSize (sec : Nat) : Nat := if sec < 8 then 0x2000 else 0x10000

/-- Whether `a` is a flash address. -/
def inFlash (a : Nat) : Bool := decide (0x04000000 ≤ a) && decide (a < 0x05000000)

/-- The bank of a flash address. -/
def bankOf (a : Nat) : Nat := (a - 0x04000000) / 0x800000

/-- The sector index of a flash address. -/
def sectorOf (a : Nat) : Nat :=
  let o := (a - 0x04000000) % 0x800000
  if o < 0x10000 then o / 0x2000 else 7 + o / 0x10000

/-- The areas of R455. -/
inductive FlcArea where
  | journal | config | calib | lbist | cert | commit | safSlot | appSlot | user
  deriving DecidableEq, Repr

/-- The area of a sector (R455). Log entry 27 (DEDUCED). -/
def flcArea (bank sec : Nat) : FlcArea :=
  if 56 ≤ sec then .user
  else if 16 ≤ sec then .appSlot
  else if 8 ≤ sec then .safSlot
  else if sec = 2 ∨ sec = 3 then .config
  else if 6 ≤ sec then .user
  else if bank = 0 then (if sec ≤ 1 then .journal else if sec = 4 then .calib else .lbist)
  else if sec = 0 then .cert else if sec = 1 then .commit else .user

/-- Whether a writer may name an area (R455). Log entries 27 (DEDUCED), 77 (DEDUCED). -/
def State.flcMay (s : State) (w : Writer) (x : FlcArea) : Bool :=
  match w with
  | .coreA _ sup => sup && (match x with | .config => true | .appSlot => true | .user => true | _ => false)
  | .coreS => (match x with
      | .config => true | .commit => true | .safSlot => true | .appSlot => true | .user => true | _ => false)
  | .rom => (match x with
      | .config => true | .commit => true | .safSlot => true | .appSlot => true | .user => true | _ => false)
  | .host k =>
    if s.isDebug (.host k) then x == .user
    else (match x with
      | .config => true | .user => true
      | .safSlot => (s.rights k.val).testBit 3
      | .appSlot => (s.rights k.val).testBit 3
      | _ => false)
  | _ => x == .user

/-- Whether the image slot that the sector belongs to is the one BOOT selected (R456). -/
def State.flcRunning (s : State) (bank : Nat) (x : FlcArea) : Bool :=
  !s.bit F.SYS_BOOTSTAT_HOLD &&
    (match x with
     | .safSlot => s.rd F.SYS_BOOTSTAT_SAF_SLOT == bank
     | .appSlot => !s.bit F.SYS_BOOTSTAT_APP_IMG_BAD && s.rd F.SYS_BOOTSTAT_APP_SLOT == bank
     | _ => false)

/-! ### Program units -/

/-- Whether the unit at `u` is erased (R453). -/
def State.unitBlank (s : State) (u : Nat) : Bool :=
  !s.ffUnits.contains u && !s.hardAt u && (s.bytes u 32).all (fun b => b == 0xFF)

/-- The bytes from `a` are no longer the remains of a cut operation. -/
def State.tornCut (s : State) (a n : Nat) : State :=
  { s with
    torn := s.torn.flatMap (fun e =>
      if e.1 < a + n ∧ a < e.1 + e.2.1 then
        (if e.1 < a then [(e.1, a - e.1, e.2.2)] else [])
          ++ (if a + n < e.1 + e.2.1 then [(a + n, e.1 + e.2.1 - (a + n), e.2.2)] else [])
      else [e]) }

/-- The bytes from `a` are what a failed or cut operation left (R472). Log entry 73 (DESIGN CHOICE). -/
def State.tear (s : State) (a n : Nat) : State :=
  let s1 := s.tornCut a n
  { s1 with torn := (a, n, s1.freeCtr) :: s1.torn, freeCtr := s1.freeCtr + 1 }

/-- The unit at `u` programmed with `l` (R453). -/
def State.unitProgram (s : State) (u : Nat) (l : List Byte) : State :=
  let s1 := ((s.tornCut u 32).setBytes u l).eccWrite u 32
  if l.all (fun b => b == 0xFF) then { s1 with ffUnits := u :: s1.ffUnits } else s1

/-- A sector erased. -/
def State.sectorErase (s : State) (bank sec : Nat) : State :=
  let b := sectorBase bank sec
  let e := b + sectorSize sec
  let out (a : Nat) : Bool := decide (a < b) || decide (e ≤ a)
  { s.tornCut b (e - b) with
    mem := s.mem.filter (fun p => out p.1)
    ffUnits := s.ffUnits.filter out
    eccSoft := s.eccSoft.filter out
    eccHard := s.eccHard.filter out }

/-- How many units of a parameter sector lie up to its last unit that is not erased. -/
def State.unitsUsed (s : State) (base : Nat) : Nat :=
  let upTo (m a : Nat) : Nat := if base ≤ a ∧ a < base + 0x2000 then max m ((a - base) / 32 + 1) else m
  let m1 := s.mem.foldl (fun m p => upTo m p.1) 0
  let m2 := s.ffUnits.foldl upTo m1
  s.torn.foldl (fun m e => upTo m (e.1 + e.2.1 - 1)) m2

/-! ### The erase journal (R467-R469) -/

/-- The base of journal sector `j`. -/
def journalBase (j : Nat) : Nat := 0x04000000 + 0x2000 * j

/-- Whether the unit at `u` ends in the CRC-32 of its first 28 bytes. -/
def State.unitCrc (s : State) (u : Nat) : Bool := s.load (u + 28) 4 == crc32 (s.bytes u 28) && !s.hardAt u

/-- The generation in the header of journal sector `j`, if it is valid (R467). -/
def State.journalGen (s : State) (j : Nat) : Option Nat :=
  let u := journalBase j
  if s.bytes u 4 == [0x4A, 0x52, 0x4E, 0x4C] && s.unitCrc u then some (s.load (u + 4) 4) else none

/-- The active journal sector (R468). Log entry 72 (DEDUCED). -/
def State.journalActive (s : State) : Nat :=
  match s.journalGen 0, s.journalGen 1 with
  | some a, some b => if a < b then 1 else 0
  | none, some _ => 1
  | _, _ => 0

/-- The first unit for a record in journal sector `j` (R468). -/
def State.journalNext (s : State) (j : Nat) : Nat := max 1 (s.unitsUsed (journalBase j))

/-- The valid records of both journal sectors: (sequence number, type, bank, sector). -/
def State.journalRecords (s : State) : List (Nat × Nat × Nat × Nat) :=
  [0, 1].flatMap (fun j =>
    (List.range (s.unitsUsed (journalBase j))).flatMap (fun i =>
      let u := journalBase j + 32 * i
      if i != 0 && s.unitCrc u then [(s.load (u + 4) 4, s.load u 1, s.load (u + 1) 1, s.load (u + 2) 1)] else []))

/-- FLC_JSTAT shows the active sector, its free units and its generation (R476). Log entry 72 (DEDUCED). -/
def State.journalSync (s : State) : State :=
  let j := s.journalActive
  let s1 := (s.wr F.FLC_JSTAT_ACTIVE j).wr F.FLC_JSTAT_FREE (256 - s.journalNext j)
  s1.wr F.FLC_JSTAT_GEN ((s1.journalGen j).getD 0)

/-- A 32-byte unit of 28 bytes and their CRC-32. -/
def crcUnit (l : List Byte) : List Byte := l ++ leBytes 4 (crc32 l)

/-- The bytes of a journal record (R467). -/
def recordBytes (type bank sec seq : Nat) : List Byte :=
  crcUnit (leBytes 1 type ++ leBytes 1 bank ++ leBytes 1 sec ++ [0] ++ leBytes 4 seq ++ List.replicate 20 0)

/-- The bytes of a journal header (R467). -/
def headerBytes (gen : Nat) : List Byte :=
  crcUnit ([0x4A, 0x52, 0x4E, 0x4C] ++ leBytes 4 gen ++ List.replicate 20 0)

/-- A record appended to journal sector `j`; the first sequence number of all is a free value. Log entry 28 (DESIGN CHOICE). -/
def State.journalAdd (s : State) (j type bank sec : Nat) : State :=
  let i := s.journalNext j
  let l := s.journalRecords
  let (seq, s1) := match l with
    | [] => (s.fresh.1.toNat % 2 ^ 32, s.fresh.2)
    | _ => (l.foldl (fun (m : Nat) (r : Nat × Nat × Nat × Nat) => max m r.1) 0 + 1, s)
  if i < 256 then (s1.unitProgram (journalBase j + 32 * i) (recordBytes type bank sec seq)).journalSync else s1

/-- The journal header of sector `j` programmed with the generation after the other sector's (R468). -/
def State.journalHeader (s : State) (j : Nat) : State :=
  (s.unitProgram (journalBase j) (headerBytes ((s.journalGen (1 - j)).getD 0 + 1))).journalSync

/-! ### Status -/

/-- A flash or source address as this module sees it (R42): its own node ID is node field 0. -/
def State.flcLocal (s : State) (a : Nat) : Nat := if a < 2 ^ 41 && s.isLocal a then localOf a else a

/-- The flash address of slot `k`. -/
def State.flcAddr (s : State) (k : Nat) : Nat := s.flcLocal (s.reg (A.FLC_D_ADDR k)).toNat

/-- The bank that the operation in progress keeps busy, if any; the begin record of an erase keeps bank 0 busy first. -/
def State.flcBusyBank (s : State) : Option Nat :=
  match s.flcOp with
  | .idle => none
  | .unit k _ => some (bankOf (s.flcAddr k))
  | .erase _ b _ => some b
  | .compact => some 0
  | .stretch _ _ b => some b

/-- Whether an erase runs. -/
def FlcOp.erasing : FlcOp → Bool
  | .erase _ _ _ => true
  | _ => false

/-- Whether an operation keeps a bank busy (R464): its own, or for bank 0 a journal record of an erase. -/
def State.bankRuns (s : State) (bank : Nat) : Bool :=
  let inBegin := s.flcOp.erasing && decide (s.now < s.jUntil)
  let inEnd := s.flcOp.erasing && s.due .flcEraseDone && decide (s.remaining .flcEraseDone ≤ us 20)
  (s.flcBusyBank == some bank && !(inBegin && bank == 1)) || (bank == 0 && (inBegin || inEnd))

/-- Whether a hold keeps the next descriptor waiting (R460). -/
def State.flcHold (s : State) : Bool :=
  s.bit F.FLC_CTL_HOLD || s.frz F.FLC_CTL_FRZ F.FLC_CTL_FRZCORE
    || (s.bit F.FLC_CTL_MLHOLD && s.bit F.PWR_STATUS_MAINSLOSS)

/-- Whether the state of slot `k` is `x`. -/
def State.flcIs (s : State) (k x : Nat) : Bool := s.rd (F.FLC_D_STAT_STATE k) == x

/-! ### Running the queue -/

/-- Whether the FLC may start an operation: in the modes of R475, no deferral, nothing in progress. -/
def State.flcFree (s : State) : Bool :=
  s.flcOp == .idle && !s.bit F.FLC_STATUS_ACCEPT_OFF && s.modeIn [.boot, .standby, .armed, .run, .safeStop]

/-- Whether a re-erase of R470 may start: after the application image has been copied, or in the hold of R83. -/
def State.reeraseReady (s : State) : Bool :=
  !s.flcHalf.isEmpty && (decide (8 ≤ s.bootStage) || s.bit F.SYS_BOOTSTAT_HOLD)

/-- The bank whose operation starts in this cycle, if any: an erase begins with its journal record. -/
def State.flcStarts (s : State) : Option Nat :=
  if s.alarms.any (fun p => decide (p.1 ≤ s.now) && p.2 == .flcOpStart) && s.flcFree && !s.flcHold then
    if s.reeraseReady then some 0
    else
      match s.flcHalf, s.flcQueue with
      | [], k :: _ => some (if s.rd (F.FLC_D_CTL_OP k) = 2 then 0 else bankOf (s.flcAddr k))
      | _, _ => none
  else none

/-- Whether a bank is busy (R464): from the first cycle of an operation on it to the last one (R474). -/
def State.bankBusy (s : State) (bank : Nat) : Bool :=
  s.bankRuns bank || s.flcStarts == some bank || (s.flcDone.1 == s.now && s.flcDone.2.testBit bank)

/-- Whether an access to the `n` bytes from `a` meets a busy bank. -/
def State.flashBusy (s : State) (a n : Nat) : Bool :=
  (inFlash a && s.bankBusy (bankOf a)) || (inFlash (a + n - 1) && s.bankBusy (bankOf (a + n - 1)))

/-- FLC_STATUS as it reads (R476). Log entry 78 (DEDUCED). -/
def State.flcStatus (s : State) : Word :=
  let run := if s.flcOp == .idle then 0 else 1
  let qlen := ((List.range 16).filter (fun k => s.flcIs k 2 || s.flcIs k 3)).length
  let held := if !s.flcQueue.isEmpty && s.flcOp == .idle && s.flcHold then 1 else 0
  let w := setBits (s.reg A.FLC_STATUS) 0 1 (if s.bankBusy 0 then 1 else 0)
  setBits (setBits (setBits (setBits w 1 1 (if s.bankBusy 1 then 1 else 0)) 2 1 run) 3 1 held) 4 5 qlen

/-- The next operation starts as soon as it may (R460). Log entry 79 (DEDUCED). -/
def State.flcKick (s : State) : State :=
  if s.flcFree && !s.flcHold && !s.due .flcOpStart
      && (s.reeraseReady || (s.flcHalf.isEmpty && !s.flcQueue.isEmpty)) then s.after 1 .flcOpStart
  else s

/-- Slot `k` reaches DONE with a result (R459, R477). -/
def State.flcEnd (s : State) (k result : Nat) : State :=
  let s1 := (s.wr (F.FLC_D_STAT_STATE k) 4).wr (F.FLC_D_STAT_RESULT k) result
  if s1.bit (F.FLC_D_CTL_IEN k) then s1.irq 98 else s1

/-- Whether the 32 source bytes at `a` may be read for a unit in `bank` (R461). -/
def State.flcSource (s : State) (a bank : Nat) : Bool :=
  let inside (a : Nat) : Bool := match region a with
    | .dsram _ => true
    | .shared => true
    | .aon => true
    | .dram => s.bit F.SYS_READY_DRAM
    | .flash b => (if b then 1 else 0) != bank && !s.bankBusy (if b then 1 else 0)
    | _ => false
  inside a && inside (a + 31)

/-- The next unit of slot `k` starts: its source is read (R461); the record of a CRY job comes from the engine (R569). -/
def State.unitStart (s : State) (k : Nat) : State :=
  let n := 32 * s.rd (F.FLC_D_STAT_UNITS k)
  let src := s.flcLocal (s.reg (A.FLC_D_SRC k)).toNat + n
  let bank := bankOf (s.flcAddr k)
  if s.crySlot = some k then
    { s with flcOp := .unit k (s.cryTodo.head?.map (fun (t : Nat × Nat × List Byte) => t.2.2)) }.after (us 20) (.flcProgramUnitDone true)
  else
  let (bad, s1) := if s.flcSource src bank then s.eccRead src 32 else (true, s)
  { s1 with flcOp := .unit k (if bad then none else some (s1.bytes src 32)) }.after (us 20) (.flcProgramUnitDone true)

/-- An erase of a sector starts with its begin record (R462). -/
def State.eraseStart (s : State) (k bank sec : Nat) : State :=
  let s1 := s.journalAdd s.journalActive 1 bank sec
  { s1 with flcOp := .erase k bank sec, jUntil := s1.now + us 20 }.after (if sec < 8 then ms 25 else ms 120) .flcEraseDone

/-- A compaction starts with its begin record (R468). -/
def State.compactStart (s : State) : State :=
  let j := s.journalActive
  { s.journalAdd j 3 0 (1 - j) with flcOp := .compact }.after (ms 25) .flcCompaction

/-- Whether an erase must wait for a compaction (R468). -/
def State.compactNeeded (s : State) : Bool := decide (256 < s.journalNext s.journalActive + 4)

/-- FLC_OP_START (R460, R468, R470). Log entry 78 (DEDUCED). -/
def execFlcOpStart (s0 : State) : Result :=
  let s := s0.cancel .flcOpStart
  if !s.flcFree || s.flcHold then ok s
  else if s.reeraseReady then
    match s.flcHalf with
    | (bank, sec) :: _ =>
      if s.compactNeeded && !(bank == 0 && decide (sec < 2)) then ok s.compactStart else ok (s.eraseStart 16 bank sec)
    | [] => ok s
  else if !s.flcHalf.isEmpty then ok s
  else
    match s.flcQueue with
    | [] => ok s
    | k :: rest =>
      let a := s.flcAddr k
      if s.rd (F.FLC_D_CTL_OP k) = 2 ∧ s.compactNeeded then ok s.compactStart
      else
        let s1 := ({ s with flcQueue := rest }.wr (F.FLC_D_STAT_STATE k) 3).wr F.FLC_STATUS_RUNSLOT k
        ok (if s1.rd (F.FLC_D_CTL_OP k) = 2 then s1.eraseStart k (bankOf a) (sectorOf a) else s1.unitStart k)

/-- The operation of slot `k` has ended: a result of 0 means that more units follow (R460, R471). -/
def State.flcSettle (s : State) (k result : Nat) : State :=
  let banks := (if s.bankRuns 0 || s.flcOp.erasing then 1 else 0) + (if s.bankRuns 1 then 2 else 0)
  let s0 := { s with flcOp := .idle, flcDone := (s.now, banks) }
  let s1 :=
    if 16 ≤ k then s0
    else if result != 0 then s0.flcEnd k result
    else if s0.bit F.FLC_STATUS_ACCEPT_OFF then
      { s0.flcEnd k 8 with flcRst := setBits s0.flcRst 2 1 1 }
    else s0.unitStart k
  let s2 := if k < 16 then { s1 with flcRst := setBits s1.flcRst 9 9 (s1.rd (F.FLC_D_STAT_UNITS k)) } else s1
  (if s2.bit F.FLC_STATUS_ACCEPT_OFF && s2.flcOp == .idle then s2.after 0 .moduleReset else s2).flcKick

/-- The operation of slot `k` on `bank` is over; FLCSTR keeps the bank busy for longer (R612). -/
def State.flcFinish (s : State) (k result bank : Nat) : State :=
  let n := s.rd F.TST_FLCSTR_US
  if s.tstOn 8 && n != 0 then
    { s with flcOp := .stretch k result bank }.after (us n) (.flashBusyStretchEnd (bank == 1))
  else s.flcSettle k result

/-- FLC_PROGRAM_UNIT_DONE (R461): the unit is programmed; `ok` false: the blank check of the cells failed. -/
def execFlcProgramUnitDone (done : Bool) (s0 : State) : Result :=
  let s := s0.cancel (.flcProgramUnitDone true)
  match s0.flcOp with
  | .unit k data =>
    let u := s.flcAddr k + 32 * s.rd (F.FLC_D_STAT_UNITS k)
    match data with
    | none => ok (s.flcFinish k 7 (bankOf u))
    | some l =>
      if !done || !s.unitBlank u then ok (s.flcFinish k 6 (bankOf u))
      else
        let s1 := (s.unitProgram u l).wr (F.FLC_D_STAT_UNITS k) (s.rd (F.FLC_D_STAT_UNITS k) + 1)
        let last := s1.rd (F.FLC_D_CTL_N k) ≤ s1.rd (F.FLC_D_STAT_UNITS k)
        ok (s1.flcFinish k (if last then 1 else 0) (bankOf u))
  | _ => ok s0

/-- FLC_PROGRAM_TIMEOUT (R461): the unit did not complete within 25 µs. -/
def execFlcProgramTimeout (s : State) : Result :=
  match s.flcOp with
  | .unit k _ =>
    let u := s.flcAddr k + 32 * s.rd (F.FLC_D_STAT_UNITS k)
    ok (((s.cancel (.flcProgramUnitDone true)).tear u 32).flcFinish k 9 (bankOf u))
  | _ => ok s

/-- The re-erase in progress ends with `state` (R470). Log entry 79 (DEDUCED). -/
def State.reeraseEnd (s : State) (state : Nat) : State :=
  let s1 := { s.wr F.FLC_RECOVERY_STATE state with flcHalf := s.flcHalf.drop 1 }
  match s1.flcHalf with
  | [] => s1
  | (b, x) :: _ =>
    let s2 := ((s1.wr F.FLC_RECOVERY_STATE 1).wr F.FLC_RECOVERY_BANK b).wr F.FLC_RECOVERY_SECTOR x
    s2.wrb F.FLC_RECOVERY_JOURNAL (b == 0 && decide (x < 2))

/-- FLC_ERASE_DONE (R462, R470): the sector is erased and the end record written; a journal sector gets its header instead. -/
def execFlcEraseDone (s0 : State) : Result :=
  let s := s0.cancel .flcEraseDone
  match s0.flcOp with
  | .erase k bank sec =>
    let s1 := s.sectorErase bank sec
    let s2 := if bank = 0 ∧ sec < 2 then
        let j := 1 - sec
        (s1.journalHeader sec).journalAdd j 4 0 sec
      else s1.journalAdd s1.journalActive 2 bank sec
    ok ((if k = 16 then s2.reeraseEnd 2 else s2).flcFinish k 1 bank)
  | _ => ok s0

/-- FLC_ERASE_TIMEOUT (R462): FAIL, no end record; the contents of the sector are undefined. -/
def execFlcEraseTimeout (s : State) : Result :=
  match s.flcOp with
  | .erase k bank sec =>
    let s1 := (s.cancel .flcEraseDone).tear (sectorBase bank sec) (sectorSize sec)
    ok ((if k = 16 then s1.reeraseEnd 3 else s1).flcFinish k 9 bank)
  | _ => ok s

/-- The rest of a compaction (R468). -/
def State.compactEnd (s : State) : State :=
  let j := s.journalActive
  ((s.sectorErase 0 (1 - j)).journalHeader (1 - j)).journalAdd j 4 0 (1 - j)

/-- FLC_COMPACTION (R468): the compaction in progress completes. Log entry 78 (DEDUCED). -/
def execFlcCompaction (s0 : State) : Result :=
  let s := s0.cancel .flcCompaction
  match s0.flcOp with
  | .compact => ok (s.compactEnd.flcFinish 17 1 0)
  | _ => ok s0

/-- FLASH_BUSY_STRETCH_END (R612). -/
def execFlashBusyStretchEnd (bank : Bool) (s0 : State) : Result :=
  let s := s0.cancel (.flashBusyStretchEnd bank)
  match s0.flcOp with
  | .stretch k r b => ok (if (b == 1) == bank then s.flcSettle k r else s0)
  | _ => ok s0

/-! ### Descriptor registers -/

/-- A read of FLC_ALLOC (R458). Log entry 74 (DEDUCED). -/
def State.flcAlloc (s : State) (r : Writer) : Word × State :=
  if !s.sideFx r then (0, s)
  else
    match (List.range 16).find? (fun k => s.flcIs k 0) with
    | none => (0, s)
    | some k =>
      let s1 := ((s.wr (F.FLC_D_STAT_STATE k) 1).wr (F.FLC_D_STAT_RESULT k) 0).wr (F.FLC_D_STAT_UNITS k) 0
      (BitVec.ofNat 48 (16 + k), s1)

/-- Whether the mode lets the writer submit descriptors (R83, R475). Log entry 76 (DEDUCED). -/
def State.flcModeOk (s : State) (w : Writer) : Bool :=
  match s.mode with
  | .off => false
  | .dormant => false
  | .shutdown => false
  | .boot => (match w with
      | .rom => true
      | .coreS => true
      | .host _ => s.bit F.SYS_BOOTSTAT_HOLD
      | _ => false)
  | _ => true

/-- The area that slot `k` names. -/
def State.flcNames (s : State) (k : Nat) : FlcArea :=
  let a := s.flcAddr k
  flcArea (bankOf a) (sectorOf a)

/-- The result that the checks of a GO give, 0 where all pass (R459). Log entry 75 (DEDUCED). -/
def State.flcCheck (s : State) (w : Writer) (k : Nat) : Nat :=
  let a := s.flcAddr k
  let op := s.rd (F.FLC_D_CTL_OP k)
  let n := s.rd (F.FLC_D_CTL_N k)
  let area := s.flcNames k
  let user := match w with
    | .coreA _ sup => !sup
    | _ => false
  let hostBoot := match w with
    | .host _ => s.mode == .boot && area != .safSlot && area != .appSlot
    | _ => false
  let endOf := sectorBase (bankOf a) (sectorOf a) + sectorSize (sectorOf a)
  if !s.bit F.SYS_READY_FLASH then 2
  else if s.bit F.FLC_STATUS_ACCEPT_OFF || !s.flcModeOk w || user || hostBoot then 10
  else if op = 0 ∨ op = 3 then 4
  else if op = 1 ∧ (n = 0 ∨ 256 < n ∨ !inFlash a ∨ endOf < a + 32 * n) then 4
  else if op = 2 ∧ (!inFlash a ∨ sectorBase (bankOf a) (sectorOf a) ≠ a) then 3
  else if op = 1 ∧ a % 32 ≠ 0 then 3
  else if !s.flcMay w area || s.flcRunning (bankOf a) area then 5
  else 0

/-- A GO on slot `k` (R459). Log entry 75 (DEDUCED). -/
def State.flcGo (s : State) (w : Writer) (k : Nat) : State :=
  if !s.flcIs k 1 then s
  else
    let s1 := s.wr (F.FLC_D_STAT_ORIGIN k) (originCode s w)
    let r := s1.flcCheck w k
    if r != 0 then s1.flcEnd k r
    else ({ s1 with
      flcQueue := s1.flcQueue ++ [k]
      flcGoAt := (k, s1.instant) :: s1.flcGoAt.filter (fun p => p.2.1 == s1.now) }.wr (F.FLC_D_STAT_STATE k) 2).flcKick

/-- A FREE of slot `k` (R458). -/
def State.flcFreeSlot (s : State) (k : Nat) : State :=
  if s.flcIs k 1 || s.flcIs k 4 then s.wr (F.FLC_D_STAT_STATE k) 0 else s

/-- A write of FLC_Dk_CTL (R458, R459, R474, R477): OP, N and IEN in ALLOC only; FREE before GO.  A reserved OP is not taken (R18),
and a GO written with it fails its check. -/
def State.flcCtlWrite (s : State) (w : Writer) (k : Nat) (v : Word) : State :=
  let op := F.FLC_D_CTL_OP k
  let s1 := if s.flcIs k 1 then s.wr ⟨A.FLC_D_CTL k, 1, 12⟩ (getBits v 1 12) else s
  let s2 := if v.getLsbD 13 then s1.flcFreeSlot k
    else if v.getLsbD 0 then s1.flcGo w k
    else s1
  if s.flcIs k 1 && (getBits v 1 2 == 0 || getBits v 1 2 == 3) then s2.wr op (s.rd op) else s2

/-- A write of FLC_Dk_ADDR or SRC (R477). -/
def State.flcRegWrite (s : State) (k addr : Nat) (v : Word) : State := if s.flcIs k 1 then s.setReg addr v else s

/-! ### Resets -/

/-- The operation in progress as FLC_RSTINFO names it (R472). -/
def State.flcInfo (s : State) : Word :=
  match s.flcOp with
  | .idle => 0
  | .compact => setBits 1 18 1 0
  | .erase k b x =>
    setBits (setBits (setBits (setBits 1 3 4 (if k < 16 then k else 0)) 7 2 2) 18 1 b) 19 8 x
  | .unit k _ =>
    let a := s.flcAddr k
    setBits (setBits (setBits (setBits (setBits 1 3 4 k) 7 2 1) 18 1 (bankOf a)) 19 8 (sectorOf a)) 9 9
      (s.rd (F.FLC_D_STAT_UNITS k))
  | .stretch k _ b =>
    if k < 16 then
      let a := s.flcAddr k
      setBits (setBits (setBits (setBits (setBits 1 3 4 k) 7 2 (s.rd (F.FLC_D_CTL_OP k))) 18 1 b) 19 8 (sectorOf a)) 9 9
        (s.rd (F.FLC_D_STAT_UNITS k))
    else setBits 1 18 1 b

/-- Every queued descriptor ends FLUSHED (R471). -/
def State.flcFlush (s : State) : State :=
  let q := s.flcQueue
  let s1 := q.foldl (fun s k => s.flcEnd k 8) s
  { s1 with
    flcQueue := []
    flcRst := if q.isEmpty then s1.flcRst else setBits (setBits s1.flcRst 0 1 1) 2 1 1 }

/-- The descriptors whose GO falls in the cycle in which a deferral starts end REFUSED (R474). -/
def State.flcGoRefuse (s : State) : State :=
  let late := s.flcQueue.filter (fun k => s.flcGoAt.any (fun p => p.1 == k && s.same p.2))
  late.foldl (fun s k => s.flcEnd k 10) { s with flcQueue := s.flcQueue.filter (fun k => !late.contains k) }

/-- A reset is deferred (R96, R471): nothing more is accepted, the queue is flushed. Log entry 30 (DEDUCED). -/
def State.flcDefer (s : State) : State :=
  (({ s with flcRst := s.flcInfo }.on F.FLC_STATUS_ACCEPT_OFF).cancel .flcOpStart).flcGoRefuse.flcFlush

/-- An operation that power loss or the hard cut stops: a program unit and an erased sector are left undefined (R472). -/
def State.flcCut (s : State) : State :=
  let s1 := match s.flcOp with
    | .unit k _ => s.tear (s.flcAddr k + 32 * s.rd (F.FLC_D_STAT_UNITS k)) 32
    | .erase _ b x => s.tear (sectorBase b x) (sectorSize x)
    | .compact => s.tear (journalBase (1 - s.journalActive)) 0x2000
    | _ => s
  { s1 with flcOp := .idle, flcQueue := [] }

end Sys2Proof.Machine
end

