-- ==== Sys2Proof/Machine/MemBus.lean ====
section
/-! DEFINITION. Accesses to memories by any reader or writer (R35-R44, R371, R372, R432-R446, R464): which node, which rows, what
refuses the access, and the access itself.  Registers are in Bus.lean. -/
namespace Sys2Proof.Machine

/-- Why an access cannot be made. -/
inductive AccErr where
  /-- outside the local map (R36), or bits 47:41 not 0 (R41) -/
  | outside
  /-- a write to the boot ROM, flash or the save area of AON SRAM (R36, R436) -/
  | guarded
  /-- a write to the safety region by another writer than Zenou-S (R32) -/
  | safety
  /-- alignment (R38, R44) -/
  | align
  /-- an uncorrectable ECC error (R434) -/
  | ecc
  /-- the flash bank is busy (R464) -/
  | flashBusy
  /-- the DRAM is not ready (R439) -/
  | noDram
  /-- a far write to a register with SP fields (R45) -/
  | spField
  deriving DecidableEq, Repr

/-- The STATUS of a far response (R500). -/
def AccErr.farStatus : AccErr → Nat
  | .outside => 1 | .guarded => 2 | .safety => 2 | .spField => 2 | .align => 3 | .ecc => 4 | .flashBusy => 5 | .noDram => 6

/-- The CAUSE of a DMA channel (R444). -/
def AccErr.dmaCause : AccErr → Nat
  | .outside => 2 | .guarded => 4 | .safety => 4 | .spField => 4 | .align => 5 | .ecc => 3 | .flashBusy => 8 | .noDram => 7

/-- The parts of an access in single 16-byte rows: first address and bytes of each (R371). -/
def rowParts (a n : Nat) : List (Nat × Nat) :=
  if a / 16 = (a + n - 1) / 16 then [(a, n)] else [(a, 16 - a % 16), (a + (16 - a % 16), n - (16 - a % 16))]

/-- Whether an address belongs to a register block rather than to a memory. Log entry 10 (DESIGN CHOICE). -/
def isRegion (a : Nat) : Bool :=
  match region a with
  | .periph => true
  | .saf => true
  | _ => false

/-- What refuses a read of part of a row of memory. -/
def State.readErr (s : State) (a : Nat) : Option AccErr :=
  match region a with
  | .unmapped => some .outside
  | .periph => some .align
  | .saf => some .align
  | .dram => if s.bit F.SYS_READY_DRAM then none else some .noDram
  | .flash b => if s.bankBusy (if b then 1 else 0) then some .flashBusy else none
  | _ => none

/-- What refuses a write of part of a row of memory. -/
def State.writeErr (s : State) (w : Writer) (a : Nat) : Option AccErr :=
  match region a with
  | .unmapped => some .outside
  | .periph => some .align
  | .saf => some .align
  | .rom => some .guarded
  | .flash _ => some .guarded
  | .aon => if 0x0A00C000 ≤ a then some .guarded else none
  | .sIsram => if isSafety w then none else some .safety
  | .sDsram => if isSafety w then none else some .safety
  | .dram => if s.bit F.SYS_READY_DRAM then none else some .noDram
  | _ => none

/-- The bytes of a memory as a reader sees them: the boot ROM's are not state (R35). -/
def State.readBytes (s : State) (a n : Nat) : List Byte := s.bytes a n

/-- A read of one part of a row: the error, or nothing, and the state after the codes were checked. -/
def State.readPart (s : State) (a n : Nat) : Option AccErr × State :=
  match s.readErr a with
  | some e => (some e, s)
  | none =>
    let (bad, s1) := s.eccRead a n
    (if bad then some .ecc else none, s1)

/-- A read of `n` bytes of memory at local address `a`: the first error and the first address of the part that failed. -/
def State.memRead (s : State) (a n : Nat) : Option (AccErr × Nat) × State :=
  (rowParts a n).foldl (fun acc p =>
    match acc with
    | (some e, s) => (some e, s)
    | (none, s) =>
      match s.readPart p.1 p.2 with
      | (some e, s1) => (some (e, p.1), s1)
      | (none, s1) => (none, s1)) (none, s)

/-- The first part of a write that is refused. -/
def State.memWriteErr (s : State) (w : Writer) (a n : Nat) : Option (AccErr × Nat) :=
  (rowParts a n).foldl (fun acc p =>
    match acc with
    | some e => some e
    | none => (s.writeErr w p.1).map (fun e => (e, p.1))) none

/-- One part of a row written: table entries under R251, the other memories with their codes; reservations on the row clear. -/
def State.partWrite (s : State) (a : Nat) (l : List Byte) : State :=
  if region a = .table then s.tableStore a l
  else ((s.setBytes a l).eccWrite a l.length).resvStore a l.length

/-- The codes of the table entries that an accepted write covers whole, over the rows that it crosses (R249). -/
def State.entryCodes (s : State) (a n : Nat) : State :=
  if region a = .table && s.tablesLive && !s.pageActive (tableAxis a) (tablePg a) then s.eccWrite a n else s

/-- A write of `l` to memory at local address `a`: either every part or none (R372). -/
def State.memWrite (s : State) (w : Writer) (a : Nat) (l : List Byte) : Option (AccErr × Nat) × State :=
  match s.memWriteErr w a l.length with
  | some (e, x) => (some (e, x), if e = .safety then s.spViol w a else s)
  | none => (none, ((rowParts a l.length).foldl (fun s p => s.partWrite p.1 ((l.drop (p.1 - a)).take p.2)) s).entryCodes a l.length)

end Sys2Proof.Machine
end

