-- ==== Sys2Proof/Machine/Image.lean ====
section
/-! DEFINITION. Firmware images and commit records (R559-R565): the OTP keys, the checks of an image, the records of bank 1 P1
and the slot that counts. -/
namespace Sys2Proof.Machine

/-! ### Owner keys -/

/-- The public key in owner slot `k`: 64 bytes (R559). Log entry 83 (DEDUCED). -/
def State.ownerKey (s : State) (k : Nat) : List Byte :=
  match Tab.find s.otpKeys k with
  | some l => l
  | none => if k = 0 then Config.vendorKey else List.replicate 64 0

/-- Whether owner key `k` is usable (R559). Log entry 83 (DEDUCED). -/
def State.keyUsable (s : State) (k : Nat) : Bool := s.bitAt F.CRY_OTPSTAT_PROV k && !s.bitAt F.CRY_OTPSTAT_REVOKED k

/-! ### Image slots -/

/-- The first address of an image slot: `app` the kind, `b` slot B (R455). -/
def slotBase (app : Bool) (b : Nat) : Nat := sectorBase b (if app then 16 else 8)

/-- Bytes of an image slot. -/
def slotSize (app : Bool) : Nat := if app then 0x280000 else 0x80000

/-- Whether a sector lies in an image slot. -/
def inSlot (app : Bool) (b : Nat) (bank sec : Nat) : Bool :=
  bank == b && (if app then decide (16 ≤ sec) && decide (sec < 56) else decide (8 ≤ sec) && decide (sec < 16))

/-- A section of an image (R561). -/
structure Section where
  dest : Nat
  len : Nat
  ofs : Nat
  kind : Nat
  last : Nat
  deriving DecidableEq, Repr

/-- Section `k` of the image at `b`. -/
def State.imageSection (s : State) (b k : Nat) : Section :=
  let e := b + 64 + 16 * k
  { dest := s.load e 6, len := s.load (e + 6) 4, ofs := s.load (e + 10) 4, kind := s.load (e + 14) 1, last := s.load (e + 15) 1 }

/-- The sections of the image at `b`. -/
def State.imageSections (s : State) (b : Nat) : List Section := (List.range (s.load (b + 6) 2)).map (fun k => s.imageSection b k)

/-- The signed length L of the image at `b`. -/
def State.imageLen (s : State) (b : Nat) : Nat := s.load (b + 16) 4

/-- The image digest (R561). -/
def State.imageDigest (s : State) (b : Nat) : List Byte := sha256 (s.bytes b (s.imageLen b))

/-- The memory that a load section of an image of a kind may go to, by number (R562). -/
def sectionMemory (app : Bool) (a : Nat) : Option Nat :=
  match region a with
  | .isram n => if app then some n else none
  | .dsram n => if app then some (4 + n) else none
  | .shared => if app then some 8 else none
  | .sIsram => if app then none else some 9
  | .sDsram => if app then none else some 10
  | _ => none

/-- Whether a load section goes wholly to one permitted memory. -/
def sectionFits (app : Bool) (x : Section) : Bool :=
  (sectionMemory app x.dest).isSome && sectionMemory app (x.dest + (x.len - 1)) == sectionMemory app x.dest

/-- Whether two load sections overlap. -/
def sectionsClash (x y : Section) : Bool := decide (x.dest < y.dest + y.len) && decide (y.dest < x.dest + x.len)

/-- Whether no two of the sections overlap. -/
def noClash : List Section → Bool
  | [] => true
  | x :: t => t.all (fun y => !sectionsClash x y) && noClash t

/-- Whether the image header at `b` has the right magic and fields in their ranges (R561, R562). -/
def State.headerGood (s : State) (app : Bool) (b : Nat) : Bool :=
  let n := s.load (b + 6) 2
  let len := s.imageLen b
  s.bytes b 4 == (if app then [0x5A, 0x41, 0x49, 0x4D] else [0x5A, 0x53, 0x49, 0x4D])
    && s.load (b + 4) 2 == 1 && decide (1 ≤ n) && decide (n ≤ 16) && decide (s.load (b + 12) 4 ≤ 32)
    && len % 32 == 0 && decide (320 ≤ len) && decide (len + 64 ≤ slotSize app)
    && decide (s.load (b + 20) 1 ≤ 3) && (s.bytes (b + 21) 43).all (fun x => x == 0)
    && (s.bytes (b + 64 + 16 * n) (16 * (16 - n))).all (fun x => x == 0)

/-- Whether the sections of the image at `b` are as R561 and R562 require. -/
def State.sectionsGood (s : State) (app : Bool) (b : Nat) : Bool :=
  let l := s.imageSections b
  let loads := l.filter (fun x => x.kind == 0)
  let params := l.filter (fun x => x.kind == 1)
  l.all (fun x => decide (x.kind ≤ 1) && x.last == 0 && decide (320 ≤ x.ofs) && decide (x.ofs + x.len ≤ s.imageLen b))
    && loads.all (sectionFits app) && noClash loads && params.length == (if app then 0 else 1)

/-- Whether the image in a slot is valid (R562). -/
def State.imageValid (s : State) (app : Bool) (slot : Nat) : Bool :=
  let b := slotBase app slot
  let key := s.load (b + 20) 1
  s.headerGood app b && s.sectionsGood app b && s.keyUsable key
    && Config.ecdsaVerify (s.ownerKey key) (s.imageDigest b) (s.bytes (b + s.imageLen b) 64)
    && decide (s.rd F.CRY_OTPSTAT_EPOCH ≤ s.load (b + 12) 4)
    && !s.flcHalf.any (fun h => inSlot app slot h.1 h.2)

/-! ### Commit records -/

/-- The commit records lie in bank 1 P1 (R563). -/
def commitBase : Nat := sectorBase 1 1

/-- A commit record: sequence number, kind (true for application), slot, version, digest prefix. -/
structure Commit where
  seq : Nat
  app : Bool
  slot : Nat
  version : Nat
  digest : List Byte
  deriving DecidableEq, Repr

/-- The records of bank 1 P1 whose magic and CRC are right, in the order written (R563). -/
def State.commits (s : State) : List Commit :=
  (List.range (s.unitsUsed commitBase)).flatMap (fun i =>
    let u := commitBase + 32 * i
    let kind := s.load (u + 4) 1
    if s.bytes u 4 == [0x43, 0x4D, 0x49, 0x54] && s.unitCrc u && (kind == 1 || kind == 2) then
      [{ seq := s.load (u + 8) 4, app := kind == 2, slot := s.load (u + 5) 1, version := s.load (u + 12) 4,
         digest := s.bytes (u + 16) 12 }]
    else [])

/-- The highest sequence number in P1, 0 in an empty sector. -/
def State.commitSeq (s : State) : Nat := s.commits.foldl (fun m c => max m c.seq) 0

/-- The bytes of a commit record for the image in a slot (R563). -/
def State.commitBytes (s : State) (app : Bool) (slot seq : Nat) : List Byte :=
  let b := slotBase app slot
  crcUnit ([0x43, 0x4D, 0x49, 0x54, if app then 2 else 1, BitVec.ofNat 8 slot, 0, 0] ++ leBytes 4 seq
    ++ s.bytes (b + 8) 4 ++ (s.imageDigest b).take 12)

/-- CRY_COMMITSTAT shows the free units and the highest sequence number (R577). -/
def State.commitSync (s : State) : State :=
  (s.wr F.CRY_COMMITSTAT_FREE (256 - s.unitsUsed commitBase)).wr F.CRY_COMMITSTAT_SEQ s.commitSeq

/-- Whether record `c` names the image in its slot exactly (R564). -/
def State.commitMatches (s : State) (c : Commit) : Bool :=
  let b := slotBase c.app c.slot
  decide (c.slot ≤ 1) && c.version == s.load (b + 8) 4 && c.digest == (s.imageDigest b).take 12

/-- The records of a kind in descending sequence order. -/
def commitsDown (l : List Commit) : List Commit := sortBy (fun (a b : Commit) => decide (b.seq ≤ a.seq)) 32 l

/-- The slot of a kind that counts, by the newest record (R564). -/
def State.committedSlot (s : State) (app : Bool) : Option Nat :=
  ((commitsDown (s.commits.filter (fun c => c.app == app))).find? (fun c =>
    s.commitMatches c && s.imageValid app c.slot)).map (fun c => c.slot)

/-- The slot of a kind that BOOT selects, and whether no record names it (R564, R565). -/
def State.selectSlot (s : State) (app : Bool) : Option (Nat × Bool) :=
  match s.committedSlot app with
  | some b => some (b, false)
  | none => if s.imageValid app 0 then some (0, true) else if s.imageValid app 1 then some (1, true) else none

/-- The record that the ROM writes for a slot without one, unless P1 is HALF_ERASED or full (R565). -/
def State.romCommit (s : State) (app : Bool) (slot : Nat) : State :=
  let i := s.unitsUsed commitBase
  if i < 256 ∧ !s.flcHalf.contains (1, 1) then
    s.unitProgram (commitBase + 32 * i) (s.commitBytes app slot (s.commitSeq + 1))
  else s

/-- One load section copied to its destination. -/
def State.loadSection (s : State) (b : Nat) (x : Section) : State :=
  if x.kind = 0 then (s.setBytes x.dest (s.bytes (b + x.ofs) x.len)).eccWrite x.dest x.len else s

/-- Every load section of the image in a slot copied to its destination (R566). -/
def State.loadImage (s : State) (app : Bool) (slot : Nat) : State :=
  let b := slotBase app slot
  (s.imageSections b).foldl (fun s x => s.loadSection b x) s

/-- A 32-byte digest in the six words of a digest register group (R101). -/
def State.digestWrite (s : State) (a : Nat) (d : List Byte) : State :=
  s.upto 6 (fun k s => s.setReg (a + 8 * k) (BitVec.ofNat 48 (leNat ((d.drop (6 * k)).take 6))))

end Sys2Proof.Machine
end

