-- ==== Sys2Proof/Machine/Cry.lean ====
section
/-! DEFINITION. The CRY engine (R567-R577): its jobs, who may ask for them, commits and compaction through its own FLC
descriptors, and the OTP operations. -/
namespace Sys2Proof.Machine

/-! ### Reading and writing blocks of memory -/

/-- The parts of `n` bytes from `a` in single rows. -/
def blockParts (a n : Nat) : List (Nat × Nat) :=
  (List.range (n / 16 + 2)).flatMap (fun i =>
    let lo := max a (a / 16 * 16 + 16 * i)
    let hi := min (a + n) (a / 16 * 16 + 16 * i + 16)
    if lo < hi then [(lo, hi - lo)] else [])

/-- A read of a block at a pointer, or nothing where part of it faults (R568). -/
def State.blockRead (s : State) (a n : Nat) : Option (List Byte) × State :=
  if !s.isLocal a || decide (2 ^ 30 < localOf a + n) || decide (2 ^ 41 ≤ a) then (none, s)
  else
    let b := localOf a
    let r := (blockParts b n).foldl (fun (acc : Bool × State) p =>
      if acc.1 then acc
      else match acc.2.readPart p.1 p.2 with
        | (some _, s1) => (true, s1)
        | (none, s1) => (false, s1)) (false, s)
    if r.1 then (none, r.2) else (some (r.2.readBytes b n), r.2)

/-- A write of a block at a pointer; `false` where part of it is refused, and then nothing is written (R568). -/
def State.blockWrite (s : State) (w : Writer) (a : Nat) (l : List Byte) : Bool × State :=
  if !s.isLocal a || decide (2 ^ 30 < localOf a + l.length) || decide (2 ^ 41 ≤ a) then (false, s)
  else
    let b := localOf a
    let ps := blockParts b l.length
    match ps.findSome? (fun p => s.writeErr w p.1) with
    | some e => (false, if e = .safety then s.spViol w b else s)
    | none => (true, ps.foldl (fun s p => s.partWrite p.1 ((l.drop (p.1 - b)).take p.2)) s)

/-! ### Jobs -/

/-- Whether an origin may ask for operation `op` in the present mode (R572, R576). Log entries 81 (DEDUCED), 85 (DEDUCED). -/
def State.cryMay (s : State) (w : Writer) (op : Nat) : Bool :=
  let dbg := s.isDebug w
  let appS := match w with
    | .coreA _ sup => sup
    | _ => false
  let saf := isSafety w
  let host := match w with
    | .host k => !dbg && (s.rights k.val).testBit 3
    | _ => false
  let active := s.modeIn [.standby, .armed, .run, .safeStop]
  match op with
  | 1 => active && (appS || saf || dbg)
  | 2 => active && (appS || saf)
  | 3 => active && (appS || saf)
  | 4 => active && saf
  | 5 => active && (appS || saf || host)
  | 6 => s.mode == .standby && (appS || saf || host)
  | 7 => s.mode == .standby && saf
  | 8 => s.mode == .standby && saf
  | 9 => s.mode == .standby && saf
  | 10 => s.mode == .standby && saf
  | _ => false

/-- A field of the job in progress: 0 CMD, 1 SRC, 2 LEN, 3 KEY, 4 SIG, 5 DST. Log entry 80 (DEDUCED). -/
def State.cryArg (s : State) (k : Nat) : Nat := (s.cryJob.getD k 0).toNat

/-- The operation of a CRY_CMD word. -/
def cryOp (v : Nat) : Nat := v % 16

/-- Owner key slot of a CRY_CMD word. -/
def cryIdx (v : Nat) : Nat := v / 16 % 4

/-- Whether a CRY_CMD word names an application slot. -/
def cryApp (v : Nat) : Bool := v.testBit 6

/-- The image slot of a CRY_CMD word. -/
def crySlotArg (v : Nat) : Nat := if v.testBit 7 then 1 else 0

/-- The epoch of a CRY_CMD word. -/
def cryEpoch (v : Nat) : Nat := v / 256 % 64

/-- The time of a job, in drive-base cycles (R568). -/
def State.cryTime (s : State) (cmd src len : Nat) : Nat :=
  match cryOp cmd with
  | 1 =>
    let slow := match region (localOf src) with
      | .flash _ => true
      | .dram => true
      | _ => false
    nsCycles ((if slow then 20 else 10) * ((len + 15) / 16))
  | 2 => us 400
  | 3 => us 400
  | 4 => us 300
  | 5 => nsCycles (20 * ((s.imageLen (slotBase (cryApp cmd) (crySlotArg cmd)) % 2 ^ 22 + 15) / 16)) + us 400
  | 7 => ms 2
  | 8 => ms 1
  | 9 => ms (max 1 (cryEpoch cmd - s.rd F.CRY_OTPSTAT_EPOCH))
  | 10 => ms 1
  | _ => 1

/-- Whether a software job stands still for the monitor. -/
def State.cryFrozen (s : State) : Bool := s.frz F.CRY_CTL_FRZ F.CRY_CTL_FRZCORE

/-- A job ends with a result (R567). -/
def State.cryFinish (s : State) (result : Nat) : State :=
  let s1 := { s with cryJob := [], cryStage := 0, cryTodo := [], crySlot := none }
  let s2 := ((s1.off0 F.CRY_STAT_BUSY).on F.CRY_STAT_DONE).wr F.CRY_STAT_RESULT result
  if s2.bit F.CRY_CTL_IEN then s2.irq 108 else s2

/-- A write of CRY_CMD (R567, R572). Log entries 80 (DEDUCED), 81 (DEDUCED). -/
def State.cryCommand (s : State) (w : Writer) (v : Word) : State :=
  if s.bit F.CRY_STAT_BUSY then s.wr F.CRY_STAT_RESULT 11
  else
    let s1 := (s.wr F.CRY_STAT_ORIGIN (originCode s w)).wr F.CRY_STAT_RESULT 0
    if !s1.cryMay w (cryOp v.toNat) then s1.cryFinish 3
    else
      let job := [v, s1.reg A.CRY_SRC, s1.reg A.CRY_LEN, s1.reg A.CRY_KEY, s1.reg A.CRY_SIG, s1.reg A.CRY_DST]
      let s2 := { s1.on F.CRY_STAT_BUSY with cryJob := job, cryWriter := w, cryStage := 0 }
      s2.after (s2.cryTime v.toNat (s2.reg A.CRY_SRC).toNat (s2.rd F.CRY_LEN_LEN)) .cryJobDone

/-- A check of a signature with a key (R568). -/
def State.cryCheck (s : State) (key : List Byte) : State :=
  match s.blockRead (s.cryArg 1) 32 with
  | (none, s1) => s1.cryFinish 4
  | (some d, s1) =>
    match s1.blockRead (s1.cryArg 4) 64 with
    | (none, s2) => s2.cryFinish 4
    | (some g, s2) => s2.cryFinish (if Config.ecdsaVerify key d g then 1 else 2)

/-- Output of a job at DST (R568). -/
def State.cryOut (s : State) (l : List Byte) : State :=
  match s.blockWrite s.cryWriter (s.cryArg 5) l with
  | (true, s1) => s1.cryFinish 1
  | (false, s1) => s1.cryFinish 4

/-- The first free slot for a descriptor of the job takes its next operation (R569); without one the job waits.
Log entry 82 (DEDUCED). -/
def State.cryNext (s : State) : State :=
  match s.cryTodo with
  | [] => s.commitSync.cryFinish 1
  | (op, addr, _) :: _ =>
    if s.bit F.FLC_STATUS_ACCEPT_OFF then s.cryFinish 9
    else
      match (List.range 16).find? (fun k => s.flcIs k 0) with
      | none => { s with cryStage := 2 }
      | some k =>
        let s1 := ((s.setReg (A.FLC_D_ADDR k) (BitVec.ofNat 48 addr)).setReg (A.FLC_D_SRC k) 0).setReg (A.FLC_D_CTL k)
          (BitVec.ofNat 48 (2 * op + 8))
        let s2 := { ((s1.wr (F.FLC_D_STAT_STATE k) 1).wr (F.FLC_D_STAT_RESULT k) 0).wr (F.FLC_D_STAT_UNITS k) 0 with
          cryStage := 1, crySlot := some k }
        s2.flcGo .coreS k

/-- The descriptor of the job in slot `k` is DONE: the record is read back (R569). Log entry 82 (DEDUCED). -/
def State.cryStep (s : State) (k : Nat) : State :=
  let good := s.rd (F.FLC_D_STAT_RESULT k) == 1
  let back := match s.cryTodo with
    | (1, addr, l) :: _ => s.bytes addr 32 == l
    | _ => true
  let s1 := { s.flcFreeSlot k with crySlot := none }
  if good && back then { s1 with cryTodo := s1.cryTodo.drop 1 }.cryNext else s1.cryFinish 9

/-- COMMIT (R569). -/
def State.cryCommit (s : State) (cmd : Nat) : State :=
  let app := cryApp cmd
  let b := crySlotArg cmd
  let i := s.unitsUsed commitBase
  if !s.imageValid app b then s.cryFinish 6
  else if 256 ≤ i then s.cryFinish 7
  else { s with cryTodo := [(1, commitBase + 32 * i, s.commitBytes app b (s.commitSeq + 1))] }.cryNext

/-- The slot of a kind that BOOT selected, if any. -/
def State.selected (s : State) (app : Bool) : Option Nat :=
  if app then (if s.bit F.SYS_BOOTSTAT_APP_IMG_BAD then none else some (s.rd F.SYS_BOOTSTAT_APP_SLOT))
  else if s.bit F.SYS_BOOTSTAT_SAF_IMG_BAD then none else some (s.rd F.SYS_BOOTSTAT_SAF_SLOT)

/-- The newest record of the slot in `l`, 0 for none. -/
def State.newest (s : State) (app : Bool) (p : Nat → Bool) : Nat :=
  (s.commits.filter (fun c => c.app == app && p c.slot)).foldl (fun m c => max m c.seq) 0

/-- Whether a slot that is not selected has a record newer than the selected slot's (R570). -/
def State.commitPending (s : State) : Bool :=
  [false, true].any (fun app =>
    match s.selected app with
    | some b => decide (s.newest app (fun x => x == b) < s.newest app (fun x => x != b))
    | none => false)

/-- COMPACT (R570): erase the first main sector of every slot not selected, erase P1, write one record per selected slot.
Log entry 84 (DEDUCED). -/
def State.cryCompactJob (s : State) : State :=
  if s.commitPending then s.cryFinish 8
  else
    let sel := [false, true].flatMap (fun app => (s.selected app).toList.map (fun b => (app, b)))
    let drop := [false, true].flatMap (fun app => ([0, 1].filter (fun b => s.selected app != some b)).map (fun b =>
      (2, slotBase app b, ([] : List Byte))))
    let recs := (List.range sel.length).map (fun i =>
      let x := sel.getD i (false, 0)
      (1, commitBase + 32 * i, s.commitBytes x.1 x.2 (i + 1)))
    { s with cryTodo := drop ++ [(2, commitBase, [])] ++ recs }.cryNext

/-- OTP operations (R559, R560, R568). Log entry 83 (DEDUCED). -/
def State.cryOtp (s : State) (cmd : Nat) : State :=
  let k := cryIdx cmd
  match cryOp cmd with
  | 7 =>
    if s.bitAt F.CRY_OTPSTAT_PROV k then s.cryFinish 10
    else
      match s.blockRead (s.cryArg 3) 64 with
      | (none, s1) => s1.cryFinish 4
      | (some l, s1) => ({ s1 with otpKeys := Tab.put s1.otpKeys k l }.setBitAt F.CRY_OTPSTAT_PROV k true).cryFinish 1
  | 8 =>
    let s1 := s.setBitAt F.CRY_OTPSTAT_REVOKED k true
    if (List.range 4).any (fun j => s1.keyUsable j) then s1.cryFinish 1 else s.cryFinish 10
  | 9 =>
    let e := cryEpoch cmd
    if s.rd F.CRY_OTPSTAT_EPOCH < e ∧ e ≤ 32 then (s.wr F.CRY_OTPSTAT_EPOCH e).cryFinish 1 else s.cryFinish 10
  | _ => (s.on F.CRY_OTPSTAT_CFGSIG).cryFinish 1

/-- The computation of a job is over (R568). -/
def State.cryCompute (s : State) : State :=
  let cmd := s.cryArg 0
  match cryOp cmd with
  | 1 =>
    (match s.blockRead (s.cryArg 1) (s.cryArg 2) with
     | (none, s1) => s1.cryFinish 4
     | (some l, s1) => s1.cryOut (sha256 l))
  | 2 =>
    (match s.blockRead (s.cryArg 3) 64 with
     | (none, s1) => s1.cryFinish 4
     | (some key, s1) => s1.cryCheck key)
  | 3 => if s.keyUsable (cryIdx cmd) then s.cryCheck (s.ownerKey (cryIdx cmd)) else s.cryFinish 5
  | 4 =>
    (match s.blockRead (s.cryArg 1) 32 with
     | (none, s1) => s1.cryFinish 4
     | (some d, s1) => s1.cryOut (Config.ecdsaSignDev d))
  | 5 => s.cryCommit cmd
  | 6 => s.cryCompactJob
  | _ => s.cryOtp cmd

/-- CRY_JOB_DONE (R567-R571): the computation of the job in progress is over, or its FLC descriptor is DONE. -/
def execCryJobDone (s0 : State) : Result :=
  let s := s0.cancel .cryJobDone
  if !s.bit F.CRY_STAT_BUSY || s.cryFrozen then ok s0
  else
    match s.cryStage with
    | 0 => ok s.cryCompute
    | 1 =>
      (match s.crySlot with
       | some k => ok (if s.flcIs k 4 then s.cryStep k else s)
       | none => ok s)
    | _ => ok s.cryNext

/-- The job goes on once its descriptor is DONE, a slot is free or nothing more is accepted. Log entry 82 (DEDUCED). -/
def State.cryPoll (s : State) : State :=
  let go := match s.cryStage with
    | 1 => (match s.crySlot with
        | some k => s.flcIs k 4
        | none => false)
    | 2 => s.bit F.FLC_STATUS_ACCEPT_OFF || (List.range 16).any (fun k => s.flcIs k 0)
    | _ => false
  if s.bit F.CRY_STAT_BUSY && go && !s.cryFrozen && !s.due .cryJobDone then s.after 0 .cryJobDone else s

end Sys2Proof.Machine
end

