-- ==== Sys2Proof/Machine/Reset.lean ====
section
/-! DEFINITION. Module resets (R95, R96, R379, R428, R435): what a reset keeps, its causes, the deferral behind a flash operation
and the hard cut. -/
namespace Sys2Proof.Machine

/-- What a module reset leaves in memory (R435): flash, and AON SRAM except at a power-on or brown-out. Log entry 31 (DEDUCED). -/
def keptAddr (cold : Bool) (a : Nat) : Bool := inFlash a || (!cold && decide (0x0A000000 ≤ a) && decide (a < 0x0A010000))

/-- A saturating 16-bit count, one more where `b`. -/
def count16 (n : Nat) (b : Bool) : Nat := if b && decide (n < 65535) then n + 1 else n

/-- The registers that a module reset with causes `causes` leaves (R95, R99, R472, R559): the reset causes and counts, what
describes the flash operation at the reset and the OTP cells; the DIO contacts, now inputs, show what the outside gives
them (R68). -/
def State.resetRegs (s : State) (causes : Nat) (fresh : State) : State :=
  let por := causes.testBit 0
  let cold := por || causes.testBit 1
  let n k := s.rd ⟨A.SYS_RSTCNT, 16 * k, 16⟩
  let n0 := count16 (n 0) (causes.testBit 2)
  let n1 := count16 (n 1) (causes / 16 % 16 != 0)
  let n2 := count16 (n 2) (causes.testBit 1 || causes.testBit 3 || causes.testBit 8)
  let s1 := fresh.setReg A.SYS_RSTCAUSE (BitVec.ofNat 48 causes)
  let s2 := s1.setReg A.SYS_RSTCAUSE_PREV (if por then 0 else s.reg A.SYS_RSTCAUSE)
  let s3 := if por then s2 else s2.setReg A.SYS_RSTCNT (BitVec.ofNat 48 (n0 + 2 ^ 16 * n1 + 2 ^ 32 * n2))
  let s4 := if cold then s3 else s3.setReg A.FLC_RSTINFO (if s.flcRst = 0 then s.reg A.FLC_RSTINFO else s.flcRst)
  (s4.setReg A.CRY_OTPSTAT (s.reg A.CRY_OTPSTAT)).setReg A.AON_DIOIN s.dioExt

/-- A module reset with the causes of `causes` (bits of SYS_RSTCAUSE): BOOT starts.  `stage` is how far R81 has come.
Log entry 31 (DEDUCED). -/
def State.moduleReset (s : State) (causes stage : Nat) : State :=
  let cold := causes.testBit 0 || causes.testBit 1
  let keep (a : Nat) : Bool := keptAddr cold a
  let next : Instr := if stage = 1 then .bootClockLock else .bootJournalScan
  let fresh : State := {
    State.reset with
    pending := s.pending, now := s.now, beat := s.beat, freeCtr := s.freeCtr
    regs := []
    mem := s.mem.filter (fun p => keep p.1)
    eccSoft := s.eccSoft.filter keep
    eccHard := s.eccHard.filter keep
    torn := s.torn, ffUnits := s.ffUnits
    otpKeys := s.otpKeys
    stoIn := s.stoIn
    egress := s.egress
    farTag := s.farTag
    authDraw := s.authDraw + 1
    mainsOn := s.mainsOn
    aonFrac := s.aonFrac
    dioExt := s.dioExt
    bulkOk := s.bulkOk
    auxOn := s.auxOn
    auxAt := s.auxAt
    lineGood := s.lineGood
    alarms := if stage = 0 then [] else [(s.now + ms (if stage = 1 then 3 else 2), next)]
    bootStage := stage
    bootAt := s.now }
  s.resetRegs causes fresh

/-- The reset that waits in `rstWait` is taken, with the causes of `more` (R95, R96). Log entry 30 (DEDUCED). -/
def State.takeReset (s : State) (more : Nat) : State :=
  let s1 := s.flcFlush
  s1.moduleReset (Nat.lor s1.rstWait more) 2

/-- A module reset is requested with cause bit `k`, 2-7 (R95, R96): taken at once when no flash operation is in progress; else
deferred, at most 450 ms, with SAFE_STOP entered from ARMED and RUN. Log entry 30 (DEDUCED). -/
def State.requestReset (s : State) (k : Nat) : State :=
  if s.bit F.SYS_MODESTAT_RST_PENDING then { s with rstWait := natBit s.rstWait k true }
  else if s.flcOp == .idle then { s with flcRst := 0 }.takeReset (2 ^ k)
  else
    let s1 := { s.flcDefer.on F.SYS_MODESTAT_RST_PENDING with rstWait := 2 ^ k }
    (s1.after (ms 450) .resetHardcut).safeStop 6

/-- MODULE_RESET (R95, R96): the deferred reset is taken once the flash operation has ended. -/
def execModuleReset (s0 : State) : Result :=
  let s := s0.cancel .moduleReset
  ok (if s.bit F.SYS_MODESTAT_RST_PENDING && s.flcOp == .idle then
    s.takeReset (2 ^ 9) else s)

/-- RESET_HARDCUT (R95, R472): 450 ms have passed; the operation is cut. -/
def execResetHardcut (s0 : State) : Result :=
  let s := s0.cancel .resetHardcut
  if s.bit F.SYS_MODESTAT_RST_PENDING then
    ok ({ s.flcCut with flcRst := setBits s.flcRst 1 1 1 }.takeReset (2 ^ 10))
  else ok s

/-- A write of SYS_RSTREQ inside the unlock window (R95, R99). -/
def State.rstreqWrite (s : State) (w : Writer) (v : Word) : State :=
  s.protect w (fun s =>
    if getBits v 0 8 != 0x5A then s
    else
      match w with
      | .coreA _ _ => s.requestReset 5
      | .coreS => s.requestReset 4
      | .rom => s.requestReset 4
      | .host k => s.requestReset (if s.isDebug (.host k) then 7 else 6)
      | .debugger => s.requestReset 7
      | .fabric => s.requestReset 6
      | .dma _ => s)

/-- BROWNOUT (R95): the housekeeping supply browns out with mains present; the reset is taken at once.
Log entry 151 (DESIGN CHOICE). -/
def execBrownout (s : State) : Result :=
  if s.mainsOn && s.mode != .off then ok ((s.flcCut.stoAssert).moduleReset 2 2) else ok s

/-- BOOT_POR_RELEASE (R81, R95): the power-on reset releases with the housekeeping supply in regulation. Log entry 6 (DEDUCED). -/
def execBootPorRelease (s : State) : Result :=
  if s.mode == .off && s.mainsOn && !s.offHold then
    let s1 := s.moduleReset 1 1
    ok { s1 with bootAt := s.bootAt, bulkOk := false, auxOn := false }
  else ok s

/-- MAINS_APPLIED (R74, R76, R81): mains reaches 85 VAC; after a SHUTDOWN that ended OFF, only a removal of at least 1 s counts.
Log entry 127 (DESIGN CHOICE). -/
def execMainsApplied (s : State) : Result :=
  if s.mainsOn then ok s
  else
    let s1 := { s with mainsOn := true, offHold := s.offHold && decide (s.now < s.bootAt + ms 1000) }
    if s1.offHold then ok s1 else
    ok (if s1.mode == .off then { s1 with bootAt := s1.now }.after (ms 18) .bootPorRelease else s1)

/-- Every power domain of the module is off (R20, R74). Log entry 36 (DEDUCED). -/
def State.powerOff (s : State) : State :=
  let s1 := (s.flcCut.stoAssert).moduleReset 1 0
  let s2 := { s1 with regs := [], bulkOk := false, auxOn := false, alarms := [], bootStage := 0 }
  (((s2.setReg A.CRY_OTPSTAT (s.reg A.CRY_OTPSTAT)).setReg A.AON_DIOIN s.dioExt).wr F.SYS_MODE_MODE 0).setReg
    A.AON_PWRSTAT 0

/-- MAINS_LOST_OFF (R74): mains is lost beyond the hold-up, the housekeeping supply fails. -/
def execMainsLostOff (s : State) : Result :=
  if s.mainsOn then ok { s.powerOff with mainsOn := false, offHold := s.offHold, bootAt := s.now } else ok s

end Sys2Proof.Machine
end

