-- ==== Sys2Proof/Machine/Catalogue.lean ====
section
/-! DEFINITION. The field catalogue of the boot ROM (R89, R635) and the processing of a configuration copy (R86-R94, R101). -/
namespace Sys2Proof.Machine

/-- A field of the catalogue: its place, block number (R87), FIELD number, register, bits, instances and range. -/
structure CatField where
  ix : Nat
  block : Nat
  field : Nat
  saf : Bool
  signed : Bool
  first : Nat
  last : Nat
  lo : Nat
  w : Nat
  addr : Nat
  stride : Nat
  mn : Int
  mx : Int
  dflt : Nat
  deriving DecidableEq, Repr

/-- Offsets of the inner instances of a register: those that are separate fields, not instances of one. -/
def innerOffsets : List (Nat × Nat) → List Nat
  | [] => [0]
  | (st, cnt) :: r => (List.range cnt).flatMap (fun i => (innerOffsets r).map (fun o => st * i + o))

/-- The number of a row's first instance: comparator channels are numbered through their three groups (R204). -/
def rowFirst (base : Nat) : Nat := if 0x08060100 ≤ base ∧ base < 0x08070000 then (base - 0x08060100) / 32 else 0

/-- The catalogue fields of one register row, FIELD numbers still to be given. -/
def rowCatalogue (block : Nat) (r : RegRow) : List CatField :=
  let outer := r.dims.headD (0, 1)
  (innerOffsets r.dims.tail).flatMap (fun o =>
    (r.fields.filter (fun f => f.cfg)).map (fun f =>
      let rg := f.range.getD (0, 0)
      { ix := 0, block, field := 0, saf := block == 0x40 || f.acc == .sp, signed := f.signed, first := rowFirst r.base,
        last := rowFirst r.base + outer.2 - 1, lo := f.lo, w := f.w, addr := r.base + o, stride := outer.1,
        mn := rg.1, mx := rg.2, dflt := f.reset }))

/-- The block numbers of R87 with a register map. -/
def catBlocks : List Nat := [2, 3, 4, 5, 6, 7, 9, 10, 11, 12, 13, 14, 15, 16, 17, 18, 19, 0x40]

/-- The first address of a block (R87). -/
def catBase (block : Nat) : Nat := if block = 0x40 then 0x0C000000 else 0x08000000 + 0x10000 * block

/-- The module settings without a register (R353, R526). -/
def settingFields : List CatField :=
  let s (field last mx dflt : Nat) : CatField :=
    { ix := 0, block := 0x80, field, saf := false, signed := false, first := 0, last, lo := 0, w := 48, addr := 0, stride := 0,
      mn := 0, mx, dflt }
  [s 1 3 1 0, s 0x10 0 0x3F 0x3F, s 0x11 0 0x3F 0x3F, s 0x12 0 0x3F 0x3F, s 0x13 0 0x3F 0x3F]

/-- What makes two entries the same field: the block, the register and the bits; the three groups of comparator channels (R204)
have the same registers. -/
def CatField.ident (f : CatField) : Nat × Nat × Nat :=
  (f.block, if 0x08060100 ≤ f.addr ∧ f.addr < 0x08070000 then f.addr % 32 else f.addr, f.lo)

/-- The first number from `n` on that `used` does not hold. -/
def firstFree (used : List Nat) : Nat → Nat → Nat
  | 0, n => n
  | k + 1, n => if used.contains n then firstFree used k ((n + 1) % 65536) else n

/-- The FIELD number of a field, after those of `given`: EVR_LOOPLIM has 0x0010, every other field of a block another one (R89). -/
def fieldNumberOf (given : List ((Nat × Nat × Nat) × Nat)) (f : CatField) : Nat :=
  match given.find? (fun p => p.1 == f.ident) with
  | some p => p.2
  | none =>
    if f.addr = A.EVR_LOOPLIM then 0x10
    else
      let used := (if f.block = 10 then [0x10] else []) ++ (given.filter (fun p => p.1.1 == f.block)).map (fun p => p.2)
      firstFree used (used.length + 1) (Config.fieldNumber f.ix % 65536)

/-- The fields with their FIELD numbers. -/
def giveNumbers (given : List ((Nat × Nat × Nat) × Nat)) : List CatField → List CatField
  | [] => []
  | f :: t =>
    let n := fieldNumberOf given f
    { f with field := n } :: giveNumbers ((f.ident, n) :: given) t

/-- The register fields of the catalogue with their places and FIELD numbers (R89). Log entry 28 (DESIGN CHOICE). -/
def registerFields : List CatField :=
  giveNumbers [] ((catBlocks.flatMap (fun b => (blockRows (catBase b)).flatMap (rowCatalogue b))).mapIdx (fun i f => { f with ix := i }))

/-- Whether `y` goes on where `x` ends with the same values: then one entry covers both runs (R635). -/
def CatField.joins (x y : CatField) : Bool :=
  x.block == y.block && x.field == y.field && x.last + 1 == y.first && x.addr + x.stride * (y.first - x.first) == y.addr
    && x.stride == y.stride && x.mn == y.mn && x.mx == y.mx && x.dflt == y.dflt

/-- The entries with the runs of equal values joined. -/
def joinRuns : List CatField → List CatField
  | [] => []
  | x :: t =>
    match joinRuns t with
    | [] => [x]
    | y :: r => if x.joins y then { x with last := y.last } :: r else x :: y :: r

/-- Catalogue order: BLOCK, FIELD, first instance (R635). -/
def catLe (x y : CatField) : Bool :=
  if x.block != y.block then decide (x.block < y.block)
  else if x.field != y.field then decide (x.field < y.field)
  else decide (x.first ≤ y.first)

/-- The catalogue in its order (R635). Log entry 28 (DESIGN CHOICE). -/
def catalogue : List CatField := joinRuns (sortBy catLe 32 (registerFields ++ settingFields))

/-- The revision letter of this module: C (R3, R4). Log entry 138 (DESIGN CHOICE). -/
def hwRev : Nat := 0x43

/-- The 48-bit form of a limit. -/
def catWord (v : Int) : List Byte := leBytes 6 (wordOf v).toNat

/-- The 32 bytes of a catalogue entry (R635). -/
def catEntry (f : CatField) : List Byte :=
  leBytes 1 f.block ++ leBytes 1 ((if f.signed then 1 else 0) + (if f.saf then 2 else 0)) ++ leBytes 2 f.field
    ++ leBytes 1 f.first ++ leBytes 1 f.last ++ leBytes 1 f.lo ++ leBytes 1 f.w
    ++ leBytes 2 (if f.block = 0x80 then 0xFFFF else f.addr - catBase f.block) ++ leBytes 2 f.stride
    ++ catWord f.mn ++ catWord f.mx ++ leBytes 6 f.dflt ++ [0, 0]

/-- The bytes of the catalogue with its header (R635). -/
def catBytes : List Byte :=
  let l := catalogue.flatMap catEntry
  [0x43, 0x41, 0x54, 0x4C] ++ leBytes 2 1 ++ leBytes 2 catalogue.length ++ [BitVec.ofNat 8 hwRev, 0, 0, 0] ++ leBytes 4 (crc32 l) ++ l

/-- A byte of the boot ROM (R35, R635): the catalogue from 0x0001_0000, code below. -/
def romByte (a : Nat) : Byte :=
  if a < 0x10000 then Config.romCode a else (catBytes[a - 0x10000]?).getD (Config.romCode a)

/-! ### Configuration copies -/

/-- The first address of configuration copy `k` (R455). -/
def copyBase (k : Nat) : Nat := sectorBase k 2

/-- How a copy is classified (R90). -/
inductive CopyClass where
  | absent | halfWritten | corrupt | valid
  deriving DecidableEq, Repr

/-- The sequence number of a copy. -/
def State.copySeq (s : State) (k : Nat) : Nat := s.load (copyBase k + 8) 4

/-- The record count that the trailer of a copy gives, if a trailer is found (R90). -/
def State.copyCount (s : State) (k : Nat) : Option Nat :=
  let b := copyBase k + 16
  let trailer (i : Nat) : Bool :=
    s.bytes (b + 16 * i + 4) 4 == [0x54, 0x45, 0x4E, 0x44] && s.load (b + 16 * i) 4 == i
  let blank (i : Nat) : Bool := (s.bytes (b + 16 * i) 16).all (fun x => x == 0xFF)
  match (List.range 1023).find? (fun i => trailer i || blank i) with
  | some i => if trailer i then some i else none
  | none => none

/-- The SHA-256 of the records of a copy with `n` of them (R86). -/
def State.copyDigest (s : State) (k n : Nat) : List Byte := sha256 (s.bytes (copyBase k + 16) (16 * n))

/-- Whether the signature of a copy with `n` records is present and verifies against a usable owner key (R86, R90). -/
def State.copySigned (s : State) (k n : Nat) : Bool :=
  let b := copyBase k
  let d := sha256 (s.bytes b (64 + 16 * n))
  s.load (b + 6) 2 == 1 && (List.range 4).any (fun j => s.keyUsable j
    && Config.ecdsaVerify (s.ownerKey j) d (s.bytes (b + 64 + 16 * n) 64))

/-- The class of a copy (R90). -/
def State.copyClass (s : State) (k : Nat) : CopyClass :=
  let b := copyBase k
  if s.load (b + 12) 4 != crc32 (s.bytes b 12) || s.copySeq k == 0xFFFFFFFF || s.bytes b 4 != [0x43, 0x46, 0x47, 0x54] then
    .absent
  else if s.load (b + 4) 2 != 1 || decide (2 ≤ s.load (b + 6) 2) then .corrupt
  else
    match s.copyCount k with
    | none => .halfWritten
    | some n =>
      if s.bytes (b + 16 + 16 * n + 8) 32 != s.copyDigest k n then .corrupt
      else if s.bit F.CRY_OTPSTAT_CFGSIG && !s.copySigned k n then .corrupt
      else .valid

/-- The copy that is used, if any (R91). -/
def State.copyUsed (s : State) : Option Nat :=
  let v (k : Nat) : Bool := s.copyClass k == .valid
  if v 0 && v 1 then (if s.copySeq 0 < s.copySeq 1 then some 1 else some 0)
  else if v 0 then some 0
  else if v 1 then some 1
  else none

/-- The flags of CFGRPT_STATUS that the choice of the copy sets: bit 0 HALF_WRITTEN, bit 1 CORRUPT, bit 2 SEQ_EQUAL (R91). -/
def State.copyFlags (s : State) : Nat :=
  let hi := if s.copySeq 0 < s.copySeq 1 then 1 else 0
  match s.copyClass hi, s.copyClass (1 - hi) with
  | .halfWritten, .valid => 1
  | .corrupt, .valid => 2
  | .valid, .valid => if s.copySeq 0 = s.copySeq 1 then 4 else 0
  | _, _ => 0

/-! ### Records -/

/-- A report entry: record number, outcome, DUP, instance, field, block (R101). -/
structure RptEntry where
  recno : Nat
  outcome : Nat
  dup : Bool
  inst : Nat
  field : Nat
  block : Nat
  deriving DecidableEq, Repr

/-- The word of a report entry (R101). -/
def RptEntry.word (e : RptEntry) : Word :=
  BitVec.ofNat 48 (e.recno + 2 ^ 12 * e.outcome + (if e.dup then 2 ^ 15 else 0) + 2 ^ 16 * e.inst + 2 ^ 24 * e.field
    + 2 ^ 40 * e.block)

/-- The catalogue field that a key names (R92). -/
def catFind (block field inst : Nat) : Option CatField :=
  catalogue.find? (fun f => f.block == block && f.field == field && decide (f.first ≤ inst) && decide (inst ≤ f.last))

/-- A value for the field at address `a` without the bits that its map reserves inside it: bit 11 of TMR_Tn_IEN (R18). -/
def sansReserved (a : Nat) (v : Int) : Int :=
  if a / 0x10000 = 0x803 ∧ 0x08030400 ≤ a ∧ a % 0x80 = 0x60 ∧ v.toNat.testBit 11 then v - 2048 else v

/-- A value written to a catalogue field, in both Caldera banks of a banked register (R242), or to a module setting.
Log entry 29 (DEDUCED). -/
def State.catWrite (s : State) (f : CatField) (inst : Nat) (v : Int) : State :=
  if f.block = 0x80 then { s with settings := Tab.put s.settings (256 * f.field + inst) v.toNat }
  else
    let a := f.addr + f.stride * (inst - f.first)
    let s1 := s.wrI ⟨a, f.lo, f.w⟩ (sansReserved a v)
    if f.block = 7 ∧ 0x08071000 ≤ a ∧ 0x100 ≤ a % 0x400 ∧ a % 0x400 < 0x278 then s1.wrI ⟨a + bankKey, f.lo, f.w⟩ v else s1

/-- The limits that apply to an instance of a field, or nothing where Zenou-S refuses it (R92, R93).
Log entry 28 (DESIGN CHOICE). -/
def catLimits (params : List Byte) (f : CatField) (inst : Nat) : Option (Int × Int) :=
  if f.saf then Config.safetyLimits params f.ix inst else some (f.mn, f.mx)

/-- One record at `u`: its report entry without DUP, the field instance it names, and its effect (R92-R94). -/
def State.cfgRecord (s : State) (params : List Byte) (u recno : Nat) : RptEntry × Bool × State :=
  let inst := s.load u 1
  let field := s.load (u + 1) 2
  let block := s.load (u + 3) 1
  let raw := s.load (u + 4) 6
  let e (o : Nat) : RptEntry := { recno, outcome := o, dup := false, inst, field, block }
  if s.load (u + 12) 4 != crc32 (s.bytes u 12) || s.load (u + 10) 2 != 0 then (e 5, false, s)
  else
    match catFind block field inst with
    | none => (e 4, false, s)
    | some f =>
      match catLimits params f inst with
      | none => (e 6, true, s)
      | some (mn, mx) =>
        let v : Int := if f.signed then signed48 raw else raw
        if v < mn then (e 1, true, s.catWrite f inst mn)
        else if mx < v then (e 2, true, s.catWrite f inst mx)
        else (e 0, true, s.catWrite f inst v)

/-- The records of a copy in order (R92): the entries, each with whether it names a field instance. -/
def State.cfgRecords (s : State) (params : List Byte) (k n : Nat) : List (RptEntry × Bool) × State :=
  (List.range n).foldl (fun (acc : List (RptEntry × Bool) × State) i =>
    let r := acc.2.cfgRecord params (copyBase k + 16 + 16 * i) i
    (acc.1 ++ [(r.1, r.2.1)], r.2.2)) ([], s)

/-- Whether two entries name the same key. -/
def sameKey (x y : RptEntry) : Bool := x.block == y.block && x.field == y.field && x.inst == y.inst

/-- The entries with their DUP bits (R94). -/
def markDups : List (RptEntry × Bool) → List (RptEntry × Bool)
  | [] => []
  | (e, named) :: t => ({ e with dup := named && t.any (fun x => x.2 && sameKey x.1 e) }, named) :: markDups t

/-- The DEFAULT entries: one per field instance that no record named, in catalogue order (R92). -/
def defaultEntries (l : List (RptEntry × Bool)) : List RptEntry :=
  catalogue.flatMap (fun f => (List.range (f.last - f.first + 1)).flatMap (fun i =>
    let e : RptEntry := { recno := 0x3FF, outcome := 3, dup := false, inst := f.first + i, field := f.field, block := f.block }
    if l.any (fun x => x.2 && sameKey x.1 e) then [] else [e]))

/-- The number of entries of an outcome, saturating (R101). -/
def rptCount (l : List RptEntry) (p : RptEntry → Bool) : Nat := min 4095 (l.filter p).length

/-- The report registers (R101). -/
def State.report (s : State) (l : List RptEntry) : State :=
  let kept := l.take 4096
  let s1 := kept.zipIdx.foldl (fun s (e, i) => s.setReg (0x08010100 + 8 * i) e.word) s
  let c (o : Nat) : Nat := rptCount l (fun e => e.outcome == o)
  let clamp := rptCount l (fun e => e.outcome == 1 || e.outcome == 2)
  let s2 := s1.setReg A.CFGRPT_COUNT1 (BitVec.ofNat 48 (c 0 + 2 ^ 12 * clamp + 2 ^ 24 * c 3 + 2 ^ 36 * c 4))
  let s3 := s2.setReg A.CFGRPT_COUNT2 (BitVec.ofNat 48 (c 5 + 2 ^ 12 * c 6 + 2 ^ 24 * rptCount l (fun e => e.dup)))
  ((s3.wrb F.CFGRPT_STATUS_TRUNC (decide (4096 < l.length))).wr F.CFGRPT_STATUS_NENTRY kept.length).on F.CFGRPT_STATUS_DONE

/-! ### The settings of the safety parameter block (R533, R534) -/

/-- The SP registers that hold settings of the safety partition: thresholds, comparator settings and routes, ramp decelerations,
and those of the safety region. -/
def safetyRegs : List Nat :=
  (((blockRows 0x08060000) ++ (blockRows 0x08070000) ++ (blockRows 0x0C000000)).filter (fun r =>
      decide (r.base < 0x0C001000) && r.base != A.SAF_VIOL && r.base != A.SAF_NOTE && r.fields.any (fun f => f.acc == .sp))).flatMap
    (fun r => (innerOffsets r.dims).map (fun o => r.base + o))

/-- The settings enter their registers, each inside its field's range; SAF_STOCTL.DECLARE is no setting.
Log entry 128 (DESIGN CHOICE). -/
def State.safetySettings (s : State) (params : List Byte) : State :=
  safetyRegs.foldl (fun s a =>
    let fs := (fieldsAt a).filter (fun f => f.acc == .sp && !(a == A.SAF_STOCTL && f.lo == 1))
    s.setReg a (rowWrite true fs (s.reg a) (Config.safetySetting params a))) s

/-- The configuration is chosen, checked, applied and reported (R90-R94, R101).
Log entries 28 (DESIGN CHOICE), 128 (DESIGN CHOICE). -/
def State.configure (s00 : State) (params : List Byte) : State :=
  let s := s00.safetySettings params
  let fl := s.copyFlags
  let s0 := ((s.wrb F.CFGRPT_STATUS_HALF_WRITTEN (fl == 1)).wrb F.CFGRPT_STATUS_CORRUPT (fl == 2)).wrb F.CFGRPT_STATUS_SEQ_EQUAL
    (fl == 4)
  let s1 := s0.wrb F.CFGRPT_STATUS_SIGNED (s.bit F.CRY_OTPSTAT_CFGSIG)
  match s.copyUsed with
  | none => (s1.wr F.CFGRPT_STATUS_COPY 3).report (defaultEntries [])
  | some k =>
    let n := (s.copyCount k).getD 0
    let r := s1.cfgRecords params k n
    let l := markDups r.1
    let s2 := (r.2.wr F.CFGRPT_STATUS_COPY k).wrb F.CFGRPT_STATUS_SIG_OK (s.copySigned k n)
    let s3 := (s2.wr F.CFGRPT_SEQ_SEQ (s.copySeq k)).digestWrite (A.CFGRPT_DIGEST 0) (s.copyDigest k n)
    s3.report (l.map (fun x => x.1) ++ defaultEntries l)

end Sys2Proof.Machine
end

