-- ==== Sys2Proof/Machine/Boot.lean ====
section
/-! DEFINITION. The rows of BOOT (R81-R83, R98): each row of the table, done when the rows before it are done. -/
namespace Sys2Proof.Machine

/-- Row `n` of R81 is done, and the next one, `e`, is due `t` cycles on. Log entry 24 (DEDUCED). -/
def State.bootNext (s : State) (n t : Nat) (e : Instr) : State := { s with bootStage := n }.after t e

/-- Whether BOOT has come to row `n` and no further. -/
def State.bootAtRow (s : State) (n : Nat) : Bool := s.mode == .boot && s.bootStage == n

/-- BOOT_CLOCK_LOCK (R81): crystal and clocks lock, the boot ROM runs. -/
def execBootClockLock (s0 : State) : Result :=
  let s := s0.cancel .bootClockLock
  ok (if s0.bootAtRow 1 then s.bootNext 2 (ms 2) .bootJournalScan else s)

/-- The sectors whose newest journal record opens an erase (R469), in the order of their addresses. Log entry 79 (DEDUCED). -/
def State.halfErased (s : State) : List (Nat × Nat) :=
  let l := s.journalRecords
  let of (b x : Nat) := l.filter (fun (r : Nat × Nat × Nat × Nat) => r.2.2.1 == b && r.2.2.2 == x)
  let open' (b x : Nat) : Bool :=
    let m := (of b x).foldl (fun (m : Nat × Nat) (r : Nat × Nat × Nat × Nat) => if m.1 ≤ r.1 then (r.1, r.2.1) else m) (0, 0)
    m.2 == 1 || m.2 == 3
  let names := (l.map (fun (r : Nat × Nat × Nat × Nat) => (r.2.2.1, r.2.2.2))).eraseDups
  sortBy (fun (a b : Nat × Nat) => decide (a.1 < b.1 ∨ (a.1 = b.1 ∧ a.2 ≤ b.2))) 32 (names.filter (fun n => open' n.1 n.2))

/-- FLC_RECOVERY and HALF_ERASED name the sectors that wait for their re-erase (R469, R470). -/
def State.recoverySet (s : State) : State :=
  let l := s.halfErased
  match l with
  | [] => s
  | (b, x) :: _ =>
    let s1 := (({ s with flcHalf := l }.wr F.FLC_RECOVERY_STATE 1).wr F.FLC_RECOVERY_BANK b).wr F.FLC_RECOVERY_SECTOR x
    let s2 := s1.wrb F.FLC_RECOVERY_JOURNAL (b == 0 && decide (x < 2))
    let inv := l.any (fun n => decide (8 ≤ n.2 ∧ n.2 < 56))
    (s2.wrb F.FLC_RECOVERY_SLOTINV inv).on F.SYS_BOOTSTAT_HALF_ERASED

/-- First byte of the logic BIST records, bank 0 P5 (R592). -/
def lbistBase : Nat := sectorBase 0 5

/-- The valid logic BIST records: sequence number and result bits (R592, R593). -/
def State.lbistRecords (s : State) : List (Nat × Nat) :=
  (List.range (s.unitsUsed lbistBase)).flatMap (fun i =>
    let u := lbistBase + 32 * i
    if s.bytes u 4 == [0x4C, 0x42, 0x53, 0x54] && s.unitCrc u then [(s.load (u + 4) 4, s.load (u + 8) 1)] else [])

/-- SYS_LBIST shows the newest record (R98, R593). -/
def State.lbistShow (s : State) : State :=
  match s.lbistRecords with
  | [] => s.setReg A.SYS_LBIST 0
  | r :: t =>
    let m := t.foldl (fun (m : Nat × Nat) x => if m.1 ≤ x.1 then x else m) r
    ((s.on F.SYS_LBIST_VALID).wrb F.SYS_LBIST_APP_PASS (m.2.testBit 0)).wrb F.SYS_LBIST_SAF_PASS (m.2.testBit 1)

/-- BOOT_JOURNAL_SCAN (R81, R469, R577, R593): the ROM reads the journal, the commit records and the BIST records. -/
def execBootJournalScan (s0 : State) : Result :=
  let s := s0.cancel .bootJournalScan
  ok (if s0.bootAtRow 2 then
    ((s.stoSample.recoverySet.journalSync).commitSync.lbistShow).bootNext 3 (ms 3) .bootSafetyImage else s)

/-- CRY_BOOTINFO.VALID: which of the four image slots are valid (R577). -/
def State.imagesValid (s : State) : Nat :=
  (List.range 4).foldl (fun v k => natBit v k (s.imageValid (decide (2 ≤ k)) (k % 2))) 0

/-- Zenou-S starts at its reset vector with its watchdog (R81, R549). -/
def State.safetyStart (s : State) : State :=
  (s.setCore 4 { Core.init with run := .running, pc := BitVec.ofNat 48 (isramBase 4), released := true }).mwdtStart

/-- The hold of R83: no Zenou-S image is valid.  What needs no image goes on: flash, the PFC, DRAM, fabric management, the
calibration of the converters. Log entry 25 (DEDUCED). -/
def State.bootHold (s : State) : State :=
  let s1 := (s.on F.SYS_BOOTSTAT_HOLD).on F.SYS_BOOTSTAT_SAF_IMG_BAD
  (((s1.setReady 1 true).after (ms 44) .bootDramInit).flcKick)

/-- BOOT_SAFETY_IMAGE (R81, R83, R562-R566): the Zenou-S image is selected, verified and loaded. -/
def execBootSafetyImage (s0 : State) : Result :=
  let s := s0.cancel .bootSafetyImage
  if !s0.bootAtRow 3 then ok s
  else
    let s1 := { s.wr F.CRY_BOOTINFO_VALID s.imagesValid with bootStage := 4 }
    match s1.selectSlot false with
    | none => ok s1.bootHold
    | some (b, nc) =>
      let base := slotBase false b
      let s2 := ((if nc then (s1.romCommit false b).commitSync else s1).wrb F.CRY_BOOTINFO_SAF_NOCOMMIT nc).wr F.SYS_BOOTSTAT_SAF_SLOT b
      let s3 := (s2.wr F.CRY_SAFVER_VER (s2.load (base + 8) 4)).wr F.CRY_BOOTINFO_SAF_KEY (s2.load (base + 20) 1)
      let s4 := ((s3.digestWrite (A.CRY_SAFDIG 0) (s3.imageDigest base)).loadImage false b).safetyStart
      let s5 := (s4.setReady 0 true).setReady 1 true
      ok (if s5.auxOn then s5.bootNext 5 (ms 7) .bootConfigRead else s5)

/-- BOOT_PFC_START (R81, R328, R342): the PFC starts; bulk voltage and baseplate temperature are measured from now on.
Log entry 24 (DEDUCED). -/
def execBootPfcStart (bulk tb : Word) (s : State) : Result :=
  if s.mode != .boot || !(s.bootStage == 4 || s.bit F.SYS_BOOTSTAT_HOLD) || s.auxOn then ok s
  else
    let s1 := { s with auxOn := true, auxAt := s.now, bulkOk := decide ((280 : Int) * 2 ^ 24 ≤ signed48 bulk.toNat) }
    let s2 := (((s1.setReg A.PWR_VBULK bulk).baseplate (signed48 tb.toNat) true).pwrFlag 0).after (ms 12) .mainsLoss
    ok (if s2.bit F.SYS_BOOTSTAT_HOLD then s2 else s2.bootNext 5 (ms 7) .bootConfigRead)

/-- The parameter block of the Zenou-S image in use (R534, R562). Log entry 128 (DESIGN CHOICE). -/
def State.safetyParams (s : State) : List Byte :=
  let b := slotBase false (s.rd F.SYS_BOOTSTAT_SAF_SLOT)
  match (s.imageSections b).find? (fun x => x.kind == 1) with
  | some x => s.bytes (b + x.ofs) x.len
  | none => []

/-- The memory mode of each Zenou-A core (R353). -/
def State.memoryModes (s : State) : State :=
  s.upto 4 (fun n s => s.setSreg n 5 (setBits (s.sreg n 5) 3 1 (Tab.get 0 s.settings (256 + n))))

/-- The flags that follow the settings, whichever way these came: CMP_RANGE (R119), OFS_ERR (R138), LS_ERR (R148), COG_UNTR and
FR_UNTR (R253); and the angle from which mode 4 starts (R211). -/
def State.followSettings (s : State) : State :=
  let s1 := s.upto 16 (fun t s => s.cmpRange t)
  let s2 := s1.upto 6 (fun q s =>
    s.quadCheck q (F.PWM_Q_STATUS_OFS_ERR q) (decide (2 * s.rd (F.PWM_Q_PERIOD_PEAK q) ≤ s.rd (F.PWM_Q_PHASE_OFS q))))
  s2.upto 24 (fun a s =>
    let s1 := if s.lsMixed a then s.pwmFlag a (F.PWM_AX_STATUS_LS_ERR a) else s.off0 (F.PWM_AX_STATUS_LS_ERR a)
    (s1.untrained a).thetaInit a)

/-- What CMP replaces in an image's settings of comparator `n` (R188, R194, R196): a pair with LO at or above HI and an EXT BSRC
with bits 0-2 by the catalogue defaults, with THR_ERR and CFG_ERR; SAMP counts on EXT channels only. -/
def State.compImage (s : State) (n : Nat) : State :=
  let s1 := if s.rd (F.CMP_CH_THR_LO n) < s.rd (F.CMP_CH_THR_HI n) then s
    else (s.setReg (A.CMP_CH_THR n) (rowReset (fieldsAt (A.CMP_CH_THR n)))).compFlags n [5]
  let f := F.CMP_CH_CFG_BSRC n
  let s2 := if 54 ≤ n ∧ s1.rd f % 8 ≠ 0 then
      (s1.wr f (getBits (rowReset (fieldsAt (A.CMP_CH_CFG n))) f.lo f.w)).compFlags n [7]
    else s1
  if n < 54 then s2.wr (F.CMP_CH_CFG_SAMP n) 0 else s2

/-- What the blocks check as they start in BOOT with the image's settings. -/
def State.configChecks (s : State) : State := (s.upto 58 (fun n s => s.compImage n)).followSettings

/-- BOOT_CONFIG_READ (R81, R89-R94, R353). Log entry 26 (DEDUCED). -/
def execBootConfigRead (s0 : State) : Result :=
  let s := s0.cancel .bootConfigRead
  ok (if s0.bootAtRow 5 then
    (((s.configure s.safetyParams).memoryModes.configChecks.setReady 2 true).fbStartAll.stoLook).bootNext 6 (ms 1) .bootTickStart else s)

/-- BOOT_TICK_START (R81, R105). -/
def execBootTickStart (s0 : State) : Result :=
  let s := s0.cancel .bootTickStart
  ok (if s0.bootAtRow 6 then ((s.tickStart true).setReady 3 true).bootNext 7 (ms 4) .bootAppImage else s)

/-- BOOT_APP_IMAGE (R81, R83, R470, R562-R566): the application image is selected, verified and copied. -/
def execBootAppImage (s0 : State) : Result :=
  let s := s0.cancel .bootAppImage
  if !s0.bootAtRow 7 then ok s
  else
    let s1 := s.bootNext 8 (ms 31) .bootDramInit
    match s1.selectSlot true with
    | none => ok (s1.on F.SYS_BOOTSTAT_APP_IMG_BAD).flcKick
    | some (b, nc) =>
      let base := slotBase true b
      let s2 := ((if nc then (s1.romCommit true b).commitSync else s1).wrb F.CRY_BOOTINFO_APP_NOCOMMIT nc).wr F.SYS_BOOTSTAT_APP_SLOT b
      let s3 := (s2.wr F.CRY_APPVER_VER (s2.load (base + 8) 4)).wr F.CRY_BOOTINFO_APP_KEY (s2.load (base + 20) 1)
      ok ((s3.digestWrite (A.CRY_APPDIG 0) (s3.imageDigest base)).loadImage true b).flcKick

/-- Whether an address lies in DRAM. -/
def inDram (a : Nat) : Bool := decide (0x20000000 ≤ a) && decide (a < 0x40000000)

/-- DRAM is ready: its refresh runs (R439). -/
def State.dramReady (s : State) : State := ((s.setReady 4 true).wr F.AON_PWRSTAT_DRAM 2).after (nsCycles 3900) .dramRefresh

/-- BOOT_DRAM_INIT (R81, R435): the DRAM reads 0; also in the hold of R83. Log entry 25 (DEDUCED). -/
def execBootDramInit (s0 : State) : Result :=
  let s := s0.cancel .bootDramInit
  let out (a : Nat) : Bool := !inDram a
  let z : State := { s with
    mem := s.mem.filter (fun p => out p.1)
    eccSoft := s.eccSoft.filter out
    eccHard := s.eccHard.filter out }
  if s0.bootAtRow 8 then ok (z.dramReady.bootNext 9 (ms 140) .adcCalibrationStart)
  else if s0.bootAtRow 4 && s0.bit F.SYS_BOOTSTAT_HOLD then ok (z.dramReady.bootNext 9 (ms 140) .adcCalibrationStart)
  else ok s

/-- The calibration record (R457). -/
def calBase : Nat := sectorBase 0 4

/-- Whether the calibration record has its magic and its CRC. -/
def State.calGood (s : State) : Bool :=
  s.bytes calBase 4 == [0x43, 0x41, 0x4C, 0x31] && s.load (calBase + 8) 4 == crc32 (s.bytes (calBase + 32) 144)
    && !(List.range 6).any (fun k => s.hardAt (calBase + 32 * k))

/-- Whether a stored gain trim is in its range (R457). -/
def trimGood (t : Nat) : Bool := decide (0x39999A ≤ t) && decide (t ≤ 0x466666)

/-- The gain trims of axis `a` (R173, R457). -/
def State.trimLoad (s : State) (a : Nat) : State :=
  let x := s.load (calBase + 32 + 6 * a) 6
  let u := x % 2 ^ 24
  let v := x / 2 ^ 24
  let good := s.calGood
  let uk := good && trimGood u
  let vk := good && trimGood v
  let s1 := (s.wr (F.ADC_AX_GAIN_GAINU a) (if uk then u else 0x400000)).wr (F.ADC_AX_GAIN_GAINV a) (if vk then v else 0x400000)
  if uk && vk then s1 else (s1.on (F.ADC_AX_FLAG_TRIM_MISSING a)).on F.ADC_STATUS_TRIM_MISSING

/-- ADC_CALIBRATION_START (R81, R172, R173, R183): the references have settled. -/
def execAdcCalibrationStart (s0 : State) : Result :=
  let s := s0.cancel .adcCalibrationStart
  ok (if s0.bootAtRow 9 then
    { (s.upto 24 (fun a s => s.trimLoad a)).on F.ADC_STATUS_CALBUSY with bootStage := 11, calAt := s.now } else s)

/-- ADC_CALIBRATION_DONE (R81, R172, R174): the mean codes of the 54 converters in sixteenths, then the 48 measured gains.  The
calibration lasts exactly 120 ms: codes that come sooner are those of its end.  In the hold of R83 no core is released.
Log entries 24 (DEDUCED), 46 (DESIGN CHOICE). -/
def execAdcCalibrationDone (codes : List Nat) (s0 : State) : Result :=
  let s := s0.cancel (.adcCalibrationDone codes)
  ok (if !s.bootAtRow 11 then s
    else if s.now < s.calAt + ms 120 then s.after (s.calAt + ms 120 - s.now) (.adcCalibrationDone codes)
    else
      let s1 := (((s.calApply codes).gainCheck codes).setReady 7 true).off0 F.ADC_STATUS_CALBUSY
      if s1.bit F.SYS_BOOTSTAT_HOLD then { s1 with bootStage := 12 } else s1.bootNext 12 (ms 5) .bootCoreRelease)

/-- The time since `t` in milliseconds, within a field of 10 bits. -/
def State.bootMs (s : State) : Nat := min 1023 ((s.now - s.bootAt) / 750000)

/-- Every Zenou-A core starts, unless no application image is valid (R83) or its HOLD bit holds it in reset (R97). -/
def State.appStart (s : State) : State :=
  if s.bit F.SYS_BOOTSTAT_APP_IMG_BAD then s
  else s.upto 4 (fun c s =>
    let s1 := s.setCore c { s.core c with pc := BitVec.ofNat 48 (isramBase c), released := true }
    if s1.bitAt F.SYS_CORERST_HOLD c || s1.due (coreEvent c) then s1 else s1.coreGo c)

/-- BOOT_CORE_RELEASE (R74, R81): the end of BOOT. Log entry 26 (DEDUCED). -/
def execBootCoreRelease (s0 : State) : Result :=
  let s := s0.cancel .bootCoreRelease
  ok (if s0.bootAtRow 12 && !s0.bit F.SYS_BOOTSTAT_HOLD then
    ({ (s.wr F.SYS_BOOTSTAT_BOOT_MS s.bootMs).setMode .standby with bootStage := 13 }.appStart).stoSample.stoLook.isoLook.dioFollowAll
   else s)

end Sys2Proof.Machine
end

