-- ==== Sys2Proof/Machine/FabOps.lean ====
section
/-! DEFINITION. FAB (R478-R532) as far as it needs no access to other blocks: flags, ports, node states, routes, frames that the
module sends, the cycle tick and its window, sessions, and the register writes of the block. -/
namespace Sys2Proof.Machine

/-! ### Flags -/

/-- FAB_STATUS bit `k` rises (R506). -/
def State.fabFlag (s : State) (k : Nat) : State := s.rise ⟨A.FAB_STATUS, k, 1⟩ F.FAB_IEN_IEN k 105

/-- FAB_CYC_STAT bit `k` rises (R531). -/
def State.cycFlag (s : State) (k : Nat) : State :=
  if k < 6 then s.rise ⟨A.FAB_CYC_STAT, k, 1⟩ F.FAB_CYC_IEN_IEN k 101 else s.on ⟨A.FAB_CYC_STAT, k, 1⟩

/-- Whether FAB is powered and clocked (R505). -/
def State.fabLive (s : State) : Bool := !s.modeIn [.off, .dormant] && !(s.mode == .shutdown && s.bistRunning)

/-- Working state of port `p`. -/
def State.fport (s : State) (p : Nat) : FabPort := Tab.get FabPort.init s.fabPorts p

/-- `s` with port `p` replaced. -/
def State.setFport (s : State) (p : Nat) (x : FabPort) : State := { s with fabPorts := Tab.set FabPort.init s.fabPorts p x }

/-- Whether port `p` is UP. -/
def State.portIsUp (s : State) (p : Nat) : Bool := s.bit (F.FAB_P_STAT_UP p)

/-- The value of a CYC or TIME field in force until the next cycle tick (R530). -/
def State.cycIn (s : State) (f : Fld) : Nat :=
  match Tab.find s.heldCyc f.addr with
  | some v => getBits v f.lo f.w
  | none => s.rd f

/-- Whether this module is the time master (R520): the setting in force. -/
def State.isMaster (s : State) : Bool := s.cycIn F.FAB_TIME_CTL_MASTER == 1

/-- The module's identity (R506). Log entry 96 (DEDUCED). -/
def identBytes : List Byte := beBytes 6 Config.serial.toNat

/-- FAB_MAC: a locally administered address (R506). -/
def fabMac : Word := (Config.localMac ||| 0x020000000000) &&& ~~~(0x010000000000 : Word)

/-- The address of port `p`: P1 inverts bit 0 of the last byte (R506). Log entry 90 (DEDUCED). -/
def portMac (p : Nat) : List Byte := beBytes 6 (if p = 0 then fabMac else fabMac ^^^ 1).toNat

/-! ### FABC and TIME_VALID -/

/-- Whether the cyclic service can run: an ID and fabric time (R85). Log entry 86 (DEDUCED). -/
def State.fabcWanted (s : State) : Bool := s.bit F.FAB_NODE_VALID && s.bit F.FAB_TIME_STAT_TIME_VALID

/-- SYS_READY.FABC and FAB_CYC_STAT.ACTIVE follow their conditions (R85, R516, R523). Log entry 86 (DEDUCED). -/
def State.fabcLook (s : State) : State :=
  let s1 := s.setReady 6 s.fabcWanted
  s1.wrb F.FAB_CYC_STAT_ACTIVE (s1.bit F.SYS_READY_FABC && s1.cycIn F.FAB_CYC_CTL_EN == 1 && !s1.bit F.FAB_CYC_STAT_CFGERR
    && !s1.bit F.FAB_CYC_STAT_LENERR)

/-- Bits of FAB_TIME_STAT set (R532): S102, once, when a bit that FAB_TIME_IEN enables rises; every change of TIME_VALID counts as a
rise of VALIDCHG (R524). -/
def State.timeRise (s : State) (l : List Nat) : State :=
  let f (k : Nat) : Fld := ⟨A.FAB_TIME_STAT, k, 1⟩
  let s1 := l.foldl (fun s k => s.on (f k)) s
  if l.any (fun k => (k == 4 || !s.bit (f k)) && s.bitAt F.FAB_TIME_IEN_IEN k) then s1.irq 102 else s1

/-- TIME_VALID changes, with the bits of FAB_TIME_STAT that say why (R524): VALIDCHG, CH6 input 2, S102.  Without it no correction is
applied (R31), and a cyclic window that is open consumes nothing more (R529). -/
def State.timeValid (s : State) (b : Bool) (why : List Nat) : State :=
  if s.bit F.FAB_TIME_STAT_TIME_VALID = b then why.foldl (fun s k => s.on ⟨A.FAB_TIME_STAT, k, 1⟩) s
  else
    let s1 := if b then (s.timeRise [0, 4]).off0 F.TICK_STATUS_APPROX
      else
        let s0 := (s.off0 F.FAB_TIME_STAT_TIME_VALID).timeRise (4 :: why)
        { ((s0.off0 F.FAB_TIME_STAT_DISC).off0 F.TICK_STATUS_DISC).wr F.FAB_TIME_FREQ_F 0 with cycBad := s.cycOpen }
    (s1.fire 6 2).fabcLook

/-! ### Routes (R491, R497, R509) -/

/-- The route entry of node `n`. -/
def routeFld (n : Nat) : Fld := ⟨0x080F0800 + 8 * (n / 16 % 128), 3 * (n % 16), 3⟩

/-- Whether some entry names port `p`. -/
def State.routeNames (s : State) (p : Nat) : Bool :=
  (List.range 128).any (fun r =>
    let w := s.reg (0x080F0800 + 8 * r)
    w != 0 && (List.range 16).any (fun j => getBits w (3 * j) 2 == p + 1))

/-- ROUTE_ALT: with TOPO 1, some entry's frames go out of the other port. Log entry 107 (DEDUCED). -/
def State.routeLook (s : State) : State :=
  let alt := s.rd F.FAB_CTL_TOPO == 1 && [0, 1].any (fun p => !s.portIsUp p && s.portIsUp (1 - p) && s.routeNames p)
  if alt then s.fabFlag 2 else s.off0 F.FAB_STATUS_ROUTE_ALT

/-- The port on which a frame for node `n` goes out, if any. Log entry 107 (DEDUCED). -/
def State.routePort (s : State) (n : Nat) : Option Nat :=
  match s.rd (routeFld n) % 4 with
  | 1 => some (if s.rd F.FAB_CTL_TOPO == 1 && !s.portIsUp 0 then 1 else 0)
  | 2 => some (if s.rd F.FAB_CTL_TOPO == 1 && !s.portIsUp 1 then 0 else 1)
  | _ => none

/-- A frame from node `n` on port `p` fills an empty, free entry (R497). -/
def State.routeLearn (s : State) (n p : Nat) : State :=
  if s.bit F.FAB_CTL_LEARN && n != 0 && s.rd (routeFld n) == 0 then (s.wr (routeFld n) (p + 1)).routeLook else s

/-- CLRROUTES: every entry that is not FIXED clears (R494). -/
def State.routeClear (s : State) : State :=
  (s.upto 128 (fun r s =>
    let a := 0x080F0800 + 8 * r
    if s.reg a = 0 then s
    else (List.range 16).foldl (fun s j => if (s.reg a).getLsbD (3 * j + 2) then s else s.wr ⟨a, 3 * j, 3⟩ 0) s)).routeLook

/-- A write of FAB_RTr (R509): an entry with PORT 3 stays as it is. -/
def State.routeWrite (s : State) (addr : Nat) (v : Word) : State :=
  ((List.range 16).foldl (fun s j =>
    let e := getBits v (3 * j) 3
    if e % 4 = 3 then s.fabFlag 4 else s.wr ⟨addr, 3 * j, 3⟩ e) s).routeLook

/-! ### Frames that the module sends (R481, R482) -/

/-- The bytes of a header that HCRC and the tags cover: 0-5 and 7-13. -/
def hdrCovered (h : List Byte) : List Byte := h.take 6 ++ (h.drop 7).take 7

/-- A Plovkolu header. -/
def fabHeader (type flags dst src hops hlim seq len : Nat) : List Byte :=
  let h := [BitVec.ofNat 8 (16 + type), BitVec.ofNat 8 flags] ++ beBytes 2 dst ++ beBytes 2 src
    ++ [BitVec.ofNat 8 hops, BitVec.ofNat 8 hlim] ++ beBytes 4 seq ++ beBytes 2 len
  h ++ beBytes 2 (crc16 (hdrCovered h))

/-- A frame from its destination address through its FCS; a short one is padded to 60 bytes. Log entry 89 (PRESUMED). -/
def wireFrame (dest src tags body : List Byte) : List Byte :=
  let f := dest ++ src ++ tags ++ [0x88, 0xB5] ++ body
  let g := f ++ List.replicate (60 - f.length) 0
  g ++ leBytes 4 (crc32 g)

/-- A frame leaves on port `p`, when the port is UP and its transmitter on. Log entry 108 (DESIGN CHOICE). -/
def State.fabEmit (s : State) (p : Nat) (frame : List Byte) : State :=
  if s.portIsUp p && !s.bit (F.FAB_P_STAT_TXDIS p) && !(s.fport p).pulse then
    let old := if s.egress.1 = s.instant then s.egress.2 else []
    { s.inc (F.FAB_P_FRCNT_TX p) with egress := (s.instant, old ++ [(p, frame)]) }
  else s

/-- The host's address, as the last DISCOVER gave it (R481). -/
def State.hostAddr (s : State) : List Byte := if s.hostMac.isEmpty then beBytes 6 Config.noHostMac.toNat else s.hostMac

/-- FLAGS of a frame. -/
def flagAuth : Nat := 0x80
/-- FLAGS.BCAST. -/
def flagBcast : Nat := 0x40
/-- FLAGS.RESP. -/
def flagResp : Nat := 0x20

/-- The next frame that the module originates: its bytes for port `p`, and the state with SEQ advanced.  `key` authenticates it. -/
def State.originate (s : State) (p : Nat) (dest tags : List Byte) (type flags dst : Nat) (payload : List Byte)
    (key : Option (List Byte)) : List Byte × State :=
  let own := if s.bit F.FAB_NODE_VALID then s.rd F.FAB_NODE_ID else 0
  let fl := flags + (if key.isSome then flagAuth else 0)
  let h := fabHeader type fl dst own 0 (s.rd F.FAB_CTL_HLIM) s.fabSeq payload.length
  let tag := match key with
    | some k => hmac k (hdrCovered h ++ payload)
    | none => []
  (wireFrame dest (portMac p) tags (h ++ payload ++ tag), { s with fabSeq := (s.fabSeq + 1) % 2 ^ 32 })

/-- The cycle length in counts, M × COUNTS. -/
def State.cycleLen (s : State) : Nat := (s.inForce F.TICK_FCYC_MM1 + 1) * s.inForce F.TICK_FRAME_COUNTS

/-- Counts to the next cycle tick. -/
def State.toCycTick (s : State) : Nat :=
  s.cycleLen - s.rd F.TICK_FRAMENO_IDX * s.inForce F.TICK_FRAME_COUNTS - s.rd F.TICK_PHASE_PHASE

/-- Whether no frame of the module's own may start: in the cyclic window, and in the 1 236.8 ns before it opens (R488). -/
def State.txHeld (s : State) : Bool :=
  s.cycOpen || (s.cycIn F.FAB_CYC_CTL_EN == 1 && s.tickRuns && decide (s.toCycTick < 928))

/-- System time in 2^-16 ns. -/
def State.time16 (s : State) : Nat := (s.epoch.toNat * 2 ^ 48 + s.rd F.SYSTIME_NS_NS) * 65536 + s.nsPhase * 65536 / 3

/-- A timestamp: the eighth of the drive-base cycle in which the frame started is open (R521). Log entry 88 (DESIGN CHOICE). -/
def State.stamp (s : State) : Nat × State :=
  let (x, s1) := s.fresh
  (s.time16 + x.toNat % 8 * 87381 / 8, s1)

/-- The payload of a frame as it leaves: a TIME frame takes the time of its departure (R521, R522).
Log entry 88 (DESIGN CHOICE). -/
def State.txPayload (s : State) (x : TxFrame) : List Byte × State :=
  let l := x.payload
  match if x.type = 8 then (l.headD 0).toNat else 0 with
  | 1 =>
    let (t, s1) := s.stamp
    (l, s1.setFport x.port { s1.fport x.port with t1 := t })
  | 2 =>
    let (t, s1) := s.stamp
    (l.take 12 ++ beBytes 8 t ++ l.drop 20, s1)
  | 3 =>
    (l.take 2 ++ beBytes 6 (s.rd F.SYSTIME_NS_NS) ++ beBytes 4 s.epoch.toNat ++ (l.drop 12).take 8 ++ beBytes 4 s.cycleLen ++ l.drop 24, s)
  | _ => (l, s)

/-- A frame of the module's own leaves. -/
def State.txNow (s : State) (x : TxFrame) : State :=
  let q := s.txPayload x
  let r := q.2.originate x.port x.dest x.tags x.type x.flags x.dst q.1 x.key
  r.2.fabEmit x.port r.1

/-- The frames that waited for the cyclic window leave (R488). Log entry 108 (DESIGN CHOICE). -/
def State.txFlush (s : State) : State := s.txHold.foldl (fun s x => s.txNow x) { s with txHold := [] }

/-- A frame on port `p`, after the cyclic window where that is open or near (R488). Log entry 108 (DESIGN CHOICE). -/
def State.sendOn (s : State) (p : Nat) (dest tags : List Byte) (type flags dst : Nat) (payload : List Byte)
    (key : Option (List Byte)) : State :=
  let x : TxFrame := { port := p, dest := dest, tags := tags, type := type, flags := flags, dst := dst, payload := payload, key := key }
  if s.txHeld then { s with txHold := s.txHold ++ [x] } else s.txNow x

/-- A frame for node `dst`, by its route entry; without a route it is not sent (R497). -/
def State.sendTo (s : State) (dest tags : List Byte) (type flags dst : Nat) (payload : List Byte) (key : Option (List Byte)) : State :=
  match s.routePort dst with
  | some p => s.sendOn p dest tags type flags dst payload key
  | none => s

/-- A broadcast of the module's own goes out of every UP port (R486). -/
def State.sendAll (s : State) (type : Nat) (payload : List Byte) : State :=
  [0, 1].foldl (fun s p => if s.portIsUp p then s.sendOn p s.hostAddr [] type flagBcast 0 payload none else s) s

/-- A TOPOLOGY report of port `p` on the other port (R491). -/
def State.topology (s : State) (p : Nat) (up : Bool) : State :=
  if s.rd F.FAB_CTL_TOPO = 1 ∧ s.portIsUp (1 - p) then
    let own := if s.bit F.FAB_NODE_VALID then s.rd F.FAB_NODE_ID else 0
    s.sendOn (1 - p) s.hostAddr [] 4 flagBcast 0
      (beBytes 2 own ++ [BitVec.ofNat 8 p, if up then 1 else 0] ++ List.replicate 4 0) none
  else s

/-! ### Nodes (R493, R496) -/

/-- The ID is lost (R496). -/
def State.idLost (s : State) (st : Nat) : State :=
  let s1 := ((s.wr F.FAB_NODE_ID 0).off0 F.FAB_NODE_VALID).wr F.FAB_NODE_STATE st
  (s1.fabFlag 3).fabcLook

/-- The module takes an ID (R494, R495). -/
def State.idTake (s : State) (id : Nat) : State :=
  (((s.wr F.FAB_NODE_ID id).on F.FAB_NODE_VALID).wr F.FAB_NODE_STATE 2).fabcLook

/-- A clash of IDs (R496). -/
def State.idConflict (s : State) : State :=
  let had := s.bit F.FAB_STATUS_CONFLICT || s.bit F.FAB_STATUS_IDLOST
  let s1 := (s.on F.FAB_STATUS_CONFLICT).on F.FAB_STATUS_IDLOST
  let s2 := if had then s1 else s1.irq 105
  (((s2.wr F.FAB_NODE_ID 0).off0 F.FAB_NODE_VALID).wr F.FAB_NODE_STATE 3).fabcLook

/-- NODE_ID_LOST (R496): both ports have been DOWN for 100 ms. -/
def execNodeIdLost (s0 : State) : Result :=
  let s := s0.cancel .nodeIdLost
  ok (if s.rd F.FAB_NODE_STATE = 2 ∧ !s.portIsUp 0 ∧ !s.portIsUp 1 then s.idLost 0 else s)

/-! ### Ports (R479, R480, R503) -/

/-- The event of a port becoming UP. -/
def upEvent (p : Nat) : Instr := .portUp (Fin.ofNat 2 p)

/-- The event of a port becoming DOWN. -/
def downEvent (p : Nat) : Instr := .portDown (Fin.ofNat 2 p)

/-- Whether an identification page passes (R479), and its MEDIA code: identifier 0x03, CC_BASE, and at most power level 1.
Log entry 106 (PRESUMED). -/
def sfpMedia (id : List Byte) : Option (Nat × Bool) :=
  let b (i : Nat) : Byte := id.getD i 0
  if id.length < 96 || b 0 != 3 || ((id.take 63).foldl (fun (x : Byte) y => x + y) 0) != b 63 then none
  else
    let level2 := (b 64).getLsbD 1 || (b 64).getLsbD 5 || (b 64).getLsbD 6
    let media :=
      if (b 3).getLsbD 4 then 1 else if (b 3).getLsbD 5 then 2 else if (b 3).getLsbD 7 then 3 else if (b 3).getLsbD 6 then 4
      else if (b 8).getLsbD 2 then 5 else if (b 8).getLsbD 3 then 6 else 7
    some (media, level2)

/-- TXDIS follows the identification, EN and TXOFF. -/
def State.txLook (s : State) (p : Nat) : State :=
  s.wrb (F.FAB_P_STAT_TXDIS p) (!s.bit (F.FAB_P_STAT_IDOK p) || s.bit (F.FAB_P_CTL_TXOFF p) || !s.bit (F.FAB_P_CTL_EN p))

/-- SFP_INSERTION (R60, R479): the base page of the plugged module, or a bus that does not answer. Log entry 106 (PRESUMED). -/
def execSfpInsertion (p : Fin 2) (ident : List Byte) (readable : Bool) (s : State) : Result :=
  if !s.fabLive then ok s
  else
    let s1 := s.on (F.FAB_P_STAT_PRESENT p)
    match if readable then sfpMedia ident else none with
    | none => ok (((s1.off0 (F.FAB_P_STAT_IDOK p)).wr (F.FAB_P_STAT_MEDIA p) 0).txLook p)
    | some (m, hot) =>
      if hot then ok ((((s1.off0 (F.FAB_P_STAT_IDOK p)).wr (F.FAB_P_STAT_MEDIA p) 0).on (F.FAB_P_STAT_PWRERR p)).txLook p)
      else ok ((((s1.on (F.FAB_P_STAT_IDOK p)).wr (F.FAB_P_STAT_MEDIA p) m).off0 (F.FAB_P_STAT_PWRERR p)).txLook p)

/-- Block lock is gained or lost (R480): 10 ms to UP, 4 µs to DOWN. -/
def State.lockChange (s : State) (p : Nat) (lock : Bool) : State :=
  let s1 := s.wrb (F.FAB_P_STAT_LOCK p) lock
  if lock then
    let s2 := s1.cancel (downEvent p)
    if s2.portIsUp p || s2.due (upEvent p) then s2 else s2.after (ms 10) (upEvent p)
  else
    let s2 := s1.cancel (upEvent p)
    if !s2.portIsUp p || s2.due (downEvent p) then s2 else s2.after (us 4) (downEvent p)

/-- SFP_REMOVAL (R479). -/
def execSfpRemoval (p : Fin 2) (s : State) : Result :=
  if !s.fabLive then ok s
  else
    let s1 := ((s.off0 (F.FAB_P_STAT_PRESENT p)).off0 (F.FAB_P_STAT_IDOK p)).wr (F.FAB_P_STAT_MEDIA p) 0
    ok (((s1.off0 (F.FAB_P_STAT_PWRERR p)).txLook p).lockChange p false)

/-- BLOCK_LOCK_CHANGE (R480): in a live, enabled and identified port. -/
def execBlockLockChange (p : Fin 2) (lock : Bool) (s : State) : Result :=
  if !s.fabLive || (lock && !(s.bit (F.FAB_P_CTL_EN p) && s.bit (F.FAB_P_STAT_IDOK p))) then ok s
  else ok (s.lockChange p lock)

/-- The port toward the master, and NEXCH of that port (R522). -/
def State.nexchShow (s : State) : State := s.wr F.FAB_TIME_STAT_NEXCH (s.fport (s.rd F.FAB_TIME_STAT_SYNCPORT)).nexch

/-- PORT_UP (R81, R84, R480, R491, R493): block lock has held for 10 ms; in BOOT the row of the ports comes after that of DRAM.
Log entry 24 (DEDUCED). -/
def execPortUp (p : Fin 2) (s0 : State) : Result :=
  let s := s0.cancel (.portUp p)
  if !s.fabLive || !s.bit (F.FAB_P_STAT_LOCK p) || s.portIsUp p then ok s
  else if s.mode == .boot && !s.bit F.SYS_READY_DRAM then ok (s.after (us 100) (.portUp p))
  else
    let s1 := (s.on (F.FAB_P_STAT_UP p)).on (F.FAB_P_STAT_UPEVT p)
    let s2 := if s1.bit (F.FAB_P_CTL_IEN_UP p) then s1.irq (99 + p) else s1
    let s3 := ((s2.setFport p { s2.fport p with nexch := 0, delays := [] }).nexchShow.setReady 5 true).cancel .nodeIdLost
    let s4 := if s3.rd F.FAB_NODE_STATE = 0 then s3.wr F.FAB_NODE_STATE 1 else s3
    let s5 := if s4.due .echoSend then s4 else s4.after (ms (s4.cycIn F.FAB_TIME_CTL_EPER)) .echoSend
    ok ((s5.topology p true).routeLook)

/-- What a port's becoming DOWN brings. -/
def State.portFalls (s : State) (p : Nat) : State :=
  let s1 := ((s.off0 (F.FAB_P_STAT_UP p)).on (F.FAB_P_STAT_DOWNEVT p)).inc (F.FAB_P_DOWNCNT_N p)
  let s2 := if s1.bit (F.FAB_P_CTL_IEN_DOWN p) then s1.irq (99 + p) else s1
  let both := !s2.portIsUp 0 && !s2.portIsUp 1
  let s3 := if both then (s2.setReady 5 false).cancel .echoSend else s2
  let st := s3.rd F.FAB_NODE_STATE
  let s4 := if !both then s3 else if st = 2 then s3.after (ms 100) .nodeIdLost else s3.wr F.FAB_NODE_STATE 0
  (s4.topology p false).routeLook

/-- PORT_DOWN (R480, R491, R493). -/
def execPortDown (p : Fin 2) (s0 : State) : Result :=
  let s := s0.cancel (.portDown p)
  ok (if s.portIsUp p && !s.bit (F.FAB_P_STAT_LOCK p) then s.portFalls p else s)

/-- A write of FAB_Pn_CTL (R503, R507): the plain fields, and WAKEPULSE. -/
def State.portCtlWrite (s : State) (w : Writer) (p : Nat) (v : Word) : State :=
  let s1 := (s.plainWrite w (A.FAB_P_CTL p) v).txLook p
  let s2 := if s1.bit (F.FAB_P_CTL_EN p) then s1 else s1.lockChange p false
  if v.getLsbD 2 && s2.fabLive then
    (s2.setFport p { s2.fport p with pulse := true }).after (ms 2) (.wakepulseEnd (Fin.ofNat 2 p))
  else s2

/-- WAKEPULSE_END (R503). -/
def execWakepulseEnd (p : Fin 2) (s0 : State) : Result :=
  let s := s0.cancel (.wakepulseEnd p)
  ok (s.setFport p { s.fport p with pulse := false })

/-- FABRIC_WAKE_DETECT (R503): in DORMANT, signal returns on a port with passive copper; CH81 input 0. -/
def execFabricWakeDetect (s : State) : Result :=
  ok (if s.mode == .dormant then { s with fabLatch := true }.fire 81 0 else s)

/-! ### Configuration writes (R505, R530) -/

/-- A write of a FAB configuration register: its fields other than those of `frozen` are plain; the others change only in
STANDBY, and TOPO 3 and values out of range are not taken. -/
def State.fabCfgWrite (s : State) (w : Writer) (addr : Nat) (v : Word) : State :=
  let topoBad := addr == A.FAB_CTL && getBits v 3 2 == 3
  let v1 := if topoBad then setBits v 3 2 (s.rd F.FAB_CTL_TOPO) else v
  let nw := rowWrite false (fieldsAt addr) (s.reg addr) v1
  let cold := if addr = A.FAB_CTL then
      decide (getBits nw 3 3 ≠ getBits (s.reg addr) 3 3 ∨ getBits nw 7 8 ≠ getBits (s.reg addr) 7 8)
    else decide (nw ≠ s.reg addr)
  let s0 := if topoBad then s.fabFlag 4 else s
  if cold && s.mode != .standby then
    let keep := if addr = A.FAB_CTL then setBits (setBits v1 3 3 (getBits (s.reg addr) 3 3)) 7 8 (getBits (s.reg addr) 7 8)
      else s.reg addr
    (s0.fabFlag 5).plainWrite w addr keep
  else (s0.plainWrite w addr v1).routeLook

/-- A write of a CYC or TIME configuration register (R530): STANDBY only, in force from the next cycle tick. -/
def State.cycCfgWrite (s : State) (addr : Nat) (v : Word) : State :=
  let nw := rowWrite false (fieldsAt addr) (s.reg addr) v
  if nw = s.reg addr then s
  else if s.mode == .standby then
    { s with heldCyc := if (Tab.find s.heldCyc addr).isSome then s.heldCyc else Tab.put s.heldCyc addr (s.reg addr) }.setReg addr nw
  else s.cycFlag 11

/-! ### The cycle tick (R511, R513, R516, R528, R530) -/

/-- Whether the regions are valid (R511) and the window shorter than the cycle (R516). Log entry 86 (DEDUCED). -/
def State.layoutGood (s : State) : Bool :=
  let rx := s.rd F.FAB_CYC_REGION_RXOFS
  let rl := s.rd F.FAB_CYC_REGION_RXLEN
  let tx := s.rd F.FAB_CYC_REGION_TXOFS
  let tl := s.rd F.FAB_CYC_REGION_TXLEN
  decide (16 ≤ rx ∧ 16 ≤ tx) && rl % 6 == 0 && tl % 6 == 0 && decide (rx + rl ≤ 1484 ∧ tx + tl ≤ 1484)
    && (rl == 0 || tl == 0 || decide (rx + rl ≤ tx ∨ tx + tl ≤ rx))
    && decide (us (s.rd F.FAB_CYC_CTL_RXWIN) < s.cycleLen)

/-- Whether map entry `k` is unused or names a word of its region and a permitted address (R513). -/
def State.mapGood (s : State) (k : Nat) : Bool :=
  let a := s.rd (F.FAB_CYC_MAP_ADDR k)
  let word := s.rd (F.FAB_CYC_MAP_WORD k)
  let len := if s.bit (F.FAB_CYC_MAP_DIR k) then s.rd F.FAB_CYC_REGION_TXLEN - 6 else s.rd F.FAB_CYC_REGION_RXLEN
  let place := match region a with
    | .periph => a % 8 == 0
    | .shared => true
    | _ => false
  !s.bit (F.FAB_CYC_MAP_EN k) || (decide (6 * word + 6 ≤ len) && place)

/-- CYCNO of the present instant (R510): floor(time / cycle length), time in thirds of a nanosecond. -/
def State.cycleNumber (s : State) : Nat :=
  let t := 3 * (s.epoch.toNat * 2 ^ 48 + s.rd F.SYSTIME_NS_NS) + s.nsPhase
  t / (4 * max 1 s.cycleLen) % 2 ^ 32

/-- How many insert entries are enabled. -/
def State.insertEntries (s : State) : List Nat :=
  (List.range 64).filter (fun k => s.bit (F.FAB_CYC_MAP_EN k) && s.bit (F.FAB_CYC_MAP_DIR k))

/-- Fabric time is taken, which the local time leads by `ofs`: system time in one step, and in STANDBY the tick's phase and index (R106, R112).
Log entry 103 (DEDUCED). -/
def State.timeStep (s : State) (ofs : Int) : State :=
  let t := ((s.time16 : Int) - ofs).toNat
  let ns := t / 65536
  let s1 := { s.setReg A.SYSTIME_NS (BitVec.ofNat 48 (ns % 2 ^ 48)) with
    timeSet := true, epoch := BitVec.ofNat 48 (ns / 2 ^ 48), nsPhase := t % 65536 * 3 / 65536 }.on F.TICK_STATUS_TSTEP
  if s1.mode != .standby || !s1.tickRuns then s1
  else
    let counts := t * 3 / (4 * 65536)
    let n := max 1 (s1.inForce F.TICK_FRAME_COUNTS)
    let m := s1.inForce F.TICK_FCYC_MM1 + 1
    ((s1.wr F.TICK_PHASE_PHASE (counts % n)).wr F.TICK_FRAMENO_IDX (counts / n % m)).on F.TICK_STATUS_STEPPED

/-- The time master (R520, R524): its own time is fabric time, taken at the first setting like any other (R106, R112); TIME_VALID
as soon as TICK runs, SYNC every SYNCPER × 100 µs. -/
def State.masterLook (s : State) : State :=
  if s.isMaster then
    let s1 := (if s.timeSet then s else s.timeStep 0).timeValid true []
    if s1.due .syncSend then s1 else s1.after (75000 * s1.cycIn F.FAB_TIME_CTL_SYNCPER) .syncSend
  else
    let s1 := s.cancel .syncSend
    if s1.bit F.FAB_TIME_STAT_TIME_VALID && !s1.due .syncTimeout then s1.after (300000 * s1.cycIn F.FAB_TIME_CTL_SYNCPER) .syncTimeout
    else s1

/-- A cycle tick: new values take effect, the key switches, the window opens and the snapshot is due. Log entry 87 (DEDUCED). -/
def State.cycTick (s : State) : State :=
  let s1 := { s with heldCyc := [], cycGot := false, cycBad := false, cycAt := s.now }
  let s2 := (s1.wrb F.FAB_CYC_STAT_CFGERR (!(s1.layoutGood && (List.range 64).all (fun k => s1.mapGood k)))).off0 F.FAB_CYC_STAT_SNAPRDY
  let s3 := (s2.wr F.FAB_CYC_NO_CYCNO s2.cycleNumber).masterLook.fabcLook
  let s4 := match s3.cycKeyNext with
    | some (n, k) => if n = s3.rd F.FAB_CYC_NO_CYCNO then { s3 with cycKey := some k, cycKeyNext := none } else s3
    | none => s3
  if s4.bit F.FAB_CYC_CTL_EN && s4.fabLive && (s4.mode != .boot || s4.bit F.SYS_READY_FABC) then
    let s5 := { s4 with cycOpen := true }.after (us (s4.rd F.FAB_CYC_CTL_RXWIN)) .cyclicWindowClose
    s5.after (s5.rd F.FAB_CYC_CTL_SNAP + 4 * s5.insertEntries.length) .cyclicSnapshot
  else { s4 with cycOpen := false }.txFlush

/-- A cycle is lost (R516, R517). Log entry 66 (DEDUCED). -/
def State.cycleLost (s : State) : State :=
  let n := s.rd F.FAB_CYC_STAT_CONSEC
  let s1 := (s.cycFlag 2).inc F.FAB_CYC_CNT_LOSTCNT
  let s2 := (((s1.cycFlag 3).inc F.FAB_CYC_CNT_OVRCNT).fire 4 6).fire 6 1
  let s3 := (s2.wr F.FAB_CYC_STAT_CONSEC (min 3 (n + 1))).irqS 25
  if n = 2 ∧ s3.modeIn [.armed, .run, .safeStop] then s3.safeStop 7 else s3

/-- CYCLIC_WINDOW_CLOSE (R516). Log entry 66 (DEDUCED). -/
def execCyclicWindowClose (s0 : State) : Result :=
  let s := s0.cancel .cyclicWindowClose
  ok (if s.cycOpen then
    let s1 := { s with cycOpen := false }
    (if s1.cycGot && !s1.cycBad && s1.bit F.SYS_READY_FABC then s1 else s1.cycleLost).txFlush
   else s)

/-- SYNC_TIMEOUT (R524): no SYNC for 4 × SYNCPER. -/
def execSyncTimeout (s0 : State) : Result :=
  let s := s0.cancel .syncTimeout
  ok (if s.bit F.FAB_TIME_STAT_TIME_VALID && !s.isMaster then
    s.timeValid false [2] else s)

/-! ### Timestamps and the frames of fabric time (R520-R522) -/

/-- ECHO_SEND (R522): a request on every UP port. -/
def execEchoSend (s0 : State) : Result :=
  let s := s0.cancel .echoSend
  if !s.fabLive || (!s.portIsUp 0 && !s.portIsUp 1) then ok s
  else
    let s1 := [0, 1].foldl (fun s p =>
      if s.portIsUp p then
        let n := ((s.fport p).echoNo + 1) % 65536
        (s.setFport p { s.fport p with t1 := -1, echoNo := n }).sendOn p s.hostAddr [] 8 0 0
          ([1, BitVec.ofNat 8 p] ++ beBytes 2 n ++ List.replicate 24 0) none
      else s) s
    ok (s1.after (ms (s1.cycIn F.FAB_TIME_CTL_EPER)) .echoSend)

/-- SYNC_SEND (R520, R521): the master's broadcast. -/
def execSyncSend (s0 : State) : Result :=
  let s := s0.cancel .syncSend
  if !s.fabLive || !s.isMaster || !s.tickRuns then ok s
  else
    ok ((s.sendAll 8 ((3 : Byte) :: List.replicate 27 0)).after (75000 * s.cycIn F.FAB_TIME_CTL_SYNCPER) .syncSend)

/-! ### Sessions (R526, R527) -/

/-- Keys and counters of slot `n`. -/
def State.session (s : State) (n : Nat) : Sess := Tab.get Sess.init s.sess n

/-- Whether slot `n` is OPEN. -/
def State.sessOpen (s : State) (n : Nat) : Bool := s.rd (F.FAB_SESS_STAT_STATE n) == 2

/-- The event of a slot's idle close. -/
def idleEvent (n : Nat) : Instr := .sessionIdleTimeout (Fin.ofNat 16 n)

/-- The idle time of slot `n` starts again. -/
def State.sessTouch (s : State) (n : Nat) : State := s.after (750000000 * s.rd F.FAB_SESSCTL_IDLE) (idleEvent n)

/-- Slot `n` closes (R527): its keys are gone and the host's unlock window closes. -/
def State.sessClose (s : State) (n : Nat) : State :=
  if s.rd (F.FAB_SESS_STAT_STATE n) = 0 then s
  else
    let s1 := { s with sess := Tab.set Sess.init s.sess n Sess.init }
    (((s1.setReg (A.FAB_SESS_STAT n) 0).cancel (idleEvent n)).windowClose (0x20 + n)).irq 103

/-- Every session closes. -/
def State.sessCloseAll (s : State) : State := s.upto 16 (fun n s => s.sessClose n)

/-- Whether any session is open. -/
def State.anySession (s : State) : Bool := (List.range 16).any (fun n => s.rd (F.FAB_SESS_STAT_STATE n) != 0)

/-- SESSION_IDLE_TIMEOUT (R527). -/
def execSessionIdleTimeout (n : Fin 16) (s0 : State) : Result := ok ((s0.cancel (.sessionIdleTimeout n)).sessClose n)

/-- A write of FAB_SESSs_CLOSE (R527). -/
def State.sessCloseWrite (s : State) (n : Nat) (v : Word) : State := if getBits v 0 8 = 0xC5 then s.sessClose n else s

/-- The fabric loses power or clock: every port is DOWN, nothing is pending. -/
def State.fabStop (s : State) : State :=
  let evs : List Instr := [.echoSend, .syncSend, .syncTimeout, .cyclicSnapshot, .cyclicWindowClose, .nodeIdLost]
  let s1 := evs.foldl (fun s e => s.cancel e) s
  let s2 := [0, 1].foldl (fun s p => ((s.cancel (upEvent p)).cancel (downEvent p)).cancel (.wakepulseEnd (Fin.ofNat 2 p))) s1
  { s2 with cycOpen := false, fabPorts := [], txHold := [] }

end Sys2Proof.Machine
end

