-- ==== Sys2Proof/Machine/Aon.lean ====
section
/-! DEFINITION. The AON block (R67, R578-R595): the save image, entering and leaving DORMANT, the wake sources, the AON timer, pad
hold, DIO edges, and the logic BIST of SHUTDOWN. -/
namespace Sys2Proof.Machine

/-! ### The save image (R580) -/

/-- The block numbers outside the AON domain, without ICU and SAF, in the order of R580. -/
def imageBlocks : List Nat := [0, 2, 3, 4, 5, 6, 7, 9, 11, 13, 14, 15, 17, 18, 19]

/-- The Kept fields of the registers of `rows`: address, lowest bit, width, by address and then by bit. -/
def keptCells (rows : List RegRow) : List (Nat × Nat × Nat) :=
  let l := rows.flatMap (fun r =>
    (innerOffsets r.dims).flatMap (fun o => (r.fields.filter (fun f => f.kept)).map (fun f => (r.base + o, f.lo, f.w))))
  sortBy (fun (a b : Nat × Nat × Nat) => decide (a.1 < b.1 ∨ (a.1 = b.1 ∧ a.2.1 ≤ b.2.1))) 32 l

/-- Every Kept register field in the order of the image. Log entry 39 (DESIGN CHOICE). -/
def imageCells : List (Nat × Nat × Nat) :=
  let saf := blockRows 0x0C000000
  imageBlocks.flatMap (fun b => keptCells (blockRows (0x08000000 + 0x10000 * b)))
    ++ keptCells (saf.filter (fun r => decide (r.base < 0x0C001000)))
    ++ keptCells (blockRows 0x080C0000)
    ++ keptCells (saf.filter (fun r => decide (0x0C001000 ≤ r.base)))

/-- The fields of the special registers in the order of R367: number, lowest bit, width. -/
def specialCells : List (Nat × Nat × Nat) :=
  [(0, 0, 6), (1, 0, 8), (2, 0, 48), (3, 0, 30), (4, 0, 6), (4, 8, 2), (5, 0, 4), (6, 0, 48), (7, 0, 32)]
    ++ (List.range 16).map (fun k => (16 + k + 2, 0, 48))
    ++ (List.range 16).flatMap (fun n => [(0x40 + 2 * n, 0, 6), (0x40 + 2 * n, 8, 33), (0x41 + 2 * n, 8, 33)])

/-- Where the value of register `addr` is stored: in the active bank for a banked Caldera register (R242). -/
def State.cellKey (s : State) (addr : Nat) : Nat :=
  let o := (addr - 0x08071000) % 0x400
  if 0x08071000 ≤ addr ∧ addr < 0x08077000 ∧ 0x100 ≤ o then addr + s.actBank ((addr - 0x08071000) / 0x400) * bankKey else addr

/-- The low `w` bits of `v`, lowest first. -/
def natBits : Nat → Nat → List Bool
  | 0, _ => []
  | w + 1, v => (v % 2 == 1) :: natBits w (v / 2)

/-- The number whose bits are `l`, lowest first. -/
def bitsNat : List Bool → Nat
  | [] => 0
  | b :: t => (if b then 1 else 0) + 2 * bitsNat t

/-- The bytes of a bit string, the last one filled with zeros. -/
def packBits : Nat → List Bool → List Byte
  | 0, _ => []
  | n + 1, l => BitVec.ofNat 8 (bitsNat (l.take 8)) :: packBits n (l.drop 8)

/-- Bits in the image. -/
def imageBits : Nat :=
  (imageCells.foldl (fun (n : Nat) (c : Nat × Nat × Nat) => n + c.2.2) 0)
    + 5 * (specialCells.foldl (fun (n : Nat) (c : Nat × Nat × Nat) => n + c.2.2) 0)

/-- The length of the image in bytes, AON_SAVESTAT.LEN. -/
def imageBytes : Nat := (imageBits + 7) / 8

/-- The bits of the image of the present state; the live epoch stands for SYSTIME_EPOCH (R113). Log entry 39 (DESIGN CHOICE). -/
def State.imageOf (s : State) : List Bool :=
  let s1 := s.setReg A.SYSTIME_EPOCH s.epoch
  (imageCells.flatMap (fun (c : Nat × Nat × Nat) => natBits c.2.2 (getBits (s1.reg (s1.cellKey c.1)) c.2.1 c.2.2)))
    ++ (List.range 5).flatMap (fun k =>
      specialCells.flatMap (fun (c : Nat × Nat × Nat) => natBits c.2.2 (getBits (s1.sreg k c.1) c.2.1 c.2.2)))

/-- The save area (R436). -/
def saveBase : Nat := 0x0A00C000

/-- The image and its header written (R580). -/
def State.saveImage (s : State) : State :=
  let l := packBits imageBytes s.imageOf
  let gen := (s.rd F.AON_SAVESTAT_GEN + 1) % 2 ^ 31
  let h := [0x4B, 0x45, 0x50, 0x54] ++ leBytes 2 1 ++ leBytes 2 0 ++ leBytes 4 imageBytes ++ leBytes 4 gen ++ leBytes 4 (crc32 l)
    ++ List.replicate 12 0
  let s1 := ((s.setBytes saveBase (h ++ l)).eccWrite saveBase (32 + l.length))
  (s1.on F.AON_SAVESTAT_VALID).wr F.AON_SAVESTAT_GEN gen

/-- Whether the CRC of the stored image holds. -/
def State.imageCrcOk (s : State) : Bool :=
  s.load (saveBase + 16) 4 == crc32 (s.bytes (saveBase + 32) imageBytes)
    && !(List.range ((32 + imageBytes) / 2 + 1)).any (fun k => s.hardAt (saveBase + 2 * k))

/-- Whether the stored image passes its magic, its length check and its CRC (R588). -/
def State.imageGood (s : State) : Bool :=
  s.bytes saveBase 4 == [0x4B, 0x45, 0x50, 0x54] && s.load (saveBase + 8) 4 == imageBytes && s.imageCrcOk

/-- The fields of `cells` read back from the bits of `l`. Log entry 39 (DESIGN CHOICE). -/
def restoreCells (put : State → Nat → Nat → Nat → Nat → State) : List (Nat × Nat × Nat) → List Bool → State → State × List Bool
  | [], l, s => (s, l)
  | c :: t, l, s => restoreCells put t (l.drop c.2.2) (put s c.1 c.2.1 c.2.2 (bitsNat (l.take c.2.2)))

/-- Whether address `a` is a register of the AON domain (R578): AON, EVR, CFGRPT. Log entry 31 (DEDUCED). -/
def aonReg (a : Nat) : Bool := a / 0x10000 == 0x810 || a / 0x10000 == 0x80A || a / 0x10000 == 0x801

/-- The Kept fields come back (R587, R588, R242): banked Caldera fields into both banks. -/
def State.restoreImage (s : State) : State :=
  let bits := (s.bytes (saveBase + 32) imageBytes).flatMap (fun b => natBits 8 b.toNat)
  let put (s : State) (a lo w v : Nat) : State :=
    let o := (a - 0x08071000) % 0x400
    let s1 := s.wr ⟨a, lo, w⟩ v
    if 0x08071000 ≤ a ∧ a < 0x08077000 ∧ 0x100 ≤ o then s1.wr ⟨a + bankKey, lo, w⟩ v else s1
  let r := restoreCells put imageCells bits s
  let q := (List.range 5).foldl (fun (x : State × List Bool) k =>
    restoreCells (fun s n lo w v => s.setSreg k n (setBits (s.sreg k n) lo w v)) specialCells x.2 x.1) r
  let s1 := { q.1 with epoch := BitVec.ofNat 48 (q.1.reg A.SYSTIME_EPOCH).toNat }
  (s1.setReg A.SYSTIME_EPOCH 0).wr F.SYS_MODE_MODE 1

/-! ### Entering DORMANT -/

/-- The store buffer of core `c` drains (R357). -/
def State.sbufFlush (s : State) (c : Nat) : State :=
  let l := (s.core c).sbuf
  if l.isEmpty then s
  else
    let s1 := s.setCore c { s.core c with sbuf := [] }
    l.foldl (fun s (e : Nat × List Byte) => (s.memWrite (s.coreWriter c) e.1 e.2).2) s1

/-- TICK, the carriers, the lanes, the timers and the capture engine stop. -/
def State.driveStop (s : State) : State :=
  let s1 := (s.learnAbort.tmrStopAll.off0 F.TICK_STATUS_RUNNING)
  { (s1.upto 6 (fun q s => if s.carrierOn q then s.carrierStop q else s)).lanesStop.fbStopAll with tickAt := none }

/-- Whether an alarm outlives the stop of the clocks: levels at the DIO contacts, far timeouts that a core still waits for, and what
remains for a spill engine until it is idle (R582). -/
def outlives : Instr → Bool
  | .dioEdge _ _ => true
  | .farTimeout _ => true
  | .windowSpill _ => true
  | .windowFill _ => true
  | _ => false

/-- A request for DORMANT is accepted (R581-R583). Log entry 35 (DEDUCED). -/
def State.dormantAccept (s : State) : State :=
  let s1 := (s.on F.SYS_MODESTAT_PEND).upto 5 (fun c s => s.sbufFlush c)
  let s2 := s1.driveStop.fabStop
  let s3 := { s2 with
    dormAt := some s2.now, wakeLatch := none, fabLatch := false, wakeAt := none, windows := [], fromShutdown := false
    alarms := s2.alarms.filter (fun p => outlives p.2) }
  s3.after (us 1800) .dormantEntryComplete

/-- The DRAM goes to self-refresh (R439, R581, R591). -/
def State.dramSleep (s : State) : State := (s.setReady 4 false).wr F.AON_PWRSTAT_DRAM 1

/-- The DIO pads are latched (R67, R581); a hold that nothing has released stays. -/
def State.padsHold (s : State) : State :=
  if s.bit F.AON_PADREL_HELD then s else { s with padOut := s.reg A.AON_DIODIR }.on F.AON_PADREL_HELD

/-- Whether a core waits for the end of a far transaction and so has not reached its instruction boundary (R582). -/
def State.anyStalled (s : State) : Bool := (List.range 5).any (fun c => (s.core c).run == .stalled)

/-- One drive-base cycle of the entry to DORMANT, its steps counted from the acceptance, or from the boundary that the last core
reaches (R581). Log entry 35 (DEDUCED). -/
def State.entryStep (s : State) : State :=
  match s.dormAt with
  | none => s
  | some a =>
    if s.mode == .dormant then s
    else if s.anyStalled then { s with dormAt := some s.now }.after (us 1800) .dormantEntryComplete
    else if s.now = a + us 110 then s.saveImage
    else if s.now = a + us 120 then s.dramSleep
    else if s.now = a + us 130 then s.padsHold
    else if s.now = a + us 400 then s.setReg A.AON_PWRSTAT 0x105
    else s

/-- DORMANT begins (R579, R583, R67): pads held, DRAM in self-refresh, the AON cycle count at 0. Log entry 35 (DEDUCED). -/
def State.dormantBegin (s : State) : State :=
  let s1 := (s.setReg A.AON_WAKESTAT 0).padsHold.dramSleep.setReg A.AON_PWRSTAT 0x105
  let s2 := (s1.setReg A.AON_DCYC 0).setMode .dormant
  { s2 with auxOn := false, bulkOk := false }.stoLook

/-- DORMANT_ENTRY_COMPLETE (R581): the save image is in place and AON is on the standby converter.  A core that waits for a far
transaction reaches its instruction boundary first. -/
def execDormantEntryComplete (s0 : State) : Result :=
  let s := s0.cancel .dormantEntryComplete
  match s.dormAt with
  | none => ok s
  | some _ =>
    if s.anyStalled then ok (s.after (us 1) .dormantEntryComplete)
    else ok (if s.bit F.AON_SAVESTAT_VALID then s else s.saveImage).dormantBegin

/-! ### Wake -/

/-- Whether a DIO level source is active (R585). -/
def State.dioWakes (s : State) : Bool :=
  (List.range 16).any (fun k =>
    s.bitAt F.AON_WAKECFG_LVLEN k && s.bitAt F.AON_DIOIN_IN k == s.bitAt F.AON_WAKECFG_LVLPOL k)

/-- AON_WAKESTAT of the sources active now, 0 for none (R585, R595). -/
def State.wakeSources (s : State) : Word :=
  let edge := s.wakeLatch.isSome
  let w0 := setBits 0 0 1 (if edge then 1 else 0)
  let w1 := setBits w0 1 1 (if s.dioWakes then 1 else 0)
  let w2 := setBits w1 2 1 (if s.bit F.AON_WAKECFG_FABEN && s.fabLatch then 1 else 0)
  let w3 := setBits w2 3 1 (if s.bit F.AON_WAKECFG_TMREN && s.bit F.AON_TMR_EXP then 1 else 0)
  setBits w3 4 7 (s.wakeLatch.getD 0)

/-- WAKE (R585, R587, R589): exit from DORMANT begins; one that was reached from SHUTDOWN runs BOOT as after a power-on. -/
def execWake (s0 : State) : Result :=
  let s := s0.cancel .wake
  if s.mode != .dormant || s.wakeAt.isSome || s.wakeSources == 0 then ok s
  else if s.fromShutdown then ok ({ s.powerOff with bootAt := s.now }.after (ms 18) .bootPorRelease)
  else ok (({ s with wakeAt := some s.now }.setReg A.AON_WAKESTAT s.wakeSources).after (us 2090) .wakeRestore)

/-- The state behind the wake: what is not retained is as after a reset (R578, R582, R587).
Log entries 36 (DEDUCED), 152 (DESIGN CHOICE). -/
def State.wakeBase (s : State) : State :=
  { State.reset with
    pending := s.pending, alarms := s.alarms, now := s.now, beat := s.beat, freeCtr := s.freeCtr
    regs := s.regs.filter (fun p => aonReg p.1)
    mem := s.mem, eccSoft := s.eccSoft, eccHard := s.eccHard, torn := s.torn, ffUnits := s.ffUnits
    rdata := s.rdata, cores := s.cores, evrLast := s.evrLast, evrArr := s.evrArr, wakeLatch := s.wakeLatch
    stoIn := s.stoIn, otpKeys := s.otpKeys, settings := s.settings, mainsOn := s.mainsOn, dormAt := s.dormAt
    padOut := s.padOut, dioExt := s.dioExt, aonFrac := s.aonFrac, fabLatch := s.fabLatch, bootAt := s.bootAt, wakeAt := s.wakeAt, bootStage := 13
    egress := s.egress, farTag := s.farTag, authDraw := s.authDraw + 1, flcRst := s.flcRst, lineGood := 0
    tblWr := s.tblWr, tblSeal := s.tblSeal }

/-- WAKE_RESTORE (R587, R588): the image is checked and restored, or a WAKE_FAIL reset is taken at once. -/
def execWakeRestore (s0 : State) : Result :=
  let s := s0.cancel .wakeRestore
  match s.wakeAt with
  | none => ok s
  | some _ =>
    if s.bit F.AON_SAVESTAT_VALID && s.imageGood then
      let s1 := s.wakeBase.restoreImage.followSettings
      let s2 := ((s1.off0 F.AON_SAVESTAT_VALID).on F.AON_SAVESTAT_RESTORED).off0 F.AON_SAVESTAT_CRCERR
      ok (s2.after (us 310) .wakeComplete)
    else
      let bad := s.bit F.AON_SAVESTAT_VALID && !s.imageCrcOk
      ok ((s.moduleReset (2 ^ 8) 2).wrb F.AON_SAVESTAT_CRCERR bad)

/-- The nanoseconds of `n` AON cycles (R113). -/
def aonNs (n : Nat) : Nat := n * 1000000000 / 32768

/-- The group timers of the controllers restart (R429). -/
def State.groupsRestart (s : State) : State :=
  s.upto 5 (fun c s => s.upto 32 (fun g s =>
    if s.bit (F.ICU_GRP_RUN c g) then s.after (75 * s.rd (F.ICU_GRP_TLIM c g)) (groupEvent c g) else s))

/-- The cores go on (R582): a core that a HOLD bit held starts at its reset vector, since HOLD reads 0 again.
Log entry 37 (DEDUCED). -/
def State.coresResume (s : State) : State :=
  s.upto 4 (fun c s =>
    if !(s.core c).released then s
    else if (s.core c).run == .held then s.coreGo c
    else (s.cwdStart c).setReady (8 + c) true)

/-- One drive-base cycle of the exit from DORMANT: the DRAM leaves self-refresh (R587). -/
def State.exitStep (s : State) : State :=
  match s.wakeAt with
  | none => s
  | some a => if s.now = a + us 2290 then s.dramReady else s

/-- WAKE_COMPLETE (R582, R587): system time, TICK, cores, readiness, STANDBY. Log entry 37 (DEDUCED). -/
def execWakeComplete (s0 : State) : Result :=
  let s := s0.cancel .wakeComplete
  match s.wakeAt with
  | none => ok s
  | some _ =>
    let s1 := ((s.timeAdd (aonNs (s.rd F.AON_DCYC_N))).on F.TICK_STATUS_APPROX).setReg A.AON_PWRSTAT 0x2AA
    let s2 := { s1.tickStart false with wakeAt := none, dormAt := none, auxOn := true, auxAt := s.now }
    let s3 := (if s2.bit F.SYS_READY_DRAM then id else State.dramReady) (s2.setMode .standby)
    let s4 := ([0, 1, 2, 3, 7].foldl (fun s k => s.setReady k true) s3).fbWake
    ok (((s4.coresResume.irq 107).mwdtStart.groupsRestart.pwrFlag 0).stoSample.stoLook.isoLook.after (ms 12) .mainsLoss)

/-! ### The AON timer, pads and DIO -/

/-- AON_TIMER_EXPIRE (R586, R595): the count of a running timer reaches 0. Log entry 38 (DEDUCED). -/
def execAonTimerExpire (s0 : State) : Result :=
  let s := s0.cancel .aonTimerExpire
  ok (if s.bit F.AON_TMR_EN && decide (s.rd F.AON_TMR_CNT ≤ 1) then
    let s1 := ({ s with expAt := some s.instant }.wr F.AON_TMR_CNT 0).off0 F.AON_TMR_EN
    let s2 := if s1.bit F.AON_TMR_EXP then s1 else (s1.on F.AON_TMR_EXP).irq 107
    s2.fire 80 0
   else s)

/-- A write of AON_PADREL (R590). -/
def State.padWrite (s : State) (v : Word) : State :=
  if getBits v 0 8 = 0xA5 ∧ s.bit F.AON_PADREL_HELD then (s.off0 F.AON_PADREL_HELD).dioFollowAll else s

/-- The outside gives the contact of DIO `k` level `b`. Log entry 131 (DEDUCED). -/
def State.dioOutside (s : State) (k : Nat) (b : Bool) : State :=
  { s with dioExt := setBits s.dioExt k 1 (if b then 1 else 0) }

/-- DIO_EDGE (R308, R590): contact `k` crosses its threshold to `level`; a driven contact goes only to the level it is driven to.
Log entry 131 (DEDUCED). -/
def execDioEdge (k : Fin 16) (level : Bool) (s0 : State) : Result :=
  let s := s0.cancel (.dioEdge k level)
  if s.mode == .off then ok ((s.dioOutside k level).setBitAt F.AON_DIOIN_IN k level)
  else
    match s.dioDriven k with
    | some b => ok (if b == level then s.dioEdge k level else s.dioOutside k level)
    | none => ok ((s.dioOutside k level).dioEdge k level)

/-! ### SHUTDOWN and the logic BIST (R76, R591-R593) -/

/-- SHUTDOWN is entered (R74, R591). -/
def State.shutdownEnter (s : State) : State :=
  let s1 := ((s.off0 F.SYS_MODESTAT_PEND).learnAbort.setMode .shutdown).sessCloseAll
  let s2 := s1.upto 6 (fun q t => if s.encOn q then t.encLost q else t)
  (s2.isoLook.driveAll.brakeLook.stoLook).after (ms 5) .lbistStart

/-- LBIST_START (R449, R591). Log entry 40 (DESIGN CHOICE). -/
def execLbistStart (s0 : State) : Result :=
  let s := s0.cancel .lbistStart
  if s.mode != .shutdown || s.bistRunning then ok s
  else
    let s1 := (s.upto 16 (fun n s => s.dmaAbort n)).driveStop.fabStop.mwdtStop
    let s2 := { s1 with
      fromShutdown := s1.bit F.SYS_MODEREQ_END, wakeLatch := none, windows := [], bistRunning := true
      alarms := s1.alarms.filter (fun p => match p.2 with | .dioEdge _ _ => true | _ => false)
      auxOn := false, bulkOk := false, dmaBuf := [], farOps := [] }
    ok (s2.dramSleep.stoLook.isoLook)

/-- Whether no unit of P5 is blank. -/
def State.lbistFull (s : State) : Bool := (List.range 256).all (fun i => !s.unitBlank (lbistBase + 32 * i))

/-- LBIST_DONE (R591): the signatures are compared, and the tested logic is reset. Log entry 40 (DESIGN CHOICE). -/
def execLbistDone (app saf : Bool) (s : State) : Result :=
  if !s.bistRunning || s.mode != .shutdown || s.due .lbistRecordWritten then ok s
  else
    let s1 := { s with
      lbist := (if app then 1 else 0) + (if saf then 2 else 0)
      regs := s.regs.filter (fun p => aonReg p.1), cores := [], sess := [] }
    let s2 := ((s1.wr F.SYS_MODE_MODE 7).setReg A.CRY_OTPSTAT (s.reg A.CRY_OTPSTAT))
    ok (s2.after (us 20 + if s2.lbistFull then ms 25 else 0) .lbistRecordWritten)

/-- The BIST record programmed into the first blank unit, P5 erased before when there is none (R592).
Log entry 40 (DESIGN CHOICE). -/
def State.lbistRecord (s : State) : State :=
  let s0 := if s.lbistFull && s.compactNeeded then (s.journalAdd s.journalActive 3 0 (1 - s.journalActive)).compactEnd else s
  let s1 := if s0.lbistFull then
      (((s0.journalAdd s0.journalActive 1 0 5).sectorErase 0 5).journalAdd s0.journalActive 2 0 5) else s0
  match (List.range 256).find? (fun i => s1.unitBlank (lbistBase + 32 * i)) with
  | none => s1
  | some i =>
    let seq := s1.lbistRecords.foldl (fun (m : Nat) (r : Nat × Nat) => max m r.1) 0 + 1
    s1.unitProgram (lbistBase + 32 * i)
      (crcUnit ([0x4C, 0x42, 0x53, 0x54] ++ leBytes 4 seq ++ [BitVec.ofNat 8 s1.lbist, BitVec.ofNat 8 (s1.rd F.SYS_ID_HWREV), 0, 0]
        ++ leBytes 4 38000 ++ List.replicate 12 0))

/-- LBIST_RECORD_WRITTEN (R75, R76, R591): SHUTDOWN ends as END chose. -/
def execLbistRecordWritten (s0 : State) : Result :=
  let s := s0.cancel .lbistRecordWritten
  if !s.bistRunning || s.mode != .shutdown then ok s
  else
    let s1 := s.lbistRecord
    if s1.fromShutdown then
      ok { ((s1.off0 F.AON_SAVESTAT_VALID).dormantBegin) with bistRunning := false, dormAt := some s1.now }
    else ok { s1.powerOff with offHold := true, bootAt := s1.now }

end Sys2Proof.Machine
end

