-- ==== Sys2Proof/Machine/Sys.lean ====
section
/-! DEFINITION. Mode requests (R70-R80, R548) and the events of the safety partition that reset the module (R535, R549). -/
namespace Sys2Proof.Machine

/-! ### Mode requests -/

/-- Whether a writer may request a mode (R70). -/
def State.modeWriter (s : State) (w : Writer) : Bool :=
  match w with
  | .coreA _ sup => sup
  | .coreS => true
  | .rom => true
  | .host k => !s.isDebug (.host k) && (s.rights k.val).testBit 2
  | _ => false

/-- Whether some Zenou-A core runs. -/
def State.anyApp (s : State) : Bool := s.rd F.SYS_READY_APP != 0

/-- Whether FLC, a DMA channel or a session is busy (R74, R100). Log entry 22 (DEDUCED). -/
def State.busyFor (s : State) (dormant : Bool) : Bool :=
  !s.flcQueue.isEmpty || s.flcOp != .idle || (dormant && ((List.range 16).any (fun n => s.dmaBusy n) || s.anySession))

/-- Whether an enabled axis that its lane drives lacks the position that it needs for RUN (R237): mode 4 needs one too, unless
OPENSTART is 1. Log entry 23 (DEDUCED). -/
def State.anyLacking (s : State) : Bool :=
  (List.range 24).any (fun a =>
    s.bit (F.PWM_AX_CTL_OEN a) && s.laneDrives a && !s.bit (F.FB_AX_STAT_POSVALID a)
      && !(s.leMode a == 4 && s.inForce (F.LE_AX_CTL_OPENSTART a) != 0))

/-- Whether every enabled Caldera lane runs. -/
def State.lanesReady (s : State) : Bool := s.bit F.SYS_READY_LE

/-- The first of the listed reasons whose condition fails, 0 for none (R72). Log entry 19 (DEDUCED). -/
def firstReason : List (Nat × Bool) → Nat
  | [] => 0
  | (k, true) :: _ => k
  | (_, false) :: t => firstReason t

/-- The reason that refuses a change from the present mode to `target`, 0 for none (R72, R74, R100). Log entry 19 (DEDUCED). -/
def State.modeReason (s : State) (target : Nat) : Nat :=
  match s.mode, Mode.ofCode target with
  | .standby, .armed =>
    firstReason [(3, !s.bit F.SAF_CONSENT_ARM || s.consentHeld), (4, s.bit F.SAF_STATUS_STO), (5, !s.bit F.SYS_READY_BUS),
      (6, s.calMissing), (11, s.latchBlocks), (13, !s.anyApp)]
  | .armed, .run =>
    firstReason [(3, !s.bit F.SAF_CONSENT_RUN), (6, s.calMissing), (7, s.anyLacking), (8, !s.bit F.SYS_READY_GEY50),
      (14, !s.lanesReady)]
  | .run, .armed => 0
  | .armed, .standby => 0
  | .safeStop, .standby => firstReason [(9, s.anyCausePresent)]
  | .standby, .dormant => firstReason [(10, s.busyFor true)]
  | .standby, .shutdown => firstReason [(10, s.busyFor false)]
  | _, _ => 1

/-- A request refused because of its writer (R70): the pending request, if any, stays. Log entry 21 (DEDUCED). -/
def State.modeWriterRefuse (s : State) : State :=
  ((s.on F.SYS_MODESTAT_REFUSED).wr F.SYS_MODESTAT_REASON 2).irq 80

/-- An accepted request: at once for DORMANT and SHUTDOWN, for the acknowledge from SAFE_STOP, else at the next frame tick. -/
def State.modeAccept (s : State) (target : Nat) : State :=
  match s.mode, Mode.ofCode target with
  | .standby, .dormant => s.dormantAccept
  | .standby, .shutdown => s.shutdownEnter
  | .safeStop, _ => (s.on F.SYS_MODESTAT_PEND).after (ms 100) .safeStopAckTimeout
  | _, _ => s.on F.SYS_MODESTAT_PEND

/-- A write of SYS_MODEREQ (R70-R72, R548). Log entry 21 (DEDUCED). -/
def State.modeRequest (s : State) (w : Writer) (v : Word) : State :=
  if !s.modeWriter w then s.modeWriterRefuse
  else if s.bit F.SYS_MODESTAT_PEND then s.on F.SYS_MODESTAT_REQ_LOST
  else
    let t := getBits v 0 3
    let s1 := ((s.wr F.SYS_MODEREQ_TARGET t).wr F.SYS_MODEREQ_END (getBits v 4 1)).irqS 17
    let r := s1.modeReason t
    if r = 0 then s1.modeAccept t else s1.modeRefuse r

/-- What a change to mode `m` brings at a frame tick (R74, R77, R235, R262). -/
def State.modeTake (s : State) (m : Mode) : State :=
  let s0 := s.off0 F.SYS_MODESTAT_PEND
  let s1 := if s0.mode == .run then (s0.learnAbort.setMode m).leaveRun else s0.setMode m
  let s2 := if m == .run then s1.loopInitAll else s1
  s2.isoLook.driveAll.brakeLook.stoLook

/-- The pending request at a frame tick: checked again, then taken (R72). -/
def State.modeTick (s : State) : State :=
  if s.bit F.SYS_MODESTAT_PEND && s.modeIn [.standby, .armed, .run] && s.dormAt.isNone then
    let t := s.rd F.SYS_MODEREQ_TARGET
    let r := s.modeReason t
    if r = 0 then s.modeTake (Mode.ofCode t) else s.modeRefuse r
  else s

/-! ### Resets asked for by the safety partition -/

/-- Zenou-S stops and makes no further write (R535). -/
def State.safetyHalt (s : State) : State := s.setCore 4 { s.core 4 with run := .stopped, sbuf := [] }

/-- LOCKSTEP_MISMATCH (R535): STO at once, both halves stop, a LOCKSTEP reset is requested. -/
def execLockstepMismatch (s : State) : Result :=
  if s.modeIn [.off, .dormant] || (s.core 4).run == .held || s.bistRunning then ok s
  else ok (({ s with stoForce := true }.stoAssert).safetyHalt.requestReset 3)

/-- The module watchdog expires (R549). -/
def State.mwdtExpired (s : State) : State := ({ s.mwdtStop with stoForce := true }.stoAssert).requestReset 2

/-- MWDT_EXPIRE (R549). -/
def execMwdtExpire (s : State) : Result :=
  ok (if s.due .mwdtExpire && !s.mwdtFrozen then s.mwdtExpired else s)

/-- A write of SAF_MWDT_SVC by Zenou-S (R549): 0x6D and 0x92 in turn; anything else expires the watchdog. -/
def State.mwdtService (s : State) (v : Word) : State :=
  if !s.due .mwdtExpire then s
  else if getBits v 0 8 = (if s.mwdtSecond then 0x92 else 0x6D) then { s with mwdtSecond := !s.mwdtSecond }.mwdtStart
  else s.mwdtExpired

end Sys2Proof.Machine
end

