-- ==== Sys2Proof/Machine/Dbg.lean ====
section
/-! DEFINITION. The DBG and TST registers (R596-R617): who may write them, the virtual terminal, the authorisation handshake and
the perturbation settings. -/
namespace Sys2Proof.Machine

/-- Whether an access comes from an authorised debugger (R609, R610). -/
def State.debugOk (s : State) (w : Writer) : Bool :=
  match w with
  | .debugger => s.bit F.DBG_AUTHSTAT_OK
  | .host k => s.isDebug (.host k)
  | _ => false

/-- Whether a writer is core `c` itself. -/
def ownCore (w : Writer) (c : Nat) : Bool :=
  match w with
  | .coreA n sup => n.val == c && sup
  | .coreS => c == 4
  | _ => false

/-- Whether a writer may write the DBG_Cn registers of core `c` (R603). -/
def State.dbgMay (s : State) (w : Writer) (c : Nat) : Bool := ownCore w c || isSafety w || s.debugOk w

/-- A write of `v` at `a` that R603 refuses: the flag stays where the write asks for nothing that is not held (R19). -/
def State.dbgRefuse (s : State) (a : Nat) (v : Word) : State := if s.asksChange a v then s.on F.DBG_STATUS_WR_REFUSED else s

/-- A reserved value (R597, R616). -/
def State.dbgCfgErr (s : State) : State := s.on F.DBG_STATUS_CFG_ERR

/-- A write of DBG_CTL (R597, R603). -/
def State.dbgCtlWrite (s : State) (w : Writer) (v : Word) : State :=
  if !isSafety w && !s.debugOk w then s.dbgRefuse A.DBG_CTL v
  else
    let l := getBits v 0 3
    let s1 := if l = 0 ∨ l = 7 then s.dbgCfgErr else s.wr F.DBG_CTL_MONLVL l
    s1.wr F.DBG_CTL_SIDEFX (getBits v 3 1)

/-- A HALT request (R597, R604): Zenou-S takes it in STANDBY only. -/
def State.halt (s : State) (c : Nat) : State :=
  if c = 4 ∧ s.mode ≠ .standby then s.on (F.DBG_C_STAT_MISSED c) else s.on (F.DBG_C_STAT_HALTPEND c)

/-- A write of DBG_Cn_CMD. -/
def State.dbgCmdWrite (s : State) (w : Writer) (c : Nat) (v : Word) : State :=
  if !s.dbgMay w c then s.dbgRefuse (A.DBG_C_CMD c) v else if v.getLsbD 0 then s.halt c else s

/-- A write of a breakpoint register (R598, R616): PRIVF 3 is not taken. -/
def State.bpWrite (s : State) (c k : Nat) (v : Word) : State :=
  let a := A.DBG_C_BP c k
  if getBits v 45 2 = 3 then (s.setReg a (setBits (rowWrite true (fieldsAt a) (s.reg a) v) 45 2 (s.rd (F.DBG_C_BP_PRIVF c k)))).dbgCfgErr
  else s.setReg a (rowWrite true (fieldsAt a) (s.reg a) v)

/-- A write of a watchpoint register (R599, R616): a LEN above 20 is not taken. -/
def State.wpWrite (s : State) (c k : Nat) (v : Word) : State :=
  let a := A.DBG_C_WP c k
  if 20 < getBits v 41 5 then (s.setReg a (setBits v 41 5 (s.rd (F.DBG_C_WP_LEN c k)))).dbgCfgErr else s.setReg a v

/-- A write of DBG_Cn_TXD (R606): a core's write sets TXFULL or is discarded; a debugger's changes the word only. -/
def State.txdWrite (s : State) (w : Writer) (c : Nat) (v : Word) : State :=
  if !s.dbgMay w c then s.dbgRefuse (A.DBG_C_TXD c) v
  else if s.debugOk w then s.setReg (A.DBG_C_TXD c) v
  else if s.bit (F.DBG_C_VTSTAT_TXFULL c) then s.on (F.DBG_C_VTSTAT_TXOVF c)
  else (s.setReg (A.DBG_C_TXD c) v).on (F.DBG_C_VTSTAT_TXFULL c)

/-- A write of DBG_Cn_RXD (R606): a debugger's write sets RXFULL or is discarded; a core's changes the word only. -/
def State.rxdWrite (s : State) (w : Writer) (c : Nat) (v : Word) : State :=
  if !s.dbgMay w c then s.dbgRefuse (A.DBG_C_RXD c) v
  else if !s.debugOk w then s.setReg (A.DBG_C_RXD c) v
  else if s.bit (F.DBG_C_VTSTAT_RXFULL c) then s.on (F.DBG_C_VTSTAT_RXOVF c)
  else
    let s0 := { s with rxWas := Tab.put s.rxWas c (s.reg (A.DBG_C_RXD c), s.instant) }
    let s1 := (s0.setReg (A.DBG_C_RXD c) v).on (F.DBG_C_VTSTAT_RXFULL c)
    if s1.bit (F.DBG_C_VTSTAT_IEN_RX c) && decide (c < 4) then s1.edge c 109 else s1

/-- Whether reader `r` is core `c`, at any privilege. -/
def readsOwn (r : Writer) (c : Nat) : Bool :=
  match r with
  | .coreA n _ => n.val == c
  | .coreS => c == 4
  | _ => false

/-- The word of DBG_Cn_RXD that a debugger's write of this cycle replaced, if there was such a write (R606). -/
def State.rxdOld (s : State) (c : Nat) : Option Word :=
  match Tab.find s.rxWas c with
  | some x => if s.thisCycle (some x.2) then some x.1 else none
  | none => none

/-- A read of DBG_Cn_RXD (R602, R606): the core's own read pops, and a debugger's with SIDEFX.  In the cycle of a debugger's write a core
reads the old word and pops nothing. -/
def State.rxdRead (s : State) (r : Writer) (c : Nat) : Word × State :=
  match if readsOwn r c then s.rxdOld c else none with
  | some v => (v, s)
  | none =>
    (s.reg (A.DBG_C_RXD c),
      if readsOwn r c || (s.isDebug r && s.bit F.DBG_CTL_SIDEFX) then s.off0 (F.DBG_C_VTSTAT_RXFULL c) else s)

/-- A write of another register of instance `c` (R603). -/
def State.dbgCoreWrite (s : State) (w : Writer) (c addr : Nat) (v : Word) : State :=
  let o := addr % 0x100
  if !s.dbgMay w c then s.dbgRefuse addr v
  else if 0x20 ≤ o ∧ o < 0x60 then s.bpWrite c ((o - 0x20) / 8) v
  else if 0x60 ≤ o ∧ o < 0x80 then s.wpWrite c ((o - 0x60) / 8) v
  else s.plainWrite w addr v

/-! ### Authorisation (R609) -/

/-- The challenge. -/
def State.authNonce (s : State) : List Byte := Config.random s.authDraw 32

/-- DBG_AUTHNONCEk as it reads. -/
def State.nonceWord (s : State) (k : Nat) : Word := BitVec.ofNat 48 (leNat ((s.authNonce.drop (6 * k)).take 6))

/-- The signature written to DBG_AUTHSIG0-10. -/
def State.authSigBytes (s : State) : List Byte :=
  ((List.range 11).flatMap (fun k => leBytes 6 (Tab.get 0 s.authSig k).toNat)).take 64

/-- A write of CMD 0x5A to DBG_AUTHCMD: verification starts, unless locked out or already running. -/
def State.authStart (s : State) (key : Nat) : State :=
  if s.bit F.DBG_AUTHSTAT_LOCKOUT || s.bit F.DBG_AUTHSTAT_BUSY then s
  else ({ s with authKey := some key }.on F.DBG_AUTHSTAT_BUSY).after (ms 1) .dbgAuthDone

/-- The rights mask of an owner key (R526). -/
def State.rightsMask (s : State) (key : Nat) : Nat := Tab.get 0x3F s.settings (256 * (0x10 + key))

/-- Whether the signature authorises: a usable key whose mask holds DEBUG. -/
def State.authGood (s : State) (key : Nat) : Bool :=
  s.keyUsable key && (s.rightsMask key).testBit 4
    && Config.ecdsaVerify (s.ownerKey key) (sha256 (s.authNonce ++ identBytes)) s.authSigBytes

/-- DBG_AUTH_DONE (R609): verification ends; each attempt draws a new challenge. -/
def execDbgAuthDone (s0 : State) : Result :=
  let s := s0.cancel .dbgAuthDone
  match s.authKey with
  | none => ok s
  | some key =>
    let good := s.authGood key
    let s1 := { s with authKey := none, authDraw := s.authDraw + 1 }.off0 F.DBG_AUTHSTAT_BUSY
    if good then ok (s1.on F.DBG_AUTHSTAT_OK)
    else
      let n := s1.rd F.DBG_AUTHSTAT_FAILS + 1
      let s2 := s1.wr F.DBG_AUTHSTAT_FAILS (min 3 n)
      ok (if 3 ≤ n then s2.on F.DBG_AUTHSTAT_LOCKOUT else s2)

/-- A write of DBG_AUTHCMD. -/
def State.authWrite (s : State) (v : Word) : State :=
  let c := getBits v 0 8
  if c = 0x5A then s.authStart (getBits v 8 2) else if c = 0xC1 then s.off0 F.DBG_AUTHSTAT_OK else s

/-- A write of DBG_AUTHSIGk. -/
def State.sigWrite (s : State) (k : Nat) (v : Word) : State := { s with authSig := Tab.set 0 s.authSig k v }

/-! ### TST (R611-R613, R617) -/

/-- A refused write of a TST register. -/
def State.tstRefuse (s : State) : State := s.on F.TST_CTL_WR_REFUSED

/-- Whether the mode lets the TST registers be written (R613). -/
def State.tstOpen (s : State) : Bool := s.bit F.TST_CTL_TEST_ENABLE && s.modeIn [.standby, .armed]

/-- A write of TST_CTL (R613): in RUN only EN bits may clear. -/
def State.tstCtlWrite (s : State) (v : Word) : State :=
  let old := s.rd F.TST_CTL_EN
  let new := getBits v 3 7
  let s0 := if v.getLsbD 10 then s.off0 F.TST_CTL_WR_REFUSED else s
  if new = old then s0
  else if s.tstOpen || (s.mode == .run && s.bit F.TST_CTL_ACTIVE && Nat.land new (127 - old) == 0) then s0.wr F.TST_CTL_EN new
  else s0.tstRefuse

/-- Whether field values of a TST register are in range (R617). -/
def tstRange (r : Nat) (v : Word) : List (Nat × Nat × Bool) :=
  match r with
  | 2 => [(0, 10, decide (getBits v 0 10 ≤ 1000)), (10, 2, true)]
  | 3 => [(0, 16, decide (2 ≤ getBits v 0 16)), (16, 2, true), (18, 1, true), (24, 24, true)]
  | 4 => [(0, 8, decide (1 ≤ getBits v 0 8)), (8, 8, decide (getBits v 8 8 ≤ getBits v 0 8))]
  | 5 => [(0, 6, true), (6, 12, true), (18, 7, true), (25, 1, true)]
  | 6 => [(0, 6, true), (6, 8, true)]
  | 7 => [(0, 20, true)]
  | _ => [(0, 8, true), (16, 16, true)]

/-- A write of a TST register other than TST_CTL and TST_SAF. -/
def State.tstSetWrite (s : State) (r : Nat) (v : Word) : State :=
  let a := A.TST_CTL + 8 * r
  let fs := tstRange r v
  let same := fs.all (fun (f : Nat × Nat × Bool) => getBits v f.1 f.2.1 == s.rd ⟨a, f.1, f.2.1⟩)
  if same then s
  else if !s.tstOpen then s.tstRefuse
  else fs.foldl (fun s (f : Nat × Nat × Bool) => if f.2.2 then s.wr ⟨a, f.1, f.2.1⟩ (getBits v f.1 f.2.1) else s.tstRefuse) s

/-- A write of TST register `r` (R613). -/
def State.tstWrite (s : State) (w : Writer) (r : Nat) (v : Word) : State :=
  match r with
  | 0 => s.tstCtlWrite v
  | 1 =>
    if !isSafety w then s.spViol w A.TST_SAF
    else if getBits v 0 1 = s.rd F.TST_SAF_RUNOK then s
    else if s.tstOpen then (s.wr F.TST_SAF_RUNOK (getBits v 0 1)).tstLook else s.tstRefuse
  | _ => s.tstSetWrite r v

end Sys2Proof.Machine
end

