-- ==== Sys2Proof/Machine/Bus.lean ====
section
/-! DEFINITION. Register accesses (R17-R19, R32-R39, R45, R82, R83): what a 6-byte write or read at a register address does,
whoever makes it.  Each block's writes are sent to the operation of the register; a register without rules of its own takes the
field-by-field write of R19. -/
namespace Sys2Proof.Machine

/-- Instance and offset of address `a` in a group of `n` instances of `stride` bytes from `base`. -/
def inGroup (base stride n a : Nat) : Option (Nat × Nat) :=
  if base ≤ a ∧ a < base + stride * n then some ((a - base) / stride, (a - base) % stride) else none

/-! ### Writes, block by block -/

/-- SYS (R70, R95, R97, R99). -/
def State.writeSys (s : State) (w : Writer) (a : Nat) (v : Word) : State :=
  if a = A.SYS_MODEREQ then s.modeRequest w v
  else if a = A.SYS_RSTREQ then s.rstreqWrite w v
  else if a = A.SYS_CORERST then s.corerstWrite w v
  else if a = A.SYS_KEY then s.keyWrite w v
  else s.plainWrite w a v

/-- TICK (R104, R108). -/
def State.writeTick (s : State) (w : Writer) (a : Nat) (v : Word) : State :=
  if a = A.TICK_FRAME ∨ a = A.TICK_FCYC then s.tickWrite a v
  else if a = A.TICK_DONE then s.doneWrite v
  else s.plainWrite w a v

/-- TMR (R115-R118); bit 11 of IEN is reserved. -/
def State.writeTmr (s : State) (w : Writer) (a : Nat) (v : Word) : State :=
  if a = A.TMR_GSTART then s.gstartWrite v
  else if a = A.TMR_GSTOP then s.tmrStop (getBits v 0 16)
  else
    match inGroup 0x08030400 128 16 a with
    | some (t, o) =>
      if o = 0 then s.tmrCtlWrite w t v
      else if o = 0x08 then s.tmrCountWrite t v
      else if o = 0x10 then s.tmrReloadWrite t v
      else if 0x18 ≤ o ∧ o < 0x38 then s.tmrCmpWrite t ((o - 0x18) / 8) v
      else if o = 0x60 then s.plainWrite w a (v &&& ~~~(0x800 : Word))
      else s.plainWrite w a v
    | none => s.plainWrite w a v

/-- PWM (R134, R138, R142-R148). -/
def State.writePwm (s : State) (w : Writer) (a : Nat) (v : Word) : State :=
  match inGroup 0x08040100 64 6 a, inGroup 0x08040800 64 24 a with
  | some (q, o), _ => if o < 0x28 then s.quadCfgWrite q a v else if o = 0x38 then s.swtripWrite q v else s.plainWrite w a v
  | _, some (x, o) =>
    if o < 0x18 then s.dutyWrite x (o / 8) v else if o = 0x18 then s.axCtlWrite x v else s.plainWrite w a v
  | _, _ => s.plainWrite w a v

/-- ADC (R164, R175). -/
def State.writeAdc (s : State) (w : Writer) (a : Nat) (v : Word) : State :=
  if a = A.ADC_CALREQ then s.calReq v
  else
    match inGroup 0x08050100 64 6 a with
    | some (q, o) => if o = 0 then s.sampWrite q v else s.plainWrite w a v
    | none => s.plainWrite w a v

/-- CMP (R188, R191, R198, R199): thresholds, configurations and routes are Zenou-S's. -/
def State.writeCmp (s : State) (w : Writer) (a : Nat) (v : Word) : State :=
  if a = A.CMP_CLRALL then s.compClrAll w v
  else
    match inGroup 0x08060040 8 4 a, inGroup 0x08060100 32 58 a with
    | some (m, _), _ => if isSafety w then s.compRouteWrite m v else s.spViol w a
    | _, some (n, o) =>
      if o = 0x10 then s.compStatWrite w n v
      else if o = 0x18 then s.plainWrite w a v
      else if !isSafety w then s.spViol w a
      else if o = 0 then s.compThrWrite n v
      else s.compCfgWrite n v
    | _, _ => s.plainWrite w a v

/-- LE (R227-R231, R240, R252, R259). -/
def State.writeLe (s : State) (w : Writer) (a : Nat) (v : Word) : State :=
  if a = A.LE_PARAM_COMMIT then s.commitWrite v
  else if a = A.LE_LRN_CTL then s.learnCtlWrite v
  else if a = A.LE_LRN_BASE ∨ a = A.LE_LRN_LEN then s.learnBufWrite w a v
  else
    match inGroup 0x08071000 0x400 24 a with
    | some (x, o) =>
      if o = 0 then s.leCtlWrite x v
      else if o ≤ 0x28 then s.spWrite w x (o / 8 - 1) v
      else if o = 0xC8 then s.sealWrite x v
      else if 0x100 ≤ o then s.paramWrite x o v
      else s.plainWrite w a v
    | none => s.plainWrite w a v

/-- The registers of R299: CFG, CPE, SER, TRIG and LIM by their place in `fbCfgAddr`. -/
def fbCfgIx (o : Nat) : Option Nat :=
  if o < 0x20 then some (o / 8) else if o = 0x78 then some 4 else none

/-- FB (R274, R281, R291, R292, R298, R299). -/
def State.writeFb (s : State) (w : Writer) (a : Nat) (v : Word) : State :=
  match inGroup 0x08090100 64 2 a, inGroup 0x08091000 256 24 a with
  | some (n, o), _ => if o = 0 then s.emuCtlWrite n v else s.plainWrite w a v
  | _, some (x, o) =>
    match fbCfgIx o with
    | some r => s.fbCfgWrite x r v
    | none => if o = 0x68 then s.fbCmdWrite x v else s.plainWrite w a v
  | _, _ => s.plainWrite w a v

/-- EVR (R314, R315, R317, R320): in BOOT the settings come from the configuration image only. -/
def State.writeEvr (s : State) (w : Writer) (a : Nat) (v : Word) : State :=
  if s.mode == .boot && w != .rom then s
  else if a = A.EVR_FIRE0 then s.evrFireWrite false v
  else if a = A.EVR_FIRE1 then s.evrFireWrite true v
  else if a = A.EVR_GRPEN then s.grpEnWrite v
  else if a = A.EVR_GRPLOCK then s.evrGrpWrite F.EVR_GRPLOCK_LOCK v
  else
    match inGroup 0x080A0100 32 96 a with
    | some (ch, o) =>
      if o = 0 then s.evrCfgWrite w ch v
      else if o = 8 then s.evrSrcWrite ch v
      else if o = 0x10 then s.evrLinkWrite ch v
      else s.evrStatWrite w ch v
    | none => s.plainWrite w a v

/-- PWR and THM (R329, R346, R347). -/
def State.writePwr (s : State) (w : Writer) (a : Nat) (v : Word) : State :=
  if a = A.PWR_CTL then s.pwrCtlWrite w v
  else if a = A.PWR_SUPCTL then s.supctlWrite v
  else if a = A.PWR_BRKCTL then s.brkCtlWrite v
  else if a = A.PWR_BRKSTAT then s.brkStatWrite v
  else s.plainWrite w a v

/-- An interrupt controller (R419, R423-R425). -/
def State.writeIcu (s : State) (w : Writer) (c o : Nat) (v : Word) : State :=
  let a := icuBase c + o
  if o = 0x10 then s.icuEoi c v
  else if o = 0x30 then s.icuSwi c v
  else if 0x100 ≤ o ∧ o < 0x180 then s.icuPendWrite c ((o - 0x100) / 8) v
  else if 0x400 ≤ o ∧ o < 0x800 then s.icuCfgWrite c ((o - 0x400) / 8) v
  else if 0x800 ≤ o ∧ o < 0x900 then s.icuGrpWrite c ((o - 0x800) / 8) v
  else s.plainWrite w a v

/-- The controller instance and offset that an address of the ICU block names for an accessor; the alias at +0x8000 is its own
instance (R419). Log entry 18 (DESIGN CHOICE). -/
def icuPlace (w : Writer) (a : Nat) : Option (Nat × Nat) :=
  match inGroup 0x080C0000 0x1000 4 a, inGroup 0x080C8000 0x1000 1 a, w with
  | some p, _, _ => some p
  | _, some (_, o), .coreA n _ => some (n.val, o)
  | _, _, _ => none

/-- DMA (R442-R445, R449): in BOOT the boot ROM alone uses it. -/
def State.writeDma (s : State) (w : Writer) (a : Nat) (v : Word) : State :=
  if s.mode == .boot && w != .rom then s
  else if a = A.DMA_GSTART then s.dmaGstart v
  else if a = A.DMA_ABORTALL then s.dmaAbortAll v
  else if a = A.DMA_CTL then (s.plainWrite w a v).dmaKick
  else
    match inGroup 0x080D0100 64 16 a with
    | some (n, o) =>
      if o = 0x20 then s.dmaCtlWrite n v
      else if o < 0x20 then s.dmaRegWrite w n a v
      else s.plainWrite w a v
    | none => s.plainWrite w a v

/-- FLC (R458-R460, R474, R477). -/
def State.writeFlc (s : State) (w : Writer) (a : Nat) (v : Word) : State :=
  if a = A.FLC_CTL then (s.plainWrite w a v).flcKick
  else
    match inGroup 0x080E0100 32 16 a with
    | some (k, o) => if o = 0x10 then s.flcCtlWrite w k v else if o < 0x10 then s.flcRegWrite k a v else s
    | none => s.plainWrite w a v

/-- FAB (R503, R507, R509, R527, R530). -/
def State.writeFab (s : State) (w : Writer) (a : Nat) (v : Word) : State :=
  if a = A.FAB_CTL ∨ a = A.FAB_CFGID then s.fabCfgWrite w a v
  else if a = A.FAB_CYC_CTL ∨ a = A.FAB_CYC_REGION ∨ a = A.FAB_TIME_CTL ∨ (inGroup 0x080F1100 8 64 a).isSome then
    s.cycCfgWrite a v
  else if (inGroup 0x080F0800 8 128 a).isSome then s.routeWrite a v
  else
    match inGroup 0x080F0100 128 2 a, inGroup 0x080F1800 32 16 a with
    | some (p, o), _ => if o = 0 then s.portCtlWrite w p v else s.plainWrite w a v
    | _, some (n, o) => if o = 0x10 then s.sessCloseWrite n v else s.plainWrite w a v
    | _, _ => s.plainWrite w a v

/-- Whether a value of CRY_LEN lies in its range (R577). -/
def cryLenOk (v : Word) : Bool := decide (1 ≤ getBits v 0 24) && decide (getBits v 0 24 ≤ 8388608)

/-- CRY (R567); a length outside its range leaves the field unchanged (R18, R577). Log entry 80 (DEDUCED). -/
def State.writeCry (s : State) (w : Writer) (a : Nat) (v : Word) : State :=
  if a = A.CRY_CMD then s.cryCommand w v else if a = A.CRY_LEN ∧ !cryLenOk v then s else s.plainWrite w a v

/-- AON (R551, R586, R590): a changed output level reaches its contact; EXP stays 1 where it is cleared in the cycle of the expiry
(R594). -/
def State.writeAon (s : State) (w : Writer) (a : Nat) (v : Word) : State :=
  if a = A.AON_PADREL then s.padWrite v
  else
    match inGroup 0x08100060 8 4 a with
    | some (c, _) => s.cwdService w c v
    | none =>
      let s1 := s.plainWrite w a v
      (if a = A.AON_DIOOUT then s1.dioActions
        else if a = A.AON_TMR && s.sameAs s.expAt && s.bit F.AON_TMR_EXP then s1.on F.AON_TMR_EXP
        else s1).dioFollowAll

/-- DBG (R597-R609). -/
def State.writeDbg (s : State) (w : Writer) (a : Nat) (v : Word) : State :=
  if a = A.DBG_CTL then s.dbgCtlWrite w v
  else if a = A.DBG_AUTHCMD then s.authWrite v
  else
    match inGroup 0x08110050 8 11 a, inGroup 0x08110100 256 5 a with
    | some (k, _), _ => s.sigWrite k v
    | _, some (c, o) =>
      if o = 0x08 then s.dbgCmdWrite w c v
      else if o = 0x80 then s.txdWrite w c v
      else if o = 0x88 then s.rxdWrite w c v
      else s.dbgCoreWrite w c a v
    | _, _ => s.plainWrite w a v

/-- TST (R613). -/
def State.writeTst (s : State) (w : Writer) (a : Nat) (v : Word) : State :=
  match inGroup 0x08120000 8 9 a with
  | some (r, _) => s.tstWrite w r v
  | none => s

/-- The safety region, by Zenou-S (R32, R538-R553). -/
def State.writeSaf (s : State) (w : Writer) (a : Nat) (v : Word) : State :=
  if a = A.SAF_GATEEN then s.gateenWrite v
  else if a = A.SAF_STOCTL then s.stoctlWrite v
  else if a = A.SAF_ACK then s.ackWrite v
  else if a = A.SAF_MWDT_SVC then s.mwdtService v
  else if a = A.SAF_FAULT then s.faultClear w v
  else if a = A.SAF_NOTE then s.noteWrite v
  else
    match inGroup 0x0C000080 8 4 a, inGroup 0x0C001000 0x1000 1 a with
    | some (c, _), _ => s.cwdWrite w c v
    | _, some (_, o) => s.writeIcu w 4 o v
    | _, _ => s.plainWrite w a v

/-- The effect of a 6-byte write at register address `a`. -/
def State.regWrite (s : State) (w : Writer) (a : Nat) (v : Word) : State :=
  match a / 0x10000 with
  | 0x800 => s.writeSys w a v
  | 0x802 => s.writeTick w a v
  | 0x803 => s.writeTmr w a v
  | 0x804 => s.writePwm w a v
  | 0x805 => s.writeAdc w a v
  | 0x806 => s.writeCmp w a v
  | 0x807 => s.writeLe w a v
  | 0x809 => s.writeFb w a v
  | 0x80A => s.writeEvr w a v
  | 0x80B => s.writePwr w a v
  | 0x80C =>
    match icuPlace w a with
    | some (c, o) => s.writeIcu w c o v
    | none => s
  | 0x80D => s.writeDma w a v
  | 0x80E => s.writeFlc w a v
  | 0x80F => s.writeFab w a v
  | 0x810 => s.writeAon w a v
  | 0x811 => s.writeDbg w a v
  | 0x812 => s.writeTst w a v
  | 0x813 => s.writeCry w a v
  | 0xC00 => s.writeSaf w a v
  | _ => s.plainWrite w a v

/-! ### Who may access -/

/-- Whether any access can be made: power and clocks are there, and DORMANT has not been accepted (R20, R581, R591).
Log entry 35 (DEDUCED). -/
def State.busLive (s : State) : Bool :=
  !s.modeIn [.off, .dormant] && s.dormAt.isNone && !(s.mode == .shutdown && s.bistRunning)

/-- Whether a session's rights allow an access (R32, R70, R455, R526, R610). -/
def State.hostMay (s : State) (k a : Nat) (write : Bool) : Bool :=
  let right (b : Nat) : Bool := (s.rights k).testBit b
  s.sessOpen k && (right 4 ||
    (if !write then right 0
     else if a = A.SYS_MODEREQ then right 2
     else right 1 || (right 3 && a / 0x10000 == 0x80E)))

/-- What the hold of R83 lets a session write: descriptors, and the reset request in its unlock window.
Log entries 25 (DEDUCED), 76 (DEDUCED). -/
def holdWrites (a : Nat) : Bool := (inGroup 0x080E0100 32 16 a).isSome || a == A.SYS_KEY || a == A.SYS_RSTREQ

/-- Whether the mode lets the writer write registers (R34, R82, R83). -/
def State.bootMay (s : State) (w : Writer) (a : Nat) : Bool :=
  if s.mode != .boot then true
  else
    match w with
    | .coreS => true
    | .rom => true
    | .host _ => s.bit F.SYS_BOOTSTAT_HOLD && holdWrites a
    | _ => false

/-- What an unauthorised J-SVC debugger may reach (R608): DBG 0x000-0x0FF and SYS_ID. -/
def openRange (a : Nat) : Bool := (decide (0x08110000 ≤ a) && decide (a < 0x08110100)) || a == A.SYS_ID

/-- Whether the accessor reaches the register space at all: a session that is open, a debugger that is authorised or stays in the
open range. -/
def State.reaches (s : State) (w : Writer) (a : Nat) : Bool :=
  match w with
  | .host k => s.sessOpen k
  | .debugger => s.bit F.DBG_AUTHSTAT_OK || openRange a
  | _ => true

/-- Whether the accessor has the right to make the access at all. -/
def State.accessMay (s : State) (w : Writer) (a : Nat) (write : Bool) : Bool :=
  match w with
  | .host k => s.hostMay k a write
  | .debugger => s.bit F.DBG_AUTHSTAT_OK || openRange a
  | _ => true

/-- Whether a write that is made meets a refusal that its writer is told of: an SP field, a locked field, a DBG register of
R603 (R32, R45, R500, R608). -/
def State.fieldRefused (s : State) (w : Writer) (a : Nat) (v : Word) : Bool :=
  (!isSafety w && rowHasSP (fieldsAt a))
    || (match inGroup 0x080A0100 32 96 a with
        | some (ch, o) => decide (o < 0x18) && s.bit (F.EVR_CH_CFG_LOCK ch)
        | none => false)
    || (s.asksChange a v && ((a == A.DBG_CTL && !isSafety w && !s.debugOk w)
      || (match inGroup 0x08110100 256 5 a with
          | some (c, _) => !s.dbgMay w c
          | none => false)))

/-- A 6-byte write at address `a` of a register block: what refuses it, and the state after it. Log entry 9 (DESIGN CHOICE). -/
def State.busWrite (s : State) (w : Writer) (a : Nat) (v : Word) : Option AccErr × State :=
  if a % 8 ≠ 0 then (some .align, s)
  else if !s.busLive then (none, s)
  else if !s.reaches w a then (some .spField, s)
  else if region a = .saf && !isSafety w then (some .safety, s.spViol w a)
  else if a = A.SYS_MODEREQ && s.bootMay w a && !s.modeWriter w then (some .spField, s.modeRequest w v)
  else if !s.accessMay w a true || !s.bootMay w a then
    (some (if s.bootMay w a then .spField else .guarded), if !isSafety w && rowHasSP (fieldsAt a) then s.spViol w a else s)
  else (if s.fieldRefused w a v then some .spField else none, s.regWrite w a v)

/-! ### Reads -/

/-- PWM_AXa_STATUS as it reads: GEN and TRIPIN follow what they show (R133, R147). -/
def State.pwmStatus (s : State) (x : Nat) : Word :=
  setBits (setBits (s.reg (A.PWM_AX_STATUS x)) 1 1 (if s.gateEnable x then 1 else 0)) 2 1 (if s.tripLevel x then 1 else 0)

/-- EVR_CHn_STAT as it reads: ACTIVE follows its conditions (R305). -/
def State.evrStat (s : State) (ch : Nat) : Word :=
  setBits (s.reg (A.EVR_CH_STAT ch)) 1 1 (if s.evrActive ch then 1 else 0)

/-- Registers that show what other state holds; the others read as they are stored. Log entry 7 (DESIGN CHOICE). -/
def State.shown (s : State) (r : Writer) (a : Nat) : Word :=
  if a = A.TICK_OVR then
    setBits (setBits (s.reg a) 16 6 (bitsWord 6 (fun q => s.bit (F.LE_Q_STATUS_OVR q))).toNat) 22 1 (s.rd F.FAB_CYC_STAT_OVR)
  else if a = A.SYSTIME_EPOCH then s.epochRead r
  else if a = A.PWM_TRIPSUM then bitsWord 24 s.tripLevel
  else if a = A.CMP_LATSUM0 then bitsWord 48 (fun n => s.bit (F.CMP_CH_STAT_LATCH n))
  else if a = A.CMP_LATSUM1 then bitsWord 10 (fun n => s.bit (F.CMP_CH_STAT_LATCH (48 + n)))
  else if a = A.EVR_LOOPSUM0 then bitsWord 48 (fun n => s.bit (F.EVR_CH_STAT_LOOP n))
  else if a = A.EVR_LOOPSUM1 then bitsWord 48 (fun n => s.bit (F.EVR_CH_STAT_LOOP (48 + n)))
  else if a = A.FB_VALID then s.fbValidWord
  else if a = A.FLC_STATUS then s.flcStatus
  else if a = A.FAB_IDENT then Config.serial
  else if a = A.FAB_MAC then fabMac
  else if a = A.SAF_MWDT_REM then s.mwdtRem
  else if a = A.AON_SAVESTAT then setBits (s.reg a) 3 14 imageBytes
  else
    match a / 0x10000 with
    | 0x804 =>
      match inGroup 0x08040800 64 24 a with
      | some (x, o) => if o = 0x20 then s.pwmStatus x else s.reg a
      | none => s.reg a
    | 0x805 =>
      match inGroup 0x08050800 64 24 a with
      | some (x, o) =>
        if o = 0x08 then s.iuLatched r x 1
        else if o = 0x10 then s.iuLatched r x 2
        else if o = 0x18 then s.iuLatched r x 3
        else if o = 0x38 then s.iuLatched r x 4
        else s.reg a
      | none =>
        match inGroup 0x08050100 64 6 a with
        | some (q, o) => if o = 0x08 then setBits (s.reg a) 0 1 (if s.sampling q then 1 else 0) else s.reg a
        | none => s.reg a
    | 0x807 =>
      match inGroup 0x08071000 0x400 24 a with
      | some (x, o) => if 0x100 ≤ o then s.paramRead x a else s.reg a
      | none => s.reg a
    | 0x809 =>
      match inGroup 0x08091000 256 24 a with
      | some (x, o) =>
        if o = 0x20 then s.fbPos x
        else if o = 0x30 then wordOf (s.fbSpeed x)
        else if o = 0x38 then s.possLatched r x 1
        else if o = 0x40 then s.possLatched r x 2
        else s.reg a
      | none => s.reg a
    | 0x80A =>
      match inGroup 0x080A0100 32 96 a with
      | some (ch, o) => if o = 0x18 then s.evrStat ch else s.reg a
      | none => s.reg a
    | 0x811 =>
      match inGroup 0x08110020 8 6 a, inGroup 0x08110050 8 11 a with
      | some (k, _), _ => s.nonceWord k
      | _, some _ => 0
      | _, _ => s.reg a
    | 0xC00 =>
      match inGroup 0x0C0000A0 8 4 a with
      | some (c, _) => s.cwdRem c
      | none => s.reg a
    | _ => s.reg a

/-- A read of a controller's register (R421, R422, R431). -/
def State.icuRead (s : State) (r : Writer) (c o : Nat) : Word × State :=
  if o = 0x10 then s.icuClaim r c else if o = 0x18 then (s.icuStat c, s) else (s.reg (icuBase c + o), s)

/-- What a 6-byte read at register address `a` returns, and its side effects (R17). -/
def State.regRead (s : State) (r : Writer) (a : Nat) : Word × State :=
  if a = A.SYSTIME_NS then s.nsRead r
  else if a = A.FLC_ALLOC then s.flcAlloc r
  else
    match a / 0x10000 with
    | 0x803 =>
      match inGroup 0x08030400 128 16 a with
      | some (t, o) => if o = 0x38 then s.capRead r t 0 else if o = 0x40 then s.capRead r t 1 else (s.shown r a, s)
      | none => (s.shown r a, s)
    | 0x805 =>
      match inGroup 0x08050800 64 24 a with
      | some (x, o) => if o = 0 then s.iuRead r x else (s.shown r a, s)
      | none => (s.shown r a, s)
    | 0x809 =>
      match inGroup 0x08091000 256 24 a with
      | some (x, o) => if o = 0x28 then s.possRead r x else (s.shown r a, s)
      | none => (s.shown r a, s)
    | 0x80C =>
      match icuPlace r a with
      | some (c, o) => s.icuRead r c o
      | none => (0, s)
    | 0x811 =>
      match inGroup 0x08110100 256 5 a with
      | some (c, o) => if o = 0x88 then s.rxdRead r c else (s.shown r a, s)
      | none => (s.shown r a, s)
    | 0xC00 =>
      match inGroup 0x0C001000 0x1000 1 a with
      | some (_, o) => s.icuRead r 4 o
      | none => (s.shown r a, s)
    | _ => (s.shown r a, s)

/-- A 6-byte read at address `a` of a register block: what refuses it, the word, and the state after it. -/
def State.busRead (s : State) (r : Writer) (a : Nat) : Option AccErr × Word × State :=
  if a % 8 ≠ 0 then (some .align, 0, s)
  else if !s.busLive then (none, 0, s)
  else if !s.accessMay r a false then (some .spField, 0, s)
  else
    let x := s.regRead r a
    (none, x.1, x.2)

end Sys2Proof.Machine
end

