-- ==== Sys2Proof/Machine/DmaEngine.lean ====
section
/-! DEFINITION. Local accesses by engines and remote writers, far transactions (R42, R498-R500), and the DMA engines that move
elements (R440-R447). -/
namespace Sys2Proof.Machine

/-- A read of `n` bytes at local address `a`: what fails and where, the bytes, and the state after it. -/
def State.locRead (s : State) (r : Writer) (a n : Nat) : Option (AccErr × Nat) × List Byte × State :=
  if nodeOf a ≠ nodeOf (a + n - 1) then (some (.align, a), [], s)
  else if isRegion a || isRegion (a + n - 1) then
    if n = 6 then
      let x := s.busRead r a
      (x.1.map (fun e => (e, a)), leBytes 6 x.2.1.toNat, x.2.2)
    else (some (.align, a), [], s)
  else if !s.accessMay r a false then (some (.spField, a), [], s)
  else
    let x := s.memRead a n
    (x.1, if region a = .rom then (List.range n).map (fun i => romByte (a + i)) else x.2.bytes a n, x.2)

/-- A write of the bytes `l` at local address `a`: what fails and where, and the state after it. -/
def State.locWrite (s : State) (w : Writer) (a : Nat) (l : List Byte) : Option (AccErr × Nat) × State :=
  let n := l.length
  if nodeOf a ≠ nodeOf (a + n - 1) then (some (.align, a), s)
  else if isRegion a || isRegion (a + n - 1) then
    if n = 6 then
      let x := s.busWrite w a (BitVec.ofNat 48 (leNat l))
      (x.1.map (fun e => (e, a)), x.2)
    else (some (.align, a), s)
  else
    let may : Bool := match w with
      | .host _ => s.mode != .boot && s.accessMay w a true
      | _ => s.accessMay w a true
    if may then s.memWrite w a l
    else
      match s.memWriteErr w a n with
      | some (.safety, _) => (some (.safety, a), if s.reaches w a then s.spViol w a else s)
      | _ => (some (if s.accessMay w a true then .guarded else .spField, a), s)

/-! ### Far transactions -/

/-- The event of the timeout of owner `i`'s far transaction. -/
def farEvent (i : Nat) : Instr := .farTimeout (Fin.ofNat 21 i)

/-- A far transaction is sent in the session that FAB_FARCTL.SESS names (R498, R499); without an ID, a session or a route nothing
leaves, and the timeout ends it. Log entry 71 (DEDUCED). -/
def State.farSend (s : State) (x : FarOp) : State :=
  let op := { x with tag := s.farTag }
  let slot := s.rd F.FAB_FARCTL_SESS
  let payload := beBytes 4 op.tag ++ beBytes 2 slot ++ beBytes 4 (localOf op.addr) ++ beBytes 2 op.count
    ++ [BitVec.ofNat 8 op.esize, 0] ++ op.bytes
  let s1 := { s with farTag := (s.farTag + 1) % 2 ^ 32, farOps := s.farOps ++ [op] }.after (us (s.rd F.FAB_FARCTL_TMO)) (farEvent op.owner)
  if s1.bit F.FAB_NODE_VALID && s1.sessOpen slot then
    s1.sendTo s1.hostAddr [] (if op.write then 7 else 6) flagAuth (nodeOf op.addr) payload (some (s1.session slot).mac)
  else s1

/-- The registers of a failed far access (R498, R500, R508): status 8 is the timeout. -/
def State.farFail (s : State) (status addr : Nat) : State :=
  let s1 := (s.wr F.FAB_FARSTAT_LAST status).wr F.FAB_FARADDR_ADDR addr
  let flag := if status = 8 then F.FAB_FARSTAT_TMOFLG else F.FAB_FARSTAT_REFFLG
  let s2 := if status = 8 then s1.inc F.FAB_FARSTAT_TMOCNT else if status ≤ 7 then s1.inc F.FAB_FARSTAT_REFCNT else s1
  if s2.bit flag then s2 else (s2.on flag).irq 104

/-- The transaction of owner `i` is over. -/
def State.farDrop (s : State) (i : Nat) : State :=
  { s with farOps := s.farOps.filter (fun x => x.owner != i) }.cancel (farEvent i)

/-! ### The DMA engines -/

/-- The writer that channel `n` is. -/
def dmaWriter (n : Nat) : Writer := .dma (Fin.ofNat 16 n)

/-- What refuses an element of `size` bytes at a pointer, before any access (R41, R44). -/
def pointerErr (p size : Nat) : Option AccErr :=
  if 2 ^ 41 ≤ p then some .outside else if nodeOf p ≠ nodeOf (p + size - 1) then some .align else none

/-- How many elements of `size` bytes from pointer `p`, at most `most`, one far transaction carries (R498).
Log entry 71 (DEDUCED). -/
def farPack (p size stride most : Nat) : Nat :=
  if stride = size then max 1 (min most (min (1024 / size) ((2 ^ 30 - localOf p) / size))) else 1

/-- The read of channel `n` has met an element that cannot be read (R444). Log entry 70 (DEDUCED). -/
def State.dmaReadFail (s : State) (n cause addr : Nat) : State :=
  { s with dmaBuf := s.dmaBuf ++ [(n + 16 * cause, addr, [])] }.dmaKick

/-- `k` elements read from the source pointer on enter the buffer. -/
def State.dmaTake (s : State) (n : Nat) : List (List Byte) → State
  | [] => s
  | l :: t =>
    let p := s.reg (A.DMA_CH_SRC n)
    let s1 := { s with dmaBuf := s.dmaBuf ++ [(n, p.toNat, l)], dmaRd := (n, s.dmaRd.2 + l.length) }
    (s1.setReg (A.DMA_CH_SRC n) (dmaStep p (s1.rd (F.DMA_CH_STRIDE_SSTR n)))).dmaTake n t

/-- DMA_ELEMENT_READ (R440-R444, R498): the next element of channel `n` enters the buffer, or a far read is sent.
Log entry 69 (DESIGN CHOICE). -/
def execDmaElementRead (n : Fin 16) (s0 : State) : Result :=
  let s := s0.cancel (.dmaElementRead n)
  let held := (s.dmaHeld n).length
  let left := s.rd (F.DMA_CH_CNT_COUNT n) - held
  let size := s.dmaSize n
  if !s.dmaBusy n || left = 0 || s.dmaFar n || s.dmaReadEnd n || s.dmaFrozen || 2048 < (held + 1) * size then ok s
  else
    let p := (s.reg (A.DMA_CH_SRC n)).toNat
    match pointerErr p size with
    | some e => ok (s.dmaReadFail n e.dmaCause p)
    | none =>
      if !s.isLocal p then
        let k := farPack p size (s.rd (F.DMA_CH_STRIDE_SSTR n)) (min left (2048 / size - held))
        ok ((s.farSend { FarOp.init with owner := 5 + n.val, addr := p, esize := size, count := size * k }).dmaKick)
      else
        let x := s.locRead (dmaWriter n) (localOf p) size
        match x.1 with
        | some (e, a) => ok (x.2.2.dmaReadFail n e.dmaCause (p - localOf p + a))
        | none => ok (x.2.2.dmaTake n [x.2.1]).dmaKick

/-- `k` elements of channel `n` are written: DST and CNT move on (R443). -/
def State.dmaAdvance (s : State) (n k : Nat) : State :=
  (List.range k).foldl (fun s _ =>
    (s.setReg (A.DMA_CH_DST n) (dmaStep (s.reg (A.DMA_CH_DST n)) (s.rd (F.DMA_CH_STRIDE_DSTR n)))).wr (F.DMA_CH_CNT_COUNT n)
      (s.rd (F.DMA_CH_CNT_COUNT n) - 1)) s

/-- The channel is complete once nothing is left (R443); the engines go on. -/
def State.dmaSettle (s : State) (n : Nat) : State :=
  (if s.rd (F.DMA_CH_CNT_COUNT n) = 0 && s.dmaBusy n then s.dmaDone n else s).dmaKick

/-- The buffer without its first `k` entries of channel `n`. -/
def dropEntries (n : Nat) : Nat → List (Nat × Nat × List Byte) → List (Nat × Nat × List Byte)
  | 0, l => l
  | _, [] => []
  | k + 1, e :: t => if e.1 % 16 = n then dropEntries n k t else e :: dropEntries n (k + 1) t

/-- Whether a refused write ends the channel (R444): a write to an SP field does not. -/
def dmaRefusal : AccErr → Bool
  | .spField => false
  | _ => true

/-- The first element of channel `n` in the buffer is written at its destination, or a far write is sent.
Log entry 71 (DEDUCED). -/
def State.dmaPut (s : State) (n src : Nat) (l : List Byte) : State :=
  let size := s.dmaSize n
  let sw := s.rd (F.DMA_CH_CTL_SWAP n)
  let p := (s.reg (A.DMA_CH_DST n)).toNat
  match pointerErr p size with
  | some e => (s.dmaError n e.dmaCause true p).dmaKick
  | none =>
    if !s.isLocal p then
      let els := (s.dmaHeld n).map (fun e => e.2.2)
      let k := farPack p size (s.rd (F.DMA_CH_STRIDE_DSTR n)) els.length
      let data := (els.take k).flatMap (fun b => swapBytes sw b)
      let s1 := { s with dmaBuf := dropEntries n k s.dmaBuf }
      (s1.farSend { FarOp.init with owner := 5 + n, write := true, addr := p, esize := size, count := size * k, reg := src, bytes := data }).dmaKick
    else
      let x := s.locWrite (dmaWriter n) (localOf p) (swapBytes sw l)
      match x.1 with
      | some (e, a) =>
        if dmaRefusal e then (x.2.dmaError n e.dmaCause true (p - localOf p + a)).dmaKick
        else ({ x.2 with dmaBuf := dropEntries n 1 x.2.dmaBuf }.dmaAdvance n 1).dmaSettle n
      | none => ({ x.2 with dmaBuf := dropEntries n 1 x.2.dmaBuf }.dmaAdvance n 1).dmaSettle n

/-- The oldest element of channel `n` in the buffer is written, when no other channel's that could be written stands before it.
Log entry 69 (DESIGN CHOICE). -/
def State.dmaElementWrite (s0 : State) (n : Fin 16) : State :=
  let s := s0.cancel (.dmaElementWrite n)
  match s.dmaBuf.find? (fun e => !s.dmaFar (e.1 % 16)) with
  | none => s
  | some e =>
    if e.1 % 16 ≠ n.val || s.dmaFrozen then s
    else if 16 ≤ e.1 then (s.dmaError n (e.1 / 16) false e.2.1).dmaKick
    else s.dmaPut n e.2.1 e.2.2

/-- DMA_ELEMENT_WRITE (R440-R446). Log entry 69 (DESIGN CHOICE). -/
def execDmaElementWrite (n : Fin 16) (s : State) : Result := ok (s.dmaElementWrite n)

/-- The DMA writes that are due in this drive-base cycle: they come before a write of the fabric or the debugger in the same cycle
(R33). Log entry 135 (DEDUCED). -/
def State.dmaFirst (s : State) : State :=
  s.upto 16 (fun n s =>
    if s.alarms.any (fun p => decide (p.1 ≤ s.now) && p.2 == .dmaElementWrite (Fin.ofNat 16 n)) then
      { { s with clocked := true }.dmaElementWrite (Fin.ofNat 16 n) with clocked := s.clocked }
    else s)

/-- The state in which a writer's store lands: after the writes of its cycle that rank before it (R33); at the DMA block itself after
what the write engine does in the cycle (R448). Log entry 135 (DEDUCED). -/
def State.ranked (s : State) (w : Writer) (a : Nat) : State :=
  match w with
  | .host _ => s.dmaFirst
  | .fabric => s.dmaFirst
  | .debugger => s.dmaFirst
  | _ => if a / 0x10000 = 0x80D then s.dmaFirst else s

/-- A response to the far transaction `op` of channel `n` (R498-R500): `status`, elements done, data. -/
def State.dmaFarEnd (s : State) (n : Nat) (op : FarOp) (status done : Nat) (data : List Byte) : State :=
  if op.write then
    let total := op.count / op.esize
    let k := if status = 0 then total else min done (total - 1)
    let s1 := s.dmaAdvance n k
    let nextSrc := (List.range k).foldl (fun p _ => dmaStep p (s.rd (F.DMA_CH_STRIDE_SSTR n))) (BitVec.ofNat 48 op.reg)
    if status = 0 then
      if op.sext then
        let s2 := s1.dmaSetBusy n false
        if s2.rd (F.DMA_CH_CNT_COUNT n) = 0 then s2.dmaDone n
        else (if (s1.dmaHeld n).isEmpty then s2.setReg (A.DMA_CH_SRC n) nextSrc else s2).on (F.DMA_CH_STAT_ABORTED n)
      else s1.dmaSettle n
    else
      let s2 := s1.dmaDiscard n
      ((s2.setReg (A.DMA_CH_SRC n) nextSrc).dmaError n 6 true (s2.reg (A.DMA_CH_DST n)).toNat).dmaKick
  else if status = 0 then
    let k := op.count / op.esize
    ((s.dmaTake n ((List.range k).map (fun i => (data.drop (i * op.esize)).take op.esize))).dmaKick)
  else s.dmaReadFail n 6 op.addr

/-! ### Accesses that are commands -/

/-- The end of an access by a writer whose unlock window spans one access (R377): a window that was open before it closes.
Log entry 34 (DEDUCED). -/
def windowAfter (w : Writer) (before after : State) : State :=
  match w with
  | .host _ => if before.windowOpen (writerKey w) then after.windowClose (writerKey w) else after
  | .debugger => if before.windowOpen (writerKey w) then after.windowClose (writerKey w) else after
  | _ => after

/-- A register write as a command. Log entries 9 (DESIGN CHOICE), 135 (DEDUCED). -/
def State.cmdWrite (s : State) (w : Writer) (a : Nat) (v : Word) : State := windowAfter w s ((s.ranked w a).busWrite w a v).2

/-- A register read as a command: the word is shown in `rdata`. Log entry 9 (DESIGN CHOICE). -/
def State.cmdRead (s : State) (r : Writer) (a : Nat) : State :=
  let x := s.busRead r a
  { windowAfter r s x.2.2 with rdata := x.2.1 }

end Sys2Proof.Machine
end

