-- ==== Sys2Proof/Machine/ZCore.lean ====
section
/-! DEFINITION. The Zenou cores as they execute (R352-R380, R406-R418, R596-R604): registers, region descriptors, exception
entry, escalation, lockup and the debug monitor. -/
namespace Sys2Proof.Machine

/-! ### Registers (R359, R360, R367) -/

/-- The physical register that a register field names: w0-w31 through WB, g0-g7 at 256-263. -/
def State.regIx (s : State) (c r : Nat) : Nat := if r < 32 then ((s.sreg c 1).toNat + r) % 256 else 256 + (r - 32)

/-- The value of the register that field `r` names. -/
def State.getR (s : State) (c : Nat) (r : BitVec 6) : Word := Tab.get 0 (s.core c).wregs (s.regIx c r.toNat)

/-- `s` with a physical register of core `c` holding `v`. -/
def State.setPhys (s : State) (c i : Nat) (v : Word) : State :=
  s.setCore c { s.core c with wregs := Tab.set 0 (s.core c).wregs i v }

/-- `s` with the register that field `r` names holding `v`. -/
def State.setR (s : State) (c : Nat) (r : BitVec 6) (v : Word) : State := s.setPhys c (s.regIx c r.toNat) v

/-- The address of core `c`'s next instruction. -/
def State.pc (s : State) (c : Nat) : Word := (s.core c).pc

/-- `s` with core `c`'s next instruction at `a`. -/
def State.setPc (s : State) (c : Nat) (a : Word) : State := s.setCore c { s.core c with pc := a }

/-- `s` with core `c` doing `r`. -/
def State.setRun (s : State) (c : Nat) (r : CoreRun) : State := s.setCore c { s.core c with run := r }

/-- Whether a special-register number is in the table of R367. -/
def sregExists (n : Nat) : Bool := decide (n ≤ 7) || (decide (0x12 ≤ n) && decide (n ≤ 0x21)) || (decide (0x40 ≤ n) && decide (n ≤ 0x5F))

/-- The bits of special register `n` that MTSR writes (R367, R412). Log entry 118 (DEDUCED). -/
def sregMask (n : Nat) : Word :=
  match n with
  | 0 => 0x3
  | 1 => 0xF8
  | 2 => 0xFFFFFFFFFFFF
  | 3 => 0x3FFFFFFF
  | 4 => 0
  | 5 => 0
  | 6 => 0xFFFFFFFFFFFF
  | 7 => 0xFFFFFFFF
  | _ =>
    if n < 0x40 then (if n % 2 = 0 then 0x1FFFFFFFFFF else 0x3F)
    else if n % 2 = 0 then 0x1FFFFFFFF3F else 0x1FFFFFFFF00

/-- What MFSR reads (R367). -/
def State.readSreg (s : State) (c n : Nat) : Word := if n = 0 then s.psr c else s.sreg c n

/-- What MTSR writes: the writable bits of the register take those of `v`. Log entry 118 (DEDUCED). -/
def State.writeSreg (s : State) (c n : Nat) (v : Word) : State :=
  s.setSreg c n ((s.sreg c n &&& ~~~(sregMask n)) ||| (v &&& sregMask n))

/-! ### Region descriptors (R369) -/

/-- What a core does at an address. -/
inductive ZAccess where
  | load
  | store
  | fetch
  deriving DecidableEq, Repr

/-- The lowest-numbered descriptor of core `c` that matches address `a`. -/
def State.descriptor (s : State) (c a : Nat) : Option Nat :=
  (List.range 16).find? (fun n =>
    let lo := s.sreg c (0x40 + 2 * n)
    lo.getLsbD 0 && decide (getBits lo 8 33 ≤ a / 256 % 2 ^ 33) && decide (a / 256 % 2 ^ 33 ≤ getBits (s.sreg c (0x41 + 2 * n)) 8 33))

/-- Whether the descriptors of core `c` let an access of a kind at address `a` be made at a privilege. -/
def State.permits (s : State) (c : Nat) (sup : Bool) (k : ZAccess) (a : Nat) : Bool :=
  match s.descriptor c a with
  | none => sup
  | some n =>
    let lo := s.sreg c (0x40 + 2 * n)
    match k with
    | .load => lo.getLsbD (if sup then 3 else 1)
    | .store => lo.getLsbD (if sup then 4 else 2)
    | .fetch => !lo.getLsbD 5 && lo.getLsbD (if sup then 3 else 1)

/-! ### Fetch (R37, R43, R355, R370, R382, R434) -/

/-- Whether address `a` lies in core `c`'s own I-SRAM, by its local or its own global address. -/
def State.ownIsram (s : State) (c a : Nat) : Bool :=
  decide (a < 2 ^ 41) && s.isLocal a && decide (isramBase c ≤ localOf a) && decide (localOf a < isramBase c + 0x40000)

/-- The first failing address of a fetch of 6 bytes at `a` by R37, R369 and R370. -/
def State.fetchDenied (s : State) (c : Nat) (sup : Bool) (a : Nat) : Option Nat :=
  if a % 2 ≠ 0 then some a
  else
    match (rowParts a 6).find? (fun p =>
      !(s.permits c sup .fetch p.1 && s.permits c sup .fetch (p.1 + p.2 - 1) && s.ownIsram c p.1 && s.ownIsram c (p.1 + p.2 - 1))) with
    | some p => some p.1
    | none => none

/-- The fetch of an instruction at `a`: the failing address, if any, and the state after the codes were checked.
Log entry 109 (DESIGN CHOICE). -/
def State.fetchAt (s : State) (c a : Nat) : Option Nat × State :=
  match s.fetchDenied c (s.psrSup c) a with
  | some x => (some x, s)
  | none =>
    (rowParts a 6).foldl (fun (acc : Option Nat × State) p =>
      match acc with
      | (some x, s) => (some x, s)
      | (none, s) =>
        let r := s.eccRead (localOf p.1) p.2
        (if r.1 then some p.1 else none, r.2)) (none, s)

/-! ### The window state -/

/-- The window group WB / 8. -/
def State.wbGroup (s : State) (c : Nat) : Nat := (s.sreg c 1).toNat / 8 % 32

/-- WRES.RESBELOW. -/
def State.resBelow (s : State) (c : Nat) : Nat := getBits (s.sreg c 4) 0 5

/-- The free groups (R362). -/
def State.freeGroups (s : State) (c : Nat) : Nat := 28 - s.resBelow c

/-- WDEPTH.N. -/
def State.wdepth (s : State) (c : Nat) : Nat := getBits (s.sreg c 3) 0 30

/-- `s` with WB, WSP, WDEPTH or RESBELOW of core `c` replaced. -/
def State.setWbGroup (s : State) (c g : Nat) : State := s.setSreg c 1 (BitVec.ofNat 48 (8 * (g % 32)))

/-- WSP replaced. -/
def State.setWsp (s : State) (c : Nat) (a : Word) : State := s.setSreg c 2 a

/-- WDEPTH.N replaced. -/
def State.setWdepth (s : State) (c n : Nat) : State := s.setSreg c 3 (setBits (s.sreg c 3) 0 30 n)

/-- WRES.RESBELOW replaced. -/
def State.setResBelow (s : State) (c n : Nat) : State := s.setSreg c 4 (setBits (s.sreg c 4) 0 5 n)

/-- WRES.PEND_ERR replaced. Log entry 115 (DEDUCED). -/
def State.setPendErr (s : State) (c : Nat) (b : Bool) : State := s.setSreg c 4 (setBits (s.sreg c 4) 5 1 (if b then 1 else 0))

/-- WRES.CAUSE replaced. -/
def State.setWcause (s : State) (c n : Nat) : State := s.setSreg c 4 (setBits (s.sreg c 4) 8 2 n)

/-- The lowest resident group below the live window. -/
def State.lowGroup (s : State) (c : Nat) : Nat := (s.wbGroup c + 32 - s.resBelow c) % 32

/-- Whether the engine's policy spills (R363). Log entry 120 (DEDUCED). -/
def State.wantsSpill (s : State) (c : Nat) : Bool := decide (s.freeGroups c < 3)

/-- Whether the engine's policy fills (R363). Log entry 120 (DEDUCED). -/
def State.wantsFill (s : State) (c : Nat) : Bool := decide (s.resBelow c < 3) && decide (0 < s.wdepth c) && decide (3 < s.freeGroups c)

/-- The event of a spill. -/
def spillEvent (c : Nat) : Instr := .windowSpill (Fin.ofNat 5 c)

/-- The event of a fill. -/
def fillEvent (c : Nat) : Instr := .windowFill (Fin.ofNat 5 c)

/-- In throughput mode the engine starts its next move, which takes 9 cycles of the core (R364). Log entry 120 (DEDUCED). -/
def State.policyLater (s : State) (c : Nat) : State :=
  if s.deterministic c || getBits (s.sreg c 4) 5 1 = 1 || s.due (spillEvent c) || s.due (fillEvent c) then s
  else if s.wantsSpill c then s.after 5 (spillEvent c)
  else if s.wantsFill c then s.after 5 (fillEvent c)
  else s

/-! ### Exceptions (R407-R413, R417, R418, R431) -/

/-- The synchronous exceptions (R407). -/
inductive Exc where
  | fetch
  | data
  | align
  | priv (forge : Bool)
  | illegal
  | spill
  | trap
  deriving DecidableEq, Repr

/-- The vector index of an exception. -/
def Exc.index : Exc → Nat
  | .fetch => 2 | .data => 3 | .align => 4 | .priv _ => 5 | .illegal => 6 | .spill => 7 | .trap => 8

/-- Whether an exception is the privilege-forge fault. -/
def Exc.forge : Exc → Bool
  | .priv f => f
  | _ => false

/-- The CAUSE code of an exception (R431). -/
def Exc.code (e : Exc) : Nat := e.index + (if e.forge then 16 else 0)

/-- The address of vector `i` of core `c` (R407). -/
def vector (c i : Nat) : Nat := isramBase c + 0x18 * i

/-- The SPS of an entry through vector `i` (R412). -/
def State.spsNow (s : State) (c i : Nat) (forge chain : Bool) (depth : Nat) : Word :=
  let p := if s.psrSup c then 1 else 0
  let w := setBits (setBits (setBits (setBits 0 0 1 p) 1 1 (if s.psrIE c then 1 else 0)) 2 3 (s.psrLevel c)) 5 1 (if s.psrMon c then 1 else 0)
  let w1 := setBits (setBits (setBits w 6 1 p) 8 4 i) 12 1 (if forge then 1 else 0)
  setBits (setBits w1 13 1 (if chain then 1 else 0)) 16 30 depth

/-- The resume address as SPC holds it (R412). -/
def spcOf (a : Word) : Word := setBits 0 0 41 a.toNat

/-- Save set `n` of core `c` written. -/
def State.saveSet (s : State) (c n : Nat) (spc : Word) (sps : Word) : State := (s.setSreg c (spcReg n) (spcOf spc)).setSreg c (spsReg n) sps

/-- What every entry does last: the reservation and the unlock window close, and the handler's first instruction is next. -/
def State.enterAt (s : State) (c i : Nat) : State :=
  let s1 := s.setCore c { s.core c with resv := none, fresh := true, exempt := none, run := .running, pc := BitVec.ofNat 48 (vector c i) }
  s1.windowClose (writerKey (s1.coreWriter c))

/-- Core `c` locks up (R418, R536): Zenou-S is signalled; its own lockup asserts STO. Log entry 123 (DEDUCED). -/
def State.lockup (s : State) (c : Nat) : State :=
  let s1 := s.setRun c .lockup
  if c = 4 then { s1 with stoForce := true }.stoAssert else s1.irqS (10 + c)

/-- ICU_FCAUSE and ICU_FADDR of core `c`'s controller (R431): an exception without an address leaves ADDR open.
Log entries 116 (DEDUCED), 117 (DESIGN CHOICE). -/
def State.faultRegs (s : State) (c cause level esc : Nat) (addr : Option Nat) : State :=
  let x := match addr with
    | some a => (BitVec.ofNat 48 a, s)
    | none => s.fresh
  let s1 := x.2
  let s2 := (s1.wr (F.ICU_FCAUSE_CAUSE c) cause).wr (F.ICU_FCAUSE_LEVEL c) level
  ((s2.wr (F.ICU_FCAUSE_ESCCAUSE c) esc).wrb (F.ICU_FCAUSE_ESC c) (esc != 0)).setReg (A.ICU_FADDR c) x.1

/-- Escalation (R408, R417, R418): level 7 through vector 1 with the values that the exception would have saved.
Log entry 116 (DEDUCED). -/
def State.escalateAs (s : State) (c : Nat) (code : Nat) (spc sps : Word) (addr : Option Nat) : State :=
  if (s.fetchDenied c true (vector c 1)).isSome then s.lockup c
  else
    let s1 := (s.saveSet c 7 spc (setBits sps 16 30 (s.wdepth c))).faultRegs c 1 7 code addr
    let wsp := s1.sreg c 2
    let s2 := (s1.setSreg c 2 (s1.sreg c 6)).setSreg c 6 wsp
    let s3 := s2.setSreg c 4 (setBits (s2.sreg c 4) 5 1 0)
    ((s3.setPsr c true false 7).enterAt c 1).policyLater c

/-- Escalation of an exception of the present state. -/
def State.escalate (s : State) (c : Nat) (code : Nat) (spc : Word) (addr : Option Nat) : State :=
  s.escalateAs c code spc (s.spsNow c 1 (code.testBit 4) false 0) addr

/-- A synchronous exception of core `c` with its resume address (R408, R410). -/
def State.exception (s : State) (c : Nat) (e : Exc) (spc : Word) (addr : Option Nat) : State :=
  let l := s.psrLevel c
  if l = 7 then s.lockup c
  else if l = 6 then s.escalate c e.code spc addr
  else
    match s.fetchDenied c true (vector c e.index) with
    | some a => s.escalate c Exc.fetch.code spc (some a)
    | none =>
      let s1 := (s.saveSet c (l + 1) spc (s.spsNow c e.index e.forge false 0)).faultRegs c e.code (l + 1) 0 addr
      (s1.setPsr c true (s1.psrIE c) (l + 1)).enterAt c e.index

/-- Core `c` takes an interrupt of level `m` (R410, R411). -/
def State.takeInterrupt (s : State) (c m : Nat) : State :=
  match s.fetchDenied c true (vector c (9 + m)) with
  | some a => s.escalate c Exc.fetch.code (s.pc c) (some a)
  | none =>
    let s1 := s.saveSet c m (s.pc c) (s.spsNow c (9 + m) false false 0)
    (s1.setPsr c true (s1.psrIE c) m).enterAt c (9 + m)

/-- The level of an interrupt that core `c` takes at its next boundary (R411, R420, R421, R600), 0 for none. -/
def State.deliverable (s : State) (c : Nat) : Nat :=
  let m := s.icuRequest c
  let held := (s.core c).stepping && !s.bit (F.DBG_C_CTL_STEPINT c) && decide (m ≤ s.rd F.DBG_CTL_MONLVL)
  if s.psrIE c && decide (s.psrLevel c < m) && !(s.core c).fresh && !held then m else 0

/-! ### The debug monitor (R596-R604) -/

/-- The causes of a monitor entry, by their bits in DBG_Cn_STAT.CAUSE. -/
def causeBP : Nat := 1
/-- A watchpoint. -/
def causeWP : Nat := 2
/-- A BRK. -/
def causeBRK : Nat := 4
/-- A HALT request. -/
def causeHALT : Nat := 8
/-- A step. -/
def causeSTEP : Nat := 16

/-- Whether core `c` may take a monitor cause now (R597, R604). -/
def State.monitorMay (s : State) (c : Nat) : Bool :=
  !s.coreMon c && decide (s.psrLevel c < s.rd F.DBG_CTL_MONLVL) && (c != 4 || s.mode == .standby)

/-- The monitor is entered with `causes` and resume address `spc` (R410, R596, R597, R600, R601). -/
def State.monitorEnter (s : State) (c causes : Nat) (spc : Word) : State :=
  match s.fetchDenied c true (vector c 9) with
  | some a => s.escalate c Exc.fetch.code spc (some a)
  | none =>
    let halt := if s.bit (F.DBG_C_STAT_HALTPEND c) then causeHALT else 0
    let step := if (s.core c).stepping then causeSTEP else 0
    let s1 := s.saveSet c 8 spc (s.spsNow c 9 false false 0)
    let s2 := s1.wr (F.DBG_C_STAT_CAUSE c) (causes ||| halt ||| step)
    let s3 := (s2.on (F.DBG_C_STAT_MONST c)).off0 (F.DBG_C_STAT_HALTPEND c)
    let s4 := if (s.core c).stepping then s3.off0 (F.DBG_C_CTL_STEP c) else s3
    let s5 := s4.setCore c { s4.core c with stepping := false }
    ((s5.setPsr c true (s5.psrIE c) (s5.rd F.DBG_CTL_MONLVL)).enterAt c 9)

/-- A breakpoint that matches the instruction at the pc of core `c` (R598). -/
def State.breakpoint (s : State) (c : Nat) : Option Nat :=
  let a := s.pc c
  if (s.core c).exempt == some a.toNat then none
  else (List.range 8).find? (fun k =>
    let b := s.reg (A.DBG_C_BP c k)
    let f := getBits b 45 2
    b.getLsbD 47 && getBits b 0 41 == a.toNat && (f == 0 || (f == 1 && !s.psrSup c) || (f == 2 && s.psrSup c)))

/-- A completed data access of an instruction: address, bytes, whether it stored. -/
abbrev Done := Nat × Nat × Bool

/-- The watchpoint that an access matches first, and the first matching byte (R599). -/
def State.watchpoint (s : State) (c : Nat) (d : Done) : Option (Nat × Nat) :=
  (List.range d.2.1).findSome? (fun i =>
    ((List.range 4).find? (fun k =>
      let w := s.reg (A.DBG_C_WP c k)
      let n := 2 ^ getBits w 41 5
      (if d.2.2 then w.getLsbD 47 else w.getLsbD 46) && getBits w 0 41 / n == (d.1 + i) / n)).map (fun k => (k, d.1 + i)))

/-- The causes at the end of an instruction: watchpoints, and the step (R597, R599, R600). Log entry 119 (DEDUCED). -/
def State.afterInstruction (s : State) (c : Nat) (acc : List Done) (stepped : Bool) : State :=
  match acc.findSome? (fun d => s.watchpoint c d) with
  | some (k, a) =>
    if s.monitorMay c then
      ((s.wr (F.DBG_C_STAT_WPHIT c) k).wr (F.DBG_C_WADDR_ADDR c) a).monitorEnter c causeWP (s.pc c)
    else s.on (F.DBG_C_STAT_MISSED c)
  | none => if stepped && (s.core c).stepping && s.monitorMay c then s.monitorEnter c 0 (s.pc c) else s

/-! ### One instruction -/

/-- What the effect of an instruction answers. -/
inductive ZOut where
  /-- complete, with the accesses it made; the next instruction follows -/
  | done (s : State) (acc : List Done)
  /-- complete, with control at an address -/
  | jump (s : State) (a : Word)
  /-- an element of a block instruction is done and others remain -/
  | again (s : State) (acc : List Done)
  /-- a synchronous exception, with the failing address of a fetch or data fault -/
  | raise (s : State) (e : Exc) (addr : Option Nat)
  /-- nothing more happens now: the core waits, was reset, or has been sent to a handler -/
  | left (s : State)

/-- Whether core `c` is clocked and out of reset (R380). -/
def State.coreClocked (s : State) (c : Nat) : Bool := s.dormAt.isNone && !s.modeIn [.off, .dormant] && !s.bistRunning && decide (c < 5)

/-- Whether core `c` executes: running, or waiting in WFI with something to wake it (R403).
Log entries 109 (DESIGN CHOICE), 123 (DEDUCED). -/
def State.executes (s : State) (c : Nat) : Bool :=
  s.coreClocked c && ((s.core c).run == .running
    || ((s.core c).run == .waiting && (s.icuRequest c != 0 || s.bit (F.DBG_C_STAT_HALTPEND c))))

/-- The end of an instruction of core `c`: nothing changes where the instruction's own effect stopped or reset the core. -/
def State.finish (s : State) (c : Nat) (pc : Word) (acc : List Done) : State :=
  if (s.core c).run == .running then
    (s.setCore c { s.core c with pc := pc, fresh := false, exempt := none }).afterInstruction c acc true
  else s

/-- What follows from the answer of an instruction's effect.  A store that takes Zenou-S out of STANDBY may have ended its monitor
state (R604), which then has set the next instruction. -/
def State.conclude (s : State) (c : Nat) (o : ZOut) : State :=
  match o with
  | .done t acc => if s.psrMon c && !t.coreMon c then t else t.finish c (s.pc c + 6) acc
  | .jump t a => t.finish c a []
  | .again t acc => t.finish c (s.pc c) acc
  | .raise t e addr =>
    (t.exception c e (if e = .trap then s.pc c + 6 else s.pc c) addr).afterInstruction c [] true
  | .left t => t

/-- The causes at the boundary before an instruction: HALT and the breakpoints (R597, R598, R604); the answer is `some` when
the monitor is entered instead of the instruction. Log entries 110 (DEDUCED), 119 (DEDUCED). -/
def State.atBoundary (s : State) (c : Nat) : State × Bool :=
  let halt := s.bit (F.DBG_C_STAT_HALTPEND c)
  let s0 := if c = 4 ∧ s.mode ≠ .standby ∧ halt then (s.off0 (F.DBG_C_STAT_HALTPEND c)).on (F.DBG_C_STAT_MISSED c) else s
  match s.breakpoint c with
  | some k =>
    if s0.monitorMay c then ((s0.wr (F.DBG_C_STAT_BPHIT c) k).monitorEnter c causeBP (s.pc c), true)
    else (s0.on (F.DBG_C_STAT_MISSED c), false)
  | none => if halt && s0.monitorMay c then (s0.monitorEnter c 0 (s.pc c), true) else (s0, false)

/-- One instruction at the boundary before it (R409): an interrupt, the monitor, the fetch, an illegal word, privilege, then the
effect.  `ill` says the word is illegal (R382), `sup` that it is supervisor-only.
Log entries 109 (DESIGN CHOICE), 110 (DEDUCED). -/
def State.instruction (s0 : State) (c : Nat) (ill sup : Bool) (effect : State → ZOut) : State :=
  if !s0.executes c then s0
  else
    let s := s0.setRun c .running
    if s.deliverable c ≠ 0 then (s.takeInterrupt c (s.deliverable c))
    else
      let b := s.atBoundary c
      if b.2 then b.1
      else if (s0.core c).run == .waiting && (s.core c).stepping && b.1.monitorMay c then b.1.monitorEnter c 0 (s.pc c)
      else
        let f := b.1.fetchAt c (s.pc c).toNat
        match f.1 with
        | some a => s.conclude c (.raise f.2 .fetch (some a))
        | none =>
          if ill then s.conclude c (.raise f.2 .illegal none)
          else if sup && !f.2.psrSup c then s.conclude c (.raise f.2 (.priv false) none)
          else s.conclude c (effect f.2)

end Sys2Proof.Machine
end

