-- ==== Sys2Proof/Machine/ZMem.lean ====
section
/-! DEFINITION. Data accesses of the Zenou cores (R38, R41, R44, R357, R358, R369, R371, R372, R437, R498): checks, the store
buffer, waits counted in DSTALL, and far transactions. -/
namespace Sys2Proof.Machine

/-! ### The store buffer of throughput mode (R357) -/

/-- The event that drains an entry. -/
def drainEvent (c : Nat) : Instr := .storeBufferDrain (Fin.ofNat 5 c)

/-- The oldest entry of core `c`'s store buffer is written; the core's own reservation does not answer to its earlier stores. -/
def State.drainOne (s : State) (c : Nat) : State :=
  match (s.core c).sbuf with
  | [] => s
  | e :: t =>
    let r := (s.core c).resv
    let s1 := s.setCore c { s.core c with sbuf := t }
    let s2 := (s1.memWrite (s1.coreWriter c) e.1 e.2).2
    s2.setCore c { s2.core c with resv := r }

/-- `n` entries drain. -/
def State.drainN (s : State) (c : Nat) : Nat → State
  | 0 => s
  | n + 1 => (s.drainOne c).drainN c n

/-- The whole buffer drains. Log entry 112 (DEDUCED). -/
def State.drain (s : State) (c : Nat) : State := (s.drainN c (s.core c).sbuf.length).cancel (drainEvent c)

/-- The oldest entries up to the last one that meets the `n` bytes from `x` drain (R357). -/
def State.drainFor (s : State) (c x n : Nat) : State :=
  let buf := (s.core c).sbuf
  let k := buf.length - buf.reverse.findIdx (fun e => decide (e.1 < x + n) && decide (x < e.1 + e.2.length))
  if k = buf.length then s.drain c else s.drainN c k

/-- The byte that the buffer holds for address `a`, from the youngest entry. -/
def bufferByte (l : List (Nat × List Byte)) (a : Nat) : Option Byte :=
  l.foldl (fun (r : Option Byte) e => if e.1 ≤ a ∧ a < e.1 + e.2.length then e.2[a - e.1]? else r) none

/-- One entry enters the buffer; with four there already the oldest drains first. -/
def State.bufferPush (s : State) (c a : Nat) (l : List Byte) : State :=
  let s1 := if 4 ≤ (s.core c).sbuf.length then s.drainOne c else s
  let s2 := s1.setCore c { s1.core c with sbuf := (s1.core c).sbuf ++ [(a, l)] }
  if s2.due (drainEvent c) then s2 else s2.after 1 (drainEvent c)

/-- STORE_BUFFER_DRAIN (R357): the oldest entry drains; the next one follows a cycle later. -/
def execStoreBufferDrain (c : Fin 5) (s0 : State) : Result :=
  let s := (s0.cancel (.storeBufferDrain c)).drainOne c
  ok (if (s.core c).sbuf.isEmpty then s else s.after 1 (drainEvent c))

/-! ### Waits (R437) -/

/-- The cycles of a Zenou-A core that an access of core `c` to a local target adds, with what the spec leaves to the moment from
a free value; only a running lane's reads delay an access to its tables (R248). Log entry 121 (DESIGN CHOICE). -/
def targetWait (c a parts free : Nat) (lane : Bool) : Nat :=
  match region a with
  | .isram n => if n = c then 0 else 4 + free
  | .dsram n => if n = c then 0 else 4 + free
  | .sIsram => if c = 4 then 0 else 4 + free
  | .sDsram => if c = 4 then 0 else 4 + free
  | .shared => 3 + free
  | .table => 6 + (if lane then free % 25 else 0)
  | .aon => 48
  | .flash _ => 30 * parts
  | .dram => 45 + free % 286
  | _ => 0

/-- `n` cycles are added to DSTALL, saturating (R358). -/
def State.stall (s : State) (c n : Nat) : State :=
  s.setSreg c 7 (BitVec.ofNat 48 (min (2 ^ 32 - 1) ((s.sreg c 7).toNat + n)))

/-- The added cycles of a local access in deterministic mode. Log entry 121 (DESIGN CHOICE). -/
def State.stallFor (s : State) (c a n : Nat) : State :=
  if !s.deterministic c || targetWait c a 1 0 false = 0 then s
  else
    let x := s.fresh
    let w := targetWait c a (rowParts a n).length x.1.toNat (s.laneOn (tableAxis a / 4) && !s.laneFrozen)
    x.2.stall c (if c = 4 then (w + 1) / 2 else w)

/-! ### Checks -/

/-- Whether an access of `n` bytes at a 48-bit address is misaligned: it crosses nodes (R44), or it is not a 6-byte access at a
multiple of 8 of the peripheral region (R38). -/
def State.misaligned (s : State) (a n : Nat) : Bool :=
  nodeOf a != nodeOf (a + n - 1)
    || (s.isLocal a && (isRegion (localOf a) || isRegion (localOf (a + n - 1))) && (n != 6 || localOf a % 8 != 0))

/-- What a fault of a core's access to a memory is (R36, R434): `none` for a write that is refused in silence (R32). -/
def AccErr.faults : AccErr → Bool
  | .safety => false
  | .spField => false
  | _ => true

/-- The answer of a data access: complete, with its bytes; a fault at an address; or a far transaction is needed. -/
inductive MOut where
  | got (s : State) (v : Nat)
  | fault (s : State) (e : Exc) (addr : Nat)
  | far (s : State)

/-- A load of memory in its rows (R369, R371, R372, R434): the first failing part, and the state after the codes were checked. -/
def State.loadParts (s : State) (c a n : Nat) (mem : Bool) : Option Nat × State :=
  (rowParts a n).foldl (fun (acc : Option Nat × State) p =>
    match acc with
    | (some x, s) => (some x, s)
    | (none, s) =>
      if !s.permits c (s.psrSup c) .load p.1 then (some p.1, s)
      else if mem then
        match s.readPart (localOf p.1) p.2 with
        | (some _, s1) => (some p.1, s1)
        | (none, s1) => (none, s1)
      else (if (s.readErr (localOf p.1)).isSome then some p.1 else none, s)) (none, s)

/-- The first part of a store that faults. -/
def State.storeFault (s : State) (c a n : Nat) : Option Nat :=
  ((rowParts a n).find? (fun p =>
    !s.permits c (s.psrSup c) .store p.1
      || (match s.writeErr (s.coreWriter c) (localOf p.1) with
          | some e => e.faults
          | none => false))).map (fun p => p.1)

/-! ### Loads and stores -/

/-- A load of `n` bytes by core `c` at a 48-bit address. -/
def State.zLoad (s : State) (c a n : Nat) : MOut :=
  if 2 ^ 41 ≤ a then .fault s .data a
  else if s.misaligned a n then .fault s .align a
  else if !s.isLocal a then
    if s.permits c (s.psrSup c) .load a && s.permits c (s.psrSup c) .load (a + n - 1) then .far (s.drain c) else .fault s .data a
  else
    let x := localOf a
    if isRegion x then
      if !s.permits c (s.psrSup c) .load a then .fault s .data a
      else
        let s1 := s.drain c
        let r := s1.busRead (s1.coreWriter c) x
        .got r.2.2 r.2.1.toNat
    else
      let slow := match region x with
        | .flash _ => true
        | .aon => true
        | _ => false
      let buf := (s.core c).sbuf
      let whole := !buf.isEmpty && (List.range n).all (fun i => (bufferByte buf (x + i)).isSome)
      if whole && !slow then
        match s.loadParts c a n false with
        | (some f, s1) => .fault s1 .data f
        | (none, s1) => .got s1 (leNat ((List.range n).map (fun i => (bufferByte buf (x + i)).getD 0)))
      else
        let s1 := if slow then s.drain c else s.drainFor c x n
        match s1.loadParts c a n true with
        | (some f, s2) => .fault s2 .data f
        | (none, s2) =>
          let l := if region x = .rom then (List.range n).map (fun i => romByte (x + i)) else s2.bytes x n
          .got (s2.stallFor c x n) (leNat l)

/-- A store of the bytes `l` by core `c` at a 48-bit address.  A peripheral register is written at once, after the buffered
stores; in throughput mode a store to another memory than the core's own I-SRAM enters the buffer (R357).
Log entry 112 (DEDUCED). -/
def State.zStore (s : State) (c a : Nat) (l : List Byte) : MOut :=
  let n := l.length
  if 2 ^ 41 ≤ a then .fault s .data a
  else if s.misaligned a n then .fault s .align a
  else if !s.isLocal a then
    if s.permits c (s.psrSup c) .store a && s.permits c (s.psrSup c) .store (a + n - 1) then .far (s.drain c) else .fault s .data a
  else
    let x := localOf a
    if isRegion x then
      if !s.permits c (s.psrSup c) .store a then .fault s .data a
      else
        let s1 := (s.drain c).ranked (s.coreWriter c) x
        .got (s1.busWrite (s1.coreWriter c) x (BitVec.ofNat 48 (leNat l))).2 0
    else
      match s.storeFault c a n with
      | some f => .fault s .data f
      | none =>
        let refused := (s.memWriteErr (s.coreWriter c) x n).isSome
        if s.deterministic c || s.ownIsram c x || refused then
          .got (((s.memWrite (s.coreWriter c) x l).2).stallFor c x n) 0
        else
          let own := match (s.core c).resv with
            | some r => if r < x + n ∧ x < r + 16 then s.resvClear c else s
            | none => s
          .got ((rowParts x n).foldl (fun s p => s.bufferPush c p.1 ((l.drop (p.1 - x)).take p.2)) own) 0

/-! ### Far transactions of a core (R498) -/

/-- Core `c` sends a far load or store and stalls until its end. Log entries 112 (DEDUCED), 121 (DESIGN CHOICE), 122 (DEDUCED). -/
def State.coreFar (s : State) (c : Nat) (op : FarOp) : State :=
  let x := s.fresh
  let s1 := if s.deterministic c then x.2.stall c x.1.toNat else s
  (s1.setRun c .stalled).farSend { op with owner := c }

/-- The value of `n` loaded bytes in a register, zero- or sign-extended. -/
def extendLoad (n : Nat) (sx : Bool) (v : Nat) : Word :=
  if sx && v.testBit (8 * n - 1) then BitVec.ofNat 48 (v + 2 ^ 48 - 2 ^ (8 * n)) else BitVec.ofNat 48 v

/-- A load instruction (R387). -/
def State.loadInsn (c n : Nat) (sx : Bool) (rd : BitVec 6) (a : Nat) (s : State) : ZOut :=
  match s.zLoad c a n with
  | .got t v => .done (t.setR c rd (extendLoad n sx v)) [(a, n, false)]
  | .fault t e x => .raise t e (some x)
  | .far t => .left (t.coreFar c { FarOp.init with addr := a, esize := n, count := n, reg := rd.toNat, sext := sx })

/-- A store instruction (R387). -/
def State.storeInsn (c n : Nat) (v : Word) (a : Nat) (s : State) : ZOut :=
  match s.zStore c a (leBytes n v.toNat) with
  | .got t _ => .done t [(a, n, true)]
  | .fault t e x => .raise t e (some x)
  | .far t => .left (t.coreFar c { FarOp.init with write := true, addr := a, esize := n, count := n, bytes := leBytes n v.toNat })

/-! ### Load-link and store-conditional (R375, R376, R400) -/

/-- Whether a core may reserve at an address: its own D-SRAM, shared SRAM, DRAM, all with node field 0 (R375); an address that
names this module by its own node ID is another target here. Log entry 136 (DESIGN CHOICE). -/
def reservable (c a : Nat) : Bool :=
  decide (a < 2 ^ 30) && (match region a with
    | .dsram n => n == c
    | .sDsram => c == 4
    | .shared => true
    | .dram => true
    | _ => false)

/-- Whether the address of LDL or STC is misaligned. -/
def linkMisaligned (a : Nat) : Bool := a % 2 != 0 || a / 16 != (a + 5) / 16

/-- LDL. Log entry 136 (DESIGN CHOICE). -/
def State.loadLink (c : Nat) (rd : BitVec 6) (a : Nat) (s : State) : ZOut :=
  if 2 ^ 41 ≤ a then .raise s .data (some a)
  else if linkMisaligned a then .raise s .align (some a)
  else if !reservable c a then .raise s .data (some a)
  else
    match s.zLoad c a 6 with
    | .got t v =>
      let t1 := t.setCore c { t.core c with resv := some (a / 16 * 16) }
      .done (t1.setR c rd (BitVec.ofNat 48 v)) [(a, 6, false)]
    | .fault t e x => .raise t e (some x)
    | .far t => .left t

/-- STC: the store buffer drains first; a store is made only while the reservation covers the row.
Log entries 113 (DEDUCED), 136 (DESIGN CHOICE). -/
def State.storeCond (c : Nat) (rd : BitVec 6) (v : Word) (a : Nat) (s0 : State) : ZOut :=
  if 2 ^ 41 ≤ a then .raise s0 .data (some a)
  else if linkMisaligned a then .raise s0 .align (some a)
  else if !reservable c a then .raise s0 .data (some a)
  else
    match s0.storeFault c a 6 with
    | some x => .raise s0 .data (some x)
    | none =>
      let s := s0.drain c
      if (s.core c).resv == some (a / 16 * 16) then
        let t := (s.memWrite (s.coreWriter c) a (leBytes 6 v.toNat)).2
        .done (((t.stallFor c a 6).resvClear c).setR c rd 1) [(a, 6, true)]
      else .done ((s.resvClear c).setR c rd 0) []

end Sys2Proof.Machine
end

