-- ==== Sys2Proof/Machine/ZWindow.lean ====
section
/-! DEFINITION. Register windows (R360-R366, R391-R394): the spill engine, windowed call and return. -/
namespace Sys2Proof.Machine

/-! ### The spill engine -/

/-- Whether the 48 bytes from `a` lie wholly in memory that may hold a window stack (R365). -/
def stackMemory (c a : Nat) : Bool :=
  let r := region a
  decide (a + 48 ≤ 2 ^ 30) && r == region (a + 47) && (match r with
    | .dsram n => n == c
    | .sDsram => c == 4
    | .shared => true
    | .dram => true
    | _ => false)

/-- Whether the 48 bytes from `a` may be read and written at supervisor privilege now. -/
def State.stackOpen (s : State) (c a : Nat) : Bool :=
  (List.range 3).all (fun k =>
    s.permits c true .load (a + 16 * k) && s.permits c true .store (a + 16 * k)
      && (s.readErr (a + 16 * k)).isNone && (s.writeErr (s.coreWriter c) (a + 16 * k)).isNone)

/-- Whether WSP is valid (R365). Log entry 115 (DEDUCED). -/
def State.wspValid (s : State) (c : Nat) : Bool :=
  let p := (s.sreg c 2).toNat
  p % 16 == 0 && decide (48 ≤ p) && stackMemory c (p - 48) && s.stackOpen c (p - 48)

/-- The waits of a group's accesses outside the core's own memories; the spec does not state how many accesses move a group.
Log entry 121 (DESIGN CHOICE). -/
def State.stallOpen (s : State) (c a : Nat) : State :=
  if !s.deterministic c || targetWait c a 1 0 false = 0 then s
  else
    let x := s.fresh
    x.2.stall c x.1.toNat

/-- The 48 bytes of a group. -/
def State.groupBytes (s : State) (c g : Nat) : List Byte :=
  (List.range 8).flatMap (fun i => leBytes 6 (Tab.get 0 (s.core c).wregs (8 * g + i)).toNat)

/-- A spill (R363): `none` where WSP is invalid. Log entry 115 (DEDUCED). -/
def State.spill (s : State) (c : Nat) : Option State :=
  if !s.wspValid c then none
  else
    let a := (s.sreg c 2).toNat - 48
    let s1 := (s.memWrite (s.coreWriter c) a (s.groupBytes c (s.lowGroup c))).2
    let s2 := ((s1.setWsp c (BitVec.ofNat 48 a)).setWdepth c (s.wdepth c + 1)).setResBelow c (s.resBelow c - 1)
    some ((s2.setPendErr c false).stallOpen c a)

/-- `l` loaded into the eight registers of group `g`. -/
def State.loadGroup (s : State) (c g : Nat) (l : List Byte) : State :=
  s.upto 8 (fun i s => s.setPhys c (8 * g + i) (BitVec.ofNat 48 (leNat ((l.drop (6 * i)).take 6))))

/-- A fill (R363, R434): `none` where WSP is invalid, or the group cannot be read. Log entry 115 (DEDUCED). -/
def State.fill (s0 : State) (c : Nat) : Option State × State :=
  if !s0.wspValid c then (none, s0)
  else
    let s := s0.drain c
    let p := (s.sreg c 2).toNat
    if !stackMemory c p || !s.stackOpen c p then (none, s)
    else
      let r := s.eccRead p 48
      if r.1 then (none, r.2)
      else
        let g := (s.lowGroup c + 31) % 32
        let s1 := r.2.loadGroup c g (r.2.bytes p 48)
        let s2 := ((s1.setWsp c (BitVec.ofNat 48 (p + 48))).setWdepth c (s.wdepth c - 1)).setResBelow c (s.resBelow c + 1)
        (some ((s2.setPendErr c false).stallOpen c p), r.2)

/-- One spill by the policy; an engine that cannot spill stops (R365). -/
def State.policySpill (s : State) (c : Nat) : State :=
  match s.spill c with
  | some t => t
  | none => s.setPendErr c true

/-- One fill by the policy. -/
def State.policyFill (s : State) (c : Nat) : State :=
  match s.fill c with
  | (some t, _) => t
  | (none, t) => t.setPendErr c true

/-- The engine inside a CALL or RET of deterministic mode (R364): at most `n` moves. -/
def State.policyNow (s : State) (c : Nat) : Nat → State
  | 0 => s
  | n + 1 =>
    if getBits (s.sreg c 4) 5 1 = 1 then s
    else if s.wantsSpill c then (s.policySpill c).policyNow c n
    else if s.wantsFill c then (s.policyFill c).policyNow c n
    else s

/-- The engine after the window has moved (R363, R364). -/
def State.policy (s : State) (c : Nat) : State := if s.deterministic c then s.policyNow c 32 else s.policyLater c

/-- Whether the spill engine of core `c` is clocked: with its core, and on after the acceptance of DORMANT until it is idle (R582). -/
def State.engineClocked (s : State) (c : Nat) : Bool := !s.modeIn [.off, .dormant] && !s.bistRunning && decide (c < 5)

/-- WINDOW_SPILL (R363, R365). -/
def execWindowSpill (c : Fin 5) (s0 : State) : Result :=
  let s := s0.cancel (.windowSpill c)
  if !s.engineClocked c || s.deterministic c || !s.wantsSpill c then ok s else ok ((s.policySpill c).policyLater c)

/-- WINDOW_FILL (R363, R365). -/
def execWindowFill (c : Fin 5) (s0 : State) : Result :=
  let s := s0.cancel (.windowFill c)
  if !s.engineClocked c || s.deterministic c || !s.wantsFill c then ok s else ok ((s.policyFill c).policyLater c)

/-- Groups made free for a CALL that needs `need` of them: `none` where a spill cannot be made. -/
def State.freeUp (s : State) (c need : Nat) : Nat → Option State
  | 0 => some s
  | n + 1 => if need ≤ s.freeGroups c then some s else
      match s.spill c with
      | some t => t.freeUp c need n
      | none => none

/-- Groups filled for a RET that needs `need` of them: the cause of the fault where a fill cannot be made (R365). -/
def State.fillUp (s : State) (c need : Nat) : Nat → Option Nat × State
  | 0 => (none, s)
  | n + 1 =>
    if need ≤ s.resBelow c then (none, s)
    else if s.wdepth c = 0 then (some 2, s)
    else
      match s.fill c with
      | (some t, _) => t.fillUp c need n
      | (none, t) => (some 1, t)

/-! ### Windowed call and return -/

/-- The link word (R361). -/
def linkWord (ret : Word) (group : Nat) : Word := setBits (setBits 0 0 41 ret.toNat) 41 5 group

/-- A windowed call with slide `k` to a target (R361, R391). -/
def State.call (c k : Nat) (target : Word) (s : State) : ZOut :=
  match s.freeUp c k 4 with
  | none => .raise ((s.setPendErr c true).setWcause c 1) .spill none
  | some s1 =>
    let link := linkWord (s.pc c + 6) (s1.wbGroup c)
    let s2 := (s1.setWbGroup c (s1.wbGroup c + k)).setResBelow c (s1.resBelow c + k)
    .jump ((s2.setR c 31 link).policy c) target

/-- A windowed return (R361, R394). -/
def State.ret (c : Nat) (s : State) : ZOut :=
  let link := s.getR c 31
  let g := getBits link 41 5
  let k := (s.wbGroup c + 32 - g) % 32
  if k = 0 ∨ 3 < k ∨ getBits link 46 2 ≠ 0 then .raise s .illegal none
  else
    match s.fillUp c k 4 with
    | (some e, t) => .raise ((if e = 1 then t.setPendErr c true else t).setWcause c e) .spill none
    | (none, t) =>
      let s1 := (t.setWbGroup c g).setResBelow c (t.resBelow c - k)
      .jump (s1.policy c) (BitVec.ofNat 48 (getBits link 0 41))

end Sys2Proof.Machine
end

