-- ==== Sys2Proof/Machine/ZAlu.lean ====
section
/-! DEFINITION. The register and immediate ALU instructions (R381-R390): legality, operands, results. -/
namespace Sys2Proof.Machine

/-! ### Legality and operands (R381-R383) -/

/-- Whether a register field names a register (R359). -/
def regOk (r : BitVec 6) : Bool := decide (r.toNat < 40)

/-- Whether the three register fields of a word name registers. -/
def regs3 (f : Fields) : Bool := regOk f.rd && regOk f.ra && regOk f.rb

/-- Whether a word is illegal that uses rd, ra and rb and no fn bit. Log entry 111 (DEDUCED). -/
def illR (f : Fields) : Bool := !(regs3 f && f.imm == 0)

/-- Whether a word is illegal that uses rd, ra and an immediate. Log entry 111 (DEDUCED). -/
def illI (f : Fields) : Bool := !(regOk f.rd && regOk f.ra && f.rb == 0)

/-- imm22 sign-extended (R383). -/
def simm (f : Fields) : Word := f.imm.signExtend 48

/-- imm22 zero-extended (R383). -/
def zimm (f : Fields) : Word := f.imm.setWidth 48

/-- An integer as a word, modulo 2^48 (R384). -/
def wrap (v : Int) : Word := BitVec.ofInt 48 v

/-- An integer saturated to a signed word (R384). -/
def satWord (v : Int) : Word := BitVec.ofInt 48 (max (-(2 ^ 47)) (min (2 ^ 47 - 1) v))

/-- A truth value as a comparison writes it. -/
def flag (b : Bool) : Word := if b then 1 else 0

/-- The shift amount of a register shift: bits 5:0. -/
def amount (v : Word) : Nat := v.toNat % 64

/-- The product shifted right by `n` with rounding, a tie upward (R384). -/
def roundShift (v : Int) (n : Nat) : Int := if n = 0 then v else (v + 2 ^ (n - 1)) / 2 ^ n

/-- Leading zeros of a word (R389). -/
def leadingZeros (v : Word) : Nat :=
  match (List.range 48).find? (fun i => v.getLsbD (47 - i)) with
  | some i => i
  | none => 48

/-- EXTB (R388). -/
def extractBits (pos len : Nat) (sx : Bool) (v : Word) : Word :=
  let x := getBits v pos len
  if sx && x.testBit (len - 1) then BitVec.ofNat 48 (x + 2 ^ 48 - 2 ^ len) else BitVec.ofNat 48 x

/-- INSB (R388). -/
def insertBits (pos len : Nat) (old v : Word) : Word := setBits old pos len (getBits v 0 len)

/-- Byte `i` of a PERM result (R390). -/
def permByte (sel : BitVec 22) (v : Word) (i : Nat) : Nat :=
  let k := sel.toNat / 2 ^ (3 * i) % 8
  if k < 6 then getBits v (8 * k) 8 else if k = 6 then 0 else 255

/-- PERM (R390). -/
def permBytes (sel : BitVec 22) (v : Word) : Word := BitVec.ofNat 48 (((List.range 6).map (fun i => permByte sel v i * 2 ^ (8 * i))).sum)

/-- Whether the POS, LEN and S bits of a bit-field instruction are legal (R388). Log entry 111 (DEDUCED). -/
def fieldOk (f : Fields) (signed : Bool) : Bool :=
  let pos := f.imm.toNat % 64
  let len := f.imm.toNat / 64 % 64
  decide (1 ≤ len) && decide (len ≤ 48) && decide (pos + len ≤ 48) && decide (f.imm.toNat < (if signed then 2 ^ 13 else 2 ^ 12))

/-! ### The shared shapes -/

/-- An instruction that writes rd from ra and rb. -/
def State.alu (s : State) (c : Nat) (f : Fields) (op : Word → Word → Word) : State :=
  s.instruction c (illR f) false (fun s => .done (s.setR c f.rd (op (s.getR c f.ra) (s.getR c f.rb))) [])

/-- An instruction that writes rd from ra and an immediate, illegal also where `bad`. -/
def State.aluImm (s : State) (c : Nat) (f : Fields) (bad : Bool) (op : Word → Word) : State :=
  s.instruction c (illI f || bad) false (fun s => .done (s.setR c f.rd (op (s.getR c f.ra))) [])

/-- Whether a fixed-point multiply is illegal (R382, R386). -/
def illMulf (f : Fields) : Bool := !(regs3 f && decide (f.imm.toNat < 48))

/-- The signed product of two words, shed of `n` fraction bits. -/
def mulRound (a b : Word) (n : Nat) : Int := roundShift (a.toInt * b.toInt) n

/-! ### The instructions (R386) -/

/-- NOP: every field is 0. -/
def execNop (c : Fin 5) (f : Fields) (s : State) : Result :=
  ok (s.instruction c (!(f.rd == 0 && f.ra == 0 && f.rb == 0 && f.imm == 0)) false (fun s => .done s []))

/-- ADD. -/
def execAdd (c : Fin 5) (f : Fields) (s : State) : Result :=
  ok (s.alu c f (fun a b => a + b))

/-- SUB. -/
def execSub (c : Fin 5) (f : Fields) (s : State) : Result :=
  ok (s.alu c f (fun a b => a - b))

/-- ADDS. -/
def execAdds (c : Fin 5) (f : Fields) (s : State) : Result :=
  ok (s.alu c f (fun a b => satWord (a.toInt + b.toInt)))

/-- SUBS. -/
def execSubs (c : Fin 5) (f : Fields) (s : State) : Result :=
  ok (s.alu c f (fun a b => satWord (a.toInt - b.toInt)))

/-- AND. -/
def execAnd (c : Fin 5) (f : Fields) (s : State) : Result :=
  ok (s.alu c f (fun a b => a &&& b))

/-- OR. -/
def execOr (c : Fin 5) (f : Fields) (s : State) : Result :=
  ok (s.alu c f (fun a b => a ||| b))

/-- XOR. -/
def execXor (c : Fin 5) (f : Fields) (s : State) : Result :=
  ok (s.alu c f (fun a b => a ^^^ b))

/-- ANDN. -/
def execAndn (c : Fin 5) (f : Fields) (s : State) : Result :=
  ok (s.alu c f (fun a b => a &&& ~~~b))

/-- SLL: 0 for amounts 48-63. -/
def execSll (c : Fin 5) (f : Fields) (s : State) : Result :=
  ok (s.alu c f (fun a b => a <<< amount b))

/-- SRL: 0 for amounts 48-63. -/
def execSrl (c : Fin 5) (f : Fields) (s : State) : Result :=
  ok (s.alu c f (fun a b => a >>> amount b))

/-- SRA: the sign for amounts 48-63. -/
def execSra (c : Fin 5) (f : Fields) (s : State) : Result :=
  ok (s.alu c f (fun a b => a.sshiftRight (amount b)))

/-- CMPEQ. -/
def execCmpeq (c : Fin 5) (f : Fields) (s : State) : Result :=
  ok (s.alu c f (fun a b => flag (a == b)))

/-- CMPLT, signed. -/
def execCmplt (c : Fin 5) (f : Fields) (s : State) : Result :=
  ok (s.alu c f (fun a b => flag (decide (a.toInt < b.toInt))))

/-- CMPLTU. -/
def execCmpltu (c : Fin 5) (f : Fields) (s : State) : Result :=
  ok (s.alu c f (fun a b => flag (decide (a.toNat < b.toNat))))

/-- MIN, signed. -/
def execMin (c : Fin 5) (f : Fields) (s : State) : Result :=
  ok (s.alu c f (fun a b => if a.toInt ≤ b.toInt then a else b))

/-- MAX, signed. -/
def execMax (c : Fin 5) (f : Fields) (s : State) : Result :=
  ok (s.alu c f (fun a b => if a.toInt ≤ b.toInt then b else a))

/-- MUL: bits 47:0 of the product. -/
def execMul (c : Fin 5) (f : Fields) (s : State) : Result :=
  ok (s.alu c f (fun a b => a * b))

/-- MULH: bits 95:48 of the signed product. -/
def execMulh (c : Fin 5) (f : Fields) (s : State) : Result :=
  ok (s.alu c f (fun a b => wrap (a.toInt * b.toInt / 2 ^ 48)))

/-- MULHU: bits 95:48 of the unsigned product. -/
def execMulhu (c : Fin 5) (f : Fields) (s : State) : Result :=
  ok (s.alu c f (fun a b => BitVec.ofNat 48 (a.toNat * b.toNat / 2 ^ 48)))

/-- DIV, truncated toward 0; division by 0 gives 0. -/
def execDiv (c : Fin 5) (f : Fields) (s : State) : Result :=
  ok (s.alu c f (fun a b => wrap (Int.tdiv a.toInt b.toInt)))

/-- DIVU; division by 0 gives 0. -/
def execDivu (c : Fin 5) (f : Fields) (s : State) : Result :=
  ok (s.alu c f (fun a b => BitVec.ofNat 48 (a.toNat / b.toNat)))

/-- REM, with the sign of ra; ra for a divisor of 0. -/
def execRem (c : Fin 5) (f : Fields) (s : State) : Result :=
  ok (s.alu c f (fun a b => wrap (Int.tmod a.toInt b.toInt)))

/-- REMU; ra for a divisor of 0. -/
def execRemu (c : Fin 5) (f : Fields) (s : State) : Result :=
  ok (s.alu c f (fun a b => BitVec.ofNat 48 (a.toNat % b.toNat)))

/-- MULF. -/
def execMulf (c : Fin 5) (f : Fields) (s : State) : Result :=
  ok (s.instruction c (illMulf f) false (fun s =>
    .done (s.setR c f.rd (satWord (mulRound (s.getR c f.ra) (s.getR c f.rb) f.imm.toNat))) []))

/-- MACF: the accumulator is rd. -/
def execMacf (c : Fin 5) (f : Fields) (s : State) : Result :=
  ok (s.instruction c (illMulf f) false (fun s =>
    .done (s.setR c f.rd (satWord ((s.getR c f.rd).toInt + mulRound (s.getR c f.ra) (s.getR c f.rb) f.imm.toNat))) []))

/-- CLZ. -/
def execClz (c : Fin 5) (f : Fields) (s : State) : Result :=
  ok (s.instruction c (!(regOk f.rd && regOk f.ra && f.rb == 0 && f.imm == 0)) false (fun s =>
    .done (s.setR c f.rd (BitVec.ofNat 48 (leadingZeros (s.getR c f.ra)))) []))

/-- EXTB. -/
def execExtb (c : Fin 5) (f : Fields) (s : State) : Result :=
  ok (s.instruction c (!(regOk f.rd && regOk f.ra && f.rb == 0 && fieldOk f true)) false (fun s =>
    .done (s.setR c f.rd (extractBits (f.imm.toNat % 64) (f.imm.toNat / 64 % 64) (f.imm.getLsbD 12) (s.getR c f.ra))) []))

/-- INSB. -/
def execInsb (c : Fin 5) (f : Fields) (s : State) : Result :=
  ok (s.instruction c (!(regOk f.rd && regOk f.ra && f.rb == 0 && fieldOk f false)) false (fun s =>
    .done (s.setR c f.rd (insertBits (f.imm.toNat % 64) (f.imm.toNat / 64 % 64) (s.getR c f.rd) (s.getR c f.ra))) []))

/-- PERM. -/
def execPerm (c : Fin 5) (f : Fields) (s : State) : Result :=
  ok (s.instruction c (!(regOk f.rd && regOk f.ra && f.rb == 0 && decide (f.imm.toNat < 2 ^ 18))) false (fun s =>
    .done (s.setR c f.rd (permBytes f.imm (s.getR c f.ra))) []))

/-- ADDI. -/
def execAddi (c : Fin 5) (f : Fields) (s : State) : Result :=
  ok (s.aluImm c f false (fun a => a + simm f))

/-- ANDI. -/
def execAndi (c : Fin 5) (f : Fields) (s : State) : Result :=
  ok (s.aluImm c f false (fun a => a &&& zimm f))

/-- ORI. -/
def execOri (c : Fin 5) (f : Fields) (s : State) : Result :=
  ok (s.aluImm c f false (fun a => a ||| zimm f))

/-- XORI. -/
def execXori (c : Fin 5) (f : Fields) (s : State) : Result :=
  ok (s.aluImm c f false (fun a => a ^^^ zimm f))

/-- SLLI, amount 0-47. -/
def execSlli (c : Fin 5) (f : Fields) (s : State) : Result :=
  ok (s.aluImm c f (decide (48 ≤ f.imm.toNat)) (fun a => a <<< f.imm.toNat))

/-- SRLI, amount 0-47. -/
def execSrli (c : Fin 5) (f : Fields) (s : State) : Result :=
  ok (s.aluImm c f (decide (48 ≤ f.imm.toNat)) (fun a => a >>> f.imm.toNat))

/-- SRAI, amount 0-47. -/
def execSrai (c : Fin 5) (f : Fields) (s : State) : Result :=
  ok (s.aluImm c f (decide (48 ≤ f.imm.toNat)) (fun a => a.sshiftRight f.imm.toNat))

/-- CMPEQI. -/
def execCmpeqi (c : Fin 5) (f : Fields) (s : State) : Result :=
  ok (s.aluImm c f false (fun a => flag (a == simm f)))

/-- CMPLTI, signed. -/
def execCmplti (c : Fin 5) (f : Fields) (s : State) : Result :=
  ok (s.aluImm c f false (fun a => flag (decide (a.toInt < (simm f).toInt))))

/-- CMPLTUI: the immediate is sign-extended, then compared unsigned. -/
def execCmpltui (c : Fin 5) (f : Fields) (s : State) : Result :=
  ok (s.aluImm c f false (fun a => flag (decide (a.toNat < (simm f).toNat))))

/-- LDHI: bits 47:34 from imm22 bits 13:0, which fill the field; ra is 0. -/
def execLdhi (c : Fin 5) (f : Fields) (s : State) : Result :=
  ok (s.instruction c (!(regOk f.rd && f.ra == 0 && f.rb == 0 && decide (f.imm.toNat < 2 ^ 14))) false (fun s =>
    .done (s.setR c f.rd (setBits (s.getR c f.rd) 34 14 f.imm.toNat)) []))

/-- LDI: imm34 sign-extended. -/
def execLdi (c : Fin 5) (f : JFields) (s : State) : Result :=
  ok (s.instruction c (!regOk f.rd) false (fun s => .done (s.setR c f.rd (f.imm.signExtend 48)) []))

end Sys2Proof.Machine
end

