-- ==== Sys2Proof/Machine/ZMemory.lean ====
section
/-! DEFINITION. Loads, stores, load-link and store-conditional, and the block instructions (R375, R387, R395-R400). -/
namespace Sys2Proof.Machine

/-- Whether a store word is illegal: rd must be 0 (R381). Log entry 111 (DEDUCED). -/
def illS (f : Fields) : Bool := !(f.rd == 0 && regOk f.ra && regOk f.rb)

/-- Whether a load word is illegal: the rb field must be 0 (R381). Log entry 111 (DEDUCED). -/
def illL (f : Fields) : Bool := illI f

/-- The address ra + imm22, modulo 2^48 (R383). -/
def State.ea (s : State) (c : Nat) (f : Fields) : Nat := (s.getR c f.ra + simm f).toNat

/-- A load instruction of `n` bytes. -/
def State.loads (s : State) (c n : Nat) (sx : Bool) (f : Fields) : State :=
  s.instruction c (illL f) false (fun s => s.loadInsn c n sx f.rd (s.ea c f))

/-- A store instruction of `n` bytes. -/
def State.stores (s : State) (c n : Nat) (f : Fields) : State :=
  s.instruction c (illS f) false (fun s => s.storeInsn c n (s.getR c f.rb) (s.ea c f))

/-- LD1, LD1S (`sx`). -/
def execLd1 (c : Fin 5) (sx : Bool) (f : Fields) (s : State) : Result :=
  ok (s.loads c 1 sx f)

/-- LD2, LD2S (`sx`). -/
def execLd2 (c : Fin 5) (sx : Bool) (f : Fields) (s : State) : Result :=
  ok (s.loads c 2 sx f)

/-- LD6. -/
def execLd6 (c : Fin 5) (f : Fields) (s : State) : Result :=
  ok (s.loads c 6 false f)

/-- ST1. -/
def execSt1 (c : Fin 5) (f : Fields) (s : State) : Result :=
  ok (s.stores c 1 f)

/-- ST2. -/
def execSt2 (c : Fin 5) (f : Fields) (s : State) : Result :=
  ok (s.stores c 2 f)

/-- ST6. -/
def execSt6 (c : Fin 5) (f : Fields) (s : State) : Result :=
  ok (s.stores c 6 f)

/-- LDL. -/
def execLdl (c : Fin 5) (f : Fields) (s : State) : Result :=
  ok (s.instruction c (illL f) false (fun s => s.loadLink c f.rd (s.ea c f)))

/-- STC: the result register is rd. -/
def execStc (c : Fin 5) (f : Fields) (s : State) : Result :=
  ok (s.instruction c (!(regOk f.rd && regOk f.ra && regOk f.rb)) false (fun s => s.storeCond c f.rd (s.getR c f.rb) (s.ea c f)))

/-! ### Block instructions (R395-R399) -/

/-- The block instructions. Log entry 114 (DESIGN CHOICE). -/
def kindMov : Nat := 0
/-- FILLBLK. -/
def kindFill : Nat := 1
/-- CMPBLK. -/
def kindCmp : Nat := 2
/-- SCANBLK. -/
def kindScan : Nat := 3

/-- Whether a block word is illegal: three different registers, fn[0] only where it is assigned. -/
def illBlock (kind : Nat) (f : Fields) : Bool :=
  !(regs3 f && f.rd != f.ra && f.rd != f.rb && f.ra != f.rb
    && decide (f.imm.toNat < (if kind = kindMov ∨ kind = kindScan then 2 else 1)))

/-- The elements that remain. Log entry 114 (DESIGN CHOICE). -/
def State.blockLeft (s : State) (c : Nat) (f : Fields) : Nat := (s.getR c f.rb).toNat

/-- A pointer one element further, or back. -/
def State.movePointer (s : State) (c : Nat) (r : BitVec 6) (back : Bool) : State :=
  s.setR c r (if back then s.getR c r - 6 else s.getR c r + 6)

/-- An element is done: the registers move on, and the instruction is complete when none remains. -/
def State.blockNext (s : State) (c : Nat) (f : Fields) (acc : List Done) (ra back : Bool) : ZOut :=
  let s1 := s.movePointer c f.rd back
  let s2 := if ra then s1.movePointer c f.ra back else s1
  let s3 := s2.setR c f.rb (s2.getR c f.rb - 1)
  if s3.blockLeft c f = 0 then .done s3 acc else .again s3 acc

/-- The address of an element's operand at a pointer. -/
def State.blockAt (s : State) (c : Nat) (r : BitVec 6) (back : Bool) : Nat :=
  (if back then s.getR c r - 6 else s.getR c r).toNat

/-- A load of an element: from the far words already here, or an access.  The answer of `k` follows. -/
def State.blockLoad (s : State) (c kind i : Nat) (f : Fields) (got : List Word) (a : Nat)
    (k : State → Word → List Word → ZOut) : ZOut :=
  match got[i]? with
  | some w => k s w got
  | none =>
    match s.zLoad c a 6 with
    | .got t v => k t (BitVec.ofNat 48 v) (got ++ [BitVec.ofNat 48 v])
    | .fault t e x => .raise t e (some x)
    | .far t => .left (t.coreFar c { FarOp.init with addr := a, esize := 6, count := 6, use := .block kind f got })

/-- A store of an element: done already by a far transaction, or an access; a fault leaves the state `before` the element. -/
def State.blockStore (before s : State) (c kind i : Nat) (f : Fields) (got : List Word) (a : Nat) (v : Word)
    (k : State → ZOut) : ZOut :=
  match got[i]? with
  | some _ => k s
  | none =>
    match s.zStore c a (leBytes 6 v.toNat) with
    | .got t _ => k t
    | .fault _ e x => .raise before e (some x)
    | .far t => .left (t.coreFar c { FarOp.init with
        write := true, addr := a, esize := 6, count := 6, bytes := leBytes 6 v.toNat, use := .block kind f got })

/-- One element of a block instruction (R396, R397, R399); `got` holds the words that its far accesses have returned.
Log entry 114 (DESIGN CHOICE). -/
def State.blockStep (c kind : Nat) (f : Fields) (got : List Word) (s : State) : ZOut :=
  if s.blockLeft c f = 0 then .done s []
  else if kind = kindMov then
    let back := f.imm.getLsbD 0
    let src := s.blockAt c f.ra back
    let dst := s.blockAt c f.rd back
    if s.misaligned src 6 then .raise s .align (some src)
    else if s.misaligned dst 6 then .raise s .align (some dst)
    else s.blockLoad c kind 0 f got src (fun t v got =>
      State.blockStore s t c kind 1 f got dst v (fun u => u.blockNext c f [(src, 6, false), (dst, 6, true)] true back))
  else if kind = kindFill then
    let dst := s.blockAt c f.rd false
    State.blockStore s s c kind 0 f got dst (s.getR c f.ra) (fun u => u.blockNext c f [(dst, 6, true)] false false)
  else if kind = kindCmp then
    let p := s.blockAt c f.rd false
    let q := s.blockAt c f.ra false
    if s.misaligned p 6 then .raise s .align (some p)
    else if s.misaligned q 6 then .raise s .align (some q)
    else s.blockLoad c kind 0 f got p (fun t v got =>
      t.blockLoad c kind 1 f got q (fun u w _ =>
        if v = w then u.blockNext c f [(p, 6, false), (q, 6, false)] true false else .done u [(p, 6, false), (q, 6, false)]))
  else
    let p := s.blockAt c f.rd false
    s.blockLoad c kind 0 f got p (fun t v _ =>
      if (v == s.getR c f.ra) == f.imm.getLsbD 0 then t.blockNext c f [(p, 6, false)] false false else .done t [(p, 6, false)])

/-- A block instruction. -/
def State.block (s : State) (c kind : Nat) (f : Fields) : State :=
  s.instruction c (illBlock kind f) false (fun s => s.blockStep c kind f [])

/-- MOVBLK. -/
def execMovblk (c : Fin 5) (f : Fields) (s : State) : Result :=
  ok (s.block c kindMov f)

/-- FILLBLK. -/
def execFillblk (c : Fin 5) (f : Fields) (s : State) : Result :=
  ok (s.block c kindFill f)

/-- CMPBLK. -/
def execCmpblk (c : Fin 5) (f : Fields) (s : State) : Result :=
  ok (s.block c kindCmp f)

/-- SCANBLK. -/
def execScanblk (c : Fin 5) (f : Fields) (s : State) : Result :=
  ok (s.block c kindScan f)

end Sys2Proof.Machine
end

