-- ==== Sys2Proof/Machine/ZControl.lean ====
section
/-! DEFINITION. Branches, jumps, windowed calls and returns, and the system instructions (R387, R391-R394, R400-R404, R414-R417,
R597, R600). -/
namespace Sys2Proof.Machine

/-! ### Control transfer -/

/-- A conditional branch: rd is 0, the offset counts halfwords from the branch itself (R383). -/
def State.branch (s : State) (c : Nat) (f : Fields) (taken : Word → Word → Bool) : State :=
  s.instruction c (!(f.rd == 0 && regOk f.ra && regOk f.rb)) false (fun s =>
    if taken (s.getR c f.ra) (s.getR c f.rb) then .jump s (s.pc c + 2 * simm f) else .done s [])

/-- Whether every field of a word is 0. Log entry 111 (DEDUCED). -/
def noFields (f : Fields) : Bool := f.rd == 0 && f.ra == 0 && f.rb == 0 && f.imm == 0

/-- BEQ. -/
def execBeq (c : Fin 5) (f : Fields) (s : State) : Result :=
  ok (s.branch c f (fun a b => a == b))

/-- BNE. -/
def execBne (c : Fin 5) (f : Fields) (s : State) : Result :=
  ok (s.branch c f (fun a b => a != b))

/-- BLT, signed. -/
def execBlt (c : Fin 5) (f : Fields) (s : State) : Result :=
  ok (s.branch c f (fun a b => decide (a.toInt < b.toInt)))

/-- BGE, signed. -/
def execBge (c : Fin 5) (f : Fields) (s : State) : Result :=
  ok (s.branch c f (fun a b => decide (b.toInt ≤ a.toInt)))

/-- BLTU. -/
def execBltu (c : Fin 5) (f : Fields) (s : State) : Result :=
  ok (s.branch c f (fun a b => decide (a.toNat < b.toNat)))

/-- BGEU. -/
def execBgeu (c : Fin 5) (f : Fields) (s : State) : Result :=
  ok (s.branch c f (fun a b => decide (b.toNat ≤ a.toNat)))

/-- JMP: rd is 0. -/
def execJmp (c : Fin 5) (f : JFields) (s : State) : Result :=
  ok (s.instruction c (!(f.rd == 0)) false (fun s => .jump s (s.pc c + 2 * f.imm.signExtend 48)))

/-- JMPR. -/
def execJmpr (c : Fin 5) (f : Fields) (s : State) : Result :=
  ok (s.instruction c (!(f.rd == 0 && regOk f.ra && f.rb == 0 && f.imm == 0)) false (fun s => .jump s (s.getR c f.ra)))

/-- CALL: the slide code is in bits 35:34, bits 39:36 are 0 (R391). -/
def execCall (c : Fin 5) (f : JFields) (s : State) : Result :=
  ok (s.instruction c (!(decide (1 ≤ f.rd.toNat) && decide (f.rd.toNat ≤ 3))) false (fun s =>
    s.call c f.rd.toNat (s.pc c + 2 * f.imm.signExtend 48)))

/-- CALLR (R391). -/
def execCallr (c : Fin 5) (f : Fields) (s : State) : Result :=
  ok (s.instruction c (!(decide (1 ≤ f.rd.toNat) && decide (f.rd.toNat ≤ 3) && regOk f.ra && f.rb == 0 && f.imm == 0)) false (fun s =>
    s.call c f.rd.toNat (s.getR c f.ra)))

/-- RET (R394). -/
def execRet (c : Fin 5) (f : Fields) (s : State) : Result :=
  ok (s.instruction c (!noFields f) false (fun s => s.ret c))

/-! ### System instructions -/

/-- Whether fn of MFSR or MTSR names no special register (R404). -/
def badSreg (f : Fields) : Bool := !(decide (f.imm.toNat < 256) && sregExists f.imm.toNat)

/-- A move of the spill engine that is in progress completes (R378). -/
def State.finishMove (s : State) (c : Nat) : State :=
  if s.due (spillEvent c) then
    let s1 := s.cancel (spillEvent c)
    if s1.wantsSpill c then s1.policySpill c else s1
  else if s.due (fillEvent c) then
    let s1 := s.cancel (fillEvent c)
    if s1.wantsFill c then s1.policyFill c else s1
  else s

/-- MTSR (R367): a move in progress completes with the old WSP (R378); a write of WSP or WDEPTH lets a stopped engine of throughput
mode look again. -/
def State.mtsr (s : State) (c n : Nat) (v : Word) : State :=
  let s1 := (if n = 2 then s.finishMove c else s).writeSreg c n v
  if n = 2 ∨ n = 3 then s1.policyLater c else s1

/-- MFSR (R404). -/
def execMfsr (c : Fin 5) (f : Fields) (s : State) : Result :=
  ok (s.instruction c (!(regOk f.rd && f.ra == 0 && f.rb == 0) || badSreg f) true (fun s =>
    .done (s.setR c f.rd (s.readSreg c f.imm.toNat)) []))

/-- MTSR (R404). -/
def execMtsr (c : Fin 5) (f : Fields) (s : State) : Result :=
  ok (s.instruction c (!(f.rd == 0 && regOk f.ra && f.rb == 0) || badSreg f) true (fun s =>
    .done (s.mtsr c f.imm.toNat (s.getR c f.ra)) []))

/-- FENCE (R401). -/
def execFence (c : Fin 5) (f : Fields) (s : State) : Result :=
  ok (s.instruction c (!noFields f) false (fun s => .done (s.drain c) []))

/-- FENCE.I (R374, R401): the model fetches nothing ahead, so nothing more is discarded. -/
def execFenceI (c : Fin 5) (f : Fields) (s : State) : Result :=
  ok (s.instruction c (!noFields f) false (fun s => .done (s.drain c) []))

/-- SYSCALL (R402): the code in imm22 changes nothing here. -/
def execSyscall (c : Fin 5) (f : Fields) (s : State) : Result :=
  ok (s.instruction c (!(f.rd == 0 && f.ra == 0 && f.rb == 0)) false (fun s => .raise s .trap none))

/-- The fills that RETE from level 7 makes first (R417): `none` where one cannot be made. -/
def State.unwind (s : State) (c depth : Nat) : Nat → Option State
  | 0 => some s
  | n + 1 =>
    if s.wdepth c ≤ depth then some s
    else if 28 ≤ s.resBelow c then none
    else
      match s.fill c with
      | (some t, _) => t.unwind c depth n
      | (none, _) => none

/-- WSP and L7SP exchanged (R417). -/
def State.swapStacks (s : State) (c : Nat) : State :=
  let w := s.sreg c 2
  (s.setSreg c 2 (s.sreg c 6)).setSreg c 6 w

/-- The monitor state of core `c` ends (R596, R598, R600). -/
def State.monitorEnd (s : State) (c : Nat) : State :=
  let s1 := (s.off0 (F.DBG_C_STAT_MONST c)).cwdResume c
  s1.setCore c { s1.core c with stepping := s1.bit (F.DBG_C_CTL_STEP c) }

/-- Tail chaining to level `m` with save set `n` in use (R416). -/
def State.tailChain (s : State) (c n m : Nat) : State :=
  let spc := s.sreg c (spcReg n)
  let sps := setBits (s.sreg c (spsReg n)) 16 30 0
  match s.fetchDenied c true (vector c (9 + m)) with
  | some a => s.escalateAs c Exc.fetch.code spc (setBits (setBits sps 8 4 1) 13 1 1) (some a)
  | none =>
    let s1 := s.saveSet c m spc (setBits (setBits sps 8 4 (9 + m)) 13 1 1)
    (s1.setPsr c (s1.psrSup c) (s1.psrIE c) m).enterAt c (9 + m)

/-- The level of a request that RETE chains to (R416), 0 for none; a step holds levels up to MONLVL (R600). -/
def State.chainLevel (s : State) (c : Nat) (sps : Word) : Nat :=
  let m := s.icuRequest c
  let held := (s.core c).stepping && !s.bit (F.DBG_C_CTL_STEPINT c) && decide (m ≤ s.rd F.DBG_CTL_MONLVL)
  if sps.getLsbD 1 && decide (getBits sps 2 3 < m) && !held then m else 0

/-- The return itself: a chain, or the saved state (R414, R416). Log entry 119 (DEDUCED). -/
def State.returnFrom (s : State) (c n : Nat) (mon : Bool) : ZOut :=
  let sps := s.sreg c (spsReg n)
  let s1 := if mon then s.monitorEnd c else s
  let m := s1.chainLevel c sps
  if m ≠ 0 then
    let t := s1.tailChain c n m
    .left (if mon then t else t.afterInstruction c [] true)
  else
    let spc := s1.sreg c (spcReg n)
    let t := s1.setPsr c (sps.getLsbD 0) (sps.getLsbD 1) (getBits sps 2 3)
    if mon then .left (t.setCore c { t.core c with pc := spc, fresh := false, exempt := some spc.toNat })
    else .jump t spc

/-- RETE (R414-R417). -/
def State.rete (c : Nat) (s : State) : ZOut :=
  let mon := s.psrMon c
  let l := s.psrLevel c
  let n := if mon then 8 else l
  let sps := s.sreg c (spsReg n)
  if n = 0 then .raise s .illegal none
  else if (sps.getLsbD 0 && !sps.getLsbD 6) || decide (l ≤ getBits sps 2 3) then .raise s (.priv true) none
  else if l = 7 then
    match s.unwind c (getBits sps 16 30) 32 with
    | none => .left (s.lockup c)
    | some t => (t.swapStacks c).returnFrom c n mon
  else s.returnFrom c n mon

/-- WFI (R403): nothing to wait for when the request line is asserted or a halt is pending. Log entry 119 (DEDUCED). -/
def State.wfi (c : Nat) (s : State) : ZOut :=
  if s.icuRequest c != 0 || s.bit (F.DBG_C_STAT_HALTPEND c) then .done s []
  else .left (s.setCore c { s.core c with run := .waiting, pc := s.pc c + 6, fresh := false, exempt := none })

/-- FLUSHW (R366). -/
def State.flush (s : State) (c : Nat) : Nat → Option State
  | 0 => some s
  | n + 1 => if s.resBelow c = 0 then some s else
      match s.spill c with
      | some t => t.flush c n
      | none => none

/-- RETE, supervisor-only. -/
def execRete (c : Fin 5) (f : Fields) (s : State) : Result :=
  ok (s.instruction c (!noFields f) true (fun s => s.rete c))

/-- WFI, supervisor-only. -/
def execWfi (c : Fin 5) (f : Fields) (s : State) : Result :=
  ok (s.instruction c (!noFields f) true (fun s => s.wfi c))

/-- FLUSHW, supervisor-only. -/
def execFlushw (c : Fin 5) (f : Fields) (s : State) : Result :=
  ok (s.instruction c (!noFields f) true (fun s =>
    match s.flush c 32 with
    | some t => .done t []
    | none => .raise ((s.setPendErr c true).setWcause c 1) .spill none))

/-- BRK (R402, R597): a NOP with MISSED where the monitor cannot be entered. -/
def execBrk (c : Fin 5) (f : Fields) (s : State) : Result :=
  ok (s.instruction c (!noFields f) false (fun s =>
    if s.monitorMay c then .left (s.monitorEnter c causeBRK (s.pc c)) else .done (s.on (F.DBG_C_STAT_MISSED c)) []))

/-- INTERRUPT_ENTRY (R411): a core that executes takes the interrupt that is deliverable at its boundary.
Log entry 110 (DEDUCED). -/
def execInterruptEntry (c : Fin 5) (s : State) : Result :=
  ok (if s.executes c && s.deliverable c != 0 then (s.setRun c .running).takeInterrupt c (s.deliverable c) else s)

end Sys2Proof.Machine
end

