-- ==== Sys2Proof/Machine/FabFrames.lean ====
section
/-! DEFINITION. Frames that arrive (R481-R502, R510-R528, R574): parsing, forwarding, consumption, discovery, far transactions at
the target and at the issuer, fabric time, sessions. -/
namespace Sys2Proof.Machine

/-! ### A frame taken apart (R481, R482) -/

/-- The parts of a Plovkolu frame. -/
structure Parsed where
  dest : List Byte
  src : List Byte
  tags : List Byte
  type : Nat
  ver : Nat
  flags : Nat
  dst : Nat
  srcId : Nat
  hops : Nat
  hlim : Nat
  seq : Nat
  /-- the header's 16 bytes -/
  head : List Byte
  payload : List Byte
  /-- what follows the payload, to the FCS -/
  rest : List Byte
  /-- whether the frame holds as many bytes as LEN says -/
  whole : Bool
  hcrcGood : Bool
  fcsGood : Bool
  /-- whether the FCS is the complement of the right one (R484) -/
  fcsMarked : Bool
  deriving DecidableEq, Repr

/-- How many bytes of VLAN tags follow the addresses, `none` for more than two tags (R481). Log entry 91 (DEDUCED). -/
def tagBytes (l : List Byte) : Option Nat :=
  let isTag (i : Nat) : Bool := (l.drop i).take 2 == [0x81, 0x00] || (l.drop i).take 2 == [0x88, 0xA8]
  if !isTag 12 then some 0 else if !isTag 16 then some 4 else if !isTag 20 then some 8 else none

/-- A frame from its destination address through its FCS; `none` for another EtherType, more than two tags, or a frame too short
for a header. Log entry 92 (DEDUCED). -/
def parseFrame (l : List Byte) : Option Parsed :=
  match tagBytes l with
  | none => none
  | some t =>
    let body := l.take (l.length - 4)
    let h := (body.drop (14 + t)).take 16
    if (body.drop (12 + t)).take 2 != [0x88, 0xB5] || h.length < 16 then none
    else
      let b (i : Nat) : Nat := (h.getD i 0).toNat
      let len := beNat ((h.drop 12).take 2)
      let after := body.drop (30 + t)
      let fcs := leNat (l.drop (l.length - 4))
      let right := crc32 body
      some {
        dest := l.take 6, src := (l.drop 6).take 6, tags := (l.drop 12).take t
        type := b 0 % 16, ver := b 0 / 16, flags := b 1, dst := beNat ((h.drop 2).take 2) % 2048
        srcId := beNat ((h.drop 4).take 2) % 2048, hops := b 6, hlim := b 7, seq := beNat ((h.drop 8).take 4)
        head := h, payload := after.take len, rest := after.drop len, whole := decide (len ≤ after.length)
        hcrcGood := crc16 (hdrCovered h) == beNat ((h.drop 14).take 2)
        fcsGood := fcs == right, fcsMarked := fcs == 2 ^ 32 - 1 - right }

/-- Bytes `i` to `i + n - 1` of the payload. -/
def Parsed.pay (x : Parsed) (i n : Nat) : List Byte := (x.payload.drop i).take n

/-- Byte `i` of the payload. -/
def Parsed.byte (x : Parsed) (i : Nat) : Nat := (x.payload.getD i 0).toNat

/-- Whether FLAGS bit `k` is 1. -/
def Parsed.flag (x : Parsed) (k : Nat) : Bool := x.flags.testBit k

/-- FLAGS.AUTH. -/
def Parsed.auth (x : Parsed) : Bool := x.flag 7
/-- FLAGS.BCAST. -/
def Parsed.bcast (x : Parsed) : Bool := x.flag 6
/-- FLAGS.RESP. -/
def Parsed.resp (x : Parsed) : Bool := x.flag 5
/-- FLAGS.POS. -/
def Parsed.pos (x : Parsed) : Bool := x.flag 3

/-- Whether a frame is a TIME frame of operation `op`. -/
def Parsed.isTime (x : Parsed) (op : Nat) : Bool := x.type == 8 && x.byte 0 == op

/-- Whether a frame is addressed to this module (R485). -/
def State.addressed (s : State) (x : Parsed) : Bool :=
  x.bcast || (x.pos && x.srcId == s.rd F.FAB_NODE_HOSTID && x.hops + 1 == x.dst)
    || (!x.pos && s.bit F.FAB_NODE_VALID && x.dst == s.rd F.FAB_NODE_ID)

/-! ### Answers -/

/-- An answer to a frame: by the requester's route, with the request's tags (R481, R497). Log entry 91 (DEDUCED). -/
def State.answer (s : State) (x : Parsed) (type flags : Nat) (payload : List Byte) (key : Option (List Byte)) : State :=
  s.sendTo x.src x.tags type (flagResp + flags) x.srcId payload key

/-- FLAGS.ERR. -/
def flagErr : Nat := 0x10

/-! ### Discovery (R494-R496) -/

/-- The payload of a DISCOVER response (R494). Log entry 96 (DEDUCED). -/
def State.discoverReply (s : State) (p : Nat) : List Byte :=
  identBytes ++ beBytes 2 (if s.bit F.FAB_NODE_VALID then s.rd F.FAB_NODE_ID else 0)
    ++ [BitVec.ofNat 8 (s.rd F.FAB_NODE_POS), BitVec.ofNat 8 (s.rd F.FAB_NODE_STATE), BitVec.ofNat 8 (s.rd F.SYS_ID_HWREV),
        BitVec.ofNat 8 p, 0x00, 0x24, BitVec.ofNat 8 (s.rd (F.FAB_P_STAT_MEDIA 0)), BitVec.ofNat 8 (s.rd (F.FAB_P_STAT_MEDIA 1)),
        BitVec.ofNat 8 (s.rd F.FAB_CTL_TOPO), BitVec.ofNat 8 (s.rd F.FAB_CTL_IDMODE)] ++ List.replicate 6 0

/-- The position and the host, from a DISCOVER (R494 step 1). -/
def State.discoverPlace (s : State) (p : Nat) (x : Parsed) : State :=
  let pos := (x.hops + 1) % 256
  let s1 := if s.rd F.FAB_NODE_STATE = 2 ∧ x.byte 0 % 2 = 0 ∧ s.rd F.FAB_NODE_POS ≠ pos then s.fabFlag 0 else s
  let s2 := ((s1.wr F.FAB_NODE_POS pos).wr F.FAB_NODE_HOSTPORT p).wr F.FAB_NODE_HOSTID x.srcId
  { s2 with hostMac := x.src }.routeLearn x.srcId p

/-- The ID, from a DISCOVER (R494 step 2): in LINKED, or in ASSIGNED with REASSIGN. Log entry 98 (DEDUCED). -/
def State.discoverId (s : State) (x : Parsed) : State :=
  let st := s.rd F.FAB_NODE_STATE
  let base := if beNat (x.pay 2 2) = 0 then s.rd F.FAB_CFGID_POSBASE else beNat (x.pay 2 2)
  if st = 1 ∨ (st = 2 ∧ x.byte 0 % 2 = 1) then
    if s.rd F.FAB_CTL_IDMODE = 0 then
      if s.rd F.FAB_CTL_TOPO = 2 ∨ s.rd F.FAB_NODE_POS = 0 then s
      else
        let id := base + s.rd F.FAB_NODE_POS - 1
        if 1 ≤ id ∧ id ≤ 2047 then s.idTake id else s.fabFlag 4
    else if s.rd F.FAB_CFGID_NODEID ≠ 0 then s.idTake (s.rd F.FAB_CFGID_NODEID)
    else s
  else s

/-- A DISCOVER consumed (R494): CLRROUTES clears before the host's route is learned, which the response takes.
Log entry 150 (DEDUCED). -/
def State.discover (s : State) (p : Nat) (x : Parsed) : State :=
  if x.resp then s
  else
    let s1 := if (x.byte 0).testBit 1 then s.routeClear else s
    let s2 := if s1.rd F.FAB_CTL_TOPO = 1 ∧ p = 1 then s1 else s1.discoverPlace p x
    let s3 := s2.discoverId x
    let s4 := if s3.rd F.FAB_NODE_STATE = 2 ∧ s3.rd F.FAB_NODE_ID = s3.rd F.FAB_NODE_HOSTID then s3.idConflict else s3
    s4.answer x 2 0 (s4.discoverReply p) none

/-- An ASSIGN consumed (R495, R496). Log entries 97 (DEDUCED), 98 (DEDUCED). -/
def State.assign (s : State) (x : Parsed) : State :=
  if x.resp || x.pay 0 6 != identBytes then s
  else
    let id := beNat (x.pay 6 2)
    let bad := decide (2047 < id)
    let s1 := if bad then s
      else if id = 0 then
        (((s.wr F.FAB_NODE_ID 0).off0 F.FAB_NODE_VALID).wr F.FAB_NODE_STATE 1).fabcLook
      else
        let s2 := s.idTake id
        if id = s2.rd F.FAB_NODE_HOSTID then s2.idConflict else s2
    s1.answer x 3 0 (identBytes ++ beBytes 2 id ++ [if bad then 1 else 0]) none

/-! ### Authenticated frames of sessions (R527) -/

/-- The tag of a frame of a session. -/
def State.sessTag (s : State) (n : Nat) (x : Parsed) : List Byte := hmac (s.session n).mac (hdrCovered x.head ++ x.payload)

/-- Whether a frame belongs to the open session in slot `n`: its peer, its tag, a new SEQ. Log entry 95 (DEDUCED). -/
def State.sessAccepts (s : State) (n : Nat) (x : Parsed) : Bool :=
  decide (n < 16) && s.sessOpen n && s.rd (F.FAB_SESS_STAT_PEER n) == x.srcId && x.auth && x.rest.take 32 == s.sessTag n x
    && decide ((s.session n).lastSeq < x.seq)

/-- A frame of slot `n` is accepted. -/
def State.sessTake (s : State) (n : Nat) (x : Parsed) : State :=
  (({ s with sess := Tab.set Sess.init s.sess n { s.session n with lastSeq := x.seq } }.inc (F.FAB_SESS_CNT_RXOK n))).sessTouch n

/-- A frame for slot `n` is rejected. Log entry 93 (DEDUCED). -/
def State.sessReject (s : State) (n : Nat) : State := if n < 16 then s.inc (F.FAB_SESS_CNT_REJ n) else s

/-- The MAC key of slot `n` while it is open. -/
def State.sessKey (s : State) (n : Nat) : Option (List Byte) := if n < 16 ∧ s.sessOpen n then some (s.session n).mac else none

/-! ### Far transactions at the target (R499-R501) -/

/-- The elements of a read, from address `a`: status, elements done, data. -/
def State.farElements (s : State) (slot : Fin 16) (a size : Nat) : Nat → Nat × List Byte × State
  | 0 => (0, [], s)
  | n + 1 =>
    let x := s.locRead (.host slot) a size
    match x.1 with
    | some (e, _) => (e.farStatus, [], x.2.2)
    | none =>
      let r := x.2.2.farElements slot (a + size) size n
      (r.1, x.2.1 ++ r.2.1, r.2.2)

/-- The elements of a write: status, elements done. -/
def State.farStores (s : State) (slot : Fin 16) (a : Nat) : List (List Byte) → Nat × Nat × State
  | [] => (0, 0, s)
  | l :: t =>
    let x := (s.ranked (.host slot) a).locWrite (.host slot) a l
    match x.1 with
    | some (e, _) => (e.farStatus, 0, x.2)
    | none =>
      let r := x.2.farStores slot (a + l.length) t
      (r.1, r.2.1 + 1, r.2.2)

/-- `l` in pieces of `n` bytes. -/
def pieces (n k : Nat) (l : List Byte) : List (List Byte) := (List.range k).map (fun i => (l.drop (n * i)).take n)

/-- The answer to a far request. -/
def State.farReply (s : State) (x : Parsed) (slot status done : Nat) (data : List Byte) : State :=
  s.answer x x.type (if status = 0 then 0 else flagErr) (x.pay 0 4 ++ [BitVec.ofNat 8 status, 0] ++ beBytes 2 done ++ data) (s.sessKey slot)

/-- A far request is performed (R501). Log entry 93 (DEDUCED). -/
def State.farRequest (s : State) (x : Parsed) : State :=
  let slot := beNat (x.pay 4 2)
  if (s.mode == .boot && !s.bit F.SYS_READY_CFG && !s.bit F.SYS_BOOTSTAT_HOLD) || !s.sessAccepts slot x then (s.sessReject slot).farReply x slot 7 0 []
  else
    let s1 := s.sessTake slot x
    let a := beNat (x.pay 6 4)
    let n := beNat (x.pay 10 2)
    let size := x.byte 12
    let write := x.type == 7
    if !(size == 1 || size == 2 || size == 6) || n = 0 || 1024 < n || n % size ≠ 0 || 2 ^ 30 ≤ a
        || (write && x.payload.length < 14 + n) then s1.farReply x slot 2 0 []
    else
      let w : Fin 16 := Fin.ofNat 16 slot
      if write then
        let r := s1.farStores w a (pieces size (n / size) (x.pay 14 n))
        (windowAfter (.host w) s1 r.2.2).farReply x slot r.1 r.2.1 []
      else
        let r := s1.farElements w a size (n / size)
        (windowAfter (.host w) s1 r.2.2).farReply x slot r.1 (r.2.1.length / size) (if r.1 = 0 then r.2.1 else [])

/-! ### Far transactions at the issuer (R498, R500) -/

/-- The end of core `c`'s far transaction: `status`, and the data of a read. Log entry 122 (DEDUCED). -/
def State.coreFarEnd (s : State) (c : Nat) (op : FarOp) (status : Nat) (data : List Byte) : State :=
  if (s.core c).run != .stalled then s
  else
    let s1 := s.setRun c .running
    if status ≠ 0 then (s1.farFail status op.addr).conclude c (.raise (s1.farFail status op.addr) .data (some op.addr))
    else
      match op.use with
      | .plain =>
        let s2 := if op.write then s1 else s1.setR c (BitVec.ofNat 6 op.reg) (extendLoad op.esize op.sext (leNat data))
        s1.conclude c (.done s2 [(op.addr, op.count, op.write)])
      | .block kind f got => s1.conclude c (s1.blockStep c kind f (got ++ [BitVec.ofNat 48 (leNat data)]))

/-- The end of a far transaction of any owner. -/
def State.farEnd (s : State) (op : FarOp) (status done : Nat) (data : List Byte) : State :=
  if op.owner < 5 then (s.farDrop op.owner).coreFarEnd op.owner op status data
  else
    let s1 := s.farDrop op.owner
    (if status = 0 then s1 else s1.farFail status op.addr).dmaFarEnd (op.owner - 5) op status done data

/-- A far response consumed: authenticated in the session of FAB_FARCTL.SESS, with a TAG that waits. -/
def State.farResponse (s : State) (x : Parsed) : State :=
  let slot := s.rd F.FAB_FARCTL_SESS
  if !s.sessAccepts slot x then s.sessReject slot
  else
    let s1 := s.sessTake slot x
    match s1.farOps.find? (fun o => o.tag == beNat (x.pay 0 4) && o.write == (x.type == 7) && nodeOf o.addr == x.srcId) with
    | some op => s1.farEnd op (x.byte 4) (beNat (x.pay 6 2)) (x.pay 8 op.count)
    | none => s1

/-- Whether the timeout of owner `i` stands still (R498). -/
def State.farFrozen (s : State) (i : Nat) : Bool := s.bit F.FAB_CTL_FRZ && s.rd F.FAB_CTL_FRZCORE == i && s.coreMon i

/-- FAR_TIMEOUT (R498). Log entry 122 (DEDUCED). -/
def execFarTimeout (i : Fin 21) (s : State) : Result :=
  ok (match s.farOps.find? (fun o => o.owner == i.val) with
    | some op => if s.farFrozen i then s else s.farEnd op 8 0 []
    | none => s)

/-! ### Fabric time (R520-R524) -/

/-- An ECHO request is answered on the port it came in on. Log entry 91 (DEDUCED). -/
def State.echoReply (s : State) (p : Nat) (x : Parsed) : State :=
  let t2 := s.stamp
  t2.2.sendOn p x.src x.tags 8 flagResp x.srcId
    ([2, BitVec.ofNat 8 (x.byte 1)] ++ x.pay 2 2 ++ beBytes 8 t2.1 ++ List.replicate 16 0) none

/-- FAB_Pn_LDELAY: the mean of the delays, F24 ns. -/
def State.delayShow (s : State) (p : Nat) : State :=
  let l := (s.fport p).delays
  s.wrI (F.FAB_P_LDELAY_D p) (l.foldl (fun x y => x + y) 0 * 256 / (max 1 l.length))

/-- The link delay of port `p` in 2^-16 ns. -/
def State.linkDelay (s : State) (p : Nat) : Int :=
  let l := (s.fport p).delays
  l.foldl (fun x y => x + y) 0 / (max 1 l.length)

/-- TIME_VALID sets once its conditions hold (R524). Log entry 103 (DEDUCED). -/
def State.timeTry (s : State) : State :=
  let small := decide (s.fabOfs.natAbs ≤ s.cycIn F.FAB_TIME_CTL_LIM * 65536)
  if s.bit F.FAB_TIME_STAT_TIME_VALID || s.isMaster || s.rd F.FAB_TIME_STAT_NEXCH != 8 || !s.syncSeen
      || !(s.mode == .standby || small) then s
  else
    let s1 := if s.timeSet then s else s.timeStep s.fabOfs
    { s1 with ofsBad := 0 }.timeValid true []

/-- An ECHO response consumed (R522). -/
def State.echoTake (s : State) (p : Nat) (x : Parsed) : State :=
  let y := s.fport p
  if y.t1 < 0 ∨ beNat (x.pay 2 2) ≠ y.echoNo then s
  else
    let t4 := s.stamp
    let d := (((t4.1 : Int) - y.t1) - ((beNat (x.pay 12 8) : Int) - beNat (x.pay 4 8))) / 2
    let s1 := t4.2.setFport p { y with delays := (d :: y.delays).take 8, nexch := min 8 (y.nexch + 1), t1 := -1 }
    ((s1.delayShow p).nexchShow).timeTry

/-- What the discipline loop does is not stated: DISC and the correction, within 50 ppm, are open (R524).
Log entry 102 (DESIGN CHOICE). -/
def State.discipline (s : State) : State :=
  let x := s.fresh
  let f : Int := (x.1.toNat % (100 * 2 ^ 24 + 1) : Nat) - 50 * 2 ^ 24
  let s1 := x.2.wrI F.FAB_TIME_FREQ_F f
  let d := x.1.getLsbD 47
  ((if d then s1.timeRise [1] else s1.off0 F.FAB_TIME_STAT_DISC)).wrb F.TICK_STATUS_DISC d

/-- FAB_TIME_OFS: the offset as F24 ns; one outside the format leaves it open. Log entry 104 (DESIGN CHOICE). -/
def State.ofsShow (s : State) : State :=
  let v := s.fabOfs * 256
  if -(2 ^ 47) ≤ v ∧ v < 2 ^ 47 then s.wrI F.FAB_TIME_OFS_OFS v
  else
    let x := s.fresh
    x.2.setReg A.FAB_TIME_OFS x.1

/-- The offset is beyond LIM, or not, at a SYNC (R524). -/
def State.ofsLook (s : State) : State :=
  if !s.bit F.FAB_TIME_STAT_TIME_VALID then s
  else if decide (s.fabOfs.natAbs ≤ s.cycIn F.FAB_TIME_CTL_LIM * 65536) then { s with ofsBad := 0 }.discipline
  else
    let s1 := { s with ofsBad := s.ofsBad + 1 }
    if 4 ≤ s1.ofsBad then s1.timeValid false [3] else s1.discipline

/-- A SYNC consumed (R523, R524). -/
def State.syncTake (s : State) (p : Nat) (x : Parsed) : State :=
  if s.isMaster then s
  else if beNat (x.pay 20 4) ≠ s.cycleLen then (s.on F.FAB_CYC_STAT_LENERR).fabcLook
  else
    let t := s.stamp
    let master : Int := ((beNat (x.pay 8 4) * 2 ^ 48 + beNat (x.pay 2 6)) * 65536 : Nat)
    let ofs := (t.1 : Int) - (master + beNat (x.pay 12 8) + s.linkDelay p)
    let s1 := { t.2 with fabOfs := ofs, syncSeen := true }
    let s2 := ((s1.wr F.FAB_TIME_STAT_SYNCPORT p).nexchShow).ofsShow
    let s3 := (s2.off0 F.FAB_CYC_STAT_LENERR).after (300000 * s2.cycIn F.FAB_TIME_CTL_SYNCPER) .syncTimeout
    s3.ofsLook.timeTry.fabcLook

/-- The payload of a SYNC as it is sent on: CORR grows by the delay of the input link and the residence, which the spec bounds
(R487, R523). Log entry 104 (DESIGN CHOICE). -/
def State.syncPass (s : State) (p : Nat) (x : Parsed) : List Byte × State :=
  let f := s.fresh
  let corr := (beNat (x.pay 12 8) : Int) + s.linkDelay p + ((f.1.toNat % (280 * 65536 + 1) : Nat) : Int)
  (x.pay 0 12 ++ beBytes 8 (corr % 2 ^ 64).toNat ++ x.payload.drop 20, f.2)

/-! ### Sessions (R526-R528, R574) -/

/-- A MGMT answer: operation, slot, status, and the rest. -/
def State.mgmtReply (s : State) (x : Parsed) (op status : Nat) (rest : List Byte) (key : Option (List Byte)) : State :=
  s.answer x 5 0 ([BitVec.ofNat 8 op, BitVec.ofNat 8 (x.byte 1), BitVec.ofNat 8 status] ++ rest) key

/-- A REFUSE. -/
def State.refuseMgmt (s : State) (x : Parsed) (status : Nat) (key : Option (List Byte)) : State := s.mgmtReply x 5 status [] key

/-- An OPEN that passes (R526, R527): keys are derived, the slot opens, ACCEPT is sent. Log entries 94 (DEDUCED), 95 (DEDUCED). -/
def State.sessGrant (s : State) (p n k : Nat) (x : Parsed) : State :=
  let draw := s.freeCtr
  let s1 := s.fresh.2
  let nonce := Config.random draw 32
  let keys := hkdf (Config.ecdhShared draw (x.pay 37 64)) (x.pay 5 32 ++ nonce) (ascii "PLVK" ++ identBytes) 64
  let rights := Nat.land (x.byte 4) (Nat.land (s.rightsMask k) 0x3F)
  let first := [(2 : Byte), BitVec.ofNat 8 n, 0, BitVec.ofNat 8 rights] ++ nonce ++ Config.ephemeralPublic draw
  let sig := Config.ecdsaSignDev (sha256 (x.pay 0 101 ++ first))
  let slot := { Sess.init with mac := keys.take 32, wrap := keys.drop 32, lastSeq := x.seq, port := p, peerMac := x.src }
  let s2 := { s1 with sess := Tab.set Sess.init s1.sess n slot }
  let s3 := ((s2.wr (F.FAB_SESS_STAT_STATE n) 2).wr (F.FAB_SESS_STAT_RIGHTS n) rights).wr (F.FAB_SESS_STAT_KEYIDX n) k
  ((((s3.wr (F.FAB_SESS_STAT_PEER n) x.srcId).sessTouch n).irq 103).answer x 5 0 (first ++ sig) none)

/-- An OPEN consumed (R526). Log entry 94 (DEDUCED). -/
def State.mgmtOpen (s : State) (p : Nat) (x : Parsed) : State :=
  let n := x.byte 1
  let k := x.byte 3
  if 16 ≤ n ∨ x.payload.length < 165 then s
  else if s.mode == .shutdown then s.refuseMgmt x 2 none
  else if s.sessOpen n && s.rd (F.FAB_SESS_STAT_PEER n) != x.srcId then s.refuseMgmt x 3 none
  else if 4 ≤ k ∨ !s.keyUsable k || !Config.ecdsaVerify (s.ownerKey k) (sha256 (x.pay 0 101 ++ identBytes)) (x.pay 101 64) then
    s.refuseMgmt x 1 none
  else s.sessGrant p n k x

/-- The report of an ATTEST (R574). Log entries 96 (DEDUCED), 105 (DEDUCED). -/
def State.attestReport (s : State) (nonce : List Byte) : List Byte :=
  let b (f : Fld) : Nat := if s.bit f then 1 else 0
  let flags := b F.SYS_BOOTSTAT_SAF_SLOT + 2 * b F.SYS_BOOTSTAT_APP_SLOT + 4 * b F.SYS_BOOTSTAT_APP_IMG_BAD
    + 8 * b F.SYS_BOOTSTAT_HALF_ERASED + 16 * b F.CFGRPT_STATUS_SIGNED + 32 * b F.CFGRPT_STATUS_SIG_OK
  let digest (app bad : Bool) (slot : Nat) : List Byte := if bad then List.replicate 32 0 else s.imageDigest (slotBase app slot)
  let cfg := if s.rd F.CFGRPT_STATUS_COPY = 3 then List.replicate 32 0
    else ((List.range 6).flatMap (fun k => leBytes 6 (s.rd (F.CFGRPT_DIGEST_DIGEST k)))).take 32
  let body := [0x41, 0x54, 0x53, 0x54, 0x01, 0x00] ++ leBytes 6 Config.serial.toNat
    ++ [BitVec.ofNat 8 (s.rd F.SYS_ID_HWREV), BitVec.ofNat 8 flags, BitVec.ofNat 8 ((s.reg A.SYS_LBIST).toNat % 8),
        BitVec.ofNat 8 (s.rd F.CRY_OTPSTAT_PROV + 16 * s.rd F.CRY_OTPSTAT_REVOKED)] ++ nonce
    ++ digest false (s.bit F.SYS_BOOTSTAT_SAF_IMG_BAD) (s.rd F.SYS_BOOTSTAT_SAF_SLOT)
    ++ digest true (s.bit F.SYS_BOOTSTAT_APP_IMG_BAD) (s.rd F.SYS_BOOTSTAT_APP_SLOT)
    ++ cfg ++ leBytes 4 (s.rd F.CRY_SAFVER_VER) ++ leBytes 4 (s.rd F.CRY_APPVER_VER) ++ leBytes 6 (s.reg A.SYS_RSTCNT).toNat
    ++ leBytes 6 (s.reg A.SYS_RSTCAUSE).toNat ++ leBytes 6 (s.reg A.SYS_RSTCAUSE_PREV).toNat ++ leBytes 4 (s.rd F.CFGRPT_SEQ_SEQ)
    ++ [BitVec.ofNat 8 (s.rd F.CRY_OTPSTAT_EPOCH), 0]
  body ++ Config.ecdsaSignDev (sha256 body)

/-- The REPORT to an ATTEST. -/
def State.attestSend (s : State) (x : Parsed) : State :=
  s.mgmtReply x 7 0 (s.attestReport (x.pay 3 32)) (s.sessKey (x.byte 1))

/-- An ATTEST that waited for a software job is answered once the engine is free (R575). Log entry 85 (DEDUCED). -/
def State.attestServe (s : State) : State :=
  match s.attestWait with
  | some (_, l) =>
    if s.bit F.CRY_STAT_BUSY then s
    else
      let s1 := { s with attestWait := none }
      match parseFrame l with
      | some x => s1.attestSend x
      | none => s1
  | none => s

/-- A MGMT frame consumed (R526, R527, R574). Log entries 85 (DEDUCED), 93 (DEDUCED), 94 (DEDUCED). -/
def State.mgmt (s : State) (p : Nat) (x : Parsed) (frame : List Byte) : State :=
  let n := x.byte 1
  let op := x.byte 0
  if x.resp then s
  else if op = 1 then s.mgmtOpen p x
  else if op = 3 ∨ op = 4 ∨ op = 6 then
    if !s.sessAccepts n x then (s.sessReject n).refuseMgmt x 7 (s.sessKey n)
    else
      let s1 := s.sessTake n x
      if op = 3 then s1.sessClose n
      else if op = 4 then
        if !(s1.rights n).testBit 5 then s1.refuseMgmt x 4 (s1.sessKey n)
        else
          let pad := (hkdfBlocks (s1.session n).wrap (ascii "cyckey" ++ x.pay 3 4) 1 1 []).take 32
          { s1 with cycKeyNext := some (beNat (x.pay 3 4), (x.pay 7 32).zipWith (fun a b => a ^^^ b) pad) }
      else if !(s1.rights n).testBit 0 then s1.refuseMgmt x 4 (s1.sessKey n)
      else if s1.bit F.CRY_STAT_BUSY then
        (if s1.attestWait.isSome then s1.refuseMgmt x 2 (s1.sessKey n) else { s1 with attestWait := some (p, frame) })
      else s1.attestSend x
  else s

/-! ### The cyclic exchange (R510-R516, R528) -/

/-- The word at an insert-mapped address, read by the fabric. -/
def State.cycRead (s : State) (k : Nat) : Word × State :=
  let x := s.locRead .fabric (s.rd (F.FAB_CYC_MAP_ADDR k)) 6
  (BitVec.ofNat 48 (leNat x.2.1), x.2.2)

/-- CYCLIC_SNAPSHOT (R515): the insert-mapped addresses in entry order into the insertion buffer. Log entry 87 (DEDUCED). -/
def execCyclicSnapshot (s0 : State) : Result :=
  let s := s0.cancel .cyclicSnapshot
  if !s.fabLive || !s.bit F.FAB_CYC_CTL_EN then ok s
  else
    let r := s.insertEntries.foldl (fun (acc : List Word × State) k =>
      let x := acc.2.cycRead k
      (acc.1 ++ [x.1], x.2)) ([], s)
    ok ({ r.2 with
      cycOld := s.cycBuf, cycOldNo := s.cycBufNo, cycBuf := r.1, cycBufNo := s.rd F.FAB_CYC_NO_CYCNO
      snapAt := some s.instant }.on F.FAB_CYC_STAT_SNAPRDY)

/-- The module status word (R512). -/
def State.cycStatus (s : State) (late : Bool) (no : Nat) : Word :=
  let w := setBits (setBits (setBits 0 0 3 (s.rd F.SYS_MODE_MODE)) 3 1 (s.rd F.FAB_TIME_STAT_TIME_VALID)) 4 1 (if late then 1 else 0)
  let w1 := setBits (setBits (setBits w 5 2 (s.rd F.FAB_CYC_STAT_CONSEC)) 7 1 (s.rd F.SYS_READY_FABC)) 8 8 (s.rd F.FAB_CYC_CNT_LOSTCNT)
  setBits (setBits w1 16 16 no) 32 11 (s.rd F.FAB_NODE_ID)

/-- `l` with the bytes `v` from place `i` on. -/
def overwrite (l : List Byte) (i : Nat) (v : List Byte) : List Byte := l.take i ++ v ++ l.drop (i + v.length)

/-- The payload after insertion, and what insertion brings (R515). Log entry 99 (DEDUCED). -/
def State.cycInsert (s : State) (payload : List Byte) : List Byte × State :=
  let tx := s.rd F.FAB_CYC_REGION_TXOFS
  if s.rd F.FAB_CYC_REGION_TXLEN = 0 ∨ payload.length < tx + s.rd F.FAB_CYC_REGION_TXLEN then (payload, s)
  else
    let ready := s.bit F.FAB_CYC_STAT_SNAPRDY
    let same := ready && s.sameAs s.snapAt
    let late := !ready || same
    let words := if same then s.cycOld else s.cycBuf
    let no := if same then s.cycOldNo else s.cycBufNo
    let p0 := overwrite payload tx (leBytes 6 (s.cycStatus late no).toNat)
    let p1 := (s.insertEntries.zip words).foldl (fun p e =>
      overwrite p (tx + 6 + 6 * s.rd (F.FAB_CYC_MAP_WORD e.1)) (leBytes 6 e.2.toNat)) p0
    let s1 := if late then ((s.cycFlag 1).inc F.FAB_CYC_CNT_LATECNT).fire 6 0 else s
    (p1, s1.fire 5 1)

/-- The enabled extract entries. -/
def State.extractEntries (s : State) : List Nat :=
  (List.range 64).filter (fun k => s.bit (F.FAB_CYC_MAP_EN k) && !s.bit (F.FAB_CYC_MAP_DIR k))

/-- A frame of the present cycle is consumed: the extracted words are written in entry order (R514, R516).
Log entries 99 (DEDUCED), 101 (DEDUCED). -/
def State.cycApply (s : State) (x : Parsed) : State :=
  let s1 := ({ s with cycGot := true }.wr F.FAB_CYC_STAT_CONSEC 0).wr F.FAB_CYC_ARR_T (min (2 ^ 24 - 1) (s.now - s.cycAt))
  let rx := s.rd F.FAB_CYC_REGION_RXOFS
  let l := s1.extractEntries
  let s2 := l.foldl (fun s k =>
    ((s.ranked .fabric 0).locWrite .fabric (s.rd (F.FAB_CYC_MAP_ADDR k)) (x.pay (rx + 6 * s.rd (F.FAB_CYC_MAP_WORD k)) 6)).2) s1
  if l.isEmpty then s2 else s2.fire 5 0

/-- Whether the module consumes CYCLIC frames now (R510, R516, R529). -/
def State.cycOpenFor (s : State) (x : Parsed) : Bool :=
  x.bcast && x.srcId == s.rd F.FAB_NODE_HOSTID && s.bit F.FAB_NODE_VALID && s.bit F.FAB_CYC_STAT_ACTIVE && !s.cycBad

/-- The 8-byte tag of a cyclic frame (R528). -/
def cycTag (key : List Byte) (head payload : List Byte) : List Byte := (hmac key (hdrCovered head ++ payload)).take 8

/-- Bytes that the spec leaves open. Log entry 100 (DESIGN CHOICE). -/
def State.freshBytes (s : State) : List Byte × State :=
  let a := s.fresh
  let b := a.2.fresh
  (leBytes 6 a.1.toNat ++ leBytes 2 b.1.toNat, b.2)

/-- A CYCLIC frame passes (R514-R516, R518, R528): its payload and rest as they leave, and the state.
Log entries 99 (DEDUCED), 100 (DESIGN CHOICE). -/
def State.cyclic (s : State) (x : Parsed) : (List Byte × List Byte) × State :=
  if !s.cycOpenFor x then ((x.payload, x.rest), s)
  else if beNat (x.pay 0 4) ≠ s.rd F.FAB_CYC_NO_CYCNO then ((x.payload, x.rest), s.cycFlag 5)
  else if s.cycGot || !s.cycOpen then ((x.payload, x.rest), s)
  else
    let auth := s.cycIn F.FAB_CYC_CTL_AUTH == 1
    let fails (s : State) : State := (s.cycFlag 4).inc F.FAB_CYC_CNT_AUTHCNT
    if auth && !(x.auth && decide (8 ≤ x.rest.length)) then ((x.payload, x.rest), fails s)
    else
      let i := s.cycInsert x.payload
      if !auth then ((i.1, x.rest), if x.fcsGood then i.2.cycApply x else i.2)
      else
        match s.cycKey with
        | none =>
          let f := i.2.freshBytes
          ((i.1, f.1 ++ x.rest.drop 8), fails f.2)
        | some key =>
          let good := x.rest.take 8 == cycTag key x.head x.payload
          let tag := cycTag key x.head i.1
          let out := if good then tag else tag.map (fun b => ~~~b)
          ((i.1, out ++ x.rest.drop 8), if !good then fails i.2 else if x.fcsGood then i.2.cycApply x else i.2)

/-! ### Arrival -/

/-- The frame as it is sent on: HOPS and the payload changed, the FCS new, or the complement of the right one (R484, R486). -/
def passFrame (x : Parsed) (payload rest : List Byte) : List Byte :=
  let h := x.head.take 6 ++ [BitVec.ofNat 8 (x.hops + 1)] ++ x.head.drop 7
  let f := x.dest ++ x.src ++ x.tags ++ [0x88, 0xB5] ++ h ++ payload ++ rest
  f ++ leBytes 4 (if x.fcsGood then crc32 f else 2 ^ 32 - 1 - crc32 f)

/-- A frame is sent on (R486, R519). Log entry 108 (DESIGN CHOICE). -/
def State.passOn (s : State) (p : Nat) (x : Parsed) (payload rest : List Byte) : State :=
  if (x.hops + 1) % 256 = x.hlim then s.inc (F.FAB_P_ERRCNT_HOPDROP p)
  else
    let out := if s.portIsUp (1 - p) then 1 - p else if x.type = 1 ∧ s.rd F.FAB_CTL_TOPO = 1 then p else 1 - p
    s.fabEmit out (passFrame x payload rest)

/-- A frame addressed here takes effect (R483, R485). -/
def State.consume (s : State) (p : Nat) (x : Parsed) (frame : List Byte) : State :=
  if x.ver ≠ 1 ∨ x.type = 0 ∨ 9 ≤ x.type then s.inc (F.FAB_P_ERRCNT_OTHER p)
  else if x.type = 2 then s.discover p x
  else if x.type = 3 then s.assign x
  else if x.type = 5 then s.mgmt p x frame
  else if x.type = 6 ∨ x.type = 7 then (if x.resp then s.farResponse x else s.farRequest x)
  else if x.isTime 3 then s.syncTake p x
  else s

/-- The FABDROP perturbation at an arriving frame (R612): whether it discards it. -/
def State.dropTest (s : State) (p : Nat) (frame : List Byte) : Bool × State :=
  let cyc := match parseFrame frame with
    | some x => x.type == 1
    | none => false
  if !s.tstOn 4 || !s.bitAt F.TST_FABDROP_PORTS p || (s.bit F.TST_FABDROP_CYCONLY && !cyc) then (false, s)
  else
    let n := s.dropNo + 1
    if s.rd F.TST_FABDROP_N ≤ n then (true, { s with dropNo := 0 }.inc F.TST_FABDROP_CNT) else (false, { s with dropNo := n })

/-- Whether an Ethernet destination is this port's own or the Plovkolu group (R492). -/
def destHere (p : Nat) (l : List Byte) : Bool := l.take 6 == portMac p || l.take 6 == [0x03, 0x50, 0x4B, 0x00, 0x00, 0x00]

/-- A frame whose header is sound: learning, conflict, forwarding, consumption. Log entries 90 (DEDUCED), 92 (DEDUCED). -/
def State.frameGood (s : State) (p : Nat) (x : Parsed) (frame : List Byte) : State :=
  let own := x.src == portMac 0 || x.src == portMac 1
  let s1 := if x.fcsGood || x.fcsMarked then s else s.inc (F.FAB_P_ERRCNT_FCS p)
  let s2 := if own then s1 else s1.routeLearn x.srcId p
  let s3 := if x.fcsGood && !own && s2.rd F.FAB_NODE_STATE == 2 && x.srcId == s2.rd F.FAB_NODE_ID then s2.idConflict else s2
  let echo := x.isTime 1 || x.isTime 2
  let here := s3.addressed x
  let passes := decide (s3.rd F.FAB_CTL_TOPO < 2) && !echo && !(here && !x.bcast)
  let sound := x.whole && x.ver == 1
  let c : (List Byte × List Byte) × State :=
    if sound && x.type == 1 then s3.cyclic x
    else if sound && x.isTime 3 && passes then (((s3.syncPass p x).1, x.rest), (s3.syncPass p x).2)
    else ((x.payload, x.rest), s3)
  let s4 := if passes then c.2.passOn p x c.1.1 c.1.2 else c.2
  if !x.fcsGood || own then s4
  else if echo then (if !x.whole then s4 else if x.isTime 1 then s4.echoReply p x else s4.echoTake p x)
  else if here && x.whole then s4.consume p x frame
  else s4

/-- A frame arrives on port `p` (R481-R492): from the destination address through the FCS. -/
def State.frameIn (s : State) (p : Nat) (frame : List Byte) : State :=
  if !s.fabLive || s.dormAt.isSome || !s.portIsUp p then s
  else
    let s1 := s.inc (F.FAB_P_FRCNT_RX p)
    let d := s1.dropTest p frame
    if d.1 then d.2
    else if d.2.rd F.FAB_CTL_TOPO = 2 ∧ !destHere p frame then d.2
    else
      match parseFrame frame with
      | none => d.2.inc (F.FAB_P_ERRCNT_OTHER p)
      | some x => if !x.hcrcGood then d.2.inc (F.FAB_P_ERRCNT_HCRC p) else d.2.frameGood p x frame

/-- A frame of the kind that a command names; another frame is no occurrence of that command. -/
def State.frameOf (s : State) (p : Nat) (frame : List Byte) (kind : Parsed → Bool) : State :=
  match parseFrame frame with
  | some x => if kind x then s.frameIn p frame else s
  | none => s

/-- FRAME_RECEIVE (R486). -/
def execFrameReceive (p : Fin 2) (frame : List Byte) (s : State) : Result := ok (s.frameIn p frame)

/-- DISCOVER (R494). -/
def execDiscover (p : Fin 2) (frame : List Byte) (s : State) : Result := ok (s.frameOf p frame (fun x => x.type == 2))

/-- ASSIGN (R495). -/
def execAssign (p : Fin 2) (frame : List Byte) (s : State) : Result := ok (s.frameOf p frame (fun x => x.type == 3))

/-- FAR_READ_REQUEST (R501). -/
def execFarReadRequest (p : Fin 2) (frame : List Byte) (s : State) : Result := ok (s.frameOf p frame (fun x => x.type == 6 && !x.resp))

/-- FAR_WRITE_REQUEST (R501). -/
def execFarWriteRequest (p : Fin 2) (frame : List Byte) (s : State) : Result := ok (s.frameOf p frame (fun x => x.type == 7 && !x.resp))

/-- FAR_RESPONSE (R498). -/
def execFarResponse (p : Fin 2) (frame : List Byte) (s : State) : Result :=
  ok (s.frameOf p frame (fun x => (x.type == 6 || x.type == 7) && x.resp))

/-- CYCLIC_FRAME (R514). -/
def execCyclicFrame (p : Fin 2) (frame : List Byte) (s : State) : Result := ok (s.frameOf p frame (fun x => x.type == 1))

/-- ECHO_REQUEST (R521). -/
def execEchoRequest (p : Fin 2) (frame : List Byte) (s : State) : Result := ok (s.frameOf p frame (fun x => x.isTime 1))

/-- ECHO_RESPONSE (R522). -/
def execEchoResponse (p : Fin 2) (frame : List Byte) (s : State) : Result := ok (s.frameOf p frame (fun x => x.isTime 2))

/-- SYNC_RECEIVE (R523). -/
def execSyncReceive (p : Fin 2) (frame : List Byte) (s : State) : Result := ok (s.frameOf p frame (fun x => x.isTime 3))

/-- MGMT_OPEN (R526). -/
def execMgmtOpen (p : Fin 2) (frame : List Byte) (s : State) : Result := ok (s.frameOf p frame (fun x => x.type == 5 && x.byte 0 == 1))

/-- MGMT_CLOSE (R526). -/
def execMgmtClose (p : Fin 2) (frame : List Byte) (s : State) : Result := ok (s.frameOf p frame (fun x => x.type == 5 && x.byte 0 == 3))

/-- MGMT_CYCKEY (R526). -/
def execMgmtCyckey (p : Fin 2) (frame : List Byte) (s : State) : Result := ok (s.frameOf p frame (fun x => x.type == 5 && x.byte 0 == 4))

/-- MGMT_ATTEST (R574). -/
def execMgmtAttest (p : Fin 2) (frame : List Byte) (s : State) : Result := ok (s.frameOf p frame (fun x => x.type == 5 && x.byte 0 == 6))

end Sys2Proof.Machine
end

