-- ==== Sys2Proof/Machine/Tap.lean ====
section
/-! DEFINITION. The TAP on J-SVC (R61, R62, R607, R608). -/
namespace Sys2Proof.Machine

/-- Whether J-SVC is live (R62). -/
def State.jsvcLive (s : State) : Bool := !s.modeIn [.off, .dormant]

/-- Whether boundary scan is available (R62). -/
def State.scanOpen (s : State) : Bool := s.modeIn [.boot, .standby]

/-- Instruction `ir` is in the TAP with captured data `d`, and nothing is driven from the boundary register. -/
def State.tapLoad (s : State) (ir d : Nat) : State := { s with tapIr := ir, tapData := d, boundary := [] }

/-- The instruction codes of R607. -/
def irIdcode : Nat := 0x01
/-- SAMPLE/PRELOAD. -/
def irSample : Nat := 0x02
/-- EXTEST. -/
def irExtest : Nat := 0x03
/-- MEMAP. -/
def irMemap : Nat := 0x09
/-- BYPASS. -/
def irBypass : Nat := 0x1F

/-- The IDCODE register (R607). -/
def State.idcode (s : State) : Nat :=
  let rev := s.rd F.SYS_ID_HWREV
  let v := if 0x41 ≤ rev ∧ rev ≤ 0x4E then rev - 0x40 else 0xF
  v * 2 ^ 28 + 0x0024 * 2 ^ 12 + 0x4E5 * 2 + 1

/-- TAP_RESET (R61): the TAP holds IDCODE again and drives nothing. -/
def execTapReset (s : State) : Result := ok (if s.jsvcLive then s.tapLoad irIdcode 0 else s)

/-- IDCODE (R607). -/
def execIdcode (s : State) : Result := ok (if s.jsvcLive then s.tapLoad irIdcode s.idcode else s)

/-- BYPASS (R607): the 1-bit register captures 0. -/
def execBypass (s : State) : Result := ok (if s.jsvcLive then s.tapLoad irBypass 0 else s)

/-- SAMPLE_PRELOAD (R62, R607): the boundary register of the revision is not described, so what it captures is open.
Log entry 124 (DESIGN CHOICE). -/
def execSamplePreload (s : State) : Result :=
  ok (if !s.jsvcLive then s
    else if !s.scanOpen then s.tapLoad irBypass 0
    else
      let x := s.fresh
      x.2.tapLoad irSample x.1.toNat)

/-- EXTEST (R62, R607): contacts are driven from the boundary register. Log entry 124 (DESIGN CHOICE). -/
def execExtest (boundary : List Bool) (s : State) : Result :=
  ok (if !s.jsvcLive then s
    else if !s.scanOpen || !s.bit F.DBG_AUTHSTAT_OK then s.tapLoad irBypass 0
    else
      let x := s.fresh
      { x.2.tapLoad irExtest x.1.toNat with boundary := boundary })

/-- The STATUS of a failed MEMAP access (R608). -/
def tapStatus (a : Nat) : AccErr → Nat
  | .ecc => 4
  | .safety => 3
  | .spField => 3
  | .guarded => if isRegion a then 3 else 2
  | _ => 2

/-- What MEMAP captures: DATA, address, WR and STATUS. -/
def tapCapture (data : Word) (addr : Nat) (wr : Bool) (status : Nat) : Nat :=
  data.toNat + addr % 2 ^ 30 * 2 ^ 48 + (if wr then 2 ^ 78 else 0) + status * 2 ^ 80

/-- The end of a MEMAP access. -/
def State.memapDone (s : State) (addr : Nat) (wr : Bool) (data : Word) (status : Nat) : State :=
  { s.tapLoad irMemap (tapCapture data addr wr status) with tapStat := status, tapWord := data }

/-- MEMAP (R608): one 6-byte debug access; before authorisation only the open registers.  What DATA shows after a write or a
failed access is not stated. Log entry 124 (DESIGN CHOICE). -/
def execMemap (rd : Bool) (addr : Nat) (v : Word) (s : State) : Result :=
  ok (if !s.jsvcLive then s
    else
      let x := s.fresh
      if !s.bit F.DBG_AUTHSTAT_OK && !openRange addr then x.2.memapDone addr (!rd) x.1 3
      else if rd then
        let r := x.2.locRead .debugger addr 6
        match r.1 with
        | some e => (windowAfter .debugger s r.2.2).memapDone addr false x.1 (tapStatus addr e.1)
        | none => (windowAfter .debugger s r.2.2).memapDone addr false (BitVec.ofNat 48 (leNat r.2.1)) 0
      else
        let r := (x.2.ranked .debugger addr).locWrite .debugger addr (leBytes 6 v.toNat)
        (windowAfter .debugger s r.2).memapDone addr true x.1 (match r.1 with
          | some e => tapStatus addr e.1
          | none => 0))

end Sys2Proof.Machine
end

