-- ==== Sys2Proof/Machine/Clock.lean ====
section
/-! DEFINITION. The passing of time: what a drive-base cycle brings while no command waits (R27-R31, R105, R110, R114, R136, R139,
R162, R277, R588).  A counter that comes to an event's point makes that event due; the event itself is its command's meaning. -/
namespace Sys2Proof.Machine

/-! ### Events that stand still (R126, R155, R242, R300, R430, R445, R498, R550, R551) -/

/-- Whether an event that is due waits because what counts towards it stands still. -/
def State.standsStill (s : State) (e : Instr) : Bool :=
  match e with
  | .mwdtHalf => s.mwdtFrozen
  | .mwdtExpire => s.mwdtFrozen
  | .cwdExpire n => s.cwdFrozen n
  | .cryJobDone => s.cryFrozen
  | .icuGroupTimeout c _ => s.bit (F.ICU_CTL_FRZ c) && s.coreMon c
  | .farTimeout i => s.farFrozen i
  | .dmaElementRead _ => s.dmaFrozen
  | .dmaElementWrite _ => s.dmaFrozen
  | .emuEdgeOutput _ => s.fbFrozen
  | .laneCurrentPass _ => s.laneFrozen
  | .laneOuterStage _ => s.laneFrozen
  | _ => false

/-- Every event that stands still is due one cycle later. -/
def State.holdEvents (s : State) : State :=
  if s.alarms.any (fun p => s.standsStill p.2) then
    let late := (s.alarms.filter (fun p => s.standsStill p.2)).map (fun p => (p.1 + 1, p.2))
    { s with alarms := late.foldl (fun l p => alarmInsert p l) (s.alarms.filter (fun p => !s.standsStill p.2)) }
  else s

/-! ### The carriers -/

/-- The triggers of the serial ports of quad `q` (R277). -/
def State.triggerLook (s : State) (q : Nat) : State :=
  s.upto 4 (fun k s => if s.triggerDue (4 * q + k) then s.after 0 (.serialTrigger (Fin.ofNat 24 (4 * q + k))) else s)

/-- What the carrier of quad `q` reaches at its present position: valley, peak, sample points, window edges; the edges of a valley
or a peak follow its duty load. -/
def State.carrierReach (s : State) (q : Nat) : State :=
  let s1 := s.carrierPoint q
  if s1.due (.carrierValley (Fin.ofNat 6 q)) || s1.due (.carrierPeak (Fin.ofNat 6 q)) then s1
  else s1.upto 12 (fun k s => s.edgeLook (4 * q + k / 3) (k % 3))

/-- One drive-base cycle of the carrier of quad `q` (R136). -/
def State.carrierCycle (s : State) (q : Nat) : State :=
  if !s.carrierOn q || s.carriersFrozen then s
  else
    let peak := s.inForce (F.PWM_Q_PERIOD_PEAK q)
    let pos := (s.rd (F.PWM_Q_CNT_POS q) + 1) % max 1 (2 * peak)
    ((s.wr (F.PWM_Q_CNT_POS q) pos).wrb (F.PWM_Q_CNT_DIR q) (decide (peak ≤ pos))).carrierReach q

/-! ### Tick, time, timers -/

/-- One drive-base cycle of TICK and of system time (R105, R110). Log entry 102 (DESIGN CHOICE). -/
def State.tickCycle (s : State) : State :=
  if !s.tickRuns || s.dormAt.isSome then s
  else
    let s1 := s.timeCycle
    let ph := s1.rd F.TICK_PHASE_PHASE + 1
    if s1.inForce F.TICK_FRAME_COUNTS ≤ ph then
      { s1.wr F.TICK_PHASE_PHASE 0 with alarms := (s1.now, .frameTick) :: (s1.cancel .frameTick).alarms }
    else s1.wr F.TICK_PHASE_PHASE ph

/-! ### The AON domain (R588) -/

/-- One cycle of the 32.768 kHz clock: the AON timer, and in DORMANT the cycle count and a look at the wake sources.
Log entry 38 (DEDUCED). -/
def State.aonCycle (s : State) : State :=
  let s1 := if !s.bit F.AON_TMR_EN then s
    else if s.rd F.AON_TMR_CNT ≤ 1 then s.after 0 .aonTimerExpire
    else s.wr F.AON_TMR_CNT (s.rd F.AON_TMR_CNT - 1)
  if s1.mode == .dormant then
    let s2 := s1.setReg A.AON_DCYC (s1.reg A.AON_DCYC + 1)
    if s2.wakeAt.isNone && s2.wakeSources != 0 && !s2.due .wake then s2.after 0 .wake else s2
  else s1

/-- The AON clock over one drive-base cycle. Log entry 13 (DESIGN CHOICE). -/
def State.aonClock (s : State) : State :=
  let f := s.aonFrac + 32768
  if 750000000 ≤ f then { s with aonFrac := f - 750000000 }.aonCycle else { s with aonFrac := f }

/-! ### The cycle -/

/-- What engines that wait take up (R440, R460, R568, R575), and the chain that an ECC fault of Zenou-S asserts (R536, R538). -/
def State.engines (s : State) : State :=
  let s0 := if s.reg A.SAF_FAULT != 0 then s.stoLook else s
  let s1 := s0.flcKick.cryPoll.attestServe
  if !s1.dmaFrozen && (List.range 16).any (fun n => s1.dmaBusy n) then s1.dmaKick else s1

/-- One drive-base cycle, in which what happens is clocked. Log entry 2 (DESIGN CHOICE). -/
def State.cycleWork (s0 : State) : State :=
  let s := { s0.capSettle.holdEvents with now := s0.now + 1, clocked := true }.softFire
  if s.mode == .off then s
  else
    let s1 := s.aonClock
    if s1.modeIn [.dormant] || s1.dormAt.isSome then s1.entryStep.exitStep
    else
      let s2 := (s1.compCycle (s1.rd F.TICK_PHASE_PHASE)).tickCycle
      let s3 := s2.upto 6 (fun q s => (s.carrierCycle q).triggerLook q)
      s3.tmrCycles.engines

/-- One drive-base cycle. Log entry 2 (DESIGN CHOICE). -/
def State.cycle (s : State) : State := { s.cycleWork with clocked := false }

/-- What goes first among the events of a cycle: the frame tick, then the DMA's writes, then the others (R33, R258). -/
def eventRank : Instr → Nat
  | .frameTick => 0
  | .dmaElementWrite _ => 1
  | _ => 2

/-- The event that is due now, if any. Log entry 2 (DESIGN CHOICE). -/
def State.dueNow (s : State) : Option (Nat × Instr) :=
  let l := s.alarms.filter (fun p => decide (p.1 ≤ s.now) && !s.standsStill p.2)
  match l.find? (fun p => eventRank p.2 == 0) with
  | some p => some p
  | none =>
    match l.find? (fun p => eventRank p.2 == 1) with
    | some p => some p
    | none => l.head?

end Sys2Proof.Machine
end

