-- ==== Sys2Proof/Machine/Access.lean ====
section
/-! DEFINITION. The register accesses that are commands of their own: each is the 6-byte write or read of its register by the
named writer, through the one bus operation of Bus.lean.  A command that names single fields writes the register's other
read-write fields as they are. -/
namespace Sys2Proof.Machine

/-- A register's word as a writer of single fields writes it back: the fields of the list `(lo, w, v)` at their new values, every
write-one-to-clear and write-only field 0. -/
def State.keepWord (s : State) (a : Nat) (l : List (Nat × Nat × Nat)) : Word :=
  let base := (fieldsAt a).foldl (fun x f =>
    match f.acc with
    | .w1c => setBits x f.lo f.w 0
    | .wo => setBits x f.lo f.w 0
    | .w1csp => setBits x f.lo f.w 0
    | .wosp => setBits x f.lo f.w 0
    | _ => x) (s.reg a)
  l.foldl (fun x (e : Nat × Nat × Nat) => setBits x e.1 e.2.1 e.2.2) base

/-- A CFG word of event channel `ch` that sets LOCK. -/
def State.lockWord (s : State) (ch : Nat) (v : Word) : Word :=
  let f := F.EVR_CH_CFG_LOCK ch
  if s.bit f then v else setBits v f.lo f.w 1

/-- REGISTER_WRITE (R16-R19): nothing is there to write where no register block lies. Log entry 10 (DESIGN CHOICE). -/
def execRegisterWrite (w : Writer) (addr : Nat) (v : Word) (s : State) : Result :=
  ok (if isRegion addr then s.cmdWrite w addr v else s)

/-- MODE_REQUEST (R70-R72). -/
def execModeRequest (w : Writer) (v : Word) (s : State) : Result :=
  ok (s.cmdWrite w A.SYS_MODEREQ v)

/-- SYS_RSTREQ_WRITE (R95). -/
def execSysRstreqWrite (w : Writer) (v : Word) (s : State) : Result :=
  ok (s.cmdWrite w A.SYS_RSTREQ v)

/-- SYS_KEY_WRITE (R377). -/
def execSysKeyWrite (w : Writer) (v : Word) (s : State) : Result :=
  ok (s.cmdWrite w A.SYS_KEY v)

/-- SYS_CORERST_WRITE (R97). -/
def execSysCorerstWrite (w : Writer) (v : Word) (s : State) : Result :=
  ok (s.cmdWrite w A.SYS_CORERST v)

/-- TICK_DONE (R108). -/
def execTickDone (w : Writer) (v : Word) (s : State) : Result :=
  ok (s.cmdWrite w A.TICK_DONE v)

/-- TICK_FRAME_WRITE (R104). -/
def execTickFrameWrite (w : Writer) (fcyc : Bool) (v : Word) (s : State) : Result :=
  ok (s.cmdWrite w (if fcyc then A.TICK_FCYC else A.TICK_FRAME) v)

/-- SYSTIME_NS_READ (R111). -/
def execSystimeNsRead (r : Writer) (s : State) : Result :=
  ok (s.cmdRead r A.SYSTIME_NS)

/-- TIMER_GSTART (R116). -/
def execTimerGstart (w : Writer) (v : Word) (s : State) : Result :=
  ok (s.cmdWrite w A.TMR_GSTART v)

/-- TIMER_GSTOP (R116). -/
def execTimerGstop (w : Writer) (v : Word) (s : State) : Result :=
  ok (s.cmdWrite w A.TMR_GSTOP v)

/-- TIMER_COUNT_WRITE (R116). -/
def execTimerCountWrite (w : Writer) (t : Fin 16) (v : Word) (s : State) : Result :=
  ok (s.cmdWrite w (A.TMR_T_COUNT t) v)

/-- TIMER_RELOAD_WRITE (R115): of RELOAD, or with `pre` of CTL, which holds PRE. -/
def execTimerReloadWrite (w : Writer) (t : Fin 16) (pre : Bool) (v : Word) (s : State) : Result :=
  ok (s.cmdWrite w (if pre then A.TMR_T_CTL t else A.TMR_T_RELOAD t) v)

/-- TIMER_CMP_WRITE (R118). -/
def execTimerCmpWrite (w : Writer) (t : Fin 16) (k : Fin 4) (v : Word) (s : State) : Result :=
  ok (s.cmdWrite w (A.TMR_T_CMP t k) v)

/-- TIMER_CAP_READ (R121). -/
def execTimerCapRead (r : Writer) (t : Fin 16) (k : Fin 2) (s : State) : Result :=
  ok (s.cmdRead r (if k = 0 then A.TMR_T_CAP0 t else A.TMR_T_CAP1 t))

/-- PWM_OEN_WRITE (R134). -/
def execPwmOenWrite (w : Writer) (a : Fin 24) (oen : Bool) (s : State) : Result :=
  ok (s.cmdWrite w (A.PWM_AX_CTL a) (s.keepWord (A.PWM_AX_CTL a) [(0, 1, if oen then 1 else 0)]))

/-- PWM_CONFIG_WRITE (R138): of CTL, PERIOD, PHASE, DT or BOOT. -/
def execPwmConfigWrite (w : Writer) (q : Fin 6) (r : Fin 5) (v : Word) (s : State) : Result :=
  ok (s.cmdWrite w (A.PWM_Q_CTL q + 8 * r) v)

/-- PWM_DUTY_WRITE (R142). -/
def execPwmDutyWrite (w : Writer) (a : Fin 24) (ph : Fin 3) (v : Word) (s : State) : Result :=
  ok (s.cmdWrite w (A.PWM_AX_DUTYU a + 8 * ph) v)

/-- PWM_SWTRIP_WRITE (R147). -/
def execPwmSwtripWrite (w : Writer) (q : Fin 6) (v : Word) (s : State) : Result :=
  ok (s.cmdWrite w (A.PWM_Q_SWTRIP q) v)

/-- PWM_DSRC_WRITE (R144). -/
def execPwmDsrcWrite (w : Writer) (a : Fin 24) (dsrc : Bool) (s : State) : Result :=
  ok (s.cmdWrite w (A.PWM_AX_CTL a) (s.keepWord (A.PWM_AX_CTL a) [(1, 1, if dsrc then 1 else 0)]))

/-- PWM_TRIPST_WRITE (R148): the codes of U, V and W from the lowest bits up. -/
def execPwmTripstWrite (w : Writer) (a : Fin 24) (codes : BitVec 6) (s : State) : Result :=
  ok (s.cmdWrite w (A.PWM_AX_CTL a) (s.keepWord (A.PWM_AX_CTL a) [(2, 6, codes.toNat)]))

/-- GATEEN_WRITE (R152). -/
def execGateenWrite (w : Writer) (v : Word) (s : State) : Result :=
  ok (s.cmdWrite w A.SAF_GATEEN v)

/-- ADC_IU_READ (R168). -/
def execAdcIuRead (r : Writer) (a : Fin 24) (s : State) : Result :=
  ok (s.cmdRead r (A.ADC_AX_IU a))

/-- ADC_SAMP_WRITE (R164). -/
def execAdcSampWrite (w : Writer) (q : Fin 6) (v : Word) (s : State) : Result :=
  ok (s.cmdWrite w (A.ADC_Q_SAMP q) v)

/-- ADC_CALREQ (R175). -/
def execAdcCalreq (w : Writer) (v : Word) (s : State) : Result :=
  ok (s.cmdWrite w A.ADC_CALREQ v)

/-- CMP_LATCH_CLEAR (R191, R199). -/
def execCmpLatchClear (w : Writer) (n : Fin 58) (s : State) : Result :=
  ok (s.cmdWrite w (A.CMP_CH_STAT n) (s.keepWord (A.CMP_CH_STAT n) [(1, 1, 1)]))

/-- CMP_CLRALL (R191, R199). -/
def execCmpClrall (w : Writer) (v : Word) (s : State) : Result :=
  ok (s.cmdWrite w A.CMP_CLRALL v)

/-- CMP_SP_WRITE (R198): THR, CFG, or with `r` 2 the route of an EXT channel; the other channels have none. -/
def execCmpSpWrite (w : Writer) (n : Fin 58) (r : Fin 3) (v : Word) (s : State) : Result :=
  ok (if r = 0 then s.cmdWrite w (A.CMP_CH_THR n) v
    else if r = 1 then s.cmdWrite w (A.CMP_CH_CFG n) v
    else if 54 ≤ n.val then s.cmdWrite w (A.CMP_EXT_ROUTE (n - 54)) v
    else s)

/-- LE_COMMIT (R230). -/
def execLeCommit (w : Writer) (v : Word) (s : State) : Result :=
  ok (s.cmdWrite w A.LE_PARAM_COMMIT v)

/-- LE_PARAM_WRITE (R229): the banked register `ofs` words above offset 0x100. -/
def execLeParamWrite (w : Writer) (a : Fin 24) (ofs : Fin 96) (v : Word) (s : State) : Result :=
  ok (s.cmdWrite w (A.LE_AX_GRAPH a + 8 * ofs) v)

/-- LE_SETPOINT_WRITE (R227): SP_POS, SP_VEL, SP_ACC, SP_IQ, SP_ID. -/
def execLeSetpointWrite (w : Writer) (a : Fin 24) (k : Fin 5) (v : Word) (s : State) : Result :=
  ok (s.cmdWrite w (A.LE_AX_SP_POS a + 8 * k) v)

/-- LE_CTL_WRITE (R240). -/
def execLeCtlWrite (w : Writer) (a : Fin 24) (v : Word) (s : State) : Result :=
  ok (s.cmdWrite w (A.LE_AX_CTL a) v)

/-- TABLE_ENTRY_WRITE (R251). -/
def execTableEntryWrite (w : Writer) (addr : Nat) (v : Word) (s : State) : Result :=
  ok (if s.busLive && s.accessMay w addr true then s.entryWrite addr v else s)

/-- TABLE_SEAL (R252). -/
def execTableSeal (w : Writer) (a : Fin 24) (pages : BitVec 4) (s : State) : Result :=
  ok (s.cmdWrite w (A.LE_AX_TBLSEAL a) (setBits 0x5E 8 4 pages.toNat))

/-- TABLE_UNSEAL (R252). -/
def execTableUnseal (w : Writer) (a : Fin 24) (pages : BitVec 4) (s : State) : Result :=
  ok (s.cmdWrite w (A.LE_AX_TBLSEAL a) (setBits 0x0E 8 4 pages.toNat))

/-- LEARN_START (R259): a write of LE_LRN_CTL with START = 1. -/
def execLearnStart (w : Writer) (v : Word) (s : State) : Result :=
  ok (s.cmdWrite w A.LE_LRN_CTL (setBits v 16 1 1))

/-- LEARN_STOP (R262). -/
def execLearnStop (w : Writer) (s : State) : Result :=
  ok (s.cmdWrite w A.LE_LRN_CTL (s.keepWord A.LE_LRN_CTL [(17, 1, 1)]))

/-- FB_ZARM (R274). -/
def execFbZarm (w : Writer) (a : Fin 24) (s : State) : Result :=
  ok (s.cmdWrite w (A.FB_AX_CMD a) 4)

/-- FB_TID (R281). -/
def execFbTid (w : Writer) (a : Fin 24) (s : State) : Result :=
  ok (s.cmdWrite w (A.FB_AX_CMD a) 8)

/-- FB_TCLR (R281). -/
def execFbTclr (w : Writer) (a : Fin 24) (s : State) : Result :=
  ok (s.cmdWrite w (A.FB_AX_CMD a) 16)

/-- FB_PRESET (R292). -/
def execFbPreset (w : Writer) (a : Fin 24) (s : State) : Result :=
  ok (s.cmdWrite w (A.FB_AX_CMD a) 1)

/-- FB_REVAL (R291). -/
def execFbReval (w : Writer) (a : Fin 24) (s : State) : Result :=
  ok (s.cmdWrite w (A.FB_AX_CMD a) 2)

/-- FB_POSS_READ (R293). -/
def execFbPossRead (r : Writer) (a : Fin 24) (s : State) : Result :=
  ok (s.cmdRead r (A.FB_AX_POSS a))

/-- FB_CONFIG_WRITE (R299): CFG, CPE, SER, TRIG or LIM. -/
def execFbConfigWrite (w : Writer) (a : Fin 24) (r : Fin 5) (v : Word) (s : State) : Result :=
  ok (s.cmdWrite w (fbCfgAddr a r) v)

/-- EMU_CTL_WRITE (R298). -/
def execEmuCtlWrite (w : Writer) (n : Fin 2) (v : Word) (s : State) : Result :=
  ok (s.cmdWrite w (A.FB_EMU_CTL n) v)

/-- EVR_FIRE (R314). -/
def execEvrFire (w : Writer) (r : Fin 2) (v : Word) (s : State) : Result :=
  ok (s.cmdWrite w (if r = 0 then A.EVR_FIRE0 else A.EVR_FIRE1) v)

/-- EVR_LOOP_CLEAR (R317). -/
def execEvrLoopClear (w : Writer) (ch : Fin 96) (s : State) : Result :=
  ok (s.cmdWrite w (A.EVR_CH_STAT ch) (s.keepWord (A.EVR_CH_STAT ch) [(0, 1, 1)]))

/-- EVR_CHANNEL_LOCK (R315): a write of EVR_CHn_CFG with LOCK = 1. -/
def execEvrChannelLock (w : Writer) (ch : Fin 96) (v : Word) (s : State) : Result :=
  ok (s.cmdWrite w (A.EVR_CH_CFG ch) (s.lockWord ch v))

/-- PWR_BUSMODE_WRITE (R329). -/
def execPwrBusmodeWrite (w : Writer) (v : Word) (s : State) : Result :=
  ok (s.cmdWrite w A.PWR_CTL v)

/-- PWR_SUPCTL_WRITE (R346). -/
def execPwrSupctlWrite (w : Writer) (v : Word) (s : State) : Result :=
  ok (s.cmdWrite w A.PWR_SUPCTL v)

/-- BRAKE_CTL_WRITE (R347). -/
def execBrakeCtlWrite (w : Writer) (v : Word) (s : State) : Result :=
  ok (s.cmdWrite w A.PWR_BRKCTL v)

/-- BRAKE_ILIM_CLEAR (R347). -/
def execBrakeIlimClear (w : Writer) (k : Fin 4) (s : State) : Result :=
  ok (s.cmdWrite w A.PWR_BRKSTAT (setBits 0 (4 + k) 1 1))

/-- ICU_CLAIM (R422). -/
def execIcuClaim (r : Writer) (c : Fin 5) (s : State) : Result :=
  ok (s.cmdRead r (icuBase c + 0x10))

/-- ICU_EOI (R423). -/
def execIcuEoi (w : Writer) (c : Fin 5) (v : Word) (s : State) : Result :=
  ok (s.cmdWrite w (icuBase c + 0x10) v)

/-- ICU_SWI (R425). -/
def execIcuSwi (w : Writer) (c : Fin 5) (v : Word) (s : State) : Result :=
  ok (s.cmdWrite w (icuBase c + 0x30) v)

/-- DMA_START (R442): a write of DMA_CHn_CTL with START = 1. -/
def execDmaStart (w : Writer) (n : Fin 16) (v : Word) (s : State) : Result :=
  ok (s.cmdWrite w (A.DMA_CH_CTL n) (setBits v 0 1 1))

/-- DMA_GSTART (R442). -/
def execDmaGstart (w : Writer) (v : Word) (s : State) : Result :=
  ok (s.cmdWrite w A.DMA_GSTART v)

/-- DMA_ABORT (R445). -/
def execDmaAbort (w : Writer) (n : Fin 16) (s : State) : Result :=
  ok (s.cmdWrite w (A.DMA_CH_CTL n) (s.keepWord (A.DMA_CH_CTL n) [(1, 1, 1)]))

/-- DMA_ABORTALL (R445). -/
def execDmaAbortall (w : Writer) (v : Word) (s : State) : Result :=
  ok (s.cmdWrite w A.DMA_ABORTALL v)

/-- FLC_ALLOC (R458). -/
def execFlcAlloc (r : Writer) (s : State) : Result :=
  ok (s.cmdRead r A.FLC_ALLOC)

/-- FLC_FREE (R458). -/
def execFlcFree (w : Writer) (k : Fin 16) (s : State) : Result :=
  ok (s.cmdWrite w (A.FLC_D_CTL k) (s.keepWord (A.FLC_D_CTL k) [(13, 1, 1)]))

/-- FLC_GO (R459): a write of FLC_Dk_CTL with GO = 1. -/
def execFlcGo (w : Writer) (k : Fin 16) (v : Word) (s : State) : Result :=
  ok (s.cmdWrite w (A.FLC_D_CTL k) (setBits v 0 1 1))

/-- FAB_WAKEPULSE (R503). -/
def execFabWakepulse (w : Writer) (p : Fin 2) (s : State) : Result :=
  ok (s.cmdWrite w (A.FAB_P_CTL p) (s.keepWord (A.FAB_P_CTL p) [(2, 1, 1)]))

/-- SESSION_CLOSE_WRITE (R527). -/
def execSessionCloseWrite (w : Writer) (n : Fin 16) (v : Word) (s : State) : Result :=
  ok (s.cmdWrite w (A.FAB_SESS_CLOSE n) v)

/-- SAF_FAULT_CLEAR (R540). -/
def execSafFaultClear (w : Writer) (v : Word) (s : State) : Result :=
  ok (s.cmdWrite w A.SAF_FAULT v)

/-- SAF_DECLARE (R541). -/
def execSafDeclare (w : Writer) (s : State) : Result :=
  ok (s.cmdWrite w A.SAF_STOCTL (s.keepWord A.SAF_STOCTL [(1, 1, 1)]))

/-- SAF_HOLD_WRITE (R539). -/
def execSafHoldWrite (w : Writer) (hold : Bool) (s : State) : Result :=
  ok (s.cmdWrite w A.SAF_STOCTL (s.keepWord A.SAF_STOCTL [(0, 1, if hold then 1 else 0), (1, 1, 0)]))

/-- SAF_ACK (R548). -/
def execSafAck (w : Writer) (s : State) : Result :=
  ok (s.cmdWrite w A.SAF_ACK 1)

/-- MWDT_SERVICE (R549). -/
def execMwdtService (w : Writer) (v : Word) (s : State) : Result :=
  ok (s.cmdWrite w A.SAF_MWDT_SVC v)

/-- CWD_SERVICE (R551). -/
def execCwdService (w : Writer) (n : Fin 4) (v : Word) (s : State) : Result :=
  ok (s.cmdWrite w (A.AON_CWDSVC n) v)

/-- CRY_HASH (R568). -/
def execCryHash (w : Writer) (v : Word) (s : State) : Result :=
  ok (s.cmdWrite w A.CRY_CMD (setBits v 0 4 1))

/-- CRY_VERIFY (R568). -/
def execCryVerify (w : Writer) (v : Word) (s : State) : Result :=
  ok (s.cmdWrite w A.CRY_CMD (setBits v 0 4 2))

/-- CRY_VERIFY_OWNER (R568). -/
def execCryVerifyOwner (w : Writer) (v : Word) (s : State) : Result :=
  ok (s.cmdWrite w A.CRY_CMD (setBits v 0 4 3))

/-- CRY_SIGN_DEV (R568). -/
def execCrySignDev (w : Writer) (v : Word) (s : State) : Result :=
  ok (s.cmdWrite w A.CRY_CMD (setBits v 0 4 4))

/-- CRY_COMMIT (R569). -/
def execCryCommit (w : Writer) (v : Word) (s : State) : Result :=
  ok (s.cmdWrite w A.CRY_CMD (setBits v 0 4 5))

/-- CRY_COMPACT (R570). -/
def execCryCompact (w : Writer) (v : Word) (s : State) : Result :=
  ok (s.cmdWrite w A.CRY_CMD (setBits v 0 4 6))

/-- OTP_PROV (R568). -/
def execOtpProv (w : Writer) (v : Word) (s : State) : Result :=
  ok (s.cmdWrite w A.CRY_CMD (setBits v 0 4 7))

/-- OTP_REVOKE (R560). -/
def execOtpRevoke (w : Writer) (v : Word) (s : State) : Result :=
  ok (s.cmdWrite w A.CRY_CMD (setBits v 0 4 8))

/-- OTP_EPOCH (R568). -/
def execOtpEpoch (w : Writer) (v : Word) (s : State) : Result :=
  ok (s.cmdWrite w A.CRY_CMD (setBits v 0 4 9))

/-- OTP_CFGSIG (R573). -/
def execOtpCfgsig (w : Writer) (v : Word) (s : State) : Result :=
  ok (s.cmdWrite w A.CRY_CMD (setBits v 0 4 10))

/-- PAD_RELEASE (R590). -/
def execPadRelease (w : Writer) (v : Word) (s : State) : Result :=
  ok (s.cmdWrite w A.AON_PADREL v)

/-- DBG_HALT (R597). -/
def execDbgHalt (w : Writer) (c : Fin 5) (s : State) : Result :=
  ok (s.cmdWrite w (A.DBG_C_CMD c) 1)

/-- VT_TXD_WRITE (R606). -/
def execVtTxdWrite (w : Writer) (c : Fin 5) (v : Word) (s : State) : Result :=
  ok (s.cmdWrite w (A.DBG_C_TXD c) v)

/-- VT_RXD_WRITE (R606). -/
def execVtRxdWrite (w : Writer) (c : Fin 5) (v : Word) (s : State) : Result :=
  ok (s.cmdWrite w (A.DBG_C_RXD c) v)

/-- VT_RXD_READ (R606). -/
def execVtRxdRead (r : Writer) (c : Fin 5) (s : State) : Result :=
  ok (s.cmdRead r (A.DBG_C_RXD c))

/-- DBG_AUTH_VERIFY (R609). -/
def execDbgAuthVerify (w : Writer) (v : Word) (s : State) : Result :=
  ok (s.cmdWrite w A.DBG_AUTHCMD (setBits v 0 8 0x5A))

/-- DBG_AUTH_WITHDRAW (R609). -/
def execDbgAuthWithdraw (w : Writer) (v : Word) (s : State) : Result :=
  ok (s.cmdWrite w A.DBG_AUTHCMD (setBits v 0 8 0xC1))

/-- TST_CTL_WRITE (R613): of TST register `r`. -/
def execTstCtlWrite (w : Writer) (r : Fin 9) (v : Word) (s : State) : Result :=
  ok (s.cmdWrite w (A.TST_CTL + 8 * r) v)

end Sys2Proof.Machine
end

