-- ==== Sys2Proof/Machine/FrameTick.lean ====
section
/-! DEFINITION. The frame tick (R29, R102-R109), and the events of the event network that have commands of their own (R305, R317). -/
namespace Sys2Proof.Machine

/-- FRAMECNT, IDX and the phase at a frame tick (R104, R105): 0 at the tick at which TICK starts; IDX restarts at a tick at which a
new TICK_FCYC takes effect.  What waited for a frame tick takes effect. Log entries 42 (DEDUCED), 130 (DEDUCED). -/
def State.tickCount (s : State) : State :=
  let first := s.tickAt.isNone
  let fresh := (s.takesNow A.TICK_FCYC).isSome
  let s1 := { s.heldTick with tickAt := some s.instant }.wr F.TICK_PHASE_PHASE 0
  if first then (s1.wr F.TICK_FRAMECNT_COUNT 0).wr F.TICK_FRAMENO_IDX 0
  else
    let idx := if fresh then 0 else (s1.rd F.TICK_FRAMENO_IDX + 1) % (s1.rd F.TICK_FCYC_MM1 + 1)
    (s1.wr F.TICK_FRAMECNT_COUNT ((s1.rd F.TICK_FRAMECNT_COUNT + 1) % 2 ^ F.TICK_FRAMECNT_COUNT.w)).wr F.TICK_FRAMENO_IDX idx

/-- Lane `q` at a frame tick: an outer stage that still runs is a FRAME overrun (R234), then its start conditions (R238).
Log entry 51 (DEDUCED). -/
def State.laneFrame (s : State) (q : Nat) : State :=
  (if s.laneOn q && !(s.lane q).outer.isEmpty then s.laneOverrun q 9 else s).laneTick q

/-- The tick reaches slots, timers and channels, late by at most J counts while JIT acts (R612). Log entry 125 (DESIGN CHOICE). -/
def State.tickSpread (s : State) : State :=
  if s.tstOn 9 then
    let x := s.fresh
    x.2.after (x.1.toNat % (s.rd F.TST_JIT_J + 1)) .tickJitterDelivery
  else s.tickDeliver

/-- What happens at a frame tick, in order: the loop window ends, a mode change is taken, written settings take effect, the
carriers and converters follow, then the four steps of R29, with the safety partition's checks before the cyclic window. -/
def State.frameTick (s : State) : State :=
  let s1 := if s.evrFrozen then s else s.evrWindow
  let s2 := s1.modeTick.compMove.tickCount
  let s3 := s2.upto 6 (fun q s => ((s.carrierTick q).adcTick q).carrierPlaced q)
  let s4 := s3.compTick.upto 24 (fun a s => s.fbTick a)
  let s5 := (s4.swapAll.upto 6 (fun q s => s.laneFrame q)).readyLe
  let s6 := s5.upto 24 (fun a s => (s.takeSetpoints a).untrained a)
  let s7 := (s6.learnTick.tickSpread.irqS 27).safTick
  let s8 := s7.upto 2 (fun n s => s.emuTick n)
  if s8.rd F.TICK_FRAMENO_IDX = 0 then s8.cycTick else s8

/-- Whether TICK stands at a frame's boundary: at phase 0, or at the last count before it (R102). Log entry 12 (DEDUCED). -/
def State.atFrameEdge (s : State) : Bool :=
  s.rd F.TICK_PHASE_PHASE == 0 || decide (s.inForce F.TICK_FRAME_COUNTS ≤ s.rd F.TICK_PHASE_PHASE + 1)

/-- FRAME_TICK (R29, R102, R105): TICK_PHASE passes to 0 while TICK runs, or TICK starts; within a frame there is no tick. -/
def execFrameTick (s0 : State) : Result :=
  let s := s0.cancel .frameTick
  ok (if s.tickRuns && s.dormAt.isNone && s.atFrameEdge then s.frameTick else s)

/-- EVR_PRODUCER_EDGE (R305, R307): input `inp` of channel `ch` rises. -/
def execEvrProducerEdge (ch : Fin 96) (inp : Fin 32) (s : State) : Result := ok (s.fire ch inp)

/-- EVR_WINDOW_EXPIRE (R317): 32 AON cycles have passed while TICK is not running. -/
def execEvrWindowExpire (s0 : State) : Result :=
  let s := s0.cancel .evrWindowExpire
  ok (if s.bit F.TICK_STATUS_RUNNING || s.evrFrozen then s else s.evrWindow)

end Sys2Proof.Machine
end

