-- ==== Sys2Proof/Machine/Dispatch.lean ====
section
/-! DEFINITION. The meaning of a command: one arm per constructor of `Instr`, each one call of that command's own meaning. -/
namespace Sys2Proof.Machine

def exec (i : Instr) (s : State) : Host.Outcome State Fault Refusal :=
  match i with
  | .registerWrite w addr v => Sys2Proof.Machine.execRegisterWrite w addr v s
  | .bootPfcStart bulk tb => Sys2Proof.Machine.execBootPfcStart bulk tb s
  | .adcCalibrationDone codes => Sys2Proof.Machine.execAdcCalibrationDone codes s
  | .modeRequest w v => Sys2Proof.Machine.execModeRequest w v s
  | .sysRstreqWrite w v => Sys2Proof.Machine.execSysRstreqWrite w v s
  | .sysKeyWrite w v => Sys2Proof.Machine.execSysKeyWrite w v s
  | .unlockWindowExpire key => Sys2Proof.Machine.execUnlockWindowExpire key s
  | .sysCorerstWrite w v => Sys2Proof.Machine.execSysCorerstWrite w v s
  | .coreResetRelease c => Sys2Proof.Machine.execCoreResetRelease c s
  | .tickDone w v => Sys2Proof.Machine.execTickDone w v s
  | .tickFrameWrite w fcyc v => Sys2Proof.Machine.execTickFrameWrite w fcyc v s
  | .systimeNsRead r => Sys2Proof.Machine.execSystimeNsRead r s
  | .timerWrap t => Sys2Proof.Machine.execTimerWrap t s
  | .timerMatch t k => Sys2Proof.Machine.execTimerMatch t k s
  | .timerGstart w v => Sys2Proof.Machine.execTimerGstart w v s
  | .timerGstop w v => Sys2Proof.Machine.execTimerGstop w v s
  | .timerCountWrite w t v => Sys2Proof.Machine.execTimerCountWrite w t v s
  | .timerReloadWrite w t pre v => Sys2Proof.Machine.execTimerReloadWrite w t pre v s
  | .timerCmpWrite w t k v => Sys2Proof.Machine.execTimerCmpWrite w t k v s
  | .timerCapture t k => Sys2Proof.Machine.execTimerCapture t k s
  | .timerCapRead r t k => Sys2Proof.Machine.execTimerCapRead r t k s
  | .pwmOenWrite w a oen => Sys2Proof.Machine.execPwmOenWrite w a oen s
  | .pwmConfigWrite w q r v => Sys2Proof.Machine.execPwmConfigWrite w q r v s
  | .carrierValley q => Sys2Proof.Machine.execCarrierValley q s
  | .carrierPeak q => Sys2Proof.Machine.execCarrierPeak q s
  | .pwmDutyWrite w a ph v => Sys2Proof.Machine.execPwmDutyWrite w a ph v s
  | .pwmWindowEdge a ph => Sys2Proof.Machine.execPwmWindowEdge a ph s
  | .pwmDeadTimeEnd a ph => Sys2Proof.Machine.execPwmDeadTimeEnd a ph s
  | .bootstrapRefresh a ph => Sys2Proof.Machine.execBootstrapRefresh a ph s
  | .bootstrapUvlo a ph => Sys2Proof.Machine.execBootstrapUvlo a ph s
  | .axisTrip a inp => Sys2Proof.Machine.execAxisTrip a inp s
  | .pwmSwtripWrite w q v => Sys2Proof.Machine.execPwmSwtripWrite w q v s
  | .pwmDsrcWrite w a dsrc => Sys2Proof.Machine.execPwmDsrcWrite w a dsrc s
  | .pwmTripstWrite w a codes => Sys2Proof.Machine.execPwmTripstWrite w a codes s
  | .gateenWrite w v => Sys2Proof.Machine.execGateenWrite w v s
  | .adcSample q second => Sys2Proof.Machine.execAdcSample q second s
  | .adcConversionDone q codes => Sys2Proof.Machine.execAdcConversionDone q codes s
  | .adcIuRead r a => Sys2Proof.Machine.execAdcIuRead r a s
  | .adcSampWrite w q v => Sys2Proof.Machine.execAdcSampWrite w q v s
  | .adcCalreq w v => Sys2Proof.Machine.execAdcCalreq w v s
  | .adcRecalDone codes => Sys2Proof.Machine.execAdcRecalDone codes s
  | .auxConversion q inp code => Sys2Proof.Machine.execAuxConversion q inp code s
  | .cmpCrossing n above below => Sys2Proof.Machine.execCmpCrossing n above below s
  | .cmpBlankingEnd n => Sys2Proof.Machine.execCmpBlankingEnd n s
  | .cmpLatchClear w n => Sys2Proof.Machine.execCmpLatchClear w n s
  | .cmpClrall w v => Sys2Proof.Machine.execCmpClrall w v s
  | .cmpSpWrite w n r v => Sys2Proof.Machine.execCmpSpWrite w n r v s
  | .cmpSampleWindow n above below => Sys2Proof.Machine.execCmpSampleWindow n above below s
  | .laneCurrentPass q => Sys2Proof.Machine.execLaneCurrentPass q s
  | .laneOuterStage q => Sys2Proof.Machine.execLaneOuterStage q s
  | .leCommit w v => Sys2Proof.Machine.execLeCommit w v s
  | .leBankCopyDone a => Sys2Proof.Machine.execLeBankCopyDone a s
  | .leParamWrite w a ofs v => Sys2Proof.Machine.execLeParamWrite w a ofs v s
  | .leSetpointWrite w a k v => Sys2Proof.Machine.execLeSetpointWrite w a k v s
  | .leCtlWrite w a v => Sys2Proof.Machine.execLeCtlWrite w a v s
  | .tableEntryWrite w addr v => Sys2Proof.Machine.execTableEntryWrite w addr v s
  | .tableSeal w a pages => Sys2Proof.Machine.execTableSeal w a pages s
  | .tableUnseal w a pages => Sys2Proof.Machine.execTableUnseal w a pages s
  | .learnStart w v => Sys2Proof.Machine.execLearnStart w v s
  | .learnStop w => Sys2Proof.Machine.execLearnStop w s
  | .quadEdge a na nb => Sys2Proof.Machine.execQuadEdge a na nb s
  | .indexEdge z => Sys2Proof.Machine.execIndexEdge z s
  | .fbZarm w a => Sys2Proof.Machine.execFbZarm w a s
  | .hallTransition a code => Sys2Proof.Machine.execHallTransition a code s
  | .hallInvalidTimeout a => Sys2Proof.Machine.execHallInvalidTimeout a s
  | .lineFault p => Sys2Proof.Machine.execLineFault p s
  | .serialTrigger a => Sys2Proof.Machine.execSerialTrigger a s
  | .ssiTransactionDone a raw ended => Sys2Proof.Machine.execSsiTransactionDone a raw ended s
  | .tephraReply a bytes formErr => Sys2Proof.Machine.execTephraReply a bytes formErr s
  | .tephraTimeout a => Sys2Proof.Machine.execTephraTimeout a s
  | .fbTid w a => Sys2Proof.Machine.execFbTid w a s
  | .fbTclr w a => Sys2Proof.Machine.execFbTclr w a s
  | .fbPreset w a => Sys2Proof.Machine.execFbPreset w a s
  | .fbReval w a => Sys2Proof.Machine.execFbReval w a s
  | .fbPossRead r a => Sys2Proof.Machine.execFbPossRead r a s
  | .fbConfigWrite w a r v => Sys2Proof.Machine.execFbConfigWrite w a r v s
  | .emuCtlWrite w n v => Sys2Proof.Machine.execEmuCtlWrite w n v s
  | .emuEdgeOutput n => Sys2Proof.Machine.execEmuEdgeOutput n s
  | .dioEdge k level => Sys2Proof.Machine.execDioEdge k level s
  | .evrProducerEdge ch inp => Sys2Proof.Machine.execEvrProducerEdge ch inp s
  | .evrFire w r v => Sys2Proof.Machine.execEvrFire w r v s
  | .evrLoopClear w ch => Sys2Proof.Machine.execEvrLoopClear w ch s
  | .evrChannelLock w ch v => Sys2Proof.Machine.execEvrChannelLock w ch v s
  | .lineHalfCycle vrms freq peak => Sys2Proof.Machine.execLineHalfCycle vrms freq peak s
  | .pwrBusmodeWrite w v => Sys2Proof.Machine.execPwrBusmodeWrite w v s
  | .pwrUpdate vbulk pdraw pout => Sys2Proof.Machine.execPwrUpdate vbulk pdraw pout s
  | .enc5vOvercurrentOff q => Sys2Proof.Machine.execEnc5vOvercurrentOff q s
  | .pwrSupctlWrite w v => Sys2Proof.Machine.execPwrSupctlWrite w v s
  | .brakeCtlWrite w v => Sys2Proof.Machine.execBrakeCtlWrite w v s
  | .brakeIlimOff k => Sys2Proof.Machine.execBrakeIlimOff k s
  | .brakeIlimClear w k => Sys2Proof.Machine.execBrakeIlimClear w k s
  | .nop c f => Sys2Proof.Machine.execNop c f s
  | .add c f => Sys2Proof.Machine.execAdd c f s
  | .sub c f => Sys2Proof.Machine.execSub c f s
  | .adds c f => Sys2Proof.Machine.execAdds c f s
  | .subs c f => Sys2Proof.Machine.execSubs c f s
  | .and c f => Sys2Proof.Machine.execAnd c f s
  | .or c f => Sys2Proof.Machine.execOr c f s
  | .xor c f => Sys2Proof.Machine.execXor c f s
  | .andn c f => Sys2Proof.Machine.execAndn c f s
  | .sll c f => Sys2Proof.Machine.execSll c f s
  | .srl c f => Sys2Proof.Machine.execSrl c f s
  | .sra c f => Sys2Proof.Machine.execSra c f s
  | .cmpeq c f => Sys2Proof.Machine.execCmpeq c f s
  | .cmplt c f => Sys2Proof.Machine.execCmplt c f s
  | .cmpltu c f => Sys2Proof.Machine.execCmpltu c f s
  | .min c f => Sys2Proof.Machine.execMin c f s
  | .max c f => Sys2Proof.Machine.execMax c f s
  | .mul c f => Sys2Proof.Machine.execMul c f s
  | .mulh c f => Sys2Proof.Machine.execMulh c f s
  | .mulhu c f => Sys2Proof.Machine.execMulhu c f s
  | .mulf c f => Sys2Proof.Machine.execMulf c f s
  | .macf c f => Sys2Proof.Machine.execMacf c f s
  | .div c f => Sys2Proof.Machine.execDiv c f s
  | .divu c f => Sys2Proof.Machine.execDivu c f s
  | .rem c f => Sys2Proof.Machine.execRem c f s
  | .remu c f => Sys2Proof.Machine.execRemu c f s
  | .clz c f => Sys2Proof.Machine.execClz c f s
  | .extb c f => Sys2Proof.Machine.execExtb c f s
  | .insb c f => Sys2Proof.Machine.execInsb c f s
  | .perm c f => Sys2Proof.Machine.execPerm c f s
  | .addi c f => Sys2Proof.Machine.execAddi c f s
  | .andi c f => Sys2Proof.Machine.execAndi c f s
  | .ori c f => Sys2Proof.Machine.execOri c f s
  | .xori c f => Sys2Proof.Machine.execXori c f s
  | .slli c f => Sys2Proof.Machine.execSlli c f s
  | .srli c f => Sys2Proof.Machine.execSrli c f s
  | .srai c f => Sys2Proof.Machine.execSrai c f s
  | .cmpeqi c f => Sys2Proof.Machine.execCmpeqi c f s
  | .cmplti c f => Sys2Proof.Machine.execCmplti c f s
  | .cmpltui c f => Sys2Proof.Machine.execCmpltui c f s
  | .ldhi c f => Sys2Proof.Machine.execLdhi c f s
  | .ldi c f => Sys2Proof.Machine.execLdi c f s
  | .ld1 c sx f => Sys2Proof.Machine.execLd1 c sx f s
  | .ld2 c sx f => Sys2Proof.Machine.execLd2 c sx f s
  | .ld6 c f => Sys2Proof.Machine.execLd6 c f s
  | .st1 c f => Sys2Proof.Machine.execSt1 c f s
  | .st2 c f => Sys2Proof.Machine.execSt2 c f s
  | .st6 c f => Sys2Proof.Machine.execSt6 c f s
  | .ldl c f => Sys2Proof.Machine.execLdl c f s
  | .stc c f => Sys2Proof.Machine.execStc c f s
  | .movblk c f => Sys2Proof.Machine.execMovblk c f s
  | .fillblk c f => Sys2Proof.Machine.execFillblk c f s
  | .cmpblk c f => Sys2Proof.Machine.execCmpblk c f s
  | .scanblk c f => Sys2Proof.Machine.execScanblk c f s
  | .beq c f => Sys2Proof.Machine.execBeq c f s
  | .bne c f => Sys2Proof.Machine.execBne c f s
  | .blt c f => Sys2Proof.Machine.execBlt c f s
  | .bge c f => Sys2Proof.Machine.execBge c f s
  | .bltu c f => Sys2Proof.Machine.execBltu c f s
  | .bgeu c f => Sys2Proof.Machine.execBgeu c f s
  | .jmp c f => Sys2Proof.Machine.execJmp c f s
  | .jmpr c f => Sys2Proof.Machine.execJmpr c f s
  | .call c f => Sys2Proof.Machine.execCall c f s
  | .callr c f => Sys2Proof.Machine.execCallr c f s
  | .ret c f => Sys2Proof.Machine.execRet c f s
  | .mfsr c f => Sys2Proof.Machine.execMfsr c f s
  | .mtsr c f => Sys2Proof.Machine.execMtsr c f s
  | .fence c f => Sys2Proof.Machine.execFence c f s
  | .fenceI c f => Sys2Proof.Machine.execFenceI c f s
  | .syscall c f => Sys2Proof.Machine.execSyscall c f s
  | .rete c f => Sys2Proof.Machine.execRete c f s
  | .wfi c f => Sys2Proof.Machine.execWfi c f s
  | .flushw c f => Sys2Proof.Machine.execFlushw c f s
  | .brk c f => Sys2Proof.Machine.execBrk c f s
  | .storeBufferDrain c => Sys2Proof.Machine.execStoreBufferDrain c s
  | .windowSpill c => Sys2Proof.Machine.execWindowSpill c s
  | .windowFill c => Sys2Proof.Machine.execWindowFill c s
  | .interruptEntry c => Sys2Proof.Machine.execInterruptEntry c s
  | .icuSourceEdge c src => Sys2Proof.Machine.execIcuSourceEdge c src s
  | .icuClaim r c => Sys2Proof.Machine.execIcuClaim r c s
  | .icuEoi w c v => Sys2Proof.Machine.execIcuEoi w c v s
  | .icuSwi w c v => Sys2Proof.Machine.execIcuSwi w c v s
  | .icuGroupTimeout c g => Sys2Proof.Machine.execIcuGroupTimeout c g s
  | .dmaStart w n v => Sys2Proof.Machine.execDmaStart w n v s
  | .dmaGstart w v => Sys2Proof.Machine.execDmaGstart w v s
  | .dmaAbort w n => Sys2Proof.Machine.execDmaAbort w n s
  | .dmaAbortall w v => Sys2Proof.Machine.execDmaAbortall w v s
  | .dmaElementRead n => Sys2Proof.Machine.execDmaElementRead n s
  | .dmaElementWrite n => Sys2Proof.Machine.execDmaElementWrite n s
  | .flcAlloc r => Sys2Proof.Machine.execFlcAlloc r s
  | .flcFree w k => Sys2Proof.Machine.execFlcFree w k s
  | .flcGo w k v => Sys2Proof.Machine.execFlcGo w k v s
  | .flcProgramUnitDone ok => Sys2Proof.Machine.execFlcProgramUnitDone ok s
  | .sfpInsertion p ident readable => Sys2Proof.Machine.execSfpInsertion p ident readable s
  | .portUp p => Sys2Proof.Machine.execPortUp p s
  | .portDown p => Sys2Proof.Machine.execPortDown p s
  | .frameReceive p frame => Sys2Proof.Machine.execFrameReceive p frame s
  | .discover p frame => Sys2Proof.Machine.execDiscover p frame s
  | .assign p frame => Sys2Proof.Machine.execAssign p frame s
  | .farReadRequest p frame => Sys2Proof.Machine.execFarReadRequest p frame s
  | .farWriteRequest p frame => Sys2Proof.Machine.execFarWriteRequest p frame s
  | .farResponse p frame => Sys2Proof.Machine.execFarResponse p frame s
  | .farTimeout n => Sys2Proof.Machine.execFarTimeout n s
  | .fabWakepulse w p => Sys2Proof.Machine.execFabWakepulse w p s
  | .wakepulseEnd p => Sys2Proof.Machine.execWakepulseEnd p s
  | .cyclicFrame p frame => Sys2Proof.Machine.execCyclicFrame p frame s
  | .echoRequest p frame => Sys2Proof.Machine.execEchoRequest p frame s
  | .echoResponse p frame => Sys2Proof.Machine.execEchoResponse p frame s
  | .syncReceive p frame => Sys2Proof.Machine.execSyncReceive p frame s
  | .mgmtOpen p frame => Sys2Proof.Machine.execMgmtOpen p frame s
  | .mgmtClose p frame => Sys2Proof.Machine.execMgmtClose p frame s
  | .mgmtCyckey p frame => Sys2Proof.Machine.execMgmtCyckey p frame s
  | .mgmtAttest p frame => Sys2Proof.Machine.execMgmtAttest p frame s
  | .sessionIdleTimeout n => Sys2Proof.Machine.execSessionIdleTimeout n s
  | .sessionCloseWrite w n v => Sys2Proof.Machine.execSessionCloseWrite w n v s
  | .stoInputAssert b => Sys2Proof.Machine.execStoInputAssert b s
  | .stoInputRelease b => Sys2Proof.Machine.execStoInputRelease b s
  | .safFaultClear w v => Sys2Proof.Machine.execSafFaultClear w v s
  | .safDeclare w => Sys2Proof.Machine.execSafDeclare w s
  | .safHoldWrite w hold => Sys2Proof.Machine.execSafHoldWrite w hold s
  | .safAck w => Sys2Proof.Machine.execSafAck w s
  | .mwdtService w v => Sys2Proof.Machine.execMwdtService w v s
  | .cwdService w n v => Sys2Proof.Machine.execCwdService w n v s
  | .cwdExpire n => Sys2Proof.Machine.execCwdExpire n s
  | .cryHash w v => Sys2Proof.Machine.execCryHash w v s
  | .cryVerify w v => Sys2Proof.Machine.execCryVerify w v s
  | .cryVerifyOwner w v => Sys2Proof.Machine.execCryVerifyOwner w v s
  | .crySignDev w v => Sys2Proof.Machine.execCrySignDev w v s
  | .cryCommit w v => Sys2Proof.Machine.execCryCommit w v s
  | .cryCompact w v => Sys2Proof.Machine.execCryCompact w v s
  | .otpProv w v => Sys2Proof.Machine.execOtpProv w v s
  | .otpRevoke w v => Sys2Proof.Machine.execOtpRevoke w v s
  | .otpEpoch w v => Sys2Proof.Machine.execOtpEpoch w v s
  | .otpCfgsig w v => Sys2Proof.Machine.execOtpCfgsig w v s
  | .padRelease w v => Sys2Proof.Machine.execPadRelease w v s
  | .lbistDone app saf => Sys2Proof.Machine.execLbistDone app saf s
  | .dbgHalt w c => Sys2Proof.Machine.execDbgHalt w c s
  | .vtTxdWrite w c v => Sys2Proof.Machine.execVtTxdWrite w c v s
  | .vtRxdWrite w c v => Sys2Proof.Machine.execVtRxdWrite w c v s
  | .vtRxdRead r c => Sys2Proof.Machine.execVtRxdRead r c s
  | .extest boundary => Sys2Proof.Machine.execExtest boundary s
  | .memap rd addr v => Sys2Proof.Machine.execMemap rd addr v s
  | .dbgAuthVerify w v => Sys2Proof.Machine.execDbgAuthVerify w v s
  | .dbgAuthWithdraw w v => Sys2Proof.Machine.execDbgAuthWithdraw w v s
  | .tstCtlWrite w r v => Sys2Proof.Machine.execTstCtlWrite w r v s
  | .flashBusyStretchEnd bank => Sys2Proof.Machine.execFlashBusyStretchEnd bank s
  | .blockLockChange p lock => Sys2Proof.Machine.execBlockLockChange p lock s
  | .sfpRemoval p => Sys2Proof.Machine.execSfpRemoval p s
  | .mainsApplied => Sys2Proof.Machine.execMainsApplied s
  | .bootPorRelease => Sys2Proof.Machine.execBootPorRelease s
  | .bootClockLock => Sys2Proof.Machine.execBootClockLock s
  | .bootJournalScan => Sys2Proof.Machine.execBootJournalScan s
  | .bootSafetyImage => Sys2Proof.Machine.execBootSafetyImage s
  | .bootConfigRead => Sys2Proof.Machine.execBootConfigRead s
  | .bootTickStart => Sys2Proof.Machine.execBootTickStart s
  | .bootAppImage => Sys2Proof.Machine.execBootAppImage s
  | .bootDramInit => Sys2Proof.Machine.execBootDramInit s
  | .adcCalibrationStart => Sys2Proof.Machine.execAdcCalibrationStart s
  | .bootCoreRelease => Sys2Proof.Machine.execBootCoreRelease s
  | .mainsLostOff => Sys2Proof.Machine.execMainsLostOff s
  | .brownout => Sys2Proof.Machine.execBrownout s
  | .moduleReset => Sys2Proof.Machine.execModuleReset s
  | .resetHardcut => Sys2Proof.Machine.execResetHardcut s
  | .frameTick => Sys2Proof.Machine.execFrameTick s
  | .systimeNsWrap => Sys2Proof.Machine.execSystimeNsWrap s
  | .timerGstartEvent => Sys2Proof.Machine.execTimerGstartEvent s
  | .leCommitEvent => Sys2Proof.Machine.execLeCommitEvent s
  | .learnRecordWrite => Sys2Proof.Machine.execLearnRecordWrite s
  | .evrWindowExpire => Sys2Proof.Machine.execEvrWindowExpire s
  | .mainsLoss => Sys2Proof.Machine.execMainsLoss s
  | .mainsReturn => Sys2Proof.Machine.execMainsReturn s
  | .busRegulationSet => Sys2Proof.Machine.execBusRegulationSet s
  | .busRegulationLost => Sys2Proof.Machine.execBusRegulationLost s
  | .isoConverterStop => Sys2Proof.Machine.execIsoConverterStop s
  | .chopperOn => Sys2Proof.Machine.execChopperOn s
  | .chopperOff => Sys2Proof.Machine.execChopperOff s
  | .busOvervoltage => Sys2Proof.Machine.execBusOvervoltage s
  | .busUndervoltage => Sys2Proof.Machine.execBusUndervoltage s
  | .aux24OvercurrentOff => Sys2Proof.Machine.execAux24OvercurrentOff s
  | .dramRefresh => Sys2Proof.Machine.execDramRefresh s
  | .flcOpStart => Sys2Proof.Machine.execFlcOpStart s
  | .flcProgramTimeout => Sys2Proof.Machine.execFlcProgramTimeout s
  | .flcEraseDone => Sys2Proof.Machine.execFlcEraseDone s
  | .flcEraseTimeout => Sys2Proof.Machine.execFlcEraseTimeout s
  | .flcCompaction => Sys2Proof.Machine.execFlcCompaction s
  | .nodeIdLost => Sys2Proof.Machine.execNodeIdLost s
  | .fabricWakeDetect => Sys2Proof.Machine.execFabricWakeDetect s
  | .cyclicSnapshot => Sys2Proof.Machine.execCyclicSnapshot s
  | .cyclicWindowClose => Sys2Proof.Machine.execCyclicWindowClose s
  | .echoSend => Sys2Proof.Machine.execEchoSend s
  | .syncSend => Sys2Proof.Machine.execSyncSend s
  | .syncTimeout => Sys2Proof.Machine.execSyncTimeout s
  | .stoChainRelease => Sys2Proof.Machine.execStoChainRelease s
  | .stoDiscrepancy => Sys2Proof.Machine.execStoDiscrepancy s
  | .ss1Expire => Sys2Proof.Machine.execSs1Expire s
  | .safeStopAckTimeout => Sys2Proof.Machine.execSafeStopAckTimeout s
  | .lockstepMismatch => Sys2Proof.Machine.execLockstepMismatch s
  | .mwdtHalf => Sys2Proof.Machine.execMwdtHalf s
  | .mwdtExpire => Sys2Proof.Machine.execMwdtExpire s
  | .cryJobDone => Sys2Proof.Machine.execCryJobDone s
  | .dormantEntryComplete => Sys2Proof.Machine.execDormantEntryComplete s
  | .wake => Sys2Proof.Machine.execWake s
  | .wakeRestore => Sys2Proof.Machine.execWakeRestore s
  | .wakeComplete => Sys2Proof.Machine.execWakeComplete s
  | .aonTimerExpire => Sys2Proof.Machine.execAonTimerExpire s
  | .lbistStart => Sys2Proof.Machine.execLbistStart s
  | .lbistRecordWritten => Sys2Proof.Machine.execLbistRecordWritten s
  | .tapReset => Sys2Proof.Machine.execTapReset s
  | .idcode => Sys2Proof.Machine.execIdcode s
  | .samplePreload => Sys2Proof.Machine.execSamplePreload s
  | .bypass => Sys2Proof.Machine.execBypass s
  | .dbgAuthDone => Sys2Proof.Machine.execDbgAuthDone s
  | .tickJitterDelivery => Sys2Proof.Machine.execTickJitterDelivery s
  | .isoConverterStart => Sys2Proof.Machine.execIsoConverterStart s

end Sys2Proof.Machine
end

