-- ==== Sys2Proof/Machine/Step.lean ====
section
/-! DEFINITION. One step of the block: the command at the front of the queue; on an empty queue the next event that is due, or
one drive-base cycle. -/
namespace Sys2Proof.Machine

/-- On an empty queue: the first event that is due happens by its own command's meaning, in the same instant as the others of its
cycle; when none is due a drive-base cycle passes. Log entry 2 (DESIGN CHOICE). -/
def idle (s : State) : Host.Outcome State Fault Refusal :=
  match s.dueNow with
  | none => .next s.cycle
  | some p =>
    match exec p.2 { s with clocked := true } with
    | .next t => .next { t with beat := s.beat, clocked := false, alarms := t.alarms.filter (fun x => x != p) }
    | .fault f => .fault f
    | .refused r => .refused r

/-- One step. Log entry 2 (DESIGN CHOICE). -/
def step (s : State) : Host.Outcome State Fault Refusal :=
  match s.pending with
  | [] => idle s
  | c :: rest => exec c { s with pending := rest }

/-- `s` with the command that a table word spells at the front of its queue. Log entry 6 (DEDUCED). -/
def State.withFetchWord (s : State) (nbits w : Nat) : State :=
  match decodeTableWord nbits w with
  | some c => { s with pending := c :: s.pending }
  | none => s

end Sys2Proof.Machine
end

