-- ==== Sys2Proof/Safety.lean ====
section
/-! DEFINITION. The terms that the statements about the model use: who writes, when registers can be reached, the canonical
form of the register space and of the memory, and what a command may leave changed. -/
namespace Sys2Proof.Machine

/-- Software on a core: a Zenou-A core at either privilege, or Zenou-S. -/
def isCore : Writer → Bool
  | .coreA _ _ => true
  | .coreS => true
  | _ => false

/-- Software on a core at supervisor privilege. -/
def isSup : Writer → Bool
  | .coreA _ sup => sup
  | .coreS => true
  | _ => false

/-- Registers can be reached by software: the module is powered, past BOOT, not entering DORMANT and not in its logic BIST. -/
def State.operating (s : State) : Bool := s.busLive && s.mode != .boot

/-- The canonical form of the register space and of the memory: addresses strictly rising, nothing listed that reads as an
unlisted address does. -/
def State.Canonical (s : State) : Prop := Tab.wf regReset s.regs = true ∧ Memory.wf s.mem

/-- No module reset waits and no flash operation runs, so that a requested module reset is taken at once (R96). -/
def State.resetFree (s : State) : Bool := !s.bit F.SYS_MODESTAT_RST_PENDING && s.flcOp == .idle

/-- Whether a write of the DMA engines comes in this drive-base cycle: it goes before a command that reaches the DMA block (R33, R448). -/
def State.dmaDueNow (s : State) : Bool :=
  s.alarms.any (fun p => decide (p.1 ≤ s.now) && match p.2 with
    | .dmaElementWrite _ => true
    | _ => false)

/-- `s` as the clock finds it one drive-base cycle on. -/
def State.nextCycle (s : State) : State := { s with now := s.now + 1, clocked := true }

/-- Event `e` is due `n` drive-base cycles from now. -/
def State.dueIn (s : State) (n : Nat) (e : Instr) : Bool := s.alarms.contains (s.now + n, e)

/-- The registers that a firing of an event channel can reach (R310): its own block, the interrupt controllers, the timers, the
Caldera commit and the DIO outputs. -/
def eventReach (a : Nat) : Bool :=
  a / 0x10000 == 0x80A || a / 0x10000 == 0x80C || a / 0x10000 == 0x803 || a / 0x10000 == 0x807 || a / 0x10000 == 0x810
    || (decide (0x0C001000 ≤ a) && decide (a < 0x0C002000))

/-- Whether `a` is a register of interrupt controllers (R419, R553). -/
def icuReach (a : Nat) : Bool := a / 0x10000 == 0x80C || (decide (0x0C001000 ≤ a) && decide (a < 0x0C002000))

/-- The registers of the register blocks in `l`, each by its address over 0x10000. -/
def blocks (l : List Nat) (a : Nat) : Bool := l.contains (a / 0x10000)

/-- The same and the interrupt controllers. -/
def blocksIcu (l : List Nat) (a : Nat) : Bool := blocks l a || icuReach a

/-- The bytes that the waiting record of the learning capture takes in DRAM (R260). -/
def State.recordPlace (s : State) (a : Nat) : Bool :=
  let b := s.rd F.LE_LRN_BASE_ADDR + 40 * s.rd F.LE_LRN_COUNT_COUNT
  decide (b ≤ a) && decide (a < b + s.learn.record.length)

/-- Every register outside `p` holds in `t` what it holds in `s`. -/
def sameRegs (p : Nat → Bool) (s t : State) : Prop := ∀ a : Nat, p a = false → t.reg a = s.reg a

/-- Every byte of memory outside `p` reads in `t` as it does in `s`. -/
def sameBytes (p : Nat → Bool) (s t : State) : Prop := ∀ a : Nat, p a = false → t.byte a = s.byte a

/-- Every byte of memory reads in `t` as it does in `s`. -/
def sameMem (s t : State) : Prop := ∀ a : Nat, t.byte a = s.byte a

/-! ### What the statements about the cores use -/

/-- Core `c` stands before an instruction that nothing forestalls, the fetch apart: it runs, no interrupt is deliverable (R411), no
breakpoint, watchpoint, halt, step or monitor state concerns it (R597-R600). -/
def State.boundaryClear (s : State) (c : Nat) : Bool :=
  let t := s.setRun c .running
  s.executes c && (s.core c).run == .running && t.deliverable c == 0 && (t.breakpoint c).isNone
    && !t.bit (F.DBG_C_STAT_HALTPEND c) && !(t.core c).stepping && !t.psrMon c
    && (List.range 4).all (fun k => !(t.reg (A.DBG_C_WP c k)).getLsbD 46 && !(t.reg (A.DBG_C_WP c k)).getLsbD 47)

/-- And the fetch at its pc succeeds and meets no ECC error (R369, R370, R434). -/
def State.atInstruction (s : State) (c : Nat) : Bool :=
  s.boundaryClear c && decide ((s.setRun c .running).fetchAt c (s.pc c).toNat = (none, s.setRun c .running))

/-- What an instruction that writes register `rd` and does nothing else leaves: the pc 6 further, every other register, every
special register, every other core, every register of the map and every byte of memory as they were. -/
def computeFrame (s t : State) (c : Nat) (rd : BitVec 6) : Prop :=
  t.pc c = s.pc c + 6 ∧ (∀ r : BitVec 6, s.regIx c r.toNat ≠ s.regIx c rd.toNat → t.getR c r = s.getR c r)
    ∧ (∀ n : Nat, t.sreg c n = s.sreg c n) ∧ (∀ j : Nat, j ≠ c → t.core j = s.core j) ∧ t.regs = s.regs ∧ sameMem s t

/-- What an instruction that only moves the pc leaves as it was. -/
def flowFrame (s t : State) (c : Nat) : Prop :=
  (∀ r : BitVec 6, t.getR c r = s.getR c r) ∧ (∀ n : Nat, t.sreg c n = s.sreg c n) ∧ (∀ j : Nat, j ≠ c → t.core j = s.core j)
    ∧ t.regs = s.regs ∧ sameMem s t

/-- Core `c` has entered level `lvl` through vector `ix` with resume address `spc`, from the privilege, IE and level of `s`
(R410, R412). -/
def entered (s t : State) (c lvl ix : Nat) (spc : Word) : Bool :=
  let w := t.sreg c (spsReg lvl)
  t.psrSup c && t.psrIE c == s.psrIE c && t.psrLevel c == lvl && t.pc c == BitVec.ofNat 48 (vector c ix)
    && t.sreg c (spcReg lvl) == spcOf spc && getBits w 8 4 == ix && w.getLsbD 0 == s.psrSup c && w.getLsbD 1 == s.psrIE c
    && getBits w 2 3 == s.psrLevel c && (t.core c).resv.isNone

/-- A load of `n` bytes by core `c` at address `a` of this module's memory completes at once: aligned, permitted, its bytes without
error, and nothing in the store buffer (R44, R357, R369, R434). -/
def State.loadsPlain (s : State) (c a n : Nat) : Bool :=
  let t := s.setRun c .running
  (s.core c).sbuf.isEmpty && decide (a < 2 ^ 41) && s.isLocal a && !s.misaligned a n && !isRegion (localOf a)
    && region (localOf a) != .rom && decide (t.loadParts c a n true = (none, t))

/-- A store of `n` bytes by core `c` at address `a` of this module's memory, the tables apart, completes: aligned, permitted, in a
memory that takes it, whose bytes are defined (R36, R44, R369, R371). -/
def State.storesPlain (s : State) (c a n : Nat) : Bool :=
  (s.core c).sbuf.isEmpty && decide (a < 2 ^ 41) && s.isLocal a && !s.misaligned a n && !isRegion (localOf a)
    && (s.storeFault c a n).isNone && (s.memWriteErr (s.coreWriter c) (localOf a) n).isNone
    && (List.range n).all (fun i => region (localOf a + i) != .table && (s.tornAt (localOf a + i)).isNone)

/-! ### What the statements about frames use -/

/-- Whether `m` is an Ethernet address of neither port (R486, R506). -/
def foreign (m : List Byte) : Bool := m != portMac 0 && m != portMac 1

/-- Port `p` takes a frame with the parts `x`: it is UP and the fabric alive, no frame is being discarded on purpose, and the frame
is whole and sound and of version 1; nobody else uses this module's node ID (R480-R486, R496, R612). -/
def State.takes (s : State) (p : Nat) (x : Parsed) (frame : List Byte) : Bool :=
  s.fabLive && s.dormAt.isNone && s.portIsUp p && !s.tstOn 4 && (s.rd F.FAB_CTL_TOPO != 2 || destHere p frame)
    && x.hcrcGood && x.fcsGood && x.whole && x.ver == 1 && !(s.rd F.FAB_NODE_STATE == 2 && x.srcId == s.rd F.FAB_NODE_ID)

/-- The state in which a frame that port `p` takes has its effect: it is counted, and its sender's route is learned (R497, R507). -/
def State.heard (s : State) (p : Nat) (x : Parsed) : State := (s.inc (F.FAB_P_FRCNT_RX p)).routeLearn x.srcId p

/-- What a frame that is sent on leaves through: the other port is UP and may transmit, and the hop limit is not reached (R486). -/
def State.sendsOn (s : State) (p : Nat) (x : Parsed) : Bool :=
  decide (s.rd F.FAB_CTL_TOPO < 2) && s.portIsUp (1 - p) && !s.bit (F.FAB_P_STAT_TXDIS (1 - p)) && !(s.fport (1 - p)).pulse
    && (x.hops + 1) % 256 != x.hlim

/-- The frame that left last is `f`, on port `p`. -/
def State.sentLast (s : State) (p : Nat) (f : List Byte) : Bool := s.egress.2.getLast? == some (p, f)

/-- A frame for node `n` leaves on port `p`: the route names it, and it is UP and may transmit (R497). -/
def State.leavesBy (s : State) (n p : Nat) : Bool :=
  s.routePort n == some p && s.portIsUp p && !s.bit (F.FAB_P_STAT_TXDIS p) && !(s.fport p).pulse

end Sys2Proof.Machine
end

