-- ==== Sys2Proof/Certificates/Slice0/Obligations.lean ====
section
/-! DEFINITION. The statements about the model, each formalising rules of the spec; OBLIGATIONS.json lists them. -/
open Sys2Proof Sys2Proof.Machine

/-- A step runs the command at the front of the queue: With a command c at the front of its queue, a step of the module is the
meaning of c on the state that holds the rest of the queue. (00_README (the block takes commands); R19) -/
def Obligations.StepRunsTheFrontCommand : Prop :=
  ∀ (c : Instr) (rest : List Instr) (s : State),
    s.pending = c :: rest → step s = exec c { s with pending := rest }

/-- An idle step (the model's choice, log entry 2): With an empty queue and no event due, a step lets one drive-base cycle pass;
with an event due, it is that event's own meaning, as something that the clock brings, in the same instant, and the event is no
longer waiting; among the events that are due the frame tick goes first, then the DMA's writes. (R31; R102) -/
def Obligations.IdleStepLetsTimePass : Prop :=
  ∀ s : State, s.pending = [] →
    (s.dueNow = none → step s = .next s.cycle) ∧
    (∀ p t, s.dueNow = some p → exec p.2 { s with clocked := true } = .next t →
      step s = .next { t with beat := s.beat, clocked := false, alarms := t.alarms.filter (fun x => x != p) }) ∧
    (∀ p q, s.dueNow = some p → q ∈ s.alarms → q.1 ≤ s.now → s.standsStill q.2 = false → eventRank p.2 ≤ eventRank q.2)

/-- No command stops the module: Every command, with any operands and in any state, leads to a next state: none faults and none
is refused by the model. (R6; R8; R19) -/
def Obligations.NoCommandStops : Prop :=
  ∀ (c : Instr) (s : State), ∃ t, exec c s = .next t

/-- A command leaves the queue of waiting commands alone: Whatever a command does, the queue of waiting commands after it is the
queue before it, also through a module reset, a power loss and a wake. (R19; 00_README (the block takes commands)) -/
def Obligations.CommandsKeepTheQueue : Prop :=
  ∀ (c : Instr) (s t : State), exec c s = .next t → t.pending = s.pending

/-- Every step keeps the register space and the memory canonical: If the register space and the memory of a state are in
canonical form (addresses strictly rising, nothing listed that an unlisted address reads as), then so are those of every state
that a step of the module leads to. (R9; R15; R435) -/
def Obligations.StepsKeepTheCanonicalForm : Prop :=
  ∀ s t : State, s.Canonical → step s = .next t → t.Canonical

/-- The reset state is canonical: The register space and the memory of the state right after reset are in canonical form, and
its queue is empty. (R15; R435) -/
def Obligations.ResetIsCanonical : Prop :=
  State.reset.Canonical ∧ State.reset.pending = []

/-- The state after the power-on reset: After the power-on reset the mode is BOOT with SYS_RSTCAUSE.POR alone set, STO is
asserted, the OTP status shows the vendor's key, every core is held at its reset values, no gate conducts and every byte of SRAM
and of flash reads as reset leaves it. That memory reads 0 (flash 0xFF) and that general registers read 0 before anything is
written is the model's choice where the spec gives no value (log entries 4 and 5). (R81; R95; R379) -/
def Obligations.ResetLeavesBoot : Prop :=
  State.reset.mode = .boot ∧ State.reset.reg A.SYS_RSTCAUSE = 1 ∧ State.reset.bit F.SAF_STATUS_STO = true ∧
    (∀ c : Fin 5, (State.reset.core c).run = .held ∧ (State.reset.core c).wregs = []) ∧
    (∀ p : Fin 72, Tab.get Phase.init State.reset.phases p = Phase.init) ∧
    (∀ a : Nat, State.reset.byte a = memDefault a)

/-- Timer register writes, starts and stops: COUNT takes the value while the timer is stopped and keeps its own and sets WR_RUN
while it runs; RELOAD and PRE take the value, which becomes active at once while the timer is stopped and leaves the active one
in force while it runs; CMPk takes the value and CMP_RANGE shows for each enabled channel whether its compare value lies above
the active reload value. A write of TMR_GSTART starts the selected timers with their prescalers restarted, but for those that
something stopped in the same cycle; a write of TMR_GSTOP stops the selected ones, the GSTART task starts those of
TMR_GSTART_EV.MASK while EN is 1; the others run as before, and every count is kept. Under its clause's conditions on the state
and the operands alone, exec answers a next state with the command's own effect: timerCountWrite, timerReloadWrite,
timerCmpWrite, timerGstart, timerGstop, timerGstartEvent. (R114; R115; R116; R118; R119; R125) -/
def Obligations.TimerRegistersAndRun : Prop :=
  ∀ (s : State) (w : Writer) (t : Fin 16) (k : Fin 4) (v : Word),
    (s.operating = true → isCore w = true → s.tmrRun t = false →
      ∃ u, exec (.timerCountWrite w t v) s = .next u ∧ u.reg (A.TMR_T_COUNT t) = v ∧ sameRegs (blocksIcu [0x803]) s u ∧ sameMem s u) ∧
    (s.operating = true → isCore w = true → s.tmrRun t = true →
      ∃ u, exec (.timerCountWrite w t v) s = .next u ∧ u.reg (A.TMR_T_COUNT t) = s.reg (A.TMR_T_COUNT t) ∧ u.bit (F.TMR_T_FLAG_WR_RUN t) = true ∧ sameRegs (blocksIcu [0x803]) s u ∧ sameMem s u) ∧
    (s.operating = true → isCore w = true →
      ∃ u, exec (.timerReloadWrite w t false v) s = .next u ∧ u.reg (A.TMR_T_RELOAD t) = v ∧ u.activeReload t = (if s.tmrRun t then s.activeReload t else v.toNat) ∧ sameRegs (blocksIcu [0x803, 0xC00]) s u ∧ sameMem s u) ∧
    (s.operating = true → isCore w = true →
      ∃ u, exec (.timerReloadWrite w t true v) s = .next u ∧ u.rd (F.TMR_T_CTL_PRE t) = getBits v 10 16 ∧ u.activePre t = (if s.tmrRun t then s.activePre t else getBits v 10 16) ∧ sameRegs (blocksIcu [0x803, 0xC00]) s u ∧ sameMem s u) ∧
    (s.operating = true → isCore w = true →
      ∃ u, exec (.timerCmpWrite w t k v) s = .next u ∧ u.reg (A.TMR_T_CMP t k) = v ∧ (∀ j : Fin 4, u.bitAt (F.TMR_T_FLAG_CMP_RANGE t) j = (s.bitAt (F.TMR_T_CTL_CMPEN t) j && decide (s.activeReload t < u.rd (F.TMR_T_CMP_C t j)))) ∧ sameRegs (blocksIcu [0x803]) s u ∧ sameMem s u) ∧
    (s.operating = true → isCore w = true →
      ∃ u, exec (.timerGstart w v) s = .next u ∧ (∀ j : Fin 16, u.tmrRun j = (s.tmrRun j || (v.getLsbD j && !s.sameAs (s.tmr j).stopAt)) ∧ u.reg (A.TMR_T_COUNT j) = s.reg (A.TMR_T_COUNT j)) ∧ (∀ j : Fin 16, s.tmrRun j = false → u.tmrRun j = true → (u.tmr j).pre = 0) ∧ sameRegs (blocks [0x803]) s u ∧ sameMem s u) ∧
    (s.operating = true → isCore w = true →
      ∃ u, exec (.timerGstop w v) s = .next u ∧ (∀ j : Fin 16, u.tmrRun j = (s.tmrRun j && !v.getLsbD j) ∧ u.reg (A.TMR_T_COUNT j) = s.reg (A.TMR_T_COUNT j)) ∧ sameRegs (blocks [0x803]) s u ∧ sameMem s u) ∧
    (s.operating = true → isCore w = true → s.bit F.TMR_GSTART_EV_EN = true → s.arrived 0 1 = false →
      ∃ u, exec (.timerGstartEvent) s = .next u ∧ (∀ j : Fin 16, u.tmrRun j = (s.tmrRun j || ((s.rd F.TMR_GSTART_EV_MASK).testBit j && !s.sameAs (s.tmr j).stopAt)) ∧ u.reg (A.TMR_T_COUNT j) = s.reg (A.TMR_T_COUNT j)) ∧ sameRegs (blocks [0x803, 0x80A]) s u ∧ sameMem s u)

/-- Timer captures and system time: A capture task input pushes the count behind the queue's entries while fewer than four are
held, and with four held keeps them and sets CAPOVF, in a cycle of the clock only after the reads of that cycle; a read of CAPk
answers the oldest entry (0 for none), removes it, shows in VALID whether there was one, and lets a capture that waits for a
place in this cycle enter; a capture of the read's own cycle is not what it answers. A read of SYSTIME_NS answers the count and
latches the current epoch for that reader, changing nothing of the time; the cycle in which the count passes 2^48 - 1 leaves the
remainder in SYSTIME_NS and increments SYSTIME_EPOCH modulo 2^32. Under its clause's conditions on the state and the operands
alone, exec answers a next state with the command's own effect: timerCapture, timerCapRead, systimeNsRead, systimeNsWrap. Where
a clause rests on a choice or a reading of the model and not on a rule, it is that of log entry 12 (DEDUCED). (R121; R122; R312;
R110; R111) -/
def Obligations.CapturesAndSystemTime : Prop :=
  ∀ (s : State) (r : Writer) (t : Fin 16) (k : Fin 2),
    (s.operating = true → isCore r = true → s.arrived (2 + 2 * t + k) 1 = false → (if k = 0 then s.bit (F.TMR_T_CTL_CAPEN0 t) else s.bit (F.TMR_T_CTL_CAPEN1 t)) = true → s.tmrFrozen t = false → (s.capQ t k).length < 4 →
      ∃ u, exec (.timerCapture t k) s = .next u ∧ u.capQ t k = s.capQ t k ++ [s.reg (A.TMR_T_COUNT t)] ∧ sameRegs (blocksIcu [0x803, 0x80A]) s u ∧ sameMem s u) ∧
    (s.operating = true → isCore r = true → s.arrived (2 + 2 * t + k) 1 = false → (if k = 0 then s.bit (F.TMR_T_CTL_CAPEN0 t) else s.bit (F.TMR_T_CTL_CAPEN1 t)) = true → s.tmrFrozen t = false → 4 ≤ (s.capQ t k).length → s.clocked = false →
      ∃ u, exec (.timerCapture t k) s = .next u ∧ u.capQ t k = s.capQ t k ∧ u.bit (if k = 0 then F.TMR_T_FLAG_CAPOVF0 t else F.TMR_T_FLAG_CAPOVF1 t) = true ∧ sameRegs (blocksIcu [0x803, 0x80A]) s u ∧ sameMem s u) ∧
    (s.operating = true → isCore r = true → s.capOnlyNew t k = false →
      ∃ u, exec (.timerCapRead r t k) s = .next u ∧ u.rdata = (s.capQ t k).headD 0 ∧ u.capQ t k = (s.capQ t k).tail ++ (s.capWaits t k).toList ∧ u.bit (F.TMR_T_CAPINFO_VALID t k) = !(s.capQ t k).isEmpty ∧ sameRegs (blocks [0x803]) s u ∧ sameMem s u) ∧
    (s.operating = true → isCore r = true → s.capOnlyNew t k = true →
      ∃ u, exec (.timerCapRead r t k) s = .next u ∧ u.rdata = 0 ∧ u.capQ t k = s.capQ t k ∧ u.bit (F.TMR_T_CAPINFO_VALID t k) = false ∧ sameRegs (blocks [0x803]) s u ∧ sameMem s u) ∧
    (s.operating = true → isCore r = true → s.arrived (2 + 2 * t + k) 1 = false → (if k = 0 then s.bit (F.TMR_T_CTL_CAPEN0 t) else s.bit (F.TMR_T_CTL_CAPEN1 t)) = true → s.tmrFrozen t = false → 4 ≤ (s.capQ t k).length → s.clocked = true →
      ∃ u, exec (.timerCapture t k) s = .next u ∧ u.capQ t k = s.capQ t k ∧ u.capWaits t k = some (s.reg (A.TMR_T_COUNT t)) ∧ sameRegs (blocksIcu [0x803, 0x80A]) s u ∧ sameMem s u) ∧
    (s.operating = true → isCore r = true →
      ∃ u, exec (.systimeNsRead r) s = .next u ∧ u.rdata = s.reg A.SYSTIME_NS ∧ u.epochRead r = s.epoch ∧ u.reg A.SYSTIME_NS = s.reg A.SYSTIME_NS ∧ u.epoch = s.epoch ∧ u.regs = s.regs ∧ sameMem s u) ∧
    (s.tickRuns = true → 2 ^ 48 ≤ s.rd F.SYSTIME_NS_NS + s.nsStep →
      ∃ u, exec (.systimeNsWrap) s = .next u ∧ u.rd F.SYSTIME_NS_NS = s.rd F.SYSTIME_NS_NS + s.nsStep - 2 ^ 48 ∧ u.epoch.toNat = (s.epoch.toNat + 1) % 2 ^ 32 ∧ sameRegs (blocks [0x802]) s u ∧ sameMem s u)

/-- A timer's wrap and compare match: At the counter clock of a running timer at or above its active reload value the count goes
to 0, WRAP sets and every pending RELOAD and PRE becomes active; at the counter clock that moves a running timer into the
compare value of an enabled channel, the count is that value and MATCHk sets. Under its clause's conditions on the state and the
operands alone, exec answers a next state with the command's own effect: timerWrap, timerMatch. Where a clause rests on a choice
or a reading of the model and not on a rule, it is that of log entry 41 (DEDUCED). (R114; R115; R118; R120) -/
def Obligations.TimerMoves : Prop :=
  ∀ (s : State) (t : Fin 16) (k : Fin 4),
    s.tmrCounts t = true →
    (s.activeReload t ≤ s.rd (F.TMR_T_COUNT_COUNT t) →
      ∃ u, exec (.timerWrap t) s = .next u ∧ u.reg (A.TMR_T_COUNT t) = 0 ∧ u.bit (F.TMR_T_FLAG_WRAP t) = true ∧ (u.tmr t).oldReload = none ∧ (u.tmr t).oldPre = none ∧ sameRegs (blocksIcu [0x803, 0x807, 0x80A, 0x810]) s u ∧ sameMem s u) ∧
    (s.bitAt (F.TMR_T_CTL_CMPEN t) k = true → s.rd (F.TMR_T_CMP_C t k) = s.tmrNext t →
      ∃ u, exec (.timerMatch t k) s = .next u ∧ u.rd (F.TMR_T_COUNT_COUNT t) = s.tmrNext t ∧ u.bit ⟨A.TMR_T_FLAG t, k, 1⟩ = true ∧ sameRegs (blocksIcu [0x803, 0x807, 0x80A, 0x810]) s u ∧ sameMem s u)

/-- Tick settings and what a frame tick does: In STANDBY TICK_FRAME takes a value of its range 3750 to 750000 and TICK_FCYC any
value, while the value in force stays until the next frame tick; in any other mode a write of another value leaves the register
and sets WR_REFUSED; a 1 written to a bit of TICK_DONE clears that slot's PEND and no other. At a frame tick TICK_FRAMECNT and
TICK_FRAMENO.IDX restart from 0 if TICK starts there and otherwise move to the next frame, and no written value waits for the
frame tick any longer, but for those written in the tick's own cycle; within a frame there is no tick; a tick that the JIT
perturbation has held back is delivered to every task slot whose divider and offset name this frame, which sets PEND. Under its
clause's conditions on the state and the operands alone, exec answers a next state with the command's own effect:
tickFrameWrite, tickDone, frameTick, tickJitterDelivery. Where a clause rests on a choice or a reading of the model and not on a
rule, it is that of log entries 12 (DEDUCED), 125 (DESIGN CHOICE). (R104; R108; R29; R102; R105; R107; R612) -/
def Obligations.TickSettingsAndFrames : Prop :=
  ∀ (s : State) (w : Writer) (v : Word),
    (s.operating = true → isCore w = true → s.mode = .standby → 3750 ≤ getBits v 0 20 → getBits v 0 20 ≤ 750000 →
      ∃ u, exec (.tickFrameWrite w false v) s = .next u ∧ u.rd F.TICK_FRAME_COUNTS = getBits v 0 20 ∧ u.inForce F.TICK_FRAME_COUNTS = s.inForce F.TICK_FRAME_COUNTS ∧ sameRegs (blocks [0x802]) s u ∧ sameMem s u) ∧
    (s.operating = true → isCore w = true → s.mode = .standby →
      ∃ u, exec (.tickFrameWrite w true v) s = .next u ∧ u.rd F.TICK_FCYC_MM1 = getBits v 0 4 ∧ u.inForce F.TICK_FCYC_MM1 = s.inForce F.TICK_FCYC_MM1 ∧ sameRegs (blocks [0x802]) s u ∧ sameMem s u) ∧
    (s.operating = true → isCore w = true → s.mode ≠ .standby → getBits v 0 20 ≠ s.rd F.TICK_FRAME_COUNTS →
      ∃ u, exec (.tickFrameWrite w false v) s = .next u ∧ u.reg A.TICK_FRAME = s.reg A.TICK_FRAME ∧ u.bit F.TICK_STATUS_WR_REFUSED = true ∧ sameRegs (blocks [0x802]) s u ∧ sameMem s u) ∧
    (s.operating = true → isCore w = true → s.mode ≠ .standby → getBits v 0 4 ≠ s.rd F.TICK_FCYC_MM1 →
      ∃ u, exec (.tickFrameWrite w true v) s = .next u ∧ u.reg A.TICK_FCYC = s.reg A.TICK_FCYC ∧ u.bit F.TICK_STATUS_WR_REFUSED = true ∧ sameRegs (blocks [0x802]) s u ∧ sameMem s u) ∧
    (s.operating = true → isCore w = true →
      ∃ u, exec (.tickDone w v) s = .next u ∧ (∀ j : Fin 16, u.bit (F.TICK_SLOT_PEND j) = (s.bit (F.TICK_SLOT_PEND j) && !v.getLsbD j)) ∧ sameRegs (blocks [0x802]) s u ∧ sameMem s u) ∧
    (s.tickRuns = true → s.dormAt = none → s.atFrameEdge = true → s.tickAt = none →
      ∃ u, exec (.frameTick) s = .next u ∧ u.rd F.TICK_FRAMECNT_COUNT = 0 ∧ u.rd F.TICK_FRAMENO_IDX = 0 ∧ u.held = s.heldHere ∧ sameRegs (blocksIcu [0x800, 0x802, 0x803, 0x804, 0x805, 0x806, 0x807, 0x809, 0x80A, 0x80B, 0x80F, 0x810, 0x811, 0x812, 0xC00]) s u ∧ sameBytes s.recordPlace s u) ∧
    (s.tickRuns = true → s.dormAt = none → s.atFrameEdge = true → s.tickAt ≠ none →
      ∃ u, exec (.frameTick) s = .next u ∧ u.rd F.TICK_FRAMECNT_COUNT = (s.rd F.TICK_FRAMECNT_COUNT + 1) % 2 ^ F.TICK_FRAMECNT_COUNT.w ∧ u.rd F.TICK_FRAMENO_IDX = (if (s.takesNow A.TICK_FCYC).isSome then 0 else (s.rd F.TICK_FRAMENO_IDX + 1) % (s.rd F.TICK_FCYC_MM1 + 1)) ∧ u.held = s.heldHere ∧ sameRegs (blocksIcu [0x800, 0x802, 0x803, 0x804, 0x805, 0x806, 0x807, 0x809, 0x80A, 0x80B, 0x80F, 0x810, 0x811, 0x812, 0xC00]) s u ∧ sameBytes s.recordPlace s u) ∧
    (s.atFrameEdge = false →
      ∃ u, exec (.frameTick) s = .next u ∧ u = { s.cancel .frameTick with beat := s.beat + 1 }) ∧
    (s.due .tickJitterDelivery = true →
      ∃ u, exec (.tickJitterDelivery) s = .next u ∧ u.due .tickJitterDelivery = false ∧ (∀ j : Fin 16, s.slotHits j = true → u.bit (F.TICK_SLOT_PEND j) = true) ∧ sameRegs (blocksIcu [0x802, 0x803, 0x807, 0x80A, 0x810]) s u ∧ sameMem s u)

/-- A carrier's valley and peak: At a valley of a running carrier its position is 0 and counts up; at a peak the position is
PEAK and counts down; and where the quad updates there, every axis of the quad armed before copies its three staged duties to
the active ones, without what software stages in the same cycle. Under its clause's conditions on the state and the operands
alone, exec answers a next state with the command's own effect: carrierValley, carrierPeak. Where a clause rests on a choice or
a reading of the model and not on a rule, it is that of log entry 44 (DEDUCED). (R131; R136; R142; R143) -/
def Obligations.CarrierTurns : Prop :=
  ∀ (s : State) (q : Fin 6),
    s.carrierOn q = true →
    (∃ u, exec (.carrierValley q) s = .next u ∧ u.rd (F.PWM_Q_CNT_POS q) = 0 ∧ u.rd (F.PWM_Q_CNT_DIR q) = 0 ∧ (s.updAt q 0 = true → ∀ k : Fin 4, s.armedBefore (4 * q + k) = true → ∀ p : Fin 3, (u.phase (4 * q + k) p).duty = s.stagedBefore (4 * q + k) p) ∧ sameRegs (blocksIcu [0x803, 0x804, 0x806, 0x807, 0x80A, 0x810]) s u ∧ sameMem s u) ∧
    (∃ u, exec (.carrierPeak q) s = .next u ∧ u.rd (F.PWM_Q_CNT_POS q) = s.inForce (F.PWM_Q_PERIOD_PEAK q) ∧ u.rd (F.PWM_Q_CNT_DIR q) = 1 ∧ (s.updAt q 1 = true → ∀ k : Fin 4, s.armedBefore (4 * q + k) = true → ∀ p : Fin 3, (u.phase (4 * q + k) p).duty = s.stagedBefore (4 * q + k) p) ∧ sameRegs (blocksIcu [0x803, 0x804, 0x807, 0x80A, 0x810]) s u ∧ sameMem s u)

/-- Writes of an axis's OEN, DSRC, trip states and duties: OEN is taken in STANDBY, ARMED and RUN, and an axis that it disables
has both switches of every phase off at once; in SAFE_STOP a set OEN is refused with WR_REFUSED; DSRC and the trip states are
taken in STANDBY and ARMED, DSRC in force from the next frame tick, LS_ERR showing a mixed LS_SHORT; a duty write reaches
staging while software owns the duties, the W duty arming the axis, and one of another value is refused with WR_OWNED otherwise
and in SAFE_STOP, where one of the value held sets nothing. Under its clause's conditions on the state and the operands alone,
exec answers a next state with the command's own effect: pwmOenWrite, pwmDsrcWrite, pwmTripstWrite, pwmDutyWrite. (R134; R142;
R143; R144; R148; R153) -/
def Obligations.AxisOutputWrites : Prop :=
  ∀ (s : State) (w : Writer) (a : Fin 24) (b : Bool) (p : Fin 3) (codes : BitVec 6) (v : Word),
    s.operating = true → isCore w = true →
    ((s.mode = .standby ∨ s.mode = .armed ∨ s.mode = .run) →
      ∃ u, exec (.pwmOenWrite w a b) s = .next u ∧ u.bit (F.PWM_AX_CTL_OEN a) = b ∧ (b = false → s.bit (F.PWM_AX_CTL_OEN a) = true → ∀ j : Fin 3, (u.phase a j).gate = .allOff) ∧ sameRegs (blocksIcu [0x804, 0x807]) s u ∧ sameMem s u) ∧
    (s.mode = .safeStop → s.bit (F.PWM_AX_CTL_OEN a) = false →
      ∃ u, exec (.pwmOenWrite w a true) s = .next u ∧ u.bit (F.PWM_AX_CTL_OEN a) = false ∧ u.bit (F.PWM_Q_STATUS_WR_REFUSED (a / 4)) = true ∧ sameRegs (blocksIcu [0x804, 0x807]) s u ∧ sameMem s u) ∧
    ((s.mode = .standby ∨ s.mode = .armed) →
      ∃ u, exec (.pwmDsrcWrite w a b) s = .next u ∧ u.bit (F.PWM_AX_CTL_DSRC a) = b ∧ u.inForce (F.PWM_AX_CTL_DSRC a) = s.inForce (F.PWM_AX_CTL_DSRC a) ∧ sameRegs (blocksIcu [0x804, 0x807]) s u ∧ sameMem s u) ∧
    ((s.mode = .standby ∨ s.mode = .armed) → (∀ j : Fin 3, codes.toNat / 4 ^ j.val % 4 ≠ 3) → getBits (s.reg (A.PWM_AX_CTL a)) 2 6 ≠ codes.toNat →
      ∃ u, exec (.pwmTripstWrite w a codes) s = .next u ∧ getBits (u.reg (A.PWM_AX_CTL a)) 2 6 = codes.toNat ∧ u.bit (F.PWM_AX_STATUS_LS_ERR a) = u.lsMixed a ∧ sameRegs (blocksIcu [0x804, 0x807]) s u ∧ sameMem s u) ∧
    (s.mode ≠ .shutdown → s.mode ≠ .safeStop → s.inForce (F.PWM_AX_CTL_DSRC a) ≠ 0 →
      ∃ u, exec (.pwmDutyWrite w a p v) s = .next u ∧ u.staged a p = getBits v 0 20 ∧ (p = 2 → u.bit (F.PWM_AX_STATUS_ARM a) = true) ∧ sameRegs (blocksIcu [0x804]) s u ∧ sameMem s u) ∧
    (s.mode ≠ .shutdown → (s.mode = .safeStop ∨ s.inForce (F.PWM_AX_CTL_DSRC a) = 0) → getBits v 0 20 ≠ s.staged a p →
      ∃ u, exec (.pwmDutyWrite w a p v) s = .next u ∧ u.staged a p = s.staged a p ∧ u.bit (F.PWM_AX_STATUS_WR_OWNED a) = true ∧ sameRegs (blocksIcu [0x804]) s u ∧ sameMem s u) ∧
    (s.mode ≠ .shutdown → (s.mode = .safeStop ∨ s.inForce (F.PWM_AX_CTL_DSRC a) = 0) → getBits v 0 20 = s.staged a p →
      ∃ u, exec (.pwmDutyWrite w a p v) s = .next u ∧ u.staged a p = s.staged a p ∧ u.reg (A.PWM_AX_STATUS a) = s.reg (A.PWM_AX_STATUS a) ∧ sameRegs (blocksIcu [0x804]) s u ∧ sameMem s u)

/-- Writes of a quad's carrier configuration: In STANDBY each of CTL, PERIOD, PHASE, DT and BOOT takes every field of a value
inside its ranges while the value in force stays until the next frame tick; in any other mode a write that would change the
register leaves it and sets WR_REFUSED. Under its clause's conditions on the state and the operands alone, exec answers a next
state with the command's own effect: pwmConfigWrite. (R138; R19) -/
def Obligations.CarrierConfigurationWrites : Prop :=
  ∀ (s : State) (w : Writer) (q : Fin 6) (r : Fin 5) (v : Word),
    s.operating = true → isCore w = true →
    (s.mode = .standby → rowInRange (fieldsAt (A.PWM_Q_CTL q + 8 * r)) v = true →
      ∃ u, exec (.pwmConfigWrite w q r v) s = .next u ∧ u.reg (A.PWM_Q_CTL q + 8 * r) = rowWrite false (fieldsAt (A.PWM_Q_CTL q + 8 * r)) (s.reg (A.PWM_Q_CTL q + 8 * r)) v ∧ u.regInForce (A.PWM_Q_CTL q + 8 * r) = s.regInForce (A.PWM_Q_CTL q + 8 * r) ∧ sameRegs (blocksIcu [0x804]) s u ∧ sameMem s u) ∧
    (s.mode ≠ .standby → rowWrite false (fieldsAt (A.PWM_Q_CTL q + 8 * r)) (s.reg (A.PWM_Q_CTL q + 8 * r)) v ≠ s.reg (A.PWM_Q_CTL q + 8 * r) →
      ∃ u, exec (.pwmConfigWrite w q r v) s = .next u ∧ u.reg (A.PWM_Q_CTL q + 8 * r) = s.reg (A.PWM_Q_CTL q + 8 * r) ∧ u.bit (F.PWM_Q_STATUS_WR_REFUSED q) = true ∧ sameRegs (blocksIcu [0x804]) s u ∧ sameMem s u)

/-- Window edges, dead times, bootstrap refresh and lockout of a half-bridge: At the edge that opens the high-side window of a
powered phase the high side is on or waits for its dead time, unless its pulse would be shorter than 120 steps and is dropped
and counted; at the edge that closes it the same holds for the low side; the end of a dead time turns on the switch that waited;
a refresh that is due inserts the low-side pulse and counts; a bootstrap lockout, where the supply can be that low, sets UVLO
and leaves no high side on, and where none can be, changes nothing. Under its clause's conditions on the state and the operands
alone, exec answers a next state with the command's own effect: pwmWindowEdge, pwmDeadTimeEnd, bootstrapRefresh, bootstrapUvlo.
Where a clause rests on a choice or a reading of the model and not on a rule, it is that of log entries 14 (DESIGN CHOICE), 44
(DEDUCED). (R139; R140; R141; R145; R146) -/
def Obligations.GateEdges : Prop :=
  ∀ (s : State) (a : Fin 24) (p : Fin 3) (hi : Bool),
    (s.powered a = true → (s.axis a).inTrip = false → s.carrierOn (a / 4) = true → s.bit (F.PWM_Q_CNT_DIR (a / 4)) = false → s.edgeDuty a p < s.periodSteps (a / 4) → 120 ≤ s.edgeDuty a p - s.deadSteps (a / 4) → (s.phase a p).dropLow = false →
      ∃ u, exec (.pwmWindowEdge a p) s = .next u ∧ ((u.phase a p).gate = .high ∨ (u.phase a p).gate = .dead true) ∧ sameRegs (blocks [0x804]) s u ∧ sameMem s u) ∧
    (s.powered a = true → (s.axis a).inTrip = false → s.carrierOn (a / 4) = true → s.bit (F.PWM_Q_CNT_DIR (a / 4)) = false → s.edgeDuty a p < s.periodSteps (a / 4) → 0 < s.edgeDuty a p → s.edgeDuty a p - s.deadSteps (a / 4) < 120 → s.inForce (F.PWM_Q_CTL_MPMODE (a / 4)) = 0 → (s.phase a p).dropLow = false →
      ∃ u, exec (.pwmWindowEdge a p) s = .next u ∧ (u.phase a p).gate = (s.phase a p).gate ∧ (u.phase a p).dropHigh = true ∧ sameRegs (blocks [0x804]) s u ∧ sameMem s u) ∧
    (s.powered a = true → (s.axis a).inTrip = false → s.carrierOn (a / 4) = true → s.bit (F.PWM_Q_CNT_DIR (a / 4)) = true → 0 < s.edgeDuty a p → 120 ≤ s.periodSteps (a / 4) - s.edgeDuty a p - s.deadSteps (a / 4) → (s.phase a p).dropHigh = false →
      ∃ u, exec (.pwmWindowEdge a p) s = .next u ∧ ((u.phase a p).gate = .low ∨ (u.phase a p).gate = .dead false) ∧ sameRegs (blocks [0x804]) s u ∧ sameMem s u) ∧
    ((s.phase a p).gate = .dead hi →
      ∃ u, exec (.pwmDeadTimeEnd a p) s = .next u ∧ (u.phase a p).gate = (if hi then .high else .low) ∧ u.regs = s.regs ∧ sameMem s u) ∧
    (s.inForce (F.PWM_Q_CTL_BSMODE (a / 4)) = 1 → s.inForce (F.PWM_Q_BOOT_BSMAX (a / 4)) ≤ (s.phase a p).bs → (s.phase a p).refresh = false → s.carrierOn (a / 4) = true → s.rd (F.PWM_AX_CNT_BSCNT a) < 65535 →
      ∃ u, exec (.bootstrapRefresh a p) s = .next u ∧ (u.phase a p).refresh = true ∧ u.rd (F.PWM_AX_CNT_BSCNT a) = s.rd (F.PWM_AX_CNT_BSCNT a) + 1 ∧ sameRegs (blocks [0x804]) s u ∧ sameMem s u) ∧
    (s.lockoutMay a p = true →
      ∃ u, exec (.bootstrapUvlo a p) s = .next u ∧ (u.phase a p).uvlo = true ∧ (u.phase a p).gate ≠ .high ∧ (u.phase a p).gate ≠ .dead true ∧ u.bit (uvloFld a p) = true ∧ sameRegs (blocksIcu [0x804]) s u ∧ sameMem s u) ∧
    (s.lockoutMay a p = false →
      ∃ u, exec (.bootstrapUvlo a p) s = .next u ∧ u = { s with beat := s.beat + 1 })

/-- Trip inputs and gate enables act at once: A trip input that rises puts its axis into the trip states, sets TRIP and counts
it; a software trip bit does so for each axis whose bit a write sets; SAF_GATEEN takes what Zenou-S writes, in SAFE_STOP only
bits that clear, and an axis without its bit has both switches of every phase off. Under its clause's conditions on the state
and the operands alone, exec answers a next state with the command's own effect: axisTrip, pwmSwtripWrite, gateenWrite. Where a
clause rests on a choice or a reading of the model and not on a rule, it is that of log entry 3 (DESIGN CHOICE). (R133; R147;
R149; R152) -/
def Obligations.TripsAndGateEnables : Prop :=
  ∀ (s : State) (w : Writer) (a : Fin 24) (inp : Fin 6) (q : Fin 6) (v : Word),
    ((s.axis a).lvl = false → (inp = 4 ∨ s.tripLevel a = true) →
      ∃ u, exec (.axisTrip a inp) s = .next u ∧ (u.axis a).inTrip = true ∧ (u.axis a).lvl = true ∧ u.bit (F.PWM_AX_STATUS_TRIP a) = true ∧ sameRegs (blocksIcu [0x803, 0x804, 0x807, 0x80A, 0x810]) s u ∧ sameMem s u) ∧
    (s.operating = true → isCore w = true →
      ∃ u, exec (.pwmSwtripWrite w q v) s = .next u ∧ u.rd (F.PWM_Q_SWTRIP_TRIP q) = getBits v 0 4 ∧ (∀ k : Fin 4, v.getLsbD k = true → (s.axis (4 * q + k)).lvl = false → (u.axis (4 * q + k)).inTrip = true ∧ u.bit (F.PWM_AX_STATUS_TRIP (4 * q + k)) = true) ∧ sameRegs (blocksIcu [0x803, 0x804, 0x807, 0x80A, 0x810]) s u ∧ sameMem s u) ∧
    (s.operating = true →
      ∃ u, exec (.gateenWrite .coreS v) s = .next u ∧ u.rd F.SAF_GATEEN_EN = (if s.mode = .safeStop then getBits v 0 24 &&& s.rd F.SAF_GATEEN_EN else getBits v 0 24) ∧ (∀ k : Fin 24, v.getLsbD k = false → ∀ j : Fin 3, (u.phase k j).gate = .allOff) ∧ sameRegs (blocksIcu [0x807, 0xC00]) s u ∧ sameMem s u)

/-- Comparators: crossings, latches, clears and settings: A crossing is taken as the comparator's output while it is powered,
and without power changes nothing; with its trip enable set, outside a blanking window, without majority and with a latching CLR
setting, it sets the trip latch at once, and for a phase comparator the trip input of its axis is active; with majority a
crossing alone latches nothing; the end of a blanking window shows the trip path the real output again; a sampled EXT window
leaves its majority result. A clear by a writer that may clear ends the latch while the trip-path signal is inactive, and while
it is active sets CLRFAIL and keeps the latch; CMP_CLRALL does so for every comparator; Zenou-S writes thresholds with LO below
HI (else THR_ERR), configurations and EXT routes, in force from the next frame tick; a Zenou-A write of them changes nothing
there and is recorded in SAF_VIOL. Under its clause's conditions on the state and the operands alone, exec answers a next state
with the command's own effect: cmpCrossing, cmpBlankingEnd, cmpSampleWindow, cmpLatchClear, cmpClrall, cmpSpWrite. Where a
clause rests on a choice or a reading of the model and not on a rule, it is that of log entries 43 (DESIGN CHOICE), 127 (DESIGN
CHOICE), 145 (DESIGN CHOICE). (R187; R189; R190; R194; R195; R196; R201; R188; R191; R198; R199; R537) -/
def Obligations.ComparatorsActAndClear : Prop :=
  ∀ (s : State) (n : Fin 58) (m : Fin 4) (above : Bool) (below : Bool) (w : Writer) (k : Fin 4) (v : Word),
    (s.compPowered n = true → (above && below) = false →
      ∃ u, exec (.cmpCrossing n above below) s = .next u ∧ (u.comp n).above = above ∧ (u.comp n).below = below ∧ sameRegs (blocksIcu [0x803, 0x804, 0x806, 0x807, 0x80A, 0x810]) s u ∧ sameMem s u) ∧
    (s.compPowered n = false →
      ∃ u, exec (.cmpCrossing n above below) s = .next u ∧ u = { s with beat := s.beat + 1 }) ∧
    (s.compPowered n = true → s.compSampled n = false → s.inForce (F.CMP_CH_CFG_MAJ n) = 0 → (s.comp n).blank = false → s.inForce (F.CMP_CH_CFG_TRIPEN_HI n) ≠ 0 → s.inForce (F.CMP_CH_CFG_CLR n) ≠ 2 → (s.comp n).latch = false →
      ∃ u, exec (.cmpCrossing n true false) s = .next u ∧ (u.comp n).latch = true ∧ u.bit (F.CMP_CH_STAT_LATCH n) = true ∧ (n.val < 48 → (u.axis (n / 2)).lvl = true) ∧ sameRegs (blocksIcu [0x803, 0x804, 0x806, 0x807, 0x80A, 0x810]) s u ∧ sameMem s u) ∧
    (s.compPowered n = true → s.compSampled n = false → s.inForce (F.CMP_CH_CFG_MAJ n) ≠ 0 → majority 2 3 (s.comp n).histA = false → majority 2 3 (s.comp n).histB = false → (s.comp n).latch = false →
      ∃ u, exec (.cmpCrossing n above below) s = .next u ∧ (u.comp n).latch = false ∧ sameRegs (blocksIcu [0x803, 0x804, 0x806, 0x807, 0x80A, 0x810]) s u ∧ sameMem s u) ∧
    (s.compLive = true → s.compSampled n = false → s.inForce (F.CMP_CH_CFG_MAJ n) = 0 → (s.comp n).blank = true → (s.comp n).above = true → s.inForce (F.CMP_CH_CFG_TRIPEN_HI n) ≠ 0 → s.inForce (F.CMP_CH_CFG_CLR n) ≠ 2 →
      ∃ u, exec (.cmpBlankingEnd n) s = .next u ∧ (u.comp n).latch = true ∧ sameRegs (blocksIcu [0x803, 0x804, 0x806, 0x807, 0x80A, 0x810]) s u ∧ sameMem s u) ∧
    ((s.comp n).blank = true →
      ∃ u, exec (.cmpBlankingEnd n) s = .next u ∧ (u.comp n).blank = false ∧ u.due (.cmpBlankingEnd n) = false ∧ sameRegs (blocksIcu [0x803, 0x804, 0x806, 0x807, 0x80A, 0x810]) s u ∧ sameMem s u) ∧
    (s.compLive = true → s.compSampled (54 + m) = true → (above && below) = false → s.windowEnds m = true → s.cmpFrozen = false →
      ∃ u, exec (.cmpSampleWindow m above below) s = .next u ∧ u.compPath (54 + m) = (above, below) ∧ (u.comp (54 + m)).blank = false ∧ sameRegs (blocksIcu [0x803, 0x804, 0x806, 0x807, 0x80A, 0x810]) s u ∧ sameMem s u) ∧
    (s.operating = true → (w = .coreS ∨ (isCore w = true ∧ s.mode ≠ .safeStop)) → s.compSig n = false →
      ∃ u, exec (.cmpLatchClear w n) s = .next u ∧ (u.comp n).latch = false ∧ sameRegs (blocksIcu [0x803, 0x804, 0x806, 0x807, 0x80A, 0x810, 0xC00]) s u ∧ sameMem s u) ∧
    (s.operating = true → (w = .coreS ∨ (isCore w = true ∧ s.mode ≠ .safeStop)) → s.compSig n = true → (s.comp n).latch = true →
      ∃ u, exec (.cmpLatchClear w n) s = .next u ∧ (u.comp n).latch = true ∧ u.bit (F.CMP_CH_STAT_CLRFAIL n) = true ∧ sameRegs (blocksIcu [0x803, 0x804, 0x806, 0x807, 0x80A, 0x810, 0xC00]) s u ∧ sameMem s u) ∧
    (s.operating = true → (w = .coreS ∨ (isCore w = true ∧ s.mode ≠ .safeStop)) → getBits v 0 8 = 0xC1 →
      ∃ u, exec (.cmpClrall w v) s = .next u ∧ (∀ j : Fin 58, s.compSig j = false → (u.comp j).latch = false) ∧ sameRegs (blocksIcu [0x803, 0x804, 0x806, 0x807, 0x80A, 0x810]) s u ∧ sameMem s u) ∧
    (s.operating = true → getBits v 16 10 < getBits v 0 10 →
      ∃ u, exec (.cmpSpWrite .coreS n 0 v) s = .next u ∧ u.rd (F.CMP_CH_THR_HI n) = getBits v 0 10 ∧ u.rd (F.CMP_CH_THR_LO n) = getBits v 16 10 ∧ u.inForce (F.CMP_CH_THR_HI n) = s.inForce (F.CMP_CH_THR_HI n) ∧ sameRegs (blocksIcu [0x806, 0xC00]) s u ∧ sameMem s u) ∧
    (s.operating = true → getBits v 0 10 ≤ getBits v 16 10 →
      ∃ u, exec (.cmpSpWrite .coreS n 0 v) s = .next u ∧ u.reg (A.CMP_CH_THR n) = s.reg (A.CMP_CH_THR n) ∧ u.bit (F.CMP_CH_STAT_THR_ERR n) = true ∧ sameRegs (blocksIcu [0x806, 0xC00]) s u ∧ sameMem s u) ∧
    (s.operating = true → getBits v 3 2 ≠ 3 →
      ∃ u, exec (.cmpSpWrite .coreS n 1 v) s = .next u ∧ u.rd (F.CMP_CH_CFG_TRIPEN_HI n) = getBits v 0 1 ∧ u.rd (F.CMP_CH_CFG_CLR n) = getBits v 3 2 ∧ u.inForce (F.CMP_CH_CFG_CLR n) = s.inForce (F.CMP_CH_CFG_CLR n) ∧ sameRegs (blocksIcu [0x806, 0xC00]) s u ∧ sameMem s u) ∧
    (s.operating = true → n.val = 54 + m.val →
      ∃ u, exec (.cmpSpWrite .coreS n 2 v) s = .next u ∧ u.rd (F.CMP_EXT_ROUTE_AXIS m) = getBits v 0 24 ∧ sameRegs (blocksIcu [0x806, 0xC00]) s u ∧ sameMem s u) ∧
    (s.operating = true →
      ∃ u, exec (.cmpSpWrite (.coreA k true) n 0 v) s = .next u ∧ u.reg (A.CMP_CH_THR n) = s.reg (A.CMP_CH_THR n) ∧ u.rd F.SAF_VIOL_ORIGIN = k.val ∧ u.rd F.SAF_VIOLADDR_ADDR = A.CMP_CH_THR n ∧ sameRegs (blocksIcu [0x806, 0xC00]) s u ∧ sameMem s u)

/-- Event channels: arrivals, firing and their controls: An enabled producer input of an active channel whose gate passes fires
it: FIRECNT counts the firing while it stays within LOOPLIM; an edge at an input that the mask leaves out changes no register.
The 1s of a write of EVR_FIRE fire in the next drive-base cycle, an active channel counting the firing, an inactive one setting
FIRELOST. A clear of LOOP ends it together with FIRECNT and keeps DROPCNT; a write that sets LOCK locks the channel, and a
locked channel's CFG is left unchanged; the loop window that ends while TICK does not run returns every FIRECNT to 0, with a
firing of its own cycle counted again; a DIO contact takes the level of its edge unless it is driven to the other one. Under its
clause's conditions on the state and the operands alone, exec answers a next state with the command's own effect:
evrProducerEdge, evrFire, evrLoopClear, evrChannelLock, evrWindowExpire, dioEdge. Where a clause rests on a choice or a reading
of the model and not on a rule, it is that of log entries 12 (DEDUCED), 131 (DEDUCED). (R305; R306; R309; R314; R316; R317;
R308; R311; R315) -/
def Obligations.EventChannels : Prop :=
  ∀ (s : State) (w : Writer) (ch : Fin 96) (inp : Fin 32) (r : Fin 2) (i : Fin 48) (v : Word) (k : Fin 16) (b : Bool),
    (s.evrAonOnly = false → s.evrFrozen = false → inp.val < evrInputs ch → (s.evrSet (F.EVR_CH_SRC_MASK ch)).testBit inp = true → s.evrFires ch = true → s.evrGate ch = true → s.evrFiredNow ch = false → s.evrHoldoff ch = false → s.fireCount ch < s.rd F.EVR_LOOPLIM_LIM →
      ∃ u, exec (.evrProducerEdge ch inp) s = .next u ∧ u.rd (F.EVR_CH_STAT_FIRECNT ch) = s.fireCount ch + 1 ∧ sameRegs (blocksIcu [0x803, 0x807, 0x80A, 0x810]) s u ∧ sameMem s u) ∧
    ((s.evrSet (F.EVR_CH_SRC_MASK ch)).testBit inp = false →
      ∃ u, exec (.evrProducerEdge ch inp) s = .next u ∧ u.regs = s.regs ∧ sameMem s u) ∧
    (s.operating = true → isCore w = true → s.evrSoft = 0 →
      ∃ u, exec (.evrFire w r (BitVec.ofNat 48 (2 ^ i.val))) s = .next u ∧ u.evrSoft = 2 ^ (48 * r.val + i.val) ∧ (u.nextCycle.evrFires (48 * r + i) = true → u.nextCycle.evrFiredNow (48 * r + i) = false → u.nextCycle.evrHoldoff (48 * r + i) = false → u.nextCycle.fireCount (48 * r + i) < u.nextCycle.rd F.EVR_LOOPLIM_LIM → u.nextCycle.softFire.rd (F.EVR_CH_STAT_FIRECNT (48 * r + i)) = u.nextCycle.fireCount (48 * r + i) + 1) ∧ (u.nextCycle.evrFires (48 * r + i) = false → u.nextCycle.softFire.bit F.EVR_STATUS_FIRELOST = true) ∧ u.regs = s.regs ∧ sameMem s u) ∧
    (s.operating = true → isCore w = true → s.bit (F.EVR_CH_STAT_LOOP ch) = true →
      ∃ u, exec (.evrLoopClear w ch) s = .next u ∧ u.bit (F.EVR_CH_STAT_LOOP ch) = false ∧ u.rd (F.EVR_CH_STAT_FIRECNT ch) = 0 ∧ u.rd (F.EVR_CH_STAT_DROPCNT ch) = s.rd (F.EVR_CH_STAT_DROPCNT ch) ∧ sameRegs (blocksIcu [0x80A, 0xC00]) s u ∧ sameMem s u) ∧
    (s.operating = true → isCore w = true → s.bit (F.EVR_CH_CFG_LOCK ch) = false →
      ∃ u, exec (.evrChannelLock w ch v) s = .next u ∧ u.bit (F.EVR_CH_CFG_LOCK ch) = true ∧ sameRegs (blocksIcu [0x80A, 0xC00]) s u ∧ sameMem s u) ∧
    (s.operating = true → isCore w = true → s.bit (F.EVR_CH_CFG_LOCK ch) = true →
      ∃ u, exec (.evrChannelLock w ch v) s = .next u ∧ u.reg (A.EVR_CH_CFG ch) = s.reg (A.EVR_CH_CFG ch) ∧ sameRegs (blocksIcu [0x80A, 0xC00]) s u ∧ sameMem s u) ∧
    (s.bit F.TICK_STATUS_RUNNING = false → s.evrFrozen = false →
      ∃ u, exec (.evrWindowExpire) s = .next u ∧ (∀ j : Fin 96, u.rd (F.EVR_CH_STAT_FIRECNT j) = (if s.bit (F.EVR_CH_STAT_FIRECNT j) && s.evrFiredNow j then 1 else 0)) ∧ sameRegs (blocks [0x80A]) s u ∧ sameMem s u) ∧
    ((s.mode = .off ∨ s.dioDriven k = none ∨ s.dioDriven k = some b) →
      ∃ u, exec (.dioEdge k b) s = .next u ∧ u.bitAt F.AON_DIOIN_IN k = b ∧ sameRegs (blocksIcu [0x803, 0x807, 0x80A, 0x810]) s u ∧ sameMem s u)

/-- Interrupt sources, claims and completions: At a controller that latches, an edge of an ungrouped source that exists sets its
pending bit, or counts in MRGCNT while it is pending; a source that does not exist changes no register; a 1 written to ICU_SWI
bit m makes S112 + m pending; a group whose time limit expires makes its group source pending and stops its timer, and its COUNT
holds the member edges of that same cycle alone. A read of ICU_CLAIM answers the word of the source it picks and makes that
source active and, but for an edge of the same cycle, no longer pending, or with nothing to claim answers 0 and sets SPURIOUS;
writing a valid word of an active source back ends its activity, and any other word sets EOI_ERR. Under its clause's conditions
on the state and the operands alone, exec answers a next state with the command's own effect: icuSourceEdge, icuSwi,
icuGroupTimeout, icuClaim, icuEoi. (R419; R424; R425; R428; R422; R423; R431) -/
def Obligations.InterruptsLatchAndAreClaimed : Prop :=
  ∀ (s : State) (w : Writer) (c : Fin 5) (src : Fin 512) (v : Word) (g : Fin 32),
    (sourceExists c src = true → s.icuLive c = true → s.bit (F.ICU_CFG_GEN c src) = false →
      ∃ u, exec (.icuSourceEdge c src) s = .next u ∧ u.bit (pendFld c src) = true ∧ u.rd (F.ICU_MRGCNT_N c) = (if s.bit (pendFld c src) then min 65535 (s.rd (F.ICU_MRGCNT_N c) + 1) else s.rd (F.ICU_MRGCNT_N c)) ∧ sameRegs icuReach s u ∧ sameMem s u) ∧
    (sourceExists c src = false →
      ∃ u, exec (.icuSourceEdge c src) s = .next u ∧ u.regs = s.regs ∧ sameMem s u) ∧
    (s.operating = true → ((isCore w = true ∧ c.val < 4) ∨ w = .coreS) →
      ∃ u, exec (.icuSwi w c v) s = .next u ∧ (∀ m : Fin 4, v.getLsbD m = true → u.bit (pendFld c (112 + m)) = true) ∧ sameRegs (blocksIcu [0xC00]) s u ∧ sameMem s u) ∧
    (s.bit (F.ICU_GRP_RUN c g) = true →
      ∃ u, exec (.icuGroupTimeout c g) s = .next u ∧ u.bit (pendFld c (480 + g)) = true ∧ u.rd (F.ICU_GRP_COUNT c g) = s.groupEdges c g % 2 ^ (F.ICU_GRP_COUNT c g).w ∧ (s.groupEdges c g = 0 → u.bit (F.ICU_GRP_RUN c g) = false) ∧ sameRegs icuReach s u ∧ sameMem s u) ∧
    (s.operating = true → isCore w = true → s.icuPick c (s.icuBy w c) = some src.val →
      ∃ u, exec (.icuClaim w c) s = .next u ∧ u.rdata = claimWord src (s.icuLevel c src) ∧ u.bit (pendFld c src) = s.edgeHere c src ∧ u.bit (actFld c src) = true ∧ sameRegs icuReach s u ∧ sameMem s u) ∧
    (s.operating = true → isCore w = true → s.icuPick c (s.icuBy w c) = none →
      ∃ u, exec (.icuClaim w c) s = .next u ∧ u.rdata = 0 ∧ u.bit (F.ICU_STAT_SPURIOUS c) = true ∧ sameRegs icuReach s u ∧ sameMem s u) ∧
    (s.operating = true → ((isCore w = true ∧ c.val < 4) ∨ w = .coreS) → v.getLsbD 12 = true → s.bit (actFld c (getBits v 0 9)) = true →
      ∃ u, exec (.icuEoi w c v) s = .next u ∧ u.bit (actFld c (getBits v 0 9)) = false ∧ sameRegs (blocksIcu [0xC00]) s u ∧ sameMem s u) ∧
    (s.operating = true → ((isCore w = true ∧ c.val < 4) ∨ w = .coreS) → (v.getLsbD 12 = false ∨ s.bit (actFld c (getBits v 0 9)) = false) →
      ∃ u, exec (.icuEoi w c v) s = .next u ∧ u.bit (F.ICU_STAT_EOI_ERR c) = true ∧ sameRegs (blocksIcu [0xC00]) s u ∧ sameMem s u)

/-- What a write of SYS_MODEREQ answers: A request by a user-mode core is refused with REASON 2; one that meets a pending
request sets REQ_LOST; one whose conditions do not all hold is refused with the first failing one as REASON; a permitted one
between STANDBY, ARMED and RUN pends with its TARGET; none of them changes the mode at once. Under its clause's conditions on
the state and the operands alone, exec answers a next state with the command's own effect: modeRequest. (R70; R71; R72; R74) -/
def Obligations.ModeRequests : Prop :=
  ∀ (s : State) (w : Writer) (n : Fin 4) (v : Word),
    s.operating = true →
    (∃ u, exec (.modeRequest (.coreA n false) v) s = .next u ∧ u.bit F.SYS_MODESTAT_REFUSED = true ∧ u.rd F.SYS_MODESTAT_REASON = 2 ∧ u.bit F.SYS_MODESTAT_PEND = s.bit F.SYS_MODESTAT_PEND ∧ u.mode = s.mode ∧ sameRegs (blocksIcu [0x800]) s u ∧ sameMem s u) ∧
    (isCore w = true → isSup w = true → s.bit F.SYS_MODESTAT_PEND = true →
      ∃ u, exec (.modeRequest w v) s = .next u ∧ u.bit F.SYS_MODESTAT_REQ_LOST = true ∧ u.mode = s.mode ∧ u.rd F.SYS_MODEREQ_TARGET = s.rd F.SYS_MODEREQ_TARGET ∧ sameRegs (blocksIcu [0x800]) s u ∧ sameMem s u) ∧
    (isCore w = true → isSup w = true → s.bit F.SYS_MODESTAT_PEND = false → s.modeReason (getBits v 0 3) ≠ 0 →
      ∃ u, exec (.modeRequest w v) s = .next u ∧ u.bit F.SYS_MODESTAT_REFUSED = true ∧ u.rd F.SYS_MODESTAT_REASON = s.modeReason (getBits v 0 3) ∧ u.bit F.SYS_MODESTAT_PEND = false ∧ u.mode = s.mode ∧ sameRegs (blocksIcu [0x800]) s u ∧ sameMem s u) ∧
    (isCore w = true → isSup w = true → s.bit F.SYS_MODESTAT_PEND = false → s.modeReason (getBits v 0 3) = 0 → 3 ≤ getBits v 0 3 → getBits v 0 3 ≤ 5 →
      ∃ u, exec (.modeRequest w v) s = .next u ∧ u.bit F.SYS_MODESTAT_PEND = true ∧ u.rd F.SYS_MODEREQ_TARGET = getBits v 0 3 ∧ u.mode = s.mode ∧ sameRegs (blocksIcu [0x800]) s u ∧ sameMem s u)

/-- A request for STANDBY from RUN is refused: In RUN a permitted request for STANDBY, with none pending, is refused with REASON
1 and the mode stays RUN, while a request for ARMED pends. Under its clause's conditions on the state and the operands alone,
exec answers a next state with the command's own effect: modeRequest. (R78) -/
def Obligations.RunLeavesThroughArmed : Prop :=
  ∀ (s : State) (w : Writer) (v : Word),
    s.operating = true → isCore w = true → isSup w = true → s.mode = .run → s.bit F.SYS_MODESTAT_PEND = false →
    (getBits v 0 3 = 3 →
      ∃ u, exec (.modeRequest w v) s = .next u ∧ u.bit F.SYS_MODESTAT_REFUSED = true ∧ u.rd F.SYS_MODESTAT_REASON = 1 ∧ u.mode = .run ∧ u.bit F.SYS_MODESTAT_PEND = false ∧ sameRegs (blocksIcu [0x800]) s u ∧ sameMem s u) ∧
    (getBits v 0 3 = 4 →
      ∃ u, exec (.modeRequest w v) s = .next u ∧ u.bit F.SYS_MODESTAT_PEND = true ∧ u.rd F.SYS_MODEREQ_TARGET = 4 ∧ sameRegs (blocksIcu [0x800]) s u ∧ sameMem s u)

/-- The unlock window of SYS: The key written by supervisor software opens that writer's window and clears LOCK_ERR, any other
value opens none; a window that expires is closed; outside it a write of SYS_RSTREQ or SYS_CORERST changes nothing but LOCK_ERR,
which sets. Under its clause's conditions on the state and the operands alone, exec answers a next state with the command's own
effect: sysKeyWrite, unlockWindowExpire. (R99; R377) -/
def Obligations.UnlockWindows : Prop :=
  ∀ (s : State) (w : Writer) (v : Word) (key : Nat),
    (s.operating = true → isSup w = true → isCore w = true → getBits v 0 16 = 0x7A3C →
      ∃ u, exec (.sysKeyWrite w v) s = .next u ∧ u.windowOpen (writerKey w) = true ∧ u.bit F.SYS_CORERST_LOCK_ERR = false ∧ sameRegs (blocks [0x800]) s u ∧ sameMem s u) ∧
    (s.operating = true → isCore w = true → getBits v 0 16 ≠ 0x7A3C →
      ∃ u, exec (.sysKeyWrite w v) s = .next u ∧ u.windows = s.windows ∧ sameRegs (blocks [0x800]) s u ∧ sameMem s u) ∧
    (∃ u, exec (.unlockWindowExpire key) s = .next u ∧ u.windowOpen key = false ∧ u.due (.unlockWindowExpire key) = false ∧ u.regs = s.regs ∧ sameMem s u) ∧
    (s.operating = true → isCore w = true → s.windowOpen (writerKey w) = false →
      ∃ u, exec (.sysRstreqWrite w v) s = .next u ∧ u.mode = s.mode ∧ u.bit F.SYS_CORERST_LOCK_ERR = true ∧ sameRegs (blocksIcu [0x800]) s u ∧ sameMem s u) ∧
    (s.operating = true → isCore w = true → s.windowOpen (writerKey w) = false →
      ∃ u, exec (.sysCorerstWrite w v) s = .next u ∧ u.rd F.SYS_CORERST_HOLD = s.rd F.SYS_CORERST_HOLD ∧ u.bit F.SYS_CORERST_LOCK_ERR = true ∧ sameRegs (blocksIcu [0x800]) s u ∧ sameMem s u)

/-- Core resets and their ends: In the writer's window a 1 newly written to a HOLD bit holds that core in reset with cause REQ,
and a 0 written to the bit of a held core whose microsecond is over releases it at its reset vector; a window watchdog that
expires, or is serviced too early, holds its released core with cause WDT; a service in time restarts it; a core reset that
ends, without HOLD, starts the core at its reset vector and shows it in SYS_READY. Under its clause's conditions on the state
and the operands alone, exec answers a next state with the command's own effect: sysCorerstWrite, cwdExpire, cwdService,
coreResetRelease. Where a clause rests on a choice or a reading of the model and not on a rule, it is that of log entries 32
(DEDUCED), 33 (DEDUCED). (R97; R379; R428; R551) -/
def Obligations.CoreResets : Prop :=
  ∀ (s : State) (w : Writer) (c : Fin 4) (v : Word),
    (s.operating = true → isCore w = true → isSup w = true → s.windowOpen (writerKey w) = true → v.getLsbD c = true → s.bitAt F.SYS_CORERST_HOLD c = false →
      ∃ u, exec (.sysCorerstWrite w v) s = .next u ∧ (u.core c).run = .held ∧ u.bitAt F.SYS_CORERST_HOLD c = true ∧ (u.reg A.SYS_CORECAUSE).getLsbD (4 * c + 1) = true ∧ sameRegs (blocksIcu [0x800, 0x802, 0x803, 0x807, 0x80A, 0x810, 0x811]) s u ∧ sameMem s u) ∧
    (s.operating = true → isCore w = true → isSup w = true → s.windowOpen (writerKey w) = true → v.getLsbD c = false → s.bitAt F.SYS_CORERST_HOLD c = true → s.due (.coreResetRelease c) = false → (s.core c).run = .held → (s.core c).released = true →
      ∃ u, exec (.sysCorerstWrite w v) s = .next u ∧ (u.core c).run = .running ∧ (u.core c).pc = (s.core c).pc ∧ u.bitAt F.SYS_CORERST_HOLD c = false ∧ u.bitAt F.SYS_READY_APP c = true ∧ sameRegs (blocksIcu [0x800, 0x802, 0x803, 0x807, 0x80A, 0x810, 0x811]) s u ∧ sameMem s u) ∧
    (s.due (.cwdExpire c) = true → s.cwdFrozen c = false → (s.core c).released = true →
      ∃ u, exec (.cwdExpire c) s = .next u ∧ (u.core c).run = .held ∧ (u.reg A.SYS_CORECAUSE).getLsbD (4 * c) = true ∧ sameRegs (blocksIcu [0x800, 0x802, 0x803, 0x807, 0x80A, 0x810, 0x811]) s u ∧ sameMem s u) ∧
    (s.operating = true → w = .coreA c true → getBits v 0 16 = 0xC3A5 → s.due (.cwdExpire c) = true → (s.core c).released = true → 16 * (Tab.get 0 s.cwdLen c - s.remaining (.cwdExpire c)) < s.rd (F.SAF_CWD_WIN c) * Tab.get 0 s.cwdLen c →
      ∃ u, exec (.cwdService w c v) s = .next u ∧ (u.core c).run = .held ∧ (u.reg A.SYS_CORECAUSE).getLsbD (4 * c) = true ∧ sameRegs (blocksIcu [0x800, 0x802, 0x803, 0x807, 0x80A, 0x810, 0x811]) s u ∧ sameMem s u) ∧
    (s.operating = true → w = .coreA c true → getBits v 0 16 = 0xC3A5 → s.due (.cwdExpire c) = true → s.bit (F.SAF_CWD_EN c) = true → s.rd (F.SAF_CWD_WIN c) = 0 →
      ∃ u, exec (.cwdService w c v) s = .next u ∧ u.dueIn (75000 * s.rd (F.SAF_CWD_TMO c)) (.cwdExpire c) = true ∧ (u.core c).run = (s.core c).run ∧ sameRegs (blocksIcu [0x800, 0x802, 0x803, 0x807, 0x80A, 0x810, 0x811]) s u ∧ sameMem s u) ∧
    (s.coreMayGo c = true →
      ∃ u, exec (.coreResetRelease c) s = .next u ∧ (u.core c).run = .running ∧ (u.core c).pc = (s.core c).pc ∧ u.bitAt F.SYS_READY_APP c = true ∧ sameRegs (blocksIcu [0x800, 0x803, 0x807, 0x80A, 0x810]) s u ∧ sameMem s u)

/-- Module resets start BOOT with their cause and keep flash: A reset asked for by SYS_RSTREQ, by the module watchdog or by a
lockstep mismatch is taken at once where no flash operation runs, a deferred one when its operation has ended or its 450 ms have
passed, a brown-out always: the mode is BOOT, SYS_RSTCAUSE shows the cause, and where no flash operation runs every byte of
flash keeps its value. Under its clause's conditions on the state and the operands alone, exec answers a next state with the
command's own effect: sysRstreqWrite, mwdtExpire, lockstepMismatch, moduleReset, resetHardcut, brownout. Where a clause rests on
a choice or a reading of the model and not on a rule, it is that of log entries 2 (DESIGN CHOICE), 3 (DESIGN CHOICE), 30
(DEDUCED), 67 (DEDUCED), 133 (DEDUCED), 151 (DESIGN CHOICE). (R95; R96; R379; R435; R549; R535) -/
def Obligations.ModuleResets : Prop :=
  ∀ (s : State) (w : Writer) (v : Word),
    (s.operating = true → isCore w = true → isSup w = true → s.windowOpen (writerKey w) = true → getBits v 0 8 = 0x5A → s.resetFree = true →
      ∃ u, exec (.sysRstreqWrite w v) s = .next u ∧ u.mode = .boot ∧ (u.reg A.SYS_RSTCAUSE).getLsbD (if w = .coreS then 4 else 5) = true ∧ (∀ a : Nat, 0x04000000 ≤ a → a < 0x05000000 → u.byte a = s.byte a) ∧ sameRegs (blocksIcu [0x800, 0x803, 0x807, 0x809, 0x80A, 0x80B, 0x80E, 0x810, 0x811, 0x812, 0x813, 0xC00]) s u) ∧
    (s.due .mwdtExpire = true → s.mwdtFrozen = false → s.resetFree = true →
      ∃ u, exec (.mwdtExpire) s = .next u ∧ u.mode = .boot ∧ (u.reg A.SYS_RSTCAUSE).getLsbD 2 = true ∧ (∀ a : Nat, 0x04000000 ≤ a → a < 0x05000000 → u.byte a = s.byte a)) ∧
    (s.mode ≠ .off → s.mode ≠ .dormant → (s.core 4).run ≠ .held → s.bistRunning = false → s.resetFree = true →
      ∃ u, exec (.lockstepMismatch) s = .next u ∧ u.mode = .boot ∧ (u.reg A.SYS_RSTCAUSE).getLsbD 3 = true ∧ (∀ a : Nat, 0x04000000 ≤ a → a < 0x05000000 → u.byte a = s.byte a)) ∧
    (s.bit F.SYS_MODESTAT_RST_PENDING = true → s.flcOp = .idle →
      ∃ u, exec (.moduleReset) s = .next u ∧ u.mode = .boot ∧ (u.reg A.SYS_RSTCAUSE).getLsbD 9 = true ∧ (∀ a : Nat, 0x04000000 ≤ a → a < 0x05000000 → u.byte a = s.byte a)) ∧
    (s.bit F.SYS_MODESTAT_RST_PENDING = true →
      ∃ u, exec (.resetHardcut) s = .next u ∧ u.mode = .boot ∧ (u.reg A.SYS_RSTCAUSE).getLsbD 10 = true) ∧
    (s.mainsOn = true → s.mode ≠ .off →
      ∃ u, exec (.brownout) s = .next u ∧ u.mode = .boot ∧ u.reg A.SYS_RSTCAUSE = 2)

/-- Mains, the power-on reset and OFF: Mains applied in OFF brings the power-on reset 18 ms later; the power-on reset starts
BOOT with POR as the only cause and the clocks locking 3 ms later; a housekeeping supply that fails after mains is lost leaves
the module in OFF. The 18 ms and 3 ms are the rows of R81. Under its clause's conditions on the state and the operands alone,
exec answers a next state with the command's own effect: mainsApplied, bootPorRelease, mainsLostOff. Where a clause rests on a
choice or a reading of the model and not on a rule, it is that of log entries 6 (DEDUCED), 13 (DESIGN CHOICE), 36 (DEDUCED), 127
(DESIGN CHOICE). (R74; R76; R81; R95) -/
def Obligations.PowerComesAndGoes : Prop :=
  ∀ (s : State),
    (s.mainsOn = false → s.mode = .off → s.offHold = false →
      ∃ u, exec (.mainsApplied) s = .next u ∧ u.mainsOn = true ∧ u.dueIn (ms 18) .bootPorRelease = true ∧ u.regs = s.regs ∧ sameMem s u) ∧
    (s.mode = .off → s.mainsOn = true → s.offHold = false →
      ∃ u, exec (.bootPorRelease) s = .next u ∧ u.mode = .boot ∧ u.reg A.SYS_RSTCAUSE = 1 ∧ u.bootStage = 1 ∧ u.dueIn (ms 3) .bootClockLock = true) ∧
    (s.mainsOn = true →
      ∃ u, exec (.mainsLostOff) s = .next u ∧ u.mode = .off ∧ u.mainsOn = false ∧ u.alarms = [])

/-- The rows of BOOT: Each row of R81 from the clocks to the start of TICK, done when the rows before it are done, leaves its
result and the next row due: clock lock, journal scan, the Zenou-S image (selected and started, or the hold of R83), the PFC
start with the measured bulk voltage, the configuration with SYS_READY.CFG, and TICK with SYS_READY.TICK and system time from 0.
The application image, the zeroing of DRAM, the start and the end of the offset calibration and the release of the cores follow
in the order of R81: DRAM reads 0 and SYS_READY.DRAM sets, the calibration lasts exactly 120 ms with CALBUSY set and then sets
SYS_READY.ADC and CALDONE, and the release leaves the mode STANDBY and starts every Zenou-A core that SYS_CORERST does not hold
and no reset of its own still runs on, unless no application image is valid. Under its clause's conditions on the state and the
operands alone, exec answers a next state with the command's own effect: bootClockLock, bootJournalScan, bootSafetyImage,
bootPfcStart, bootConfigRead, bootTickStart, bootAppImage, bootDramInit, adcCalibrationStart, adcCalibrationDone,
bootCoreRelease. Where a clause rests on a choice or a reading of the model and not on a rule, it is that of log entries 13
(DESIGN CHOICE), 24 (DEDUCED), 25 (DEDUCED), 26 (DEDUCED), 28 (DESIGN CHOICE), 42 (DEDUCED), 46 (DESIGN CHOICE), 47 (DEDUCED),
64 (DEDUCED), 72 (DEDUCED), 79 (DEDUCED), 128 (DESIGN CHOICE). (R81; R83; R84; R92; R105; R469; R564; R74; R97; R172; R435;
R566) -/
def Obligations.BootRows : Prop :=
  ∀ (s : State) (bulk : Word) (tb : Word) (codes : List Nat) (a : Nat),
    (s.bootAtRow 1 = true →
      ∃ u, exec (.bootClockLock) s = .next u ∧ u.bootStage = 2 ∧ u.dueIn (ms 2) .bootJournalScan = true ∧ u.regs = s.regs ∧ sameMem s u) ∧
    (s.bootAtRow 2 = true →
      ∃ u, exec (.bootJournalScan) s = .next u ∧ u.bootStage = 3 ∧ u.dueIn (ms 3) .bootSafetyImage = true ∧ sameRegs (blocks [0x800, 0x80E, 0x813, 0xC00]) s u ∧ sameMem s u) ∧
    (s.bootAtRow 3 = true →
      ∃ u, exec (.bootSafetyImage) s = .next u ∧ (u.bootStage = 4 ∨ u.bootStage = 5) ∧ (u.bit F.SYS_BOOTSTAT_HOLD = true ∨ (u.core 4).run = .running)) ∧
    (s.bootAtRow 4 = true → s.auxOn = false →
      ∃ u, exec (.bootPfcStart bulk tb) s = .next u ∧ u.auxOn = true ∧ u.reg A.PWR_VBULK = bulk ∧ u.bit F.PWR_STATUS_PFCRUN = true ∧ (s.bit F.SYS_BOOTSTAT_HOLD = false → u.bootStage = 5 ∧ u.dueIn (ms 7) .bootConfigRead = true) ∧ sameRegs (blocksIcu [0x800, 0x803, 0x807, 0x809, 0x80A, 0x80B, 0x810, 0x811, 0x812, 0xC00]) s u ∧ sameBytes s.recordPlace s u) ∧
    (s.bootAtRow 5 = true →
      ∃ u, exec (.bootConfigRead) s = .next u ∧ u.bootStage = 6 ∧ u.bit F.SYS_READY_CFG = true ∧ u.dueIn (ms 1) .bootTickStart = true) ∧
    (s.bootAtRow 6 = true →
      ∃ u, exec (.bootTickStart) s = .next u ∧ u.bootStage = 7 ∧ u.bit F.SYS_READY_TICK = true ∧ u.bit F.TICK_STATUS_RUNNING = true ∧ u.reg A.SYSTIME_NS = 0 ∧ u.epoch = 0 ∧ u.dueIn (ms 4) .bootAppImage = true ∧ sameRegs (blocksIcu [0x800, 0x802, 0x803, 0x807, 0x80A, 0x810]) s u ∧ sameMem s u) ∧
    (s.bootAtRow 7 = true →
      ∃ u, exec (.bootAppImage) s = .next u ∧ u.bootStage = 8 ∧ u.dueIn (ms 31) .bootDramInit = true) ∧
    (s.bootAtRow 8 = true → 0x20000000 ≤ a → a < 0x40000000 → s.tornAt a = none →
      ∃ u, exec (.bootDramInit) s = .next u ∧ u.byte a = 0 ∧ u.bit F.SYS_READY_DRAM = true ∧ u.bootStage = 9 ∧ u.dueIn (ms 140) .adcCalibrationStart = true ∧ sameBytes inDram s u ∧ sameRegs (blocksIcu [0x800, 0x803, 0x807, 0x80A, 0x810]) s u) ∧
    (s.bootAtRow 9 = true →
      ∃ u, exec (.adcCalibrationStart) s = .next u ∧ u.bootStage = 11 ∧ u.calAt = s.now ∧ u.bit F.ADC_STATUS_CALBUSY = true ∧ (s.calGood = false → u.bit F.ADC_STATUS_TRIM_MISSING = true) ∧ sameRegs (blocks [0x805]) s u ∧ sameMem s u) ∧
    (s.bootAtRow 11 = true → s.calAt + ms 120 ≤ s.now →
      ∃ u, exec (.adcCalibrationDone codes) s = .next u ∧ u.bootStage = 12 ∧ u.bit F.SYS_READY_ADC = true ∧ u.bit F.ADC_STATUS_CALDONE = true ∧ u.bit F.ADC_STATUS_CALBUSY = false ∧ (s.bit F.SYS_BOOTSTAT_HOLD = false → u.dueIn (ms 5) .bootCoreRelease = true) ∧ sameRegs (blocksIcu [0x800, 0x803, 0x805, 0x807, 0x80A, 0x810]) s u ∧ sameMem s u) ∧
    (s.bootAtRow 11 = true → s.now < s.calAt + ms 120 →
      ∃ u, exec (.adcCalibrationDone codes) s = .next u ∧ u.bootStage = 11 ∧ u.dueIn (s.calAt + ms 120 - s.now) (.adcCalibrationDone codes) = true ∧ sameRegs (blocksIcu [0x800, 0x803, 0x805, 0x807, 0x80A, 0x810]) s u ∧ sameMem s u) ∧
    (s.bootAtRow 12 = true → s.bit F.SYS_BOOTSTAT_HOLD = false →
      ∃ u, exec (.bootCoreRelease) s = .next u ∧ u.mode = .standby ∧ u.bootStage = 13 ∧ (s.bit F.SYS_BOOTSTAT_APP_IMG_BAD = false → ∀ c : Fin 4, s.bitAt F.SYS_CORERST_HOLD c = false → s.due (.coreResetRelease c) = false → (u.core c).run = .running ∧ (u.core c).pc = BitVec.ofNat 48 (isramBase c)) ∧ sameRegs (blocksIcu [0x800, 0x803, 0x807, 0x80A, 0x80B, 0x810, 0x811, 0x812, 0xC00]) s u ∧ sameMem s u)

/-- Entering DORMANT, and waking from it: When the entry completes, with no core waiting for a far transaction, the mode is
DORMANT, the pads are held and the save image is marked valid; a wake source then active begins the exit with its sources in
AON_WAKESTAT; a valid image is restored and consumed, a bad one gives a WAKE_FAIL reset; the completed wake leaves STANDBY with
TICK running; and 0xA5 written to AON_PADREL releases the pads. Under its clause's conditions on the state and the operands
alone, exec answers a next state with the command's own effect: dormantEntryComplete, wake, wakeRestore, wakeComplete,
padRelease. Where a clause rests on a choice or a reading of the model and not on a rule, it is that of log entries 13 (DESIGN
CHOICE), 26 (DEDUCED), 35 (DEDUCED), 36 (DEDUCED), 37 (DEDUCED), 42 (DEDUCED), 64 (DEDUCED), 152 (DESIGN CHOICE). (R579; R581;
R585; R587; R588; R590) -/
def Obligations.DormantAndWake : Prop :=
  ∀ (s : State) (t : Nat) (w : Writer) (v : Word),
    (s.dormAt = some t → (∀ c : Fin 5, (s.core c).run ≠ .stalled) →
      ∃ u, exec (.dormantEntryComplete) s = .next u ∧ u.mode = .dormant ∧ u.bit F.AON_PADREL_HELD = true ∧ u.bit F.AON_SAVESTAT_VALID = true) ∧
    (s.mode = .dormant → s.wakeAt = none → s.wakeSources ≠ 0 → s.fromShutdown = false →
      ∃ u, exec (.wake) s = .next u ∧ u.wakeAt = some s.now ∧ u.reg A.AON_WAKESTAT = s.wakeSources ∧ u.dueIn (us 2090) .wakeRestore = true) ∧
    (s.wakeAt = some t →
      ∃ u, exec (.wakeRestore) s = .next u ∧ (if s.bit F.AON_SAVESTAT_VALID && s.imageGood then u.bit F.AON_SAVESTAT_RESTORED = true ∧ u.bit F.AON_SAVESTAT_VALID = false ∧ u.dueIn (us 310) .wakeComplete = true else u.mode = .boot ∧ u.reg A.SYS_RSTCAUSE = 256)) ∧
    (s.wakeAt = some t →
      ∃ u, exec (.wakeComplete) s = .next u ∧ u.mode = .standby ∧ u.wakeAt = none ∧ u.dormAt = none ∧ u.bit F.TICK_STATUS_RUNNING = true ∧ sameRegs (blocksIcu [0x800, 0x802, 0x803, 0x807, 0x809, 0x80A, 0x80B, 0x810, 0x811, 0x812, 0xC00]) s u ∧ sameMem s u) ∧
    (s.operating = true → isCore w = true → s.bit F.AON_PADREL_HELD = true →
      ∃ u, exec (.padRelease w v) s = .next u ∧ u.bit F.AON_PADREL_HELD = decide (getBits v 0 8 ≠ 0xA5) ∧ sameRegs (blocks [0x810]) s u ∧ sameMem s u)

/-- Entry to DORMANT clears the wake status and the WAKE latch: The WAKE latch is clear once a request for DORMANT is accepted,
and AON_WAKESTAT is clear once DORMANT is entered. Under its clause's conditions on the state and the operands alone, exec
answers a next state with the command's own effect: modeRequest, dormantEntryComplete. (R583) -/
def Obligations.DormantEntryClearsTheWakeRecords : Prop :=
  ∀ (s : State) (w : Writer) (v : Word) (t : Nat),
    (s.operating = true → isCore w = true → isSup w = true → s.bit F.SYS_MODESTAT_PEND = false → s.mode = .standby → getBits v 0 3 = 1 → s.modeReason 1 = 0 →
      ∃ u, exec (.modeRequest w v) s = .next u ∧ u.wakeLatch = none ∧ u.dormAt = some s.now ∧ sameRegs (blocksIcu [0x800, 0x802, 0x803, 0x804, 0x807, 0x809, 0x80A, 0x80B, 0x80F, 0x810, 0x811, 0x812, 0xC00]) s u) ∧
    (s.dormAt = some t → (∀ c : Fin 5, (s.core c).run ≠ .stalled) →
      ∃ u, exec (.dormantEntryComplete) s = .next u ∧ u.reg A.AON_WAKESTAT = 0 ∧ u.mode = .dormant)

/-- A DORMANT that was reached from SHUTDOWN wakes into BOOT: SHUTDOWN that ends in DORMANT leaves no valid image; a wake from
it runs BOOT from the power-on reset on, and that BOOT shows POR in SYS_RSTCAUSE. Under its clause's conditions on the state and
the operands alone, exec answers a next state with the command's own effect: lbistRecordWritten, wake, bootPorRelease. (R589) -/
def Obligations.DormantAfterShutdownRunsBoot : Prop :=
  ∀ (s : State),
    (s.mode = .shutdown → s.bistRunning = true → s.fromShutdown = true →
      ∃ u, exec (.lbistRecordWritten) s = .next u ∧ u.mode = .dormant ∧ u.bit F.AON_SAVESTAT_VALID = false ∧ u.fromShutdown = true) ∧
    (s.mode = .dormant → s.wakeAt = none → s.wakeSources ≠ 0 → s.fromShutdown = true →
      ∃ u, exec (.wake) s = .next u ∧ u.mode = .off ∧ u.offHold = false ∧ u.mainsOn = s.mainsOn ∧ u.due .bootPorRelease = true) ∧
    (s.mode = .off → s.mainsOn = true → s.offHold = false →
      ∃ u, exec (.bootPorRelease) s = .next u ∧ u.mode = .boot ∧ u.rd F.SYS_RSTCAUSE_POR = 1)

/-- The logic BIST of SHUTDOWN: In SHUTDOWN the BIST starts once and stops every core's and block's work; its end latches
APP_PASS and SAF_PASS and leaves the record due; once the record is written the module is in OFF, which only a removal of mains
leaves, or in DORMANT as SYS_MODEREQ.END chose. Under its clause's conditions on the state and the operands alone, exec answers
a next state with the command's own effect: lbistStart, lbistDone, lbistRecordWritten. Where a clause rests on a choice or a
reading of the model and not on a rule, it is that of log entries 13 (DESIGN CHOICE), 26 (DEDUCED), 31 (DEDUCED), 35 (DEDUCED),
36 (DEDUCED), 40 (DESIGN CHOICE), 64 (DEDUCED). (R75; R76; R591; R592) -/
def Obligations.ShutdownAndLogicBist : Prop :=
  ∀ (s : State) (app : Bool) (saf : Bool),
    s.mode = .shutdown →
    (s.bistRunning = false →
      ∃ u, exec (.lbistStart) s = .next u ∧ u.bistRunning = true ∧ u.fromShutdown = s.bit F.SYS_MODEREQ_END ∧ u.bit F.TICK_STATUS_RUNNING = false ∧ sameRegs (blocksIcu [0x800, 0x802, 0x803, 0x804, 0x807, 0x809, 0x80A, 0x80B, 0x80D, 0x810, 0xC00]) s u ∧ sameBytes s.recordPlace s u) ∧
    (s.bistRunning = true → s.due .lbistRecordWritten = false →
      ∃ u, exec (.lbistDone app saf) s = .next u ∧ u.lbist = (if app then 1 else 0) + (if saf then 2 else 0) ∧ u.due .lbistRecordWritten = true ∧ u.mode = .shutdown ∧ sameRegs (blocks [0x800, 0x813]) s u ∧ sameMem s u) ∧
    (s.bistRunning = true → s.fromShutdown = false →
      ∃ u, exec (.lbistRecordWritten) s = .next u ∧ u.mode = .off ∧ u.offHold = true) ∧
    (s.bistRunning = true → s.fromShutdown = true →
      ∃ u, exec (.lbistRecordWritten) s = .next u ∧ u.mode = .dormant ∧ u.bistRunning = false)

/-- The AON timer expires: When the count of the enabled AON timer reaches 0, EXP sets, EN clears and the count is 0. Under its
clause's conditions on the state and the operands alone, exec answers a next state with the command's own effect:
aonTimerExpire. Where a clause rests on a choice or a reading of the model and not on a rule, it is that of log entry 38
(DEDUCED). (R586) -/
def Obligations.AonTimer : Prop :=
  ∀ (s : State),
    (s.bit F.AON_TMR_EN = true → s.rd F.AON_TMR_CNT ≤ 1 →
      ∃ u, exec (.aonTimerExpire) s = .next u ∧ u.bit F.AON_TMR_EXP = true ∧ u.bit F.AON_TMR_EN = false ∧ u.rd F.AON_TMR_CNT = 0 ∧ sameRegs (blocksIcu [0x803, 0x807, 0x80A, 0x810]) s u ∧ sameMem s u)

/-- STO asserts on its inputs, on a discrepancy and at the end of SS1, and releases only when every condition holds: A channel
whose input asserts is not released and STO is asserted; a channel whose input is released shows it; the chain releases only
while both channels are released, HOLD is 0 and no fault or other cause is present; channels that differ beyond SAF_DISC.TIME
set DISC with STO asserted; when SS1 expires STO is asserted and SS1 is over. Under its clause's conditions on the state and the
operands alone, exec answers a next state with the command's own effect: stoInputAssert, stoInputRelease, stoChainRelease,
stoDiscrepancy, ss1Expire. Where a clause rests on a choice or a reading of the model and not on a rule, it is that of log
entries 3 (DESIGN CHOICE), 26 (DEDUCED), 64 (DEDUCED), 67 (DEDUCED), 133 (DEDUCED), 134 (DEDUCED). (R55; R538; R539; R540; R542)
-/
def Obligations.StoChain : Prop :=
  ∀ (s : State) (b : Bool),
    (s.stoSeen = true →
      ∃ u, exec (.stoInputAssert b) s = .next u ∧ u.bit (stoFld b) = false ∧ u.bit F.SAF_STATUS_STO = true ∧ sameRegs (blocksIcu [0x800, 0x803, 0x807, 0x809, 0x80A, 0x80B, 0x810, 0x811, 0x812, 0xC00]) s u ∧ sameBytes s.recordPlace s u) ∧
    (s.stoSeen = true →
      ∃ u, exec (.stoInputRelease b) s = .next u ∧ u.bit (stoFld b) = true ∧ sameRegs (blocksIcu [0x803, 0x807, 0x80A, 0x80B, 0x810, 0xC00]) s u ∧ sameMem s u) ∧
    (s.bit F.SAF_STATUS_STO = true → s.stoMayRelease = true → s.stoDemand = false →
      ∃ u, exec (.stoChainRelease) s = .next u ∧ u.bit F.SAF_STATUS_STO = false ∧ sameRegs (blocksIcu [0x803, 0x807, 0x80A, 0x80B, 0x810, 0xC00]) s u ∧ sameMem s u) ∧
    (s.bit F.SAF_STATUS_STO = true → s.stoMayRelease = false →
      ∃ u, exec (.stoChainRelease) s = .next u ∧ u.bit F.SAF_STATUS_STO = true ∧ sameRegs (blocksIcu [0x803, 0x807, 0x80A, 0x80B, 0x810, 0xC00]) s u ∧ sameMem s u) ∧
    (s.stoSeen = true → s.bit F.SAF_STATUS_STOA_REL ≠ s.bit F.SAF_STATUS_STOB_REL →
      ∃ u, exec (.stoDiscrepancy) s = .next u ∧ u.bit F.SAF_FAULT_DISC = true ∧ u.bit F.SAF_STATUS_STO = true ∧ sameRegs (blocksIcu [0x800, 0x803, 0x807, 0x809, 0x80A, 0x80B, 0x810, 0x811, 0x812, 0xC00]) s u ∧ sameBytes s.recordPlace s u) ∧
    (s.bit F.SAF_STATUS_SS1 = true →
      ∃ u, exec (.ss1Expire) s = .next u ∧ u.bit F.SAF_STATUS_STO = true ∧ u.bit F.SAF_STATUS_SS1 = false ∧ sameRegs (blocksIcu [0x803, 0x807, 0x80A, 0x80B, 0x810, 0xC00]) s u ∧ sameMem s u)

/-- What Zenou-S, and nobody else, writes in the safety region: DECLARE raises the declared fault and, from STANDBY, ARMED and
RUN, SAFE_STOP with cause code 1; HOLD 1 asserts STO; HOLD 0 ends the hold outside SAFE_STOP and is refused there; a fault bit
written 1 clears, DISC only while both channels are asserted; the same write by a Zenou-A core changes no safety register but
SAF_VIOL, which names the core and the address. Under its clause's conditions on the state and the operands alone, exec answers
a next state with the command's own effect: safDeclare, safHoldWrite, safFaultClear. Where a clause rests on a choice or a
reading of the model and not on a rule, it is that of log entries 8 (DEDUCED), 137 (DEDUCED). (R32; R34; R537; R538; R539; R540;
R541) -/
def Obligations.SafetyWrites : Prop :=
  ∀ (s : State) (v : Word) (n : Fin 4),
    s.operating = true →
    (∃ u, exec (.safDeclare .coreS) s = .next u ∧ u.bit F.SAF_FAULT_DECL = true ∧ (s.mode = .standby ∨ s.mode = .armed ∨ s.mode = .run → u.mode = .safeStop ∧ u.rd F.SYS_MODESTAT_SS_CAUSE = 1) ∧ sameRegs (blocksIcu [0x800, 0x803, 0x807, 0x809, 0x80A, 0x80B, 0x810, 0x811, 0x812, 0xC00]) s u ∧ sameBytes s.recordPlace s u) ∧
    (∃ u, exec (.safHoldWrite .coreS true) s = .next u ∧ u.bit F.SAF_STOCTL_HOLD = true ∧ u.bit F.SAF_STATUS_STO = true ∧ sameRegs (blocksIcu [0x800, 0x803, 0x807, 0x809, 0x80A, 0x80B, 0x810, 0x811, 0x812, 0xC00]) s u ∧ sameBytes s.recordPlace s u) ∧
    (s.mode ≠ .safeStop →
      ∃ u, exec (.safHoldWrite .coreS false) s = .next u ∧ u.bit F.SAF_STOCTL_HOLD = false ∧ sameRegs (blocksIcu [0x800, 0x803, 0x807, 0x809, 0x80A, 0x80B, 0x810, 0x811, 0x812, 0xC00]) s u ∧ sameBytes s.recordPlace s u) ∧
    (s.mode = .safeStop →
      ∃ u, exec (.safHoldWrite .coreS false) s = .next u ∧ u.bit F.SAF_STOCTL_HOLD = s.bit F.SAF_STOCTL_HOLD ∧ u.mode = .safeStop ∧ sameRegs (blocksIcu [0x800, 0x803, 0x807, 0x809, 0x80A, 0x80B, 0x810, 0x811, 0x812, 0xC00]) s u ∧ sameBytes s.recordPlace s u) ∧
    (∃ u, exec (.safFaultClear .coreS v) s = .next u ∧ u.bit F.SAF_FAULT_DECL = (s.bit F.SAF_FAULT_DECL && !v.getLsbD 5) ∧ u.bit F.SAF_FAULT_DISC = (s.bit F.SAF_FAULT_DISC && !(v.getLsbD 0 && !s.bit F.SAF_STATUS_STOA_REL && !s.bit F.SAF_STATUS_STOB_REL)) ∧ sameRegs (blocksIcu [0x803, 0x807, 0x80A, 0x80B, 0x810, 0xC00]) s u ∧ sameMem s u) ∧
    (∃ u, exec (.safDeclare (.coreA n true)) s = .next u ∧ u.bit F.SAF_FAULT_DECL = s.bit F.SAF_FAULT_DECL ∧ u.mode = s.mode ∧ u.rd F.SAF_VIOL_ORIGIN = n.val ∧ u.rd F.SAF_VIOLADDR_ADDR = A.SAF_STOCTL ∧ sameRegs (blocksIcu [0x800, 0x803, 0x807, 0x809, 0x80A, 0x80B, 0x810, 0x811, 0x812, 0xC00]) s u ∧ sameBytes s.recordPlace s u)

/-- The acknowledge that ends SAFE_STOP: With a request for STANDBY waiting, SS1 complete, no safety fault and no cause still
present, Zenou-S's acknowledge leaves SAFE_STOP for STANDBY; with none waiting it sets ACK_ERR; a request not acknowledged
within 100 ms is refused with REASON 12. Under its clause's conditions on the state and the operands alone, exec answers a next
state with the command's own effect: safAck, safeStopAckTimeout. Where a clause rests on a choice or a reading of the model and
not on a rule, it is that of log entry 21 (DEDUCED). (R74; R548; R636) -/
def Obligations.SafeStopAcknowledge : Prop :=
  ∀ (s : State),
    (s.operating = true → s.ackWaits = true → s.ss1Done = true → s.reg A.SAF_FAULT = 0 → s.anyCausePresent = false →
      ∃ u, exec (.safAck .coreS) s = .next u ∧ u.mode = .standby ∧ u.bit F.SYS_MODESTAT_PEND = false ∧ sameRegs (blocksIcu [0x800, 0x803, 0x807, 0x80A, 0x80B, 0x810, 0x811, 0x812, 0xC00]) s u ∧ sameMem s u) ∧
    (s.operating = true → s.ackWaits = false →
      ∃ u, exec (.safAck .coreS) s = .next u ∧ u.bit F.SAF_STATUS_ACK_ERR = true ∧ u.mode = s.mode ∧ sameRegs (blocksIcu [0x800, 0x803, 0x807, 0x80A, 0x80B, 0x810, 0x811, 0x812, 0xC00]) s u ∧ sameMem s u) ∧
    (s.ackWaits = true →
      ∃ u, exec (.safeStopAckTimeout) s = .next u ∧ u.bit F.SYS_MODESTAT_PEND = false ∧ u.bit F.SYS_MODESTAT_REFUSED = true ∧ u.rd F.SYS_MODESTAT_REASON = 12 ∧ u.mode = .safeStop ∧ sameRegs (blocksIcu [0x800]) s u ∧ sameMem s u)

/-- The module watchdog's service and half time: The expected one of the two alternating service values restarts the watchdog
and makes the other value the expected one; any other value resets the module with cause MWDT; half of the time without service
makes S26 pending at the Zenou-S controller. Under its clause's conditions on the state and the operands alone, exec answers a
next state with the command's own effect: mwdtService, mwdtHalf. (R549; R550; R553) -/
def Obligations.ModuleWatchdog : Prop :=
  ∀ (s : State) (v : Word),
    (s.operating = true → s.due .mwdtExpire = true → getBits v 0 8 = (if s.mwdtSecond then 0x92 else 0x6D) →
      ∃ u, exec (.mwdtService .coreS v) s = .next u ∧ u.mwdtSecond = !s.mwdtSecond ∧ u.dueIn (ms (s.rd F.SAF_MWDT_TMO)) .mwdtExpire = true ∧ u.mode = s.mode ∧ sameRegs (blocks [0xC00]) s u ∧ sameMem s u) ∧
    (s.operating = true → s.due .mwdtExpire = true → getBits v 0 8 ≠ (if s.mwdtSecond then 0x92 else 0x6D) → s.resetFree = true →
      ∃ u, exec (.mwdtService .coreS v) s = .next u ∧ u.mode = .boot ∧ (u.reg A.SYS_RSTCAUSE).getLsbD 2 = true) ∧
    (s.due .mwdtExpire = true → s.mwdtFrozen = false → s.icuLive 4 = true →
      ∃ u, exec (.mwdtHalf) s = .next u ∧ u.bit (pendFld 4 26) = true ∧ sameRegs icuReach s u ∧ sameMem s u)

/-- The line, the converters, the motor bus and the bulk store: A half-cycle shows rms and frequency and LOWLINE below 180 VAC;
a mains loss sets MAINSLOSS, stops the PFC and makes P_lim 0, and with MLACT it brings ARMED and RUN into SAFE_STOP; its return
clears MAINSLOSS and starts the PFC again; the isolated converter stops when the bulk falls below 280 V and runs again, where it
is wanted, when the bulk is back. Within 44 to 52 V regulation sets SYS_READY.BUS and outside 42 to 58 V its loss clears it; the
chopper connects above 56 V and disconnects below 54 V; above 60 V OVBUS sets, and ARMED and RUN go to SAFE_STOP; below 38 V in
ARMED or RUN UVBUS sets and SAFE_STOP is entered with cause 5. Every 10 us the measured bulk voltage, drawn power and output
power are shown, the bulk energy of R337 and the thermal reserve of R338 follow from them, and each axis's thermal load moves by
its squared current and stays between 0 and 26.25 A2s. Under its clause's conditions on the state and the operands alone, exec
answers a next state with the command's own effect: lineHalfCycle, mainsLoss, mainsReturn, isoConverterStop, isoConverterStart,
busRegulationSet, busRegulationLost, chopperOn, chopperOff, busOvervoltage, busUndervoltage, pwrUpdate. Where a clause rests on
a choice or a reading of the model and not on a rule, it is that of log entry 13 (DESIGN CHOICE). (R326; R328; R329; R330; R333;
R335; R336; R337; R338; R342) -/
def Obligations.LineBusAndBulk : Prop :=
  ∀ (s : State) (vrms : Nat) (freq : Nat) (peak : Nat) (vb : Word) (pd : Word) (po : Word),
    (s.pwrLive = true →
      ∃ u, exec (.lineHalfCycle vrms freq peak) s = .next u ∧ u.rd F.PWR_LINE_VRMS = min vrms 65535 ∧ u.rd F.PWR_LINE_FREQ = min freq 65535 ∧ u.bit F.PWR_STATUS_LOWLINE = decide (vrms < 1800) ∧ sameRegs (blocksIcu [0x80B]) s u ∧ sameMem s u) ∧
    (s.pwrLive = true → s.bit F.PWR_STATUS_MAINSLOSS = false →
      ∃ u, exec (.mainsLoss) s = .next u ∧ u.bit F.PWR_STATUS_MAINSLOSS = true ∧ u.bit F.PWR_STATUS_PFCRUN = false ∧ u.reg A.PWR_PLIMLINE = 0 ∧ (s.bit F.PWR_CTL_MLACT = true → s.mode = .armed ∨ s.mode = .run → u.mode = .safeStop) ∧ sameRegs (blocksIcu [0x800, 0x803, 0x807, 0x809, 0x80A, 0x80B, 0x810, 0x811, 0x812, 0xC00]) s u ∧ sameBytes s.recordPlace s u) ∧
    (s.bit F.PWR_STATUS_MAINSLOSS = true →
      ∃ u, exec (.mainsReturn) s = .next u ∧ u.bit F.PWR_STATUS_MAINSLOSS = false ∧ (s.auxOn = true → s.pwrLive = true → u.bit F.PWR_STATUS_PFCRUN = true) ∧ sameRegs (blocksIcu [0x80B]) s u ∧ sameMem s u) ∧
    (∃ u, exec (.isoConverterStop) s = .next u ∧ u.bulkOk = false ∧ u.bit F.PWR_STATUS_ISORUN = false ∧ sameRegs (blocksIcu [0x80B]) s u ∧ sameMem s u) ∧
    (∃ u, exec (.isoConverterStart) s = .next u ∧ u.bulkOk = true ∧ u.bit F.PWR_STATUS_ISORUN = s.isoWanted ∧ sameRegs (blocksIcu [0x80B]) s u ∧ sameMem s u) ∧
    (s.pwrLive = true → volts 44 ≤ s.busMean → s.busMean ≤ volts 52 →
      ∃ u, exec (.busRegulationSet) s = .next u ∧ u.bit F.SYS_READY_BUS = true ∧ sameRegs (blocksIcu [0x800, 0x803, 0x807, 0x80A, 0x80B, 0x810]) s u ∧ sameMem s u) ∧
    (s.bit F.SYS_READY_BUS = true → (s.busMean < volts 42 ∨ volts 58 < s.busMean) →
      ∃ u, exec (.busRegulationLost) s = .next u ∧ u.bit F.SYS_READY_BUS = false ∧ u.bit F.PWR_STATUS_BUSREG = false ∧ sameRegs (blocksIcu [0x800, 0x803, 0x807, 0x80A, 0x80B, 0x810]) s u ∧ sameMem s u) ∧
    (s.pwrLive = true → s.bit F.PWR_STATUS_CHOPHOT = false → volts 56 < s.busMean →
      ∃ u, exec (.chopperOn) s = .next u ∧ u.bit F.PWR_STATUS_CHOPON = true ∧ sameRegs (blocksIcu [0x803, 0x807, 0x80A, 0x80B, 0x810]) s u ∧ sameMem s u) ∧
    (s.busMean < volts 54 →
      ∃ u, exec (.chopperOff) s = .next u ∧ u.bit F.PWR_STATUS_CHOPON = false ∧ sameRegs (blocks [0x80B]) s u ∧ sameMem s u) ∧
    (s.pwrLive = true → volts 60 < s.busMean →
      ∃ u, exec (.busOvervoltage) s = .next u ∧ u.bit F.PWR_STATUS_OVBUS = true ∧ (s.mode = .armed ∨ s.mode = .run → u.mode = .safeStop) ∧ sameRegs (blocksIcu [0x800, 0x803, 0x807, 0x809, 0x80A, 0x80B, 0x810, 0x811, 0x812, 0xC00]) s u ∧ sameBytes s.recordPlace s u) ∧
    (s.busMean < volts 38 → (s.mode = .armed ∨ s.mode = .run) →
      ∃ u, exec (.busUndervoltage) s = .next u ∧ u.bit F.PWR_STATUS_UVBUS = true ∧ u.mode = .safeStop ∧ u.rd F.SYS_MODESTAT_SS_CAUSE = 5 ∧ sameRegs (blocksIcu [0x800, 0x803, 0x807, 0x809, 0x80A, 0x80B, 0x810, 0x811, 0x812, 0xC00]) s u ∧ sameBytes s.recordPlace s u) ∧
    (s.pwrLive = true → s.auxOn = true →
      ∃ u, exec (.pwrUpdate vb pd po) s = .next u ∧ u.reg A.PWR_VBULK = vb ∧ u.reg A.PWR_PDRAW = pd ∧ u.reg A.PWR_POUT = po ∧ u.reg A.PWR_GEYSER_B = wordOf (bulkEnergy (signed48 vb.toNat)) ∧ (∀ a : Fin 24, u.reg (A.THM_AX_Q a) = wordOf (max 0 (min (f24 105 / 4) (s.rdS (F.THM_AX_Q_Q a) + rdiv (s.iSquared a - f24 50) 100000)))) ∧ sameRegs (blocksIcu [0x800, 0x803, 0x804, 0x805, 0x807, 0x80A, 0x80B, 0x810]) s u ∧ sameMem s u)

/-- The supplies, BUSMODE and the brake outputs: An encoder or AUX24 supply at its limit for its time switches off and says so;
in STANDBY, ARMED and RUN a 1 written to its bit of PWR_SUPCTL switches it on again; BUSMODE is taken in STANDBY only; with STO
asserted no brake ON bit can rise; an output held in its current limit is off with ILIM set, and a 1 written to ILIM clears it
with its ON bit. Under its clause's conditions on the state and the operands alone, exec answers a next state with the command's
own effect: enc5vOvercurrentOff, aux24OvercurrentOff, pwrSupctlWrite, pwrBusmodeWrite, brakeCtlWrite, brakeIlimOff,
brakeIlimClear. Where a clause rests on a choice or a reading of the model and not on a rule, it is that of log entries 59
(DEDUCED), 67 (DEDUCED). (R66; R329; R346; R347; R349) -/
def Obligations.SuppliesAndBrakes : Prop :=
  ∀ (s : State) (w : Writer) (v : Word) (q : Fin 6) (k : Fin 4),
    (s.encOn q = true →
      ∃ u, exec (.enc5vOvercurrentOff q) s = .next u ∧ u.bitAt F.PWR_SUPCTL_ENC q = false ∧ u.bitAt F.PWR_STATUS_ENC_OFF q = true ∧ sameRegs (blocksIcu [0x803, 0x807, 0x809, 0x80A, 0x80B, 0x810]) s u ∧ sameMem s u) ∧
    (s.pwrLive = true → s.aux24On = true →
      ∃ u, exec (.aux24OvercurrentOff) s = .next u ∧ u.bit F.PWR_SUPCTL_AUX24 = false ∧ u.bit F.PWR_STATUS_AUX_OFF = true ∧ sameRegs (blocksIcu [0x80B]) s u ∧ sameMem s u) ∧
    (s.operating = true → isCore w = true → (s.mode = .standby ∨ s.mode = .armed ∨ s.mode = .run) →
      ∃ u, exec (.pwrSupctlWrite w v) s = .next u ∧ (∀ j : Fin 6, u.bitAt F.PWR_SUPCTL_ENC j = v.getLsbD j ∧ (v.getLsbD j = true → u.bitAt F.PWR_STATUS_ENC_OFF j = false)) ∧ u.bit F.PWR_SUPCTL_AUX24 = v.getLsbD 6 ∧ sameRegs (blocksIcu [0x803, 0x807, 0x809, 0x80A, 0x80B, 0x810]) s u ∧ sameMem s u) ∧
    (s.operating = true → isCore w = true → s.mode = .standby →
      ∃ u, exec (.pwrBusmodeWrite w v) s = .next u ∧ u.reg A.PWR_CTL = rowWrite false (fieldsAt A.PWR_CTL) (s.reg A.PWR_CTL) v ∧ sameRegs (blocksIcu [0x80B, 0xC00]) s u ∧ sameMem s u) ∧
    (s.operating = true → isCore w = true → s.mode ≠ .standby → rowWrite false (fieldsAt A.PWR_CTL) (s.reg A.PWR_CTL) v ≠ s.reg A.PWR_CTL →
      ∃ u, exec (.pwrBusmodeWrite w v) s = .next u ∧ u.reg A.PWR_CTL = s.reg A.PWR_CTL ∧ u.bit F.PWR_STATUS_WR_REFUSED = true ∧ sameRegs (blocksIcu [0x80B, 0xC00]) s u ∧ sameMem s u) ∧
    (s.operating = true → isCore w = true → s.bit F.SAF_STATUS_STO = false → s.mode = .standby →
      ∃ u, exec (.brakeCtlWrite w v) s = .next u ∧ u.rd F.PWR_BRKCTL_ON = getBits v 0 4 ∧ u.rd F.PWR_BRKCTL_AUTO = getBits v 4 4 ∧ sameRegs (blocksIcu [0x80B]) s u ∧ sameMem s u) ∧
    (s.operating = true → isCore w = true → s.bit F.SAF_STATUS_STO = true →
      ∃ u, exec (.brakeCtlWrite w v) s = .next u ∧ u.rd F.PWR_BRKCTL_ON = (getBits v 0 4 &&& s.rd F.PWR_BRKCTL_ON) ∧ u.rd F.PWR_BRKSTAT_OUT = 0 ∧ sameRegs (blocksIcu [0x80B]) s u ∧ sameMem s u) ∧
    (s.bitAt F.PWR_BRKSTAT_OUT k = true →
      ∃ u, exec (.brakeIlimOff k) s = .next u ∧ u.bitAt F.PWR_BRKSTAT_ILIM k = true ∧ u.bitAt F.PWR_BRKSTAT_OUT k = false ∧ sameRegs (blocksIcu [0x80B]) s u ∧ sameMem s u) ∧
    (s.operating = true → isCore w = true → s.bitAt F.PWR_BRKSTAT_ILIM k = true →
      ∃ u, exec (.brakeIlimClear w k) s = .next u ∧ u.bitAt F.PWR_BRKSTAT_ILIM k = false ∧ u.bitAt F.PWR_BRKCTL_ON k = false ∧ sameRegs (blocks [0x80B]) s u ∧ sameMem s u)

/-- REGISTER_WRITE at large: A write to a register of the SYS block that has no rule of its own leaves there the word in which
each field follows its own access code and range; a write by a Zenou-A core to the safety region changes no register but the
record of the violation and the Zenou-S interrupt controller; a write at a misaligned address or outside every register block
changes no register; none changes a byte of memory. Under its clause's conditions on the state and the operands alone, exec
answers a next state with the command's own effect: registerWrite. Where a clause rests on a choice or a reading of the model
and not on a rule, it is that of log entry 10 (DESIGN CHOICE). (R16; R18; R19; R32; R38; R537) -/
def Obligations.RegisterWritesGoFieldByField : Prop :=
  ∀ (s : State) (n : Fin 4) (sup : Bool) (w : Writer) (addr : Nat) (v : Word),
    s.operating = true → isCore w = true →
    (addr / 0x10000 = 0x800 → addr % 8 = 0 → addr ≠ A.SYS_MODEREQ → addr ≠ A.SYS_RSTREQ → addr ≠ A.SYS_CORERST → addr ≠ A.SYS_KEY →
      ∃ u, exec (.registerWrite w addr v) s = .next u ∧ u.reg addr = rowWrite (isSafety w) (fieldsAt addr) (s.reg addr) v ∧ sameRegs (fun x ↦ x == addr || x / 0x10000 == 0xC00) s u ∧ sameMem s u) ∧
    (addr / 0x10000 = 0xC00 → addr % 8 = 0 →
      ∃ u, exec (.registerWrite (.coreA n sup) addr v) s = .next u ∧ u.rd F.SAF_VIOL_ORIGIN = n.val ∧ u.rd F.SAF_VIOLADDR_ADDR = addr ∧ sameRegs (fun x ↦ x == A.SAF_VIOL || x == A.SAF_VIOLADDR || icuReach x) s u ∧ sameMem s u) ∧
    ((addr % 8 ≠ 0 ∨ isRegion addr = false) →
      ∃ u, exec (.registerWrite w addr v) s = .next u ∧ u.regs = s.regs ∧ sameMem s u)

/-- The W current of a result set: When the conversions of a quad complete, the IW of each of its axes is the negated sum of the
corrected IU and IV presented by the same command, saturated at the 48-bit register. Under its clause's conditions on the state
and the operands alone, exec answers a next state with the command's own effect: adcConversionDone. (R169) -/
def Obligations.WCurrentIsTheNegatedSum : Prop :=
  ∀ (s : State) (q : Fin 6) (codes : List Nat) (k : Fin 4),
    (s.quad q).busy = true →
    (∃ u, exec (.adcConversionDone q codes) s = .next u ∧ u.rdS (F.ADC_AX_IW_I (4 * q + k)) = sat48 (-(u.rdS (F.ADC_AX_IU_I (4 * q + k)) + u.rdS (F.ADC_AX_IV_I (4 * q + k)))) ∧ sameRegs (blocksIcu [0x800, 0x803, 0x805, 0x807, 0x80A, 0x810]) s u ∧ sameMem s u)

/-- Sample points, results, and the reads that latch them: A sample point starts the quad's conversion under the next sample
index; the end of the conversions shows each axis's raw codes, its corrected currents and the index; an auxiliary conversion of
the motor-bus voltage, from 250 ns after the converters started, shows it in 80/16384 V a code and sets VALID; a read of IU
answers it and latches IV, IW and RAW of the same set for that reader, and in the cycle of a new set answers the set before it.
Conversions change registers of ADC and what an event can reach; the read changes no register. Under its clause's conditions on
the state and the operands alone, exec answers a next state with the command's own effect: adcSample, adcConversionDone,
auxConversion, adcIuRead. Where a clause rests on a choice or a reading of the model and not on a rule, it is that of log
entries 12 (DEDUCED), 47 (DEDUCED), 51 (DEDUCED), 63 (DEDUCED), 127 (DESIGN CHOICE), 141 (DESIGN CHOICE). (R161; R162; R165;
R167; R168; R171; R178) -/
def Obligations.SamplesAndConversions : Prop :=
  ∀ (s : State) (q : Fin 6) (a : Fin 24) (k : Fin 4) (codes : List Nat) (code : Nat) (second : Bool) (r : Writer),
    (s.sampling q = true → (second = false ∨ s.dbl q = true) →
      ∃ u, exec (.adcSample q second) s = .next u ∧ (u.quad q).busy = true ∧ (u.quad q).point = (s.quad q).next ∧ (u.quad q).next = (s.quad q).next + 1 ∧ (u.quad q).second = second ∧ sameMem s u ∧ sameRegs (blocks [0x807, 0x809]) s u) ∧
    ((s.quad q).busy = true → (∀ i : Fin 8, codes.getD i 8192 < 16384) →
      ∃ u, exec (.adcConversionDone q codes) s = .next u ∧ u.rd (F.ADC_AX_RAW_RAWU (4 * q + k)) = codes.getD (2 * k) 8192 ∧ u.rd (F.ADC_AX_RAW_RAWV (4 * q + k)) = codes.getD (2 * k + 1) 8192 ∧ u.rdS (F.ADC_AX_IU_I (4 * q + k)) = sat48 ((16 * ((codes.getD (2 * k) 8192 : Int) - 8192) - s.rdS (F.ADC_AX_OFS_OFSU (4 * q + k))) * s.rd (F.ADC_AX_GAIN_GAINU (4 * q + k)) * 40) ∧ u.rdS (F.ADC_AX_IV_I (4 * q + k)) = sat48 ((16 * ((codes.getD (2 * k + 1) 8192 : Int) - 8192) - s.rdS (F.ADC_AX_OFS_OFSV (4 * q + k))) * s.rd (F.ADC_AX_GAIN_GAINV (4 * q + k)) * 40) ∧ u.rd (F.ADC_AX_ISTAT_SIDX (4 * q + k)) = (s.quad q).point % 128 ∧ (u.quad q).busy = false ∧ sameRegs (fun x ↦ eventReach x || x / 0x10000 == 0x805) s u ∧ sameMem s u) ∧
    (s.auxTurn q 0 = true → code < 16384 →
      ∃ u, exec (.auxConversion q 0 code) s = .next u ∧ u.rdS (F.ADC_Q_VBUS_V q) = (code * 80 * 2 ^ 26 : Nat) ∧ u.bitAt (F.ADC_Q_AUXSTAT_VALID q) 0 = true ∧ sameMem s u ∧ sameRegs (blocksIcu [0x800, 0x803, 0x805, 0x807, 0x809, 0x80A, 0x80B, 0x810, 0x811, 0x812, 0xC00]) s u) ∧
    (s.operating = true → isCore r = true → s.thisCycle (s.axis a).adcAt = false →
      ∃ u, exec (.adcIuRead r a) s = .next u ∧ u.rdata = s.reg (A.ADC_AX_IU a) ∧ u.iuLatched r a 1 = s.reg (A.ADC_AX_IV a) ∧ u.iuLatched r a 2 = s.reg (A.ADC_AX_IW a) ∧ u.iuLatched r a 4 = s.reg (A.ADC_AX_RAW a) ∧ u.regs = s.regs ∧ sameMem s u) ∧
    (s.operating = true → isCore r = true → s.thisCycle (s.axis a).adcAt = true →
      ∃ u, exec (.adcIuRead r a) s = .next u ∧ u.rdata = (s.axis a).adcOld.getD 0 0 ∧ u.regs = s.regs ∧ sameMem s u)

/-- Sample-point settings and the repeated offset calibration: In STANDBY a write of ADC_Qq_SAMP takes every field inside its
range while the value in force stays until the next frame tick, and in another mode a write that would change it leaves it and
sets WR_REFUSED; 0xCA in ADC_CALREQ starts the calibration in STANDBY with the bus settled and none running and sets CALREFUSED
otherwise; its end takes each axis's new offsets, ends CALBUSY and sets CALDONE. Under its clause's conditions on the state and
the operands alone, exec answers a next state with the command's own effect: adcSampWrite, adcCalreq, adcRecalDone. Where a
clause rests on a choice or a reading of the model and not on a rule, it is that of log entries 46 (DESIGN CHOICE), 142 (DESIGN
CHOICE). (R164; R172; R175) -/
def Obligations.ConverterSettingsAndCalibration : Prop :=
  ∀ (s : State) (w : Writer) (q : Fin 6) (a : Fin 24) (v : Word) (codes : List Nat),
    s.operating = true → isCore w = true →
    (s.mode = .standby → rowInRange (fieldsAt (A.ADC_Q_SAMP q)) v = true →
      ∃ u, exec (.adcSampWrite w q v) s = .next u ∧ u.reg (A.ADC_Q_SAMP q) = rowWrite false (fieldsAt (A.ADC_Q_SAMP q)) (s.reg (A.ADC_Q_SAMP q)) v ∧ u.regInForce (A.ADC_Q_SAMP q) = s.regInForce (A.ADC_Q_SAMP q) ∧ sameRegs (fun x ↦ x == A.ADC_Q_SAMP q) s u ∧ sameMem s u) ∧
    (s.mode ≠ .standby → rowWrite false (fieldsAt (A.ADC_Q_SAMP q)) (s.reg (A.ADC_Q_SAMP q)) v ≠ s.reg (A.ADC_Q_SAMP q) →
      ∃ u, exec (.adcSampWrite w q v) s = .next u ∧ u.reg (A.ADC_Q_SAMP q) = s.reg (A.ADC_Q_SAMP q) ∧ u.bit (F.ADC_Q_STATUS_WR_REFUSED q) = true ∧ sameRegs (fun x ↦ x == A.ADC_Q_STATUS q || icuReach x) s u ∧ sameMem s u) ∧
    (getBits v 0 8 = 0xCA → s.mode = .standby → s.bit F.ADC_STATUS_CALBUSY = false → s.busSettled = true →
      ∃ u, exec (.adcCalreq w v) s = .next u ∧ u.bit F.ADC_STATUS_CALBUSY = true ∧ sameRegs (fun x ↦ x == A.ADC_STATUS) s u ∧ sameMem s u) ∧
    (getBits v 0 8 = 0xCA → (s.mode ≠ .standby ∨ s.bit F.ADC_STATUS_CALBUSY = true ∨ s.busSettled = false) →
      ∃ u, exec (.adcCalreq w v) s = .next u ∧ u.bit F.ADC_STATUS_CALREFUSED = true ∧ u.bit F.ADC_STATUS_CALBUSY = s.bit F.ADC_STATUS_CALBUSY ∧ sameRegs (blocks [0x805, 0x80B]) s u ∧ sameMem s u) ∧
    (s.bit F.ADC_STATUS_CALBUSY = true → s.mode ≠ .boot → codes.getD (2 * a) 0 < 163840 → 98304 ≤ codes.getD (2 * a) 0 →
      ∃ u, exec (.adcRecalDone codes) s = .next u ∧ u.rdS (F.ADC_AX_OFS_OFSU a) = (codes.getD (2 * a) 0 : Int) - 131072 ∧ u.bit F.ADC_STATUS_CALBUSY = false ∧ u.bit F.ADC_STATUS_CALDONE = true ∧ sameRegs (fun x ↦ x / 0x10000 == 0x805) s u ∧ sameMem s u)

/-- A current pass and an outer stage of a Caldera lane: A current pass takes the waiting sample set, and for each axis in modes
1 to 3, whichever source drives its duties, shows the electrical angle of that axis's latched position; a delayed pass begins at
the end of its delay and ends 45 cycles later; an outer stage that finds a pass in progress waits for that pass, else ends the
oldest one due, shows the position error of an axis whose position loop is due, and the velocity set-point as the reference of
an axis in mode 2 without interpolation. A pass and a stage store nothing but the axis's duties, flags and results: no byte of
memory changes. Under its clause's conditions on the state and the operands alone, exec answers a next state with the command's
own effect: laneCurrentPass, laneOuterStage. Where a clause rests on a choice or a reading of the model and not on a rule, it is
that of log entries 50 (DEDUCED), 51 (DEDUCED). (R205; R206; R207; R210; R211; R219; R221; R228; R234) -/
def Obligations.LanesRun : Prop :=
  ∀ (s : State) (q : Fin 6) (k : Fin 4) (n : Nat),
    s.laneOn q = true → s.laneFrozen = false →
    ((s.lane q).setReady = true → (s.lane q).next = false → (s.clocked = false ∨ (s.lane q).beginAt ≠ some s.now) → 1 ≤ s.leMode (4 * q + k) ∧ s.leMode (4 * q + k) ≤ 3 →
      ∃ u, exec (.laneCurrentPass q) s = .next u ∧ (u.lane q).setReady = false ∧ u.rd (F.LE_AX_ANGLE_THETA (4 * q + k)) = (((s.par (4 * q + k) F.LE_AX_MOTOR_PP * s.rdS (F.FB_AX_POSS_P (4 * q + k)) + s.par (4 * q + k) F.LE_AX_MOTOR_ANGOFS) % (2 ^ 24 : Nat)).toNat) ∧ sameMem s u ∧ sameRegs (blocksIcu [0x800, 0x803, 0x804, 0x805, 0x807, 0x809, 0x80A, 0x80B, 0x80D, 0x80E, 0x810, 0xC00]) s u) ∧
    ((s.lane q).outer = n :: (s.lane q).outer.tail → (s.lane q).outRes = none → (s.clocked = false ∨ s.passRuns q = false) → (∀ j : Fin 4, s.inForce (F.LE_AX_CTL_FAULTACT (4 * q + j)) ≠ 2) → s.loopDue (4 * q + k) n true = true → (s.axis (4 * q + k)).ssZero = false → (s.axis (4 * q + k)).ramp = none → s.inForce (F.LE_AX_CTL_SPINT (4 * q + k)) = 0 →
      ∃ u, exec (.laneOuterStage q) s = .next u ∧ (u.lane q).outer = (s.lane q).outer.tail ∧ u.rdS (F.LE_AX_PERR_E (4 * q + k)) = wrap48 (signed48 (s.axis (4 * q + k)).spPos.toNat - s.rdS (F.FB_AX_POSS_P (4 * q + k))) ∧ sameMem s u ∧ sameRegs (blocksIcu [0x800, 0x803, 0x804, 0x807, 0x809, 0x80A, 0x80B, 0x80D, 0x80E, 0x810, 0x811, 0x812, 0xC00]) s u) ∧
    ((s.lane q).outer = n :: (s.lane q).outer.tail → (s.lane q).outRes = none → (s.clocked = false ∨ s.passRuns q = false) → (∀ j : Fin 4, s.inForce (F.LE_AX_CTL_FAULTACT (4 * q + j)) ≠ 2) → s.loopDue (4 * q + k) n false = true → s.leMode (4 * q + k) = 2 → (s.axis (4 * q + k)).ssZero = false → (s.axis (4 * q + k)).ramp = none → s.inForce (F.LE_AX_CTL_SPINT (4 * q + k)) = 0 →
      ∃ u, exec (.laneOuterStage q) s = .next u ∧ (u.lane q).outer = (s.lane q).outer.tail ∧ u.rdS (F.LE_AX_VREF_V (4 * q + k)) = signed48 (s.axis (4 * q + k)).spVel.toNat ∧ sameMem s u ∧ sameRegs (blocksIcu [0x800, 0x803, 0x804, 0x807, 0x809, 0x80A, 0x80B, 0x80D, 0x80E, 0x810, 0x811, 0x812, 0xC00]) s u) ∧
    ((s.lane q).setReady = true → s.clocked = true → (s.lane q).beginAt = some s.now →
      ∃ u, exec (.laneCurrentPass q) s = .next u ∧ (u.lane q).beginAt = none ∧ (u.lane q).setReady = true ∧ u.dueIn 45 (.laneCurrentPass q) = true ∧ sameMem s u ∧ sameRegs (blocksIcu [0x800, 0x803, 0x804, 0x805, 0x807, 0x809, 0x80A, 0x80B, 0x80D, 0x80E, 0x810, 0xC00]) s u) ∧
    ((s.lane q).outer ≠ [] → s.clocked = true → s.passRuns q = true →
      ∃ u, exec (.laneOuterStage q) s = .next u ∧ u.lane q = s.lane q ∧ u.regs = s.regs ∧ sameMem s u)

/-- Parameter banks, commits, set-points and LE_AXa_CTL: A parameter write lands in the inactive bank and leaves the active one;
a commit that passes its checks leaves the axis pending, one that fails shows REFUSED with the CAUSE, the same for the event's
mask, each checked with the axes that wait and those that the same base cycle asks for, and in SAFE_STOP the cause is 4; the end
of a copy makes the inactive bank equal to the active one; a set-point is taken from its source in force alone, and a write of
the other source that would change it sets WR_REFUSED; LE_AXa_CTL is taken in STANDBY and ARMED, in force at the next tick, and
refused in RUN and SAFE_STOP. Under its clause's conditions on the state and the operands alone, exec answers a next state with
the command's own effect: leParamWrite, leCommit, leCommitEvent, leBankCopyDone, leSetpointWrite, leCtlWrite. Where a clause
rests on a choice or a reading of the model and not on a rule, it is that of log entry 54 (DEDUCED). (R227; R229; R230; R231;
R240) -/
def Obligations.ParametersAndSetPoints : Prop :=
  ∀ (s : State) (w : Writer) (a : Fin 24) (o : Fin 96) (k : Fin 5) (v : Word),
    s.operating = true → isCore w = true →
    ((findRow (blockRows (A.LE_AX_GRAPH a + 8 * o)) (A.LE_AX_GRAPH a + 8 * o)).isSome = true → rowInRange (fieldsAt (A.LE_AX_GRAPH a + 8 * o)) v = true → (s.axis a).copying = false → s.sameAs (s.axis a).swapAt = false →
      ∃ u, exec (.leParamWrite w a o v) s = .next u ∧ u.reg (A.LE_AX_GRAPH a + 8 * o + (1 - s.actBank a) * bankKey) = rowWrite false (fieldsAt (A.LE_AX_GRAPH a + 8 * o)) (s.reg (A.LE_AX_GRAPH a + 8 * o + (1 - s.actBank a) * bankKey)) v ∧ u.reg (A.LE_AX_GRAPH a + 8 * o + s.actBank a * bankKey) = s.reg (A.LE_AX_GRAPH a + 8 * o + s.actBank a * bankKey) ∧ sameRegs (fun x ↦ x == A.LE_AX_GRAPH a + 8 * o + (1 - s.actBank a) * bankKey) s u ∧ sameMem s u) ∧
    (v.getLsbD a = true → s.bit (F.LE_AX_BSTAT_PEND a) = false → s.commitCause a (getBits v 0 24 ||| s.commitNow ||| s.rd F.LE_COMMIT_PEND_PEND) = 0 →
      ∃ u, exec (.leCommit w v) s = .next u ∧ u.bit (F.LE_AX_BSTAT_PEND a) = true ∧ u.bitAt F.LE_COMMIT_PEND_PEND a = true ∧ sameMem s u ∧ sameRegs (blocksIcu [0x807]) s u) ∧
    (v.getLsbD a = true → s.bit (F.LE_AX_BSTAT_PEND a) = false → s.mode = .safeStop →
      ∃ u, exec (.leCommit w v) s = .next u ∧ u.bit (F.LE_AX_BSTAT_PEND a) = false ∧ u.bit (F.LE_AX_BSTAT_REFUSED a) = true ∧ u.rd (F.LE_AX_BSTAT_CAUSE a) = 4 ∧ sameRegs (blocksIcu [0x807]) s u ∧ sameMem s u) ∧
    (s.bit F.LE_COMMIT_EV_EN = true → s.arrived 1 1 = false → s.bitAt F.LE_COMMIT_EV_MASK a = true → s.bit (F.LE_AX_BSTAT_PEND a) = false →
      ∃ u, exec (.leCommitEvent) s = .next u ∧ u.bit (F.LE_AX_BSTAT_PEND a) = decide (s.commitCause a (s.rd F.LE_COMMIT_EV_MASK ||| s.commitNow ||| s.rd F.LE_COMMIT_PEND_PEND) = 0) ∧ sameMem s u ∧ sameRegs (blocksIcu [0x807, 0x80A]) s u) ∧
    ((s.axis a).copying = true → (s.axis a).stalled = [] → (findRow (blockRows (A.LE_AX_GRAPH a + 8 * o)) (A.LE_AX_GRAPH a + 8 * o)).isSome = true → o < 47 →
      ∃ u, exec (.leBankCopyDone a) s = .next u ∧ (u.axis a).copying = false ∧ u.reg (A.LE_AX_GRAPH a + 8 * o + (1 - s.actBank a) * bankKey) = s.reg (A.LE_AX_GRAPH a + 8 * o + s.actBank a * bankKey) ∧ sameMem s u ∧ sameRegs (blocks [0x807, 0x10807]) s u) ∧
    (s.inForce (F.LE_AX_CTL_SPSRC a) = 0 →
      ∃ u, exec (.leSetpointWrite w a k v) s = .next u ∧ u.reg (A.LE_AX_SP_POS a + 8 * k) = v ∧ u.bit (F.LE_AX_SPSTAT_FRESH a) = true ∧ sameRegs (fun x ↦ x == A.LE_AX_SP_POS a + 8 * k || x == A.LE_AX_SPSTAT a) s u ∧ sameMem s u) ∧
    (s.inForce (F.LE_AX_CTL_SPSRC a) ≠ 0 → v ≠ s.reg (A.LE_AX_SP_POS a + 8 * k) →
      ∃ u, exec (.leSetpointWrite w a k v) s = .next u ∧ u.reg (A.LE_AX_SP_POS a + 8 * k) = s.reg (A.LE_AX_SP_POS a + 8 * k) ∧ u.bit (F.LE_AX_FLAG_WR_REFUSED a) = true ∧ sameRegs (fun x ↦ x == A.LE_AX_FLAG a || icuReach x) s u ∧ sameMem s u) ∧
    ((s.mode = .standby ∨ s.mode = .armed) → getBits v 3 2 ≠ 3 →
      ∃ u, exec (.leCtlWrite w a v) s = .next u ∧ u.reg (A.LE_AX_CTL a) = rowWrite false (fieldsAt (A.LE_AX_CTL a)) (s.reg (A.LE_AX_CTL a)) v ∧ u.regInForce (A.LE_AX_CTL a) = s.regInForce (A.LE_AX_CTL a) ∧ sameRegs (blocksIcu [0x807]) s u ∧ sameMem s u) ∧
    ((s.mode = .run ∨ s.mode = .safeStop) → rowWrite false (fieldsAt (A.LE_AX_CTL a)) (s.reg (A.LE_AX_CTL a)) v ≠ s.reg (A.LE_AX_CTL a) → getBits v 3 2 ≠ 3 →
      ∃ u, exec (.leCtlWrite w a v) s = .next u ∧ u.reg (A.LE_AX_CTL a) = s.reg (A.LE_AX_CTL a) ∧ u.bit (F.LE_AX_FLAG_WR_REFUSED a) = true ∧ sameRegs (fun x ↦ x == A.LE_AX_FLAG a || icuReach x) s u ∧ sameMem s u)

/-- Table entries, seals, and the learning capture: A store of 6 bytes into a free table page leaves there the value, lowest
byte first, with the page UNTRAINED and every other byte of memory as it was, and one into an active page changes no byte and
sets WR_ACTIVE; a seal makes each named page TRAINED unless one of its entries was written in that cycle, an unseal UNTRAINED; a
capture start that meets the conditions of R259 is pending with both counts 0, one outside RUN is refused with CAUSE 1; a stop
ends it; a record is stored at BASE + 40 × COUNT and then counted, every other byte of memory as it was. Under its clause's
conditions on the state and the operands alone, exec answers a next state with the command's own effect: tableEntryWrite,
tableSeal, tableUnseal, learnStart, learnStop, learnRecordWrite. Where a clause rests on a choice or a reading of the model and
not on a rule, it is that of log entries 35 (DEDUCED), 56 (DEDUCED), 58 (DEDUCED). (R249; R251; R252; R259; R260; R262) -/
def Obligations.TablesAndLearning : Prop :=
  ∀ (s : State) (w : Writer) (a : Fin 24) (pages : BitVec 4) (pg : Fin 4) (addr : Nat) (v : Word),
    s.operating = true → isCore w = true →
    ((∀ i : Fin 6, region (addr + i) = .table ∧ s.tornAt (addr + i) = none) → s.pageActive (tableAxis addr) (tablePg addr) = false →
      ∃ u, exec (.tableEntryWrite w addr v) s = .next u ∧ u.load addr 6 = v.toNat ∧ u.bit (trainedFld (tableAxis addr) (tablePg addr)) = false ∧ sameBytes (fun x ↦ decide (addr ≤ x ∧ x < addr + 6)) s u ∧ sameRegs (fun x ↦ x == A.LE_AX_TBLSTAT (tableAxis addr) || icuReach x) s u) ∧
    ((∀ i : Fin 6, region (addr + i) = .table) → s.pageActive (tableAxis addr) (tablePg addr) = true →
      ∃ u, exec (.tableEntryWrite w addr v) s = .next u ∧ u.bit (F.LE_AX_TBLSTAT_WR_ACTIVE (tableAxis addr)) = true ∧ u.mem = s.mem ∧ sameMem s u ∧ sameRegs (fun x ↦ x == A.LE_AX_TBLSTAT (tableAxis addr) || icuReach x) s u) ∧
    (pages.getLsbD pg = true → s.sameAs (Tab.find s.tblWr (4 * a + pg)) = false →
      ∃ u, exec (.tableSeal w a pages) s = .next u ∧ u.bit (trainedFld a pg) = true ∧ sameMem s u ∧ sameRegs (blocksIcu [0x807]) s u) ∧
    (pages.getLsbD pg = true →
      ∃ u, exec (.tableUnseal w a pages) s = .next u ∧ u.bit (trainedFld a pg) = false ∧ sameMem s u ∧ sameRegs (blocksIcu [0x807]) s u) ∧
    (s.mode = .run → getBits v 0 5 = a.val → (s.leMode a = 2 ∨ s.leMode a = 3) → s.rd F.LE_LRN_BASE_ADDR % 8 = 0 → 0x20000000 ≤ s.rd F.LE_LRN_BASE_ADDR → 1 ≤ s.rd F.LE_LRN_LEN_LEN ∧ s.rd F.LE_LRN_LEN_LEN ≤ 1048576 → s.rd F.LE_LRN_BASE_ADDR + 40 * s.rd F.LE_LRN_LEN_LEN ≤ 0x40000000 → s.bit F.SYS_READY_DRAM = true → s.learnBusy = false → v.getLsbD 17 = false →
      ∃ u, exec (.learnStart w v) s = .next u ∧ u.bit F.LE_LRN_STAT_PEND = true ∧ u.rd F.LE_LRN_COUNT_COUNT = 0 ∧ u.rd F.LE_LRN_COUNT_LOST = 0 ∧ u.rd F.LE_LRN_CTL_AXIS = a.val ∧ u.rd F.LE_LRN_CTL_DIV = getBits v 8 8 ∧ sameMem s u ∧ sameRegs (blocksIcu [0x803, 0x807, 0x80A, 0x810]) s u) ∧
    (s.mode ≠ .run → v.getLsbD 17 = false →
      ∃ u, exec (.learnStart w v) s = .next u ∧ u.bit F.LE_LRN_STAT_REFUSED = true ∧ u.rd F.LE_LRN_STAT_CAUSE = 1 ∧ u.bit F.LE_LRN_STAT_PEND = s.bit F.LE_LRN_STAT_PEND ∧ sameMem s u ∧ sameRegs (blocksIcu [0x803, 0x807, 0x80A, 0x810]) s u) ∧
    (∃ u, exec (.learnStop w) s = .next u ∧ u.bit F.LE_LRN_STAT_BUSY = false ∧ u.bit F.LE_LRN_STAT_PEND = false ∧ sameRegs (blocksIcu [0x803, 0x807, 0x80A, 0x810]) s u ∧ sameBytes s.recordPlace s u) ∧
    (s.learn.record.length = 40 → s.rd F.LE_LRN_COUNT_COUNT < 1048576 → (∀ i : Fin 40, s.tornAt (s.rd F.LE_LRN_BASE_ADDR + 40 * s.rd F.LE_LRN_COUNT_COUNT + i) = none) →
      ∃ u, exec (.learnRecordWrite) s = .next u ∧ u.bytes (s.rd F.LE_LRN_BASE_ADDR + 40 * s.rd F.LE_LRN_COUNT_COUNT) 40 = s.learn.record ∧ u.rd F.LE_LRN_COUNT_COUNT = s.rd F.LE_LRN_COUNT_COUNT + 1 ∧ u.learn.record = [] ∧ sameBytes (fun x ↦ decide (s.rd F.LE_LRN_BASE_ADDR + 40 * s.rd F.LE_LRN_COUNT_COUNT ≤ x ∧ x < s.rd F.LE_LRN_BASE_ADDR + 40 * s.rd F.LE_LRN_COUNT_COUNT + 40)) s u ∧ sameRegs (blocksIcu [0x803, 0x807, 0x80A, 0x810]) s u)

/-- Quadrature, Hall and line events, the latch at a sample point, and the emulation outputs: A legal change of A and B that the
filter lets through moves the count of a QUAD port by one, over CPE edges to a turn, and an illegal one leaves it and counts as
an error; one that the filter holds back changes nothing; Z's edge into its active level captures the position, the other edge
changes no register; a Hall code from 1 to 6 is the port's new sector and one of 0 or 7 moves nothing and sets HALLERR; an
invalid Hall code that lasts and a line fault of a pair in use lose the position with causes 5 and 1, one of a pair not in use
does nothing; a sample point latches a QUAD port's counted position; an output edge of an emulation channel moves CNT by one
toward its target and its levels by one place of the sequence, in the direction that INV gives. Under its clause's conditions on
the state and the operands alone, exec answers a next state with the command's own effect: quadEdge, indexEdge, hallTransition,
hallInvalidTimeout, lineFault, adcSample, emuEdgeOutput. Where a clause rests on a choice or a reading of the model and not on a
rule, it is that of log entries 13 (DESIGN CHOICE), 59 (DEDUCED), 60 (DESIGN CHOICE), 63 (DEDUCED), 127 (DESIGN CHOICE). (R270;
R271; R272; R273; R274; R275; R276; R291; R293; R296; R297) -/
def Obligations.PositionSensorsCount : Prop :=
  ∀ (s : State) (a : Fin 24) (q : Fin 6) (k : Fin 4) (na nb level b : Bool) (code : BitVec 3) (n : Fin 2),
    ((s.port a).mode = 1 → quadMove (s.port a).la (s.port a).lb na nb = (if s.inForce (F.FB_AX_CFG_INV a) = 1 then 3 else 1) → s.filterPasses a (s.port a).aAt = true → s.filterPasses a (s.port a).bAt = true →
      ∃ u, exec (.quadEdge a na nb) s = .next u ∧ ((u.port a).t, (u.port a).r) = (if (s.port a).r + 1 = s.inForce (F.FB_AX_CPE_CPE a) then (((s.port a).t + 1) % 2 ^ 24, 0) else ((s.port a).t, (s.port a).r + 1)) ∧ u.bit (F.FB_AX_STAT_DIR a) = false ∧ sameMem s u ∧ sameRegs (blocksIcu [0x803, 0x807, 0x809, 0x80A, 0x810, 0xC00]) s u) ∧
    ((s.port a).mode = 1 → quadMove (s.port a).la (s.port a).lb na nb = (if s.inForce (F.FB_AX_CFG_INV a) = 1 then 1 else 3) → s.filterPasses a (s.port a).aAt = true → s.filterPasses a (s.port a).bAt = true →
      ∃ u, exec (.quadEdge a na nb) s = .next u ∧ ((u.port a).t, (u.port a).r) = (if (s.port a).r = 0 then (((s.port a).t + 2 ^ 24 - 1) % 2 ^ 24, s.inForce (F.FB_AX_CPE_CPE a) - 1) else ((s.port a).t, (s.port a).r - 1)) ∧ u.bit (F.FB_AX_STAT_DIR a) = true ∧ sameMem s u ∧ sameRegs (blocksIcu [0x803, 0x807, 0x809, 0x80A, 0x810, 0xC00]) s u) ∧
    ((s.port a).mode = 1 → quadMove (s.port a).la (s.port a).lb na nb = 2 → s.filterPasses a (s.port a).aAt = true → s.filterPasses a (s.port a).bAt = true → s.rd (F.FB_AX_CNT_QERRCNT a) < 255 →
      ∃ u, exec (.quadEdge a na nb) s = .next u ∧ (u.port a).t = (s.port a).t ∧ (u.port a).r = (s.port a).r ∧ u.bit (F.FB_AX_FLAG_QERR a) = true ∧ u.rd (F.FB_AX_CNT_QERRCNT a) = s.rd (F.FB_AX_CNT_QERRCNT a) + 1 ∧ sameMem s u ∧ sameRegs (blocksIcu [0x803, 0x807, 0x809, 0x80A, 0x810, 0xC00]) s u) ∧
    ((s.port a).mode = 1 → s.filterPasses a (s.port a).aAt = false → s.filterPasses a (s.port a).bAt = false →
      ∃ u, exec (.quadEdge a na nb) s = .next u ∧ u.port a = s.port a ∧ sameMem s u ∧ sameRegs (blocksIcu [0x803, 0x807, 0x809, 0x80A, 0x810, 0xC00]) s u) ∧
    ((s.port a).mode = 1 → s.filterPasses a (s.port a).zAt = true → level ≠ (s.port a).lz → level ≠ (s.inForce (F.FB_AX_CFG_ZPOL a) == 1) →
      ∃ u, exec (.indexEdge ⟨a, level⟩) s = .next u ∧ u.bit (F.FB_AX_FLAG_ZEVT a) = true ∧ u.reg (A.FB_AX_ZCAP a) = gridPos (s.inForce (F.FB_AX_CPE_CPE a)) (s.port a).t (s.port a).r ∧ sameMem s u ∧ sameRegs (blocksIcu [0x803, 0x807, 0x809, 0x80A, 0x810]) s u) ∧
    ((s.port a).mode = 1 → level = (s.inForce (F.FB_AX_CFG_ZPOL a) == 1) →
      ∃ u, exec (.indexEdge ⟨a, level⟩) s = .next u ∧ u.regs = s.regs ∧ sameMem s u) ∧
    ((s.port a).mode = 2 → code.toNat ≠ 0 → code.toNat ≠ 7 → s.filterPasses a (s.port a).aAt = true → s.filterPasses a (s.port a).bAt = true → s.filterPasses a (s.port a).zAt = true →
      ∃ u, exec (.hallTransition a code) s = .next u ∧ (u.port a).sector = hallSector (s.inForce (F.FB_AX_CFG_INV a) == 1) code.toNat ∧ sameMem s u ∧ sameRegs (blocksIcu [0x803, 0x807, 0x809, 0x80A, 0x810, 0xC00]) s u) ∧
    ((s.port a).mode = 2 → (code.toNat = 0 ∨ code.toNat = 7) → s.filterPasses a (s.port a).aAt = true → s.filterPasses a (s.port a).bAt = true → s.filterPasses a (s.port a).zAt = true →
      ∃ u, exec (.hallTransition a code) s = .next u ∧ (u.port a).sector = (s.port a).sector ∧ (u.port a).t = (s.port a).t ∧ (u.port a).r = (s.port a).r ∧ (u.port a).hpos = (s.port a).hpos ∧ u.bit (F.FB_AX_FLAG_HALLERR a) = true ∧ sameMem s u ∧ sameRegs (blocksIcu [0x803, 0x807, 0x809, 0x80A, 0x810, 0xC00]) s u) ∧
    ((s.port a).mode = 2 →
      ∃ u, exec (.hallInvalidTimeout a) s = .next u ∧ u.bit (F.FB_AX_STAT_POSVALID a) = false ∧ u.rd (F.FB_AX_STAT_LOSS a) = 5 ∧ sameMem s u ∧ sameRegs (blocksIcu [0x803, 0x807, 0x809, 0x80A, 0x810]) s u) ∧
    (s.pairUsed a b = true →
      ∃ u, exec (.lineFault ⟨a, b, true⟩) s = .next u ∧ u.bit (F.FB_AX_FLAG_LINEFLT a) = true ∧ u.bit (F.FB_AX_STAT_POSVALID a) = false ∧ u.bit (F.FB_AX_STAT_REF a) = false ∧ u.rd (F.FB_AX_STAT_LOSS a) = 1 ∧ sameMem s u ∧ sameRegs (blocksIcu [0x803, 0x807, 0x809, 0x80A, 0x810]) s u) ∧
    (s.pairUsed a b = false →
      ∃ u, exec (.lineFault ⟨a, b, true⟩) s = .next u ∧ u.port a = s.port a ∧ u.regs = s.regs ∧ sameMem s u) ∧
    (s.pairUsed a b = true →
      ∃ u, exec (.lineFault ⟨a, b, false⟩) s = .next u ∧ (if b then (u.port a).faultB else (u.port a).faultA) = false ∧ u.regs = s.regs ∧ sameMem s u) ∧
    (s.sampling q = true → (s.port (4 * q + k)).mode = 1 → (s.port (4 * q + k)).preset = false → s.bit (F.FB_AX_STAT_POSVALID (4 * q + k)) = true →
      ∃ u, exec (.adcSample q false) s = .next u ∧ u.reg (A.FB_AX_POSS (4 * q + k)) = gridPos (s.inForce (F.FB_AX_CPE_CPE (4 * q + k))) (s.port (4 * q + k)).t (s.port (4 * q + k)).r ∧ sameMem s u ∧ sameRegs (blocks [0x807, 0x809]) s u) ∧
    (s.emuDrives n = true → (s.emu n).left ≠ 0 →
      ∃ u, exec (.emuEdgeOutput n) s = .next u ∧ u.rdS (F.FB_EMU_CNT_CNT n) = wrap48 (s.rdS (F.FB_EMU_CNT_CNT n) + (if (s.emu n).left < 0 then -1 else 1)) ∧ (u.emu n).left = (s.emu n).left - (if (s.emu n).left < 0 then -1 else 1) ∧ (u.emu n).place = ((s.emu n).place + (if decide (0 < (s.emu n).left) = (s.inForce (F.FB_EMU_CTL_INV n) == 1) then 3 else 1)) % 4 ∧ sameRegs (fun x ↦ x == A.FB_EMU_CNT n) s u ∧ sameMem s u)

/-- Serial transactions, and the commands and settings of a feedback port: A trigger starts a transaction, on a Tephra port with
the request of the command that waits; the SYNC of a reply leaves 4501 cycles for its end; a rejected one counts and keeps the
position, the first accepted one gives the position of the absolute value and validates it; an encoder error is a loss with
cause 6; an ID reply goes to TID. ZARM, TID, TCLR, PRESET and REVAL act when they may; POSS reads with SPDS and STAT of its
sample point latched for its reader, in the cycle of a new set the set before it; the port's settings are taken in STANDBY and
the emulation's in STANDBY, ARMED and RUN, in force from the next frame tick, a field out of its range sets CFG_ERR, and a write
is refused in the other modes. Under its clause's conditions on the state and the operands alone, exec answers a next state with
the command's own effect: serialTrigger, ssiTransactionDone, tephraReply, tephraTimeout, fbZarm, fbTid, fbTclr, fbReval,
fbPossRead, fbConfigWrite, emuCtlWrite. Where a clause rests on a choice or a reading of the model and not on a rule, it is that
of log entry 148 (DESIGN CHOICE). (R274; R277; R278; R279; R281; R282; R283; R291; R292; R293; R298; R299) -/
def Obligations.SerialEncodersAndFeedbackCommands : Prop :=
  ∀ (s : State) (w r : Writer) (a : Fin 24) (i : Fin 5) (n : Fin 2) (v raw : Word) (l : List Byte) (b : Bool),
    (((s.port a).mode = 3 ∨ (s.port a).mode = 4) → s.fbFrozen = false → s.bit (F.FB_AX_FLAG_TRIG_ERR a) = false → ((s.port a).mode = 4 ∨ s.serOk a = true) → s.encOn (a / 4) = true →
      ∃ u, exec (.serialTrigger a) s = .next u ∧ (u.port a).busy = true ∧ ((s.port a).mode = 4 → (u.port a).sent = (s.port a).nextCmd ∧ (u.port a).request = tephraRequest (s.port a).nextCmd ∧ (u.port a).nextCmd = 0) ∧ u.regs = s.regs ∧ sameMem s u) ∧
    ((s.port a).mode = 3 → (s.port a).busy = true → s.rd (F.FB_AX_CNT_SERERRCNT a) < 255 →
      ∃ u, exec (.ssiTransactionDone a raw false) s = .next u ∧ (u.port a).busy = false ∧ (u.port a).pser = (s.port a).pser ∧ u.bit (F.FB_AX_FLAG_SERERR a) = true ∧ u.rd (F.FB_AX_CNT_SERERRCNT a) = s.rd (F.FB_AX_CNT_SERERRCNT a) + 1 ∧ sameMem s u ∧ sameRegs (blocksIcu [0x803, 0x807, 0x809, 0x80A, 0x810, 0xC00]) s u) ∧
    ((s.port a).mode = 3 → (s.port a).busy = true → (s.port a).prevA = none → s.encOn (a / 4) = true →
      ∃ u, exec (.ssiTransactionDone a raw true) s = .next u ∧ (u.port a).pser = wordOf (serAbs (s.inForce (F.FB_AX_SER_BITS a)) (s.inForce (F.FB_AX_SER_ST a)) (s.inForce (F.FB_AX_SER_GRAY a) == 1) (s.inForce (F.FB_AX_SER_MTSIGN a) == 1) raw.toNat).1 + (s.port a).ofs ∧ u.bit (F.FB_AX_STAT_POSVALID a) = true ∧ (u.port a).busy = false ∧ sameMem s u ∧ sameRegs (blocksIcu [0x803, 0x807, 0x809, 0x80A, 0x810, 0xC00]) s u) ∧
    ((s.port a).mode = 4 → (s.port a).busy = true → l.length = 7 → crc8 (l.take 6) = (l.getD 6 0).toNat → (l.getD 0 0).getLsbD 7 = true →
      ∃ u, exec (.tephraReply a (some l) false) s = .next u ∧ u.bit (F.FB_AX_FLAG_ENCERR a) = true ∧ u.bit (F.FB_AX_STAT_POSVALID a) = false ∧ u.rd (F.FB_AX_STAT_LOSS a) = 6 ∧ (u.port a).busy = false ∧ sameRegs (blocksIcu [0x803, 0x807, 0x809, 0x80A, 0x810, 0xC00]) s u ∧ sameMem s u) ∧
    ((s.port a).mode = 4 → (s.port a).busy = true → l.length = 7 → crc8 (l.take 6) = (l.getD 6 0).toNat → (l.getD 0 0).getLsbD 7 = false → (s.port a).sent = 1 →
      ∃ u, exec (.tephraReply a (some l) false) s = .next u ∧ u.reg (A.FB_AX_TID a) = BitVec.ofNat 48 (beNat (l.take 6)) ∧ (u.port a).pser = (s.port a).pser ∧ (u.port a).busy = false ∧ sameMem s u ∧ sameRegs (blocksIcu [0x803, 0x807, 0x809, 0x80A, 0x810, 0xC00]) s u) ∧
    ((s.port a).mode = 4 → (s.port a).busy = true →
      ∃ u, exec (.tephraReply a none b) s = .next u ∧ u.dueIn 4501 (.tephraTimeout a) = true ∧ u.port a = s.port a ∧ u.regs = s.regs ∧ sameMem s u) ∧
    ((s.port a).mode = 4 → (s.port a).busy = true → s.rd (F.FB_AX_CNT_SERERRCNT a) < 255 →
      ∃ u, exec (.tephraTimeout a) s = .next u ∧ (u.port a).busy = false ∧ u.bit (F.FB_AX_FLAG_SERERR a) = true ∧ u.rd (F.FB_AX_CNT_SERERRCNT a) = s.rd (F.FB_AX_CNT_SERERRCNT a) + 1 ∧ sameMem s u ∧ sameRegs (blocksIcu [0x803, 0x807, 0x809, 0x80A, 0x810, 0xC00]) s u) ∧
    (s.operating = true → isCore w = true →
      ∃ u, exec (.fbZarm w a) s = .next u ∧ u.bit (F.FB_AX_STAT_ZARMED a) = true ∧ sameRegs (fun x ↦ x == A.FB_AX_STAT a) s u ∧ sameMem s u) ∧
    (s.operating = true → isCore w = true → ((s.port a).mode == 4 && (s.port a).busy && s.sameAs (s.port a).trigAt) = false →
      ∃ u, exec (.fbTid w a) s = .next u ∧ (u.port a).nextCmd = 1 ∧ u.regs = s.regs ∧ sameMem s u) ∧
    (s.operating = true → isCore w = true → ((s.port a).mode == 4 && (s.port a).busy && s.sameAs (s.port a).trigAt) = false →
      ∃ u, exec (.fbTclr w a) s = .next u ∧ (u.port a).nextCmd = 2 ∧ u.regs = s.regs ∧ sameMem s u) ∧
    (s.operating = true → isCore w = true →
      ∃ u, exec (.fbPreset w a) s = .next u ∧ (if s.mode = .standby ∨ s.mode = .armed ∨ (s.mode = .run ∧ (s.leMode a = 0 ∨ s.leMode a = 4)) then (u.port a).preset = true ∧ u.regs = s.regs else (u.port a).preset = (s.port a).preset ∧ u.bit (F.FB_AX_FLAG_WR_REFUSED a) = true) ∧ sameMem s u) ∧
    (s.operating = true → isCore w = true →
      ∃ u, exec (.fbReval w a) s = .next u ∧ u.bit (F.FB_AX_STAT_POSVALID a) = (s.bit (F.FB_AX_STAT_POSVALID a) || s.mayReval a) ∧ sameRegs (fun x ↦ x == A.FB_AX_STAT a || x == A.FB_AX_POS a) s u ∧ sameMem s u) ∧
    (s.operating = true → isCore r = true → s.thisCycle (s.port a).setAt = false →
      ∃ u, exec (.fbPossRead r a) s = .next u ∧ u.rdata = s.reg (A.FB_AX_POSS a) ∧ u.possLatched r a 1 = s.reg (A.FB_AX_SPDS a) ∧ u.possLatched r a 2 = (s.port a).stat ∧ u.regs = s.regs ∧ sameMem s u) ∧
    (s.operating = true → isCore r = true → s.thisCycle (s.port a).setAt = true →
      ∃ u, exec (.fbPossRead r a) s = .next u ∧ u.rdata = (s.port a).shown.getD 0 0 ∧ u.regs = s.regs ∧ sameMem s u) ∧
    (s.operating = true → isCore w = true → s.mode = .standby → rowInRange (fieldsAt (fbCfgAddr a i)) v = true →
      ∃ u, exec (.fbConfigWrite w a i v) s = .next u ∧ u.reg (fbCfgAddr a i) = rowWrite false (fieldsAt (fbCfgAddr a i)) (s.reg (fbCfgAddr a i)) v ∧ u.regInForce (fbCfgAddr a i) = s.regInForce (fbCfgAddr a i) ∧ sameRegs (fun x ↦ x == fbCfgAddr a i) s u ∧ sameMem s u) ∧
    (s.operating = true → isCore w = true → s.mode = .standby → rowInRange (fieldsAt (fbCfgAddr a i)) v = false → i ≠ 2 →
      ∃ u, exec (.fbConfigWrite w a i v) s = .next u ∧ u.bit (F.FB_AX_FLAG_CFG_ERR a) = true ∧ sameRegs (fun x ↦ x == fbCfgAddr a i || x == A.FB_AX_FLAG a || icuReach x) s u ∧ sameMem s u) ∧
    (s.operating = true → isCore w = true → s.mode ≠ .standby → rowWrite false (fieldsAt (fbCfgAddr a i)) (s.reg (fbCfgAddr a i)) v ≠ s.reg (fbCfgAddr a i) →
      ∃ u, exec (.fbConfigWrite w a i v) s = .next u ∧ u.reg (fbCfgAddr a i) = s.reg (fbCfgAddr a i) ∧ u.bit (F.FB_AX_FLAG_WR_REFUSED a) = true ∧ sameRegs (fun x ↦ x == A.FB_AX_FLAG a || icuReach x) s u ∧ sameMem s u) ∧
    (s.operating = true → isCore w = true → (s.mode = .standby ∨ s.mode = .armed ∨ s.mode = .run) → rowInRange (fieldsAt (A.FB_EMU_CTL n)) v = true →
      ∃ u, exec (.emuCtlWrite w n v) s = .next u ∧ u.reg (A.FB_EMU_CTL n) = rowWrite false (fieldsAt (A.FB_EMU_CTL n)) (s.reg (A.FB_EMU_CTL n)) v ∧ u.regInForce (A.FB_EMU_CTL n) = s.regInForce (A.FB_EMU_CTL n) ∧ sameRegs (fun x ↦ x == A.FB_EMU_CTL n) s u ∧ sameMem s u) ∧
    (s.operating = true → isCore w = true → s.mode = .safeStop → rowWrite false (fieldsAt (A.FB_EMU_CTL n)) (s.reg (A.FB_EMU_CTL n)) v ≠ s.reg (A.FB_EMU_CTL n) →
      ∃ u, exec (.emuCtlWrite w n v) s = .next u ∧ u.reg (A.FB_EMU_CTL n) = s.reg (A.FB_EMU_CTL n) ∧ u.bit (F.FB_EMU_STAT_WR_REFUSED n) = true ∧ sameRegs (fun x ↦ x == A.FB_EMU_STAT n) s u ∧ sameMem s u)

/-- The register instructions of a Zenou core: For every core that stands before an instruction, the listed register instruction
writes its result into rd and moves the pc 6 further; every other register, special register, core, module register and byte of
memory is as it was. Division by 0 gives the quotient 0 and the remainder ra. Under its clause's conditions on the state and the
operands alone, exec answers a next state with the command's own effect: add, sub, adds, subs, and, or, xor, andn, sll, srl,
sra, cmpeq, cmplt, cmpltu, min, max, mul, mulh, mulhu, div, divu, rem, remu, mulf, macf. (R384; R386) -/
def Obligations.RegisterInstructionsCompute : Prop :=
  ∀ (s : State) (c : Fin 5) (f : Fields),
    s.atInstruction c = true →
    (regs3 f = true → f.imm = 0 →
      ∃ u, exec (.add c f) s = .next u ∧ u.getR c f.rd = s.getR c f.ra + s.getR c f.rb ∧ computeFrame s u c f.rd) ∧
    (regs3 f = true → f.imm = 0 →
      ∃ u, exec (.sub c f) s = .next u ∧ u.getR c f.rd = s.getR c f.ra - s.getR c f.rb ∧ computeFrame s u c f.rd) ∧
    (regs3 f = true → f.imm = 0 →
      ∃ u, exec (.adds c f) s = .next u ∧ u.getR c f.rd = satWord ((s.getR c f.ra).toInt + (s.getR c f.rb).toInt) ∧ computeFrame s u c f.rd) ∧
    (regs3 f = true → f.imm = 0 →
      ∃ u, exec (.subs c f) s = .next u ∧ u.getR c f.rd = satWord ((s.getR c f.ra).toInt - (s.getR c f.rb).toInt) ∧ computeFrame s u c f.rd) ∧
    (regs3 f = true → f.imm = 0 →
      ∃ u, exec (.and c f) s = .next u ∧ u.getR c f.rd = s.getR c f.ra &&& s.getR c f.rb ∧ computeFrame s u c f.rd) ∧
    (regs3 f = true → f.imm = 0 →
      ∃ u, exec (.or c f) s = .next u ∧ u.getR c f.rd = s.getR c f.ra ||| s.getR c f.rb ∧ computeFrame s u c f.rd) ∧
    (regs3 f = true → f.imm = 0 →
      ∃ u, exec (.xor c f) s = .next u ∧ u.getR c f.rd = s.getR c f.ra ^^^ s.getR c f.rb ∧ computeFrame s u c f.rd) ∧
    (regs3 f = true → f.imm = 0 →
      ∃ u, exec (.andn c f) s = .next u ∧ u.getR c f.rd = s.getR c f.ra &&& ~~~(s.getR c f.rb) ∧ computeFrame s u c f.rd) ∧
    (regs3 f = true → f.imm = 0 →
      ∃ u, exec (.sll c f) s = .next u ∧ u.getR c f.rd = (s.getR c f.ra) <<< ((s.getR c f.rb).toNat % 64) ∧ computeFrame s u c f.rd) ∧
    (regs3 f = true → f.imm = 0 →
      ∃ u, exec (.srl c f) s = .next u ∧ u.getR c f.rd = (s.getR c f.ra) >>> ((s.getR c f.rb).toNat % 64) ∧ computeFrame s u c f.rd) ∧
    (regs3 f = true → f.imm = 0 →
      ∃ u, exec (.sra c f) s = .next u ∧ u.getR c f.rd = (s.getR c f.ra).sshiftRight ((s.getR c f.rb).toNat % 64) ∧ computeFrame s u c f.rd) ∧
    (regs3 f = true → f.imm = 0 →
      ∃ u, exec (.cmpeq c f) s = .next u ∧ u.getR c f.rd = (if s.getR c f.ra = s.getR c f.rb then 1 else 0) ∧ computeFrame s u c f.rd) ∧
    (regs3 f = true → f.imm = 0 →
      ∃ u, exec (.cmplt c f) s = .next u ∧ u.getR c f.rd = (if (s.getR c f.ra).toInt < (s.getR c f.rb).toInt then 1 else 0) ∧ computeFrame s u c f.rd) ∧
    (regs3 f = true → f.imm = 0 →
      ∃ u, exec (.cmpltu c f) s = .next u ∧ u.getR c f.rd = (if (s.getR c f.ra).toNat < (s.getR c f.rb).toNat then 1 else 0) ∧ computeFrame s u c f.rd) ∧
    (regs3 f = true → f.imm = 0 →
      ∃ u, exec (.min c f) s = .next u ∧ u.getR c f.rd = (if (s.getR c f.ra).toInt ≤ (s.getR c f.rb).toInt then s.getR c f.ra else s.getR c f.rb) ∧ computeFrame s u c f.rd) ∧
    (regs3 f = true → f.imm = 0 →
      ∃ u, exec (.max c f) s = .next u ∧ u.getR c f.rd = (if (s.getR c f.ra).toInt ≥ (s.getR c f.rb).toInt then s.getR c f.ra else s.getR c f.rb) ∧ computeFrame s u c f.rd) ∧
    (regs3 f = true → f.imm = 0 →
      ∃ u, exec (.mul c f) s = .next u ∧ u.getR c f.rd = BitVec.ofNat 48 ((s.getR c f.ra).toNat * (s.getR c f.rb).toNat) ∧ computeFrame s u c f.rd) ∧
    (regs3 f = true → f.imm = 0 →
      ∃ u, exec (.mulh c f) s = .next u ∧ u.getR c f.rd = BitVec.ofInt 48 ((s.getR c f.ra).toInt * (s.getR c f.rb).toInt / 2 ^ 48) ∧ computeFrame s u c f.rd) ∧
    (regs3 f = true → f.imm = 0 →
      ∃ u, exec (.mulhu c f) s = .next u ∧ u.getR c f.rd = BitVec.ofNat 48 ((s.getR c f.ra).toNat * (s.getR c f.rb).toNat / 2 ^ 48) ∧ computeFrame s u c f.rd) ∧
    (regs3 f = true → f.imm = 0 →
      ∃ u, exec (.div c f) s = .next u ∧ u.getR c f.rd = (if s.getR c f.rb = 0 then 0 else BitVec.ofInt 48 (Int.tdiv (s.getR c f.ra).toInt (s.getR c f.rb).toInt)) ∧ computeFrame s u c f.rd) ∧
    (regs3 f = true → f.imm = 0 →
      ∃ u, exec (.divu c f) s = .next u ∧ u.getR c f.rd = (if s.getR c f.rb = 0 then 0 else BitVec.ofNat 48 ((s.getR c f.ra).toNat / (s.getR c f.rb).toNat)) ∧ computeFrame s u c f.rd) ∧
    (regs3 f = true → f.imm = 0 →
      ∃ u, exec (.rem c f) s = .next u ∧ u.getR c f.rd = (if s.getR c f.rb = 0 then s.getR c f.ra else BitVec.ofInt 48 (Int.tmod (s.getR c f.ra).toInt (s.getR c f.rb).toInt)) ∧ computeFrame s u c f.rd) ∧
    (regs3 f = true → f.imm = 0 →
      ∃ u, exec (.remu c f) s = .next u ∧ u.getR c f.rd = (if s.getR c f.rb = 0 then s.getR c f.ra else BitVec.ofNat 48 ((s.getR c f.ra).toNat % (s.getR c f.rb).toNat)) ∧ computeFrame s u c f.rd) ∧
    (regs3 f = true → f.imm.toNat < 48 →
      ∃ u, exec (.mulf c f) s = .next u ∧ u.getR c f.rd = satWord (roundShift ((s.getR c f.ra).toInt * (s.getR c f.rb).toInt) f.imm.toNat) ∧ computeFrame s u c f.rd) ∧
    (regs3 f = true → f.imm.toNat < 48 →
      ∃ u, exec (.macf c f) s = .next u ∧ u.getR c f.rd = satWord ((s.getR c f.rd).toInt + roundShift ((s.getR c f.ra).toInt * (s.getR c f.rb).toInt) f.imm.toNat) ∧ computeFrame s u c f.rd)

/-- The bit-field and immediate instructions of a Zenou core: The same for CLZ, EXTB, INSB, PERM and the instructions with an
immediate: the stated result in rd and the pc 6 further, and nothing else changed; NOP moves the pc alone. Under its clause's
conditions on the state and the operands alone, exec answers a next state with the command's own effect: clz, extb, insb, perm,
addi, andi, ori, xori, slli, srli, srai, cmpeqi, cmplti, cmpltui, ldhi, ldi, nop. Where a clause rests on a choice or a reading
of the model and not on a rule, it is that of log entry 111 (DEDUCED). (R383; R384; R386; R388; R389; R390) -/
def Obligations.ImmediateInstructionsCompute : Prop :=
  ∀ (s : State) (c : Fin 5) (f : Fields) (j : JFields),
    s.atInstruction c = true →
    (regOk f.rd = true → regOk f.ra = true → f.rb = 0 → f.imm = 0 →
      ∃ u, exec (.clz c f) s = .next u ∧ u.getR c f.rd = BitVec.ofNat 48 (leadingZeros (s.getR c f.ra)) ∧ computeFrame s u c f.rd) ∧
    (regOk f.rd = true → regOk f.ra = true → f.rb = 0 → fieldOk f true = true →
      ∃ u, exec (.extb c f) s = .next u ∧ u.getR c f.rd = extractBits (f.imm.toNat % 64) (f.imm.toNat / 64 % 64) (f.imm.getLsbD 12) (s.getR c f.ra) ∧ computeFrame s u c f.rd) ∧
    (regOk f.rd = true → regOk f.ra = true → f.rb = 0 → fieldOk f false = true →
      ∃ u, exec (.insb c f) s = .next u ∧ u.getR c f.rd = setBits (s.getR c f.rd) (f.imm.toNat % 64) (f.imm.toNat / 64 % 64) (getBits (s.getR c f.ra) 0 (f.imm.toNat / 64 % 64)) ∧ computeFrame s u c f.rd) ∧
    (regOk f.rd = true → regOk f.ra = true → f.rb = 0 → f.imm.toNat < 2 ^ 18 →
      ∃ u, exec (.perm c f) s = .next u ∧ (∀ i : Fin 6, getBits (u.getR c f.rd) (8 * i) 8 = (if f.imm.toNat / 2 ^ (3 * i.val) % 8 < 6 then getBits (s.getR c f.ra) (8 * (f.imm.toNat / 2 ^ (3 * i.val) % 8)) 8 else if f.imm.toNat / 2 ^ (3 * i.val) % 8 = 6 then 0 else 255)) ∧ computeFrame s u c f.rd) ∧
    (regOk f.rd = true → regOk f.ra = true → f.rb = 0 →
      ∃ u, exec (.addi c f) s = .next u ∧ u.getR c f.rd = s.getR c f.ra + f.imm.signExtend 48 ∧ computeFrame s u c f.rd) ∧
    (regOk f.rd = true → regOk f.ra = true → f.rb = 0 →
      ∃ u, exec (.andi c f) s = .next u ∧ u.getR c f.rd = s.getR c f.ra &&& f.imm.setWidth 48 ∧ computeFrame s u c f.rd) ∧
    (regOk f.rd = true → regOk f.ra = true → f.rb = 0 →
      ∃ u, exec (.ori c f) s = .next u ∧ u.getR c f.rd = s.getR c f.ra ||| f.imm.setWidth 48 ∧ computeFrame s u c f.rd) ∧
    (regOk f.rd = true → regOk f.ra = true → f.rb = 0 →
      ∃ u, exec (.xori c f) s = .next u ∧ u.getR c f.rd = s.getR c f.ra ^^^ f.imm.setWidth 48 ∧ computeFrame s u c f.rd) ∧
    (regOk f.rd = true → regOk f.ra = true → f.rb = 0 → f.imm.toNat < 48 →
      ∃ u, exec (.slli c f) s = .next u ∧ u.getR c f.rd = (s.getR c f.ra) <<< f.imm.toNat ∧ computeFrame s u c f.rd) ∧
    (regOk f.rd = true → regOk f.ra = true → f.rb = 0 → f.imm.toNat < 48 →
      ∃ u, exec (.srli c f) s = .next u ∧ u.getR c f.rd = (s.getR c f.ra) >>> f.imm.toNat ∧ computeFrame s u c f.rd) ∧
    (regOk f.rd = true → regOk f.ra = true → f.rb = 0 → f.imm.toNat < 48 →
      ∃ u, exec (.srai c f) s = .next u ∧ u.getR c f.rd = (s.getR c f.ra).sshiftRight f.imm.toNat ∧ computeFrame s u c f.rd) ∧
    (regOk f.rd = true → regOk f.ra = true → f.rb = 0 →
      ∃ u, exec (.cmpeqi c f) s = .next u ∧ u.getR c f.rd = (if s.getR c f.ra = f.imm.signExtend 48 then 1 else 0) ∧ computeFrame s u c f.rd) ∧
    (regOk f.rd = true → regOk f.ra = true → f.rb = 0 →
      ∃ u, exec (.cmplti c f) s = .next u ∧ u.getR c f.rd = (if (s.getR c f.ra).toInt < (f.imm.signExtend 48).toInt then 1 else 0) ∧ computeFrame s u c f.rd) ∧
    (regOk f.rd = true → regOk f.ra = true → f.rb = 0 →
      ∃ u, exec (.cmpltui c f) s = .next u ∧ u.getR c f.rd = (if (s.getR c f.ra).toNat < (f.imm.signExtend 48).toNat then 1 else 0) ∧ computeFrame s u c f.rd) ∧
    (regOk f.rd = true → f.ra = 0 → f.rb = 0 → f.imm.toNat < 2 ^ 14 →
      ∃ u, exec (.ldhi c f) s = .next u ∧ getBits (u.getR c f.rd) 34 14 = f.imm.toNat ∧ getBits (u.getR c f.rd) 0 34 = getBits (s.getR c f.rd) 0 34 ∧ computeFrame s u c f.rd) ∧
    (regOk j.rd = true →
      ∃ u, exec (.ldi c j) s = .next u ∧ u.getR c j.rd = j.imm.signExtend 48 ∧ computeFrame s u c j.rd) ∧
    (f.rd = 0 → f.ra = 0 → f.rb = 0 → f.imm = 0 →
      ∃ u, exec (.nop c f) s = .next u ∧ u.pc c = s.pc c + 6 ∧ flowFrame s u c)

/-- CLZ: CLZ of a word whose highest set bit is bit k writes 47 − k, the number of zero bits above it; of 0 it writes 48; of
0x0000_0100_0000 it writes 23. Under its clause's conditions on the state and the operands alone, exec answers a next state with
the command's own effect: clz. (R389) -/
def Obligations.CountLeadingZeros : Prop :=
  ∀ (s : State) (c : Fin 5) (f : Fields) (k : Fin 48),
    s.atInstruction c = true → regOk f.rd = true → regOk f.ra = true → f.rb = 0 → f.imm = 0 →
    ((s.getR c f.ra).getLsbD k = true → (∀ i : Fin 48, k < i → (s.getR c f.ra).getLsbD i = false) →
      ∃ u, exec (.clz c f) s = .next u ∧ (u.getR c f.rd).toNat = 47 - k.val ∧ computeFrame s u c f.rd) ∧
    (s.getR c f.ra = 0 →
      ∃ u, exec (.clz c f) s = .next u ∧ u.getR c f.rd = 48 ∧ computeFrame s u c f.rd) ∧
    (s.getR c f.ra = 0x000001000000 →
      ∃ u, exec (.clz c f) s = .next u ∧ u.getR c f.rd = 23 ∧ computeFrame s u c f.rd)

/-- Loads, stores, reservations and block elements of a Zenou core: Where the access can be made, a load writes rd from the
bytes at ra + imm22, zero- or sign-extended; a store in deterministic mode leaves the low bytes of rb there and every other byte
as it was, in throughput mode it enters the store buffer with every byte as it was, and a drain writes the oldest entry; LDL
also reserves the row; STC stores and answers 1 under the reservation of its row and otherwise answers 0 with every byte as it
was; one element of a block instruction moves, fills, compares or scans 6 bytes and advances its registers. Under its clause's
conditions on the state and the operands alone, exec answers a next state with the command's own effect: ld1, ld2, ld6, st1,
st2, st6, storeBufferDrain, ldl, stc, movblk, fillblk, cmpblk, scanblk. Where a clause rests on a choice or a reading of the
model and not on a rule, it is that of log entries 111 (DEDUCED), 113 (DEDUCED), 114 (DESIGN CHOICE), 136 (DESIGN CHOICE).
(R357; R371; R375; R387; R395; R396; R400) -/
def Obligations.CoreMemoryAccesses : Prop :=
  ∀ (s : State) (c : Fin 5) (f : Fields) (sx : Bool) (e : Nat × List Byte),
    (s.atInstruction c = true → illI f = false → s.loadsPlain c (s.ea c f) 1 = true →
      ∃ u, exec (.ld1 c sx f) s = .next u ∧ u.getR c f.rd = extendLoad 1 sx (leNat (s.bytes (localOf (s.ea c f)) 1)) ∧ u.pc c = s.pc c + 6 ∧ u.regs = s.regs ∧ sameMem s u) ∧
    (s.atInstruction c = true → illI f = false → s.loadsPlain c (s.ea c f) 2 = true →
      ∃ u, exec (.ld2 c sx f) s = .next u ∧ u.getR c f.rd = extendLoad 2 sx (leNat (s.bytes (localOf (s.ea c f)) 2)) ∧ u.pc c = s.pc c + 6 ∧ u.regs = s.regs ∧ sameMem s u) ∧
    (s.atInstruction c = true → illI f = false → s.loadsPlain c (s.ea c f) 6 = true →
      ∃ u, exec (.ld6 c f) s = .next u ∧ u.getR c f.rd = BitVec.ofNat 48 (leNat (s.bytes (localOf (s.ea c f)) 6)) ∧ u.pc c = s.pc c + 6 ∧ u.regs = s.regs ∧ sameMem s u) ∧
    (s.atInstruction c = true → illS f = false → s.storesPlain c (s.ea c f) 1 = true → s.deterministic c = true →
      ∃ u, exec (.st1 c f) s = .next u ∧ u.bytes (localOf (s.ea c f)) 1 = leBytes 1 (s.getR c f.rb).toNat ∧ u.pc c = s.pc c + 6 ∧ u.regs = s.regs ∧ sameBytes (fun x ↦ decide (localOf (s.ea c f) = x)) s u) ∧
    (s.atInstruction c = true → illS f = false → s.storesPlain c (s.ea c f) 2 = true → s.deterministic c = true →
      ∃ u, exec (.st2 c f) s = .next u ∧ u.bytes (localOf (s.ea c f)) 2 = leBytes 2 (s.getR c f.rb).toNat ∧ u.pc c = s.pc c + 6 ∧ u.regs = s.regs ∧ sameBytes (fun x ↦ decide (localOf (s.ea c f) ≤ x ∧ x < localOf (s.ea c f) + 2)) s u) ∧
    (s.atInstruction c = true → illS f = false → s.storesPlain c (s.ea c f) 6 = true → s.deterministic c = true →
      ∃ u, exec (.st6 c f) s = .next u ∧ u.bytes (localOf (s.ea c f)) 6 = leBytes 6 (s.getR c f.rb).toNat ∧ u.pc c = s.pc c + 6 ∧ u.regs = s.regs ∧ sameBytes (fun x ↦ decide (localOf (s.ea c f) ≤ x ∧ x < localOf (s.ea c f) + 6)) s u) ∧
    (s.atInstruction c = true → illS f = false → s.storesPlain c (s.ea c f) 6 = true → s.deterministic c = false → s.ownIsram c (localOf (s.ea c f)) = false → s.ea c f % 16 ≤ 10 →
      ∃ u, exec (.st6 c f) s = .next u ∧ (u.core c).sbuf = [(localOf (s.ea c f), leBytes 6 (s.getR c f.rb).toNat)] ∧ u.pc c = s.pc c + 6 ∧ u.regs = s.regs ∧ sameMem s u) ∧
    ((s.core c).sbuf = e :: (s.core c).sbuf.tail → e.2 ≠ [] → e.2.length ≤ 6 → s.memWriteErr (s.coreWriter c) e.1 e.2.length = none → (∀ i : Fin 6, region (e.1 + i) ≠ .table ∧ s.tornAt (e.1 + i) = none) →
      ∃ u, exec (.storeBufferDrain c) s = .next u ∧ (u.core c).sbuf = (s.core c).sbuf.tail ∧ u.bytes e.1 e.2.length = e.2 ∧ u.regs = s.regs ∧ sameBytes (fun x ↦ decide (e.1 ≤ x ∧ x < e.1 + e.2.length)) s u) ∧
    (s.atInstruction c = true → illI f = false → linkMisaligned (s.ea c f) = false → reservable c (s.ea c f) = true → s.loadsPlain c (s.ea c f) 6 = true →
      ∃ u, exec (.ldl c f) s = .next u ∧ u.getR c f.rd = BitVec.ofNat 48 (leNat (s.bytes (s.ea c f) 6)) ∧ (u.core c).resv = some (s.ea c f / 16 * 16) ∧ u.pc c = s.pc c + 6 ∧ u.regs = s.regs ∧ sameMem s u) ∧
    (s.atInstruction c = true → regs3 f = true → linkMisaligned (s.ea c f) = false → reservable c (s.ea c f) = true → s.storesPlain c (s.ea c f) 6 = true →
      ∃ u, exec (.stc c f) s = .next u ∧ (if (s.core c).resv = some (s.ea c f / 16 * 16) then u.getR c f.rd = 1 ∧ u.bytes (s.ea c f) 6 = leBytes 6 (s.getR c f.rb).toNat else u.getR c f.rd = 0 ∧ u.mem = s.mem) ∧ (u.core c).resv = none ∧ u.pc c = s.pc c + 6 ∧ u.regs = s.regs ∧ sameBytes (fun x ↦ decide (s.ea c f ≤ x ∧ x < s.ea c f + 6)) s u) ∧
    (s.atInstruction c = true → illBlock kindMov f = false → f.imm = 0 → s.getR c f.rb ≠ 0 → s.deterministic c = true → s.loadsPlain c (s.getR c f.ra).toNat 6 = true → s.storesPlain c (s.getR c f.rd).toNat 6 = true →
      ∃ u, exec (.movblk c f) s = .next u ∧ u.bytes (localOf (s.getR c f.rd).toNat) 6 = s.bytes (localOf (s.getR c f.ra).toNat) 6 ∧ u.getR c f.rd = s.getR c f.rd + 6 ∧ u.getR c f.ra = s.getR c f.ra + 6 ∧ u.getR c f.rb = s.getR c f.rb - 1 ∧ u.pc c = (if s.getR c f.rb = 1 then s.pc c + 6 else s.pc c) ∧ u.regs = s.regs ∧ sameBytes (fun x ↦ decide (localOf (s.getR c f.rd).toNat ≤ x ∧ x < localOf (s.getR c f.rd).toNat + 6)) s u) ∧
    (s.atInstruction c = true → illBlock kindFill f = false → s.getR c f.rb ≠ 0 → s.deterministic c = true → s.storesPlain c (s.getR c f.rd).toNat 6 = true →
      ∃ u, exec (.fillblk c f) s = .next u ∧ u.bytes (localOf (s.getR c f.rd).toNat) 6 = leBytes 6 (s.getR c f.ra).toNat ∧ u.getR c f.rd = s.getR c f.rd + 6 ∧ u.getR c f.ra = s.getR c f.ra ∧ u.getR c f.rb = s.getR c f.rb - 1 ∧ u.pc c = (if s.getR c f.rb = 1 then s.pc c + 6 else s.pc c) ∧ u.regs = s.regs ∧ sameBytes (fun x ↦ decide (localOf (s.getR c f.rd).toNat ≤ x ∧ x < localOf (s.getR c f.rd).toNat + 6)) s u) ∧
    (s.atInstruction c = true → illBlock kindCmp f = false → s.getR c f.rb ≠ 0 → s.loadsPlain c (s.getR c f.rd).toNat 6 = true → s.loadsPlain c (s.getR c f.ra).toNat 6 = true →
      ∃ u, exec (.cmpblk c f) s = .next u ∧ (if s.bytes (localOf (s.getR c f.rd).toNat) 6 = s.bytes (localOf (s.getR c f.ra).toNat) 6 then u.getR c f.rd = s.getR c f.rd + 6 ∧ u.getR c f.ra = s.getR c f.ra + 6 ∧ u.getR c f.rb = s.getR c f.rb - 1 else u.getR c f.rd = s.getR c f.rd ∧ u.getR c f.rb = s.getR c f.rb ∧ u.pc c = s.pc c + 6) ∧ u.regs = s.regs ∧ sameMem s u) ∧
    (s.atInstruction c = true → illBlock kindScan f = false → f.imm = 0 → s.getR c f.rb ≠ 0 → s.loadsPlain c (s.getR c f.rd).toNat 6 = true →
      ∃ u, exec (.scanblk c f) s = .next u ∧ (if BitVec.ofNat 48 (leNat (s.bytes (localOf (s.getR c f.rd).toNat) 6)) = s.getR c f.ra then u.getR c f.rd = s.getR c f.rd ∧ u.getR c f.rb = s.getR c f.rb ∧ u.pc c = s.pc c + 6 else u.getR c f.rd = s.getR c f.rd + 6 ∧ u.getR c f.rb = s.getR c f.rb - 1) ∧ u.regs = s.regs ∧ sameMem s u)

/-- Branches, jumps, windowed calls and returns, and the spill engine: A branch goes to the branch's address plus twice its
offset where its comparison holds and to the next instruction otherwise; JMP and JMPR go to their targets; CALL and CALLR slide
the window, write the link of R361 into w31 of the new window and go to the target; RET slides back to the link's group and goes
to its address; a spill stores the lowest resident group below WSP, a fill loads the group at WSP, FLUSHW spills all. In
throughput mode a call or return leaves the module's registers and memory as they were; a spill changes no byte but the stored
group's. Under its clause's conditions on the state and the operands alone, exec answers a next state with the command's own
effect: beq, bne, blt, bge, bltu, bgeu, jmp, jmpr, call, callr, ret, windowSpill, windowFill, flushw. Where a clause rests on a
choice or a reading of the model and not on a rule, it is that of log entries 111 (DEDUCED), 115 (DEDUCED), 120 (DEDUCED).
(R361; R362; R363; R366; R383; R387; R391; R394) -/
def Obligations.ControlTransfersAndWindows : Prop :=
  ∀ (s : State) (c : Fin 5) (f : Fields) (j : JFields) (v : Word) (g : Nat),
    (s.atInstruction c = true → f.rd = 0 → regOk f.ra = true → regOk f.rb = true →
      ∃ u, exec (.beq c f) s = .next u ∧ u.pc c = (if s.getR c f.ra = s.getR c f.rb then s.pc c + 2 * f.imm.signExtend 48 else s.pc c + 6) ∧ flowFrame s u c) ∧
    (s.atInstruction c = true → f.rd = 0 → regOk f.ra = true → regOk f.rb = true →
      ∃ u, exec (.bne c f) s = .next u ∧ u.pc c = (if s.getR c f.ra ≠ s.getR c f.rb then s.pc c + 2 * f.imm.signExtend 48 else s.pc c + 6) ∧ flowFrame s u c) ∧
    (s.atInstruction c = true → f.rd = 0 → regOk f.ra = true → regOk f.rb = true →
      ∃ u, exec (.blt c f) s = .next u ∧ u.pc c = (if (s.getR c f.ra).toInt < (s.getR c f.rb).toInt then s.pc c + 2 * f.imm.signExtend 48 else s.pc c + 6) ∧ flowFrame s u c) ∧
    (s.atInstruction c = true → f.rd = 0 → regOk f.ra = true → regOk f.rb = true →
      ∃ u, exec (.bge c f) s = .next u ∧ u.pc c = (if (s.getR c f.rb).toInt ≤ (s.getR c f.ra).toInt then s.pc c + 2 * f.imm.signExtend 48 else s.pc c + 6) ∧ flowFrame s u c) ∧
    (s.atInstruction c = true → f.rd = 0 → regOk f.ra = true → regOk f.rb = true →
      ∃ u, exec (.bltu c f) s = .next u ∧ u.pc c = (if (s.getR c f.ra).toNat < (s.getR c f.rb).toNat then s.pc c + 2 * f.imm.signExtend 48 else s.pc c + 6) ∧ flowFrame s u c) ∧
    (s.atInstruction c = true → f.rd = 0 → regOk f.ra = true → regOk f.rb = true →
      ∃ u, exec (.bgeu c f) s = .next u ∧ u.pc c = (if (s.getR c f.rb).toNat ≤ (s.getR c f.ra).toNat then s.pc c + 2 * f.imm.signExtend 48 else s.pc c + 6) ∧ flowFrame s u c) ∧
    (s.atInstruction c = true → j.rd = 0 →
      ∃ u, exec (.jmp c j) s = .next u ∧ u.pc c = s.pc c + 2 * j.imm.signExtend 48 ∧ flowFrame s u c) ∧
    (s.atInstruction c = true → f.rd = 0 → regOk f.ra = true → f.rb = 0 → f.imm = 0 →
      ∃ u, exec (.jmpr c f) s = .next u ∧ u.pc c = s.getR c f.ra ∧ flowFrame s u c) ∧
    (s.atInstruction c = true → 1 ≤ j.rd.toNat → j.rd.toNat ≤ 3 → s.resBelow c + j.rd.toNat ≤ 28 →
      ∃ u, exec (.call c j) s = .next u ∧ u.wbGroup c = (s.wbGroup c + j.rd.toNat) % 32 ∧ u.getR c 31 = linkWord (s.pc c + 6) (s.wbGroup c) ∧ u.pc c = s.pc c + 2 * j.imm.signExtend 48 ∧ (s.deterministic c = false → u.resBelow c = s.resBelow c + j.rd.toNat ∧ u.mem = s.mem ∧ u.regs = s.regs)) ∧
    (s.atInstruction c = true → 1 ≤ f.rd.toNat → f.rd.toNat ≤ 3 → regOk f.ra = true → f.rb = 0 → f.imm = 0 → s.resBelow c + f.rd.toNat ≤ 28 →
      ∃ u, exec (.callr c f) s = .next u ∧ u.wbGroup c = (s.wbGroup c + f.rd.toNat) % 32 ∧ u.getR c 31 = linkWord (s.pc c + 6) (s.wbGroup c) ∧ u.pc c = s.getR c f.ra ∧ (s.deterministic c = false → u.resBelow c = s.resBelow c + f.rd.toNat ∧ u.mem = s.mem ∧ u.regs = s.regs)) ∧
    (s.atInstruction c = true → noFields f = true → s.getR c 31 = linkWord v g → g < 32 → 1 ≤ (s.wbGroup c + 32 - g) % 32 → (s.wbGroup c + 32 - g) % 32 ≤ 3 → (s.wbGroup c + 32 - g) % 32 ≤ s.resBelow c →
      ∃ u, exec (.ret c f) s = .next u ∧ u.wbGroup c = g ∧ u.pc c = BitVec.ofNat 48 (getBits v 0 41) ∧ (s.deterministic c = false → u.resBelow c = s.resBelow c - (s.wbGroup c + 32 - g) % 32 ∧ u.mem = s.mem ∧ u.regs = s.regs)) ∧
    (s.engineClocked c = true → s.deterministic c = false → s.wantsSpill c = true → s.wspValid c = true → 1 ≤ s.resBelow c → s.wdepth c < 1000 → (∀ i : Fin 48, s.tornAt ((s.sreg c 2).toNat - 48 + i) = none) →
      ∃ u, exec (.windowSpill c) s = .next u ∧ (u.sreg c 2).toNat = (s.sreg c 2).toNat - 48 ∧ u.wdepth c = s.wdepth c + 1 ∧ u.resBelow c = s.resBelow c - 1 ∧ u.bytes ((s.sreg c 2).toNat - 48) 48 = s.groupBytes c (s.lowGroup c) ∧ u.regs = s.regs ∧ sameBytes (fun x ↦ decide ((s.sreg c 2).toNat - 48 ≤ x ∧ x < (s.sreg c 2).toNat)) s u) ∧
    (s.engineClocked c = true → s.deterministic c = false → s.wantsFill c = true → s.wspValid c = true → (s.core c).sbuf = [] → stackMemory c (s.sreg c 2).toNat = true → s.stackOpen c (s.sreg c 2).toNat = true → s.eccRead (s.sreg c 2).toNat 48 = (false, s) →
      ∃ u, exec (.windowFill c) s = .next u ∧ (u.sreg c 2).toNat = (s.sreg c 2).toNat + 48 ∧ u.wdepth c = s.wdepth c - 1 ∧ u.resBelow c = s.resBelow c + 1 ∧ (∀ i : Fin 8, Tab.get 0 (u.core c).wregs (8 * ((s.lowGroup c + 31) % 32) + i) = BitVec.ofNat 48 (leNat (((s.bytes (s.sreg c 2).toNat 48).drop (6 * i)).take 6))) ∧ u.regs = s.regs ∧ sameMem s u) ∧
    (s.atInstruction c = true → noFields f = true → s.psrSup c = true → ((s.setRun c .running).flush c 32).isSome = true →
      ∃ u, exec (.flushw c f) s = .next u ∧ u.resBelow c = 0 ∧ u.wdepth c = (s.wdepth c + s.resBelow c) % 2 ^ 30 ∧ u.pc c = s.pc c + 6 ∧ u.regs = s.regs)

/-- Special registers, fences, traps, returns, waits, breaks and interrupt entry: MFSR reads and MTSR writes the special
register of its number; a write of WSP lets a spill in progress complete with the old WSP first; the fences leave the store
buffer empty; SYSCALL enters the trap vector one level up with the next instruction's address saved; RETE restores the
privilege, IE, level and pc of the level's save set, from level 7 with WSP and L7SP exchanged; WFI waits where nothing requests;
BRK enters the monitor vector where it may and is otherwise a NOP that sets MISSED; a deliverable interrupt enters its level's
vector; an illegal word and a supervisor instruction at user privilege enter vectors 6 and 5 one level up, with their own
address saved. Under its clause's conditions on the state and the operands alone, exec answers a next state with the command's
own effect: mfsr, mtsr, fence, fenceI, syscall, rete, wfi, brk, interruptEntry, add. Where a clause rests on a choice or a
reading of the model and not on a rule, it is that of log entries 109 (DESIGN CHOICE), 110 (DEDUCED), 111 (DEDUCED), 112
(DEDUCED), 119 (DEDUCED), 123 (DEDUCED). (R367; R401; R402; R403; R404; R408; R410; R411; R412; R414; R417; R597) -/
def Obligations.SystemInstructionsAndExceptions : Prop :=
  ∀ (s : State) (c : Fin 5) (f : Fields),
    (s.atInstruction c = true → regOk f.rd = true → f.ra = 0 → f.rb = 0 → badSreg f = false → s.psrSup c = true →
      ∃ u, exec (.mfsr c f) s = .next u ∧ u.getR c f.rd = s.readSreg c f.imm.toNat ∧ computeFrame s u c f.rd) ∧
    (s.atInstruction c = true → f.rd = 0 → regOk f.ra = true → f.rb = 0 → badSreg f = false → s.psrSup c = true → (f.imm ≠ 2 ∨ (s.due (spillEvent c) = false ∧ s.due (fillEvent c) = false)) →
      ∃ u, exec (.mtsr c f) s = .next u ∧ u.sreg c f.imm.toNat = (s.sreg c f.imm.toNat &&& ~~~(sregMask f.imm.toNat)) ||| (s.getR c f.ra &&& sregMask f.imm.toNat) ∧ (∀ n : Nat, n ≠ f.imm.toNat → u.sreg c n = s.sreg c n) ∧ u.pc c = s.pc c + 6 ∧ u.regs = s.regs ∧ u.mem = s.mem) ∧
    (s.atInstruction c = true → noFields f = true →
      ∃ u, exec (.fence c f) s = .next u ∧ (u.core c).sbuf = [] ∧ u.pc c = s.pc c + 6 ∧ (∀ r : BitVec 6, u.getR c r = s.getR c r) ∧ sameBytes (fun x ↦ (s.core c).sbuf.any (fun e ↦ decide (e.1 ≤ x) && decide (x < e.1 + e.2.length))) s u) ∧
    (s.atInstruction c = true → noFields f = true →
      ∃ u, exec (.fenceI c f) s = .next u ∧ (u.core c).sbuf = [] ∧ u.pc c = s.pc c + 6 ∧ (∀ r : BitVec 6, u.getR c r = s.getR c r) ∧ sameBytes (fun x ↦ (s.core c).sbuf.any (fun e ↦ decide (e.1 ≤ x) && decide (x < e.1 + e.2.length))) s u) ∧
    (s.atInstruction c = true → f.rd = 0 → f.ra = 0 → f.rb = 0 → s.psrLevel c < 6 → s.fetchDenied c true (vector c 8) = none →
      ∃ u, exec (.syscall c f) s = .next u ∧ entered s u c (s.psrLevel c + 1) 8 (s.pc c + 6) = true ∧ u.mem = s.mem ∧ sameRegs icuReach s u) ∧
    (s.atInstruction c = true → noFields f = true → s.psrSup c = true → 1 ≤ s.psrLevel c → (s.psrLevel c < 7 ∨ s.wdepth c ≤ getBits (s.sreg c 0x1F) 16 30) → getBits (s.sreg c (spsReg (s.psrLevel c))) 2 3 < s.psrLevel c → ((s.sreg c (spsReg (s.psrLevel c))).getLsbD 0 = false ∨ (s.sreg c (spsReg (s.psrLevel c))).getLsbD 6 = true) → s.chainLevel c (s.sreg c (spsReg (s.psrLevel c))) = 0 →
      ∃ u, exec (.rete c f) s = .next u ∧ u.psrSup c = (s.sreg c (spsReg (s.psrLevel c))).getLsbD 0 ∧ u.psrIE c = (s.sreg c (spsReg (s.psrLevel c))).getLsbD 1 ∧ u.psrLevel c = getBits (s.sreg c (spsReg (s.psrLevel c))) 2 3 ∧ u.pc c = s.sreg c (spcReg (s.psrLevel c)) ∧ (s.psrLevel c = 7 → u.sreg c 2 = s.sreg c 6 ∧ u.sreg c 6 = s.sreg c 2) ∧ u.regs = s.regs ∧ u.mem = s.mem) ∧
    (s.atInstruction c = true → noFields f = true → s.psrSup c = true → s.icuRequest c = 0 →
      ∃ u, exec (.wfi c f) s = .next u ∧ (u.core c).run = .waiting ∧ u.pc c = s.pc c + 6 ∧ flowFrame s u c) ∧
    (s.atInstruction c = true → noFields f = true → s.monitorMay c = true → s.fetchDenied c true (vector c 9) = none →
      ∃ u, exec (.brk c f) s = .next u ∧ u.bit (F.DBG_C_STAT_MONST c) = true ∧ u.pc c = BitVec.ofNat 48 (vector c 9) ∧ u.sreg c 0x20 = spcOf (s.pc c) ∧ u.psrLevel c = s.rd F.DBG_CTL_MONLVL ∧ u.mem = s.mem ∧ sameRegs (fun x ↦ x == A.DBG_C_STAT c) s u) ∧
    (s.atInstruction c = true → noFields f = true → s.monitorMay c = false →
      ∃ u, exec (.brk c f) s = .next u ∧ u.bit (F.DBG_C_STAT_MISSED c) = true ∧ u.pc c = s.pc c + 6 ∧ sameRegs (fun x ↦ x == A.DBG_C_STAT c) s u ∧ u.mem = s.mem) ∧
    (s.executes c = true → s.deliverable c ≠ 0 → s.fetchDenied c true (vector c (9 + s.deliverable c)) = none →
      ∃ u, exec (.interruptEntry c) s = .next u ∧ entered s u c (s.deliverable c) (9 + s.deliverable c) (s.pc c) = true ∧ u.regs = s.regs ∧ u.mem = s.mem) ∧
    (s.atInstruction c = true → illR f = true → s.psrLevel c < 6 → s.fetchDenied c true (vector c 6) = none →
      ∃ u, exec (.add c f) s = .next u ∧ entered s u c (s.psrLevel c + 1) 6 (s.pc c) = true ∧ u.mem = s.mem ∧ sameRegs icuReach s u) ∧
    (s.atInstruction c = true → noFields f = true → s.psrSup c = false → s.psrLevel c < 6 → s.fetchDenied c true (vector c 5) = none →
      ∃ u, exec (.rete c f) s = .next u ∧ entered s u c (s.psrLevel c + 1) 5 (s.pc c) = true ∧ u.mem = s.mem ∧ sameRegs icuReach s u) ∧
    (s.atInstruction c = true → f.rd = 0 → regOk f.ra = true → f.rb = 0 → f.imm = 2 → s.psrSup c = true → s.due (spillEvent c) = true → s.wantsSpill c = true → s.wspValid c = true → 1 ≤ s.resBelow c → s.wdepth c < 1000 → (∀ i : Fin 48, s.tornAt ((s.sreg c 2).toNat - 48 + i) = none) →
      ∃ u, exec (.mtsr c f) s = .next u ∧ u.sreg c 2 = s.getR c f.ra ∧ u.wdepth c = s.wdepth c + 1 ∧ u.resBelow c = s.resBelow c - 1 ∧ u.bytes ((s.sreg c 2).toNat - 48) 48 = s.groupBytes c (s.lowGroup c) ∧ u.pc c = s.pc c + 6 ∧ u.regs = s.regs ∧ sameBytes (fun x ↦ decide ((s.sreg c 2).toNat - 48 ≤ x ∧ x < (s.sreg c 2).toNat)) s u)

/-- A fetch from another node's space: A core whose pc has a node field that is neither 0 nor this module's own node ID takes
the instruction fault: whatever word it was to execute, the core enters the fault's vector one level up with that pc saved.
Under its clause's conditions on the state and the operands alone, exec answers a next state with the command's own effect: nop,
add, ret. (R43) -/
def Obligations.FetchFromAnotherNodeFaults : Prop :=
  ∀ (s : State) (c : Fin 5) (f : Fields),
    s.boundaryClear c = true → nodeOf (s.pc c).toNat ≠ 0 → (s.bit F.FAB_NODE_VALID = false ∨ nodeOf (s.pc c).toNat ≠ s.rd F.FAB_NODE_ID) → s.psrLevel c < 6 → s.fetchDenied c true (vector c 2) = none →
    (∃ u, exec (.nop c f) s = .next u ∧ entered s u c (s.psrLevel c + 1) 2 (s.pc c) = true ∧ u.mem = s.mem ∧ sameRegs icuReach s u) ∧
    (∃ u, exec (.add c f) s = .next u ∧ entered s u c (s.psrLevel c + 1) 2 (s.pc c) = true ∧ u.mem = s.mem ∧ sameRegs icuReach s u) ∧
    (∃ u, exec (.ret c f) s = .next u ∧ entered s u c (s.psrLevel c + 1) 2 (s.pc c) = true ∧ u.mem = s.mem ∧ sameRegs icuReach s u)

/-- Starting, aborting and moving a DMA channel: A start with an allowed element size and pointers in the address space makes an
idle channel busy with its counts and pointers as they were; one with a count of 0 is done at once, one with a forbidden SWAP
ends with ERR and cause 1; an abort ends it with ABORTED and its data discarded; a read puts the bytes at SRC behind the buffer
and moves SRC by SSTR; a write stores the oldest element, rearranged by SWAP, at DST with every other byte as it was, moves DST
by DSTR and counts down, and the last one ends the channel with DONE; a refresh keeps the DRAM busy for 160 ns. Under its
clause's conditions on the state and the operands alone, exec answers a next state with the command's own effect: dmaStart,
dmaGstart, dmaAbort, dmaAbortall, dmaElementRead, dmaElementWrite, dramRefresh. Where a clause rests on a choice or a reading of
the model and not on a rule, it is that of log entries 13 (DESIGN CHOICE), 69 (DESIGN CHOICE), 70 (DEDUCED), 71 (DEDUCED).
(R439; R440; R441; R442; R443; R445) -/
def Obligations.DmaMovesElements : Prop :=
  ∀ (s : State) (w : Writer) (n : Fin 16) (v : Word) (p : Nat) (l : List Byte),
    (s.operating = true → isCore w = true → s.dmaDueNow = false → v.getLsbD 1 = false → s.dmaBusy n = false → swapOk (getBits v 2 2) (getBits v 4 2) = true → (s.reg (A.DMA_CH_SRC n)).toNat < 2 ^ 41 → (s.reg (A.DMA_CH_DST n)).toNat < 2 ^ 41 → s.rd (F.DMA_CH_CNT_COUNT n) ≠ 0 →
      ∃ u, exec (.dmaStart w n v) s = .next u ∧ u.bit (F.DMA_CH_STAT_BUSY n) = true ∧ u.bitAt F.DMA_BUSY_BUSY n = true ∧ u.bit (F.DMA_CH_STAT_DONE n) = false ∧ u.bit (F.DMA_CH_STAT_ERR n) = false ∧ getBits (u.reg (A.DMA_CH_CTL n)) 2 6 = getBits v 2 6 ∧ u.reg (A.DMA_CH_SRC n) = s.reg (A.DMA_CH_SRC n) ∧ u.reg (A.DMA_CH_DST n) = s.reg (A.DMA_CH_DST n) ∧ sameRegs (fun x ↦ x == A.DMA_CH_CTL n || x == A.DMA_CH_STAT n || x == A.DMA_BUSY) s u ∧ sameMem s u) ∧
    (s.operating = true → isCore w = true → s.dmaDueNow = false → v.getLsbD 1 = false → s.dmaBusy n = false → swapOk (getBits v 2 2) (getBits v 4 2) = true → (s.reg (A.DMA_CH_SRC n)).toNat < 2 ^ 41 → (s.reg (A.DMA_CH_DST n)).toNat < 2 ^ 41 → s.rd (F.DMA_CH_CNT_COUNT n) = 0 →
      ∃ u, exec (.dmaStart w n v) s = .next u ∧ u.bit (F.DMA_CH_STAT_BUSY n) = false ∧ u.bit (F.DMA_CH_STAT_DONE n) = true ∧ sameMem s u ∧ sameRegs (blocksIcu [0x803, 0x807, 0x80A, 0x80D, 0x810]) s u) ∧
    (s.operating = true → isCore w = true → s.dmaDueNow = false → v.getLsbD 1 = false → s.dmaBusy n = false → swapOk (getBits v 2 2) (getBits v 4 2) = false →
      ∃ u, exec (.dmaStart w n v) s = .next u ∧ u.bit (F.DMA_CH_STAT_BUSY n) = false ∧ u.bit (F.DMA_CH_STAT_ERR n) = true ∧ u.rd (F.DMA_CH_STAT_CAUSE n) = 1 ∧ sameMem s u ∧ sameRegs (blocksIcu [0x803, 0x807, 0x80A, 0x80D, 0x810]) s u) ∧
    (s.operating = true → isCore w = true → s.dmaDueNow = false → v.getLsbD n = true → s.dmaBusy n = false → swapOk (s.rd (F.DMA_CH_CTL_ESIZE n)) (s.rd (F.DMA_CH_CTL_SWAP n)) = true → (s.reg (A.DMA_CH_SRC n)).toNat < 2 ^ 41 → (s.reg (A.DMA_CH_DST n)).toNat < 2 ^ 41 → s.rd (F.DMA_CH_CNT_COUNT n) ≠ 0 →
      ∃ u, exec (.dmaGstart w v) s = .next u ∧ u.bit (F.DMA_CH_STAT_BUSY n) = true ∧ u.bitAt F.DMA_BUSY_BUSY n = true ∧ sameMem s u ∧ sameRegs (blocksIcu [0x803, 0x807, 0x80A, 0x80D, 0x810]) s u) ∧
    (s.operating = true → isCore w = true → s.dmaDueNow = false → s.dmaBusy n = true → s.farOps = [] →
      ∃ u, exec (.dmaAbort w n) s = .next u ∧ u.bit (F.DMA_CH_STAT_BUSY n) = false ∧ u.bit (F.DMA_CH_STAT_ABORTED n) = true ∧ u.dmaHeld n = [] ∧ ((s.dmaHeld n).length = 1 → u.reg (A.DMA_CH_SRC n) = BitVec.ofNat 48 ((s.dmaHeld n).headD (0, 0, [])).2.1) ∧ sameRegs (fun x ↦ x == A.DMA_CH_SRC n || x == A.DMA_CH_STAT n || x == A.DMA_BUSY) s u ∧ sameMem s u) ∧
    (s.operating = true → isCore w = true → s.dmaDueNow = false → getBits v 0 8 = 0xAB → s.farOps = [] →
      ∃ u, exec (.dmaAbortall w v) s = .next u ∧ (∀ k : Fin 16, u.bit (F.DMA_CH_STAT_BUSY k) = false ∧ (s.dmaBusy k = true → u.bit (F.DMA_CH_STAT_ABORTED k) = true ∧ u.dmaHeld k = [])) ∧ sameMem s u ∧ sameRegs (blocks [0x80D]) s u) ∧
    (s.dmaBusy n = true → (s.dmaHeld n).length < s.rd (F.DMA_CH_CNT_COUNT n) → s.farOps = [] → s.dmaReadEnd n = false → s.dmaFrozen = false → ((s.dmaHeld n).length + 1) * s.dmaSize n ≤ 2048 → pointerErr (s.reg (A.DMA_CH_SRC n)).toNat (s.dmaSize n) = none → s.isLocal (s.reg (A.DMA_CH_SRC n)).toNat = true → isRegion (localOf (s.reg (A.DMA_CH_SRC n)).toNat) = false → isRegion (localOf (s.reg (A.DMA_CH_SRC n)).toNat + s.dmaSize n - 1) = false → region (localOf (s.reg (A.DMA_CH_SRC n)).toNat) ≠ .rom → (s.cancel (.dmaElementRead n)).memRead (localOf (s.reg (A.DMA_CH_SRC n)).toNat) (s.dmaSize n) = (none, (s.cancel (.dmaElementRead n))) →
      ∃ u, exec (.dmaElementRead n) s = .next u ∧ u.dmaBuf = s.dmaBuf ++ [(n.val, (s.reg (A.DMA_CH_SRC n)).toNat, s.bytes (localOf (s.reg (A.DMA_CH_SRC n)).toNat) (s.dmaSize n))] ∧ u.reg (A.DMA_CH_SRC n) = wordOf (((s.reg (A.DMA_CH_SRC n)).toNat : Int) + sgnOf 16 (s.rd (F.DMA_CH_STRIDE_SSTR n))) ∧ sameRegs (fun x ↦ x == A.DMA_CH_SRC n) s u ∧ sameMem s u) ∧
    (s.dmaBuf = (n.val, p, l) :: s.dmaBuf.tail → l.length = s.dmaSize n → s.farOps = [] → s.dmaBusy n = true → s.dmaFrozen = false → 1 ≤ s.rd (F.DMA_CH_CNT_COUNT n) → pointerErr (s.reg (A.DMA_CH_DST n)).toNat (s.dmaSize n) = none → s.isLocal (s.reg (A.DMA_CH_DST n)).toNat = true → isRegion (localOf (s.reg (A.DMA_CH_DST n)).toNat) = false → isRegion (localOf (s.reg (A.DMA_CH_DST n)).toNat + s.dmaSize n - 1) = false → s.memWriteErr (.dma n) (localOf (s.reg (A.DMA_CH_DST n)).toNat) (s.dmaSize n) = none → (∀ i : Fin 6, region (localOf (s.reg (A.DMA_CH_DST n)).toNat + i) ≠ .table ∧ s.tornAt (localOf (s.reg (A.DMA_CH_DST n)).toNat + i) = none) →
      ∃ u, exec (.dmaElementWrite n) s = .next u ∧ u.bytes (localOf (s.reg (A.DMA_CH_DST n)).toNat) (s.dmaSize n) = swapBytes (s.rd (F.DMA_CH_CTL_SWAP n)) l ∧ u.reg (A.DMA_CH_DST n) = wordOf (((s.reg (A.DMA_CH_DST n)).toNat : Int) + sgnOf 16 (s.rd (F.DMA_CH_STRIDE_DSTR n))) ∧ u.rd (F.DMA_CH_CNT_COUNT n) = s.rd (F.DMA_CH_CNT_COUNT n) - 1 ∧ u.bit (F.DMA_CH_STAT_BUSY n) = decide (s.rd (F.DMA_CH_CNT_COUNT n) ≠ 1) ∧ (s.rd (F.DMA_CH_CNT_COUNT n) = 1 → u.bit (F.DMA_CH_STAT_DONE n) = true) ∧ u.dmaBuf = s.dmaBuf.tail ∧ sameBytes (fun x ↦ decide (localOf (s.reg (A.DMA_CH_DST n)).toNat ≤ x ∧ x < localOf (s.reg (A.DMA_CH_DST n)).toNat + s.dmaSize n)) s u) ∧
    (s.bit F.SYS_READY_DRAM = true →
      ∃ u, exec (.dramRefresh) s = .next u ∧ u.dramUntil = s.now + 120 ∧ u.dueIn 2925 .dramRefresh = true ∧ u.regs = s.regs ∧ sameMem s u)

/-- Descriptor slots, flash operations and their ends: A read of FLC_ALLOC takes the lowest free slot, or answers 0; FREE
returns it; a GO whose checks pass queues the slot, one with a reserved OP ends with result 4, one on a slot not in ALLOC
changes nothing; the next descriptor starts when nothing runs and nothing holds; a programmed unit holds its 32 bytes with every
other byte as it was and is counted, the last one ending the slot with result 1; an erased sector reads as 0xFF throughout;
operations that did not complete in time end with result 9; a compaction leaves the other journal sector active. Under its
clause's conditions on the state and the operands alone, exec answers a next state with the command's own effect: flcAlloc,
flcFree, flcGo, flcOpStart, flcProgramUnitDone, flcProgramTimeout, flcEraseDone, flcEraseTimeout, flcCompaction,
flashBusyStretchEnd. Where a clause rests on a choice or a reading of the model and not on a rule, it is that of log entries 28
(DESIGN CHOICE), 72 (DEDUCED), 73 (DESIGN CHOICE), 78 (DEDUCED), 79 (DEDUCED). (R453; R458; R459; R460; R461; R462; R468; R612)
-/
def Obligations.FlashControllerRunsItsQueue : Prop :=
  ∀ (s : State) (w : Writer) (k : Fin 16) (v : Word) (bank : Fin 2) (sec : Fin 135) (d : Option (List Byte)) (l : List Byte) (r : Fin 16),
    (s.operating = true → isCore w = true → s.flcIs k 0 = true → (∀ j : Fin 16, j < k → s.flcIs j 0 = false) →
      ∃ u, exec (.flcAlloc w) s = .next u ∧ u.rdata = BitVec.ofNat 48 (16 + k) ∧ u.rd (F.FLC_D_STAT_STATE k) = 1 ∧ u.rd (F.FLC_D_STAT_RESULT k) = 0 ∧ u.rd (F.FLC_D_STAT_UNITS k) = 0 ∧ sameRegs (fun x ↦ x == A.FLC_D_STAT k) s u ∧ sameMem s u) ∧
    (s.operating = true → isCore w = true → (∀ j : Fin 16, s.flcIs j 0 = false) →
      ∃ u, exec (.flcAlloc w) s = .next u ∧ u.rdata = 0 ∧ u.regs = s.regs ∧ sameMem s u) ∧
    (s.operating = true → isCore w = true → (s.flcIs k 1 = true ∨ s.flcIs k 4 = true) →
      ∃ u, exec (.flcFree w k) s = .next u ∧ u.rd (F.FLC_D_STAT_STATE k) = 0 ∧ sameRegs (fun x ↦ x == A.FLC_D_STAT k || x == A.FLC_D_CTL k) s u ∧ sameMem s u) ∧
    (s.operating = true → isCore w = true → isSup w = true → s.flcIs k 1 = true → v.getLsbD 13 = false → s.bit F.SYS_READY_FLASH = true → s.bit F.FLC_STATUS_ACCEPT_OFF = false → s.modeIn [.standby, .armed, .run, .safeStop] = true → getBits v 1 2 = 2 → inFlash (s.flcAddr k) = true → sectorBase (bankOf (s.flcAddr k)) (sectorOf (s.flcAddr k)) = (s.flcAddr k) → s.flcMay w (s.flcNames k) = true → s.flcRunning (bankOf (s.flcAddr k)) (s.flcNames k) = false →
      ∃ u, exec (.flcGo w k v) s = .next u ∧ u.rd (F.FLC_D_STAT_STATE k) = 2 ∧ u.flcQueue = s.flcQueue ++ [k.val] ∧ u.rd (F.FLC_D_STAT_ORIGIN k) = originCode s w ∧ sameRegs (fun x ↦ x == A.FLC_D_STAT k || x == A.FLC_D_CTL k) s u ∧ sameMem s u) ∧
    (s.operating = true → isCore w = true → isSup w = true → s.flcIs k 1 = true → v.getLsbD 13 = false → s.bit F.SYS_READY_FLASH = true → s.bit F.FLC_STATUS_ACCEPT_OFF = false → s.modeIn [.standby, .armed, .run, .safeStop] = true → getBits v 1 2 = 1 → 1 ≤ getBits v 3 9 → getBits v 3 9 ≤ 256 → inFlash (s.flcAddr k) = true → (s.flcAddr k) % 32 = 0 → (s.flcAddr k) + 32 * getBits v 3 9 ≤ sectorBase (bankOf (s.flcAddr k)) (sectorOf (s.flcAddr k)) + sectorSize (sectorOf (s.flcAddr k)) → s.flcMay w (s.flcNames k) = true → s.flcRunning (bankOf (s.flcAddr k)) (s.flcNames k) = false →
      ∃ u, exec (.flcGo w k v) s = .next u ∧ u.rd (F.FLC_D_STAT_STATE k) = 2 ∧ u.flcQueue = s.flcQueue ++ [k.val] ∧ u.rd (F.FLC_D_CTL_N k) = getBits v 3 9 ∧ sameMem s u ∧ sameRegs (blocksIcu [0x80E]) s u) ∧
    (s.operating = true → isCore w = true → isSup w = true → s.flcIs k 1 = true → v.getLsbD 13 = false → s.bit F.SYS_READY_FLASH = true → s.bit F.FLC_STATUS_ACCEPT_OFF = false → s.modeIn [.standby, .armed, .run, .safeStop] = true → (getBits v 1 2 = 0 ∨ getBits v 1 2 = 3) →
      ∃ u, exec (.flcGo w k v) s = .next u ∧ u.rd (F.FLC_D_STAT_STATE k) = 4 ∧ u.rd (F.FLC_D_STAT_RESULT k) = 4 ∧ u.flcQueue = s.flcQueue ∧ sameMem s u ∧ sameRegs (blocksIcu [0x80E]) s u) ∧
    (s.operating = true → isCore w = true → s.flcIs k 1 = false → v.getLsbD 13 = false →
      ∃ u, exec (.flcGo w k v) s = .next u ∧ u.regs = s.regs ∧ u.flcQueue = s.flcQueue ∧ sameMem s u) ∧
    (s.flcFree = true → s.flcHold = false → s.flcHalf = [] → s.flcQueue = k.val :: s.flcQueue.tail → s.rd (F.FLC_D_CTL_OP k) = 1 →
      ∃ u, exec (.flcOpStart) s = .next u ∧ u.rd (F.FLC_D_STAT_STATE k) = 3 ∧ u.rd F.FLC_STATUS_RUNSLOT = k.val ∧ u.flcQueue = s.flcQueue.tail ∧ u.flcOp ≠ .idle ∧ u.dueIn 15000 (.flcProgramUnitDone true) = true ∧ sameMem s u ∧ sameRegs (blocksIcu [0x807, 0x80D, 0x80E, 0xC00]) s u) ∧
    (s.flcFree = true → s.flcHold = false → s.flcHalf = [] → s.flcQueue = k.val :: s.flcQueue.tail → s.rd (F.FLC_D_CTL_OP k) = 2 → s.compactNeeded = false →
      ∃ u, exec (.flcOpStart) s = .next u ∧ u.rd (F.FLC_D_STAT_STATE k) = 3 ∧ u.flcOp = .erase k (bankOf (s.flcAddr k)) (sectorOf (s.flcAddr k)) ∧ u.flcQueue = s.flcQueue.tail ∧ sameBytes (fun x ↦ decide (0x04000000 ≤ x ∧ x < 0x04004000)) s u ∧ sameRegs (blocksIcu [0x807, 0x80D, 0x80E, 0xC00]) s u) ∧
    (s.tstOn 8 = false → s.flcOp = .unit k (some l) → l.length = 32 → s.unitBlank (s.flcAddr k + 32 * s.rd (F.FLC_D_STAT_UNITS k)) = true → s.rd (F.FLC_D_STAT_UNITS k) < 256 →
      ∃ u, exec (.flcProgramUnitDone true) s = .next u ∧ u.bytes (s.flcAddr k + 32 * s.rd (F.FLC_D_STAT_UNITS k)) 32 = l ∧ u.rd (F.FLC_D_STAT_UNITS k) = s.rd (F.FLC_D_STAT_UNITS k) + 1 ∧ (s.rd (F.FLC_D_CTL_N k) ≤ s.rd (F.FLC_D_STAT_UNITS k) + 1 → u.rd (F.FLC_D_STAT_STATE k) = 4 ∧ u.rd (F.FLC_D_STAT_RESULT k) = 1) ∧ sameBytes (fun x ↦ decide ((s.flcAddr k + 32 * s.rd (F.FLC_D_STAT_UNITS k)) ≤ x ∧ x < (s.flcAddr k + 32 * s.rd (F.FLC_D_STAT_UNITS k)) + 32)) s u ∧ sameRegs (blocksIcu [0x807, 0x80D, 0x80E, 0xC00]) s u) ∧
    (s.tstOn 8 = false → s.flcOp = .unit k d →
      ∃ u, exec (.flcProgramTimeout) s = .next u ∧ u.rd (F.FLC_D_STAT_STATE k) = 4 ∧ u.rd (F.FLC_D_STAT_RESULT k) = 9 ∧ u.flcOp = .idle ∧ sameBytes (fun x ↦ decide ((s.flcAddr k + 32 * s.rd (F.FLC_D_STAT_UNITS k)) ≤ x ∧ x < (s.flcAddr k + 32 * s.rd (F.FLC_D_STAT_UNITS k)) + 32)) s u ∧ sameRegs (blocksIcu [0x807, 0x80D, 0x80E, 0xC00]) s u) ∧
    (s.tstOn 8 = false → s.flcOp = .erase k bank sec → (bank = 1 ∨ 2 ≤ sec) →
      ∃ u, exec (.flcEraseDone) s = .next u ∧ u.rd (F.FLC_D_STAT_STATE k) = 4 ∧ u.rd (F.FLC_D_STAT_RESULT k) = 1 ∧ u.flcOp = .idle ∧ (∀ x : Nat, sectorBase bank sec ≤ x → x < sectorBase bank sec + sectorSize sec → u.byte x = 0xFF) ∧ sameBytes (fun x ↦ decide (0x04000000 ≤ x ∧ x < 0x04004000) || decide (sectorBase bank sec ≤ x ∧ x < sectorBase bank sec + sectorSize sec)) s u ∧ sameRegs (blocksIcu [0x807, 0x80D, 0x80E, 0xC00]) s u) ∧
    (s.tstOn 8 = false → s.flcOp = .erase k bank sec →
      ∃ u, exec (.flcEraseTimeout) s = .next u ∧ u.rd (F.FLC_D_STAT_STATE k) = 4 ∧ u.rd (F.FLC_D_STAT_RESULT k) = 9 ∧ u.flcOp = .idle ∧ sameBytes (fun x ↦ decide (sectorBase bank sec ≤ x ∧ x < sectorBase bank sec + sectorSize sec)) s u ∧ sameRegs (blocksIcu [0x807, 0x80D, 0x80E, 0xC00]) s u) ∧
    (s.tstOn 8 = false → s.flcOp = .compact → (s.journalGen s.journalActive).getD 0 < 2 ^ 32 - 1 →
      ∃ u, exec (.flcCompaction) s = .next u ∧ u.flcOp = .idle ∧ u.rd F.FLC_JSTAT_ACTIVE = 1 - s.journalActive ∧ sameBytes (fun x ↦ decide (0x04000000 ≤ x ∧ x < 0x04004000)) s u ∧ sameRegs (blocksIcu [0x807, 0x80D, 0x80E, 0xC00]) s u) ∧
    (s.flcOp = .stretch k r bank → r ≠ 0 →
      ∃ u, exec (.flashBusyStretchEnd (bank == 1)) s = .next u ∧ u.flcOp = .idle ∧ u.rd (F.FLC_D_STAT_STATE k) = 4 ∧ u.rd (F.FLC_D_STAT_RESULT k) = r.val ∧ sameMem s u ∧ sameRegs (blocksIcu [0x807, 0x80D, 0x80E, 0xC00]) s u)

/-- Jobs of the CRY engine: A command that its origin may give in the present mode starts the job with the job registers as they
stand: BUSY, RESULT 0, no byte of memory changed; one that it may not give ends at once with RESULT 3, and one that meets a job
sets RESULT 11 and changes nothing else; the end of a hash stores the digest of the source bytes at DST with result 1, and the
OTP jobs raise the epoch, revoke a key while a usable one is left, provision a free key slot and set CFGSIG. Under its clause's
conditions on the state and the operands alone, exec answers a next state with the command's own effect: cryHash, cryVerify,
cryVerifyOwner, crySignDev, cryCommit, cryCompact, otpProv, otpRevoke, otpEpoch, otpCfgsig, cryJobDone. Where a clause rests on
a choice or a reading of the model and not on a rule, it is that of log entry 82 (DEDUCED). (R560; R567; R568; R572; R573) -/
def Obligations.CryptographyJobs : Prop :=
  ∀ (s : State) (w : Writer) (v : Word) (l : List Byte),
    (s.operating = true → isCore w = true → s.bit F.CRY_STAT_BUSY = false → s.cryMay w 1 = true →
      ∃ u, exec (.cryHash w v) s = .next u ∧ u.bit F.CRY_STAT_BUSY = true ∧ u.rd F.CRY_STAT_RESULT = 0 ∧ u.rd F.CRY_STAT_ORIGIN = originCode s w ∧ u.cryJob = [setBits v 0 4 1, s.reg A.CRY_SRC, s.reg A.CRY_LEN, s.reg A.CRY_KEY, s.reg A.CRY_SIG, s.reg A.CRY_DST] ∧ sameRegs (fun x ↦ x == A.CRY_STAT) s u ∧ sameMem s u) ∧
    (s.operating = true → isCore w = true → s.bit F.CRY_STAT_BUSY = false → s.cryMay w 2 = true →
      ∃ u, exec (.cryVerify w v) s = .next u ∧ u.bit F.CRY_STAT_BUSY = true ∧ u.rd F.CRY_STAT_RESULT = 0 ∧ u.rd F.CRY_STAT_ORIGIN = originCode s w ∧ u.cryJob = [setBits v 0 4 2, s.reg A.CRY_SRC, s.reg A.CRY_LEN, s.reg A.CRY_KEY, s.reg A.CRY_SIG, s.reg A.CRY_DST] ∧ sameRegs (fun x ↦ x == A.CRY_STAT) s u ∧ sameMem s u) ∧
    (s.operating = true → isCore w = true → s.bit F.CRY_STAT_BUSY = false → s.cryMay w 3 = true →
      ∃ u, exec (.cryVerifyOwner w v) s = .next u ∧ u.bit F.CRY_STAT_BUSY = true ∧ u.rd F.CRY_STAT_RESULT = 0 ∧ u.rd F.CRY_STAT_ORIGIN = originCode s w ∧ u.cryJob = [setBits v 0 4 3, s.reg A.CRY_SRC, s.reg A.CRY_LEN, s.reg A.CRY_KEY, s.reg A.CRY_SIG, s.reg A.CRY_DST] ∧ sameRegs (fun x ↦ x == A.CRY_STAT) s u ∧ sameMem s u) ∧
    (s.operating = true → isCore w = true → s.bit F.CRY_STAT_BUSY = false → s.cryMay w 4 = true →
      ∃ u, exec (.crySignDev w v) s = .next u ∧ u.bit F.CRY_STAT_BUSY = true ∧ u.rd F.CRY_STAT_RESULT = 0 ∧ u.rd F.CRY_STAT_ORIGIN = originCode s w ∧ u.cryJob = [setBits v 0 4 4, s.reg A.CRY_SRC, s.reg A.CRY_LEN, s.reg A.CRY_KEY, s.reg A.CRY_SIG, s.reg A.CRY_DST] ∧ sameRegs (fun x ↦ x == A.CRY_STAT) s u ∧ sameMem s u) ∧
    (s.operating = true → isCore w = true → s.bit F.CRY_STAT_BUSY = false → s.cryMay w 5 = true →
      ∃ u, exec (.cryCommit w v) s = .next u ∧ u.bit F.CRY_STAT_BUSY = true ∧ u.rd F.CRY_STAT_RESULT = 0 ∧ u.rd F.CRY_STAT_ORIGIN = originCode s w ∧ u.cryJob = [setBits v 0 4 5, s.reg A.CRY_SRC, s.reg A.CRY_LEN, s.reg A.CRY_KEY, s.reg A.CRY_SIG, s.reg A.CRY_DST] ∧ sameRegs (fun x ↦ x == A.CRY_STAT) s u ∧ sameMem s u) ∧
    (s.operating = true → isCore w = true → s.bit F.CRY_STAT_BUSY = false → s.cryMay w 6 = true →
      ∃ u, exec (.cryCompact w v) s = .next u ∧ u.bit F.CRY_STAT_BUSY = true ∧ u.rd F.CRY_STAT_RESULT = 0 ∧ u.rd F.CRY_STAT_ORIGIN = originCode s w ∧ u.cryJob = [setBits v 0 4 6, s.reg A.CRY_SRC, s.reg A.CRY_LEN, s.reg A.CRY_KEY, s.reg A.CRY_SIG, s.reg A.CRY_DST] ∧ sameRegs (fun x ↦ x == A.CRY_STAT) s u ∧ sameMem s u) ∧
    (s.operating = true → isCore w = true → s.bit F.CRY_STAT_BUSY = false → s.cryMay w 7 = true →
      ∃ u, exec (.otpProv w v) s = .next u ∧ u.bit F.CRY_STAT_BUSY = true ∧ u.rd F.CRY_STAT_RESULT = 0 ∧ u.rd F.CRY_STAT_ORIGIN = originCode s w ∧ u.cryJob = [setBits v 0 4 7, s.reg A.CRY_SRC, s.reg A.CRY_LEN, s.reg A.CRY_KEY, s.reg A.CRY_SIG, s.reg A.CRY_DST] ∧ sameRegs (fun x ↦ x == A.CRY_STAT) s u ∧ sameMem s u) ∧
    (s.operating = true → isCore w = true → s.bit F.CRY_STAT_BUSY = false → s.cryMay w 8 = true →
      ∃ u, exec (.otpRevoke w v) s = .next u ∧ u.bit F.CRY_STAT_BUSY = true ∧ u.rd F.CRY_STAT_RESULT = 0 ∧ u.rd F.CRY_STAT_ORIGIN = originCode s w ∧ u.cryJob = [setBits v 0 4 8, s.reg A.CRY_SRC, s.reg A.CRY_LEN, s.reg A.CRY_KEY, s.reg A.CRY_SIG, s.reg A.CRY_DST] ∧ sameRegs (fun x ↦ x == A.CRY_STAT) s u ∧ sameMem s u) ∧
    (s.operating = true → isCore w = true → s.bit F.CRY_STAT_BUSY = false → s.cryMay w 9 = true →
      ∃ u, exec (.otpEpoch w v) s = .next u ∧ u.bit F.CRY_STAT_BUSY = true ∧ u.rd F.CRY_STAT_RESULT = 0 ∧ u.rd F.CRY_STAT_ORIGIN = originCode s w ∧ u.cryJob = [setBits v 0 4 9, s.reg A.CRY_SRC, s.reg A.CRY_LEN, s.reg A.CRY_KEY, s.reg A.CRY_SIG, s.reg A.CRY_DST] ∧ sameRegs (fun x ↦ x == A.CRY_STAT) s u ∧ sameMem s u) ∧
    (s.operating = true → isCore w = true → s.bit F.CRY_STAT_BUSY = false → s.cryMay w 10 = true →
      ∃ u, exec (.otpCfgsig w v) s = .next u ∧ u.bit F.CRY_STAT_BUSY = true ∧ u.rd F.CRY_STAT_RESULT = 0 ∧ u.rd F.CRY_STAT_ORIGIN = originCode s w ∧ u.cryJob = [setBits v 0 4 10, s.reg A.CRY_SRC, s.reg A.CRY_LEN, s.reg A.CRY_KEY, s.reg A.CRY_SIG, s.reg A.CRY_DST] ∧ sameRegs (fun x ↦ x == A.CRY_STAT) s u ∧ sameMem s u) ∧
    (s.operating = true → isCore w = true → s.bit F.CRY_STAT_BUSY = false → s.cryMay w 7 = false →
      ∃ u, exec (.otpProv w v) s = .next u ∧ u.bit F.CRY_STAT_BUSY = false ∧ u.bit F.CRY_STAT_DONE = true ∧ u.rd F.CRY_STAT_RESULT = 3 ∧ sameMem s u ∧ sameRegs (blocksIcu [0x813]) s u) ∧
    (s.operating = true → isCore w = true → s.bit F.CRY_STAT_BUSY = true →
      ∃ u, exec (.cryHash w v) s = .next u ∧ u.rd F.CRY_STAT_RESULT = 11 ∧ u.bit F.CRY_STAT_BUSY = true ∧ u.cryJob = s.cryJob ∧ sameRegs (fun x ↦ x == A.CRY_STAT) s u ∧ sameMem s u) ∧
    (s.bit F.CRY_STAT_BUSY = true → s.cryFrozen = false → s.cryStage = 0 → cryOp (s.cryArg 0) = 1 → s.blockRead (s.cryArg 1) (s.cryArg 2) = (some l, s) → (s.blockWrite s.cryWriter (s.cryArg 5) (sha256 l)).1 = true → (∀ i : Fin 32, region (localOf (s.cryArg 5) + i) ≠ .table ∧ s.tornAt (localOf (s.cryArg 5) + i) = none) →
      ∃ u, exec (.cryJobDone) s = .next u ∧ u.bit F.CRY_STAT_BUSY = false ∧ u.bit F.CRY_STAT_DONE = true ∧ u.rd F.CRY_STAT_RESULT = 1 ∧ u.bytes (localOf (s.cryArg 5)) 32 = sha256 l ∧ sameBytes (fun x ↦ decide (localOf (s.cryArg 5) ≤ x ∧ x < localOf (s.cryArg 5) + 32)) s u ∧ sameRegs (blocksIcu [0x807, 0x80D, 0x80E, 0x813, 0xC00]) s u) ∧
    (s.bit F.CRY_STAT_BUSY = true → s.cryFrozen = false → s.cryStage = 0 → cryOp (s.cryArg 0) = 9 → s.rd F.CRY_OTPSTAT_EPOCH < cryEpoch (s.cryArg 0) → cryEpoch (s.cryArg 0) ≤ 32 →
      ∃ u, exec (.cryJobDone) s = .next u ∧ u.bit F.CRY_STAT_BUSY = false ∧ u.bit F.CRY_STAT_DONE = true ∧ u.rd F.CRY_STAT_RESULT = 1 ∧ u.rd F.CRY_OTPSTAT_EPOCH = cryEpoch (s.cryArg 0) ∧ sameMem s u ∧ sameRegs (blocksIcu [0x807, 0x80D, 0x80E, 0x813, 0xC00]) s u) ∧
    (s.bit F.CRY_STAT_BUSY = true → s.cryFrozen = false → s.cryStage = 0 → cryOp (s.cryArg 0) = 8 → (∃ j : Fin 4, j.val ≠ cryIdx (s.cryArg 0) ∧ s.keyUsable j = true) →
      ∃ u, exec (.cryJobDone) s = .next u ∧ u.bit F.CRY_STAT_BUSY = false ∧ u.bit F.CRY_STAT_DONE = true ∧ u.rd F.CRY_STAT_RESULT = 1 ∧ u.bitAt F.CRY_OTPSTAT_REVOKED (cryIdx (s.cryArg 0)) = true ∧ sameMem s u ∧ sameRegs (blocksIcu [0x807, 0x80D, 0x80E, 0x813, 0xC00]) s u) ∧
    (s.bit F.CRY_STAT_BUSY = true → s.cryFrozen = false → s.cryStage = 0 → cryOp (s.cryArg 0) = 7 → s.bitAt F.CRY_OTPSTAT_PROV (cryIdx (s.cryArg 0)) = false → s.blockRead (s.cryArg 3) 64 = (some l, s) →
      ∃ u, exec (.cryJobDone) s = .next u ∧ u.bit F.CRY_STAT_BUSY = false ∧ u.bit F.CRY_STAT_DONE = true ∧ u.rd F.CRY_STAT_RESULT = 1 ∧ u.bitAt F.CRY_OTPSTAT_PROV (cryIdx (s.cryArg 0)) = true ∧ Tab.find u.otpKeys (cryIdx (s.cryArg 0)) = some l ∧ sameMem s u ∧ sameRegs (blocksIcu [0x807, 0x80D, 0x80E, 0x813, 0xC00]) s u) ∧
    (s.bit F.CRY_STAT_BUSY = true → s.cryFrozen = false → s.cryStage = 0 → cryOp (s.cryArg 0) = 10 →
      ∃ u, exec (.cryJobDone) s = .next u ∧ u.bit F.CRY_STAT_BUSY = false ∧ u.bit F.CRY_STAT_DONE = true ∧ u.rd F.CRY_STAT_RESULT = 1 ∧ u.bit F.CRY_OTPSTAT_CFGSIG = true ∧ sameMem s u ∧ sameRegs (blocksIcu [0x807, 0x80D, 0x80E, 0x813, 0xC00]) s u)

/-- Plugging a module, becoming UP and DOWN, and losing the node ID: A plugged module that identifies itself sets PRESENT and
IDOK with its MEDIA and switches the transmitter on as EN and TXOFF say, one of a higher power level sets PWRERR, one that does
not identify itself leaves IDOK 0; removal clears them and the lock; lock leads to UP after 10 ms and its loss to DOWN after 4
us, with UPEVT and DOWNEVT, the count of falls, FABM and the node state; with both ports DOWN the ID is lost at the end of its
100 ms; a WAKEPULSE interrupts the transmitter until it ends, and in DORMANT a returning signal is latched. Under its clause's
conditions on the state and the operands alone, exec answers a next state with the command's own effect: sfpInsertion,
sfpRemoval, blockLockChange, portUp, portDown, nodeIdLost, fabWakepulse, wakepulseEnd, fabricWakeDetect. Where a clause rests on
a choice or a reading of the model and not on a rule, it is that of log entries 13 (DESIGN CHOICE), 24 (DEDUCED), 106
(PRESUMED), 107 (DEDUCED). (R60; R85; R479; R480; R493; R496; R503; R507) -/
def Obligations.FabricPorts : Prop :=
  ∀ (s : State) (w : Writer) (p : Fin 2) (l : List Byte) (m : Nat) (hot : Bool),
    (s.fabLive = true ∨ s.mode = .dormant) →
    (s.fabLive = true → sfpMedia l = some (m, hot) →
      ∃ u, exec (.sfpInsertion p l true) s = .next u ∧ u.bit (F.FAB_P_STAT_PRESENT p) = true ∧ u.bit (F.FAB_P_STAT_IDOK p) = !hot ∧ u.bit (F.FAB_P_STAT_PWRERR p) = hot ∧ (hot = false → u.rd (F.FAB_P_STAT_MEDIA p) = m) ∧ u.bit (F.FAB_P_STAT_TXDIS p) = (hot || s.bit (F.FAB_P_CTL_TXOFF p) || !s.bit (F.FAB_P_CTL_EN p)) ∧ sameRegs (fun a ↦ a == A.FAB_P_STAT p) s u ∧ sameMem s u) ∧
    (s.fabLive = true → sfpMedia l = none →
      ∃ u, exec (.sfpInsertion p l true) s = .next u ∧ u.bit (F.FAB_P_STAT_PRESENT p) = true ∧ u.bit (F.FAB_P_STAT_IDOK p) = false ∧ u.rd (F.FAB_P_STAT_MEDIA p) = 0 ∧ u.bit (F.FAB_P_STAT_TXDIS p) = true ∧ sameRegs (fun a ↦ a == A.FAB_P_STAT p) s u ∧ sameMem s u) ∧
    (s.fabLive = true →
      ∃ u, exec (.sfpRemoval p) s = .next u ∧ u.bit (F.FAB_P_STAT_PRESENT p) = false ∧ u.bit (F.FAB_P_STAT_IDOK p) = false ∧ u.bit (F.FAB_P_STAT_LOCK p) = false ∧ u.bit (F.FAB_P_STAT_TXDIS p) = true ∧ sameRegs (fun a ↦ a == A.FAB_P_STAT p) s u ∧ sameMem s u) ∧
    (s.fabLive = true → s.bit (F.FAB_P_CTL_EN p) = true → s.bit (F.FAB_P_STAT_IDOK p) = true → s.portIsUp p = false → s.due (.portUp p) = false →
      ∃ u, exec (.blockLockChange p true) s = .next u ∧ u.bit (F.FAB_P_STAT_LOCK p) = true ∧ u.dueIn 7500000 (.portUp p) = true ∧ sameMem s u ∧ sameRegs (blocks [0x80F]) s u) ∧
    (s.fabLive = true → s.portIsUp p = true → s.due (.portDown p) = false →
      ∃ u, exec (.blockLockChange p false) s = .next u ∧ u.bit (F.FAB_P_STAT_LOCK p) = false ∧ u.portIsUp p = true ∧ u.dueIn 3000 (.portDown p) = true ∧ sameMem s u ∧ sameRegs (blocks [0x80F]) s u) ∧
    (s.fabLive = true → s.bit (F.FAB_P_STAT_LOCK p) = true → s.portIsUp p = false → (s.mode = .boot → s.bit F.SYS_READY_DRAM = true) →
      ∃ u, exec (.portUp p) s = .next u ∧ u.portIsUp p = true ∧ u.bit (F.FAB_P_STAT_UPEVT p) = true ∧ u.bit F.SYS_READY_FABM = true ∧ u.rd F.FAB_NODE_STATE = (if s.rd F.FAB_NODE_STATE = 0 then 1 else s.rd F.FAB_NODE_STATE) ∧ u.due .nodeIdLost = false ∧ sameMem s u ∧ sameRegs (blocksIcu [0x800, 0x803, 0x807, 0x80A, 0x80F, 0x810]) s u) ∧
    (s.portIsUp p = true → s.bit (F.FAB_P_STAT_LOCK p) = false →
      ∃ u, exec (.portDown p) s = .next u ∧ u.portIsUp p = false ∧ u.bit (F.FAB_P_STAT_DOWNEVT p) = true ∧ u.rd (F.FAB_P_DOWNCNT_N p) = min 65535 (s.rd (F.FAB_P_DOWNCNT_N p) + 1) ∧ (if s.portIsUp (1 - p) = true then u.rd F.FAB_NODE_STATE = s.rd F.FAB_NODE_STATE else u.bit F.SYS_READY_FABM = false ∧ (if s.rd F.FAB_NODE_STATE = 2 then u.rd F.FAB_NODE_STATE = 2 ∧ u.dueIn 75000000 .nodeIdLost = true else u.rd F.FAB_NODE_STATE = 0)) ∧ sameMem s u ∧ sameRegs (blocksIcu [0x800, 0x803, 0x807, 0x80A, 0x80F, 0x810]) s u) ∧
    (s.rd F.FAB_NODE_STATE = 2 → s.portIsUp 0 = false → s.portIsUp 1 = false →
      ∃ u, exec (.nodeIdLost) s = .next u ∧ u.rd F.FAB_NODE_ID = 0 ∧ u.bit F.FAB_NODE_VALID = false ∧ u.rd F.FAB_NODE_STATE = 0 ∧ u.bit F.FAB_STATUS_IDLOST = true ∧ u.bit F.SYS_READY_FABC = false ∧ sameMem s u ∧ sameRegs (blocksIcu [0x800, 0x803, 0x807, 0x80A, 0x80F, 0x810]) s u) ∧
    (s.fabLive = true → s.operating = true → isCore w = true →
      ∃ u, exec (.fabWakepulse w p) s = .next u ∧ (u.fport p).pulse = true ∧ u.dueIn 1500000 (.wakepulseEnd p) = true ∧ sameMem s u ∧ sameRegs (blocksIcu [0x80F, 0xC00]) s u) ∧
    (∃ u, exec (.wakepulseEnd p) s = .next u ∧ (u.fport p).pulse = false ∧ u.regs = s.regs ∧ sameMem s u) ∧
    (s.mode = .dormant →
      ∃ u, exec (.fabricWakeDetect) s = .next u ∧ u.fabLatch = true ∧ sameMem s u ∧ sameRegs (blocksIcu [0x803, 0x807, 0x80A, 0x810]) s u)

/-- Frames that arrive: passing on, discovery, far transactions and fabric time: A frame whose HCRC fails is counted and goes no
further; a sound one that is not addressed here leaves through the other port with HOPS raised and everything else as it came;
DISCOVER gives position, host and, in LINKED, the ID of its mode; ASSIGN gives the ID to the module whose identity it names; an
accepted far read is answered with the bytes of memory and an accepted far write leaves its bytes there, every other byte as it
was, and a request that no session accepts is answered with status 7; a matching far response ends the transaction with the
loaded value, its timeout with status 8; ECHO requests are answered on their port, a matching response counts an exchange, SYNC
is taken with its port and its watch, one of another cycle length sets LENERR; SYNC and ECHO go out in their periods; without
SYNC TIME_VALID is lost and the correction becomes 0. Where the module itself sends, the clause is that of an instant at which
its own frames need not wait for the cyclic window (R488). Under its clause's conditions on the state and the operands alone,
exec answers a next state with the command's own effect: frameReceive, discover, assign, farReadRequest, farWriteRequest,
farResponse, farTimeout, echoRequest, echoResponse, echoSend, syncReceive, syncSend, syncTimeout. Where a clause rests on a
choice or a reading of the model and not on a rule, it is that of log entries 13 (DESIGN CHOICE), 108 (DESIGN CHOICE), 122
(DEDUCED). (R484; R486; R494; R495; R498; R499; R500; R501; R521; R522; R523; R524) -/
def Obligations.FabricFramesActAndPass : Prop :=
  ∀ (s : State) (p : Fin 2) (q : Nat) (l : List Byte) (x : Parsed) (op : FarOp) (i : Fin 21) (n : Fin 16),
    (s.fabLive = true → s.dormAt = none → s.portIsUp p = true → s.tstOn 4 = false → s.rd F.FAB_CTL_TOPO ≠ 2 → parseFrame l = some x → x.hcrcGood = false →
      ∃ u, exec (.frameReceive p l) s = .next u ∧ u.rd (F.FAB_P_ERRCNT_HCRC p) = min 4095 (s.rd (F.FAB_P_ERRCNT_HCRC p) + 1) ∧ u.egress = s.egress ∧ sameRegs (fun a ↦ a == A.FAB_P_ERRCNT p || a == A.FAB_P_FRCNT p) s u ∧ sameMem s u) ∧
    (parseFrame l = some x → s.takes p x l = true → foreign x.src = true → s.addressed x = false → x.type ≠ 1 → x.type ≠ 8 → s.sendsOn p x = true →
      ∃ u, exec (.frameReceive p l) s = .next u ∧ u.sentLast (1 - p) (passFrame x x.payload x.rest) = true ∧ sameMem s u) ∧
    (parseFrame l = some x → s.takes p x l = true → foreign x.src = true → x.type = 2 → x.bcast = true → x.resp = false → s.rd F.FAB_NODE_STATE = 1 → (s.rd F.FAB_CTL_TOPO = 0 ∨ (s.rd F.FAB_CTL_TOPO = 1 ∧ p = 0)) → s.rd F.FAB_CTL_IDMODE = 0 → x.hops < 255 → (if beNat (x.pay 2 2) = 0 then s.rd F.FAB_CFGID_POSBASE else beNat (x.pay 2 2)) + x.hops = q → 1 ≤ q → q ≤ 2047 → q ≠ x.srcId →
      ∃ u, exec (.discover p l) s = .next u ∧ u.rd F.FAB_NODE_POS = x.hops + 1 ∧ u.rd F.FAB_NODE_HOSTPORT = p ∧ u.rd F.FAB_NODE_HOSTID = x.srcId ∧ u.rd F.FAB_NODE_ID = q ∧ u.bit F.FAB_NODE_VALID = true ∧ u.rd F.FAB_NODE_STATE = 2 ∧ sameMem s u) ∧
    (parseFrame l = some x → s.takes p x l = true → foreign x.src = true → x.type = 2 → x.bcast = true → x.resp = false → s.rd F.FAB_NODE_STATE = 1 → s.rd F.FAB_CTL_IDMODE = 1 → (s.rd F.FAB_CTL_TOPO ≠ 1 ∨ p = 0) → s.rd F.FAB_CFGID_NODEID ≠ 0 → s.rd F.FAB_CFGID_NODEID ≠ x.srcId →
      ∃ u, exec (.discover p l) s = .next u ∧ u.rd F.FAB_NODE_ID = s.rd F.FAB_CFGID_NODEID ∧ u.bit F.FAB_NODE_VALID = true ∧ u.rd F.FAB_NODE_STATE = 2 ∧ sameMem s u) ∧
    (parseFrame l = some x → s.takes p x l = true → foreign x.src = true → x.type = 3 → x.bcast = true → x.resp = false → beNat (x.pay 6 2) ≤ 2047 → (beNat (x.pay 6 2) = 0 ∨ beNat (x.pay 6 2) ≠ s.rd F.FAB_NODE_HOSTID) →
      ∃ u, exec (.assign p l) s = .next u ∧ (if x.pay 0 6 = identBytes then u.rd F.FAB_NODE_ID = beNat (x.pay 6 2) ∧ u.bit F.FAB_NODE_VALID = decide (beNat (x.pay 6 2) ≠ 0) ∧ u.rd F.FAB_NODE_STATE = (if beNat (x.pay 6 2) = 0 then 1 else 2) else u.reg A.FAB_NODE = s.reg A.FAB_NODE) ∧ sameMem s u) ∧
    (parseFrame l = some x → s.takes p x l = true → foreign x.src = true → x.type = 6 → x.resp = false → x.bcast = false → s.addressed x = true → s.mode ≠ .boot → beNat (x.pay 4 2) = n.val → (s.heard p x).sessAccepts n x = true → s.txHeld = false → (s.heard p x).leavesBy x.srcId q = true → (x.byte 12 = 1 ∨ x.byte 12 = 2 ∨ x.byte 12 = 6) → beNat (x.pay 10 2) = x.byte 12 → beNat (x.pay 6 4) < 2 ^ 30 → nodeOf (beNat (x.pay 6 4)) = nodeOf (beNat (x.pay 6 4) + x.byte 12 - 1) → isRegion (beNat (x.pay 6 4)) = false → isRegion (beNat (x.pay 6 4) + x.byte 12 - 1) = false → region (beNat (x.pay 6 4)) ≠ .rom → ((s.heard p x).sessTake n x).accessMay (.host n) (beNat (x.pay 6 4)) false = true → ((s.heard p x).sessTake n x).memRead (beNat (x.pay 6 4)) (x.byte 12) = (none, (s.heard p x).sessTake n x) →
      ∃ u, exec (.farReadRequest p l) s = .next u ∧ u.sentLast q ((s.heard p x).originate q x.src x.tags 6 flagResp x.srcId (x.pay 0 4 ++ [0, 0, 0, 1] ++ s.bytes (beNat (x.pay 6 4)) (x.byte 12)) (some (s.session n).mac)).1 = true ∧ (u.session n).lastSeq = x.seq ∧ sameMem s u) ∧
    (parseFrame l = some x → s.takes p x l = true → foreign x.src = true → x.type = 7 → x.resp = false → x.bcast = false → s.addressed x = true → s.mode ≠ .boot → beNat (x.pay 4 2) = n.val → (s.heard p x).sessAccepts n x = true → s.txHeld = false → (s.heard p x).leavesBy x.srcId q = true → (x.byte 12 = 1 ∨ x.byte 12 = 2 ∨ x.byte 12 = 6) → beNat (x.pay 10 2) = x.byte 12 → 14 + x.byte 12 ≤ x.payload.length → beNat (x.pay 6 4) < 2 ^ 30 → nodeOf (beNat (x.pay 6 4)) = nodeOf (beNat (x.pay 6 4) + x.byte 12 - 1) → isRegion (beNat (x.pay 6 4)) = false → isRegion (beNat (x.pay 6 4) + x.byte 12 - 1) = false → ((s.heard p x).sessTake n x).accessMay (.host n) (beNat (x.pay 6 4)) true = true → ((s.heard p x).sessTake n x).memWriteErr (.host n) (beNat (x.pay 6 4)) (x.byte 12) = none → (∀ j : Fin 6, region (beNat (x.pay 6 4) + j) ≠ .table ∧ s.tornAt (beNat (x.pay 6 4) + j) = none) → s.dmaDueNow = false →
      ∃ u, exec (.farWriteRequest p l) s = .next u ∧ u.bytes (beNat (x.pay 6 4)) (x.byte 12) = x.pay 14 (x.byte 12) ∧ u.sentLast q ((s.heard p x).originate q x.src x.tags 7 flagResp x.srcId (x.pay 0 4 ++ [0, 0, 0, 1]) (some (s.session n).mac)).1 = true ∧ (u.session n).lastSeq = x.seq ∧ sameBytes (fun a ↦ decide (beNat (x.pay 6 4) ≤ a ∧ a < beNat (x.pay 6 4) + x.byte 12)) s u) ∧
    (parseFrame l = some x → s.takes p x l = true → foreign x.src = true → x.type = 7 → x.resp = false → x.bcast = false → s.addressed x = true → beNat (x.pay 4 2) = n.val → s.sessOpen n = false → s.txHeld = false → (s.heard p x).leavesBy x.srcId q = true →
      ∃ u, exec (.farWriteRequest p l) s = .next u ∧ u.sentLast q ((s.heard p x).originate q x.src x.tags 7 (flagResp + flagErr) x.srcId (x.pay 0 4 ++ [7, 0, 0, 0]) none).1 = true ∧ u.rd (F.FAB_SESS_CNT_REJ n) = min 65535 (s.rd (F.FAB_SESS_CNT_REJ n) + 1) ∧ sameMem s u) ∧
    (parseFrame l = some x → s.takes p x l = true → foreign x.src = true → x.type = 6 → x.resp = true → s.addressed x = true → s.rd F.FAB_FARCTL_SESS = n.val → (s.heard p x).sessAccepts n x = true → s.farOps = [op] → op.owner = i → i.val < 5 → op.write = false → op.use = .plain → op.tag = beNat (x.pay 0 4) → nodeOf op.addr = x.srcId → x.byte 4 = 0 → (s.core i).run = .stalled → (s.core i).stepping = false → s.psrMon i = false → (∀ k : Fin 4, (s.reg (A.DBG_C_WP i k)).getLsbD 46 = false ∧ (s.reg (A.DBG_C_WP i k)).getLsbD 47 = false) →
      ∃ u, exec (.farResponse p l) s = .next u ∧ u.getR i (BitVec.ofNat 6 op.reg) = extendLoad op.esize op.sext (leNat (x.pay 8 op.count)) ∧ u.pc i = s.pc i + 6 ∧ (u.core i).run = .running ∧ u.farOps = [] ∧ sameMem s u) ∧
    (s.farOps = [op] → op.owner = i → op.addr < 2 ^ 41 → s.farFrozen i = false → (i.val < 5 → (s.core i).run = .stalled) → (i.val < 5 → s.psrLevel i < 6) →
      ∃ u, exec (.farTimeout i) s = .next u ∧ u.rd F.FAB_FARSTAT_LAST = 8 ∧ u.bit F.FAB_FARSTAT_TMOFLG = true ∧ u.rd F.FAB_FARADDR_ADDR = op.addr ∧ u.farOps.contains op = false ∧ sameMem s u) ∧
    (parseFrame l = some x → s.takes p x l = true → foreign x.src = true → x.isTime 1 = true → 4 ≤ x.payload.length → s.bit (F.FAB_P_STAT_TXDIS p) = false → (s.fport p).pulse = false → s.txHeld = false →
      ∃ u, exec (.echoRequest p l) s = .next u ∧ (∃ t2 t3 : Nat, u.sentLast p ((s.heard p x).originate p x.src x.tags 8 flagResp x.srcId ([2, BitVec.ofNat 8 (x.byte 1)] ++ x.pay 2 2 ++ beBytes 8 t2 ++ beBytes 8 t3 ++ List.replicate 8 0) none).1 = true) ∧ sameMem s u) ∧
    (parseFrame l = some x → s.takes p x l = true → foreign x.src = true → x.isTime 2 = true → 0 ≤ (s.fport p).t1 → beNat (x.pay 2 2) = (s.fport p).echoNo →
      ∃ u, exec (.echoResponse p l) s = .next u ∧ (u.fport p).nexch = min 8 ((s.fport p).nexch + 1) ∧ (u.fport p).t1 = -1 ∧ sameMem s u) ∧
    (s.fabLive = true → s.portIsUp p = true →
      ∃ u, exec (.echoSend) s = .next u ∧ (u.fport p).echoNo = ((s.fport p).echoNo + 1) % 65536 ∧ u.dueIn (750000 * s.cycIn F.FAB_TIME_CTL_EPER) .echoSend = true ∧ sameMem s u ∧ sameRegs (blocks [0x80F]) s u) ∧
    (parseFrame l = some x → s.takes p x l = true → foreign x.src = true → x.isTime 3 = true → x.bcast = true → s.isMaster = false → beNat (x.pay 20 4) = s.cycleLen →
      ∃ u, exec (.syncReceive p l) s = .next u ∧ u.rd F.FAB_TIME_STAT_SYNCPORT = p ∧ u.bit F.FAB_CYC_STAT_LENERR = false ∧ u.syncSeen = true ∧ u.dueIn (300000 * s.cycIn F.FAB_TIME_CTL_SYNCPER) .syncTimeout = true ∧ sameMem s u) ∧
    (parseFrame l = some x → s.takes p x l = true → foreign x.src = true → x.isTime 3 = true → x.bcast = true → s.isMaster = false → beNat (x.pay 20 4) ≠ s.cycleLen →
      ∃ u, exec (.syncReceive p l) s = .next u ∧ u.bit F.FAB_CYC_STAT_LENERR = true ∧ u.bit F.FAB_CYC_STAT_ACTIVE = false ∧ u.syncSeen = s.syncSeen ∧ sameMem s u) ∧
    (s.fabLive = true → s.isMaster = true → s.tickRuns = true → s.portIsUp p = true → s.portIsUp (1 - p) = false → s.bit (F.FAB_P_STAT_TXDIS p) = false → (s.fport p).pulse = false → s.txHeld = false →
      ∃ u, exec (.syncSend) s = .next u ∧ u.sentLast p (s.originate p s.hostAddr [] 8 flagBcast 0 ([(3 : Byte), 0] ++ beBytes 6 (s.rd F.SYSTIME_NS_NS) ++ beBytes 4 s.epoch.toNat ++ List.replicate 8 0 ++ beBytes 4 s.cycleLen ++ List.replicate 4 0) none).1 = true ∧ u.dueIn (75000 * s.cycIn F.FAB_TIME_CTL_SYNCPER) .syncSend = true ∧ sameMem s u ∧ sameRegs (blocks [0x80F]) s u) ∧
    (s.bit F.FAB_TIME_STAT_TIME_VALID = true → s.isMaster = false →
      ∃ u, exec (.syncTimeout) s = .next u ∧ u.bit F.FAB_TIME_STAT_TIME_VALID = false ∧ u.bit F.FAB_TIME_STAT_LOSTSYNC = true ∧ u.bit F.FAB_TIME_STAT_VALIDCHG = true ∧ u.rd F.FAB_TIME_FREQ_F = 0 ∧ u.bit F.FAB_TIME_STAT_DISC = false ∧ u.bit F.SYS_READY_FABC = false ∧ sameMem s u ∧ sameRegs (blocksIcu [0x800, 0x802, 0x803, 0x807, 0x80A, 0x80F, 0x810]) s u)

/-- The cyclic exchange, its window, and management sessions: The frame of the present cycle is consumed once, clears CONSEC,
puts each extracted word at its address and passes on with the inserted region; another CYCNO sets CYCMIS, and a frame without
its tag under AUTH sets AUTHFAIL, both consuming nothing; a snapshot takes the insert-mapped words and sets SNAPRDY; a window
that closes without a frame counts a lost cycle, and the third in ARMED or RUN enters SAFE_STOP; OPEN with a good signature of a
usable key opens its slot with the rights that both grant, and with a bad one opens nothing; CLOSE, the idle timeout and a CLOSE
write close the slot; CYCKEY installs the key of its cycle, ATTEST is answered with the report or waits for the engine. Under
its clause's conditions on the state and the operands alone, exec answers a next state with the command's own effect:
cyclicFrame, cyclicSnapshot, cyclicWindowClose, mgmtOpen, mgmtClose, mgmtCyckey, mgmtAttest, sessionIdleTimeout,
sessionCloseWrite. Where a clause rests on a choice or a reading of the model and not on a rule, it is that of log entries 66
(DEDUCED), 87 (DEDUCED), 108 (DESIGN CHOICE). (R510; R514; R515; R516; R517; R526; R527; R528; R574; R575) -/
def Obligations.CyclicExchangeAndSessions : Prop :=
  ∀ (s : State) (w : Writer) (p : Fin 2) (q : Nat) (l : List Byte) (x : Parsed) (n : Fin 16) (k : Fin 64) (v : Word),
    (parseFrame l = some x → s.takes p x l = true → foreign x.src = true → x.type = 1 → s.cycOpenFor x = true → beNat (x.pay 0 4) = s.rd F.FAB_CYC_NO_CYCNO → s.cycGot = false → s.cycOpen = true → s.cycIn F.FAB_CYC_CTL_AUTH = 0 → s.extractEntries = [] → s.sendsOn p x = true →
      ∃ u, exec (.cyclicFrame p l) s = .next u ∧ u.rd F.FAB_CYC_STAT_CONSEC = 0 ∧ u.cycGot = true ∧ u.sentLast (1 - p) (passFrame x ((s.heard p x).cycInsert x.payload).1 x.rest) = true ∧ sameMem s u) ∧
    (parseFrame l = some x → s.takes p x l = true → foreign x.src = true → x.type = 1 → s.cycOpenFor x = true → beNat (x.pay 0 4) = s.rd F.FAB_CYC_NO_CYCNO → s.cycGot = false → s.cycOpen = true → s.cycIn F.FAB_CYC_CTL_AUTH = 0 → s.extractEntries = [k.val] → region (s.rd (F.FAB_CYC_MAP_ADDR k)) = .shared → region (s.rd (F.FAB_CYC_MAP_ADDR k) + 5) = .shared → s.rd F.FAB_CYC_REGION_RXOFS + 6 * s.rd (F.FAB_CYC_MAP_WORD k) + 6 ≤ x.payload.length → s.memWriteErr .fabric (s.rd (F.FAB_CYC_MAP_ADDR k)) 6 = none → s.dmaDueNow = false →
      ∃ u, exec (.cyclicFrame p l) s = .next u ∧ u.rd F.FAB_CYC_STAT_CONSEC = 0 ∧ u.cycGot = true ∧ u.bytes (s.rd (F.FAB_CYC_MAP_ADDR k)) 6 = x.pay (s.rd F.FAB_CYC_REGION_RXOFS + 6 * s.rd (F.FAB_CYC_MAP_WORD k)) 6 ∧ sameBytes (fun a ↦ decide (s.rd (F.FAB_CYC_MAP_ADDR k) ≤ a ∧ a < s.rd (F.FAB_CYC_MAP_ADDR k) + 6)) s u) ∧
    (parseFrame l = some x → s.takes p x l = true → foreign x.src = true → x.type = 1 → s.cycOpenFor x = true → beNat (x.pay 0 4) ≠ s.rd F.FAB_CYC_NO_CYCNO →
      ∃ u, exec (.cyclicFrame p l) s = .next u ∧ u.bit F.FAB_CYC_STAT_CYCMIS = true ∧ u.cycGot = s.cycGot ∧ sameMem s u) ∧
    (parseFrame l = some x → s.takes p x l = true → foreign x.src = true → x.type = 1 → s.cycOpenFor x = true → beNat (x.pay 0 4) = s.rd F.FAB_CYC_NO_CYCNO → s.cycGot = false → s.cycOpen = true → s.cycIn F.FAB_CYC_CTL_AUTH = 1 → x.auth = false →
      ∃ u, exec (.cyclicFrame p l) s = .next u ∧ u.bit F.FAB_CYC_STAT_AUTHFAIL = true ∧ u.rd F.FAB_CYC_CNT_AUTHCNT = min 4095 (s.rd F.FAB_CYC_CNT_AUTHCNT + 1) ∧ u.cycGot = false ∧ sameMem s u) ∧
    (s.fabLive = true → s.bit F.FAB_CYC_CTL_EN = true → s.insertEntries = [k.val] → (s.cancel .cyclicSnapshot).locRead .fabric (s.rd (F.FAB_CYC_MAP_ADDR k)) 6 = (none, l, s.cancel .cyclicSnapshot) →
      ∃ u, exec (.cyclicSnapshot) s = .next u ∧ u.cycBuf = [BitVec.ofNat 48 (leNat l)] ∧ u.cycBufNo = s.rd F.FAB_CYC_NO_CYCNO ∧ u.cycOld = s.cycBuf ∧ u.bit F.FAB_CYC_STAT_SNAPRDY = true ∧ sameRegs (fun a ↦ a == A.FAB_CYC_STAT) s u ∧ sameMem s u) ∧
    (s.cycOpen = true → s.cycGot = false →
      ∃ u, exec (.cyclicWindowClose) s = .next u ∧ u.cycOpen = false ∧ u.bit F.FAB_CYC_STAT_LOST = true ∧ u.bit F.FAB_CYC_STAT_OVR = true ∧ u.rd F.FAB_CYC_CNT_LOSTCNT = min 4095 (s.rd F.FAB_CYC_CNT_LOSTCNT + 1) ∧ u.rd F.FAB_CYC_STAT_CONSEC = min 3 (s.rd F.FAB_CYC_STAT_CONSEC + 1) ∧ (s.rd F.FAB_CYC_STAT_CONSEC = 2 → s.mode = .armed ∨ s.mode = .run → u.mode = .safeStop ∧ u.rd F.SYS_MODESTAT_SS_CAUSE = 4) ∧ sameMem s u ∧ sameRegs (blocksIcu [0x800, 0x803, 0x807, 0x809, 0x80A, 0x80B, 0x80F, 0x810, 0x811, 0x812, 0xC00]) s u) ∧
    (parseFrame l = some x → s.takes p x l = true → foreign x.src = true → x.type = 5 → x.byte 0 = 1 → x.resp = false → s.addressed x = true → x.byte 1 = n.val → 165 ≤ x.payload.length → s.mode ≠ .shutdown → x.byte 3 < 4 → s.keyUsable (x.byte 3) = true → (s.sessOpen n = true → s.rd (F.FAB_SESS_STAT_PEER n) = x.srcId) →
      ∃ u, exec (.mgmtOpen p l) s = .next u ∧ (if Config.ecdsaVerify (s.ownerKey (x.byte 3)) (sha256 (x.pay 0 101 ++ identBytes)) (x.pay 101 64) = true then u.rd (F.FAB_SESS_STAT_STATE n) = 2 ∧ u.rd (F.FAB_SESS_STAT_RIGHTS n) = Nat.land (x.byte 4) (Nat.land (s.rightsMask (x.byte 3)) 0x3F) ∧ u.rd (F.FAB_SESS_STAT_KEYIDX n) = x.byte 3 ∧ u.rd (F.FAB_SESS_STAT_PEER n) = x.srcId ∧ (u.session n).lastSeq = x.seq else u.reg (A.FAB_SESS_STAT n) = s.reg (A.FAB_SESS_STAT n) ∧ u.sess = s.sess) ∧ sameMem s u) ∧
    (parseFrame l = some x → s.takes p x l = true → foreign x.src = true → x.type = 5 → x.byte 0 = 3 → x.resp = false → s.addressed x = true → x.byte 1 = n.val → (s.heard p x).sessAccepts n x = true →
      ∃ u, exec (.mgmtClose p l) s = .next u ∧ u.rd (F.FAB_SESS_STAT_STATE n) = 0 ∧ u.session n = Sess.init ∧ sameMem s u) ∧
    (parseFrame l = some x → s.takes p x l = true → foreign x.src = true → x.type = 5 → x.byte 0 = 4 → x.resp = false → s.addressed x = true → x.byte 1 = n.val → (s.heard p x).sessAccepts n x = true → (s.rights n).testBit 5 = true →
      ∃ u, exec (.mgmtCyckey p l) s = .next u ∧ u.cycKeyNext = some (beNat (x.pay 3 4), (x.pay 7 32).zipWith (fun a b ↦ a ^^^ b) ((hkdfBlocks (s.session n).wrap (ascii "cyckey" ++ x.pay 3 4) 1 1 []).take 32)) ∧ (u.session n).lastSeq = x.seq ∧ sameMem s u) ∧
    (parseFrame l = some x → s.takes p x l = true → foreign x.src = true → x.type = 5 → x.byte 0 = 6 → x.resp = false → s.addressed x = true → x.byte 1 = n.val → (s.heard p x).sessAccepts n x = true → (s.rights n).testBit 0 = true → s.bit F.CRY_STAT_BUSY = false → s.txHeld = false → (s.heard p x).leavesBy x.srcId q = true → x.bcast = false →
      ∃ u, exec (.mgmtAttest p l) s = .next u ∧ u.sentLast q ((s.heard p x).originate q x.src x.tags 5 flagResp x.srcId ([7, BitVec.ofNat 8 n, 0] ++ ((s.heard p x).sessTake n x).attestReport (x.pay 3 32)) (some (s.session n).mac)).1 = true ∧ (u.session n).lastSeq = x.seq ∧ sameMem s u) ∧
    (parseFrame l = some x → s.takes p x l = true → foreign x.src = true → x.type = 5 → x.byte 0 = 6 → x.resp = false → s.addressed x = true → x.byte 1 = n.val → (s.heard p x).sessAccepts n x = true → (s.rights n).testBit 0 = true → s.bit F.CRY_STAT_BUSY = true → s.attestWait = none →
      ∃ u, exec (.mgmtAttest p l) s = .next u ∧ u.attestWait = some (p.val, l) ∧ sameMem s u) ∧
    (s.rd (F.FAB_SESS_STAT_STATE n) ≠ 0 →
      ∃ u, exec (.sessionIdleTimeout n) s = .next u ∧ u.reg (A.FAB_SESS_STAT n) = 0 ∧ u.session n = Sess.init ∧ sameMem s u ∧ sameRegs (blocksIcu [0x80F]) s u) ∧
    (s.operating = true → isCore w = true → getBits v 0 8 = 0xC5 →
      ∃ u, exec (.sessionCloseWrite w n v) s = .next u ∧ u.rd (F.FAB_SESS_STAT_STATE n) = 0 ∧ (s.rd (F.FAB_SESS_STAT_STATE n) ≠ 0 → u.session n = Sess.init) ∧ sameMem s u ∧ sameRegs (blocksIcu [0x80F]) s u)

/-- HALT, the virtual terminal, authorisation, the TAP and the TST registers: A HALT by a permitted writer waits at its core,
one by another is refused; a core's word into an empty TXD fills it and one into a full TXD is lost with TXOVF, and so for the
debugger's RXD, which the core's read empties, a read in the cycle of the debugger's write taking the old word and leaving
RXFULL; a verification that is neither locked out nor running ends within 1 ms with OK, or with a failure counted and after
three with LOCKOUT; a withdrawal clears OK; the TAP instructions load their codes, EXTEST driving its contacts only when
authorised in a mode with boundary scan; a MEMAP access reads or writes 6 bytes of memory and is refused outside the open range
before authorisation; TST_CTL takes its EN bits under TEST_ENABLE in STANDBY and ARMED, in RUN only clearing ones, and other
writes set WR_REFUSED. Under its clause's conditions on the state and the operands alone, exec answers a next state with the
command's own effect: dbgHalt, vtTxdWrite, vtRxdWrite, vtRxdRead, dbgAuthVerify, dbgAuthWithdraw, dbgAuthDone, tapReset, idcode,
bypass, samplePreload, extest, memap, tstCtlWrite. Where a clause rests on a choice or a reading of the model and not on a rule,
it is that of log entries 12 (DEDUCED), 34 (DEDUCED), 124 (DESIGN CHOICE), 135 (DEDUCED). (R61; R62; R597; R603; R604; R606;
R607; R608; R609; R613; R617) -/
def Obligations.DebugAndTestAccess : Prop :=
  ∀ (s : State) (w : Writer) (c : Fin 5) (v : Word) (k : Nat) (r : Fin 9) (bs : List Bool) (a : Nat),
    (s.operating = true → isCore w = true → s.dbgMay w c = true → (c.val = 4 → s.mode = .standby) →
      ∃ u, exec (.dbgHalt w c) s = .next u ∧ u.bit (F.DBG_C_STAT_HALTPEND c) = true ∧ sameRegs (fun x ↦ x == A.DBG_C_STAT c) s u ∧ sameMem s u) ∧
    (s.operating = true → isCore w = true → s.dbgMay w c = false →
      ∃ u, exec (.dbgHalt w c) s = .next u ∧ u.bit F.DBG_STATUS_WR_REFUSED = true ∧ sameRegs (fun x ↦ x == A.DBG_STATUS) s u ∧ sameMem s u) ∧
    (s.operating = true → isCore w = true → s.dbgMay w c = true → s.bit (F.DBG_C_VTSTAT_TXFULL c) = false →
      ∃ u, exec (.vtTxdWrite w c v) s = .next u ∧ u.reg (A.DBG_C_TXD c) = v ∧ u.bit (F.DBG_C_VTSTAT_TXFULL c) = true ∧ sameRegs (fun x ↦ x == A.DBG_C_TXD c || x == A.DBG_C_VTSTAT c) s u ∧ sameMem s u) ∧
    (s.operating = true → isCore w = true → s.dbgMay w c = true → s.bit (F.DBG_C_VTSTAT_TXFULL c) = true →
      ∃ u, exec (.vtTxdWrite w c v) s = .next u ∧ u.bit (F.DBG_C_VTSTAT_TXOVF c) = true ∧ sameRegs (fun x ↦ x == A.DBG_C_VTSTAT c) s u ∧ sameMem s u) ∧
    (s.operating = true → s.bit F.DBG_AUTHSTAT_OK = true → s.bit (F.DBG_C_VTSTAT_RXFULL c) = false → s.dmaDueNow = false →
      ∃ u, exec (.vtRxdWrite .debugger c v) s = .next u ∧ u.reg (A.DBG_C_RXD c) = v ∧ u.bit (F.DBG_C_VTSTAT_RXFULL c) = true ∧ sameMem s u ∧ sameRegs (blocksIcu [0x811]) s u) ∧
    (s.operating = true → s.bit F.DBG_AUTHSTAT_OK = true → s.bit (F.DBG_C_VTSTAT_RXFULL c) = true → s.dmaDueNow = false →
      ∃ u, exec (.vtRxdWrite .debugger c v) s = .next u ∧ u.bit (F.DBG_C_VTSTAT_RXOVF c) = true ∧ u.reg (A.DBG_C_RXD c) = s.reg (A.DBG_C_RXD c) ∧ u.bit (F.DBG_C_VTSTAT_RXFULL c) = true ∧ sameMem s u ∧ sameRegs (blocksIcu [0x811]) s u) ∧
    (s.operating = true → isCore w = true → readsOwn w c = true → s.rxdOld c = none →
      ∃ u, exec (.vtRxdRead w c) s = .next u ∧ u.rdata = s.reg (A.DBG_C_RXD c) ∧ u.bit (F.DBG_C_VTSTAT_RXFULL c) = false ∧ sameRegs (fun x ↦ x == A.DBG_C_VTSTAT c) s u ∧ sameMem s u) ∧
    (s.operating = true → (w = .debugger ∨ isCore w = true) → s.bit F.DBG_AUTHSTAT_LOCKOUT = false → s.bit F.DBG_AUTHSTAT_BUSY = false → s.dmaDueNow = false →
      ∃ u, exec (.dbgAuthVerify w v) s = .next u ∧ u.bit F.DBG_AUTHSTAT_BUSY = true ∧ u.authKey = some (getBits v 8 2) ∧ u.dueIn 750000 .dbgAuthDone = true ∧ sameMem s u ∧ sameRegs (blocks [0x811]) s u) ∧
    (s.operating = true → (w = .debugger ∨ isCore w = true) → s.dmaDueNow = false →
      ∃ u, exec (.dbgAuthWithdraw w v) s = .next u ∧ u.bit F.DBG_AUTHSTAT_OK = false ∧ sameMem s u ∧ sameRegs (blocks [0x811]) s u) ∧
    (s.authKey = some k →
      ∃ u, exec (.dbgAuthDone) s = .next u ∧ u.authKey = none ∧ u.bit F.DBG_AUTHSTAT_BUSY = false ∧ u.authDraw = s.authDraw + 1 ∧ (if s.authGood k = true then u.bit F.DBG_AUTHSTAT_OK = true ∧ u.rd F.DBG_AUTHSTAT_FAILS = s.rd F.DBG_AUTHSTAT_FAILS else u.rd F.DBG_AUTHSTAT_FAILS = min 3 (s.rd F.DBG_AUTHSTAT_FAILS + 1) ∧ (2 ≤ s.rd F.DBG_AUTHSTAT_FAILS → u.bit F.DBG_AUTHSTAT_LOCKOUT = true)) ∧ sameRegs (fun x ↦ x == A.DBG_AUTHSTAT) s u ∧ sameMem s u) ∧
    (s.jsvcLive = true →
      ∃ u, exec (.tapReset) s = .next u ∧ u.tapIr = 0x01 ∧ u.boundary = [] ∧ u.regs = s.regs ∧ sameMem s u) ∧
    (s.jsvcLive = true →
      ∃ u, exec (.idcode) s = .next u ∧ u.tapIr = 0x01 ∧ u.tapData % 2 ^ 28 = 0x0024 * 2 ^ 12 + 0x4E5 * 2 + 1 ∧ u.tapData / 2 ^ 28 = (if 0x41 ≤ s.rd F.SYS_ID_HWREV ∧ s.rd F.SYS_ID_HWREV ≤ 0x4E then s.rd F.SYS_ID_HWREV - 0x40 else 0xF) ∧ u.regs = s.regs ∧ sameMem s u) ∧
    (s.jsvcLive = true →
      ∃ u, exec (.bypass) s = .next u ∧ u.tapIr = 0x1F ∧ u.tapData = 0 ∧ u.boundary = [] ∧ u.regs = s.regs ∧ sameMem s u) ∧
    (s.scanOpen = true →
      ∃ u, exec (.samplePreload) s = .next u ∧ u.tapIr = 0x02 ∧ u.boundary = [] ∧ u.regs = s.regs ∧ sameMem s u) ∧
    (s.scanOpen = true → s.bit F.DBG_AUTHSTAT_OK = true →
      ∃ u, exec (.extest bs) s = .next u ∧ u.tapIr = 0x03 ∧ u.boundary = bs ∧ u.regs = s.regs ∧ sameMem s u) ∧
    (s.jsvcLive = true → s.bit F.DBG_AUTHSTAT_OK = false →
      ∃ u, exec (.extest bs) s = .next u ∧ u.tapIr = 0x1F ∧ u.boundary = [] ∧ u.regs = s.regs ∧ sameMem s u) ∧
    (s.jsvcLive = true → s.bit F.DBG_AUTHSTAT_OK = true → isRegion a = false → isRegion (a + 5) = false → nodeOf a = nodeOf (a + 5) → region a ≠ .rom → s.fresh.2.memRead a 6 = (none, s.fresh.2) →
      ∃ u, exec (.memap true a v) s = .next u ∧ u.tapIr = 0x09 ∧ u.tapStat = 0 ∧ u.tapWord = BitVec.ofNat 48 (leNat (s.bytes a 6)) ∧ sameMem s u) ∧
    (s.jsvcLive = true → s.bit F.DBG_AUTHSTAT_OK = true → isRegion a = false → isRegion (a + 5) = false → nodeOf a = nodeOf (a + 5) → s.fresh.2.memWriteErr .debugger a 6 = none → (∀ i : Fin 6, region (a + i) ≠ .table ∧ s.tornAt (a + i) = none) → s.dmaDueNow = false →
      ∃ u, exec (.memap false a v) s = .next u ∧ u.tapIr = 0x09 ∧ u.tapStat = 0 ∧ u.bytes a 6 = leBytes 6 v.toNat ∧ sameBytes (fun x ↦ decide (a ≤ x ∧ x < a + 6)) s u) ∧
    (s.jsvcLive = true → s.bit F.DBG_AUTHSTAT_OK = false → openRange a = false →
      ∃ u, exec (.memap (decide (k = 0)) a v) s = .next u ∧ u.tapStat = 3 ∧ u.regs = s.regs ∧ sameMem s u) ∧
    (s.operating = true → isCore w = true → s.tstOpen = true →
      ∃ u, exec (.tstCtlWrite w 0 v) s = .next u ∧ u.rd F.TST_CTL_EN = getBits v 3 7 ∧ sameRegs (fun x ↦ x == A.TST_CTL) s u ∧ sameMem s u) ∧
    (s.operating = true → isCore w = true → s.tstOpen = false → s.mode ≠ .run → getBits v 3 7 ≠ s.rd F.TST_CTL_EN →
      ∃ u, exec (.tstCtlWrite w 0 v) s = .next u ∧ u.rd F.TST_CTL_EN = s.rd F.TST_CTL_EN ∧ u.bit F.TST_CTL_WR_REFUSED = true ∧ sameMem s u ∧ sameRegs (blocksIcu [0x812, 0xC00]) s u) ∧
    (s.operating = true → isCore w = true → s.mode = .run → s.bit F.TST_CTL_ACTIVE = true → Nat.land (getBits v 3 7) (s.rd F.TST_CTL_EN) = getBits v 3 7 →
      ∃ u, exec (.tstCtlWrite w 0 v) s = .next u ∧ u.rd F.TST_CTL_EN = getBits v 3 7 ∧ sameMem s u ∧ sameRegs (blocksIcu [0x812, 0xC00]) s u) ∧
    (s.operating = true → isCore w = true → s.tstOpen = true → 2 ≤ r.val → (tstRange r v).all (fun (f : Nat × Nat × Bool) ↦ f.2.2) = true →
      ∃ u, exec (.tstCtlWrite w r v) s = .next u ∧ (tstRange r v).all (fun (f : Nat × Nat × Bool) ↦ u.rd ⟨A.TST_CTL + 8 * r, f.1, f.2.1⟩ == getBits v f.1 f.2.1) = true ∧ sameRegs (fun x ↦ x == A.TST_CTL + 8 * r) s u ∧ sameMem s u) ∧
    (s.operating = true → isCore w = true → readsOwn w c = true → s.rxdOld c = some v →
      ∃ u, exec (.vtRxdRead w c) s = .next u ∧ u.rdata = v ∧ u.regs = s.regs ∧ sameMem s u)
end

