-- ==== Sys2Proof/Laws/State.lean ====
section
/-! SUPPORT. For every elementary update of the state and every field that it leaves alone, the lemma that it does. -/
namespace Sys2Proof.Machine

variable (s : State)

/-! ### `State.setReg` -/

@[simp] theorem State.setReg_pending (a : Nat) (v : Word) : (s.setReg a v).pending = s.pending := rfl
@[simp] theorem State.setReg_alarms (a : Nat) (v : Word) : (s.setReg a v).alarms = s.alarms := rfl
@[simp] theorem State.setReg_now (a : Nat) (v : Word) : (s.setReg a v).now = s.now := rfl
@[simp] theorem State.setReg_held (a : Nat) (v : Word) : (s.setReg a v).held = s.held := rfl
@[simp] theorem State.setReg_heldNew (a : Nat) (v : Word) : (s.setReg a v).heldNew = s.heldNew := rfl
@[simp] theorem State.setReg_heldAt (a : Nat) (v : Word) : (s.setReg a v).heldAt = s.heldAt := rfl
@[simp] theorem State.setReg_bistRunning (a : Nat) (v : Word) : (s.setReg a v).bistRunning = s.bistRunning := rfl
@[simp] theorem State.setReg_freeCtr (a : Nat) (v : Word) : (s.setReg a v).freeCtr = s.freeCtr := rfl
@[simp] theorem State.setReg_mem (a : Nat) (v : Word) : (s.setReg a v).mem = s.mem := rfl
@[simp] theorem State.setReg_eccSoft (a : Nat) (v : Word) : (s.setReg a v).eccSoft = s.eccSoft := rfl
@[simp] theorem State.setReg_eccHard (a : Nat) (v : Word) : (s.setReg a v).eccHard = s.eccHard := rfl
@[simp] theorem State.setReg_rdata (a : Nat) (v : Word) : (s.setReg a v).rdata = s.rdata := rfl
@[simp] theorem State.setReg_timers (a : Nat) (v : Word) : (s.setReg a v).timers = s.timers := rfl
@[simp] theorem State.setReg_cores (a : Nat) (v : Word) : (s.setReg a v).cores = s.cores := rfl
@[simp] theorem State.setReg_axes (a : Nat) (v : Word) : (s.setReg a v).axes = s.axes := rfl
@[simp] theorem State.setReg_phases (a : Nat) (v : Word) : (s.setReg a v).phases = s.phases := rfl
@[simp] theorem State.setReg_comps (a : Nat) (v : Word) : (s.setReg a v).comps = s.comps := rfl
@[simp] theorem State.setReg_evrLast (a : Nat) (v : Word) : (s.setReg a v).evrLast = s.evrLast := rfl
@[simp] theorem State.setReg_evrArr (a : Nat) (v : Word) : (s.setReg a v).evrArr = s.evrArr := rfl
@[simp] theorem State.setReg_evrSoft (a : Nat) (v : Word) : (s.setReg a v).evrSoft = s.evrSoft := rfl
@[simp] theorem State.setReg_evrOld (a : Nat) (v : Word) : (s.setReg a v).evrOld = s.evrOld := rfl
@[simp] theorem State.setReg_evrOldAt (a : Nat) (v : Word) : (s.setReg a v).evrOldAt = s.evrOldAt := rfl
@[simp] theorem State.setReg_wakeLatch (a : Nat) (v : Word) : (s.setReg a v).wakeLatch = s.wakeLatch := rfl
@[simp] theorem State.setReg_ssFromRun (a : Nat) (v : Word) : (s.setReg a v).ssFromRun = s.ssFromRun := rfl
@[simp] theorem State.setReg_lanes (a : Nat) (v : Word) : (s.setReg a v).lanes = s.lanes := rfl
@[simp] theorem State.setReg_learn (a : Nat) (v : Word) : (s.setReg a v).learn = s.learn := rfl
@[simp] theorem State.setReg_tickAt (a : Nat) (v : Word) : (s.setReg a v).tickAt = s.tickAt := rfl
@[simp] theorem State.setReg_tblWr (a : Nat) (v : Word) : (s.setReg a v).tblWr = s.tblWr := rfl
@[simp] theorem State.setReg_tblSeal (a : Nat) (v : Word) : (s.setReg a v).tblSeal = s.tblSeal := rfl
@[simp] theorem State.setReg_ssCauses (a : Nat) (v : Word) : (s.setReg a v).ssCauses = s.ssCauses := rfl
@[simp] theorem State.setReg_stoForce (a : Nat) (v : Word) : (s.setReg a v).stoForce = s.stoForce := rfl
@[simp] theorem State.setReg_brkWait (a : Nat) (v : Word) : (s.setReg a v).brkWait = s.brkWait := rfl
@[simp] theorem State.setReg_windows (a : Nat) (v : Word) : (s.setReg a v).windows = s.windows := rfl
@[simp] theorem State.setReg_ports (a : Nat) (v : Word) : (s.setReg a v).ports = s.ports := rfl
@[simp] theorem State.setReg_rxs (a : Nat) (v : Word) : (s.setReg a v).rxs = s.rxs := rfl
@[simp] theorem State.setReg_emus (a : Nat) (v : Word) : (s.setReg a v).emus = s.emus := rfl
@[simp] theorem State.setReg_quads (a : Nat) (v : Word) : (s.setReg a v).quads = s.quads := rfl
@[simp] theorem State.setReg_latches (a : Nat) (v : Word) : (s.setReg a v).latches = s.latches := rfl
@[simp] theorem State.setReg_epochs (a : Nat) (v : Word) : (s.setReg a v).epochs = s.epochs := rfl
@[simp] theorem State.setReg_epoch (a : Nat) (v : Word) : (s.setReg a v).epoch = s.epoch := rfl
@[simp] theorem State.setReg_nsPhase (a : Nat) (v : Word) : (s.setReg a v).nsPhase = s.nsPhase := rfl
@[simp] theorem State.setReg_auxOn (a : Nat) (v : Word) : (s.setReg a v).auxOn = s.auxOn := rfl
@[simp] theorem State.setReg_auxAt (a : Nat) (v : Word) : (s.setReg a v).auxAt = s.auxAt := rfl
@[simp] theorem State.setReg_beat (a : Nat) (v : Word) : (s.setReg a v).beat = s.beat := rfl
@[simp] theorem State.setReg_clocked (a : Nat) (v : Word) : (s.setReg a v).clocked = s.clocked := rfl
@[simp] theorem State.setReg_bulkOk (a : Nat) (v : Word) : (s.setReg a v).bulkOk = s.bulkOk := rfl
@[simp] theorem State.setReg_lineGood (a : Nat) (v : Word) : (s.setReg a v).lineGood = s.lineGood := rfl
@[simp] theorem State.setReg_lg (a : Nat) (v : Word) : (s.setReg a v).lg = s.lg := rfl
@[simp] theorem State.setReg_stoIn (a : Nat) (v : Word) : (s.setReg a v).stoIn = s.stoIn := rfl
@[simp] theorem State.setReg_mwdtSecond (a : Nat) (v : Word) : (s.setReg a v).mwdtSecond = s.mwdtSecond := rfl
@[simp] theorem State.setReg_cwdLen (a : Nat) (v : Word) : (s.setReg a v).cwdLen = s.cwdLen := rfl
@[simp] theorem State.setReg_dmaBuf (a : Nat) (v : Word) : (s.setReg a v).dmaBuf = s.dmaBuf := rfl
@[simp] theorem State.setReg_dmaRd (a : Nat) (v : Word) : (s.setReg a v).dmaRd = s.dmaRd := rfl
@[simp] theorem State.setReg_dramUntil (a : Nat) (v : Word) : (s.setReg a v).dramUntil = s.dramUntil := rfl
@[simp] theorem State.setReg_flcQueue (a : Nat) (v : Word) : (s.setReg a v).flcQueue = s.flcQueue := rfl
@[simp] theorem State.setReg_flcOp (a : Nat) (v : Word) : (s.setReg a v).flcOp = s.flcOp := rfl
@[simp] theorem State.setReg_jUntil (a : Nat) (v : Word) : (s.setReg a v).jUntil = s.jUntil := rfl
@[simp] theorem State.setReg_torn (a : Nat) (v : Word) : (s.setReg a v).torn = s.torn := rfl
@[simp] theorem State.setReg_ffUnits (a : Nat) (v : Word) : (s.setReg a v).ffUnits = s.ffUnits := rfl
@[simp] theorem State.setReg_flcHalf (a : Nat) (v : Word) : (s.setReg a v).flcHalf = s.flcHalf := rfl
@[simp] theorem State.setReg_flcRst (a : Nat) (v : Word) : (s.setReg a v).flcRst = s.flcRst := rfl
@[simp] theorem State.setReg_bootStage (a : Nat) (v : Word) : (s.setReg a v).bootStage = s.bootStage := rfl
@[simp] theorem State.setReg_cryJob (a : Nat) (v : Word) : (s.setReg a v).cryJob = s.cryJob := rfl
@[simp] theorem State.setReg_cryWriter (a : Nat) (v : Word) : (s.setReg a v).cryWriter = s.cryWriter := rfl
@[simp] theorem State.setReg_cryStage (a : Nat) (v : Word) : (s.setReg a v).cryStage = s.cryStage := rfl
@[simp] theorem State.setReg_cryTodo (a : Nat) (v : Word) : (s.setReg a v).cryTodo = s.cryTodo := rfl
@[simp] theorem State.setReg_crySlot (a : Nat) (v : Word) : (s.setReg a v).crySlot = s.crySlot := rfl
@[simp] theorem State.setReg_otpKeys (a : Nat) (v : Word) : (s.setReg a v).otpKeys = s.otpKeys := rfl
@[simp] theorem State.setReg_settings (a : Nat) (v : Word) : (s.setReg a v).settings = s.settings := rfl
@[simp] theorem State.setReg_rstWait (a : Nat) (v : Word) : (s.setReg a v).rstWait = s.rstWait := rfl
@[simp] theorem State.setReg_mainsOn (a : Nat) (v : Word) : (s.setReg a v).mainsOn = s.mainsOn := rfl
@[simp] theorem State.setReg_offHold (a : Nat) (v : Word) : (s.setReg a v).offHold = s.offHold := rfl
@[simp] theorem State.setReg_dormAt (a : Nat) (v : Word) : (s.setReg a v).dormAt = s.dormAt := rfl
@[simp] theorem State.setReg_fromShutdown (a : Nat) (v : Word) : (s.setReg a v).fromShutdown = s.fromShutdown := rfl
@[simp] theorem State.setReg_aonFrac (a : Nat) (v : Word) : (s.setReg a v).aonFrac = s.aonFrac := rfl
@[simp] theorem State.setReg_fabLatch (a : Nat) (v : Word) : (s.setReg a v).fabLatch = s.fabLatch := rfl
@[simp] theorem State.setReg_bootAt (a : Nat) (v : Word) : (s.setReg a v).bootAt = s.bootAt := rfl
@[simp] theorem State.setReg_calAt (a : Nat) (v : Word) : (s.setReg a v).calAt = s.calAt := rfl
@[simp] theorem State.setReg_wakeAt (a : Nat) (v : Word) : (s.setReg a v).wakeAt = s.wakeAt := rfl
@[simp] theorem State.setReg_lbist (a : Nat) (v : Word) : (s.setReg a v).lbist = s.lbist := rfl
@[simp] theorem State.setReg_egress (a : Nat) (v : Word) : (s.setReg a v).egress = s.egress := rfl
@[simp] theorem State.setReg_fabPorts (a : Nat) (v : Word) : (s.setReg a v).fabPorts = s.fabPorts := rfl
@[simp] theorem State.setReg_sess (a : Nat) (v : Word) : (s.setReg a v).sess = s.sess := rfl
@[simp] theorem State.setReg_farOps (a : Nat) (v : Word) : (s.setReg a v).farOps = s.farOps := rfl
@[simp] theorem State.setReg_farTag (a : Nat) (v : Word) : (s.setReg a v).farTag = s.farTag := rfl
@[simp] theorem State.setReg_fabSeq (a : Nat) (v : Word) : (s.setReg a v).fabSeq = s.fabSeq := rfl
@[simp] theorem State.setReg_hostMac (a : Nat) (v : Word) : (s.setReg a v).hostMac = s.hostMac := rfl
@[simp] theorem State.setReg_cycKey (a : Nat) (v : Word) : (s.setReg a v).cycKey = s.cycKey := rfl
@[simp] theorem State.setReg_cycKeyNext (a : Nat) (v : Word) : (s.setReg a v).cycKeyNext = s.cycKeyNext := rfl
@[simp] theorem State.setReg_cycBuf (a : Nat) (v : Word) : (s.setReg a v).cycBuf = s.cycBuf := rfl
@[simp] theorem State.setReg_cycBufNo (a : Nat) (v : Word) : (s.setReg a v).cycBufNo = s.cycBufNo := rfl
@[simp] theorem State.setReg_cycOld (a : Nat) (v : Word) : (s.setReg a v).cycOld = s.cycOld := rfl
@[simp] theorem State.setReg_cycOldNo (a : Nat) (v : Word) : (s.setReg a v).cycOldNo = s.cycOldNo := rfl
@[simp] theorem State.setReg_snapAt (a : Nat) (v : Word) : (s.setReg a v).snapAt = s.snapAt := rfl
@[simp] theorem State.setReg_cycGot (a : Nat) (v : Word) : (s.setReg a v).cycGot = s.cycGot := rfl
@[simp] theorem State.setReg_cycOpen (a : Nat) (v : Word) : (s.setReg a v).cycOpen = s.cycOpen := rfl
@[simp] theorem State.setReg_cycAt (a : Nat) (v : Word) : (s.setReg a v).cycAt = s.cycAt := rfl
@[simp] theorem State.setReg_heldCyc (a : Nat) (v : Word) : (s.setReg a v).heldCyc = s.heldCyc := rfl
@[simp] theorem State.setReg_fabOfs (a : Nat) (v : Word) : (s.setReg a v).fabOfs = s.fabOfs := rfl
@[simp] theorem State.setReg_syncSeen (a : Nat) (v : Word) : (s.setReg a v).syncSeen = s.syncSeen := rfl
@[simp] theorem State.setReg_timeSet (a : Nat) (v : Word) : (s.setReg a v).timeSet = s.timeSet := rfl
@[simp] theorem State.setReg_ofsBad (a : Nat) (v : Word) : (s.setReg a v).ofsBad = s.ofsBad := rfl
@[simp] theorem State.setReg_dropNo (a : Nat) (v : Word) : (s.setReg a v).dropNo = s.dropNo := rfl
@[simp] theorem State.setReg_attestWait (a : Nat) (v : Word) : (s.setReg a v).attestWait = s.attestWait := rfl
@[simp] theorem State.setReg_dioExt (a : Nat) (v : Word) : (s.setReg a v).dioExt = s.dioExt := rfl
@[simp] theorem State.setReg_padOut (a : Nat) (v : Word) : (s.setReg a v).padOut = s.padOut := rfl
@[simp] theorem State.setReg_authDraw (a : Nat) (v : Word) : (s.setReg a v).authDraw = s.authDraw := rfl
@[simp] theorem State.setReg_authSig (a : Nat) (v : Word) : (s.setReg a v).authSig = s.authSig := rfl
@[simp] theorem State.setReg_authKey (a : Nat) (v : Word) : (s.setReg a v).authKey = s.authKey := rfl
@[simp] theorem State.setReg_tapIr (a : Nat) (v : Word) : (s.setReg a v).tapIr = s.tapIr := rfl
@[simp] theorem State.setReg_tapData (a : Nat) (v : Word) : (s.setReg a v).tapData = s.tapData := rfl
@[simp] theorem State.setReg_tapStat (a : Nat) (v : Word) : (s.setReg a v).tapStat = s.tapStat := rfl
@[simp] theorem State.setReg_tapWord (a : Nat) (v : Word) : (s.setReg a v).tapWord = s.tapWord := rfl
@[simp] theorem State.setReg_boundary (a : Nat) (v : Word) : (s.setReg a v).boundary = s.boundary := rfl
@[simp] theorem State.setReg_icuEdges (a : Nat) (v : Word) : (s.setReg a v).icuEdges = s.icuEdges := rfl
@[simp] theorem State.setReg_expAt (a : Nat) (v : Word) : (s.setReg a v).expAt = s.expAt := rfl
@[simp] theorem State.setReg_flcDone (a : Nat) (v : Word) : (s.setReg a v).flcDone = s.flcDone := rfl
@[simp] theorem State.setReg_flcGoAt (a : Nat) (v : Word) : (s.setReg a v).flcGoAt = s.flcGoAt := rfl
@[simp] theorem State.setReg_txHold (a : Nat) (v : Word) : (s.setReg a v).txHold = s.txHold := rfl
@[simp] theorem State.setReg_cycBad (a : Nat) (v : Word) : (s.setReg a v).cycBad = s.cycBad := rfl
@[simp] theorem State.setReg_ackWas (a : Nat) (v : Word) : (s.setReg a v).ackWas = s.ackWas := rfl
@[simp] theorem State.setReg_rxWas (a : Nat) (v : Word) : (s.setReg a v).rxWas = s.rxWas := rfl

/-! ### `State.wr` -/

@[simp] theorem State.wr_pending (f : Fld) (v : Nat) : (s.wr f v).pending = s.pending := rfl
@[simp] theorem State.wr_alarms (f : Fld) (v : Nat) : (s.wr f v).alarms = s.alarms := rfl
@[simp] theorem State.wr_now (f : Fld) (v : Nat) : (s.wr f v).now = s.now := rfl
@[simp] theorem State.wr_held (f : Fld) (v : Nat) : (s.wr f v).held = s.held := rfl
@[simp] theorem State.wr_heldNew (f : Fld) (v : Nat) : (s.wr f v).heldNew = s.heldNew := rfl
@[simp] theorem State.wr_heldAt (f : Fld) (v : Nat) : (s.wr f v).heldAt = s.heldAt := rfl
@[simp] theorem State.wr_bistRunning (f : Fld) (v : Nat) : (s.wr f v).bistRunning = s.bistRunning := rfl
@[simp] theorem State.wr_freeCtr (f : Fld) (v : Nat) : (s.wr f v).freeCtr = s.freeCtr := rfl
@[simp] theorem State.wr_mem (f : Fld) (v : Nat) : (s.wr f v).mem = s.mem := rfl
@[simp] theorem State.wr_eccSoft (f : Fld) (v : Nat) : (s.wr f v).eccSoft = s.eccSoft := rfl
@[simp] theorem State.wr_eccHard (f : Fld) (v : Nat) : (s.wr f v).eccHard = s.eccHard := rfl
@[simp] theorem State.wr_rdata (f : Fld) (v : Nat) : (s.wr f v).rdata = s.rdata := rfl
@[simp] theorem State.wr_timers (f : Fld) (v : Nat) : (s.wr f v).timers = s.timers := rfl
@[simp] theorem State.wr_cores (f : Fld) (v : Nat) : (s.wr f v).cores = s.cores := rfl
@[simp] theorem State.wr_axes (f : Fld) (v : Nat) : (s.wr f v).axes = s.axes := rfl
@[simp] theorem State.wr_phases (f : Fld) (v : Nat) : (s.wr f v).phases = s.phases := rfl
@[simp] theorem State.wr_comps (f : Fld) (v : Nat) : (s.wr f v).comps = s.comps := rfl
@[simp] theorem State.wr_evrLast (f : Fld) (v : Nat) : (s.wr f v).evrLast = s.evrLast := rfl
@[simp] theorem State.wr_evrArr (f : Fld) (v : Nat) : (s.wr f v).evrArr = s.evrArr := rfl
@[simp] theorem State.wr_evrSoft (f : Fld) (v : Nat) : (s.wr f v).evrSoft = s.evrSoft := rfl
@[simp] theorem State.wr_evrOld (f : Fld) (v : Nat) : (s.wr f v).evrOld = s.evrOld := rfl
@[simp] theorem State.wr_evrOldAt (f : Fld) (v : Nat) : (s.wr f v).evrOldAt = s.evrOldAt := rfl
@[simp] theorem State.wr_wakeLatch (f : Fld) (v : Nat) : (s.wr f v).wakeLatch = s.wakeLatch := rfl
@[simp] theorem State.wr_ssFromRun (f : Fld) (v : Nat) : (s.wr f v).ssFromRun = s.ssFromRun := rfl
@[simp] theorem State.wr_lanes (f : Fld) (v : Nat) : (s.wr f v).lanes = s.lanes := rfl
@[simp] theorem State.wr_learn (f : Fld) (v : Nat) : (s.wr f v).learn = s.learn := rfl
@[simp] theorem State.wr_tickAt (f : Fld) (v : Nat) : (s.wr f v).tickAt = s.tickAt := rfl
@[simp] theorem State.wr_tblWr (f : Fld) (v : Nat) : (s.wr f v).tblWr = s.tblWr := rfl
@[simp] theorem State.wr_tblSeal (f : Fld) (v : Nat) : (s.wr f v).tblSeal = s.tblSeal := rfl
@[simp] theorem State.wr_ssCauses (f : Fld) (v : Nat) : (s.wr f v).ssCauses = s.ssCauses := rfl
@[simp] theorem State.wr_stoForce (f : Fld) (v : Nat) : (s.wr f v).stoForce = s.stoForce := rfl
@[simp] theorem State.wr_brkWait (f : Fld) (v : Nat) : (s.wr f v).brkWait = s.brkWait := rfl
@[simp] theorem State.wr_windows (f : Fld) (v : Nat) : (s.wr f v).windows = s.windows := rfl
@[simp] theorem State.wr_ports (f : Fld) (v : Nat) : (s.wr f v).ports = s.ports := rfl
@[simp] theorem State.wr_rxs (f : Fld) (v : Nat) : (s.wr f v).rxs = s.rxs := rfl
@[simp] theorem State.wr_emus (f : Fld) (v : Nat) : (s.wr f v).emus = s.emus := rfl
@[simp] theorem State.wr_quads (f : Fld) (v : Nat) : (s.wr f v).quads = s.quads := rfl
@[simp] theorem State.wr_latches (f : Fld) (v : Nat) : (s.wr f v).latches = s.latches := rfl
@[simp] theorem State.wr_epochs (f : Fld) (v : Nat) : (s.wr f v).epochs = s.epochs := rfl
@[simp] theorem State.wr_epoch (f : Fld) (v : Nat) : (s.wr f v).epoch = s.epoch := rfl
@[simp] theorem State.wr_nsPhase (f : Fld) (v : Nat) : (s.wr f v).nsPhase = s.nsPhase := rfl
@[simp] theorem State.wr_auxOn (f : Fld) (v : Nat) : (s.wr f v).auxOn = s.auxOn := rfl
@[simp] theorem State.wr_auxAt (f : Fld) (v : Nat) : (s.wr f v).auxAt = s.auxAt := rfl
@[simp] theorem State.wr_beat (f : Fld) (v : Nat) : (s.wr f v).beat = s.beat := rfl
@[simp] theorem State.wr_clocked (f : Fld) (v : Nat) : (s.wr f v).clocked = s.clocked := rfl
@[simp] theorem State.wr_bulkOk (f : Fld) (v : Nat) : (s.wr f v).bulkOk = s.bulkOk := rfl
@[simp] theorem State.wr_lineGood (f : Fld) (v : Nat) : (s.wr f v).lineGood = s.lineGood := rfl
@[simp] theorem State.wr_lg (f : Fld) (v : Nat) : (s.wr f v).lg = s.lg := rfl
@[simp] theorem State.wr_stoIn (f : Fld) (v : Nat) : (s.wr f v).stoIn = s.stoIn := rfl
@[simp] theorem State.wr_mwdtSecond (f : Fld) (v : Nat) : (s.wr f v).mwdtSecond = s.mwdtSecond := rfl
@[simp] theorem State.wr_cwdLen (f : Fld) (v : Nat) : (s.wr f v).cwdLen = s.cwdLen := rfl
@[simp] theorem State.wr_dmaBuf (f : Fld) (v : Nat) : (s.wr f v).dmaBuf = s.dmaBuf := rfl
@[simp] theorem State.wr_dmaRd (f : Fld) (v : Nat) : (s.wr f v).dmaRd = s.dmaRd := rfl
@[simp] theorem State.wr_dramUntil (f : Fld) (v : Nat) : (s.wr f v).dramUntil = s.dramUntil := rfl
@[simp] theorem State.wr_flcQueue (f : Fld) (v : Nat) : (s.wr f v).flcQueue = s.flcQueue := rfl
@[simp] theorem State.wr_flcOp (f : Fld) (v : Nat) : (s.wr f v).flcOp = s.flcOp := rfl
@[simp] theorem State.wr_jUntil (f : Fld) (v : Nat) : (s.wr f v).jUntil = s.jUntil := rfl
@[simp] theorem State.wr_torn (f : Fld) (v : Nat) : (s.wr f v).torn = s.torn := rfl
@[simp] theorem State.wr_ffUnits (f : Fld) (v : Nat) : (s.wr f v).ffUnits = s.ffUnits := rfl
@[simp] theorem State.wr_flcHalf (f : Fld) (v : Nat) : (s.wr f v).flcHalf = s.flcHalf := rfl
@[simp] theorem State.wr_flcRst (f : Fld) (v : Nat) : (s.wr f v).flcRst = s.flcRst := rfl
@[simp] theorem State.wr_bootStage (f : Fld) (v : Nat) : (s.wr f v).bootStage = s.bootStage := rfl
@[simp] theorem State.wr_cryJob (f : Fld) (v : Nat) : (s.wr f v).cryJob = s.cryJob := rfl
@[simp] theorem State.wr_cryWriter (f : Fld) (v : Nat) : (s.wr f v).cryWriter = s.cryWriter := rfl
@[simp] theorem State.wr_cryStage (f : Fld) (v : Nat) : (s.wr f v).cryStage = s.cryStage := rfl
@[simp] theorem State.wr_cryTodo (f : Fld) (v : Nat) : (s.wr f v).cryTodo = s.cryTodo := rfl
@[simp] theorem State.wr_crySlot (f : Fld) (v : Nat) : (s.wr f v).crySlot = s.crySlot := rfl
@[simp] theorem State.wr_otpKeys (f : Fld) (v : Nat) : (s.wr f v).otpKeys = s.otpKeys := rfl
@[simp] theorem State.wr_settings (f : Fld) (v : Nat) : (s.wr f v).settings = s.settings := rfl
@[simp] theorem State.wr_rstWait (f : Fld) (v : Nat) : (s.wr f v).rstWait = s.rstWait := rfl
@[simp] theorem State.wr_mainsOn (f : Fld) (v : Nat) : (s.wr f v).mainsOn = s.mainsOn := rfl
@[simp] theorem State.wr_offHold (f : Fld) (v : Nat) : (s.wr f v).offHold = s.offHold := rfl
@[simp] theorem State.wr_dormAt (f : Fld) (v : Nat) : (s.wr f v).dormAt = s.dormAt := rfl
@[simp] theorem State.wr_fromShutdown (f : Fld) (v : Nat) : (s.wr f v).fromShutdown = s.fromShutdown := rfl
@[simp] theorem State.wr_aonFrac (f : Fld) (v : Nat) : (s.wr f v).aonFrac = s.aonFrac := rfl
@[simp] theorem State.wr_fabLatch (f : Fld) (v : Nat) : (s.wr f v).fabLatch = s.fabLatch := rfl
@[simp] theorem State.wr_bootAt (f : Fld) (v : Nat) : (s.wr f v).bootAt = s.bootAt := rfl
@[simp] theorem State.wr_calAt (f : Fld) (v : Nat) : (s.wr f v).calAt = s.calAt := rfl
@[simp] theorem State.wr_wakeAt (f : Fld) (v : Nat) : (s.wr f v).wakeAt = s.wakeAt := rfl
@[simp] theorem State.wr_lbist (f : Fld) (v : Nat) : (s.wr f v).lbist = s.lbist := rfl
@[simp] theorem State.wr_egress (f : Fld) (v : Nat) : (s.wr f v).egress = s.egress := rfl
@[simp] theorem State.wr_fabPorts (f : Fld) (v : Nat) : (s.wr f v).fabPorts = s.fabPorts := rfl
@[simp] theorem State.wr_sess (f : Fld) (v : Nat) : (s.wr f v).sess = s.sess := rfl
@[simp] theorem State.wr_farOps (f : Fld) (v : Nat) : (s.wr f v).farOps = s.farOps := rfl
@[simp] theorem State.wr_farTag (f : Fld) (v : Nat) : (s.wr f v).farTag = s.farTag := rfl
@[simp] theorem State.wr_fabSeq (f : Fld) (v : Nat) : (s.wr f v).fabSeq = s.fabSeq := rfl
@[simp] theorem State.wr_hostMac (f : Fld) (v : Nat) : (s.wr f v).hostMac = s.hostMac := rfl
@[simp] theorem State.wr_cycKey (f : Fld) (v : Nat) : (s.wr f v).cycKey = s.cycKey := rfl
@[simp] theorem State.wr_cycKeyNext (f : Fld) (v : Nat) : (s.wr f v).cycKeyNext = s.cycKeyNext := rfl
@[simp] theorem State.wr_cycBuf (f : Fld) (v : Nat) : (s.wr f v).cycBuf = s.cycBuf := rfl
@[simp] theorem State.wr_cycBufNo (f : Fld) (v : Nat) : (s.wr f v).cycBufNo = s.cycBufNo := rfl
@[simp] theorem State.wr_cycOld (f : Fld) (v : Nat) : (s.wr f v).cycOld = s.cycOld := rfl
@[simp] theorem State.wr_cycOldNo (f : Fld) (v : Nat) : (s.wr f v).cycOldNo = s.cycOldNo := rfl
@[simp] theorem State.wr_snapAt (f : Fld) (v : Nat) : (s.wr f v).snapAt = s.snapAt := rfl
@[simp] theorem State.wr_cycGot (f : Fld) (v : Nat) : (s.wr f v).cycGot = s.cycGot := rfl
@[simp] theorem State.wr_cycOpen (f : Fld) (v : Nat) : (s.wr f v).cycOpen = s.cycOpen := rfl
@[simp] theorem State.wr_cycAt (f : Fld) (v : Nat) : (s.wr f v).cycAt = s.cycAt := rfl
@[simp] theorem State.wr_heldCyc (f : Fld) (v : Nat) : (s.wr f v).heldCyc = s.heldCyc := rfl
@[simp] theorem State.wr_fabOfs (f : Fld) (v : Nat) : (s.wr f v).fabOfs = s.fabOfs := rfl
@[simp] theorem State.wr_syncSeen (f : Fld) (v : Nat) : (s.wr f v).syncSeen = s.syncSeen := rfl
@[simp] theorem State.wr_timeSet (f : Fld) (v : Nat) : (s.wr f v).timeSet = s.timeSet := rfl
@[simp] theorem State.wr_ofsBad (f : Fld) (v : Nat) : (s.wr f v).ofsBad = s.ofsBad := rfl
@[simp] theorem State.wr_dropNo (f : Fld) (v : Nat) : (s.wr f v).dropNo = s.dropNo := rfl
@[simp] theorem State.wr_attestWait (f : Fld) (v : Nat) : (s.wr f v).attestWait = s.attestWait := rfl
@[simp] theorem State.wr_dioExt (f : Fld) (v : Nat) : (s.wr f v).dioExt = s.dioExt := rfl
@[simp] theorem State.wr_padOut (f : Fld) (v : Nat) : (s.wr f v).padOut = s.padOut := rfl
@[simp] theorem State.wr_authDraw (f : Fld) (v : Nat) : (s.wr f v).authDraw = s.authDraw := rfl
@[simp] theorem State.wr_authSig (f : Fld) (v : Nat) : (s.wr f v).authSig = s.authSig := rfl
@[simp] theorem State.wr_authKey (f : Fld) (v : Nat) : (s.wr f v).authKey = s.authKey := rfl
@[simp] theorem State.wr_tapIr (f : Fld) (v : Nat) : (s.wr f v).tapIr = s.tapIr := rfl
@[simp] theorem State.wr_tapData (f : Fld) (v : Nat) : (s.wr f v).tapData = s.tapData := rfl
@[simp] theorem State.wr_tapStat (f : Fld) (v : Nat) : (s.wr f v).tapStat = s.tapStat := rfl
@[simp] theorem State.wr_tapWord (f : Fld) (v : Nat) : (s.wr f v).tapWord = s.tapWord := rfl
@[simp] theorem State.wr_boundary (f : Fld) (v : Nat) : (s.wr f v).boundary = s.boundary := rfl
@[simp] theorem State.wr_icuEdges (f : Fld) (v : Nat) : (s.wr f v).icuEdges = s.icuEdges := rfl
@[simp] theorem State.wr_expAt (f : Fld) (v : Nat) : (s.wr f v).expAt = s.expAt := rfl
@[simp] theorem State.wr_flcDone (f : Fld) (v : Nat) : (s.wr f v).flcDone = s.flcDone := rfl
@[simp] theorem State.wr_flcGoAt (f : Fld) (v : Nat) : (s.wr f v).flcGoAt = s.flcGoAt := rfl
@[simp] theorem State.wr_txHold (f : Fld) (v : Nat) : (s.wr f v).txHold = s.txHold := rfl
@[simp] theorem State.wr_cycBad (f : Fld) (v : Nat) : (s.wr f v).cycBad = s.cycBad := rfl
@[simp] theorem State.wr_ackWas (f : Fld) (v : Nat) : (s.wr f v).ackWas = s.ackWas := rfl
@[simp] theorem State.wr_rxWas (f : Fld) (v : Nat) : (s.wr f v).rxWas = s.rxWas := rfl

/-! ### `State.wrb` -/

@[simp] theorem State.wrb_pending (f : Fld) (b : Bool) : (s.wrb f b).pending = s.pending := rfl
@[simp] theorem State.wrb_alarms (f : Fld) (b : Bool) : (s.wrb f b).alarms = s.alarms := rfl
@[simp] theorem State.wrb_now (f : Fld) (b : Bool) : (s.wrb f b).now = s.now := rfl
@[simp] theorem State.wrb_held (f : Fld) (b : Bool) : (s.wrb f b).held = s.held := rfl
@[simp] theorem State.wrb_heldNew (f : Fld) (b : Bool) : (s.wrb f b).heldNew = s.heldNew := rfl
@[simp] theorem State.wrb_heldAt (f : Fld) (b : Bool) : (s.wrb f b).heldAt = s.heldAt := rfl
@[simp] theorem State.wrb_bistRunning (f : Fld) (b : Bool) : (s.wrb f b).bistRunning = s.bistRunning := rfl
@[simp] theorem State.wrb_freeCtr (f : Fld) (b : Bool) : (s.wrb f b).freeCtr = s.freeCtr := rfl
@[simp] theorem State.wrb_mem (f : Fld) (b : Bool) : (s.wrb f b).mem = s.mem := rfl
@[simp] theorem State.wrb_eccSoft (f : Fld) (b : Bool) : (s.wrb f b).eccSoft = s.eccSoft := rfl
@[simp] theorem State.wrb_eccHard (f : Fld) (b : Bool) : (s.wrb f b).eccHard = s.eccHard := rfl
@[simp] theorem State.wrb_rdata (f : Fld) (b : Bool) : (s.wrb f b).rdata = s.rdata := rfl
@[simp] theorem State.wrb_timers (f : Fld) (b : Bool) : (s.wrb f b).timers = s.timers := rfl
@[simp] theorem State.wrb_cores (f : Fld) (b : Bool) : (s.wrb f b).cores = s.cores := rfl
@[simp] theorem State.wrb_axes (f : Fld) (b : Bool) : (s.wrb f b).axes = s.axes := rfl
@[simp] theorem State.wrb_phases (f : Fld) (b : Bool) : (s.wrb f b).phases = s.phases := rfl
@[simp] theorem State.wrb_comps (f : Fld) (b : Bool) : (s.wrb f b).comps = s.comps := rfl
@[simp] theorem State.wrb_evrLast (f : Fld) (b : Bool) : (s.wrb f b).evrLast = s.evrLast := rfl
@[simp] theorem State.wrb_evrArr (f : Fld) (b : Bool) : (s.wrb f b).evrArr = s.evrArr := rfl
@[simp] theorem State.wrb_evrSoft (f : Fld) (b : Bool) : (s.wrb f b).evrSoft = s.evrSoft := rfl
@[simp] theorem State.wrb_evrOld (f : Fld) (b : Bool) : (s.wrb f b).evrOld = s.evrOld := rfl
@[simp] theorem State.wrb_evrOldAt (f : Fld) (b : Bool) : (s.wrb f b).evrOldAt = s.evrOldAt := rfl
@[simp] theorem State.wrb_wakeLatch (f : Fld) (b : Bool) : (s.wrb f b).wakeLatch = s.wakeLatch := rfl
@[simp] theorem State.wrb_ssFromRun (f : Fld) (b : Bool) : (s.wrb f b).ssFromRun = s.ssFromRun := rfl
@[simp] theorem State.wrb_lanes (f : Fld) (b : Bool) : (s.wrb f b).lanes = s.lanes := rfl
@[simp] theorem State.wrb_learn (f : Fld) (b : Bool) : (s.wrb f b).learn = s.learn := rfl
@[simp] theorem State.wrb_tickAt (f : Fld) (b : Bool) : (s.wrb f b).tickAt = s.tickAt := rfl
@[simp] theorem State.wrb_tblWr (f : Fld) (b : Bool) : (s.wrb f b).tblWr = s.tblWr := rfl
@[simp] theorem State.wrb_tblSeal (f : Fld) (b : Bool) : (s.wrb f b).tblSeal = s.tblSeal := rfl
@[simp] theorem State.wrb_ssCauses (f : Fld) (b : Bool) : (s.wrb f b).ssCauses = s.ssCauses := rfl
@[simp] theorem State.wrb_stoForce (f : Fld) (b : Bool) : (s.wrb f b).stoForce = s.stoForce := rfl
@[simp] theorem State.wrb_brkWait (f : Fld) (b : Bool) : (s.wrb f b).brkWait = s.brkWait := rfl
@[simp] theorem State.wrb_windows (f : Fld) (b : Bool) : (s.wrb f b).windows = s.windows := rfl
@[simp] theorem State.wrb_ports (f : Fld) (b : Bool) : (s.wrb f b).ports = s.ports := rfl
@[simp] theorem State.wrb_rxs (f : Fld) (b : Bool) : (s.wrb f b).rxs = s.rxs := rfl
@[simp] theorem State.wrb_emus (f : Fld) (b : Bool) : (s.wrb f b).emus = s.emus := rfl
@[simp] theorem State.wrb_quads (f : Fld) (b : Bool) : (s.wrb f b).quads = s.quads := rfl
@[simp] theorem State.wrb_latches (f : Fld) (b : Bool) : (s.wrb f b).latches = s.latches := rfl
@[simp] theorem State.wrb_epochs (f : Fld) (b : Bool) : (s.wrb f b).epochs = s.epochs := rfl
@[simp] theorem State.wrb_epoch (f : Fld) (b : Bool) : (s.wrb f b).epoch = s.epoch := rfl
@[simp] theorem State.wrb_nsPhase (f : Fld) (b : Bool) : (s.wrb f b).nsPhase = s.nsPhase := rfl
@[simp] theorem State.wrb_auxOn (f : Fld) (b : Bool) : (s.wrb f b).auxOn = s.auxOn := rfl
@[simp] theorem State.wrb_auxAt (f : Fld) (b : Bool) : (s.wrb f b).auxAt = s.auxAt := rfl
@[simp] theorem State.wrb_beat (f : Fld) (b : Bool) : (s.wrb f b).beat = s.beat := rfl
@[simp] theorem State.wrb_clocked (f : Fld) (b : Bool) : (s.wrb f b).clocked = s.clocked := rfl
@[simp] theorem State.wrb_bulkOk (f : Fld) (b : Bool) : (s.wrb f b).bulkOk = s.bulkOk := rfl
@[simp] theorem State.wrb_lineGood (f : Fld) (b : Bool) : (s.wrb f b).lineGood = s.lineGood := rfl
@[simp] theorem State.wrb_lg (f : Fld) (b : Bool) : (s.wrb f b).lg = s.lg := rfl
@[simp] theorem State.wrb_stoIn (f : Fld) (b : Bool) : (s.wrb f b).stoIn = s.stoIn := rfl
@[simp] theorem State.wrb_mwdtSecond (f : Fld) (b : Bool) : (s.wrb f b).mwdtSecond = s.mwdtSecond := rfl
@[simp] theorem State.wrb_cwdLen (f : Fld) (b : Bool) : (s.wrb f b).cwdLen = s.cwdLen := rfl
@[simp] theorem State.wrb_dmaBuf (f : Fld) (b : Bool) : (s.wrb f b).dmaBuf = s.dmaBuf := rfl
@[simp] theorem State.wrb_dmaRd (f : Fld) (b : Bool) : (s.wrb f b).dmaRd = s.dmaRd := rfl
@[simp] theorem State.wrb_dramUntil (f : Fld) (b : Bool) : (s.wrb f b).dramUntil = s.dramUntil := rfl
@[simp] theorem State.wrb_flcQueue (f : Fld) (b : Bool) : (s.wrb f b).flcQueue = s.flcQueue := rfl
@[simp] theorem State.wrb_flcOp (f : Fld) (b : Bool) : (s.wrb f b).flcOp = s.flcOp := rfl
@[simp] theorem State.wrb_jUntil (f : Fld) (b : Bool) : (s.wrb f b).jUntil = s.jUntil := rfl
@[simp] theorem State.wrb_torn (f : Fld) (b : Bool) : (s.wrb f b).torn = s.torn := rfl
@[simp] theorem State.wrb_ffUnits (f : Fld) (b : Bool) : (s.wrb f b).ffUnits = s.ffUnits := rfl
@[simp] theorem State.wrb_flcHalf (f : Fld) (b : Bool) : (s.wrb f b).flcHalf = s.flcHalf := rfl
@[simp] theorem State.wrb_flcRst (f : Fld) (b : Bool) : (s.wrb f b).flcRst = s.flcRst := rfl
@[simp] theorem State.wrb_bootStage (f : Fld) (b : Bool) : (s.wrb f b).bootStage = s.bootStage := rfl
@[simp] theorem State.wrb_cryJob (f : Fld) (b : Bool) : (s.wrb f b).cryJob = s.cryJob := rfl
@[simp] theorem State.wrb_cryWriter (f : Fld) (b : Bool) : (s.wrb f b).cryWriter = s.cryWriter := rfl
@[simp] theorem State.wrb_cryStage (f : Fld) (b : Bool) : (s.wrb f b).cryStage = s.cryStage := rfl
@[simp] theorem State.wrb_cryTodo (f : Fld) (b : Bool) : (s.wrb f b).cryTodo = s.cryTodo := rfl
@[simp] theorem State.wrb_crySlot (f : Fld) (b : Bool) : (s.wrb f b).crySlot = s.crySlot := rfl
@[simp] theorem State.wrb_otpKeys (f : Fld) (b : Bool) : (s.wrb f b).otpKeys = s.otpKeys := rfl
@[simp] theorem State.wrb_settings (f : Fld) (b : Bool) : (s.wrb f b).settings = s.settings := rfl
@[simp] theorem State.wrb_rstWait (f : Fld) (b : Bool) : (s.wrb f b).rstWait = s.rstWait := rfl
@[simp] theorem State.wrb_mainsOn (f : Fld) (b : Bool) : (s.wrb f b).mainsOn = s.mainsOn := rfl
@[simp] theorem State.wrb_offHold (f : Fld) (b : Bool) : (s.wrb f b).offHold = s.offHold := rfl
@[simp] theorem State.wrb_dormAt (f : Fld) (b : Bool) : (s.wrb f b).dormAt = s.dormAt := rfl
@[simp] theorem State.wrb_fromShutdown (f : Fld) (b : Bool) : (s.wrb f b).fromShutdown = s.fromShutdown := rfl
@[simp] theorem State.wrb_aonFrac (f : Fld) (b : Bool) : (s.wrb f b).aonFrac = s.aonFrac := rfl
@[simp] theorem State.wrb_fabLatch (f : Fld) (b : Bool) : (s.wrb f b).fabLatch = s.fabLatch := rfl
@[simp] theorem State.wrb_bootAt (f : Fld) (b : Bool) : (s.wrb f b).bootAt = s.bootAt := rfl
@[simp] theorem State.wrb_calAt (f : Fld) (b : Bool) : (s.wrb f b).calAt = s.calAt := rfl
@[simp] theorem State.wrb_wakeAt (f : Fld) (b : Bool) : (s.wrb f b).wakeAt = s.wakeAt := rfl
@[simp] theorem State.wrb_lbist (f : Fld) (b : Bool) : (s.wrb f b).lbist = s.lbist := rfl
@[simp] theorem State.wrb_egress (f : Fld) (b : Bool) : (s.wrb f b).egress = s.egress := rfl
@[simp] theorem State.wrb_fabPorts (f : Fld) (b : Bool) : (s.wrb f b).fabPorts = s.fabPorts := rfl
@[simp] theorem State.wrb_sess (f : Fld) (b : Bool) : (s.wrb f b).sess = s.sess := rfl
@[simp] theorem State.wrb_farOps (f : Fld) (b : Bool) : (s.wrb f b).farOps = s.farOps := rfl
@[simp] theorem State.wrb_farTag (f : Fld) (b : Bool) : (s.wrb f b).farTag = s.farTag := rfl
@[simp] theorem State.wrb_fabSeq (f : Fld) (b : Bool) : (s.wrb f b).fabSeq = s.fabSeq := rfl
@[simp] theorem State.wrb_hostMac (f : Fld) (b : Bool) : (s.wrb f b).hostMac = s.hostMac := rfl
@[simp] theorem State.wrb_cycKey (f : Fld) (b : Bool) : (s.wrb f b).cycKey = s.cycKey := rfl
@[simp] theorem State.wrb_cycKeyNext (f : Fld) (b : Bool) : (s.wrb f b).cycKeyNext = s.cycKeyNext := rfl
@[simp] theorem State.wrb_cycBuf (f : Fld) (b : Bool) : (s.wrb f b).cycBuf = s.cycBuf := rfl
@[simp] theorem State.wrb_cycBufNo (f : Fld) (b : Bool) : (s.wrb f b).cycBufNo = s.cycBufNo := rfl
@[simp] theorem State.wrb_cycOld (f : Fld) (b : Bool) : (s.wrb f b).cycOld = s.cycOld := rfl
@[simp] theorem State.wrb_cycOldNo (f : Fld) (b : Bool) : (s.wrb f b).cycOldNo = s.cycOldNo := rfl
@[simp] theorem State.wrb_snapAt (f : Fld) (b : Bool) : (s.wrb f b).snapAt = s.snapAt := rfl
@[simp] theorem State.wrb_cycGot (f : Fld) (b : Bool) : (s.wrb f b).cycGot = s.cycGot := rfl
@[simp] theorem State.wrb_cycOpen (f : Fld) (b : Bool) : (s.wrb f b).cycOpen = s.cycOpen := rfl
@[simp] theorem State.wrb_cycAt (f : Fld) (b : Bool) : (s.wrb f b).cycAt = s.cycAt := rfl
@[simp] theorem State.wrb_heldCyc (f : Fld) (b : Bool) : (s.wrb f b).heldCyc = s.heldCyc := rfl
@[simp] theorem State.wrb_fabOfs (f : Fld) (b : Bool) : (s.wrb f b).fabOfs = s.fabOfs := rfl
@[simp] theorem State.wrb_syncSeen (f : Fld) (b : Bool) : (s.wrb f b).syncSeen = s.syncSeen := rfl
@[simp] theorem State.wrb_timeSet (f : Fld) (b : Bool) : (s.wrb f b).timeSet = s.timeSet := rfl
@[simp] theorem State.wrb_ofsBad (f : Fld) (b : Bool) : (s.wrb f b).ofsBad = s.ofsBad := rfl
@[simp] theorem State.wrb_dropNo (f : Fld) (b : Bool) : (s.wrb f b).dropNo = s.dropNo := rfl
@[simp] theorem State.wrb_attestWait (f : Fld) (b : Bool) : (s.wrb f b).attestWait = s.attestWait := rfl
@[simp] theorem State.wrb_dioExt (f : Fld) (b : Bool) : (s.wrb f b).dioExt = s.dioExt := rfl
@[simp] theorem State.wrb_padOut (f : Fld) (b : Bool) : (s.wrb f b).padOut = s.padOut := rfl
@[simp] theorem State.wrb_authDraw (f : Fld) (b : Bool) : (s.wrb f b).authDraw = s.authDraw := rfl
@[simp] theorem State.wrb_authSig (f : Fld) (b : Bool) : (s.wrb f b).authSig = s.authSig := rfl
@[simp] theorem State.wrb_authKey (f : Fld) (b : Bool) : (s.wrb f b).authKey = s.authKey := rfl
@[simp] theorem State.wrb_tapIr (f : Fld) (b : Bool) : (s.wrb f b).tapIr = s.tapIr := rfl
@[simp] theorem State.wrb_tapData (f : Fld) (b : Bool) : (s.wrb f b).tapData = s.tapData := rfl
@[simp] theorem State.wrb_tapStat (f : Fld) (b : Bool) : (s.wrb f b).tapStat = s.tapStat := rfl
@[simp] theorem State.wrb_tapWord (f : Fld) (b : Bool) : (s.wrb f b).tapWord = s.tapWord := rfl
@[simp] theorem State.wrb_boundary (f : Fld) (b : Bool) : (s.wrb f b).boundary = s.boundary := rfl
@[simp] theorem State.wrb_icuEdges (f : Fld) (b : Bool) : (s.wrb f b).icuEdges = s.icuEdges := rfl
@[simp] theorem State.wrb_expAt (f : Fld) (b : Bool) : (s.wrb f b).expAt = s.expAt := rfl
@[simp] theorem State.wrb_flcDone (f : Fld) (b : Bool) : (s.wrb f b).flcDone = s.flcDone := rfl
@[simp] theorem State.wrb_flcGoAt (f : Fld) (b : Bool) : (s.wrb f b).flcGoAt = s.flcGoAt := rfl
@[simp] theorem State.wrb_txHold (f : Fld) (b : Bool) : (s.wrb f b).txHold = s.txHold := rfl
@[simp] theorem State.wrb_cycBad (f : Fld) (b : Bool) : (s.wrb f b).cycBad = s.cycBad := rfl
@[simp] theorem State.wrb_ackWas (f : Fld) (b : Bool) : (s.wrb f b).ackWas = s.ackWas := rfl
@[simp] theorem State.wrb_rxWas (f : Fld) (b : Bool) : (s.wrb f b).rxWas = s.rxWas := rfl

/-! ### `State.on` -/

@[simp] theorem State.on_pending (f : Fld) : (s.on f).pending = s.pending := rfl
@[simp] theorem State.on_alarms (f : Fld) : (s.on f).alarms = s.alarms := rfl
@[simp] theorem State.on_now (f : Fld) : (s.on f).now = s.now := rfl
@[simp] theorem State.on_held (f : Fld) : (s.on f).held = s.held := rfl
@[simp] theorem State.on_heldNew (f : Fld) : (s.on f).heldNew = s.heldNew := rfl
@[simp] theorem State.on_heldAt (f : Fld) : (s.on f).heldAt = s.heldAt := rfl
@[simp] theorem State.on_bistRunning (f : Fld) : (s.on f).bistRunning = s.bistRunning := rfl
@[simp] theorem State.on_freeCtr (f : Fld) : (s.on f).freeCtr = s.freeCtr := rfl
@[simp] theorem State.on_mem (f : Fld) : (s.on f).mem = s.mem := rfl
@[simp] theorem State.on_eccSoft (f : Fld) : (s.on f).eccSoft = s.eccSoft := rfl
@[simp] theorem State.on_eccHard (f : Fld) : (s.on f).eccHard = s.eccHard := rfl
@[simp] theorem State.on_rdata (f : Fld) : (s.on f).rdata = s.rdata := rfl
@[simp] theorem State.on_timers (f : Fld) : (s.on f).timers = s.timers := rfl
@[simp] theorem State.on_cores (f : Fld) : (s.on f).cores = s.cores := rfl
@[simp] theorem State.on_axes (f : Fld) : (s.on f).axes = s.axes := rfl
@[simp] theorem State.on_phases (f : Fld) : (s.on f).phases = s.phases := rfl
@[simp] theorem State.on_comps (f : Fld) : (s.on f).comps = s.comps := rfl
@[simp] theorem State.on_evrLast (f : Fld) : (s.on f).evrLast = s.evrLast := rfl
@[simp] theorem State.on_evrArr (f : Fld) : (s.on f).evrArr = s.evrArr := rfl
@[simp] theorem State.on_evrSoft (f : Fld) : (s.on f).evrSoft = s.evrSoft := rfl
@[simp] theorem State.on_evrOld (f : Fld) : (s.on f).evrOld = s.evrOld := rfl
@[simp] theorem State.on_evrOldAt (f : Fld) : (s.on f).evrOldAt = s.evrOldAt := rfl
@[simp] theorem State.on_wakeLatch (f : Fld) : (s.on f).wakeLatch = s.wakeLatch := rfl
@[simp] theorem State.on_ssFromRun (f : Fld) : (s.on f).ssFromRun = s.ssFromRun := rfl
@[simp] theorem State.on_lanes (f : Fld) : (s.on f).lanes = s.lanes := rfl
@[simp] theorem State.on_learn (f : Fld) : (s.on f).learn = s.learn := rfl
@[simp] theorem State.on_tickAt (f : Fld) : (s.on f).tickAt = s.tickAt := rfl
@[simp] theorem State.on_tblWr (f : Fld) : (s.on f).tblWr = s.tblWr := rfl
@[simp] theorem State.on_tblSeal (f : Fld) : (s.on f).tblSeal = s.tblSeal := rfl
@[simp] theorem State.on_ssCauses (f : Fld) : (s.on f).ssCauses = s.ssCauses := rfl
@[simp] theorem State.on_stoForce (f : Fld) : (s.on f).stoForce = s.stoForce := rfl
@[simp] theorem State.on_brkWait (f : Fld) : (s.on f).brkWait = s.brkWait := rfl
@[simp] theorem State.on_windows (f : Fld) : (s.on f).windows = s.windows := rfl
@[simp] theorem State.on_ports (f : Fld) : (s.on f).ports = s.ports := rfl
@[simp] theorem State.on_rxs (f : Fld) : (s.on f).rxs = s.rxs := rfl
@[simp] theorem State.on_emus (f : Fld) : (s.on f).emus = s.emus := rfl
@[simp] theorem State.on_quads (f : Fld) : (s.on f).quads = s.quads := rfl
@[simp] theorem State.on_latches (f : Fld) : (s.on f).latches = s.latches := rfl
@[simp] theorem State.on_epochs (f : Fld) : (s.on f).epochs = s.epochs := rfl
@[simp] theorem State.on_epoch (f : Fld) : (s.on f).epoch = s.epoch := rfl
@[simp] theorem State.on_nsPhase (f : Fld) : (s.on f).nsPhase = s.nsPhase := rfl
@[simp] theorem State.on_auxOn (f : Fld) : (s.on f).auxOn = s.auxOn := rfl
@[simp] theorem State.on_auxAt (f : Fld) : (s.on f).auxAt = s.auxAt := rfl
@[simp] theorem State.on_beat (f : Fld) : (s.on f).beat = s.beat := rfl
@[simp] theorem State.on_clocked (f : Fld) : (s.on f).clocked = s.clocked := rfl
@[simp] theorem State.on_bulkOk (f : Fld) : (s.on f).bulkOk = s.bulkOk := rfl
@[simp] theorem State.on_lineGood (f : Fld) : (s.on f).lineGood = s.lineGood := rfl
@[simp] theorem State.on_lg (f : Fld) : (s.on f).lg = s.lg := rfl
@[simp] theorem State.on_stoIn (f : Fld) : (s.on f).stoIn = s.stoIn := rfl
@[simp] theorem State.on_mwdtSecond (f : Fld) : (s.on f).mwdtSecond = s.mwdtSecond := rfl
@[simp] theorem State.on_cwdLen (f : Fld) : (s.on f).cwdLen = s.cwdLen := rfl
@[simp] theorem State.on_dmaBuf (f : Fld) : (s.on f).dmaBuf = s.dmaBuf := rfl
@[simp] theorem State.on_dmaRd (f : Fld) : (s.on f).dmaRd = s.dmaRd := rfl
@[simp] theorem State.on_dramUntil (f : Fld) : (s.on f).dramUntil = s.dramUntil := rfl
@[simp] theorem State.on_flcQueue (f : Fld) : (s.on f).flcQueue = s.flcQueue := rfl
@[simp] theorem State.on_flcOp (f : Fld) : (s.on f).flcOp = s.flcOp := rfl
@[simp] theorem State.on_jUntil (f : Fld) : (s.on f).jUntil = s.jUntil := rfl
@[simp] theorem State.on_torn (f : Fld) : (s.on f).torn = s.torn := rfl
@[simp] theorem State.on_ffUnits (f : Fld) : (s.on f).ffUnits = s.ffUnits := rfl
@[simp] theorem State.on_flcHalf (f : Fld) : (s.on f).flcHalf = s.flcHalf := rfl
@[simp] theorem State.on_flcRst (f : Fld) : (s.on f).flcRst = s.flcRst := rfl
@[simp] theorem State.on_bootStage (f : Fld) : (s.on f).bootStage = s.bootStage := rfl
@[simp] theorem State.on_cryJob (f : Fld) : (s.on f).cryJob = s.cryJob := rfl
@[simp] theorem State.on_cryWriter (f : Fld) : (s.on f).cryWriter = s.cryWriter := rfl
@[simp] theorem State.on_cryStage (f : Fld) : (s.on f).cryStage = s.cryStage := rfl
@[simp] theorem State.on_cryTodo (f : Fld) : (s.on f).cryTodo = s.cryTodo := rfl
@[simp] theorem State.on_crySlot (f : Fld) : (s.on f).crySlot = s.crySlot := rfl
@[simp] theorem State.on_otpKeys (f : Fld) : (s.on f).otpKeys = s.otpKeys := rfl
@[simp] theorem State.on_settings (f : Fld) : (s.on f).settings = s.settings := rfl
@[simp] theorem State.on_rstWait (f : Fld) : (s.on f).rstWait = s.rstWait := rfl
@[simp] theorem State.on_mainsOn (f : Fld) : (s.on f).mainsOn = s.mainsOn := rfl
@[simp] theorem State.on_offHold (f : Fld) : (s.on f).offHold = s.offHold := rfl
@[simp] theorem State.on_dormAt (f : Fld) : (s.on f).dormAt = s.dormAt := rfl
@[simp] theorem State.on_fromShutdown (f : Fld) : (s.on f).fromShutdown = s.fromShutdown := rfl
@[simp] theorem State.on_aonFrac (f : Fld) : (s.on f).aonFrac = s.aonFrac := rfl
@[simp] theorem State.on_fabLatch (f : Fld) : (s.on f).fabLatch = s.fabLatch := rfl
@[simp] theorem State.on_bootAt (f : Fld) : (s.on f).bootAt = s.bootAt := rfl
@[simp] theorem State.on_calAt (f : Fld) : (s.on f).calAt = s.calAt := rfl
@[simp] theorem State.on_wakeAt (f : Fld) : (s.on f).wakeAt = s.wakeAt := rfl
@[simp] theorem State.on_lbist (f : Fld) : (s.on f).lbist = s.lbist := rfl
@[simp] theorem State.on_egress (f : Fld) : (s.on f).egress = s.egress := rfl
@[simp] theorem State.on_fabPorts (f : Fld) : (s.on f).fabPorts = s.fabPorts := rfl
@[simp] theorem State.on_sess (f : Fld) : (s.on f).sess = s.sess := rfl
@[simp] theorem State.on_farOps (f : Fld) : (s.on f).farOps = s.farOps := rfl
@[simp] theorem State.on_farTag (f : Fld) : (s.on f).farTag = s.farTag := rfl
@[simp] theorem State.on_fabSeq (f : Fld) : (s.on f).fabSeq = s.fabSeq := rfl
@[simp] theorem State.on_hostMac (f : Fld) : (s.on f).hostMac = s.hostMac := rfl
@[simp] theorem State.on_cycKey (f : Fld) : (s.on f).cycKey = s.cycKey := rfl
@[simp] theorem State.on_cycKeyNext (f : Fld) : (s.on f).cycKeyNext = s.cycKeyNext := rfl
@[simp] theorem State.on_cycBuf (f : Fld) : (s.on f).cycBuf = s.cycBuf := rfl
@[simp] theorem State.on_cycBufNo (f : Fld) : (s.on f).cycBufNo = s.cycBufNo := rfl
@[simp] theorem State.on_cycOld (f : Fld) : (s.on f).cycOld = s.cycOld := rfl
@[simp] theorem State.on_cycOldNo (f : Fld) : (s.on f).cycOldNo = s.cycOldNo := rfl
@[simp] theorem State.on_snapAt (f : Fld) : (s.on f).snapAt = s.snapAt := rfl
@[simp] theorem State.on_cycGot (f : Fld) : (s.on f).cycGot = s.cycGot := rfl
@[simp] theorem State.on_cycOpen (f : Fld) : (s.on f).cycOpen = s.cycOpen := rfl
@[simp] theorem State.on_cycAt (f : Fld) : (s.on f).cycAt = s.cycAt := rfl
@[simp] theorem State.on_heldCyc (f : Fld) : (s.on f).heldCyc = s.heldCyc := rfl
@[simp] theorem State.on_fabOfs (f : Fld) : (s.on f).fabOfs = s.fabOfs := rfl
@[simp] theorem State.on_syncSeen (f : Fld) : (s.on f).syncSeen = s.syncSeen := rfl
@[simp] theorem State.on_timeSet (f : Fld) : (s.on f).timeSet = s.timeSet := rfl
@[simp] theorem State.on_ofsBad (f : Fld) : (s.on f).ofsBad = s.ofsBad := rfl
@[simp] theorem State.on_dropNo (f : Fld) : (s.on f).dropNo = s.dropNo := rfl
@[simp] theorem State.on_attestWait (f : Fld) : (s.on f).attestWait = s.attestWait := rfl
@[simp] theorem State.on_dioExt (f : Fld) : (s.on f).dioExt = s.dioExt := rfl
@[simp] theorem State.on_padOut (f : Fld) : (s.on f).padOut = s.padOut := rfl
@[simp] theorem State.on_authDraw (f : Fld) : (s.on f).authDraw = s.authDraw := rfl
@[simp] theorem State.on_authSig (f : Fld) : (s.on f).authSig = s.authSig := rfl
@[simp] theorem State.on_authKey (f : Fld) : (s.on f).authKey = s.authKey := rfl
@[simp] theorem State.on_tapIr (f : Fld) : (s.on f).tapIr = s.tapIr := rfl
@[simp] theorem State.on_tapData (f : Fld) : (s.on f).tapData = s.tapData := rfl
@[simp] theorem State.on_tapStat (f : Fld) : (s.on f).tapStat = s.tapStat := rfl
@[simp] theorem State.on_tapWord (f : Fld) : (s.on f).tapWord = s.tapWord := rfl
@[simp] theorem State.on_boundary (f : Fld) : (s.on f).boundary = s.boundary := rfl
@[simp] theorem State.on_icuEdges (f : Fld) : (s.on f).icuEdges = s.icuEdges := rfl
@[simp] theorem State.on_expAt (f : Fld) : (s.on f).expAt = s.expAt := rfl
@[simp] theorem State.on_flcDone (f : Fld) : (s.on f).flcDone = s.flcDone := rfl
@[simp] theorem State.on_flcGoAt (f : Fld) : (s.on f).flcGoAt = s.flcGoAt := rfl
@[simp] theorem State.on_txHold (f : Fld) : (s.on f).txHold = s.txHold := rfl
@[simp] theorem State.on_cycBad (f : Fld) : (s.on f).cycBad = s.cycBad := rfl
@[simp] theorem State.on_ackWas (f : Fld) : (s.on f).ackWas = s.ackWas := rfl
@[simp] theorem State.on_rxWas (f : Fld) : (s.on f).rxWas = s.rxWas := rfl

/-! ### `State.off0` -/

@[simp] theorem State.off0_pending (f : Fld) : (s.off0 f).pending = s.pending := rfl
@[simp] theorem State.off0_alarms (f : Fld) : (s.off0 f).alarms = s.alarms := rfl
@[simp] theorem State.off0_now (f : Fld) : (s.off0 f).now = s.now := rfl
@[simp] theorem State.off0_held (f : Fld) : (s.off0 f).held = s.held := rfl
@[simp] theorem State.off0_heldNew (f : Fld) : (s.off0 f).heldNew = s.heldNew := rfl
@[simp] theorem State.off0_heldAt (f : Fld) : (s.off0 f).heldAt = s.heldAt := rfl
@[simp] theorem State.off0_bistRunning (f : Fld) : (s.off0 f).bistRunning = s.bistRunning := rfl
@[simp] theorem State.off0_freeCtr (f : Fld) : (s.off0 f).freeCtr = s.freeCtr := rfl
@[simp] theorem State.off0_mem (f : Fld) : (s.off0 f).mem = s.mem := rfl
@[simp] theorem State.off0_eccSoft (f : Fld) : (s.off0 f).eccSoft = s.eccSoft := rfl
@[simp] theorem State.off0_eccHard (f : Fld) : (s.off0 f).eccHard = s.eccHard := rfl
@[simp] theorem State.off0_rdata (f : Fld) : (s.off0 f).rdata = s.rdata := rfl
@[simp] theorem State.off0_timers (f : Fld) : (s.off0 f).timers = s.timers := rfl
@[simp] theorem State.off0_cores (f : Fld) : (s.off0 f).cores = s.cores := rfl
@[simp] theorem State.off0_axes (f : Fld) : (s.off0 f).axes = s.axes := rfl
@[simp] theorem State.off0_phases (f : Fld) : (s.off0 f).phases = s.phases := rfl
@[simp] theorem State.off0_comps (f : Fld) : (s.off0 f).comps = s.comps := rfl
@[simp] theorem State.off0_evrLast (f : Fld) : (s.off0 f).evrLast = s.evrLast := rfl
@[simp] theorem State.off0_evrArr (f : Fld) : (s.off0 f).evrArr = s.evrArr := rfl
@[simp] theorem State.off0_evrSoft (f : Fld) : (s.off0 f).evrSoft = s.evrSoft := rfl
@[simp] theorem State.off0_evrOld (f : Fld) : (s.off0 f).evrOld = s.evrOld := rfl
@[simp] theorem State.off0_evrOldAt (f : Fld) : (s.off0 f).evrOldAt = s.evrOldAt := rfl
@[simp] theorem State.off0_wakeLatch (f : Fld) : (s.off0 f).wakeLatch = s.wakeLatch := rfl
@[simp] theorem State.off0_ssFromRun (f : Fld) : (s.off0 f).ssFromRun = s.ssFromRun := rfl
@[simp] theorem State.off0_lanes (f : Fld) : (s.off0 f).lanes = s.lanes := rfl
@[simp] theorem State.off0_learn (f : Fld) : (s.off0 f).learn = s.learn := rfl
@[simp] theorem State.off0_tickAt (f : Fld) : (s.off0 f).tickAt = s.tickAt := rfl
@[simp] theorem State.off0_tblWr (f : Fld) : (s.off0 f).tblWr = s.tblWr := rfl
@[simp] theorem State.off0_tblSeal (f : Fld) : (s.off0 f).tblSeal = s.tblSeal := rfl
@[simp] theorem State.off0_ssCauses (f : Fld) : (s.off0 f).ssCauses = s.ssCauses := rfl
@[simp] theorem State.off0_stoForce (f : Fld) : (s.off0 f).stoForce = s.stoForce := rfl
@[simp] theorem State.off0_brkWait (f : Fld) : (s.off0 f).brkWait = s.brkWait := rfl
@[simp] theorem State.off0_windows (f : Fld) : (s.off0 f).windows = s.windows := rfl
@[simp] theorem State.off0_ports (f : Fld) : (s.off0 f).ports = s.ports := rfl
@[simp] theorem State.off0_rxs (f : Fld) : (s.off0 f).rxs = s.rxs := rfl
@[simp] theorem State.off0_emus (f : Fld) : (s.off0 f).emus = s.emus := rfl
@[simp] theorem State.off0_quads (f : Fld) : (s.off0 f).quads = s.quads := rfl
@[simp] theorem State.off0_latches (f : Fld) : (s.off0 f).latches = s.latches := rfl
@[simp] theorem State.off0_epochs (f : Fld) : (s.off0 f).epochs = s.epochs := rfl
@[simp] theorem State.off0_epoch (f : Fld) : (s.off0 f).epoch = s.epoch := rfl
@[simp] theorem State.off0_nsPhase (f : Fld) : (s.off0 f).nsPhase = s.nsPhase := rfl
@[simp] theorem State.off0_auxOn (f : Fld) : (s.off0 f).auxOn = s.auxOn := rfl
@[simp] theorem State.off0_auxAt (f : Fld) : (s.off0 f).auxAt = s.auxAt := rfl
@[simp] theorem State.off0_beat (f : Fld) : (s.off0 f).beat = s.beat := rfl
@[simp] theorem State.off0_clocked (f : Fld) : (s.off0 f).clocked = s.clocked := rfl
@[simp] theorem State.off0_bulkOk (f : Fld) : (s.off0 f).bulkOk = s.bulkOk := rfl
@[simp] theorem State.off0_lineGood (f : Fld) : (s.off0 f).lineGood = s.lineGood := rfl
@[simp] theorem State.off0_lg (f : Fld) : (s.off0 f).lg = s.lg := rfl
@[simp] theorem State.off0_stoIn (f : Fld) : (s.off0 f).stoIn = s.stoIn := rfl
@[simp] theorem State.off0_mwdtSecond (f : Fld) : (s.off0 f).mwdtSecond = s.mwdtSecond := rfl
@[simp] theorem State.off0_cwdLen (f : Fld) : (s.off0 f).cwdLen = s.cwdLen := rfl
@[simp] theorem State.off0_dmaBuf (f : Fld) : (s.off0 f).dmaBuf = s.dmaBuf := rfl
@[simp] theorem State.off0_dmaRd (f : Fld) : (s.off0 f).dmaRd = s.dmaRd := rfl
@[simp] theorem State.off0_dramUntil (f : Fld) : (s.off0 f).dramUntil = s.dramUntil := rfl
@[simp] theorem State.off0_flcQueue (f : Fld) : (s.off0 f).flcQueue = s.flcQueue := rfl
@[simp] theorem State.off0_flcOp (f : Fld) : (s.off0 f).flcOp = s.flcOp := rfl
@[simp] theorem State.off0_jUntil (f : Fld) : (s.off0 f).jUntil = s.jUntil := rfl
@[simp] theorem State.off0_torn (f : Fld) : (s.off0 f).torn = s.torn := rfl
@[simp] theorem State.off0_ffUnits (f : Fld) : (s.off0 f).ffUnits = s.ffUnits := rfl
@[simp] theorem State.off0_flcHalf (f : Fld) : (s.off0 f).flcHalf = s.flcHalf := rfl
@[simp] theorem State.off0_flcRst (f : Fld) : (s.off0 f).flcRst = s.flcRst := rfl
@[simp] theorem State.off0_bootStage (f : Fld) : (s.off0 f).bootStage = s.bootStage := rfl
@[simp] theorem State.off0_cryJob (f : Fld) : (s.off0 f).cryJob = s.cryJob := rfl
@[simp] theorem State.off0_cryWriter (f : Fld) : (s.off0 f).cryWriter = s.cryWriter := rfl
@[simp] theorem State.off0_cryStage (f : Fld) : (s.off0 f).cryStage = s.cryStage := rfl
@[simp] theorem State.off0_cryTodo (f : Fld) : (s.off0 f).cryTodo = s.cryTodo := rfl
@[simp] theorem State.off0_crySlot (f : Fld) : (s.off0 f).crySlot = s.crySlot := rfl
@[simp] theorem State.off0_otpKeys (f : Fld) : (s.off0 f).otpKeys = s.otpKeys := rfl
@[simp] theorem State.off0_settings (f : Fld) : (s.off0 f).settings = s.settings := rfl
@[simp] theorem State.off0_rstWait (f : Fld) : (s.off0 f).rstWait = s.rstWait := rfl
@[simp] theorem State.off0_mainsOn (f : Fld) : (s.off0 f).mainsOn = s.mainsOn := rfl
@[simp] theorem State.off0_offHold (f : Fld) : (s.off0 f).offHold = s.offHold := rfl
@[simp] theorem State.off0_dormAt (f : Fld) : (s.off0 f).dormAt = s.dormAt := rfl
@[simp] theorem State.off0_fromShutdown (f : Fld) : (s.off0 f).fromShutdown = s.fromShutdown := rfl
@[simp] theorem State.off0_aonFrac (f : Fld) : (s.off0 f).aonFrac = s.aonFrac := rfl
@[simp] theorem State.off0_fabLatch (f : Fld) : (s.off0 f).fabLatch = s.fabLatch := rfl
@[simp] theorem State.off0_bootAt (f : Fld) : (s.off0 f).bootAt = s.bootAt := rfl
@[simp] theorem State.off0_calAt (f : Fld) : (s.off0 f).calAt = s.calAt := rfl
@[simp] theorem State.off0_wakeAt (f : Fld) : (s.off0 f).wakeAt = s.wakeAt := rfl
@[simp] theorem State.off0_lbist (f : Fld) : (s.off0 f).lbist = s.lbist := rfl
@[simp] theorem State.off0_egress (f : Fld) : (s.off0 f).egress = s.egress := rfl
@[simp] theorem State.off0_fabPorts (f : Fld) : (s.off0 f).fabPorts = s.fabPorts := rfl
@[simp] theorem State.off0_sess (f : Fld) : (s.off0 f).sess = s.sess := rfl
@[simp] theorem State.off0_farOps (f : Fld) : (s.off0 f).farOps = s.farOps := rfl
@[simp] theorem State.off0_farTag (f : Fld) : (s.off0 f).farTag = s.farTag := rfl
@[simp] theorem State.off0_fabSeq (f : Fld) : (s.off0 f).fabSeq = s.fabSeq := rfl
@[simp] theorem State.off0_hostMac (f : Fld) : (s.off0 f).hostMac = s.hostMac := rfl
@[simp] theorem State.off0_cycKey (f : Fld) : (s.off0 f).cycKey = s.cycKey := rfl
@[simp] theorem State.off0_cycKeyNext (f : Fld) : (s.off0 f).cycKeyNext = s.cycKeyNext := rfl
@[simp] theorem State.off0_cycBuf (f : Fld) : (s.off0 f).cycBuf = s.cycBuf := rfl
@[simp] theorem State.off0_cycBufNo (f : Fld) : (s.off0 f).cycBufNo = s.cycBufNo := rfl
@[simp] theorem State.off0_cycOld (f : Fld) : (s.off0 f).cycOld = s.cycOld := rfl
@[simp] theorem State.off0_cycOldNo (f : Fld) : (s.off0 f).cycOldNo = s.cycOldNo := rfl
@[simp] theorem State.off0_snapAt (f : Fld) : (s.off0 f).snapAt = s.snapAt := rfl
@[simp] theorem State.off0_cycGot (f : Fld) : (s.off0 f).cycGot = s.cycGot := rfl
@[simp] theorem State.off0_cycOpen (f : Fld) : (s.off0 f).cycOpen = s.cycOpen := rfl
@[simp] theorem State.off0_cycAt (f : Fld) : (s.off0 f).cycAt = s.cycAt := rfl
@[simp] theorem State.off0_heldCyc (f : Fld) : (s.off0 f).heldCyc = s.heldCyc := rfl
@[simp] theorem State.off0_fabOfs (f : Fld) : (s.off0 f).fabOfs = s.fabOfs := rfl
@[simp] theorem State.off0_syncSeen (f : Fld) : (s.off0 f).syncSeen = s.syncSeen := rfl
@[simp] theorem State.off0_timeSet (f : Fld) : (s.off0 f).timeSet = s.timeSet := rfl
@[simp] theorem State.off0_ofsBad (f : Fld) : (s.off0 f).ofsBad = s.ofsBad := rfl
@[simp] theorem State.off0_dropNo (f : Fld) : (s.off0 f).dropNo = s.dropNo := rfl
@[simp] theorem State.off0_attestWait (f : Fld) : (s.off0 f).attestWait = s.attestWait := rfl
@[simp] theorem State.off0_dioExt (f : Fld) : (s.off0 f).dioExt = s.dioExt := rfl
@[simp] theorem State.off0_padOut (f : Fld) : (s.off0 f).padOut = s.padOut := rfl
@[simp] theorem State.off0_authDraw (f : Fld) : (s.off0 f).authDraw = s.authDraw := rfl
@[simp] theorem State.off0_authSig (f : Fld) : (s.off0 f).authSig = s.authSig := rfl
@[simp] theorem State.off0_authKey (f : Fld) : (s.off0 f).authKey = s.authKey := rfl
@[simp] theorem State.off0_tapIr (f : Fld) : (s.off0 f).tapIr = s.tapIr := rfl
@[simp] theorem State.off0_tapData (f : Fld) : (s.off0 f).tapData = s.tapData := rfl
@[simp] theorem State.off0_tapStat (f : Fld) : (s.off0 f).tapStat = s.tapStat := rfl
@[simp] theorem State.off0_tapWord (f : Fld) : (s.off0 f).tapWord = s.tapWord := rfl
@[simp] theorem State.off0_boundary (f : Fld) : (s.off0 f).boundary = s.boundary := rfl
@[simp] theorem State.off0_icuEdges (f : Fld) : (s.off0 f).icuEdges = s.icuEdges := rfl
@[simp] theorem State.off0_expAt (f : Fld) : (s.off0 f).expAt = s.expAt := rfl
@[simp] theorem State.off0_flcDone (f : Fld) : (s.off0 f).flcDone = s.flcDone := rfl
@[simp] theorem State.off0_flcGoAt (f : Fld) : (s.off0 f).flcGoAt = s.flcGoAt := rfl
@[simp] theorem State.off0_txHold (f : Fld) : (s.off0 f).txHold = s.txHold := rfl
@[simp] theorem State.off0_cycBad (f : Fld) : (s.off0 f).cycBad = s.cycBad := rfl
@[simp] theorem State.off0_ackWas (f : Fld) : (s.off0 f).ackWas = s.ackWas := rfl
@[simp] theorem State.off0_rxWas (f : Fld) : (s.off0 f).rxWas = s.rxWas := rfl

/-! ### `State.wrI` -/

@[simp] theorem State.wrI_pending (f : Fld) (v : Int) : (s.wrI f v).pending = s.pending := rfl
@[simp] theorem State.wrI_alarms (f : Fld) (v : Int) : (s.wrI f v).alarms = s.alarms := rfl
@[simp] theorem State.wrI_now (f : Fld) (v : Int) : (s.wrI f v).now = s.now := rfl
@[simp] theorem State.wrI_held (f : Fld) (v : Int) : (s.wrI f v).held = s.held := rfl
@[simp] theorem State.wrI_heldNew (f : Fld) (v : Int) : (s.wrI f v).heldNew = s.heldNew := rfl
@[simp] theorem State.wrI_heldAt (f : Fld) (v : Int) : (s.wrI f v).heldAt = s.heldAt := rfl
@[simp] theorem State.wrI_bistRunning (f : Fld) (v : Int) : (s.wrI f v).bistRunning = s.bistRunning := rfl
@[simp] theorem State.wrI_freeCtr (f : Fld) (v : Int) : (s.wrI f v).freeCtr = s.freeCtr := rfl
@[simp] theorem State.wrI_mem (f : Fld) (v : Int) : (s.wrI f v).mem = s.mem := rfl
@[simp] theorem State.wrI_eccSoft (f : Fld) (v : Int) : (s.wrI f v).eccSoft = s.eccSoft := rfl
@[simp] theorem State.wrI_eccHard (f : Fld) (v : Int) : (s.wrI f v).eccHard = s.eccHard := rfl
@[simp] theorem State.wrI_rdata (f : Fld) (v : Int) : (s.wrI f v).rdata = s.rdata := rfl
@[simp] theorem State.wrI_timers (f : Fld) (v : Int) : (s.wrI f v).timers = s.timers := rfl
@[simp] theorem State.wrI_cores (f : Fld) (v : Int) : (s.wrI f v).cores = s.cores := rfl
@[simp] theorem State.wrI_axes (f : Fld) (v : Int) : (s.wrI f v).axes = s.axes := rfl
@[simp] theorem State.wrI_phases (f : Fld) (v : Int) : (s.wrI f v).phases = s.phases := rfl
@[simp] theorem State.wrI_comps (f : Fld) (v : Int) : (s.wrI f v).comps = s.comps := rfl
@[simp] theorem State.wrI_evrLast (f : Fld) (v : Int) : (s.wrI f v).evrLast = s.evrLast := rfl
@[simp] theorem State.wrI_evrArr (f : Fld) (v : Int) : (s.wrI f v).evrArr = s.evrArr := rfl
@[simp] theorem State.wrI_evrSoft (f : Fld) (v : Int) : (s.wrI f v).evrSoft = s.evrSoft := rfl
@[simp] theorem State.wrI_evrOld (f : Fld) (v : Int) : (s.wrI f v).evrOld = s.evrOld := rfl
@[simp] theorem State.wrI_evrOldAt (f : Fld) (v : Int) : (s.wrI f v).evrOldAt = s.evrOldAt := rfl
@[simp] theorem State.wrI_wakeLatch (f : Fld) (v : Int) : (s.wrI f v).wakeLatch = s.wakeLatch := rfl
@[simp] theorem State.wrI_ssFromRun (f : Fld) (v : Int) : (s.wrI f v).ssFromRun = s.ssFromRun := rfl
@[simp] theorem State.wrI_lanes (f : Fld) (v : Int) : (s.wrI f v).lanes = s.lanes := rfl
@[simp] theorem State.wrI_learn (f : Fld) (v : Int) : (s.wrI f v).learn = s.learn := rfl
@[simp] theorem State.wrI_tickAt (f : Fld) (v : Int) : (s.wrI f v).tickAt = s.tickAt := rfl
@[simp] theorem State.wrI_tblWr (f : Fld) (v : Int) : (s.wrI f v).tblWr = s.tblWr := rfl
@[simp] theorem State.wrI_tblSeal (f : Fld) (v : Int) : (s.wrI f v).tblSeal = s.tblSeal := rfl
@[simp] theorem State.wrI_ssCauses (f : Fld) (v : Int) : (s.wrI f v).ssCauses = s.ssCauses := rfl
@[simp] theorem State.wrI_stoForce (f : Fld) (v : Int) : (s.wrI f v).stoForce = s.stoForce := rfl
@[simp] theorem State.wrI_brkWait (f : Fld) (v : Int) : (s.wrI f v).brkWait = s.brkWait := rfl
@[simp] theorem State.wrI_windows (f : Fld) (v : Int) : (s.wrI f v).windows = s.windows := rfl
@[simp] theorem State.wrI_ports (f : Fld) (v : Int) : (s.wrI f v).ports = s.ports := rfl
@[simp] theorem State.wrI_rxs (f : Fld) (v : Int) : (s.wrI f v).rxs = s.rxs := rfl
@[simp] theorem State.wrI_emus (f : Fld) (v : Int) : (s.wrI f v).emus = s.emus := rfl
@[simp] theorem State.wrI_quads (f : Fld) (v : Int) : (s.wrI f v).quads = s.quads := rfl
@[simp] theorem State.wrI_latches (f : Fld) (v : Int) : (s.wrI f v).latches = s.latches := rfl
@[simp] theorem State.wrI_epochs (f : Fld) (v : Int) : (s.wrI f v).epochs = s.epochs := rfl
@[simp] theorem State.wrI_epoch (f : Fld) (v : Int) : (s.wrI f v).epoch = s.epoch := rfl
@[simp] theorem State.wrI_nsPhase (f : Fld) (v : Int) : (s.wrI f v).nsPhase = s.nsPhase := rfl
@[simp] theorem State.wrI_auxOn (f : Fld) (v : Int) : (s.wrI f v).auxOn = s.auxOn := rfl
@[simp] theorem State.wrI_auxAt (f : Fld) (v : Int) : (s.wrI f v).auxAt = s.auxAt := rfl
@[simp] theorem State.wrI_beat (f : Fld) (v : Int) : (s.wrI f v).beat = s.beat := rfl
@[simp] theorem State.wrI_clocked (f : Fld) (v : Int) : (s.wrI f v).clocked = s.clocked := rfl
@[simp] theorem State.wrI_bulkOk (f : Fld) (v : Int) : (s.wrI f v).bulkOk = s.bulkOk := rfl
@[simp] theorem State.wrI_lineGood (f : Fld) (v : Int) : (s.wrI f v).lineGood = s.lineGood := rfl
@[simp] theorem State.wrI_lg (f : Fld) (v : Int) : (s.wrI f v).lg = s.lg := rfl
@[simp] theorem State.wrI_stoIn (f : Fld) (v : Int) : (s.wrI f v).stoIn = s.stoIn := rfl
@[simp] theorem State.wrI_mwdtSecond (f : Fld) (v : Int) : (s.wrI f v).mwdtSecond = s.mwdtSecond := rfl
@[simp] theorem State.wrI_cwdLen (f : Fld) (v : Int) : (s.wrI f v).cwdLen = s.cwdLen := rfl
@[simp] theorem State.wrI_dmaBuf (f : Fld) (v : Int) : (s.wrI f v).dmaBuf = s.dmaBuf := rfl
@[simp] theorem State.wrI_dmaRd (f : Fld) (v : Int) : (s.wrI f v).dmaRd = s.dmaRd := rfl
@[simp] theorem State.wrI_dramUntil (f : Fld) (v : Int) : (s.wrI f v).dramUntil = s.dramUntil := rfl
@[simp] theorem State.wrI_flcQueue (f : Fld) (v : Int) : (s.wrI f v).flcQueue = s.flcQueue := rfl
@[simp] theorem State.wrI_flcOp (f : Fld) (v : Int) : (s.wrI f v).flcOp = s.flcOp := rfl
@[simp] theorem State.wrI_jUntil (f : Fld) (v : Int) : (s.wrI f v).jUntil = s.jUntil := rfl
@[simp] theorem State.wrI_torn (f : Fld) (v : Int) : (s.wrI f v).torn = s.torn := rfl
@[simp] theorem State.wrI_ffUnits (f : Fld) (v : Int) : (s.wrI f v).ffUnits = s.ffUnits := rfl
@[simp] theorem State.wrI_flcHalf (f : Fld) (v : Int) : (s.wrI f v).flcHalf = s.flcHalf := rfl
@[simp] theorem State.wrI_flcRst (f : Fld) (v : Int) : (s.wrI f v).flcRst = s.flcRst := rfl
@[simp] theorem State.wrI_bootStage (f : Fld) (v : Int) : (s.wrI f v).bootStage = s.bootStage := rfl
@[simp] theorem State.wrI_cryJob (f : Fld) (v : Int) : (s.wrI f v).cryJob = s.cryJob := rfl
@[simp] theorem State.wrI_cryWriter (f : Fld) (v : Int) : (s.wrI f v).cryWriter = s.cryWriter := rfl
@[simp] theorem State.wrI_cryStage (f : Fld) (v : Int) : (s.wrI f v).cryStage = s.cryStage := rfl
@[simp] theorem State.wrI_cryTodo (f : Fld) (v : Int) : (s.wrI f v).cryTodo = s.cryTodo := rfl
@[simp] theorem State.wrI_crySlot (f : Fld) (v : Int) : (s.wrI f v).crySlot = s.crySlot := rfl
@[simp] theorem State.wrI_otpKeys (f : Fld) (v : Int) : (s.wrI f v).otpKeys = s.otpKeys := rfl
@[simp] theorem State.wrI_settings (f : Fld) (v : Int) : (s.wrI f v).settings = s.settings := rfl
@[simp] theorem State.wrI_rstWait (f : Fld) (v : Int) : (s.wrI f v).rstWait = s.rstWait := rfl
@[simp] theorem State.wrI_mainsOn (f : Fld) (v : Int) : (s.wrI f v).mainsOn = s.mainsOn := rfl
@[simp] theorem State.wrI_offHold (f : Fld) (v : Int) : (s.wrI f v).offHold = s.offHold := rfl
@[simp] theorem State.wrI_dormAt (f : Fld) (v : Int) : (s.wrI f v).dormAt = s.dormAt := rfl
@[simp] theorem State.wrI_fromShutdown (f : Fld) (v : Int) : (s.wrI f v).fromShutdown = s.fromShutdown := rfl
@[simp] theorem State.wrI_aonFrac (f : Fld) (v : Int) : (s.wrI f v).aonFrac = s.aonFrac := rfl
@[simp] theorem State.wrI_fabLatch (f : Fld) (v : Int) : (s.wrI f v).fabLatch = s.fabLatch := rfl
@[simp] theorem State.wrI_bootAt (f : Fld) (v : Int) : (s.wrI f v).bootAt = s.bootAt := rfl
@[simp] theorem State.wrI_calAt (f : Fld) (v : Int) : (s.wrI f v).calAt = s.calAt := rfl
@[simp] theorem State.wrI_wakeAt (f : Fld) (v : Int) : (s.wrI f v).wakeAt = s.wakeAt := rfl
@[simp] theorem State.wrI_lbist (f : Fld) (v : Int) : (s.wrI f v).lbist = s.lbist := rfl
@[simp] theorem State.wrI_egress (f : Fld) (v : Int) : (s.wrI f v).egress = s.egress := rfl
@[simp] theorem State.wrI_fabPorts (f : Fld) (v : Int) : (s.wrI f v).fabPorts = s.fabPorts := rfl
@[simp] theorem State.wrI_sess (f : Fld) (v : Int) : (s.wrI f v).sess = s.sess := rfl
@[simp] theorem State.wrI_farOps (f : Fld) (v : Int) : (s.wrI f v).farOps = s.farOps := rfl
@[simp] theorem State.wrI_farTag (f : Fld) (v : Int) : (s.wrI f v).farTag = s.farTag := rfl
@[simp] theorem State.wrI_fabSeq (f : Fld) (v : Int) : (s.wrI f v).fabSeq = s.fabSeq := rfl
@[simp] theorem State.wrI_hostMac (f : Fld) (v : Int) : (s.wrI f v).hostMac = s.hostMac := rfl
@[simp] theorem State.wrI_cycKey (f : Fld) (v : Int) : (s.wrI f v).cycKey = s.cycKey := rfl
@[simp] theorem State.wrI_cycKeyNext (f : Fld) (v : Int) : (s.wrI f v).cycKeyNext = s.cycKeyNext := rfl
@[simp] theorem State.wrI_cycBuf (f : Fld) (v : Int) : (s.wrI f v).cycBuf = s.cycBuf := rfl
@[simp] theorem State.wrI_cycBufNo (f : Fld) (v : Int) : (s.wrI f v).cycBufNo = s.cycBufNo := rfl
@[simp] theorem State.wrI_cycOld (f : Fld) (v : Int) : (s.wrI f v).cycOld = s.cycOld := rfl
@[simp] theorem State.wrI_cycOldNo (f : Fld) (v : Int) : (s.wrI f v).cycOldNo = s.cycOldNo := rfl
@[simp] theorem State.wrI_snapAt (f : Fld) (v : Int) : (s.wrI f v).snapAt = s.snapAt := rfl
@[simp] theorem State.wrI_cycGot (f : Fld) (v : Int) : (s.wrI f v).cycGot = s.cycGot := rfl
@[simp] theorem State.wrI_cycOpen (f : Fld) (v : Int) : (s.wrI f v).cycOpen = s.cycOpen := rfl
@[simp] theorem State.wrI_cycAt (f : Fld) (v : Int) : (s.wrI f v).cycAt = s.cycAt := rfl
@[simp] theorem State.wrI_heldCyc (f : Fld) (v : Int) : (s.wrI f v).heldCyc = s.heldCyc := rfl
@[simp] theorem State.wrI_fabOfs (f : Fld) (v : Int) : (s.wrI f v).fabOfs = s.fabOfs := rfl
@[simp] theorem State.wrI_syncSeen (f : Fld) (v : Int) : (s.wrI f v).syncSeen = s.syncSeen := rfl
@[simp] theorem State.wrI_timeSet (f : Fld) (v : Int) : (s.wrI f v).timeSet = s.timeSet := rfl
@[simp] theorem State.wrI_ofsBad (f : Fld) (v : Int) : (s.wrI f v).ofsBad = s.ofsBad := rfl
@[simp] theorem State.wrI_dropNo (f : Fld) (v : Int) : (s.wrI f v).dropNo = s.dropNo := rfl
@[simp] theorem State.wrI_attestWait (f : Fld) (v : Int) : (s.wrI f v).attestWait = s.attestWait := rfl
@[simp] theorem State.wrI_dioExt (f : Fld) (v : Int) : (s.wrI f v).dioExt = s.dioExt := rfl
@[simp] theorem State.wrI_padOut (f : Fld) (v : Int) : (s.wrI f v).padOut = s.padOut := rfl
@[simp] theorem State.wrI_authDraw (f : Fld) (v : Int) : (s.wrI f v).authDraw = s.authDraw := rfl
@[simp] theorem State.wrI_authSig (f : Fld) (v : Int) : (s.wrI f v).authSig = s.authSig := rfl
@[simp] theorem State.wrI_authKey (f : Fld) (v : Int) : (s.wrI f v).authKey = s.authKey := rfl
@[simp] theorem State.wrI_tapIr (f : Fld) (v : Int) : (s.wrI f v).tapIr = s.tapIr := rfl
@[simp] theorem State.wrI_tapData (f : Fld) (v : Int) : (s.wrI f v).tapData = s.tapData := rfl
@[simp] theorem State.wrI_tapStat (f : Fld) (v : Int) : (s.wrI f v).tapStat = s.tapStat := rfl
@[simp] theorem State.wrI_tapWord (f : Fld) (v : Int) : (s.wrI f v).tapWord = s.tapWord := rfl
@[simp] theorem State.wrI_boundary (f : Fld) (v : Int) : (s.wrI f v).boundary = s.boundary := rfl
@[simp] theorem State.wrI_icuEdges (f : Fld) (v : Int) : (s.wrI f v).icuEdges = s.icuEdges := rfl
@[simp] theorem State.wrI_expAt (f : Fld) (v : Int) : (s.wrI f v).expAt = s.expAt := rfl
@[simp] theorem State.wrI_flcDone (f : Fld) (v : Int) : (s.wrI f v).flcDone = s.flcDone := rfl
@[simp] theorem State.wrI_flcGoAt (f : Fld) (v : Int) : (s.wrI f v).flcGoAt = s.flcGoAt := rfl
@[simp] theorem State.wrI_txHold (f : Fld) (v : Int) : (s.wrI f v).txHold = s.txHold := rfl
@[simp] theorem State.wrI_cycBad (f : Fld) (v : Int) : (s.wrI f v).cycBad = s.cycBad := rfl
@[simp] theorem State.wrI_ackWas (f : Fld) (v : Int) : (s.wrI f v).ackWas = s.ackWas := rfl
@[simp] theorem State.wrI_rxWas (f : Fld) (v : Int) : (s.wrI f v).rxWas = s.rxWas := rfl

/-! ### `State.setBitAt` -/

@[simp] theorem State.setBitAt_pending (f : Fld) (i : Nat) (b : Bool) : (s.setBitAt f i b).pending = s.pending := rfl
@[simp] theorem State.setBitAt_alarms (f : Fld) (i : Nat) (b : Bool) : (s.setBitAt f i b).alarms = s.alarms := rfl
@[simp] theorem State.setBitAt_now (f : Fld) (i : Nat) (b : Bool) : (s.setBitAt f i b).now = s.now := rfl
@[simp] theorem State.setBitAt_held (f : Fld) (i : Nat) (b : Bool) : (s.setBitAt f i b).held = s.held := rfl
@[simp] theorem State.setBitAt_heldNew (f : Fld) (i : Nat) (b : Bool) : (s.setBitAt f i b).heldNew = s.heldNew := rfl
@[simp] theorem State.setBitAt_heldAt (f : Fld) (i : Nat) (b : Bool) : (s.setBitAt f i b).heldAt = s.heldAt := rfl
@[simp] theorem State.setBitAt_bistRunning (f : Fld) (i : Nat) (b : Bool) : (s.setBitAt f i b).bistRunning = s.bistRunning := rfl
@[simp] theorem State.setBitAt_freeCtr (f : Fld) (i : Nat) (b : Bool) : (s.setBitAt f i b).freeCtr = s.freeCtr := rfl
@[simp] theorem State.setBitAt_mem (f : Fld) (i : Nat) (b : Bool) : (s.setBitAt f i b).mem = s.mem := rfl
@[simp] theorem State.setBitAt_eccSoft (f : Fld) (i : Nat) (b : Bool) : (s.setBitAt f i b).eccSoft = s.eccSoft := rfl
@[simp] theorem State.setBitAt_eccHard (f : Fld) (i : Nat) (b : Bool) : (s.setBitAt f i b).eccHard = s.eccHard := rfl
@[simp] theorem State.setBitAt_rdata (f : Fld) (i : Nat) (b : Bool) : (s.setBitAt f i b).rdata = s.rdata := rfl
@[simp] theorem State.setBitAt_timers (f : Fld) (i : Nat) (b : Bool) : (s.setBitAt f i b).timers = s.timers := rfl
@[simp] theorem State.setBitAt_cores (f : Fld) (i : Nat) (b : Bool) : (s.setBitAt f i b).cores = s.cores := rfl
@[simp] theorem State.setBitAt_axes (f : Fld) (i : Nat) (b : Bool) : (s.setBitAt f i b).axes = s.axes := rfl
@[simp] theorem State.setBitAt_phases (f : Fld) (i : Nat) (b : Bool) : (s.setBitAt f i b).phases = s.phases := rfl
@[simp] theorem State.setBitAt_comps (f : Fld) (i : Nat) (b : Bool) : (s.setBitAt f i b).comps = s.comps := rfl
@[simp] theorem State.setBitAt_evrLast (f : Fld) (i : Nat) (b : Bool) : (s.setBitAt f i b).evrLast = s.evrLast := rfl
@[simp] theorem State.setBitAt_evrArr (f : Fld) (i : Nat) (b : Bool) : (s.setBitAt f i b).evrArr = s.evrArr := rfl
@[simp] theorem State.setBitAt_evrSoft (f : Fld) (i : Nat) (b : Bool) : (s.setBitAt f i b).evrSoft = s.evrSoft := rfl
@[simp] theorem State.setBitAt_evrOld (f : Fld) (i : Nat) (b : Bool) : (s.setBitAt f i b).evrOld = s.evrOld := rfl
@[simp] theorem State.setBitAt_evrOldAt (f : Fld) (i : Nat) (b : Bool) : (s.setBitAt f i b).evrOldAt = s.evrOldAt := rfl
@[simp] theorem State.setBitAt_wakeLatch (f : Fld) (i : Nat) (b : Bool) : (s.setBitAt f i b).wakeLatch = s.wakeLatch := rfl
@[simp] theorem State.setBitAt_ssFromRun (f : Fld) (i : Nat) (b : Bool) : (s.setBitAt f i b).ssFromRun = s.ssFromRun := rfl
@[simp] theorem State.setBitAt_lanes (f : Fld) (i : Nat) (b : Bool) : (s.setBitAt f i b).lanes = s.lanes := rfl
@[simp] theorem State.setBitAt_learn (f : Fld) (i : Nat) (b : Bool) : (s.setBitAt f i b).learn = s.learn := rfl
@[simp] theorem State.setBitAt_tickAt (f : Fld) (i : Nat) (b : Bool) : (s.setBitAt f i b).tickAt = s.tickAt := rfl
@[simp] theorem State.setBitAt_tblWr (f : Fld) (i : Nat) (b : Bool) : (s.setBitAt f i b).tblWr = s.tblWr := rfl
@[simp] theorem State.setBitAt_tblSeal (f : Fld) (i : Nat) (b : Bool) : (s.setBitAt f i b).tblSeal = s.tblSeal := rfl
@[simp] theorem State.setBitAt_ssCauses (f : Fld) (i : Nat) (b : Bool) : (s.setBitAt f i b).ssCauses = s.ssCauses := rfl
@[simp] theorem State.setBitAt_stoForce (f : Fld) (i : Nat) (b : Bool) : (s.setBitAt f i b).stoForce = s.stoForce := rfl
@[simp] theorem State.setBitAt_brkWait (f : Fld) (i : Nat) (b : Bool) : (s.setBitAt f i b).brkWait = s.brkWait := rfl
@[simp] theorem State.setBitAt_windows (f : Fld) (i : Nat) (b : Bool) : (s.setBitAt f i b).windows = s.windows := rfl
@[simp] theorem State.setBitAt_ports (f : Fld) (i : Nat) (b : Bool) : (s.setBitAt f i b).ports = s.ports := rfl
@[simp] theorem State.setBitAt_rxs (f : Fld) (i : Nat) (b : Bool) : (s.setBitAt f i b).rxs = s.rxs := rfl
@[simp] theorem State.setBitAt_emus (f : Fld) (i : Nat) (b : Bool) : (s.setBitAt f i b).emus = s.emus := rfl
@[simp] theorem State.setBitAt_quads (f : Fld) (i : Nat) (b : Bool) : (s.setBitAt f i b).quads = s.quads := rfl
@[simp] theorem State.setBitAt_latches (f : Fld) (i : Nat) (b : Bool) : (s.setBitAt f i b).latches = s.latches := rfl
@[simp] theorem State.setBitAt_epochs (f : Fld) (i : Nat) (b : Bool) : (s.setBitAt f i b).epochs = s.epochs := rfl
@[simp] theorem State.setBitAt_epoch (f : Fld) (i : Nat) (b : Bool) : (s.setBitAt f i b).epoch = s.epoch := rfl
@[simp] theorem State.setBitAt_nsPhase (f : Fld) (i : Nat) (b : Bool) : (s.setBitAt f i b).nsPhase = s.nsPhase := rfl
@[simp] theorem State.setBitAt_auxOn (f : Fld) (i : Nat) (b : Bool) : (s.setBitAt f i b).auxOn = s.auxOn := rfl
@[simp] theorem State.setBitAt_auxAt (f : Fld) (i : Nat) (b : Bool) : (s.setBitAt f i b).auxAt = s.auxAt := rfl
@[simp] theorem State.setBitAt_beat (f : Fld) (i : Nat) (b : Bool) : (s.setBitAt f i b).beat = s.beat := rfl
@[simp] theorem State.setBitAt_clocked (f : Fld) (i : Nat) (b : Bool) : (s.setBitAt f i b).clocked = s.clocked := rfl
@[simp] theorem State.setBitAt_bulkOk (f : Fld) (i : Nat) (b : Bool) : (s.setBitAt f i b).bulkOk = s.bulkOk := rfl
@[simp] theorem State.setBitAt_lineGood (f : Fld) (i : Nat) (b : Bool) : (s.setBitAt f i b).lineGood = s.lineGood := rfl
@[simp] theorem State.setBitAt_lg (f : Fld) (i : Nat) (b : Bool) : (s.setBitAt f i b).lg = s.lg := rfl
@[simp] theorem State.setBitAt_stoIn (f : Fld) (i : Nat) (b : Bool) : (s.setBitAt f i b).stoIn = s.stoIn := rfl
@[simp] theorem State.setBitAt_mwdtSecond (f : Fld) (i : Nat) (b : Bool) : (s.setBitAt f i b).mwdtSecond = s.mwdtSecond := rfl
@[simp] theorem State.setBitAt_cwdLen (f : Fld) (i : Nat) (b : Bool) : (s.setBitAt f i b).cwdLen = s.cwdLen := rfl
@[simp] theorem State.setBitAt_dmaBuf (f : Fld) (i : Nat) (b : Bool) : (s.setBitAt f i b).dmaBuf = s.dmaBuf := rfl
@[simp] theorem State.setBitAt_dmaRd (f : Fld) (i : Nat) (b : Bool) : (s.setBitAt f i b).dmaRd = s.dmaRd := rfl
@[simp] theorem State.setBitAt_dramUntil (f : Fld) (i : Nat) (b : Bool) : (s.setBitAt f i b).dramUntil = s.dramUntil := rfl
@[simp] theorem State.setBitAt_flcQueue (f : Fld) (i : Nat) (b : Bool) : (s.setBitAt f i b).flcQueue = s.flcQueue := rfl
@[simp] theorem State.setBitAt_flcOp (f : Fld) (i : Nat) (b : Bool) : (s.setBitAt f i b).flcOp = s.flcOp := rfl
@[simp] theorem State.setBitAt_jUntil (f : Fld) (i : Nat) (b : Bool) : (s.setBitAt f i b).jUntil = s.jUntil := rfl
@[simp] theorem State.setBitAt_torn (f : Fld) (i : Nat) (b : Bool) : (s.setBitAt f i b).torn = s.torn := rfl
@[simp] theorem State.setBitAt_ffUnits (f : Fld) (i : Nat) (b : Bool) : (s.setBitAt f i b).ffUnits = s.ffUnits := rfl
@[simp] theorem State.setBitAt_flcHalf (f : Fld) (i : Nat) (b : Bool) : (s.setBitAt f i b).flcHalf = s.flcHalf := rfl
@[simp] theorem State.setBitAt_flcRst (f : Fld) (i : Nat) (b : Bool) : (s.setBitAt f i b).flcRst = s.flcRst := rfl
@[simp] theorem State.setBitAt_bootStage (f : Fld) (i : Nat) (b : Bool) : (s.setBitAt f i b).bootStage = s.bootStage := rfl
@[simp] theorem State.setBitAt_cryJob (f : Fld) (i : Nat) (b : Bool) : (s.setBitAt f i b).cryJob = s.cryJob := rfl
@[simp] theorem State.setBitAt_cryWriter (f : Fld) (i : Nat) (b : Bool) : (s.setBitAt f i b).cryWriter = s.cryWriter := rfl
@[simp] theorem State.setBitAt_cryStage (f : Fld) (i : Nat) (b : Bool) : (s.setBitAt f i b).cryStage = s.cryStage := rfl
@[simp] theorem State.setBitAt_cryTodo (f : Fld) (i : Nat) (b : Bool) : (s.setBitAt f i b).cryTodo = s.cryTodo := rfl
@[simp] theorem State.setBitAt_crySlot (f : Fld) (i : Nat) (b : Bool) : (s.setBitAt f i b).crySlot = s.crySlot := rfl
@[simp] theorem State.setBitAt_otpKeys (f : Fld) (i : Nat) (b : Bool) : (s.setBitAt f i b).otpKeys = s.otpKeys := rfl
@[simp] theorem State.setBitAt_settings (f : Fld) (i : Nat) (b : Bool) : (s.setBitAt f i b).settings = s.settings := rfl
@[simp] theorem State.setBitAt_rstWait (f : Fld) (i : Nat) (b : Bool) : (s.setBitAt f i b).rstWait = s.rstWait := rfl
@[simp] theorem State.setBitAt_mainsOn (f : Fld) (i : Nat) (b : Bool) : (s.setBitAt f i b).mainsOn = s.mainsOn := rfl
@[simp] theorem State.setBitAt_offHold (f : Fld) (i : Nat) (b : Bool) : (s.setBitAt f i b).offHold = s.offHold := rfl
@[simp] theorem State.setBitAt_dormAt (f : Fld) (i : Nat) (b : Bool) : (s.setBitAt f i b).dormAt = s.dormAt := rfl
@[simp] theorem State.setBitAt_fromShutdown (f : Fld) (i : Nat) (b : Bool) : (s.setBitAt f i b).fromShutdown = s.fromShutdown := rfl
@[simp] theorem State.setBitAt_aonFrac (f : Fld) (i : Nat) (b : Bool) : (s.setBitAt f i b).aonFrac = s.aonFrac := rfl
@[simp] theorem State.setBitAt_fabLatch (f : Fld) (i : Nat) (b : Bool) : (s.setBitAt f i b).fabLatch = s.fabLatch := rfl
@[simp] theorem State.setBitAt_bootAt (f : Fld) (i : Nat) (b : Bool) : (s.setBitAt f i b).bootAt = s.bootAt := rfl
@[simp] theorem State.setBitAt_calAt (f : Fld) (i : Nat) (b : Bool) : (s.setBitAt f i b).calAt = s.calAt := rfl
@[simp] theorem State.setBitAt_wakeAt (f : Fld) (i : Nat) (b : Bool) : (s.setBitAt f i b).wakeAt = s.wakeAt := rfl
@[simp] theorem State.setBitAt_lbist (f : Fld) (i : Nat) (b : Bool) : (s.setBitAt f i b).lbist = s.lbist := rfl
@[simp] theorem State.setBitAt_egress (f : Fld) (i : Nat) (b : Bool) : (s.setBitAt f i b).egress = s.egress := rfl
@[simp] theorem State.setBitAt_fabPorts (f : Fld) (i : Nat) (b : Bool) : (s.setBitAt f i b).fabPorts = s.fabPorts := rfl
@[simp] theorem State.setBitAt_sess (f : Fld) (i : Nat) (b : Bool) : (s.setBitAt f i b).sess = s.sess := rfl
@[simp] theorem State.setBitAt_farOps (f : Fld) (i : Nat) (b : Bool) : (s.setBitAt f i b).farOps = s.farOps := rfl
@[simp] theorem State.setBitAt_farTag (f : Fld) (i : Nat) (b : Bool) : (s.setBitAt f i b).farTag = s.farTag := rfl
@[simp] theorem State.setBitAt_fabSeq (f : Fld) (i : Nat) (b : Bool) : (s.setBitAt f i b).fabSeq = s.fabSeq := rfl
@[simp] theorem State.setBitAt_hostMac (f : Fld) (i : Nat) (b : Bool) : (s.setBitAt f i b).hostMac = s.hostMac := rfl
@[simp] theorem State.setBitAt_cycKey (f : Fld) (i : Nat) (b : Bool) : (s.setBitAt f i b).cycKey = s.cycKey := rfl
@[simp] theorem State.setBitAt_cycKeyNext (f : Fld) (i : Nat) (b : Bool) : (s.setBitAt f i b).cycKeyNext = s.cycKeyNext := rfl
@[simp] theorem State.setBitAt_cycBuf (f : Fld) (i : Nat) (b : Bool) : (s.setBitAt f i b).cycBuf = s.cycBuf := rfl
@[simp] theorem State.setBitAt_cycBufNo (f : Fld) (i : Nat) (b : Bool) : (s.setBitAt f i b).cycBufNo = s.cycBufNo := rfl
@[simp] theorem State.setBitAt_cycOld (f : Fld) (i : Nat) (b : Bool) : (s.setBitAt f i b).cycOld = s.cycOld := rfl
@[simp] theorem State.setBitAt_cycOldNo (f : Fld) (i : Nat) (b : Bool) : (s.setBitAt f i b).cycOldNo = s.cycOldNo := rfl
@[simp] theorem State.setBitAt_snapAt (f : Fld) (i : Nat) (b : Bool) : (s.setBitAt f i b).snapAt = s.snapAt := rfl
@[simp] theorem State.setBitAt_cycGot (f : Fld) (i : Nat) (b : Bool) : (s.setBitAt f i b).cycGot = s.cycGot := rfl
@[simp] theorem State.setBitAt_cycOpen (f : Fld) (i : Nat) (b : Bool) : (s.setBitAt f i b).cycOpen = s.cycOpen := rfl
@[simp] theorem State.setBitAt_cycAt (f : Fld) (i : Nat) (b : Bool) : (s.setBitAt f i b).cycAt = s.cycAt := rfl
@[simp] theorem State.setBitAt_heldCyc (f : Fld) (i : Nat) (b : Bool) : (s.setBitAt f i b).heldCyc = s.heldCyc := rfl
@[simp] theorem State.setBitAt_fabOfs (f : Fld) (i : Nat) (b : Bool) : (s.setBitAt f i b).fabOfs = s.fabOfs := rfl
@[simp] theorem State.setBitAt_syncSeen (f : Fld) (i : Nat) (b : Bool) : (s.setBitAt f i b).syncSeen = s.syncSeen := rfl
@[simp] theorem State.setBitAt_timeSet (f : Fld) (i : Nat) (b : Bool) : (s.setBitAt f i b).timeSet = s.timeSet := rfl
@[simp] theorem State.setBitAt_ofsBad (f : Fld) (i : Nat) (b : Bool) : (s.setBitAt f i b).ofsBad = s.ofsBad := rfl
@[simp] theorem State.setBitAt_dropNo (f : Fld) (i : Nat) (b : Bool) : (s.setBitAt f i b).dropNo = s.dropNo := rfl
@[simp] theorem State.setBitAt_attestWait (f : Fld) (i : Nat) (b : Bool) : (s.setBitAt f i b).attestWait = s.attestWait := rfl
@[simp] theorem State.setBitAt_dioExt (f : Fld) (i : Nat) (b : Bool) : (s.setBitAt f i b).dioExt = s.dioExt := rfl
@[simp] theorem State.setBitAt_padOut (f : Fld) (i : Nat) (b : Bool) : (s.setBitAt f i b).padOut = s.padOut := rfl
@[simp] theorem State.setBitAt_authDraw (f : Fld) (i : Nat) (b : Bool) : (s.setBitAt f i b).authDraw = s.authDraw := rfl
@[simp] theorem State.setBitAt_authSig (f : Fld) (i : Nat) (b : Bool) : (s.setBitAt f i b).authSig = s.authSig := rfl
@[simp] theorem State.setBitAt_authKey (f : Fld) (i : Nat) (b : Bool) : (s.setBitAt f i b).authKey = s.authKey := rfl
@[simp] theorem State.setBitAt_tapIr (f : Fld) (i : Nat) (b : Bool) : (s.setBitAt f i b).tapIr = s.tapIr := rfl
@[simp] theorem State.setBitAt_tapData (f : Fld) (i : Nat) (b : Bool) : (s.setBitAt f i b).tapData = s.tapData := rfl
@[simp] theorem State.setBitAt_tapStat (f : Fld) (i : Nat) (b : Bool) : (s.setBitAt f i b).tapStat = s.tapStat := rfl
@[simp] theorem State.setBitAt_tapWord (f : Fld) (i : Nat) (b : Bool) : (s.setBitAt f i b).tapWord = s.tapWord := rfl
@[simp] theorem State.setBitAt_boundary (f : Fld) (i : Nat) (b : Bool) : (s.setBitAt f i b).boundary = s.boundary := rfl
@[simp] theorem State.setBitAt_icuEdges (f : Fld) (i : Nat) (b : Bool) : (s.setBitAt f i b).icuEdges = s.icuEdges := rfl
@[simp] theorem State.setBitAt_expAt (f : Fld) (i : Nat) (b : Bool) : (s.setBitAt f i b).expAt = s.expAt := rfl
@[simp] theorem State.setBitAt_flcDone (f : Fld) (i : Nat) (b : Bool) : (s.setBitAt f i b).flcDone = s.flcDone := rfl
@[simp] theorem State.setBitAt_flcGoAt (f : Fld) (i : Nat) (b : Bool) : (s.setBitAt f i b).flcGoAt = s.flcGoAt := rfl
@[simp] theorem State.setBitAt_txHold (f : Fld) (i : Nat) (b : Bool) : (s.setBitAt f i b).txHold = s.txHold := rfl
@[simp] theorem State.setBitAt_cycBad (f : Fld) (i : Nat) (b : Bool) : (s.setBitAt f i b).cycBad = s.cycBad := rfl
@[simp] theorem State.setBitAt_ackWas (f : Fld) (i : Nat) (b : Bool) : (s.setBitAt f i b).ackWas = s.ackWas := rfl
@[simp] theorem State.setBitAt_rxWas (f : Fld) (i : Nat) (b : Bool) : (s.setBitAt f i b).rxWas = s.rxWas := rfl

/-! ### `State.setCore` -/

@[simp] theorem State.setCore_pending (c : Nat) (x : Core) : (s.setCore c x).pending = s.pending := rfl
@[simp] theorem State.setCore_alarms (c : Nat) (x : Core) : (s.setCore c x).alarms = s.alarms := rfl
@[simp] theorem State.setCore_now (c : Nat) (x : Core) : (s.setCore c x).now = s.now := rfl
@[simp] theorem State.setCore_regs (c : Nat) (x : Core) : (s.setCore c x).regs = s.regs := rfl
@[simp] theorem State.setCore_held (c : Nat) (x : Core) : (s.setCore c x).held = s.held := rfl
@[simp] theorem State.setCore_heldNew (c : Nat) (x : Core) : (s.setCore c x).heldNew = s.heldNew := rfl
@[simp] theorem State.setCore_heldAt (c : Nat) (x : Core) : (s.setCore c x).heldAt = s.heldAt := rfl
@[simp] theorem State.setCore_bistRunning (c : Nat) (x : Core) : (s.setCore c x).bistRunning = s.bistRunning := rfl
@[simp] theorem State.setCore_freeCtr (c : Nat) (x : Core) : (s.setCore c x).freeCtr = s.freeCtr := rfl
@[simp] theorem State.setCore_mem (c : Nat) (x : Core) : (s.setCore c x).mem = s.mem := rfl
@[simp] theorem State.setCore_eccSoft (c : Nat) (x : Core) : (s.setCore c x).eccSoft = s.eccSoft := rfl
@[simp] theorem State.setCore_eccHard (c : Nat) (x : Core) : (s.setCore c x).eccHard = s.eccHard := rfl
@[simp] theorem State.setCore_rdata (c : Nat) (x : Core) : (s.setCore c x).rdata = s.rdata := rfl
@[simp] theorem State.setCore_timers (c : Nat) (x : Core) : (s.setCore c x).timers = s.timers := rfl
@[simp] theorem State.setCore_axes (c : Nat) (x : Core) : (s.setCore c x).axes = s.axes := rfl
@[simp] theorem State.setCore_phases (c : Nat) (x : Core) : (s.setCore c x).phases = s.phases := rfl
@[simp] theorem State.setCore_comps (c : Nat) (x : Core) : (s.setCore c x).comps = s.comps := rfl
@[simp] theorem State.setCore_evrLast (c : Nat) (x : Core) : (s.setCore c x).evrLast = s.evrLast := rfl
@[simp] theorem State.setCore_evrArr (c : Nat) (x : Core) : (s.setCore c x).evrArr = s.evrArr := rfl
@[simp] theorem State.setCore_evrSoft (c : Nat) (x : Core) : (s.setCore c x).evrSoft = s.evrSoft := rfl
@[simp] theorem State.setCore_evrOld (c : Nat) (x : Core) : (s.setCore c x).evrOld = s.evrOld := rfl
@[simp] theorem State.setCore_evrOldAt (c : Nat) (x : Core) : (s.setCore c x).evrOldAt = s.evrOldAt := rfl
@[simp] theorem State.setCore_wakeLatch (c : Nat) (x : Core) : (s.setCore c x).wakeLatch = s.wakeLatch := rfl
@[simp] theorem State.setCore_ssFromRun (c : Nat) (x : Core) : (s.setCore c x).ssFromRun = s.ssFromRun := rfl
@[simp] theorem State.setCore_lanes (c : Nat) (x : Core) : (s.setCore c x).lanes = s.lanes := rfl
@[simp] theorem State.setCore_learn (c : Nat) (x : Core) : (s.setCore c x).learn = s.learn := rfl
@[simp] theorem State.setCore_tickAt (c : Nat) (x : Core) : (s.setCore c x).tickAt = s.tickAt := rfl
@[simp] theorem State.setCore_tblWr (c : Nat) (x : Core) : (s.setCore c x).tblWr = s.tblWr := rfl
@[simp] theorem State.setCore_tblSeal (c : Nat) (x : Core) : (s.setCore c x).tblSeal = s.tblSeal := rfl
@[simp] theorem State.setCore_ssCauses (c : Nat) (x : Core) : (s.setCore c x).ssCauses = s.ssCauses := rfl
@[simp] theorem State.setCore_stoForce (c : Nat) (x : Core) : (s.setCore c x).stoForce = s.stoForce := rfl
@[simp] theorem State.setCore_brkWait (c : Nat) (x : Core) : (s.setCore c x).brkWait = s.brkWait := rfl
@[simp] theorem State.setCore_windows (c : Nat) (x : Core) : (s.setCore c x).windows = s.windows := rfl
@[simp] theorem State.setCore_ports (c : Nat) (x : Core) : (s.setCore c x).ports = s.ports := rfl
@[simp] theorem State.setCore_rxs (c : Nat) (x : Core) : (s.setCore c x).rxs = s.rxs := rfl
@[simp] theorem State.setCore_emus (c : Nat) (x : Core) : (s.setCore c x).emus = s.emus := rfl
@[simp] theorem State.setCore_quads (c : Nat) (x : Core) : (s.setCore c x).quads = s.quads := rfl
@[simp] theorem State.setCore_latches (c : Nat) (x : Core) : (s.setCore c x).latches = s.latches := rfl
@[simp] theorem State.setCore_epochs (c : Nat) (x : Core) : (s.setCore c x).epochs = s.epochs := rfl
@[simp] theorem State.setCore_epoch (c : Nat) (x : Core) : (s.setCore c x).epoch = s.epoch := rfl
@[simp] theorem State.setCore_nsPhase (c : Nat) (x : Core) : (s.setCore c x).nsPhase = s.nsPhase := rfl
@[simp] theorem State.setCore_auxOn (c : Nat) (x : Core) : (s.setCore c x).auxOn = s.auxOn := rfl
@[simp] theorem State.setCore_auxAt (c : Nat) (x : Core) : (s.setCore c x).auxAt = s.auxAt := rfl
@[simp] theorem State.setCore_beat (c : Nat) (x : Core) : (s.setCore c x).beat = s.beat := rfl
@[simp] theorem State.setCore_clocked (c : Nat) (x : Core) : (s.setCore c x).clocked = s.clocked := rfl
@[simp] theorem State.setCore_bulkOk (c : Nat) (x : Core) : (s.setCore c x).bulkOk = s.bulkOk := rfl
@[simp] theorem State.setCore_lineGood (c : Nat) (x : Core) : (s.setCore c x).lineGood = s.lineGood := rfl
@[simp] theorem State.setCore_lg (c : Nat) (x : Core) : (s.setCore c x).lg = s.lg := rfl
@[simp] theorem State.setCore_stoIn (c : Nat) (x : Core) : (s.setCore c x).stoIn = s.stoIn := rfl
@[simp] theorem State.setCore_mwdtSecond (c : Nat) (x : Core) : (s.setCore c x).mwdtSecond = s.mwdtSecond := rfl
@[simp] theorem State.setCore_cwdLen (c : Nat) (x : Core) : (s.setCore c x).cwdLen = s.cwdLen := rfl
@[simp] theorem State.setCore_dmaBuf (c : Nat) (x : Core) : (s.setCore c x).dmaBuf = s.dmaBuf := rfl
@[simp] theorem State.setCore_dmaRd (c : Nat) (x : Core) : (s.setCore c x).dmaRd = s.dmaRd := rfl
@[simp] theorem State.setCore_dramUntil (c : Nat) (x : Core) : (s.setCore c x).dramUntil = s.dramUntil := rfl
@[simp] theorem State.setCore_flcQueue (c : Nat) (x : Core) : (s.setCore c x).flcQueue = s.flcQueue := rfl
@[simp] theorem State.setCore_flcOp (c : Nat) (x : Core) : (s.setCore c x).flcOp = s.flcOp := rfl
@[simp] theorem State.setCore_jUntil (c : Nat) (x : Core) : (s.setCore c x).jUntil = s.jUntil := rfl
@[simp] theorem State.setCore_torn (c : Nat) (x : Core) : (s.setCore c x).torn = s.torn := rfl
@[simp] theorem State.setCore_ffUnits (c : Nat) (x : Core) : (s.setCore c x).ffUnits = s.ffUnits := rfl
@[simp] theorem State.setCore_flcHalf (c : Nat) (x : Core) : (s.setCore c x).flcHalf = s.flcHalf := rfl
@[simp] theorem State.setCore_flcRst (c : Nat) (x : Core) : (s.setCore c x).flcRst = s.flcRst := rfl
@[simp] theorem State.setCore_bootStage (c : Nat) (x : Core) : (s.setCore c x).bootStage = s.bootStage := rfl
@[simp] theorem State.setCore_cryJob (c : Nat) (x : Core) : (s.setCore c x).cryJob = s.cryJob := rfl
@[simp] theorem State.setCore_cryWriter (c : Nat) (x : Core) : (s.setCore c x).cryWriter = s.cryWriter := rfl
@[simp] theorem State.setCore_cryStage (c : Nat) (x : Core) : (s.setCore c x).cryStage = s.cryStage := rfl
@[simp] theorem State.setCore_cryTodo (c : Nat) (x : Core) : (s.setCore c x).cryTodo = s.cryTodo := rfl
@[simp] theorem State.setCore_crySlot (c : Nat) (x : Core) : (s.setCore c x).crySlot = s.crySlot := rfl
@[simp] theorem State.setCore_otpKeys (c : Nat) (x : Core) : (s.setCore c x).otpKeys = s.otpKeys := rfl
@[simp] theorem State.setCore_settings (c : Nat) (x : Core) : (s.setCore c x).settings = s.settings := rfl
@[simp] theorem State.setCore_rstWait (c : Nat) (x : Core) : (s.setCore c x).rstWait = s.rstWait := rfl
@[simp] theorem State.setCore_mainsOn (c : Nat) (x : Core) : (s.setCore c x).mainsOn = s.mainsOn := rfl
@[simp] theorem State.setCore_offHold (c : Nat) (x : Core) : (s.setCore c x).offHold = s.offHold := rfl
@[simp] theorem State.setCore_dormAt (c : Nat) (x : Core) : (s.setCore c x).dormAt = s.dormAt := rfl
@[simp] theorem State.setCore_fromShutdown (c : Nat) (x : Core) : (s.setCore c x).fromShutdown = s.fromShutdown := rfl
@[simp] theorem State.setCore_aonFrac (c : Nat) (x : Core) : (s.setCore c x).aonFrac = s.aonFrac := rfl
@[simp] theorem State.setCore_fabLatch (c : Nat) (x : Core) : (s.setCore c x).fabLatch = s.fabLatch := rfl
@[simp] theorem State.setCore_bootAt (c : Nat) (x : Core) : (s.setCore c x).bootAt = s.bootAt := rfl
@[simp] theorem State.setCore_calAt (c : Nat) (x : Core) : (s.setCore c x).calAt = s.calAt := rfl
@[simp] theorem State.setCore_wakeAt (c : Nat) (x : Core) : (s.setCore c x).wakeAt = s.wakeAt := rfl
@[simp] theorem State.setCore_lbist (c : Nat) (x : Core) : (s.setCore c x).lbist = s.lbist := rfl
@[simp] theorem State.setCore_egress (c : Nat) (x : Core) : (s.setCore c x).egress = s.egress := rfl
@[simp] theorem State.setCore_fabPorts (c : Nat) (x : Core) : (s.setCore c x).fabPorts = s.fabPorts := rfl
@[simp] theorem State.setCore_sess (c : Nat) (x : Core) : (s.setCore c x).sess = s.sess := rfl
@[simp] theorem State.setCore_farOps (c : Nat) (x : Core) : (s.setCore c x).farOps = s.farOps := rfl
@[simp] theorem State.setCore_farTag (c : Nat) (x : Core) : (s.setCore c x).farTag = s.farTag := rfl
@[simp] theorem State.setCore_fabSeq (c : Nat) (x : Core) : (s.setCore c x).fabSeq = s.fabSeq := rfl
@[simp] theorem State.setCore_hostMac (c : Nat) (x : Core) : (s.setCore c x).hostMac = s.hostMac := rfl
@[simp] theorem State.setCore_cycKey (c : Nat) (x : Core) : (s.setCore c x).cycKey = s.cycKey := rfl
@[simp] theorem State.setCore_cycKeyNext (c : Nat) (x : Core) : (s.setCore c x).cycKeyNext = s.cycKeyNext := rfl
@[simp] theorem State.setCore_cycBuf (c : Nat) (x : Core) : (s.setCore c x).cycBuf = s.cycBuf := rfl
@[simp] theorem State.setCore_cycBufNo (c : Nat) (x : Core) : (s.setCore c x).cycBufNo = s.cycBufNo := rfl
@[simp] theorem State.setCore_cycOld (c : Nat) (x : Core) : (s.setCore c x).cycOld = s.cycOld := rfl
@[simp] theorem State.setCore_cycOldNo (c : Nat) (x : Core) : (s.setCore c x).cycOldNo = s.cycOldNo := rfl
@[simp] theorem State.setCore_snapAt (c : Nat) (x : Core) : (s.setCore c x).snapAt = s.snapAt := rfl
@[simp] theorem State.setCore_cycGot (c : Nat) (x : Core) : (s.setCore c x).cycGot = s.cycGot := rfl
@[simp] theorem State.setCore_cycOpen (c : Nat) (x : Core) : (s.setCore c x).cycOpen = s.cycOpen := rfl
@[simp] theorem State.setCore_cycAt (c : Nat) (x : Core) : (s.setCore c x).cycAt = s.cycAt := rfl
@[simp] theorem State.setCore_heldCyc (c : Nat) (x : Core) : (s.setCore c x).heldCyc = s.heldCyc := rfl
@[simp] theorem State.setCore_fabOfs (c : Nat) (x : Core) : (s.setCore c x).fabOfs = s.fabOfs := rfl
@[simp] theorem State.setCore_syncSeen (c : Nat) (x : Core) : (s.setCore c x).syncSeen = s.syncSeen := rfl
@[simp] theorem State.setCore_timeSet (c : Nat) (x : Core) : (s.setCore c x).timeSet = s.timeSet := rfl
@[simp] theorem State.setCore_ofsBad (c : Nat) (x : Core) : (s.setCore c x).ofsBad = s.ofsBad := rfl
@[simp] theorem State.setCore_dropNo (c : Nat) (x : Core) : (s.setCore c x).dropNo = s.dropNo := rfl
@[simp] theorem State.setCore_attestWait (c : Nat) (x : Core) : (s.setCore c x).attestWait = s.attestWait := rfl
@[simp] theorem State.setCore_dioExt (c : Nat) (x : Core) : (s.setCore c x).dioExt = s.dioExt := rfl
@[simp] theorem State.setCore_padOut (c : Nat) (x : Core) : (s.setCore c x).padOut = s.padOut := rfl
@[simp] theorem State.setCore_authDraw (c : Nat) (x : Core) : (s.setCore c x).authDraw = s.authDraw := rfl
@[simp] theorem State.setCore_authSig (c : Nat) (x : Core) : (s.setCore c x).authSig = s.authSig := rfl
@[simp] theorem State.setCore_authKey (c : Nat) (x : Core) : (s.setCore c x).authKey = s.authKey := rfl
@[simp] theorem State.setCore_tapIr (c : Nat) (x : Core) : (s.setCore c x).tapIr = s.tapIr := rfl
@[simp] theorem State.setCore_tapData (c : Nat) (x : Core) : (s.setCore c x).tapData = s.tapData := rfl
@[simp] theorem State.setCore_tapStat (c : Nat) (x : Core) : (s.setCore c x).tapStat = s.tapStat := rfl
@[simp] theorem State.setCore_tapWord (c : Nat) (x : Core) : (s.setCore c x).tapWord = s.tapWord := rfl
@[simp] theorem State.setCore_boundary (c : Nat) (x : Core) : (s.setCore c x).boundary = s.boundary := rfl
@[simp] theorem State.setCore_icuEdges (c : Nat) (x : Core) : (s.setCore c x).icuEdges = s.icuEdges := rfl
@[simp] theorem State.setCore_expAt (c : Nat) (x : Core) : (s.setCore c x).expAt = s.expAt := rfl
@[simp] theorem State.setCore_flcDone (c : Nat) (x : Core) : (s.setCore c x).flcDone = s.flcDone := rfl
@[simp] theorem State.setCore_flcGoAt (c : Nat) (x : Core) : (s.setCore c x).flcGoAt = s.flcGoAt := rfl
@[simp] theorem State.setCore_txHold (c : Nat) (x : Core) : (s.setCore c x).txHold = s.txHold := rfl
@[simp] theorem State.setCore_cycBad (c : Nat) (x : Core) : (s.setCore c x).cycBad = s.cycBad := rfl
@[simp] theorem State.setCore_ackWas (c : Nat) (x : Core) : (s.setCore c x).ackWas = s.ackWas := rfl
@[simp] theorem State.setCore_rxWas (c : Nat) (x : Core) : (s.setCore c x).rxWas = s.rxWas := rfl

/-! ### `State.setSreg` -/

@[simp] theorem State.setSreg_pending (c n : Nat) (v : Word) : (s.setSreg c n v).pending = s.pending := rfl
@[simp] theorem State.setSreg_alarms (c n : Nat) (v : Word) : (s.setSreg c n v).alarms = s.alarms := rfl
@[simp] theorem State.setSreg_now (c n : Nat) (v : Word) : (s.setSreg c n v).now = s.now := rfl
@[simp] theorem State.setSreg_regs (c n : Nat) (v : Word) : (s.setSreg c n v).regs = s.regs := rfl
@[simp] theorem State.setSreg_held (c n : Nat) (v : Word) : (s.setSreg c n v).held = s.held := rfl
@[simp] theorem State.setSreg_heldNew (c n : Nat) (v : Word) : (s.setSreg c n v).heldNew = s.heldNew := rfl
@[simp] theorem State.setSreg_heldAt (c n : Nat) (v : Word) : (s.setSreg c n v).heldAt = s.heldAt := rfl
@[simp] theorem State.setSreg_bistRunning (c n : Nat) (v : Word) : (s.setSreg c n v).bistRunning = s.bistRunning := rfl
@[simp] theorem State.setSreg_freeCtr (c n : Nat) (v : Word) : (s.setSreg c n v).freeCtr = s.freeCtr := rfl
@[simp] theorem State.setSreg_mem (c n : Nat) (v : Word) : (s.setSreg c n v).mem = s.mem := rfl
@[simp] theorem State.setSreg_eccSoft (c n : Nat) (v : Word) : (s.setSreg c n v).eccSoft = s.eccSoft := rfl
@[simp] theorem State.setSreg_eccHard (c n : Nat) (v : Word) : (s.setSreg c n v).eccHard = s.eccHard := rfl
@[simp] theorem State.setSreg_rdata (c n : Nat) (v : Word) : (s.setSreg c n v).rdata = s.rdata := rfl
@[simp] theorem State.setSreg_timers (c n : Nat) (v : Word) : (s.setSreg c n v).timers = s.timers := rfl
@[simp] theorem State.setSreg_axes (c n : Nat) (v : Word) : (s.setSreg c n v).axes = s.axes := rfl
@[simp] theorem State.setSreg_phases (c n : Nat) (v : Word) : (s.setSreg c n v).phases = s.phases := rfl
@[simp] theorem State.setSreg_comps (c n : Nat) (v : Word) : (s.setSreg c n v).comps = s.comps := rfl
@[simp] theorem State.setSreg_evrLast (c n : Nat) (v : Word) : (s.setSreg c n v).evrLast = s.evrLast := rfl
@[simp] theorem State.setSreg_evrArr (c n : Nat) (v : Word) : (s.setSreg c n v).evrArr = s.evrArr := rfl
@[simp] theorem State.setSreg_evrSoft (c n : Nat) (v : Word) : (s.setSreg c n v).evrSoft = s.evrSoft := rfl
@[simp] theorem State.setSreg_evrOld (c n : Nat) (v : Word) : (s.setSreg c n v).evrOld = s.evrOld := rfl
@[simp] theorem State.setSreg_evrOldAt (c n : Nat) (v : Word) : (s.setSreg c n v).evrOldAt = s.evrOldAt := rfl
@[simp] theorem State.setSreg_wakeLatch (c n : Nat) (v : Word) : (s.setSreg c n v).wakeLatch = s.wakeLatch := rfl
@[simp] theorem State.setSreg_ssFromRun (c n : Nat) (v : Word) : (s.setSreg c n v).ssFromRun = s.ssFromRun := rfl
@[simp] theorem State.setSreg_lanes (c n : Nat) (v : Word) : (s.setSreg c n v).lanes = s.lanes := rfl
@[simp] theorem State.setSreg_learn (c n : Nat) (v : Word) : (s.setSreg c n v).learn = s.learn := rfl
@[simp] theorem State.setSreg_tickAt (c n : Nat) (v : Word) : (s.setSreg c n v).tickAt = s.tickAt := rfl
@[simp] theorem State.setSreg_tblWr (c n : Nat) (v : Word) : (s.setSreg c n v).tblWr = s.tblWr := rfl
@[simp] theorem State.setSreg_tblSeal (c n : Nat) (v : Word) : (s.setSreg c n v).tblSeal = s.tblSeal := rfl
@[simp] theorem State.setSreg_ssCauses (c n : Nat) (v : Word) : (s.setSreg c n v).ssCauses = s.ssCauses := rfl
@[simp] theorem State.setSreg_stoForce (c n : Nat) (v : Word) : (s.setSreg c n v).stoForce = s.stoForce := rfl
@[simp] theorem State.setSreg_brkWait (c n : Nat) (v : Word) : (s.setSreg c n v).brkWait = s.brkWait := rfl
@[simp] theorem State.setSreg_windows (c n : Nat) (v : Word) : (s.setSreg c n v).windows = s.windows := rfl
@[simp] theorem State.setSreg_ports (c n : Nat) (v : Word) : (s.setSreg c n v).ports = s.ports := rfl
@[simp] theorem State.setSreg_rxs (c n : Nat) (v : Word) : (s.setSreg c n v).rxs = s.rxs := rfl
@[simp] theorem State.setSreg_emus (c n : Nat) (v : Word) : (s.setSreg c n v).emus = s.emus := rfl
@[simp] theorem State.setSreg_quads (c n : Nat) (v : Word) : (s.setSreg c n v).quads = s.quads := rfl
@[simp] theorem State.setSreg_latches (c n : Nat) (v : Word) : (s.setSreg c n v).latches = s.latches := rfl
@[simp] theorem State.setSreg_epochs (c n : Nat) (v : Word) : (s.setSreg c n v).epochs = s.epochs := rfl
@[simp] theorem State.setSreg_epoch (c n : Nat) (v : Word) : (s.setSreg c n v).epoch = s.epoch := rfl
@[simp] theorem State.setSreg_nsPhase (c n : Nat) (v : Word) : (s.setSreg c n v).nsPhase = s.nsPhase := rfl
@[simp] theorem State.setSreg_auxOn (c n : Nat) (v : Word) : (s.setSreg c n v).auxOn = s.auxOn := rfl
@[simp] theorem State.setSreg_auxAt (c n : Nat) (v : Word) : (s.setSreg c n v).auxAt = s.auxAt := rfl
@[simp] theorem State.setSreg_beat (c n : Nat) (v : Word) : (s.setSreg c n v).beat = s.beat := rfl
@[simp] theorem State.setSreg_clocked (c n : Nat) (v : Word) : (s.setSreg c n v).clocked = s.clocked := rfl
@[simp] theorem State.setSreg_bulkOk (c n : Nat) (v : Word) : (s.setSreg c n v).bulkOk = s.bulkOk := rfl
@[simp] theorem State.setSreg_lineGood (c n : Nat) (v : Word) : (s.setSreg c n v).lineGood = s.lineGood := rfl
@[simp] theorem State.setSreg_lg (c n : Nat) (v : Word) : (s.setSreg c n v).lg = s.lg := rfl
@[simp] theorem State.setSreg_stoIn (c n : Nat) (v : Word) : (s.setSreg c n v).stoIn = s.stoIn := rfl
@[simp] theorem State.setSreg_mwdtSecond (c n : Nat) (v : Word) : (s.setSreg c n v).mwdtSecond = s.mwdtSecond := rfl
@[simp] theorem State.setSreg_cwdLen (c n : Nat) (v : Word) : (s.setSreg c n v).cwdLen = s.cwdLen := rfl
@[simp] theorem State.setSreg_dmaBuf (c n : Nat) (v : Word) : (s.setSreg c n v).dmaBuf = s.dmaBuf := rfl
@[simp] theorem State.setSreg_dmaRd (c n : Nat) (v : Word) : (s.setSreg c n v).dmaRd = s.dmaRd := rfl
@[simp] theorem State.setSreg_dramUntil (c n : Nat) (v : Word) : (s.setSreg c n v).dramUntil = s.dramUntil := rfl
@[simp] theorem State.setSreg_flcQueue (c n : Nat) (v : Word) : (s.setSreg c n v).flcQueue = s.flcQueue := rfl
@[simp] theorem State.setSreg_flcOp (c n : Nat) (v : Word) : (s.setSreg c n v).flcOp = s.flcOp := rfl
@[simp] theorem State.setSreg_jUntil (c n : Nat) (v : Word) : (s.setSreg c n v).jUntil = s.jUntil := rfl
@[simp] theorem State.setSreg_torn (c n : Nat) (v : Word) : (s.setSreg c n v).torn = s.torn := rfl
@[simp] theorem State.setSreg_ffUnits (c n : Nat) (v : Word) : (s.setSreg c n v).ffUnits = s.ffUnits := rfl
@[simp] theorem State.setSreg_flcHalf (c n : Nat) (v : Word) : (s.setSreg c n v).flcHalf = s.flcHalf := rfl
@[simp] theorem State.setSreg_flcRst (c n : Nat) (v : Word) : (s.setSreg c n v).flcRst = s.flcRst := rfl
@[simp] theorem State.setSreg_bootStage (c n : Nat) (v : Word) : (s.setSreg c n v).bootStage = s.bootStage := rfl
@[simp] theorem State.setSreg_cryJob (c n : Nat) (v : Word) : (s.setSreg c n v).cryJob = s.cryJob := rfl
@[simp] theorem State.setSreg_cryWriter (c n : Nat) (v : Word) : (s.setSreg c n v).cryWriter = s.cryWriter := rfl
@[simp] theorem State.setSreg_cryStage (c n : Nat) (v : Word) : (s.setSreg c n v).cryStage = s.cryStage := rfl
@[simp] theorem State.setSreg_cryTodo (c n : Nat) (v : Word) : (s.setSreg c n v).cryTodo = s.cryTodo := rfl
@[simp] theorem State.setSreg_crySlot (c n : Nat) (v : Word) : (s.setSreg c n v).crySlot = s.crySlot := rfl
@[simp] theorem State.setSreg_otpKeys (c n : Nat) (v : Word) : (s.setSreg c n v).otpKeys = s.otpKeys := rfl
@[simp] theorem State.setSreg_settings (c n : Nat) (v : Word) : (s.setSreg c n v).settings = s.settings := rfl
@[simp] theorem State.setSreg_rstWait (c n : Nat) (v : Word) : (s.setSreg c n v).rstWait = s.rstWait := rfl
@[simp] theorem State.setSreg_mainsOn (c n : Nat) (v : Word) : (s.setSreg c n v).mainsOn = s.mainsOn := rfl
@[simp] theorem State.setSreg_offHold (c n : Nat) (v : Word) : (s.setSreg c n v).offHold = s.offHold := rfl
@[simp] theorem State.setSreg_dormAt (c n : Nat) (v : Word) : (s.setSreg c n v).dormAt = s.dormAt := rfl
@[simp] theorem State.setSreg_fromShutdown (c n : Nat) (v : Word) : (s.setSreg c n v).fromShutdown = s.fromShutdown := rfl
@[simp] theorem State.setSreg_aonFrac (c n : Nat) (v : Word) : (s.setSreg c n v).aonFrac = s.aonFrac := rfl
@[simp] theorem State.setSreg_fabLatch (c n : Nat) (v : Word) : (s.setSreg c n v).fabLatch = s.fabLatch := rfl
@[simp] theorem State.setSreg_bootAt (c n : Nat) (v : Word) : (s.setSreg c n v).bootAt = s.bootAt := rfl
@[simp] theorem State.setSreg_calAt (c n : Nat) (v : Word) : (s.setSreg c n v).calAt = s.calAt := rfl
@[simp] theorem State.setSreg_wakeAt (c n : Nat) (v : Word) : (s.setSreg c n v).wakeAt = s.wakeAt := rfl
@[simp] theorem State.setSreg_lbist (c n : Nat) (v : Word) : (s.setSreg c n v).lbist = s.lbist := rfl
@[simp] theorem State.setSreg_egress (c n : Nat) (v : Word) : (s.setSreg c n v).egress = s.egress := rfl
@[simp] theorem State.setSreg_fabPorts (c n : Nat) (v : Word) : (s.setSreg c n v).fabPorts = s.fabPorts := rfl
@[simp] theorem State.setSreg_sess (c n : Nat) (v : Word) : (s.setSreg c n v).sess = s.sess := rfl
@[simp] theorem State.setSreg_farOps (c n : Nat) (v : Word) : (s.setSreg c n v).farOps = s.farOps := rfl
@[simp] theorem State.setSreg_farTag (c n : Nat) (v : Word) : (s.setSreg c n v).farTag = s.farTag := rfl
@[simp] theorem State.setSreg_fabSeq (c n : Nat) (v : Word) : (s.setSreg c n v).fabSeq = s.fabSeq := rfl
@[simp] theorem State.setSreg_hostMac (c n : Nat) (v : Word) : (s.setSreg c n v).hostMac = s.hostMac := rfl
@[simp] theorem State.setSreg_cycKey (c n : Nat) (v : Word) : (s.setSreg c n v).cycKey = s.cycKey := rfl
@[simp] theorem State.setSreg_cycKeyNext (c n : Nat) (v : Word) : (s.setSreg c n v).cycKeyNext = s.cycKeyNext := rfl
@[simp] theorem State.setSreg_cycBuf (c n : Nat) (v : Word) : (s.setSreg c n v).cycBuf = s.cycBuf := rfl
@[simp] theorem State.setSreg_cycBufNo (c n : Nat) (v : Word) : (s.setSreg c n v).cycBufNo = s.cycBufNo := rfl
@[simp] theorem State.setSreg_cycOld (c n : Nat) (v : Word) : (s.setSreg c n v).cycOld = s.cycOld := rfl
@[simp] theorem State.setSreg_cycOldNo (c n : Nat) (v : Word) : (s.setSreg c n v).cycOldNo = s.cycOldNo := rfl
@[simp] theorem State.setSreg_snapAt (c n : Nat) (v : Word) : (s.setSreg c n v).snapAt = s.snapAt := rfl
@[simp] theorem State.setSreg_cycGot (c n : Nat) (v : Word) : (s.setSreg c n v).cycGot = s.cycGot := rfl
@[simp] theorem State.setSreg_cycOpen (c n : Nat) (v : Word) : (s.setSreg c n v).cycOpen = s.cycOpen := rfl
@[simp] theorem State.setSreg_cycAt (c n : Nat) (v : Word) : (s.setSreg c n v).cycAt = s.cycAt := rfl
@[simp] theorem State.setSreg_heldCyc (c n : Nat) (v : Word) : (s.setSreg c n v).heldCyc = s.heldCyc := rfl
@[simp] theorem State.setSreg_fabOfs (c n : Nat) (v : Word) : (s.setSreg c n v).fabOfs = s.fabOfs := rfl
@[simp] theorem State.setSreg_syncSeen (c n : Nat) (v : Word) : (s.setSreg c n v).syncSeen = s.syncSeen := rfl
@[simp] theorem State.setSreg_timeSet (c n : Nat) (v : Word) : (s.setSreg c n v).timeSet = s.timeSet := rfl
@[simp] theorem State.setSreg_ofsBad (c n : Nat) (v : Word) : (s.setSreg c n v).ofsBad = s.ofsBad := rfl
@[simp] theorem State.setSreg_dropNo (c n : Nat) (v : Word) : (s.setSreg c n v).dropNo = s.dropNo := rfl
@[simp] theorem State.setSreg_attestWait (c n : Nat) (v : Word) : (s.setSreg c n v).attestWait = s.attestWait := rfl
@[simp] theorem State.setSreg_dioExt (c n : Nat) (v : Word) : (s.setSreg c n v).dioExt = s.dioExt := rfl
@[simp] theorem State.setSreg_padOut (c n : Nat) (v : Word) : (s.setSreg c n v).padOut = s.padOut := rfl
@[simp] theorem State.setSreg_authDraw (c n : Nat) (v : Word) : (s.setSreg c n v).authDraw = s.authDraw := rfl
@[simp] theorem State.setSreg_authSig (c n : Nat) (v : Word) : (s.setSreg c n v).authSig = s.authSig := rfl
@[simp] theorem State.setSreg_authKey (c n : Nat) (v : Word) : (s.setSreg c n v).authKey = s.authKey := rfl
@[simp] theorem State.setSreg_tapIr (c n : Nat) (v : Word) : (s.setSreg c n v).tapIr = s.tapIr := rfl
@[simp] theorem State.setSreg_tapData (c n : Nat) (v : Word) : (s.setSreg c n v).tapData = s.tapData := rfl
@[simp] theorem State.setSreg_tapStat (c n : Nat) (v : Word) : (s.setSreg c n v).tapStat = s.tapStat := rfl
@[simp] theorem State.setSreg_tapWord (c n : Nat) (v : Word) : (s.setSreg c n v).tapWord = s.tapWord := rfl
@[simp] theorem State.setSreg_boundary (c n : Nat) (v : Word) : (s.setSreg c n v).boundary = s.boundary := rfl
@[simp] theorem State.setSreg_icuEdges (c n : Nat) (v : Word) : (s.setSreg c n v).icuEdges = s.icuEdges := rfl
@[simp] theorem State.setSreg_expAt (c n : Nat) (v : Word) : (s.setSreg c n v).expAt = s.expAt := rfl
@[simp] theorem State.setSreg_flcDone (c n : Nat) (v : Word) : (s.setSreg c n v).flcDone = s.flcDone := rfl
@[simp] theorem State.setSreg_flcGoAt (c n : Nat) (v : Word) : (s.setSreg c n v).flcGoAt = s.flcGoAt := rfl
@[simp] theorem State.setSreg_txHold (c n : Nat) (v : Word) : (s.setSreg c n v).txHold = s.txHold := rfl
@[simp] theorem State.setSreg_cycBad (c n : Nat) (v : Word) : (s.setSreg c n v).cycBad = s.cycBad := rfl
@[simp] theorem State.setSreg_ackWas (c n : Nat) (v : Word) : (s.setSreg c n v).ackWas = s.ackWas := rfl
@[simp] theorem State.setSreg_rxWas (c n : Nat) (v : Word) : (s.setSreg c n v).rxWas = s.rxWas := rfl

/-! ### `State.setByte` -/

@[simp] theorem State.setByte_pending (a : Nat) (b : Byte) : (s.setByte a b).pending = s.pending := rfl
@[simp] theorem State.setByte_alarms (a : Nat) (b : Byte) : (s.setByte a b).alarms = s.alarms := rfl
@[simp] theorem State.setByte_now (a : Nat) (b : Byte) : (s.setByte a b).now = s.now := rfl
@[simp] theorem State.setByte_regs (a : Nat) (b : Byte) : (s.setByte a b).regs = s.regs := rfl
@[simp] theorem State.setByte_held (a : Nat) (b : Byte) : (s.setByte a b).held = s.held := rfl
@[simp] theorem State.setByte_heldNew (a : Nat) (b : Byte) : (s.setByte a b).heldNew = s.heldNew := rfl
@[simp] theorem State.setByte_heldAt (a : Nat) (b : Byte) : (s.setByte a b).heldAt = s.heldAt := rfl
@[simp] theorem State.setByte_bistRunning (a : Nat) (b : Byte) : (s.setByte a b).bistRunning = s.bistRunning := rfl
@[simp] theorem State.setByte_freeCtr (a : Nat) (b : Byte) : (s.setByte a b).freeCtr = s.freeCtr := rfl
@[simp] theorem State.setByte_eccSoft (a : Nat) (b : Byte) : (s.setByte a b).eccSoft = s.eccSoft := rfl
@[simp] theorem State.setByte_eccHard (a : Nat) (b : Byte) : (s.setByte a b).eccHard = s.eccHard := rfl
@[simp] theorem State.setByte_rdata (a : Nat) (b : Byte) : (s.setByte a b).rdata = s.rdata := rfl
@[simp] theorem State.setByte_timers (a : Nat) (b : Byte) : (s.setByte a b).timers = s.timers := rfl
@[simp] theorem State.setByte_cores (a : Nat) (b : Byte) : (s.setByte a b).cores = s.cores := rfl
@[simp] theorem State.setByte_axes (a : Nat) (b : Byte) : (s.setByte a b).axes = s.axes := rfl
@[simp] theorem State.setByte_phases (a : Nat) (b : Byte) : (s.setByte a b).phases = s.phases := rfl
@[simp] theorem State.setByte_comps (a : Nat) (b : Byte) : (s.setByte a b).comps = s.comps := rfl
@[simp] theorem State.setByte_evrLast (a : Nat) (b : Byte) : (s.setByte a b).evrLast = s.evrLast := rfl
@[simp] theorem State.setByte_evrArr (a : Nat) (b : Byte) : (s.setByte a b).evrArr = s.evrArr := rfl
@[simp] theorem State.setByte_evrSoft (a : Nat) (b : Byte) : (s.setByte a b).evrSoft = s.evrSoft := rfl
@[simp] theorem State.setByte_evrOld (a : Nat) (b : Byte) : (s.setByte a b).evrOld = s.evrOld := rfl
@[simp] theorem State.setByte_evrOldAt (a : Nat) (b : Byte) : (s.setByte a b).evrOldAt = s.evrOldAt := rfl
@[simp] theorem State.setByte_wakeLatch (a : Nat) (b : Byte) : (s.setByte a b).wakeLatch = s.wakeLatch := rfl
@[simp] theorem State.setByte_ssFromRun (a : Nat) (b : Byte) : (s.setByte a b).ssFromRun = s.ssFromRun := rfl
@[simp] theorem State.setByte_lanes (a : Nat) (b : Byte) : (s.setByte a b).lanes = s.lanes := rfl
@[simp] theorem State.setByte_learn (a : Nat) (b : Byte) : (s.setByte a b).learn = s.learn := rfl
@[simp] theorem State.setByte_tickAt (a : Nat) (b : Byte) : (s.setByte a b).tickAt = s.tickAt := rfl
@[simp] theorem State.setByte_tblWr (a : Nat) (b : Byte) : (s.setByte a b).tblWr = s.tblWr := rfl
@[simp] theorem State.setByte_tblSeal (a : Nat) (b : Byte) : (s.setByte a b).tblSeal = s.tblSeal := rfl
@[simp] theorem State.setByte_ssCauses (a : Nat) (b : Byte) : (s.setByte a b).ssCauses = s.ssCauses := rfl
@[simp] theorem State.setByte_stoForce (a : Nat) (b : Byte) : (s.setByte a b).stoForce = s.stoForce := rfl
@[simp] theorem State.setByte_brkWait (a : Nat) (b : Byte) : (s.setByte a b).brkWait = s.brkWait := rfl
@[simp] theorem State.setByte_windows (a : Nat) (b : Byte) : (s.setByte a b).windows = s.windows := rfl
@[simp] theorem State.setByte_ports (a : Nat) (b : Byte) : (s.setByte a b).ports = s.ports := rfl
@[simp] theorem State.setByte_rxs (a : Nat) (b : Byte) : (s.setByte a b).rxs = s.rxs := rfl
@[simp] theorem State.setByte_emus (a : Nat) (b : Byte) : (s.setByte a b).emus = s.emus := rfl
@[simp] theorem State.setByte_quads (a : Nat) (b : Byte) : (s.setByte a b).quads = s.quads := rfl
@[simp] theorem State.setByte_latches (a : Nat) (b : Byte) : (s.setByte a b).latches = s.latches := rfl
@[simp] theorem State.setByte_epochs (a : Nat) (b : Byte) : (s.setByte a b).epochs = s.epochs := rfl
@[simp] theorem State.setByte_epoch (a : Nat) (b : Byte) : (s.setByte a b).epoch = s.epoch := rfl
@[simp] theorem State.setByte_nsPhase (a : Nat) (b : Byte) : (s.setByte a b).nsPhase = s.nsPhase := rfl
@[simp] theorem State.setByte_auxOn (a : Nat) (b : Byte) : (s.setByte a b).auxOn = s.auxOn := rfl
@[simp] theorem State.setByte_auxAt (a : Nat) (b : Byte) : (s.setByte a b).auxAt = s.auxAt := rfl
@[simp] theorem State.setByte_beat (a : Nat) (b : Byte) : (s.setByte a b).beat = s.beat := rfl
@[simp] theorem State.setByte_clocked (a : Nat) (b : Byte) : (s.setByte a b).clocked = s.clocked := rfl
@[simp] theorem State.setByte_bulkOk (a : Nat) (b : Byte) : (s.setByte a b).bulkOk = s.bulkOk := rfl
@[simp] theorem State.setByte_lineGood (a : Nat) (b : Byte) : (s.setByte a b).lineGood = s.lineGood := rfl
@[simp] theorem State.setByte_lg (a : Nat) (b : Byte) : (s.setByte a b).lg = s.lg := rfl
@[simp] theorem State.setByte_stoIn (a : Nat) (b : Byte) : (s.setByte a b).stoIn = s.stoIn := rfl
@[simp] theorem State.setByte_mwdtSecond (a : Nat) (b : Byte) : (s.setByte a b).mwdtSecond = s.mwdtSecond := rfl
@[simp] theorem State.setByte_cwdLen (a : Nat) (b : Byte) : (s.setByte a b).cwdLen = s.cwdLen := rfl
@[simp] theorem State.setByte_dmaBuf (a : Nat) (b : Byte) : (s.setByte a b).dmaBuf = s.dmaBuf := rfl
@[simp] theorem State.setByte_dmaRd (a : Nat) (b : Byte) : (s.setByte a b).dmaRd = s.dmaRd := rfl
@[simp] theorem State.setByte_dramUntil (a : Nat) (b : Byte) : (s.setByte a b).dramUntil = s.dramUntil := rfl
@[simp] theorem State.setByte_flcQueue (a : Nat) (b : Byte) : (s.setByte a b).flcQueue = s.flcQueue := rfl
@[simp] theorem State.setByte_flcOp (a : Nat) (b : Byte) : (s.setByte a b).flcOp = s.flcOp := rfl
@[simp] theorem State.setByte_jUntil (a : Nat) (b : Byte) : (s.setByte a b).jUntil = s.jUntil := rfl
@[simp] theorem State.setByte_torn (a : Nat) (b : Byte) : (s.setByte a b).torn = s.torn := rfl
@[simp] theorem State.setByte_ffUnits (a : Nat) (b : Byte) : (s.setByte a b).ffUnits = s.ffUnits := rfl
@[simp] theorem State.setByte_flcHalf (a : Nat) (b : Byte) : (s.setByte a b).flcHalf = s.flcHalf := rfl
@[simp] theorem State.setByte_flcRst (a : Nat) (b : Byte) : (s.setByte a b).flcRst = s.flcRst := rfl
@[simp] theorem State.setByte_bootStage (a : Nat) (b : Byte) : (s.setByte a b).bootStage = s.bootStage := rfl
@[simp] theorem State.setByte_cryJob (a : Nat) (b : Byte) : (s.setByte a b).cryJob = s.cryJob := rfl
@[simp] theorem State.setByte_cryWriter (a : Nat) (b : Byte) : (s.setByte a b).cryWriter = s.cryWriter := rfl
@[simp] theorem State.setByte_cryStage (a : Nat) (b : Byte) : (s.setByte a b).cryStage = s.cryStage := rfl
@[simp] theorem State.setByte_cryTodo (a : Nat) (b : Byte) : (s.setByte a b).cryTodo = s.cryTodo := rfl
@[simp] theorem State.setByte_crySlot (a : Nat) (b : Byte) : (s.setByte a b).crySlot = s.crySlot := rfl
@[simp] theorem State.setByte_otpKeys (a : Nat) (b : Byte) : (s.setByte a b).otpKeys = s.otpKeys := rfl
@[simp] theorem State.setByte_settings (a : Nat) (b : Byte) : (s.setByte a b).settings = s.settings := rfl
@[simp] theorem State.setByte_rstWait (a : Nat) (b : Byte) : (s.setByte a b).rstWait = s.rstWait := rfl
@[simp] theorem State.setByte_mainsOn (a : Nat) (b : Byte) : (s.setByte a b).mainsOn = s.mainsOn := rfl
@[simp] theorem State.setByte_offHold (a : Nat) (b : Byte) : (s.setByte a b).offHold = s.offHold := rfl
@[simp] theorem State.setByte_dormAt (a : Nat) (b : Byte) : (s.setByte a b).dormAt = s.dormAt := rfl
@[simp] theorem State.setByte_fromShutdown (a : Nat) (b : Byte) : (s.setByte a b).fromShutdown = s.fromShutdown := rfl
@[simp] theorem State.setByte_aonFrac (a : Nat) (b : Byte) : (s.setByte a b).aonFrac = s.aonFrac := rfl
@[simp] theorem State.setByte_fabLatch (a : Nat) (b : Byte) : (s.setByte a b).fabLatch = s.fabLatch := rfl
@[simp] theorem State.setByte_bootAt (a : Nat) (b : Byte) : (s.setByte a b).bootAt = s.bootAt := rfl
@[simp] theorem State.setByte_calAt (a : Nat) (b : Byte) : (s.setByte a b).calAt = s.calAt := rfl
@[simp] theorem State.setByte_wakeAt (a : Nat) (b : Byte) : (s.setByte a b).wakeAt = s.wakeAt := rfl
@[simp] theorem State.setByte_lbist (a : Nat) (b : Byte) : (s.setByte a b).lbist = s.lbist := rfl
@[simp] theorem State.setByte_egress (a : Nat) (b : Byte) : (s.setByte a b).egress = s.egress := rfl
@[simp] theorem State.setByte_fabPorts (a : Nat) (b : Byte) : (s.setByte a b).fabPorts = s.fabPorts := rfl
@[simp] theorem State.setByte_sess (a : Nat) (b : Byte) : (s.setByte a b).sess = s.sess := rfl
@[simp] theorem State.setByte_farOps (a : Nat) (b : Byte) : (s.setByte a b).farOps = s.farOps := rfl
@[simp] theorem State.setByte_farTag (a : Nat) (b : Byte) : (s.setByte a b).farTag = s.farTag := rfl
@[simp] theorem State.setByte_fabSeq (a : Nat) (b : Byte) : (s.setByte a b).fabSeq = s.fabSeq := rfl
@[simp] theorem State.setByte_hostMac (a : Nat) (b : Byte) : (s.setByte a b).hostMac = s.hostMac := rfl
@[simp] theorem State.setByte_cycKey (a : Nat) (b : Byte) : (s.setByte a b).cycKey = s.cycKey := rfl
@[simp] theorem State.setByte_cycKeyNext (a : Nat) (b : Byte) : (s.setByte a b).cycKeyNext = s.cycKeyNext := rfl
@[simp] theorem State.setByte_cycBuf (a : Nat) (b : Byte) : (s.setByte a b).cycBuf = s.cycBuf := rfl
@[simp] theorem State.setByte_cycBufNo (a : Nat) (b : Byte) : (s.setByte a b).cycBufNo = s.cycBufNo := rfl
@[simp] theorem State.setByte_cycOld (a : Nat) (b : Byte) : (s.setByte a b).cycOld = s.cycOld := rfl
@[simp] theorem State.setByte_cycOldNo (a : Nat) (b : Byte) : (s.setByte a b).cycOldNo = s.cycOldNo := rfl
@[simp] theorem State.setByte_snapAt (a : Nat) (b : Byte) : (s.setByte a b).snapAt = s.snapAt := rfl
@[simp] theorem State.setByte_cycGot (a : Nat) (b : Byte) : (s.setByte a b).cycGot = s.cycGot := rfl
@[simp] theorem State.setByte_cycOpen (a : Nat) (b : Byte) : (s.setByte a b).cycOpen = s.cycOpen := rfl
@[simp] theorem State.setByte_cycAt (a : Nat) (b : Byte) : (s.setByte a b).cycAt = s.cycAt := rfl
@[simp] theorem State.setByte_heldCyc (a : Nat) (b : Byte) : (s.setByte a b).heldCyc = s.heldCyc := rfl
@[simp] theorem State.setByte_fabOfs (a : Nat) (b : Byte) : (s.setByte a b).fabOfs = s.fabOfs := rfl
@[simp] theorem State.setByte_syncSeen (a : Nat) (b : Byte) : (s.setByte a b).syncSeen = s.syncSeen := rfl
@[simp] theorem State.setByte_timeSet (a : Nat) (b : Byte) : (s.setByte a b).timeSet = s.timeSet := rfl
@[simp] theorem State.setByte_ofsBad (a : Nat) (b : Byte) : (s.setByte a b).ofsBad = s.ofsBad := rfl
@[simp] theorem State.setByte_dropNo (a : Nat) (b : Byte) : (s.setByte a b).dropNo = s.dropNo := rfl
@[simp] theorem State.setByte_attestWait (a : Nat) (b : Byte) : (s.setByte a b).attestWait = s.attestWait := rfl
@[simp] theorem State.setByte_dioExt (a : Nat) (b : Byte) : (s.setByte a b).dioExt = s.dioExt := rfl
@[simp] theorem State.setByte_padOut (a : Nat) (b : Byte) : (s.setByte a b).padOut = s.padOut := rfl
@[simp] theorem State.setByte_authDraw (a : Nat) (b : Byte) : (s.setByte a b).authDraw = s.authDraw := rfl
@[simp] theorem State.setByte_authSig (a : Nat) (b : Byte) : (s.setByte a b).authSig = s.authSig := rfl
@[simp] theorem State.setByte_authKey (a : Nat) (b : Byte) : (s.setByte a b).authKey = s.authKey := rfl
@[simp] theorem State.setByte_tapIr (a : Nat) (b : Byte) : (s.setByte a b).tapIr = s.tapIr := rfl
@[simp] theorem State.setByte_tapData (a : Nat) (b : Byte) : (s.setByte a b).tapData = s.tapData := rfl
@[simp] theorem State.setByte_tapStat (a : Nat) (b : Byte) : (s.setByte a b).tapStat = s.tapStat := rfl
@[simp] theorem State.setByte_tapWord (a : Nat) (b : Byte) : (s.setByte a b).tapWord = s.tapWord := rfl
@[simp] theorem State.setByte_boundary (a : Nat) (b : Byte) : (s.setByte a b).boundary = s.boundary := rfl
@[simp] theorem State.setByte_icuEdges (a : Nat) (b : Byte) : (s.setByte a b).icuEdges = s.icuEdges := rfl
@[simp] theorem State.setByte_expAt (a : Nat) (b : Byte) : (s.setByte a b).expAt = s.expAt := rfl
@[simp] theorem State.setByte_flcDone (a : Nat) (b : Byte) : (s.setByte a b).flcDone = s.flcDone := rfl
@[simp] theorem State.setByte_flcGoAt (a : Nat) (b : Byte) : (s.setByte a b).flcGoAt = s.flcGoAt := rfl
@[simp] theorem State.setByte_txHold (a : Nat) (b : Byte) : (s.setByte a b).txHold = s.txHold := rfl
@[simp] theorem State.setByte_cycBad (a : Nat) (b : Byte) : (s.setByte a b).cycBad = s.cycBad := rfl
@[simp] theorem State.setByte_ackWas (a : Nat) (b : Byte) : (s.setByte a b).ackWas = s.ackWas := rfl
@[simp] theorem State.setByte_rxWas (a : Nat) (b : Byte) : (s.setByte a b).rxWas = s.rxWas := rfl

/-! ### `State.cancel` -/

@[simp] theorem State.cancel_pending (e : Instr) : (s.cancel e).pending = s.pending := rfl
@[simp] theorem State.cancel_now (e : Instr) : (s.cancel e).now = s.now := rfl
@[simp] theorem State.cancel_regs (e : Instr) : (s.cancel e).regs = s.regs := rfl
@[simp] theorem State.cancel_held (e : Instr) : (s.cancel e).held = s.held := rfl
@[simp] theorem State.cancel_heldNew (e : Instr) : (s.cancel e).heldNew = s.heldNew := rfl
@[simp] theorem State.cancel_heldAt (e : Instr) : (s.cancel e).heldAt = s.heldAt := rfl
@[simp] theorem State.cancel_bistRunning (e : Instr) : (s.cancel e).bistRunning = s.bistRunning := rfl
@[simp] theorem State.cancel_freeCtr (e : Instr) : (s.cancel e).freeCtr = s.freeCtr := rfl
@[simp] theorem State.cancel_mem (e : Instr) : (s.cancel e).mem = s.mem := rfl
@[simp] theorem State.cancel_eccSoft (e : Instr) : (s.cancel e).eccSoft = s.eccSoft := rfl
@[simp] theorem State.cancel_eccHard (e : Instr) : (s.cancel e).eccHard = s.eccHard := rfl
@[simp] theorem State.cancel_rdata (e : Instr) : (s.cancel e).rdata = s.rdata := rfl
@[simp] theorem State.cancel_timers (e : Instr) : (s.cancel e).timers = s.timers := rfl
@[simp] theorem State.cancel_cores (e : Instr) : (s.cancel e).cores = s.cores := rfl
@[simp] theorem State.cancel_axes (e : Instr) : (s.cancel e).axes = s.axes := rfl
@[simp] theorem State.cancel_phases (e : Instr) : (s.cancel e).phases = s.phases := rfl
@[simp] theorem State.cancel_comps (e : Instr) : (s.cancel e).comps = s.comps := rfl
@[simp] theorem State.cancel_evrLast (e : Instr) : (s.cancel e).evrLast = s.evrLast := rfl
@[simp] theorem State.cancel_evrArr (e : Instr) : (s.cancel e).evrArr = s.evrArr := rfl
@[simp] theorem State.cancel_evrSoft (e : Instr) : (s.cancel e).evrSoft = s.evrSoft := rfl
@[simp] theorem State.cancel_evrOld (e : Instr) : (s.cancel e).evrOld = s.evrOld := rfl
@[simp] theorem State.cancel_evrOldAt (e : Instr) : (s.cancel e).evrOldAt = s.evrOldAt := rfl
@[simp] theorem State.cancel_wakeLatch (e : Instr) : (s.cancel e).wakeLatch = s.wakeLatch := rfl
@[simp] theorem State.cancel_ssFromRun (e : Instr) : (s.cancel e).ssFromRun = s.ssFromRun := rfl
@[simp] theorem State.cancel_lanes (e : Instr) : (s.cancel e).lanes = s.lanes := rfl
@[simp] theorem State.cancel_learn (e : Instr) : (s.cancel e).learn = s.learn := rfl
@[simp] theorem State.cancel_tickAt (e : Instr) : (s.cancel e).tickAt = s.tickAt := rfl
@[simp] theorem State.cancel_tblWr (e : Instr) : (s.cancel e).tblWr = s.tblWr := rfl
@[simp] theorem State.cancel_tblSeal (e : Instr) : (s.cancel e).tblSeal = s.tblSeal := rfl
@[simp] theorem State.cancel_ssCauses (e : Instr) : (s.cancel e).ssCauses = s.ssCauses := rfl
@[simp] theorem State.cancel_stoForce (e : Instr) : (s.cancel e).stoForce = s.stoForce := rfl
@[simp] theorem State.cancel_brkWait (e : Instr) : (s.cancel e).brkWait = s.brkWait := rfl
@[simp] theorem State.cancel_windows (e : Instr) : (s.cancel e).windows = s.windows := rfl
@[simp] theorem State.cancel_ports (e : Instr) : (s.cancel e).ports = s.ports := rfl
@[simp] theorem State.cancel_rxs (e : Instr) : (s.cancel e).rxs = s.rxs := rfl
@[simp] theorem State.cancel_emus (e : Instr) : (s.cancel e).emus = s.emus := rfl
@[simp] theorem State.cancel_quads (e : Instr) : (s.cancel e).quads = s.quads := rfl
@[simp] theorem State.cancel_latches (e : Instr) : (s.cancel e).latches = s.latches := rfl
@[simp] theorem State.cancel_epochs (e : Instr) : (s.cancel e).epochs = s.epochs := rfl
@[simp] theorem State.cancel_epoch (e : Instr) : (s.cancel e).epoch = s.epoch := rfl
@[simp] theorem State.cancel_nsPhase (e : Instr) : (s.cancel e).nsPhase = s.nsPhase := rfl
@[simp] theorem State.cancel_auxOn (e : Instr) : (s.cancel e).auxOn = s.auxOn := rfl
@[simp] theorem State.cancel_auxAt (e : Instr) : (s.cancel e).auxAt = s.auxAt := rfl
@[simp] theorem State.cancel_beat (e : Instr) : (s.cancel e).beat = s.beat := rfl
@[simp] theorem State.cancel_clocked (e : Instr) : (s.cancel e).clocked = s.clocked := rfl
@[simp] theorem State.cancel_bulkOk (e : Instr) : (s.cancel e).bulkOk = s.bulkOk := rfl
@[simp] theorem State.cancel_lineGood (e : Instr) : (s.cancel e).lineGood = s.lineGood := rfl
@[simp] theorem State.cancel_lg (e : Instr) : (s.cancel e).lg = s.lg := rfl
@[simp] theorem State.cancel_stoIn (e : Instr) : (s.cancel e).stoIn = s.stoIn := rfl
@[simp] theorem State.cancel_mwdtSecond (e : Instr) : (s.cancel e).mwdtSecond = s.mwdtSecond := rfl
@[simp] theorem State.cancel_cwdLen (e : Instr) : (s.cancel e).cwdLen = s.cwdLen := rfl
@[simp] theorem State.cancel_dmaBuf (e : Instr) : (s.cancel e).dmaBuf = s.dmaBuf := rfl
@[simp] theorem State.cancel_dmaRd (e : Instr) : (s.cancel e).dmaRd = s.dmaRd := rfl
@[simp] theorem State.cancel_dramUntil (e : Instr) : (s.cancel e).dramUntil = s.dramUntil := rfl
@[simp] theorem State.cancel_flcQueue (e : Instr) : (s.cancel e).flcQueue = s.flcQueue := rfl
@[simp] theorem State.cancel_flcOp (e : Instr) : (s.cancel e).flcOp = s.flcOp := rfl
@[simp] theorem State.cancel_jUntil (e : Instr) : (s.cancel e).jUntil = s.jUntil := rfl
@[simp] theorem State.cancel_torn (e : Instr) : (s.cancel e).torn = s.torn := rfl
@[simp] theorem State.cancel_ffUnits (e : Instr) : (s.cancel e).ffUnits = s.ffUnits := rfl
@[simp] theorem State.cancel_flcHalf (e : Instr) : (s.cancel e).flcHalf = s.flcHalf := rfl
@[simp] theorem State.cancel_flcRst (e : Instr) : (s.cancel e).flcRst = s.flcRst := rfl
@[simp] theorem State.cancel_bootStage (e : Instr) : (s.cancel e).bootStage = s.bootStage := rfl
@[simp] theorem State.cancel_cryJob (e : Instr) : (s.cancel e).cryJob = s.cryJob := rfl
@[simp] theorem State.cancel_cryWriter (e : Instr) : (s.cancel e).cryWriter = s.cryWriter := rfl
@[simp] theorem State.cancel_cryStage (e : Instr) : (s.cancel e).cryStage = s.cryStage := rfl
@[simp] theorem State.cancel_cryTodo (e : Instr) : (s.cancel e).cryTodo = s.cryTodo := rfl
@[simp] theorem State.cancel_crySlot (e : Instr) : (s.cancel e).crySlot = s.crySlot := rfl
@[simp] theorem State.cancel_otpKeys (e : Instr) : (s.cancel e).otpKeys = s.otpKeys := rfl
@[simp] theorem State.cancel_settings (e : Instr) : (s.cancel e).settings = s.settings := rfl
@[simp] theorem State.cancel_rstWait (e : Instr) : (s.cancel e).rstWait = s.rstWait := rfl
@[simp] theorem State.cancel_mainsOn (e : Instr) : (s.cancel e).mainsOn = s.mainsOn := rfl
@[simp] theorem State.cancel_offHold (e : Instr) : (s.cancel e).offHold = s.offHold := rfl
@[simp] theorem State.cancel_dormAt (e : Instr) : (s.cancel e).dormAt = s.dormAt := rfl
@[simp] theorem State.cancel_fromShutdown (e : Instr) : (s.cancel e).fromShutdown = s.fromShutdown := rfl
@[simp] theorem State.cancel_aonFrac (e : Instr) : (s.cancel e).aonFrac = s.aonFrac := rfl
@[simp] theorem State.cancel_fabLatch (e : Instr) : (s.cancel e).fabLatch = s.fabLatch := rfl
@[simp] theorem State.cancel_bootAt (e : Instr) : (s.cancel e).bootAt = s.bootAt := rfl
@[simp] theorem State.cancel_calAt (e : Instr) : (s.cancel e).calAt = s.calAt := rfl
@[simp] theorem State.cancel_wakeAt (e : Instr) : (s.cancel e).wakeAt = s.wakeAt := rfl
@[simp] theorem State.cancel_lbist (e : Instr) : (s.cancel e).lbist = s.lbist := rfl
@[simp] theorem State.cancel_egress (e : Instr) : (s.cancel e).egress = s.egress := rfl
@[simp] theorem State.cancel_fabPorts (e : Instr) : (s.cancel e).fabPorts = s.fabPorts := rfl
@[simp] theorem State.cancel_sess (e : Instr) : (s.cancel e).sess = s.sess := rfl
@[simp] theorem State.cancel_farOps (e : Instr) : (s.cancel e).farOps = s.farOps := rfl
@[simp] theorem State.cancel_farTag (e : Instr) : (s.cancel e).farTag = s.farTag := rfl
@[simp] theorem State.cancel_fabSeq (e : Instr) : (s.cancel e).fabSeq = s.fabSeq := rfl
@[simp] theorem State.cancel_hostMac (e : Instr) : (s.cancel e).hostMac = s.hostMac := rfl
@[simp] theorem State.cancel_cycKey (e : Instr) : (s.cancel e).cycKey = s.cycKey := rfl
@[simp] theorem State.cancel_cycKeyNext (e : Instr) : (s.cancel e).cycKeyNext = s.cycKeyNext := rfl
@[simp] theorem State.cancel_cycBuf (e : Instr) : (s.cancel e).cycBuf = s.cycBuf := rfl
@[simp] theorem State.cancel_cycBufNo (e : Instr) : (s.cancel e).cycBufNo = s.cycBufNo := rfl
@[simp] theorem State.cancel_cycOld (e : Instr) : (s.cancel e).cycOld = s.cycOld := rfl
@[simp] theorem State.cancel_cycOldNo (e : Instr) : (s.cancel e).cycOldNo = s.cycOldNo := rfl
@[simp] theorem State.cancel_snapAt (e : Instr) : (s.cancel e).snapAt = s.snapAt := rfl
@[simp] theorem State.cancel_cycGot (e : Instr) : (s.cancel e).cycGot = s.cycGot := rfl
@[simp] theorem State.cancel_cycOpen (e : Instr) : (s.cancel e).cycOpen = s.cycOpen := rfl
@[simp] theorem State.cancel_cycAt (e : Instr) : (s.cancel e).cycAt = s.cycAt := rfl
@[simp] theorem State.cancel_heldCyc (e : Instr) : (s.cancel e).heldCyc = s.heldCyc := rfl
@[simp] theorem State.cancel_fabOfs (e : Instr) : (s.cancel e).fabOfs = s.fabOfs := rfl
@[simp] theorem State.cancel_syncSeen (e : Instr) : (s.cancel e).syncSeen = s.syncSeen := rfl
@[simp] theorem State.cancel_timeSet (e : Instr) : (s.cancel e).timeSet = s.timeSet := rfl
@[simp] theorem State.cancel_ofsBad (e : Instr) : (s.cancel e).ofsBad = s.ofsBad := rfl
@[simp] theorem State.cancel_dropNo (e : Instr) : (s.cancel e).dropNo = s.dropNo := rfl
@[simp] theorem State.cancel_attestWait (e : Instr) : (s.cancel e).attestWait = s.attestWait := rfl
@[simp] theorem State.cancel_dioExt (e : Instr) : (s.cancel e).dioExt = s.dioExt := rfl
@[simp] theorem State.cancel_padOut (e : Instr) : (s.cancel e).padOut = s.padOut := rfl
@[simp] theorem State.cancel_authDraw (e : Instr) : (s.cancel e).authDraw = s.authDraw := rfl
@[simp] theorem State.cancel_authSig (e : Instr) : (s.cancel e).authSig = s.authSig := rfl
@[simp] theorem State.cancel_authKey (e : Instr) : (s.cancel e).authKey = s.authKey := rfl
@[simp] theorem State.cancel_tapIr (e : Instr) : (s.cancel e).tapIr = s.tapIr := rfl
@[simp] theorem State.cancel_tapData (e : Instr) : (s.cancel e).tapData = s.tapData := rfl
@[simp] theorem State.cancel_tapStat (e : Instr) : (s.cancel e).tapStat = s.tapStat := rfl
@[simp] theorem State.cancel_tapWord (e : Instr) : (s.cancel e).tapWord = s.tapWord := rfl
@[simp] theorem State.cancel_boundary (e : Instr) : (s.cancel e).boundary = s.boundary := rfl
@[simp] theorem State.cancel_icuEdges (e : Instr) : (s.cancel e).icuEdges = s.icuEdges := rfl
@[simp] theorem State.cancel_expAt (e : Instr) : (s.cancel e).expAt = s.expAt := rfl
@[simp] theorem State.cancel_flcDone (e : Instr) : (s.cancel e).flcDone = s.flcDone := rfl
@[simp] theorem State.cancel_flcGoAt (e : Instr) : (s.cancel e).flcGoAt = s.flcGoAt := rfl
@[simp] theorem State.cancel_txHold (e : Instr) : (s.cancel e).txHold = s.txHold := rfl
@[simp] theorem State.cancel_cycBad (e : Instr) : (s.cancel e).cycBad = s.cycBad := rfl
@[simp] theorem State.cancel_ackWas (e : Instr) : (s.cancel e).ackWas = s.ackWas := rfl
@[simp] theorem State.cancel_rxWas (e : Instr) : (s.cancel e).rxWas = s.rxWas := rfl

/-! ### `State.after` -/

@[simp] theorem State.after_pending (n : Nat) (e : Instr) : (s.after n e).pending = s.pending := rfl
@[simp] theorem State.after_now (n : Nat) (e : Instr) : (s.after n e).now = s.now := rfl
@[simp] theorem State.after_regs (n : Nat) (e : Instr) : (s.after n e).regs = s.regs := rfl
@[simp] theorem State.after_held (n : Nat) (e : Instr) : (s.after n e).held = s.held := rfl
@[simp] theorem State.after_heldNew (n : Nat) (e : Instr) : (s.after n e).heldNew = s.heldNew := rfl
@[simp] theorem State.after_heldAt (n : Nat) (e : Instr) : (s.after n e).heldAt = s.heldAt := rfl
@[simp] theorem State.after_bistRunning (n : Nat) (e : Instr) : (s.after n e).bistRunning = s.bistRunning := rfl
@[simp] theorem State.after_freeCtr (n : Nat) (e : Instr) : (s.after n e).freeCtr = s.freeCtr := rfl
@[simp] theorem State.after_mem (n : Nat) (e : Instr) : (s.after n e).mem = s.mem := rfl
@[simp] theorem State.after_eccSoft (n : Nat) (e : Instr) : (s.after n e).eccSoft = s.eccSoft := rfl
@[simp] theorem State.after_eccHard (n : Nat) (e : Instr) : (s.after n e).eccHard = s.eccHard := rfl
@[simp] theorem State.after_rdata (n : Nat) (e : Instr) : (s.after n e).rdata = s.rdata := rfl
@[simp] theorem State.after_timers (n : Nat) (e : Instr) : (s.after n e).timers = s.timers := rfl
@[simp] theorem State.after_cores (n : Nat) (e : Instr) : (s.after n e).cores = s.cores := rfl
@[simp] theorem State.after_axes (n : Nat) (e : Instr) : (s.after n e).axes = s.axes := rfl
@[simp] theorem State.after_phases (n : Nat) (e : Instr) : (s.after n e).phases = s.phases := rfl
@[simp] theorem State.after_comps (n : Nat) (e : Instr) : (s.after n e).comps = s.comps := rfl
@[simp] theorem State.after_evrLast (n : Nat) (e : Instr) : (s.after n e).evrLast = s.evrLast := rfl
@[simp] theorem State.after_evrArr (n : Nat) (e : Instr) : (s.after n e).evrArr = s.evrArr := rfl
@[simp] theorem State.after_evrSoft (n : Nat) (e : Instr) : (s.after n e).evrSoft = s.evrSoft := rfl
@[simp] theorem State.after_evrOld (n : Nat) (e : Instr) : (s.after n e).evrOld = s.evrOld := rfl
@[simp] theorem State.after_evrOldAt (n : Nat) (e : Instr) : (s.after n e).evrOldAt = s.evrOldAt := rfl
@[simp] theorem State.after_wakeLatch (n : Nat) (e : Instr) : (s.after n e).wakeLatch = s.wakeLatch := rfl
@[simp] theorem State.after_ssFromRun (n : Nat) (e : Instr) : (s.after n e).ssFromRun = s.ssFromRun := rfl
@[simp] theorem State.after_lanes (n : Nat) (e : Instr) : (s.after n e).lanes = s.lanes := rfl
@[simp] theorem State.after_learn (n : Nat) (e : Instr) : (s.after n e).learn = s.learn := rfl
@[simp] theorem State.after_tickAt (n : Nat) (e : Instr) : (s.after n e).tickAt = s.tickAt := rfl
@[simp] theorem State.after_tblWr (n : Nat) (e : Instr) : (s.after n e).tblWr = s.tblWr := rfl
@[simp] theorem State.after_tblSeal (n : Nat) (e : Instr) : (s.after n e).tblSeal = s.tblSeal := rfl
@[simp] theorem State.after_ssCauses (n : Nat) (e : Instr) : (s.after n e).ssCauses = s.ssCauses := rfl
@[simp] theorem State.after_stoForce (n : Nat) (e : Instr) : (s.after n e).stoForce = s.stoForce := rfl
@[simp] theorem State.after_brkWait (n : Nat) (e : Instr) : (s.after n e).brkWait = s.brkWait := rfl
@[simp] theorem State.after_windows (n : Nat) (e : Instr) : (s.after n e).windows = s.windows := rfl
@[simp] theorem State.after_ports (n : Nat) (e : Instr) : (s.after n e).ports = s.ports := rfl
@[simp] theorem State.after_rxs (n : Nat) (e : Instr) : (s.after n e).rxs = s.rxs := rfl
@[simp] theorem State.after_emus (n : Nat) (e : Instr) : (s.after n e).emus = s.emus := rfl
@[simp] theorem State.after_quads (n : Nat) (e : Instr) : (s.after n e).quads = s.quads := rfl
@[simp] theorem State.after_latches (n : Nat) (e : Instr) : (s.after n e).latches = s.latches := rfl
@[simp] theorem State.after_epochs (n : Nat) (e : Instr) : (s.after n e).epochs = s.epochs := rfl
@[simp] theorem State.after_epoch (n : Nat) (e : Instr) : (s.after n e).epoch = s.epoch := rfl
@[simp] theorem State.after_nsPhase (n : Nat) (e : Instr) : (s.after n e).nsPhase = s.nsPhase := rfl
@[simp] theorem State.after_auxOn (n : Nat) (e : Instr) : (s.after n e).auxOn = s.auxOn := rfl
@[simp] theorem State.after_auxAt (n : Nat) (e : Instr) : (s.after n e).auxAt = s.auxAt := rfl
@[simp] theorem State.after_beat (n : Nat) (e : Instr) : (s.after n e).beat = s.beat := rfl
@[simp] theorem State.after_clocked (n : Nat) (e : Instr) : (s.after n e).clocked = s.clocked := rfl
@[simp] theorem State.after_bulkOk (n : Nat) (e : Instr) : (s.after n e).bulkOk = s.bulkOk := rfl
@[simp] theorem State.after_lineGood (n : Nat) (e : Instr) : (s.after n e).lineGood = s.lineGood := rfl
@[simp] theorem State.after_lg (n : Nat) (e : Instr) : (s.after n e).lg = s.lg := rfl
@[simp] theorem State.after_stoIn (n : Nat) (e : Instr) : (s.after n e).stoIn = s.stoIn := rfl
@[simp] theorem State.after_mwdtSecond (n : Nat) (e : Instr) : (s.after n e).mwdtSecond = s.mwdtSecond := rfl
@[simp] theorem State.after_cwdLen (n : Nat) (e : Instr) : (s.after n e).cwdLen = s.cwdLen := rfl
@[simp] theorem State.after_dmaBuf (n : Nat) (e : Instr) : (s.after n e).dmaBuf = s.dmaBuf := rfl
@[simp] theorem State.after_dmaRd (n : Nat) (e : Instr) : (s.after n e).dmaRd = s.dmaRd := rfl
@[simp] theorem State.after_dramUntil (n : Nat) (e : Instr) : (s.after n e).dramUntil = s.dramUntil := rfl
@[simp] theorem State.after_flcQueue (n : Nat) (e : Instr) : (s.after n e).flcQueue = s.flcQueue := rfl
@[simp] theorem State.after_flcOp (n : Nat) (e : Instr) : (s.after n e).flcOp = s.flcOp := rfl
@[simp] theorem State.after_jUntil (n : Nat) (e : Instr) : (s.after n e).jUntil = s.jUntil := rfl
@[simp] theorem State.after_torn (n : Nat) (e : Instr) : (s.after n e).torn = s.torn := rfl
@[simp] theorem State.after_ffUnits (n : Nat) (e : Instr) : (s.after n e).ffUnits = s.ffUnits := rfl
@[simp] theorem State.after_flcHalf (n : Nat) (e : Instr) : (s.after n e).flcHalf = s.flcHalf := rfl
@[simp] theorem State.after_flcRst (n : Nat) (e : Instr) : (s.after n e).flcRst = s.flcRst := rfl
@[simp] theorem State.after_bootStage (n : Nat) (e : Instr) : (s.after n e).bootStage = s.bootStage := rfl
@[simp] theorem State.after_cryJob (n : Nat) (e : Instr) : (s.after n e).cryJob = s.cryJob := rfl
@[simp] theorem State.after_cryWriter (n : Nat) (e : Instr) : (s.after n e).cryWriter = s.cryWriter := rfl
@[simp] theorem State.after_cryStage (n : Nat) (e : Instr) : (s.after n e).cryStage = s.cryStage := rfl
@[simp] theorem State.after_cryTodo (n : Nat) (e : Instr) : (s.after n e).cryTodo = s.cryTodo := rfl
@[simp] theorem State.after_crySlot (n : Nat) (e : Instr) : (s.after n e).crySlot = s.crySlot := rfl
@[simp] theorem State.after_otpKeys (n : Nat) (e : Instr) : (s.after n e).otpKeys = s.otpKeys := rfl
@[simp] theorem State.after_settings (n : Nat) (e : Instr) : (s.after n e).settings = s.settings := rfl
@[simp] theorem State.after_rstWait (n : Nat) (e : Instr) : (s.after n e).rstWait = s.rstWait := rfl
@[simp] theorem State.after_mainsOn (n : Nat) (e : Instr) : (s.after n e).mainsOn = s.mainsOn := rfl
@[simp] theorem State.after_offHold (n : Nat) (e : Instr) : (s.after n e).offHold = s.offHold := rfl
@[simp] theorem State.after_dormAt (n : Nat) (e : Instr) : (s.after n e).dormAt = s.dormAt := rfl
@[simp] theorem State.after_fromShutdown (n : Nat) (e : Instr) : (s.after n e).fromShutdown = s.fromShutdown := rfl
@[simp] theorem State.after_aonFrac (n : Nat) (e : Instr) : (s.after n e).aonFrac = s.aonFrac := rfl
@[simp] theorem State.after_fabLatch (n : Nat) (e : Instr) : (s.after n e).fabLatch = s.fabLatch := rfl
@[simp] theorem State.after_bootAt (n : Nat) (e : Instr) : (s.after n e).bootAt = s.bootAt := rfl
@[simp] theorem State.after_calAt (n : Nat) (e : Instr) : (s.after n e).calAt = s.calAt := rfl
@[simp] theorem State.after_wakeAt (n : Nat) (e : Instr) : (s.after n e).wakeAt = s.wakeAt := rfl
@[simp] theorem State.after_lbist (n : Nat) (e : Instr) : (s.after n e).lbist = s.lbist := rfl
@[simp] theorem State.after_egress (n : Nat) (e : Instr) : (s.after n e).egress = s.egress := rfl
@[simp] theorem State.after_fabPorts (n : Nat) (e : Instr) : (s.after n e).fabPorts = s.fabPorts := rfl
@[simp] theorem State.after_sess (n : Nat) (e : Instr) : (s.after n e).sess = s.sess := rfl
@[simp] theorem State.after_farOps (n : Nat) (e : Instr) : (s.after n e).farOps = s.farOps := rfl
@[simp] theorem State.after_farTag (n : Nat) (e : Instr) : (s.after n e).farTag = s.farTag := rfl
@[simp] theorem State.after_fabSeq (n : Nat) (e : Instr) : (s.after n e).fabSeq = s.fabSeq := rfl
@[simp] theorem State.after_hostMac (n : Nat) (e : Instr) : (s.after n e).hostMac = s.hostMac := rfl
@[simp] theorem State.after_cycKey (n : Nat) (e : Instr) : (s.after n e).cycKey = s.cycKey := rfl
@[simp] theorem State.after_cycKeyNext (n : Nat) (e : Instr) : (s.after n e).cycKeyNext = s.cycKeyNext := rfl
@[simp] theorem State.after_cycBuf (n : Nat) (e : Instr) : (s.after n e).cycBuf = s.cycBuf := rfl
@[simp] theorem State.after_cycBufNo (n : Nat) (e : Instr) : (s.after n e).cycBufNo = s.cycBufNo := rfl
@[simp] theorem State.after_cycOld (n : Nat) (e : Instr) : (s.after n e).cycOld = s.cycOld := rfl
@[simp] theorem State.after_cycOldNo (n : Nat) (e : Instr) : (s.after n e).cycOldNo = s.cycOldNo := rfl
@[simp] theorem State.after_snapAt (n : Nat) (e : Instr) : (s.after n e).snapAt = s.snapAt := rfl
@[simp] theorem State.after_cycGot (n : Nat) (e : Instr) : (s.after n e).cycGot = s.cycGot := rfl
@[simp] theorem State.after_cycOpen (n : Nat) (e : Instr) : (s.after n e).cycOpen = s.cycOpen := rfl
@[simp] theorem State.after_cycAt (n : Nat) (e : Instr) : (s.after n e).cycAt = s.cycAt := rfl
@[simp] theorem State.after_heldCyc (n : Nat) (e : Instr) : (s.after n e).heldCyc = s.heldCyc := rfl
@[simp] theorem State.after_fabOfs (n : Nat) (e : Instr) : (s.after n e).fabOfs = s.fabOfs := rfl
@[simp] theorem State.after_syncSeen (n : Nat) (e : Instr) : (s.after n e).syncSeen = s.syncSeen := rfl
@[simp] theorem State.after_timeSet (n : Nat) (e : Instr) : (s.after n e).timeSet = s.timeSet := rfl
@[simp] theorem State.after_ofsBad (n : Nat) (e : Instr) : (s.after n e).ofsBad = s.ofsBad := rfl
@[simp] theorem State.after_dropNo (n : Nat) (e : Instr) : (s.after n e).dropNo = s.dropNo := rfl
@[simp] theorem State.after_attestWait (n : Nat) (e : Instr) : (s.after n e).attestWait = s.attestWait := rfl
@[simp] theorem State.after_dioExt (n : Nat) (e : Instr) : (s.after n e).dioExt = s.dioExt := rfl
@[simp] theorem State.after_padOut (n : Nat) (e : Instr) : (s.after n e).padOut = s.padOut := rfl
@[simp] theorem State.after_authDraw (n : Nat) (e : Instr) : (s.after n e).authDraw = s.authDraw := rfl
@[simp] theorem State.after_authSig (n : Nat) (e : Instr) : (s.after n e).authSig = s.authSig := rfl
@[simp] theorem State.after_authKey (n : Nat) (e : Instr) : (s.after n e).authKey = s.authKey := rfl
@[simp] theorem State.after_tapIr (n : Nat) (e : Instr) : (s.after n e).tapIr = s.tapIr := rfl
@[simp] theorem State.after_tapData (n : Nat) (e : Instr) : (s.after n e).tapData = s.tapData := rfl
@[simp] theorem State.after_tapStat (n : Nat) (e : Instr) : (s.after n e).tapStat = s.tapStat := rfl
@[simp] theorem State.after_tapWord (n : Nat) (e : Instr) : (s.after n e).tapWord = s.tapWord := rfl
@[simp] theorem State.after_boundary (n : Nat) (e : Instr) : (s.after n e).boundary = s.boundary := rfl
@[simp] theorem State.after_icuEdges (n : Nat) (e : Instr) : (s.after n e).icuEdges = s.icuEdges := rfl
@[simp] theorem State.after_expAt (n : Nat) (e : Instr) : (s.after n e).expAt = s.expAt := rfl
@[simp] theorem State.after_flcDone (n : Nat) (e : Instr) : (s.after n e).flcDone = s.flcDone := rfl
@[simp] theorem State.after_flcGoAt (n : Nat) (e : Instr) : (s.after n e).flcGoAt = s.flcGoAt := rfl
@[simp] theorem State.after_txHold (n : Nat) (e : Instr) : (s.after n e).txHold = s.txHold := rfl
@[simp] theorem State.after_cycBad (n : Nat) (e : Instr) : (s.after n e).cycBad = s.cycBad := rfl
@[simp] theorem State.after_ackWas (n : Nat) (e : Instr) : (s.after n e).ackWas = s.ackWas := rfl
@[simp] theorem State.after_rxWas (n : Nat) (e : Instr) : (s.after n e).rxWas = s.rxWas := rfl

/-! ### `State.inc`, `State.setHeld` and `State.fresh` -/

@[simp] theorem State.inc_pending (f : Fld) : (s.inc f).pending = s.pending := by unfold State.inc; split <;> rfl
@[simp] theorem State.inc_alarms (f : Fld) : (s.inc f).alarms = s.alarms := by unfold State.inc; split <;> rfl
@[simp] theorem State.inc_now (f : Fld) : (s.inc f).now = s.now := by unfold State.inc; split <;> rfl
@[simp] theorem State.inc_held (f : Fld) : (s.inc f).held = s.held := by unfold State.inc; split <;> rfl
@[simp] theorem State.inc_heldNew (f : Fld) : (s.inc f).heldNew = s.heldNew := by unfold State.inc; split <;> rfl
@[simp] theorem State.inc_heldAt (f : Fld) : (s.inc f).heldAt = s.heldAt := by unfold State.inc; split <;> rfl
@[simp] theorem State.inc_bistRunning (f : Fld) : (s.inc f).bistRunning = s.bistRunning := by unfold State.inc; split <;> rfl
@[simp] theorem State.inc_freeCtr (f : Fld) : (s.inc f).freeCtr = s.freeCtr := by unfold State.inc; split <;> rfl
@[simp] theorem State.inc_mem (f : Fld) : (s.inc f).mem = s.mem := by unfold State.inc; split <;> rfl
@[simp] theorem State.inc_eccSoft (f : Fld) : (s.inc f).eccSoft = s.eccSoft := by unfold State.inc; split <;> rfl
@[simp] theorem State.inc_eccHard (f : Fld) : (s.inc f).eccHard = s.eccHard := by unfold State.inc; split <;> rfl
@[simp] theorem State.inc_rdata (f : Fld) : (s.inc f).rdata = s.rdata := by unfold State.inc; split <;> rfl
@[simp] theorem State.inc_timers (f : Fld) : (s.inc f).timers = s.timers := by unfold State.inc; split <;> rfl
@[simp] theorem State.inc_cores (f : Fld) : (s.inc f).cores = s.cores := by unfold State.inc; split <;> rfl
@[simp] theorem State.inc_axes (f : Fld) : (s.inc f).axes = s.axes := by unfold State.inc; split <;> rfl
@[simp] theorem State.inc_phases (f : Fld) : (s.inc f).phases = s.phases := by unfold State.inc; split <;> rfl
@[simp] theorem State.inc_comps (f : Fld) : (s.inc f).comps = s.comps := by unfold State.inc; split <;> rfl
@[simp] theorem State.inc_evrLast (f : Fld) : (s.inc f).evrLast = s.evrLast := by unfold State.inc; split <;> rfl
@[simp] theorem State.inc_evrArr (f : Fld) : (s.inc f).evrArr = s.evrArr := by unfold State.inc; split <;> rfl
@[simp] theorem State.inc_evrSoft (f : Fld) : (s.inc f).evrSoft = s.evrSoft := by unfold State.inc; split <;> rfl
@[simp] theorem State.inc_evrOld (f : Fld) : (s.inc f).evrOld = s.evrOld := by unfold State.inc; split <;> rfl
@[simp] theorem State.inc_evrOldAt (f : Fld) : (s.inc f).evrOldAt = s.evrOldAt := by unfold State.inc; split <;> rfl
@[simp] theorem State.inc_wakeLatch (f : Fld) : (s.inc f).wakeLatch = s.wakeLatch := by unfold State.inc; split <;> rfl
@[simp] theorem State.inc_ssFromRun (f : Fld) : (s.inc f).ssFromRun = s.ssFromRun := by unfold State.inc; split <;> rfl
@[simp] theorem State.inc_lanes (f : Fld) : (s.inc f).lanes = s.lanes := by unfold State.inc; split <;> rfl
@[simp] theorem State.inc_learn (f : Fld) : (s.inc f).learn = s.learn := by unfold State.inc; split <;> rfl
@[simp] theorem State.inc_tickAt (f : Fld) : (s.inc f).tickAt = s.tickAt := by unfold State.inc; split <;> rfl
@[simp] theorem State.inc_tblWr (f : Fld) : (s.inc f).tblWr = s.tblWr := by unfold State.inc; split <;> rfl
@[simp] theorem State.inc_tblSeal (f : Fld) : (s.inc f).tblSeal = s.tblSeal := by unfold State.inc; split <;> rfl
@[simp] theorem State.inc_ssCauses (f : Fld) : (s.inc f).ssCauses = s.ssCauses := by unfold State.inc; split <;> rfl
@[simp] theorem State.inc_stoForce (f : Fld) : (s.inc f).stoForce = s.stoForce := by unfold State.inc; split <;> rfl
@[simp] theorem State.inc_brkWait (f : Fld) : (s.inc f).brkWait = s.brkWait := by unfold State.inc; split <;> rfl
@[simp] theorem State.inc_windows (f : Fld) : (s.inc f).windows = s.windows := by unfold State.inc; split <;> rfl
@[simp] theorem State.inc_ports (f : Fld) : (s.inc f).ports = s.ports := by unfold State.inc; split <;> rfl
@[simp] theorem State.inc_rxs (f : Fld) : (s.inc f).rxs = s.rxs := by unfold State.inc; split <;> rfl
@[simp] theorem State.inc_emus (f : Fld) : (s.inc f).emus = s.emus := by unfold State.inc; split <;> rfl
@[simp] theorem State.inc_quads (f : Fld) : (s.inc f).quads = s.quads := by unfold State.inc; split <;> rfl
@[simp] theorem State.inc_latches (f : Fld) : (s.inc f).latches = s.latches := by unfold State.inc; split <;> rfl
@[simp] theorem State.inc_epochs (f : Fld) : (s.inc f).epochs = s.epochs := by unfold State.inc; split <;> rfl
@[simp] theorem State.inc_epoch (f : Fld) : (s.inc f).epoch = s.epoch := by unfold State.inc; split <;> rfl
@[simp] theorem State.inc_nsPhase (f : Fld) : (s.inc f).nsPhase = s.nsPhase := by unfold State.inc; split <;> rfl
@[simp] theorem State.inc_auxOn (f : Fld) : (s.inc f).auxOn = s.auxOn := by unfold State.inc; split <;> rfl
@[simp] theorem State.inc_auxAt (f : Fld) : (s.inc f).auxAt = s.auxAt := by unfold State.inc; split <;> rfl
@[simp] theorem State.inc_beat (f : Fld) : (s.inc f).beat = s.beat := by unfold State.inc; split <;> rfl
@[simp] theorem State.inc_clocked (f : Fld) : (s.inc f).clocked = s.clocked := by unfold State.inc; split <;> rfl
@[simp] theorem State.inc_bulkOk (f : Fld) : (s.inc f).bulkOk = s.bulkOk := by unfold State.inc; split <;> rfl
@[simp] theorem State.inc_lineGood (f : Fld) : (s.inc f).lineGood = s.lineGood := by unfold State.inc; split <;> rfl
@[simp] theorem State.inc_lg (f : Fld) : (s.inc f).lg = s.lg := by unfold State.inc; split <;> rfl
@[simp] theorem State.inc_stoIn (f : Fld) : (s.inc f).stoIn = s.stoIn := by unfold State.inc; split <;> rfl
@[simp] theorem State.inc_mwdtSecond (f : Fld) : (s.inc f).mwdtSecond = s.mwdtSecond := by unfold State.inc; split <;> rfl
@[simp] theorem State.inc_cwdLen (f : Fld) : (s.inc f).cwdLen = s.cwdLen := by unfold State.inc; split <;> rfl
@[simp] theorem State.inc_dmaBuf (f : Fld) : (s.inc f).dmaBuf = s.dmaBuf := by unfold State.inc; split <;> rfl
@[simp] theorem State.inc_dmaRd (f : Fld) : (s.inc f).dmaRd = s.dmaRd := by unfold State.inc; split <;> rfl
@[simp] theorem State.inc_dramUntil (f : Fld) : (s.inc f).dramUntil = s.dramUntil := by unfold State.inc; split <;> rfl
@[simp] theorem State.inc_flcQueue (f : Fld) : (s.inc f).flcQueue = s.flcQueue := by unfold State.inc; split <;> rfl
@[simp] theorem State.inc_flcOp (f : Fld) : (s.inc f).flcOp = s.flcOp := by unfold State.inc; split <;> rfl
@[simp] theorem State.inc_jUntil (f : Fld) : (s.inc f).jUntil = s.jUntil := by unfold State.inc; split <;> rfl
@[simp] theorem State.inc_torn (f : Fld) : (s.inc f).torn = s.torn := by unfold State.inc; split <;> rfl
@[simp] theorem State.inc_ffUnits (f : Fld) : (s.inc f).ffUnits = s.ffUnits := by unfold State.inc; split <;> rfl
@[simp] theorem State.inc_flcHalf (f : Fld) : (s.inc f).flcHalf = s.flcHalf := by unfold State.inc; split <;> rfl
@[simp] theorem State.inc_flcRst (f : Fld) : (s.inc f).flcRst = s.flcRst := by unfold State.inc; split <;> rfl
@[simp] theorem State.inc_bootStage (f : Fld) : (s.inc f).bootStage = s.bootStage := by unfold State.inc; split <;> rfl
@[simp] theorem State.inc_cryJob (f : Fld) : (s.inc f).cryJob = s.cryJob := by unfold State.inc; split <;> rfl
@[simp] theorem State.inc_cryWriter (f : Fld) : (s.inc f).cryWriter = s.cryWriter := by unfold State.inc; split <;> rfl
@[simp] theorem State.inc_cryStage (f : Fld) : (s.inc f).cryStage = s.cryStage := by unfold State.inc; split <;> rfl
@[simp] theorem State.inc_cryTodo (f : Fld) : (s.inc f).cryTodo = s.cryTodo := by unfold State.inc; split <;> rfl
@[simp] theorem State.inc_crySlot (f : Fld) : (s.inc f).crySlot = s.crySlot := by unfold State.inc; split <;> rfl
@[simp] theorem State.inc_otpKeys (f : Fld) : (s.inc f).otpKeys = s.otpKeys := by unfold State.inc; split <;> rfl
@[simp] theorem State.inc_settings (f : Fld) : (s.inc f).settings = s.settings := by unfold State.inc; split <;> rfl
@[simp] theorem State.inc_rstWait (f : Fld) : (s.inc f).rstWait = s.rstWait := by unfold State.inc; split <;> rfl
@[simp] theorem State.inc_mainsOn (f : Fld) : (s.inc f).mainsOn = s.mainsOn := by unfold State.inc; split <;> rfl
@[simp] theorem State.inc_offHold (f : Fld) : (s.inc f).offHold = s.offHold := by unfold State.inc; split <;> rfl
@[simp] theorem State.inc_dormAt (f : Fld) : (s.inc f).dormAt = s.dormAt := by unfold State.inc; split <;> rfl
@[simp] theorem State.inc_fromShutdown (f : Fld) : (s.inc f).fromShutdown = s.fromShutdown := by unfold State.inc; split <;> rfl
@[simp] theorem State.inc_aonFrac (f : Fld) : (s.inc f).aonFrac = s.aonFrac := by unfold State.inc; split <;> rfl
@[simp] theorem State.inc_fabLatch (f : Fld) : (s.inc f).fabLatch = s.fabLatch := by unfold State.inc; split <;> rfl
@[simp] theorem State.inc_bootAt (f : Fld) : (s.inc f).bootAt = s.bootAt := by unfold State.inc; split <;> rfl
@[simp] theorem State.inc_calAt (f : Fld) : (s.inc f).calAt = s.calAt := by unfold State.inc; split <;> rfl
@[simp] theorem State.inc_wakeAt (f : Fld) : (s.inc f).wakeAt = s.wakeAt := by unfold State.inc; split <;> rfl
@[simp] theorem State.inc_lbist (f : Fld) : (s.inc f).lbist = s.lbist := by unfold State.inc; split <;> rfl
@[simp] theorem State.inc_egress (f : Fld) : (s.inc f).egress = s.egress := by unfold State.inc; split <;> rfl
@[simp] theorem State.inc_fabPorts (f : Fld) : (s.inc f).fabPorts = s.fabPorts := by unfold State.inc; split <;> rfl
@[simp] theorem State.inc_sess (f : Fld) : (s.inc f).sess = s.sess := by unfold State.inc; split <;> rfl
@[simp] theorem State.inc_farOps (f : Fld) : (s.inc f).farOps = s.farOps := by unfold State.inc; split <;> rfl
@[simp] theorem State.inc_farTag (f : Fld) : (s.inc f).farTag = s.farTag := by unfold State.inc; split <;> rfl
@[simp] theorem State.inc_fabSeq (f : Fld) : (s.inc f).fabSeq = s.fabSeq := by unfold State.inc; split <;> rfl
@[simp] theorem State.inc_hostMac (f : Fld) : (s.inc f).hostMac = s.hostMac := by unfold State.inc; split <;> rfl
@[simp] theorem State.inc_cycKey (f : Fld) : (s.inc f).cycKey = s.cycKey := by unfold State.inc; split <;> rfl
@[simp] theorem State.inc_cycKeyNext (f : Fld) : (s.inc f).cycKeyNext = s.cycKeyNext := by unfold State.inc; split <;> rfl
@[simp] theorem State.inc_cycBuf (f : Fld) : (s.inc f).cycBuf = s.cycBuf := by unfold State.inc; split <;> rfl
@[simp] theorem State.inc_cycBufNo (f : Fld) : (s.inc f).cycBufNo = s.cycBufNo := by unfold State.inc; split <;> rfl
@[simp] theorem State.inc_cycOld (f : Fld) : (s.inc f).cycOld = s.cycOld := by unfold State.inc; split <;> rfl
@[simp] theorem State.inc_cycOldNo (f : Fld) : (s.inc f).cycOldNo = s.cycOldNo := by unfold State.inc; split <;> rfl
@[simp] theorem State.inc_snapAt (f : Fld) : (s.inc f).snapAt = s.snapAt := by unfold State.inc; split <;> rfl
@[simp] theorem State.inc_cycGot (f : Fld) : (s.inc f).cycGot = s.cycGot := by unfold State.inc; split <;> rfl
@[simp] theorem State.inc_cycOpen (f : Fld) : (s.inc f).cycOpen = s.cycOpen := by unfold State.inc; split <;> rfl
@[simp] theorem State.inc_cycAt (f : Fld) : (s.inc f).cycAt = s.cycAt := by unfold State.inc; split <;> rfl
@[simp] theorem State.inc_heldCyc (f : Fld) : (s.inc f).heldCyc = s.heldCyc := by unfold State.inc; split <;> rfl
@[simp] theorem State.inc_fabOfs (f : Fld) : (s.inc f).fabOfs = s.fabOfs := by unfold State.inc; split <;> rfl
@[simp] theorem State.inc_syncSeen (f : Fld) : (s.inc f).syncSeen = s.syncSeen := by unfold State.inc; split <;> rfl
@[simp] theorem State.inc_timeSet (f : Fld) : (s.inc f).timeSet = s.timeSet := by unfold State.inc; split <;> rfl
@[simp] theorem State.inc_ofsBad (f : Fld) : (s.inc f).ofsBad = s.ofsBad := by unfold State.inc; split <;> rfl
@[simp] theorem State.inc_dropNo (f : Fld) : (s.inc f).dropNo = s.dropNo := by unfold State.inc; split <;> rfl
@[simp] theorem State.inc_attestWait (f : Fld) : (s.inc f).attestWait = s.attestWait := by unfold State.inc; split <;> rfl
@[simp] theorem State.inc_dioExt (f : Fld) : (s.inc f).dioExt = s.dioExt := by unfold State.inc; split <;> rfl
@[simp] theorem State.inc_padOut (f : Fld) : (s.inc f).padOut = s.padOut := by unfold State.inc; split <;> rfl
@[simp] theorem State.inc_authDraw (f : Fld) : (s.inc f).authDraw = s.authDraw := by unfold State.inc; split <;> rfl
@[simp] theorem State.inc_authSig (f : Fld) : (s.inc f).authSig = s.authSig := by unfold State.inc; split <;> rfl
@[simp] theorem State.inc_authKey (f : Fld) : (s.inc f).authKey = s.authKey := by unfold State.inc; split <;> rfl
@[simp] theorem State.inc_tapIr (f : Fld) : (s.inc f).tapIr = s.tapIr := by unfold State.inc; split <;> rfl
@[simp] theorem State.inc_tapData (f : Fld) : (s.inc f).tapData = s.tapData := by unfold State.inc; split <;> rfl
@[simp] theorem State.inc_tapStat (f : Fld) : (s.inc f).tapStat = s.tapStat := by unfold State.inc; split <;> rfl
@[simp] theorem State.inc_tapWord (f : Fld) : (s.inc f).tapWord = s.tapWord := by unfold State.inc; split <;> rfl
@[simp] theorem State.inc_boundary (f : Fld) : (s.inc f).boundary = s.boundary := by unfold State.inc; split <;> rfl
@[simp] theorem State.inc_icuEdges (f : Fld) : (s.inc f).icuEdges = s.icuEdges := by unfold State.inc; split <;> rfl
@[simp] theorem State.inc_expAt (f : Fld) : (s.inc f).expAt = s.expAt := by unfold State.inc; split <;> rfl
@[simp] theorem State.inc_flcDone (f : Fld) : (s.inc f).flcDone = s.flcDone := by unfold State.inc; split <;> rfl
@[simp] theorem State.inc_flcGoAt (f : Fld) : (s.inc f).flcGoAt = s.flcGoAt := by unfold State.inc; split <;> rfl
@[simp] theorem State.inc_txHold (f : Fld) : (s.inc f).txHold = s.txHold := by unfold State.inc; split <;> rfl
@[simp] theorem State.inc_cycBad (f : Fld) : (s.inc f).cycBad = s.cycBad := by unfold State.inc; split <;> rfl
@[simp] theorem State.inc_ackWas (f : Fld) : (s.inc f).ackWas = s.ackWas := by unfold State.inc; split <;> rfl
@[simp] theorem State.inc_rxWas (f : Fld) : (s.inc f).rxWas = s.rxWas := by unfold State.inc; split <;> rfl
@[simp] theorem State.setHeld_pending (a : Nat) (v : Word) : (s.setHeld a v).pending = s.pending := by unfold State.setHeld; split <;> rfl
@[simp] theorem State.setHeld_alarms (a : Nat) (v : Word) : (s.setHeld a v).alarms = s.alarms := by unfold State.setHeld; split <;> rfl
@[simp] theorem State.setHeld_now (a : Nat) (v : Word) : (s.setHeld a v).now = s.now := by unfold State.setHeld; split <;> rfl
@[simp] theorem State.setHeld_bistRunning (a : Nat) (v : Word) : (s.setHeld a v).bistRunning = s.bistRunning := by unfold State.setHeld; split <;> rfl
@[simp] theorem State.setHeld_freeCtr (a : Nat) (v : Word) : (s.setHeld a v).freeCtr = s.freeCtr := by unfold State.setHeld; split <;> rfl
@[simp] theorem State.setHeld_mem (a : Nat) (v : Word) : (s.setHeld a v).mem = s.mem := by unfold State.setHeld; split <;> rfl
@[simp] theorem State.setHeld_eccSoft (a : Nat) (v : Word) : (s.setHeld a v).eccSoft = s.eccSoft := by unfold State.setHeld; split <;> rfl
@[simp] theorem State.setHeld_eccHard (a : Nat) (v : Word) : (s.setHeld a v).eccHard = s.eccHard := by unfold State.setHeld; split <;> rfl
@[simp] theorem State.setHeld_rdata (a : Nat) (v : Word) : (s.setHeld a v).rdata = s.rdata := by unfold State.setHeld; split <;> rfl
@[simp] theorem State.setHeld_timers (a : Nat) (v : Word) : (s.setHeld a v).timers = s.timers := by unfold State.setHeld; split <;> rfl
@[simp] theorem State.setHeld_cores (a : Nat) (v : Word) : (s.setHeld a v).cores = s.cores := by unfold State.setHeld; split <;> rfl
@[simp] theorem State.setHeld_axes (a : Nat) (v : Word) : (s.setHeld a v).axes = s.axes := by unfold State.setHeld; split <;> rfl
@[simp] theorem State.setHeld_phases (a : Nat) (v : Word) : (s.setHeld a v).phases = s.phases := by unfold State.setHeld; split <;> rfl
@[simp] theorem State.setHeld_comps (a : Nat) (v : Word) : (s.setHeld a v).comps = s.comps := by unfold State.setHeld; split <;> rfl
@[simp] theorem State.setHeld_evrLast (a : Nat) (v : Word) : (s.setHeld a v).evrLast = s.evrLast := by unfold State.setHeld; split <;> rfl
@[simp] theorem State.setHeld_evrArr (a : Nat) (v : Word) : (s.setHeld a v).evrArr = s.evrArr := by unfold State.setHeld; split <;> rfl
@[simp] theorem State.setHeld_evrSoft (a : Nat) (v : Word) : (s.setHeld a v).evrSoft = s.evrSoft := by unfold State.setHeld; split <;> rfl
@[simp] theorem State.setHeld_evrOld (a : Nat) (v : Word) : (s.setHeld a v).evrOld = s.evrOld := by unfold State.setHeld; split <;> rfl
@[simp] theorem State.setHeld_evrOldAt (a : Nat) (v : Word) : (s.setHeld a v).evrOldAt = s.evrOldAt := by unfold State.setHeld; split <;> rfl
@[simp] theorem State.setHeld_wakeLatch (a : Nat) (v : Word) : (s.setHeld a v).wakeLatch = s.wakeLatch := by unfold State.setHeld; split <;> rfl
@[simp] theorem State.setHeld_ssFromRun (a : Nat) (v : Word) : (s.setHeld a v).ssFromRun = s.ssFromRun := by unfold State.setHeld; split <;> rfl
@[simp] theorem State.setHeld_lanes (a : Nat) (v : Word) : (s.setHeld a v).lanes = s.lanes := by unfold State.setHeld; split <;> rfl
@[simp] theorem State.setHeld_learn (a : Nat) (v : Word) : (s.setHeld a v).learn = s.learn := by unfold State.setHeld; split <;> rfl
@[simp] theorem State.setHeld_tickAt (a : Nat) (v : Word) : (s.setHeld a v).tickAt = s.tickAt := by unfold State.setHeld; split <;> rfl
@[simp] theorem State.setHeld_tblWr (a : Nat) (v : Word) : (s.setHeld a v).tblWr = s.tblWr := by unfold State.setHeld; split <;> rfl
@[simp] theorem State.setHeld_tblSeal (a : Nat) (v : Word) : (s.setHeld a v).tblSeal = s.tblSeal := by unfold State.setHeld; split <;> rfl
@[simp] theorem State.setHeld_ssCauses (a : Nat) (v : Word) : (s.setHeld a v).ssCauses = s.ssCauses := by unfold State.setHeld; split <;> rfl
@[simp] theorem State.setHeld_stoForce (a : Nat) (v : Word) : (s.setHeld a v).stoForce = s.stoForce := by unfold State.setHeld; split <;> rfl
@[simp] theorem State.setHeld_brkWait (a : Nat) (v : Word) : (s.setHeld a v).brkWait = s.brkWait := by unfold State.setHeld; split <;> rfl
@[simp] theorem State.setHeld_windows (a : Nat) (v : Word) : (s.setHeld a v).windows = s.windows := by unfold State.setHeld; split <;> rfl
@[simp] theorem State.setHeld_ports (a : Nat) (v : Word) : (s.setHeld a v).ports = s.ports := by unfold State.setHeld; split <;> rfl
@[simp] theorem State.setHeld_rxs (a : Nat) (v : Word) : (s.setHeld a v).rxs = s.rxs := by unfold State.setHeld; split <;> rfl
@[simp] theorem State.setHeld_emus (a : Nat) (v : Word) : (s.setHeld a v).emus = s.emus := by unfold State.setHeld; split <;> rfl
@[simp] theorem State.setHeld_quads (a : Nat) (v : Word) : (s.setHeld a v).quads = s.quads := by unfold State.setHeld; split <;> rfl
@[simp] theorem State.setHeld_latches (a : Nat) (v : Word) : (s.setHeld a v).latches = s.latches := by unfold State.setHeld; split <;> rfl
@[simp] theorem State.setHeld_epochs (a : Nat) (v : Word) : (s.setHeld a v).epochs = s.epochs := by unfold State.setHeld; split <;> rfl
@[simp] theorem State.setHeld_epoch (a : Nat) (v : Word) : (s.setHeld a v).epoch = s.epoch := by unfold State.setHeld; split <;> rfl
@[simp] theorem State.setHeld_nsPhase (a : Nat) (v : Word) : (s.setHeld a v).nsPhase = s.nsPhase := by unfold State.setHeld; split <;> rfl
@[simp] theorem State.setHeld_auxOn (a : Nat) (v : Word) : (s.setHeld a v).auxOn = s.auxOn := by unfold State.setHeld; split <;> rfl
@[simp] theorem State.setHeld_auxAt (a : Nat) (v : Word) : (s.setHeld a v).auxAt = s.auxAt := by unfold State.setHeld; split <;> rfl
@[simp] theorem State.setHeld_beat (a : Nat) (v : Word) : (s.setHeld a v).beat = s.beat := by unfold State.setHeld; split <;> rfl
@[simp] theorem State.setHeld_clocked (a : Nat) (v : Word) : (s.setHeld a v).clocked = s.clocked := by unfold State.setHeld; split <;> rfl
@[simp] theorem State.setHeld_bulkOk (a : Nat) (v : Word) : (s.setHeld a v).bulkOk = s.bulkOk := by unfold State.setHeld; split <;> rfl
@[simp] theorem State.setHeld_lineGood (a : Nat) (v : Word) : (s.setHeld a v).lineGood = s.lineGood := by unfold State.setHeld; split <;> rfl
@[simp] theorem State.setHeld_lg (a : Nat) (v : Word) : (s.setHeld a v).lg = s.lg := by unfold State.setHeld; split <;> rfl
@[simp] theorem State.setHeld_stoIn (a : Nat) (v : Word) : (s.setHeld a v).stoIn = s.stoIn := by unfold State.setHeld; split <;> rfl
@[simp] theorem State.setHeld_mwdtSecond (a : Nat) (v : Word) : (s.setHeld a v).mwdtSecond = s.mwdtSecond := by unfold State.setHeld; split <;> rfl
@[simp] theorem State.setHeld_cwdLen (a : Nat) (v : Word) : (s.setHeld a v).cwdLen = s.cwdLen := by unfold State.setHeld; split <;> rfl
@[simp] theorem State.setHeld_dmaBuf (a : Nat) (v : Word) : (s.setHeld a v).dmaBuf = s.dmaBuf := by unfold State.setHeld; split <;> rfl
@[simp] theorem State.setHeld_dmaRd (a : Nat) (v : Word) : (s.setHeld a v).dmaRd = s.dmaRd := by unfold State.setHeld; split <;> rfl
@[simp] theorem State.setHeld_dramUntil (a : Nat) (v : Word) : (s.setHeld a v).dramUntil = s.dramUntil := by unfold State.setHeld; split <;> rfl
@[simp] theorem State.setHeld_flcQueue (a : Nat) (v : Word) : (s.setHeld a v).flcQueue = s.flcQueue := by unfold State.setHeld; split <;> rfl
@[simp] theorem State.setHeld_flcOp (a : Nat) (v : Word) : (s.setHeld a v).flcOp = s.flcOp := by unfold State.setHeld; split <;> rfl
@[simp] theorem State.setHeld_jUntil (a : Nat) (v : Word) : (s.setHeld a v).jUntil = s.jUntil := by unfold State.setHeld; split <;> rfl
@[simp] theorem State.setHeld_torn (a : Nat) (v : Word) : (s.setHeld a v).torn = s.torn := by unfold State.setHeld; split <;> rfl
@[simp] theorem State.setHeld_ffUnits (a : Nat) (v : Word) : (s.setHeld a v).ffUnits = s.ffUnits := by unfold State.setHeld; split <;> rfl
@[simp] theorem State.setHeld_flcHalf (a : Nat) (v : Word) : (s.setHeld a v).flcHalf = s.flcHalf := by unfold State.setHeld; split <;> rfl
@[simp] theorem State.setHeld_flcRst (a : Nat) (v : Word) : (s.setHeld a v).flcRst = s.flcRst := by unfold State.setHeld; split <;> rfl
@[simp] theorem State.setHeld_bootStage (a : Nat) (v : Word) : (s.setHeld a v).bootStage = s.bootStage := by unfold State.setHeld; split <;> rfl
@[simp] theorem State.setHeld_cryJob (a : Nat) (v : Word) : (s.setHeld a v).cryJob = s.cryJob := by unfold State.setHeld; split <;> rfl
@[simp] theorem State.setHeld_cryWriter (a : Nat) (v : Word) : (s.setHeld a v).cryWriter = s.cryWriter := by unfold State.setHeld; split <;> rfl
@[simp] theorem State.setHeld_cryStage (a : Nat) (v : Word) : (s.setHeld a v).cryStage = s.cryStage := by unfold State.setHeld; split <;> rfl
@[simp] theorem State.setHeld_cryTodo (a : Nat) (v : Word) : (s.setHeld a v).cryTodo = s.cryTodo := by unfold State.setHeld; split <;> rfl
@[simp] theorem State.setHeld_crySlot (a : Nat) (v : Word) : (s.setHeld a v).crySlot = s.crySlot := by unfold State.setHeld; split <;> rfl
@[simp] theorem State.setHeld_otpKeys (a : Nat) (v : Word) : (s.setHeld a v).otpKeys = s.otpKeys := by unfold State.setHeld; split <;> rfl
@[simp] theorem State.setHeld_settings (a : Nat) (v : Word) : (s.setHeld a v).settings = s.settings := by unfold State.setHeld; split <;> rfl
@[simp] theorem State.setHeld_rstWait (a : Nat) (v : Word) : (s.setHeld a v).rstWait = s.rstWait := by unfold State.setHeld; split <;> rfl
@[simp] theorem State.setHeld_mainsOn (a : Nat) (v : Word) : (s.setHeld a v).mainsOn = s.mainsOn := by unfold State.setHeld; split <;> rfl
@[simp] theorem State.setHeld_offHold (a : Nat) (v : Word) : (s.setHeld a v).offHold = s.offHold := by unfold State.setHeld; split <;> rfl
@[simp] theorem State.setHeld_dormAt (a : Nat) (v : Word) : (s.setHeld a v).dormAt = s.dormAt := by unfold State.setHeld; split <;> rfl
@[simp] theorem State.setHeld_fromShutdown (a : Nat) (v : Word) : (s.setHeld a v).fromShutdown = s.fromShutdown := by unfold State.setHeld; split <;> rfl
@[simp] theorem State.setHeld_aonFrac (a : Nat) (v : Word) : (s.setHeld a v).aonFrac = s.aonFrac := by unfold State.setHeld; split <;> rfl
@[simp] theorem State.setHeld_fabLatch (a : Nat) (v : Word) : (s.setHeld a v).fabLatch = s.fabLatch := by unfold State.setHeld; split <;> rfl
@[simp] theorem State.setHeld_bootAt (a : Nat) (v : Word) : (s.setHeld a v).bootAt = s.bootAt := by unfold State.setHeld; split <;> rfl
@[simp] theorem State.setHeld_calAt (a : Nat) (v : Word) : (s.setHeld a v).calAt = s.calAt := by unfold State.setHeld; split <;> rfl
@[simp] theorem State.setHeld_wakeAt (a : Nat) (v : Word) : (s.setHeld a v).wakeAt = s.wakeAt := by unfold State.setHeld; split <;> rfl
@[simp] theorem State.setHeld_lbist (a : Nat) (v : Word) : (s.setHeld a v).lbist = s.lbist := by unfold State.setHeld; split <;> rfl
@[simp] theorem State.setHeld_egress (a : Nat) (v : Word) : (s.setHeld a v).egress = s.egress := by unfold State.setHeld; split <;> rfl
@[simp] theorem State.setHeld_fabPorts (a : Nat) (v : Word) : (s.setHeld a v).fabPorts = s.fabPorts := by unfold State.setHeld; split <;> rfl
@[simp] theorem State.setHeld_sess (a : Nat) (v : Word) : (s.setHeld a v).sess = s.sess := by unfold State.setHeld; split <;> rfl
@[simp] theorem State.setHeld_farOps (a : Nat) (v : Word) : (s.setHeld a v).farOps = s.farOps := by unfold State.setHeld; split <;> rfl
@[simp] theorem State.setHeld_farTag (a : Nat) (v : Word) : (s.setHeld a v).farTag = s.farTag := by unfold State.setHeld; split <;> rfl
@[simp] theorem State.setHeld_fabSeq (a : Nat) (v : Word) : (s.setHeld a v).fabSeq = s.fabSeq := by unfold State.setHeld; split <;> rfl
@[simp] theorem State.setHeld_hostMac (a : Nat) (v : Word) : (s.setHeld a v).hostMac = s.hostMac := by unfold State.setHeld; split <;> rfl
@[simp] theorem State.setHeld_cycKey (a : Nat) (v : Word) : (s.setHeld a v).cycKey = s.cycKey := by unfold State.setHeld; split <;> rfl
@[simp] theorem State.setHeld_cycKeyNext (a : Nat) (v : Word) : (s.setHeld a v).cycKeyNext = s.cycKeyNext := by unfold State.setHeld; split <;> rfl
@[simp] theorem State.setHeld_cycBuf (a : Nat) (v : Word) : (s.setHeld a v).cycBuf = s.cycBuf := by unfold State.setHeld; split <;> rfl
@[simp] theorem State.setHeld_cycBufNo (a : Nat) (v : Word) : (s.setHeld a v).cycBufNo = s.cycBufNo := by unfold State.setHeld; split <;> rfl
@[simp] theorem State.setHeld_cycOld (a : Nat) (v : Word) : (s.setHeld a v).cycOld = s.cycOld := by unfold State.setHeld; split <;> rfl
@[simp] theorem State.setHeld_cycOldNo (a : Nat) (v : Word) : (s.setHeld a v).cycOldNo = s.cycOldNo := by unfold State.setHeld; split <;> rfl
@[simp] theorem State.setHeld_snapAt (a : Nat) (v : Word) : (s.setHeld a v).snapAt = s.snapAt := by unfold State.setHeld; split <;> rfl
@[simp] theorem State.setHeld_cycGot (a : Nat) (v : Word) : (s.setHeld a v).cycGot = s.cycGot := by unfold State.setHeld; split <;> rfl
@[simp] theorem State.setHeld_cycOpen (a : Nat) (v : Word) : (s.setHeld a v).cycOpen = s.cycOpen := by unfold State.setHeld; split <;> rfl
@[simp] theorem State.setHeld_cycAt (a : Nat) (v : Word) : (s.setHeld a v).cycAt = s.cycAt := by unfold State.setHeld; split <;> rfl
@[simp] theorem State.setHeld_heldCyc (a : Nat) (v : Word) : (s.setHeld a v).heldCyc = s.heldCyc := by unfold State.setHeld; split <;> rfl
@[simp] theorem State.setHeld_fabOfs (a : Nat) (v : Word) : (s.setHeld a v).fabOfs = s.fabOfs := by unfold State.setHeld; split <;> rfl
@[simp] theorem State.setHeld_syncSeen (a : Nat) (v : Word) : (s.setHeld a v).syncSeen = s.syncSeen := by unfold State.setHeld; split <;> rfl
@[simp] theorem State.setHeld_timeSet (a : Nat) (v : Word) : (s.setHeld a v).timeSet = s.timeSet := by unfold State.setHeld; split <;> rfl
@[simp] theorem State.setHeld_ofsBad (a : Nat) (v : Word) : (s.setHeld a v).ofsBad = s.ofsBad := by unfold State.setHeld; split <;> rfl
@[simp] theorem State.setHeld_dropNo (a : Nat) (v : Word) : (s.setHeld a v).dropNo = s.dropNo := by unfold State.setHeld; split <;> rfl
@[simp] theorem State.setHeld_attestWait (a : Nat) (v : Word) : (s.setHeld a v).attestWait = s.attestWait := by unfold State.setHeld; split <;> rfl
@[simp] theorem State.setHeld_dioExt (a : Nat) (v : Word) : (s.setHeld a v).dioExt = s.dioExt := by unfold State.setHeld; split <;> rfl
@[simp] theorem State.setHeld_padOut (a : Nat) (v : Word) : (s.setHeld a v).padOut = s.padOut := by unfold State.setHeld; split <;> rfl
@[simp] theorem State.setHeld_authDraw (a : Nat) (v : Word) : (s.setHeld a v).authDraw = s.authDraw := by unfold State.setHeld; split <;> rfl
@[simp] theorem State.setHeld_authSig (a : Nat) (v : Word) : (s.setHeld a v).authSig = s.authSig := by unfold State.setHeld; split <;> rfl
@[simp] theorem State.setHeld_authKey (a : Nat) (v : Word) : (s.setHeld a v).authKey = s.authKey := by unfold State.setHeld; split <;> rfl
@[simp] theorem State.setHeld_tapIr (a : Nat) (v : Word) : (s.setHeld a v).tapIr = s.tapIr := by unfold State.setHeld; split <;> rfl
@[simp] theorem State.setHeld_tapData (a : Nat) (v : Word) : (s.setHeld a v).tapData = s.tapData := by unfold State.setHeld; split <;> rfl
@[simp] theorem State.setHeld_tapStat (a : Nat) (v : Word) : (s.setHeld a v).tapStat = s.tapStat := by unfold State.setHeld; split <;> rfl
@[simp] theorem State.setHeld_tapWord (a : Nat) (v : Word) : (s.setHeld a v).tapWord = s.tapWord := by unfold State.setHeld; split <;> rfl
@[simp] theorem State.setHeld_boundary (a : Nat) (v : Word) : (s.setHeld a v).boundary = s.boundary := by unfold State.setHeld; split <;> rfl
@[simp] theorem State.setHeld_icuEdges (a : Nat) (v : Word) : (s.setHeld a v).icuEdges = s.icuEdges := by unfold State.setHeld; split <;> rfl
@[simp] theorem State.setHeld_expAt (a : Nat) (v : Word) : (s.setHeld a v).expAt = s.expAt := by unfold State.setHeld; split <;> rfl
@[simp] theorem State.setHeld_flcDone (a : Nat) (v : Word) : (s.setHeld a v).flcDone = s.flcDone := by unfold State.setHeld; split <;> rfl
@[simp] theorem State.setHeld_flcGoAt (a : Nat) (v : Word) : (s.setHeld a v).flcGoAt = s.flcGoAt := by unfold State.setHeld; split <;> rfl
@[simp] theorem State.setHeld_txHold (a : Nat) (v : Word) : (s.setHeld a v).txHold = s.txHold := by unfold State.setHeld; split <;> rfl
@[simp] theorem State.setHeld_cycBad (a : Nat) (v : Word) : (s.setHeld a v).cycBad = s.cycBad := by unfold State.setHeld; split <;> rfl
@[simp] theorem State.setHeld_ackWas (a : Nat) (v : Word) : (s.setHeld a v).ackWas = s.ackWas := by unfold State.setHeld; split <;> rfl
@[simp] theorem State.setHeld_rxWas (a : Nat) (v : Word) : (s.setHeld a v).rxWas = s.rxWas := by unfold State.setHeld; split <;> rfl
@[simp] theorem State.fresh_pending : s.fresh.2.pending = s.pending := rfl
@[simp] theorem State.fresh_alarms : s.fresh.2.alarms = s.alarms := rfl
@[simp] theorem State.fresh_now : s.fresh.2.now = s.now := rfl
@[simp] theorem State.fresh_regs : s.fresh.2.regs = s.regs := rfl
@[simp] theorem State.fresh_held : s.fresh.2.held = s.held := rfl
@[simp] theorem State.fresh_heldNew : s.fresh.2.heldNew = s.heldNew := rfl
@[simp] theorem State.fresh_heldAt : s.fresh.2.heldAt = s.heldAt := rfl
@[simp] theorem State.fresh_bistRunning : s.fresh.2.bistRunning = s.bistRunning := rfl
@[simp] theorem State.fresh_mem : s.fresh.2.mem = s.mem := rfl
@[simp] theorem State.fresh_eccSoft : s.fresh.2.eccSoft = s.eccSoft := rfl
@[simp] theorem State.fresh_eccHard : s.fresh.2.eccHard = s.eccHard := rfl
@[simp] theorem State.fresh_rdata : s.fresh.2.rdata = s.rdata := rfl
@[simp] theorem State.fresh_timers : s.fresh.2.timers = s.timers := rfl
@[simp] theorem State.fresh_cores : s.fresh.2.cores = s.cores := rfl
@[simp] theorem State.fresh_axes : s.fresh.2.axes = s.axes := rfl
@[simp] theorem State.fresh_phases : s.fresh.2.phases = s.phases := rfl
@[simp] theorem State.fresh_comps : s.fresh.2.comps = s.comps := rfl
@[simp] theorem State.fresh_evrLast : s.fresh.2.evrLast = s.evrLast := rfl
@[simp] theorem State.fresh_evrArr : s.fresh.2.evrArr = s.evrArr := rfl
@[simp] theorem State.fresh_evrSoft : s.fresh.2.evrSoft = s.evrSoft := rfl
@[simp] theorem State.fresh_evrOld : s.fresh.2.evrOld = s.evrOld := rfl
@[simp] theorem State.fresh_evrOldAt : s.fresh.2.evrOldAt = s.evrOldAt := rfl
@[simp] theorem State.fresh_wakeLatch : s.fresh.2.wakeLatch = s.wakeLatch := rfl
@[simp] theorem State.fresh_ssFromRun : s.fresh.2.ssFromRun = s.ssFromRun := rfl
@[simp] theorem State.fresh_lanes : s.fresh.2.lanes = s.lanes := rfl
@[simp] theorem State.fresh_learn : s.fresh.2.learn = s.learn := rfl
@[simp] theorem State.fresh_tickAt : s.fresh.2.tickAt = s.tickAt := rfl
@[simp] theorem State.fresh_tblWr : s.fresh.2.tblWr = s.tblWr := rfl
@[simp] theorem State.fresh_tblSeal : s.fresh.2.tblSeal = s.tblSeal := rfl
@[simp] theorem State.fresh_ssCauses : s.fresh.2.ssCauses = s.ssCauses := rfl
@[simp] theorem State.fresh_stoForce : s.fresh.2.stoForce = s.stoForce := rfl
@[simp] theorem State.fresh_brkWait : s.fresh.2.brkWait = s.brkWait := rfl
@[simp] theorem State.fresh_windows : s.fresh.2.windows = s.windows := rfl
@[simp] theorem State.fresh_ports : s.fresh.2.ports = s.ports := rfl
@[simp] theorem State.fresh_rxs : s.fresh.2.rxs = s.rxs := rfl
@[simp] theorem State.fresh_emus : s.fresh.2.emus = s.emus := rfl
@[simp] theorem State.fresh_quads : s.fresh.2.quads = s.quads := rfl
@[simp] theorem State.fresh_latches : s.fresh.2.latches = s.latches := rfl
@[simp] theorem State.fresh_epochs : s.fresh.2.epochs = s.epochs := rfl
@[simp] theorem State.fresh_epoch : s.fresh.2.epoch = s.epoch := rfl
@[simp] theorem State.fresh_nsPhase : s.fresh.2.nsPhase = s.nsPhase := rfl
@[simp] theorem State.fresh_auxOn : s.fresh.2.auxOn = s.auxOn := rfl
@[simp] theorem State.fresh_auxAt : s.fresh.2.auxAt = s.auxAt := rfl
@[simp] theorem State.fresh_beat : s.fresh.2.beat = s.beat := rfl
@[simp] theorem State.fresh_clocked : s.fresh.2.clocked = s.clocked := rfl
@[simp] theorem State.fresh_bulkOk : s.fresh.2.bulkOk = s.bulkOk := rfl
@[simp] theorem State.fresh_lineGood : s.fresh.2.lineGood = s.lineGood := rfl
@[simp] theorem State.fresh_lg : s.fresh.2.lg = s.lg := rfl
@[simp] theorem State.fresh_stoIn : s.fresh.2.stoIn = s.stoIn := rfl
@[simp] theorem State.fresh_mwdtSecond : s.fresh.2.mwdtSecond = s.mwdtSecond := rfl
@[simp] theorem State.fresh_cwdLen : s.fresh.2.cwdLen = s.cwdLen := rfl
@[simp] theorem State.fresh_dmaBuf : s.fresh.2.dmaBuf = s.dmaBuf := rfl
@[simp] theorem State.fresh_dmaRd : s.fresh.2.dmaRd = s.dmaRd := rfl
@[simp] theorem State.fresh_dramUntil : s.fresh.2.dramUntil = s.dramUntil := rfl
@[simp] theorem State.fresh_flcQueue : s.fresh.2.flcQueue = s.flcQueue := rfl
@[simp] theorem State.fresh_flcOp : s.fresh.2.flcOp = s.flcOp := rfl
@[simp] theorem State.fresh_jUntil : s.fresh.2.jUntil = s.jUntil := rfl
@[simp] theorem State.fresh_torn : s.fresh.2.torn = s.torn := rfl
@[simp] theorem State.fresh_ffUnits : s.fresh.2.ffUnits = s.ffUnits := rfl
@[simp] theorem State.fresh_flcHalf : s.fresh.2.flcHalf = s.flcHalf := rfl
@[simp] theorem State.fresh_flcRst : s.fresh.2.flcRst = s.flcRst := rfl
@[simp] theorem State.fresh_bootStage : s.fresh.2.bootStage = s.bootStage := rfl
@[simp] theorem State.fresh_cryJob : s.fresh.2.cryJob = s.cryJob := rfl
@[simp] theorem State.fresh_cryWriter : s.fresh.2.cryWriter = s.cryWriter := rfl
@[simp] theorem State.fresh_cryStage : s.fresh.2.cryStage = s.cryStage := rfl
@[simp] theorem State.fresh_cryTodo : s.fresh.2.cryTodo = s.cryTodo := rfl
@[simp] theorem State.fresh_crySlot : s.fresh.2.crySlot = s.crySlot := rfl
@[simp] theorem State.fresh_otpKeys : s.fresh.2.otpKeys = s.otpKeys := rfl
@[simp] theorem State.fresh_settings : s.fresh.2.settings = s.settings := rfl
@[simp] theorem State.fresh_rstWait : s.fresh.2.rstWait = s.rstWait := rfl
@[simp] theorem State.fresh_mainsOn : s.fresh.2.mainsOn = s.mainsOn := rfl
@[simp] theorem State.fresh_offHold : s.fresh.2.offHold = s.offHold := rfl
@[simp] theorem State.fresh_dormAt : s.fresh.2.dormAt = s.dormAt := rfl
@[simp] theorem State.fresh_fromShutdown : s.fresh.2.fromShutdown = s.fromShutdown := rfl
@[simp] theorem State.fresh_aonFrac : s.fresh.2.aonFrac = s.aonFrac := rfl
@[simp] theorem State.fresh_fabLatch : s.fresh.2.fabLatch = s.fabLatch := rfl
@[simp] theorem State.fresh_bootAt : s.fresh.2.bootAt = s.bootAt := rfl
@[simp] theorem State.fresh_calAt : s.fresh.2.calAt = s.calAt := rfl
@[simp] theorem State.fresh_wakeAt : s.fresh.2.wakeAt = s.wakeAt := rfl
@[simp] theorem State.fresh_lbist : s.fresh.2.lbist = s.lbist := rfl
@[simp] theorem State.fresh_egress : s.fresh.2.egress = s.egress := rfl
@[simp] theorem State.fresh_fabPorts : s.fresh.2.fabPorts = s.fabPorts := rfl
@[simp] theorem State.fresh_sess : s.fresh.2.sess = s.sess := rfl
@[simp] theorem State.fresh_farOps : s.fresh.2.farOps = s.farOps := rfl
@[simp] theorem State.fresh_farTag : s.fresh.2.farTag = s.farTag := rfl
@[simp] theorem State.fresh_fabSeq : s.fresh.2.fabSeq = s.fabSeq := rfl
@[simp] theorem State.fresh_hostMac : s.fresh.2.hostMac = s.hostMac := rfl
@[simp] theorem State.fresh_cycKey : s.fresh.2.cycKey = s.cycKey := rfl
@[simp] theorem State.fresh_cycKeyNext : s.fresh.2.cycKeyNext = s.cycKeyNext := rfl
@[simp] theorem State.fresh_cycBuf : s.fresh.2.cycBuf = s.cycBuf := rfl
@[simp] theorem State.fresh_cycBufNo : s.fresh.2.cycBufNo = s.cycBufNo := rfl
@[simp] theorem State.fresh_cycOld : s.fresh.2.cycOld = s.cycOld := rfl
@[simp] theorem State.fresh_cycOldNo : s.fresh.2.cycOldNo = s.cycOldNo := rfl
@[simp] theorem State.fresh_snapAt : s.fresh.2.snapAt = s.snapAt := rfl
@[simp] theorem State.fresh_cycGot : s.fresh.2.cycGot = s.cycGot := rfl
@[simp] theorem State.fresh_cycOpen : s.fresh.2.cycOpen = s.cycOpen := rfl
@[simp] theorem State.fresh_cycAt : s.fresh.2.cycAt = s.cycAt := rfl
@[simp] theorem State.fresh_heldCyc : s.fresh.2.heldCyc = s.heldCyc := rfl
@[simp] theorem State.fresh_fabOfs : s.fresh.2.fabOfs = s.fabOfs := rfl
@[simp] theorem State.fresh_syncSeen : s.fresh.2.syncSeen = s.syncSeen := rfl
@[simp] theorem State.fresh_timeSet : s.fresh.2.timeSet = s.timeSet := rfl
@[simp] theorem State.fresh_ofsBad : s.fresh.2.ofsBad = s.ofsBad := rfl
@[simp] theorem State.fresh_dropNo : s.fresh.2.dropNo = s.dropNo := rfl
@[simp] theorem State.fresh_attestWait : s.fresh.2.attestWait = s.attestWait := rfl
@[simp] theorem State.fresh_dioExt : s.fresh.2.dioExt = s.dioExt := rfl
@[simp] theorem State.fresh_padOut : s.fresh.2.padOut = s.padOut := rfl
@[simp] theorem State.fresh_authDraw : s.fresh.2.authDraw = s.authDraw := rfl
@[simp] theorem State.fresh_authSig : s.fresh.2.authSig = s.authSig := rfl
@[simp] theorem State.fresh_authKey : s.fresh.2.authKey = s.authKey := rfl
@[simp] theorem State.fresh_tapIr : s.fresh.2.tapIr = s.tapIr := rfl
@[simp] theorem State.fresh_tapData : s.fresh.2.tapData = s.tapData := rfl
@[simp] theorem State.fresh_tapStat : s.fresh.2.tapStat = s.tapStat := rfl
@[simp] theorem State.fresh_tapWord : s.fresh.2.tapWord = s.tapWord := rfl
@[simp] theorem State.fresh_boundary : s.fresh.2.boundary = s.boundary := rfl
@[simp] theorem State.fresh_icuEdges : s.fresh.2.icuEdges = s.icuEdges := rfl
@[simp] theorem State.fresh_expAt : s.fresh.2.expAt = s.expAt := rfl
@[simp] theorem State.fresh_flcDone : s.fresh.2.flcDone = s.flcDone := rfl
@[simp] theorem State.fresh_flcGoAt : s.fresh.2.flcGoAt = s.flcGoAt := rfl
@[simp] theorem State.fresh_txHold : s.fresh.2.txHold = s.txHold := rfl
@[simp] theorem State.fresh_cycBad : s.fresh.2.cycBad = s.cycBad := rfl
@[simp] theorem State.fresh_ackWas : s.fresh.2.ackWas = s.ackWas := rfl
@[simp] theorem State.fresh_rxWas : s.fresh.2.rxWas = s.rxWas := rfl

end Sys2Proof.Machine
end

