-- ==== Sys2Proof/Laws/Tab.lean ====
section
/-! SUPPORT. Laws of sparse tables: what a write reads back as, what it leaves, and that every operation keeps the canonical
form. -/
namespace Sys2Proof.Machine

variable {α : Type}

@[simp] theorem Tab.find_nil (k : Nat) : Tab.find ([] : Tab α) k = none := rfl

@[simp] theorem Tab.get_nil (d : α) (k : Nat) : Tab.get d ([] : Tab α) k = d := rfl

/-- A deleted key is not listed. -/
@[simp] theorem Tab.find_del_self (t : Tab α) (k : Nat) : Tab.find (Tab.del t k) k = none := by
  induction t with
  | nil => rfl
  | cons p t ih =>
    obtain ⟨j, v⟩ := p
    by_cases h : j = k <;> simp [Tab.del, Tab.find, h, ih]

/-- A deletion leaves every other key. -/
theorem Tab.find_del_ne (t : Tab α) {k j : Nat} (h : j ≠ k) : Tab.find (Tab.del t k) j = Tab.find t j := by
  induction t with
  | nil => rfl
  | cons p t ih =>
    obtain ⟨i, v⟩ := p
    by_cases hi : i = k
    · subst hi
      simp [Tab.del, Tab.find, ih, Ne.symm h]
    · by_cases hj : i = j
      · subst hj
        simp [Tab.del, Tab.find, hi]
      · simp [Tab.del, Tab.find, hi, hj, ih]

/-- A listed key reads as listed. -/
@[simp] theorem Tab.find_put_self (t : Tab α) (k : Nat) (v : α) : Tab.find (Tab.put t k v) k = some v := by
  induction t with
  | nil => simp [Tab.put, Tab.find]
  | cons p t ih =>
    obtain ⟨i, w⟩ := p
    by_cases h1 : k < i
    · simp [Tab.put, Tab.find, h1]
    · by_cases h2 : k = i
      · simp [Tab.put, Tab.find, h2]
      · simp [Tab.put, Tab.find, h1, h2, Ne.symm h2, ih]

/-- Listing a key leaves every other key. -/
theorem Tab.find_put_ne (t : Tab α) {k j : Nat} (v : α) (h : j ≠ k) : Tab.find (Tab.put t k v) j = Tab.find t j := by
  induction t with
  | nil => simp [Tab.put, Tab.find, Ne.symm h]
  | cons p t ih =>
    obtain ⟨i, w⟩ := p
    by_cases h1 : k < i
    · simp [Tab.put, Tab.find, h1, Ne.symm h]
    · by_cases h2 : k = i
      · subst h2
        simp [Tab.put, Tab.find, Ne.symm h]
      · by_cases h3 : i = j
        · subst h3
          simp [Tab.put, Tab.find, h1, h2]
        · simp [Tab.put, Tab.find, h1, h2, h3, ih]

/-- A written key reads as the value written. -/
@[simp] theorem Tab.get_set_self [DecidableEq α] (d : α) (t : Tab α) (k : Nat) (v : α) : Tab.get d (Tab.set d t k v) k = v := by
  by_cases h : v = d <;> simp [Tab.set, Tab.get, h]

/-- A write leaves every other key. -/
theorem Tab.get_set_ne [DecidableEq α] (d e : α) (t : Tab α) {k j : Nat} (v : α) (h : j ≠ k) :
    Tab.get d (Tab.set e t k v) j = Tab.get d t j := by
  by_cases hv : v = e <;> simp [Tab.set, Tab.get, hv, Tab.find_del_ne t h, Tab.find_put_ne t v h]

/-- What a write leaves listed at another key. -/
theorem Tab.find_set_ne [DecidableEq α] (e : α) (t : Tab α) {k j : Nat} (v : α) (h : j ≠ k) :
    Tab.find (Tab.set e t k v) j = Tab.find t j := by
  by_cases hv : v = e <;> simp [Tab.set, hv, Tab.find_del_ne t h, Tab.find_put_ne t v h]

/-! ### The canonical form -/

/-- The canonical form, said entry by entry. -/
theorem Tab.wf_iff [DecidableEq α] (d : Nat → α) (t : Tab α) :
    Tab.wf d t = true ↔ t.Pairwise (fun p q => p.1 < q.1) ∧ ∀ p ∈ t, p.2 ≠ d p.1 := by
  induction t with
  | nil => simp [Tab.wf]
  | cons p t ih =>
    obtain ⟨k, v⟩ := p
    cases t with
    | nil => simp [Tab.wf]
    | cons q t =>
      obtain ⟨j, w⟩ := q
      have e : Tab.wf d ((k, v) :: (j, w) :: t) = true
          ↔ (k < j ∧ v ≠ d k) ∧ Tab.wf d ((j, w) :: t) = true := by simp [Tab.wf]
      rw [e, ih]
      constructor
      · rintro ⟨⟨hk, hv⟩, hp, ha⟩
        refine ⟨List.pairwise_cons.2 ⟨?_, hp⟩, ?_⟩
        · intro q hq
          rcases List.mem_cons.1 hq with rfl | hq
          · exact hk
          · exact lt_trans hk ((List.pairwise_cons.1 hp).1 q hq)
        · intro q hq
          rcases List.mem_cons.1 hq with rfl | hq
          · exact hv
          · exact ha q hq
      · rintro ⟨hp, ha⟩
        have hp' := List.pairwise_cons.1 hp
        exact ⟨⟨hp'.1 (j, w) (by simp), ha (k, v) (by simp)⟩, hp'.2, fun q hq => ha q (by simp [hq])⟩

theorem Tab.mem_del {t : Tab α} {k : Nat} {p : Nat × α} (h : p ∈ Tab.del t k) : p ∈ t := by
  induction t with
  | nil => exact h
  | cons q t ih =>
    obtain ⟨i, w⟩ := q
    by_cases hi : i = k
    · simp only [Tab.del, hi, if_true] at h
      exact List.mem_cons_of_mem _ (ih h)
    · simp only [Tab.del, hi, if_false, List.mem_cons] at h
      rcases h with rfl | h
      · simp
      · exact List.mem_cons_of_mem _ (ih h)

theorem Tab.mem_put {t : Tab α} {k : Nat} {v : α} {p : Nat × α} (h : p ∈ Tab.put t k v) : p = (k, v) ∨ p ∈ t := by
  induction t with
  | nil => simpa [Tab.put] using h
  | cons q t ih =>
    obtain ⟨i, w⟩ := q
    by_cases h1 : k < i
    · simpa [Tab.put, h1] using h
    · by_cases h2 : k = i
      · subst h2
        simp only [Tab.put, lt_irrefl, if_false, if_true, List.mem_cons] at h
        rcases h with h | h
        · exact .inl h
        · exact .inr (by simp [h])
      · simp only [Tab.put, h1, h2, if_false, List.mem_cons] at h
        rcases h with rfl | h
        · exact .inr (by simp)
        · rcases ih h with h | h
          · exact .inl h
          · exact .inr (by simp [h])

/-- A deletion keeps the canonical form. -/
theorem Tab.wf_del [DecidableEq α] (d : Nat → α) (t : Tab α) (k : Nat) (h : Tab.wf d t = true) : Tab.wf d (Tab.del t k) = true := by
  rw [Tab.wf_iff] at h ⊢
  refine ⟨?_, fun p hp => h.2 p (Tab.mem_del hp)⟩
  have hp := h.1
  clear h
  induction t with
  | nil => exact hp
  | cons q t ih =>
    obtain ⟨i, w⟩ := q
    rw [List.pairwise_cons] at hp
    by_cases hi : i = k
    · simpa [Tab.del, hi] using ih hp.2
    · simp only [Tab.del, hi, if_false]
      exact List.pairwise_cons.2 ⟨fun p hq => hp.1 p (Tab.mem_del hq), ih hp.2⟩

/-- Listing a key with another value than its default keeps the canonical form. -/
theorem Tab.wf_put [DecidableEq α] (d : Nat → α) (t : Tab α) (k : Nat) (v : α) (hv : v ≠ d k) (h : Tab.wf d t = true) :
    Tab.wf d (Tab.put t k v) = true := by
  rw [Tab.wf_iff] at h ⊢
  refine ⟨?_, fun p hp => ?_⟩
  · have hp := h.1
    clear h
    induction t with
    | nil => simp [Tab.put]
    | cons q t ih =>
      obtain ⟨i, w⟩ := q
      rw [List.pairwise_cons] at hp
      by_cases h1 : k < i
      · simp only [Tab.put, h1, if_true]
        refine List.pairwise_cons.2 ⟨?_, List.pairwise_cons.2 hp⟩
        intro p hq
        rcases List.mem_cons.1 hq with rfl | hq
        · exact h1
        · exact lt_trans h1 (hp.1 p hq)
      · by_cases h2 : k = i
        · subst h2
          simp only [Tab.put, lt_irrefl, if_false, if_true]
          exact List.pairwise_cons.2 hp
        · simp only [Tab.put, h1, h2, if_false]
          refine List.pairwise_cons.2 ⟨?_, ih hp.2⟩
          intro p hq
          rcases Tab.mem_put hq with rfl | hq
          · show i < k
            omega
          · exact hp.1 p hq
  · rcases Tab.mem_put hp with rfl | hp
    · exact hv
    · exact h.2 p hp

/-- A write keeps the canonical form. -/
theorem Tab.wf_set [DecidableEq α] (d : Nat → α) (t : Tab α) (k : Nat) (v : α) (h : Tab.wf d t = true) :
    Tab.wf d (Tab.set (d k) t k v) = true := by
  by_cases hv : v = d k
  · simpa [Tab.set, hv] using Tab.wf_del d t k h
  · simpa [Tab.set, hv] using Tab.wf_put d t k v hv h

/-- Dropping entries keeps the canonical form. -/
theorem Tab.wf_filter [DecidableEq α] (d : Nat → α) (t : Tab α) (p : Nat × α → Bool) (h : Tab.wf d t = true) :
    Tab.wf d (t.filter p) = true := by
  rw [Tab.wf_iff] at h ⊢
  exact ⟨h.1.filter p, fun q hq => h.2 q (List.mem_of_mem_filter hq)⟩

end Sys2Proof.Machine
end

