-- ==== Sys2Proof/Laws/Ops.lean ====
section
/-! SUPPORT. Laws of the named operations: registers and fields read back as written and leave the others, alarms, the flags
that rise, and what latching an interrupt can do. -/
namespace Sys2Proof.Machine

/-! ### Bit fields -/

theorem maskW_getLsbD (n i : Nat) : (maskW n).getLsbD i = (decide (i < 48) && decide (i < n)) := by
  simp [maskW, BitVec.getLsbD_ofNat, Nat.testBit_two_pow_sub_one]

/-- A bit of a word with a field replaced. -/
theorem setBits_getLsbD (x : Word) (lo w v i : Nat) (hi : i < 48) :
    (setBits x lo w v).getLsbD i = if lo ≤ i ∧ i < lo + w then v.testBit (i - lo) else x.getLsbD i := by
  have e : i - lo < 48 := by omega
  simp only [setBits, BitVec.getLsbD_or, BitVec.getLsbD_and, BitVec.getLsbD_not, BitVec.getLsbD_shiftLeft, maskW_getLsbD,
    BitVec.getLsbD_ofNat]
  by_cases h1 : i < lo
  · simp [hi, h1, Nat.not_le.2 h1]
  · by_cases h2 : i < lo + w
    · have h3 : i - lo < w := by omega
      simp [hi, e, h1, h2, h3, Nat.not_lt.1 h1]
    · have h3 : ¬ i - lo < w := by omega
      simp [hi, h1, h2, h3]

/-- A bit of a field's value. -/
theorem getBits_testBit (x : Word) (lo w i : Nat) :
    (getBits x lo w).testBit i = (decide (i < w) && x.getLsbD (lo + i)) := by
  have : (getBits x lo w).testBit i = ((x >>> lo) &&& maskW w).getLsbD i := rfl
  rw [this]
  simp only [BitVec.getLsbD_and, BitVec.getLsbD_ushiftRight, maskW_getLsbD]
  by_cases h : i < 48
  · simp [h, Bool.and_comm]
  · have h3 : x.getLsbD (lo + i) = false := BitVec.getLsbD_of_ge x (lo + i) (by omega)
    simp [h3]

theorem getBits_lt (x : Word) (lo w : Nat) : getBits x lo w < 2 ^ w := by
  apply Nat.lt_pow_two_of_testBit
  intro i hi
  rw [getBits_testBit]
  simp [Nat.not_lt.2 hi]

/-- A field reads back as the low bits of what was put there. -/
theorem getBits_setBits (x : Word) (lo w v : Nat) (h : lo + w ≤ 48) : getBits (setBits x lo w v) lo w = v % 2 ^ w := by
  apply Nat.eq_of_testBit_eq
  intro i
  rw [getBits_testBit, Nat.testBit_mod_two_pow]
  by_cases hi : i < w
  · have : lo + i < 48 := by omega
    rw [setBits_getLsbD _ _ _ _ _ this]
    simp [hi]
  · simp [hi]

/-- A field whose bits lie apart is left alone. -/
theorem getBits_setBits_ne (x : Word) (lo w lo' w' v : Nat) (h : lo' + w' ≤ 48) (d : lo' + w' ≤ lo ∨ lo + w ≤ lo') :
    getBits (setBits x lo w v) lo' w' = getBits x lo' w' := by
  apply Nat.eq_of_testBit_eq
  intro i
  rw [getBits_testBit, getBits_testBit]
  by_cases hi : i < w'
  · have : lo' + i < 48 := by omega
    rw [setBits_getLsbD _ _ _ _ _ this]
    have : ¬ (lo ≤ lo' + i ∧ lo' + i < lo + w) := by omega
    simp [this]
  · simp [hi]

/-! ### Registers -/

/-- A register holds what was written. -/
@[simp] theorem State.reg_setReg_self (s : State) (a : Nat) (v : Word) : (s.setReg a v).reg a = v := by
  by_cases h : v = regReset a <;> simp [State.reg, State.setReg, Tab.set, h]

/-- A write of one register leaves the others. -/
theorem State.reg_setReg_ne (s : State) {a b : Nat} (v : Word) (h : b ≠ a) : (s.setReg a v).reg b = s.reg b := by
  simp [State.reg, State.setReg, Tab.find_set_ne _ _ _ h]

/-- A write of a field leaves the other registers. -/
theorem State.reg_wr_ne (s : State) (f : Fld) {b : Nat} (v : Nat) (h : b ≠ f.addr) : (s.wr f v).reg b = s.reg b :=
  State.reg_setReg_ne s _ h

/-- The register of a written field. -/
@[simp] theorem State.reg_wr_self (s : State) (f : Fld) (v : Nat) : (s.wr f v).reg f.addr = setBits (s.reg f.addr) f.lo f.w v :=
  State.reg_setReg_self s _ _

/-- A field holds the low bits of what was written. -/
theorem State.rd_wr_self (s : State) (f : Fld) (v : Nat) (h : f.lo + f.w ≤ 48) : (s.wr f v).rd f = v % 2 ^ f.w := by
  simp [State.rd, getBits_setBits _ _ _ _ h]

/-- Two fields lie apart: in other registers, or in other bits. -/
def Fld.apart (f g : Fld) : Prop := f.addr ≠ g.addr ∨ g.lo + g.w ≤ f.lo ∨ f.lo + f.w ≤ g.lo

/-- A write of a field leaves the fields that lie apart. -/
theorem State.rd_wr_ne (s : State) (f g : Fld) (v : Nat) (hg : g.lo + g.w ≤ 48) (h : Fld.apart f g) : (s.wr f v).rd g = s.rd g := by
  by_cases e : g.addr = f.addr
  · rcases h with h | h
    · exact absurd e.symm h
    · simp only [State.rd, e, State.reg_wr_self]
      exact getBits_setBits_ne _ _ _ _ _ _ hg h
  · simp [State.rd, State.reg_wr_ne s f v e]

/-- A flag is set after `on`. -/
theorem State.bit_on_self (s : State) (f : Fld) (h : f.lo + f.w ≤ 48) (hw : 0 < f.w) : (s.on f).bit f = true := by
  have : 1 % 2 ^ f.w = 1 := Nat.mod_eq_of_lt (Nat.one_lt_two_pow (by omega))
  simp [State.bit, State.on, State.rd_wr_self s f 1 h, this]

/-- A field is 0 after `off0`. -/
theorem State.bit_off0_self (s : State) (f : Fld) (h : f.lo + f.w ≤ 48) : (s.off0 f).bit f = false := by
  simp [State.bit, State.off0, State.rd_wr_self s f 0 h]

/-- A flag holds the value it was given. -/
theorem State.bit_wrb_self (s : State) (f : Fld) (b : Bool) (h : f.lo + f.w ≤ 48) (hw : 0 < f.w) : (s.wrb f b).bit f = b := by
  cases b
  · exact State.bit_off0_self s f h
  · exact State.bit_on_self s f h hw

/-- A write of a field leaves the flags that lie apart. -/
theorem State.bit_wr_ne (s : State) (f g : Fld) (v : Nat) (hg : g.lo + g.w ≤ 48) (h : Fld.apart f g) : (s.wr f v).bit g = s.bit g := by
  simp [State.bit, State.rd_wr_ne s f g v hg h]

/-- A field always reads below 2^w. -/
theorem State.rd_lt (s : State) (f : Fld) : s.rd f < 2 ^ f.w := getBits_lt _ _ _

/-- A write keeps the canonical form of the register space. -/
theorem State.wf_setReg (s : State) (a : Nat) (v : Word) (h : Tab.wf regReset s.regs = true) :
    Tab.wf regReset (s.setReg a v).regs = true := Tab.wf_set regReset s.regs a v h

/-! ### Alarms -/

/-- A cancelled event is not due. -/
@[simp] theorem State.due_cancel_self (s : State) (e : Instr) : (s.cancel e).due e = false := by
  simp [State.due, State.cancel]

theorem alarmInsert_any (p : Nat × Instr) (l : List (Nat × Instr)) (q : Nat × Instr → Bool) :
    (alarmInsert p l).any q = (q p || l.any q) := by
  induction l with
  | nil => simp [alarmInsert]
  | cons x l ih =>
    by_cases h : p.1 < x.1
    · simp [alarmInsert, h]
    · simp [alarmInsert, h, ih, Bool.or_left_comm]

/-- An event that was set is due. -/
@[simp] theorem State.due_after_self (s : State) (n : Nat) (e : Instr) : (s.after n e).due e = true := by
  simp [State.due, State.after, alarmInsert_any]

/-- Setting one event leaves the others. -/
theorem State.due_after_ne (s : State) (n : Nat) {e f : Instr} (h : f ≠ e) : (s.after n e).due f = s.due f := by
  have : ∀ l : List (Nat × Instr), (l.filter (fun p => p.2 != e)).any (fun p => p.2 == f) = l.any (fun p => p.2 == f) := by
    intro l
    induction l with
    | nil => rfl
    | cons x l ih =>
      by_cases hx : x.2 = e
      · simp [hx, ih, Ne.symm h]
      · simp [hx, ih]
  simp [State.due, State.after, State.cancel, alarmInsert_any, this, Ne.symm h]

/-! ### What leaves everything but the registers and the alarms alone -/

/-- `t` differs from `s` in registers, alarms and the interrupt edges noted for the cycle (R427) only. -/
def State.RegsOnly (s t : State) : Prop := t = { s with regs := t.regs, alarms := t.alarms, icuEdges := t.icuEdges }

theorem State.RegsOnly.refl (s : State) : s.RegsOnly s := rfl

theorem State.RegsOnly.trans {s t u : State} (h : s.RegsOnly t) (k : t.RegsOnly u) : s.RegsOnly u := by
  unfold State.RegsOnly at h k ⊢
  rw [k, h]

theorem State.RegsOnly.ite {s t u : State} {p : Prop} [Decidable p] (h : s.RegsOnly t) (k : s.RegsOnly u) :
    s.RegsOnly (if p then t else u) := by
  by_cases hp : p <;> simpa [hp]

theorem State.RegsOnly.setReg (s : State) (a : Nat) (v : Word) : s.RegsOnly (s.setReg a v) := rfl

theorem State.RegsOnly.wr (s : State) (f : Fld) (v : Nat) : s.RegsOnly (s.wr f v) := rfl

theorem State.RegsOnly.after (s : State) (n : Nat) (e : Instr) : s.RegsOnly (s.after n e) := rfl

theorem State.RegsOnly.cancel (s : State) (e : Instr) : s.RegsOnly (s.cancel e) := rfl

theorem State.RegsOnly.inc (s : State) (f : Fld) : s.RegsOnly (s.inc f) := .ite (.wr s f _) (.refl s)

theorem State.RegsOnly.upto (s : State) (n : Nat) (g : Nat → State → State) (h : ∀ i t, State.RegsOnly t (g i t)) :
    s.RegsOnly (s.upto n g) := by
  unfold State.upto
  generalize List.range n = l
  induction l generalizing s with
  | nil => exact .refl s
  | cons i l ih => exact (h i s).trans (ih (g i s))

theorem State.RegsOnly.noteEdge (s : State) (c src : Nat) : s.RegsOnly (s.noteEdge c src) := rfl

theorem State.RegsOnly.latchPend (s : State) (c src : Nat) : s.RegsOnly (s.latchPend c src) :=
  (State.RegsOnly.noteEdge s c src).trans (.ite (.inc _ _) (.wr _ _ _))

theorem State.RegsOnly.groupFire (s : State) (c g : Nat) : s.RegsOnly (s.groupFire c g) :=
  (State.RegsOnly.latchPend s c (480 + g)).trans ((State.RegsOnly.wr _ _ _).trans ((State.RegsOnly.wr _ _ _).trans (.cancel _ _)))

theorem State.RegsOnly.groupTimer (s : State) (c g : Nat) : s.RegsOnly (s.groupTimer c g) :=
  .ite (.refl s) ((State.RegsOnly.wr s _ _).trans (.after _ _ _))

theorem State.RegsOnly.groupCount (s : State) (c g : Nat) : s.RegsOnly (s.groupCount c g) :=
  (State.RegsOnly.wr s _ _).trans
    ((State.RegsOnly.ite (.groupTimer _ _ _) (.refl _)).trans (.ite (.groupFire _ _ _) (.refl _)))

/-- An interrupt edge changes registers, alarms and noted edges only. -/
theorem State.RegsOnly.edge (s : State) (c src : Nat) : s.RegsOnly (s.edge c src) :=
  .ite ((State.RegsOnly.latchPend s c src).trans (.ite (.groupCount _ _ _) (.refl _))) (.refl s)

theorem State.RegsOnly.irq (s : State) (src : Nat) : s.RegsOnly (s.irq src) := .upto s 4 _ (fun i t => .edge t i src)

theorem State.RegsOnly.irqS (s : State) (src : Nat) : s.RegsOnly (s.irqS src) := .edge s 4 src

theorem State.RegsOnly.spViol (s : State) (w : Writer) (a : Nat) : s.RegsOnly (s.spViol w a) :=
  (State.RegsOnly.inc s _).trans ((State.RegsOnly.wr _ _ _).trans ((State.RegsOnly.wr _ _ _).trans (.irqS _ _)))

/-- A plain register write changes registers, alarms and noted edges only. -/
theorem State.RegsOnly.plainWrite (s : State) (w : Writer) (a : Nat) (v : Word) : s.RegsOnly (s.plainWrite w a v) :=
  .ite ((State.RegsOnly.setReg s a _).trans (.spViol _ w a)) (.setReg s a _)

theorem State.RegsOnly.rise (s : State) (f g : Fld) (k src : Nat) : s.RegsOnly (s.rise f g k src) :=
  .ite (.refl s) (.ite ((State.RegsOnly.wr s f 1).trans (.irq _ _)) (.wr s f 1))

/-- What leaves all but registers, alarms and noted edges alone leaves the queue, the memory and the cores. -/
theorem State.RegsOnly.rest {s t : State} (h : s.RegsOnly t) :
    t.pending = s.pending ∧ t.mem = s.mem ∧ t.torn = s.torn ∧ t.cores = s.cores ∧ t.now = s.now ∧ t.beat = s.beat := by
  unfold State.RegsOnly at h
  rw [h]
  exact ⟨rfl, rfl, rfl, rfl, rfl, rfl⟩

end Sys2Proof.Machine
end

