-- ==== Sys2Proof/Laws/Memory.lean ====
section
/-! SUPPORT. Laws of the memory: bytes read back as written, a store leaves every other byte, and every operation on memory keeps
its canonical form. -/
namespace Sys2Proof.Machine

/-! ### Bytes -/

/-- A byte that no failed flash operation left undefined holds what was stored. -/
theorem State.byte_setByte_self (s : State) (a : Nat) (b : Byte) (h : s.tornAt a = none) : (s.setByte a b).byte a = b := by
  show (match s.tornAt a with
    | some d => Config.tornByte d a
    | none => Tab.get (memDefault a) (Tab.set (memDefault a) s.mem a b) a) = b
  rw [h]
  exact Tab.get_set_self _ _ _ _

/-- A store of one byte leaves the others. -/
theorem State.byte_setByte_ne (s : State) {a x : Nat} (b : Byte) (h : x ≠ a) : (s.setByte a b).byte x = s.byte x := by
  show (match s.tornAt x with
    | some d => Config.tornByte d x
    | none => Tab.get (memDefault x) (Tab.set (memDefault a) s.mem a b) x) = s.byte x
  rw [Tab.get_set_ne _ _ _ _ h]
  rfl

/-- Storing bytes changes the memory alone. -/
theorem State.setBytes_only (s : State) (a : Nat) (l : List Byte) : s.setBytes a l = { s with mem := (s.setBytes a l).mem } := by
  induction l generalizing s a with
  | nil => rfl
  | cons b t ih =>
    show (s.setByte a b).setBytes (a + 1) t = _
    rw [ih]
    rfl

@[simp] theorem State.setBytes_torn (s : State) (a : Nat) (l : List Byte) : (s.setBytes a l).torn = s.torn := by
  rw [State.setBytes_only]

@[simp] theorem State.setBytes_regs (s : State) (a : Nat) (l : List Byte) : (s.setBytes a l).regs = s.regs := by
  rw [State.setBytes_only]

@[simp] theorem State.setBytes_pending (s : State) (a : Nat) (l : List Byte) : (s.setBytes a l).pending = s.pending := by
  rw [State.setBytes_only]

/-- A store leaves every byte outside it. -/
theorem State.byte_setBytes_ne (s : State) (a : Nat) (l : List Byte) (x : Nat) (h : x < a ∨ a + l.length ≤ x) :
    (s.setBytes a l).byte x = s.byte x := by
  induction l generalizing s a with
  | nil => rfl
  | cons b t ih =>
    have hl : (b :: t).length = t.length + 1 := rfl
    show ((s.setByte a b).setBytes (a + 1) t).byte x = s.byte x
    rw [ih (s.setByte a b) (a + 1) (by omega), State.byte_setByte_ne s b (by omega)]

/-- A stored byte reads as stored. -/
theorem State.byte_setBytes (s : State) (a : Nat) (l : List Byte) (i : Nat) (h : i < l.length) (ht : s.tornAt (a + i) = none) :
    (s.setBytes a l).byte (a + i) = l[i] := by
  induction l generalizing s a i with
  | nil => simp at h
  | cons b t ih =>
    show ((s.setByte a b).setBytes (a + 1) t).byte (a + i) = _
    cases i with
    | zero =>
      rw [State.byte_setBytes_ne _ _ _ _ (by omega)]
      exact State.byte_setByte_self s a b ht
    | succ j =>
      have e : a + (j + 1) = a + 1 + j := by omega
      rw [e] at ht ⊢
      exact ih (s.setByte a b) (a + 1) j (by simpa using h) ht

/-- The bytes of a store read back. -/
theorem State.bytes_setBytes (s : State) (a : Nat) (l : List Byte) (ht : ∀ i < l.length, s.tornAt (a + i) = none) :
    (s.setBytes a l).bytes a l.length = l := by
  apply List.ext_getElem
  · simp [State.bytes]
  · intro i h1 h2
    simpa [State.bytes] using State.byte_setBytes s a l i h2 (ht i h2)

/-- Replacing error codes leaves every byte. -/
@[simp] theorem State.byte_eccWrite (s : State) (a n x : Nat) : (s.eccWrite a n).byte x = s.byte x := rfl

/-- What leaves all but registers and alarms alone leaves every byte. -/
theorem State.RegsOnly.byte {s t : State} (h : s.RegsOnly t) (x : Nat) : t.byte x = s.byte x := by
  unfold State.RegsOnly at h
  rw [h]
  rfl

/-! ### Little-endian words (R9) -/

@[simp] theorem leBytes_length (n v : Nat) : (leBytes n v).length = n := by
  induction n generalizing v with
  | zero => rfl
  | succ n ih => simp [leBytes, ih]

/-- The low bytes of a number read back as the number modulo their range. -/
theorem leNat_leBytes (n v : Nat) : leNat (leBytes n v) = v % 256 ^ n := by
  induction n generalizing v with
  | zero => simp [leBytes, leNat, Nat.mod_one]
  | succ n ih =>
    simp only [leBytes, leNat, ih, BitVec.toNat_ofNat]
    rw [show 2 ^ 8 = 256 from rfl, pow_succ, Nat.mul_comm (256 ^ n) 256, Nat.mod_mul]

/-! ### The canonical form -/

theorem Memory.wf_setByte (s : State) (a : Nat) (b : Byte) (h : Memory.wf s.mem) : Memory.wf (s.setByte a b).mem :=
  Tab.wf_set memDefault s.mem a b h

theorem Memory.wf_setBytes (s : State) (a : Nat) (l : List Byte) (h : Memory.wf s.mem) : Memory.wf (s.setBytes a l).mem := by
  induction l generalizing s a with
  | nil => exact h
  | cons b t ih => exact ih _ _ (Memory.wf_setByte s a b h)

theorem Memory.wf_store (s : State) (a n v : Nat) (h : Memory.wf s.mem) : Memory.wf (s.store a n v).mem :=
  Memory.wf_setBytes s a _ h

theorem Memory.wf_memStore (s : State) (a n v : Nat) (h : Memory.wf s.mem) : Memory.wf (s.memStore a n v).mem :=
  Memory.wf_store s a n v h

theorem Memory.wf_unitProgram (s : State) (u : Nat) (l : List Byte) (h : Memory.wf s.mem) :
    Memory.wf (s.unitProgram u l).mem := by
  unfold State.unitProgram
  split <;> exact Memory.wf_setBytes (s.tornCut u 32) u l h

theorem Memory.wf_sectorErase (s : State) (bank sec : Nat) (h : Memory.wf s.mem) : Memory.wf (s.sectorErase bank sec).mem :=
  Tab.wf_filter memDefault s.mem _ h

theorem State.tblFlag_regsOnly (s : State) (a k : Nat) : s.RegsOnly (s.tblFlag a k) :=
  .ite (.refl s) (.ite ((State.RegsOnly.wr s _ 1).trans (.irq _ _)) (.wr s _ 1))

/-- What leaves all but registers and alarms alone keeps the memory's canonical form. -/
theorem Memory.wf_regsOnly {s t : State} (k : s.RegsOnly t) (h : Memory.wf s.mem) : Memory.wf t.mem := by
  rw [k.rest.2.1]
  exact h

theorem State.resvStore_mem (s : State) (a n : Nat) : (s.resvStore a n).mem = s.mem := by
  have : ∀ (l : List Nat) (s : State), (l.foldl (fun s c => match (s.core c).resv with
      | some r => if r < a + n ∧ a < r + 16 then s.resvClear c else s
      | none => s) s).mem = s.mem := by
    intro l
    induction l with
    | nil => intro s; rfl
    | cons c l ih =>
      intro s
      rw [List.foldl_cons, ih]
      split
      · split <;> rfl
      · rfl
  exact this (List.range 5) s

/-- Clearing a page's TRAINED bit and the learning of an axis leaves the memory. -/
theorem State.off0_untrained_mem (u : State) (w : Tab (Nat × Nat)) (f : Fld) (a : Nat) :
    (({ u with tblWr := w }.off0 f).untrained a).mem = u.mem := by
  have h1 : ∀ v : State, (v.untrained a).mem = v.mem := fun v => by
    simp only [State.untrained, State.wrb, State.wr_mem]
  have h2 : ∀ v : State, (v.off0 f).mem = v.mem := fun v => rfl
  rw [h1, h2]

/-- Tables out of service take no store (R265). -/
theorem State.tableStore_dead (s : State) (a : Nat) (l : List Byte) (h : s.tablesLive = false) : s.tableStore a l = s := by
  unfold State.tableStore
  exact if_pos (by rw [h]; rfl)

/-- A store to an active page leaves the page and sets TBLSTAT.WR_ACTIVE (R251). -/
theorem State.tableStore_active (s : State) (a : Nat) (l : List Byte) (h : s.tablesLive = true)
    (h2 : s.pageActive (tableAxis a) (tablePg a) = true) : s.tableStore a l = s.tblFlag (tableAxis a) 6 := by
  unfold State.tableStore
  have : ¬ (!s.tablesLive) = true := by rw [h]; decide
  exact (if_neg this).trans (if_pos h2)

/-- The memory after a store to an inactive page. -/
theorem State.tableStore_mem (s : State) (a : Nat) (l : List Byte) (h : s.tablesLive = true)
    (h2 : ¬ s.pageActive (tableAxis a) (tablePg a) = true) : (s.tableStore a l).mem =
    (if s.sameAs (Tab.find s.tblSeal (4 * tableAxis a + tablePg a))
      then ((s.setBytes a l).eccWrite a l.length).tblFlag (tableAxis a) 7 else (s.setBytes a l).eccWrite a l.length).mem := by
  unfold State.tableStore
  have : ¬ (!s.tablesLive) = true := by rw [h]; decide
  rw [if_neg this, if_neg h2]
  exact State.off0_untrained_mem _ _ _ _

theorem Memory.wf_tableStore (s : State) (a : Nat) (l : List Byte) (h : Memory.wf s.mem) : Memory.wf (s.tableStore a l).mem := by
  have h1 : Memory.wf ((s.setBytes a l).eccWrite a l.length).mem := Memory.wf_setBytes s a l h
  cases c1 : s.tablesLive with
  | false =>
    rw [State.tableStore_dead s a l c1]
    exact h
  | true =>
    by_cases c2 : s.pageActive (tableAxis a) (tablePg a) = true
    · rw [State.tableStore_active s a l c1 c2]
      exact Memory.wf_regsOnly (State.tblFlag_regsOnly s _ 6) h
    · rw [State.tableStore_mem s a l c1 c2]
      split
      · exact Memory.wf_regsOnly (State.tblFlag_regsOnly _ _ 7) h1
      · exact h1

/-- A write to memory keeps the canonical form, part by part. -/
theorem Memory.wf_partWrite (s : State) (a : Nat) (l : List Byte) (h : Memory.wf s.mem) : Memory.wf (s.partWrite a l).mem := by
  unfold State.partWrite
  split
  · exact Memory.wf_tableStore s a l h
  · rw [State.resvStore_mem]
    exact Memory.wf_setBytes s a l h

/-- Keeping the codes of whole entries leaves the memory (R249). -/
@[simp] theorem State.entryCodes_mem (s : State) (a n : Nat) : (s.entryCodes a n).mem = s.mem := by
  unfold State.entryCodes
  split <;> rfl

/-- A write to memory keeps the canonical form. -/
theorem Memory.wf_memWrite (s : State) (w : Writer) (a : Nat) (l : List Byte) (h : Memory.wf s.mem) :
    Memory.wf (s.memWrite w a l).2.mem := by
  unfold State.memWrite
  split
  · simp only []
    split
    · exact Memory.wf_regsOnly (State.RegsOnly.spViol s w a) h
    · exact h
  · have : ∀ (ps : List (Nat × Nat)) (s : State), Memory.wf s.mem →
        Memory.wf (ps.foldl (fun s p => s.partWrite p.1 ((l.drop (p.1 - a)).take p.2)) s).mem := by
      intro ps
      induction ps with
      | nil => intro s h; exact h
      | cons p ps ih => intro s h; exact ih _ (Memory.wf_partWrite s _ _ h)
    simpa using this _ s h

end Sys2Proof.Machine
end

