-- ==== Sys2Proof/Laws/Frames.lean ====
section
/-! SUPPORT. Laws of frames: what changes registers of `p` alone and no byte of memory composes, and the shared operations
(interrupt edges, event firings, SP violations) each do so. -/
namespace Sys2Proof.Machine

/-- `t` differs from `s` in registers of `p` alone, memory apart from nothing. -/
def State.Quiet (p : Nat → Bool) (s t : State) : Prop := sameRegs p s t ∧ t.mem = s.mem ∧ t.torn = s.torn

theorem State.Quiet.refl (p : Nat → Bool) (s : State) : s.Quiet p s := ⟨fun _ _ => rfl, rfl, rfl⟩

theorem State.Quiet.trans {p : Nat → Bool} {s t u : State} (h : State.Quiet p s t) (k : State.Quiet p t u) : State.Quiet p s u :=
  ⟨fun a ha => (k.1 a ha).trans (h.1 a ha), k.2.1.trans h.2.1, k.2.2.trans h.2.2⟩

theorem State.Quiet.mono {p q : Nat → Bool} {s t : State} (h : State.Quiet p s t) (k : ∀ a, p a = true → q a = true) :
    State.Quiet q s t := by
  refine ⟨fun a ha => h.1 a ?_, h.2⟩
  cases hp : p a with
  | false => rfl
  | true => exact absurd (k a hp) (by simp [ha])

theorem State.Quiet.ite {p : Nat → Bool} {s t u : State} {c : Prop} [Decidable c] (h : State.Quiet p s t) (k : State.Quiet p s u) :
    State.Quiet p s (if c then t else u) := by
  by_cases hc : c
  · rw [if_pos hc]
    exact h
  · rw [if_neg hc]
    exact k

/-- A write of one register of `p`. -/
theorem State.Quiet.setReg {p : Nat → Bool} (s : State) (a : Nat) (v : Word) (h : p a = true) : State.Quiet p s (s.setReg a v) := by
  refine ⟨fun b hb => State.reg_setReg_ne s v ?_, rfl, rfl⟩
  intro e
  rw [e, h] at hb
  exact absurd hb (by decide)

/-- A write of one field of `p`. -/
theorem State.Quiet.wr {p : Nat → Bool} (s : State) (f : Fld) (v : Nat) (h : p f.addr = true) : State.Quiet p s (s.wr f v) :=
  .setReg s f.addr _ h

theorem State.Quiet.inc {p : Nat → Bool} (s : State) (f : Fld) (h : p f.addr = true) : State.Quiet p s (s.inc f) :=
  .ite (.wr s f _ h) (.refl p s)

theorem State.Quiet.upto {p : Nat → Bool} (s : State) (n : Nat) (g : Nat → State → State)
    (h : ∀ i < n, ∀ t, State.Quiet p t (g i t)) : State.Quiet p s (s.upto n g) := by
  have : ∀ (l : List Nat) (s : State), (∀ i ∈ l, i < n) → State.Quiet p s (l.foldl (fun s i => g i s) s) := by
    intro l
    induction l with
    | nil => intro s _; exact .refl p s
    | cons i l ih =>
      intro s hl
      exact (h i (hl i List.mem_cons_self) s).trans (ih (g i s) (fun j hj => hl j (List.mem_cons_of_mem i hj)))
  exact this (List.range n) s (fun i hi => List.mem_range.mp hi)

/-- What changes nothing but state outside the registers and the memory. -/
theorem State.Quiet.of_eq {s t : State} (p : Nat → Bool) (h : t.regs = s.regs) (m : t.mem = s.mem) (k : t.torn = s.torn) :
    State.Quiet p s t := ⟨fun a _ => by rw [State.reg, State.reg, h], m, k⟩

theorem State.Quiet.after (p : Nat → Bool) (s : State) (n : Nat) (e : Instr) : State.Quiet p s (s.after n e) := .of_eq p rfl rfl rfl

theorem State.Quiet.cancel (p : Nat → Bool) (s : State) (e : Instr) : State.Quiet p s (s.cancel e) := .of_eq p rfl rfl rfl

/-- No byte of memory changes. -/
theorem State.Quiet.sameMem {p : Nat → Bool} {s t : State} (h : State.Quiet p s t) : sameMem s t := by
  intro a
  have e : t.tornAt a = s.tornAt a := by
    unfold State.tornAt
    rw [h.2.2]
  unfold State.byte
  rw [e, h.2.1]

/-! ### Interrupts -/

theorem icuBase_reach {c o : Nat} (hc : c < 5) (ho : o < 0x1000) : icuReach (icuBase c + o) = true := by
  unfold icuReach icuBase
  split
  · have : (0x080C0000 + 0x1000 * c + o) / 0x10000 = 0x80C := by omega
    simp [this]
  · have h1 : 0x0C001000 ≤ 0x0C001000 + o := by omega
    have h2 : 0x0C001000 + o < 0x0C002000 := by omega
    simp [h1, h2]

theorem State.Quiet.noteEdge (s : State) (c src : Nat) : State.Quiet icuReach s (s.noteEdge c src) := .of_eq _ rfl rfl rfl

theorem State.Quiet.latchPend (s : State) {c src : Nat} (hc : c < 5) (hs : src < 512) : State.Quiet icuReach s (s.latchPend c src) :=
  (State.Quiet.noteEdge s c src).trans
    (.ite (.inc _ (F.ICU_MRGCNT_N c) (icuBase_reach hc (by decide)))
      (.wr _ (pendFld c src) 1 (show icuReach (icuBase c + 0x100 + 0x8 * (src / 32)) = true by
        rw [Nat.add_assoc]
        exact icuBase_reach hc (by omega))))

theorem State.Quiet.groupFire (s : State) {c g : Nat} (hc : c < 5) (hg : g < 32) : State.Quiet icuReach s (s.groupFire c g) := by
  have ha : icuReach (A.ICU_GRP c g) = true := by
    show icuReach (icuBase c + 0x800 + 0x8 * g) = true
    rw [Nat.add_assoc]
    exact icuBase_reach hc (by omega)
  exact (State.Quiet.latchPend s hc (by omega)).trans ((State.Quiet.wr _ _ _ ha).trans ((State.Quiet.wr _ _ _ ha).trans (.cancel _ _ _)))

theorem State.Quiet.groupCount (s : State) {c g : Nat} (hc : c < 5) (hg : g < 32) : State.Quiet icuReach s (s.groupCount c g) := by
  have ha : icuReach (A.ICU_GRP c g) = true := by
    show icuReach (icuBase c + 0x800 + 0x8 * g) = true
    rw [Nat.add_assoc]
    exact icuBase_reach hc (by omega)
  have h1 := State.Quiet.wr (p := icuReach) s (F.ICU_GRP_COUNT c g) (s.rd (F.ICU_GRP_COUNT c g) + 1) ha
  have h2 : ∀ t : State, State.Quiet icuReach t (t.groupTimer c g) :=
    fun t => .ite (.refl _ t) ((State.Quiet.wr t (F.ICU_GRP_RUN c g) 1 ha).trans (.after _ _ _ _))
  exact (h1.trans (.ite (h2 _) (.refl _ _))).trans (.ite (.groupFire _ hc hg) (.refl _ _))

theorem sourceExists_lt {c src : Nat} (h : sourceExists c src = true) : src < 512 := by
  unfold sourceExists at h
  split at h <;> simp at h <;> omega

/-- An interrupt edge changes registers of interrupt controllers alone. -/
theorem State.Quiet.edge (s : State) {c : Nat} (src : Nat) (hc : c < 5) : State.Quiet icuReach s (s.edge c src) := by
  unfold State.edge
  split
  · rename_i h
    have hs : src < 512 := by
      simp only [Bool.and_eq_true] at h
      exact sourceExists_lt h.1
    exact (State.Quiet.latchPend s hc hs).trans (.ite (.groupCount _ hc (State.rd_lt _ _)) (.refl _ _))
  · exact .refl _ _

theorem State.Quiet.irq (s : State) (src : Nat) : State.Quiet icuReach s (s.irq src) :=
  .upto s 4 _ (fun _ hi t => .edge t src (by omega))

theorem State.Quiet.irqS (s : State) (src : Nat) : State.Quiet icuReach s (s.irqS src) := .edge s src (by decide)

/-- A status bit of `p` that rises changes it and interrupt controllers. -/
theorem State.Quiet.rise {p : Nat → Bool} (s : State) (f g : Fld) (k src : Nat) (h : p f.addr = true)
    (hp : ∀ a, icuReach a = true → p a = true) : State.Quiet p s (s.rise f g k src) :=
  .ite (.refl p s) (.ite ((State.Quiet.wr s f 1 h).trans ((State.Quiet.irq _ src).mono hp)) (.wr s f 1 h))

/-- A refused SP write is recorded in SAF and raises its interrupt (R537). -/
theorem State.Quiet.spViol (s : State) (w : Writer) (a : Nat) : State.Quiet (blocksIcu [0xC00]) s (s.spViol w a) := by
  have h : ∀ x, icuReach x = true → blocksIcu [0xC00] x = true := fun x hx => by simp [blocksIcu, hx]
  exact (((State.Quiet.inc s F.SAF_VIOL_COUNT (by decide)).trans (.wr _ F.SAF_VIOL_ORIGIN _ (by decide))).trans
    (.wr _ F.SAF_VIOLADDR_ADDR _ (by decide))).trans ((State.Quiet.irqS _ 0).mono h)

/-- A plain register write changes its register, and after an SP violation the record of it. -/
theorem State.Quiet.plainWrite (s : State) (w : Writer) (a : Nat) (v : Word) :
    State.Quiet (fun x => x == a || blocksIcu [0xC00] x) s (s.plainWrite w a v) := by
  have h0 := State.Quiet.setReg (p := fun x => x == a || blocksIcu [0xC00] x) s a
    (rowWrite (isSafety w) (fieldsAt a) (s.reg a) v) (by simp)
  exact .ite (h0.trans ((State.Quiet.spViol _ w a).mono (fun x hx => by simp [hx]))) h0

/-! ### Events -/

/-- An address of the timers, the Caldera, event routing or AON is one that events reach. -/
theorem eventReach_block {a : Nat} (h : a / 0x10000 = 0x803 ∨ a / 0x10000 = 0x807 ∨ a / 0x10000 = 0x80A ∨ a / 0x10000 = 0x810) :
    eventReach a = true := by
  unfold eventReach
  rcases h with h | h | h | h <;> simp [h]

theorem eventReach_icu (a : Nat) (h : icuReach a = true) : eventReach a = true := by
  unfold icuReach at h
  unfold eventReach
  simp only [Bool.or_eq_true] at h ⊢
  rcases h with h | h
  · simp [h]
  · exact .inr h

theorem State.Quiet.irqEvent (s : State) (src : Nat) : State.Quiet eventReach s (s.irq src) :=
  (State.Quiet.irq s src).mono eventReach_icu

theorem State.Quiet.tmrStart (s : State) (m : Nat) : State.Quiet eventReach s (s.tmrStart m) :=
  .upto s 16 _ (fun _ _ t => .ite ((State.Quiet.wr t F.TMR_RUN_RUN _ (by decide)).trans (.of_eq _ rfl rfl rfl)) (.refl _ t))

theorem State.Quiet.gstartTask (s : State) : State.Quiet eventReach s s.gstartTask := .ite (.tmrStart s _) (.refl _ s)

theorem State.Quiet.setCapQ (s : State) {t : Nat} (k : Nat) (q : List Word) (ht : t < 16) (hk : k < 2) :
    State.Quiet eventReach s (s.setCapQ t k q) := by
  have h1 : eventReach (A.TMR_T_CAPINFO t k) = true := eventReach_block (.inl (by unfold A.TMR_T_CAPINFO; omega))
  have h2 : eventReach (A.TMR_T_FLAG t) = true := eventReach_block (.inl (by unfold A.TMR_T_FLAG; omega))
  have h3 : ∀ t' : State, State.Quiet eventReach t'
      (t'.wrb (if k = 0 then F.TMR_T_FLAG_CAPNE0 t else F.TMR_T_FLAG_CAPNE1 t) (!q.isEmpty)) := by
    intro t'
    exact .wr t' _ _ (by split <;> exact h2)
  exact ((State.Quiet.of_eq eventReach rfl rfl rfl : State.Quiet eventReach s
    (s.setTmr t (if k = 0 then { s.tmr t with q0 := q } else { s.tmr t with q1 := q }))).trans (.wr _ _ _ h1)).trans (h3 _)

theorem State.Quiet.setTmr (p : Nat → Bool) (s : State) (t : Nat) (x : Timer) : State.Quiet p s (s.setTmr t x) := .of_eq p rfl rfl rfl

theorem State.Quiet.capLost (s : State) {t : Nat} (k : Nat) (ht : t < 16) (hk : k < 2) : State.Quiet eventReach s (s.capLost t k) := by
  have h1 : eventReach (A.TMR_T_CAPINFO t k) = true := eventReach_block (.inl (by unfold A.TMR_T_CAPINFO; omega))
  have h2 : eventReach (A.TMR_T_FLAG t) = true := eventReach_block (.inl (by unfold A.TMR_T_FLAG; omega))
  exact (State.Quiet.inc s _ h1).trans (.rise _ _ _ _ _ (by split <;> exact h2) eventReach_icu)

theorem State.Quiet.capture (s : State) {t : Nat} (k : Nat) (ht : t < 16) (hk : k < 2) : State.Quiet eventReach s (s.capture t k) :=
  .ite (.refl _ s) (.ite
    (.ite (((State.Quiet.setCapQ s k _ ht hk).trans (.setTmr _ _ _ _)).trans (.ite (.irqEvent _ _) (.refl _ _)))
      (.setCapQ s k _ ht hk))
    (.ite (.setTmr _ s _ _) (.capLost s k ht hk)))

theorem State.Quiet.arrive (s : State) {t : Nat} (win : Nat) (act : State → State) (ht : t < 200)
    (h : ∀ u, State.Quiet eventReach u (act u)) : State.Quiet eventReach s (s.arrive t win act) :=
  .ite (.inc s _ (eventReach_block (.inr (.inr (.inl (by
      show (A.EVR_MRG (t / 6)) / 0x10000 = 0x80A
      unfold A.EVR_MRG
      omega))))))
    ((State.Quiet.of_eq eventReach rfl rfl rfl : State.Quiet eventReach s (s.noteArrival t)).trans (h _))

theorem State.Quiet.evrNote (s : State) (a : Nat) : State.Quiet eventReach s (s.evrNote a) := .of_eq _ rfl rfl rfl

theorem State.Quiet.groupTask (s : State) {g : Nat} (b : Bool) (hg : g < 100) : State.Quiet eventReach s (s.groupTask g b) := by
  have hset : ∀ (b : Bool) (u : State), State.Quiet eventReach u ((u.evrNote A.EVR_GRPEN).setBitAt F.EVR_GRPEN_EN g b) :=
    fun b u => (State.Quiet.evrNote u _).trans (.wr _ F.EVR_GRPEN_EN _ (by decide))
  exact .ite (.refl _ s) (.ite (.arrive s 6 _ (by omega) (fun u => .ite (.refl _ u) (hset true u)))
    (.arrive s 6 _ (by omega) (hset false)))

theorem State.Quiet.dioFollow (s : State) (k : Nat) : State.Quiet eventReach s (s.dioFollow k) := by
  exact .ite (.cancel _ _ _) (.after _ _ _ _)

theorem State.Quiet.dioTask (s : State) {k : Nat} (act : Nat) (hk : k < 16) : State.Quiet eventReach s (s.dioTask k act) := by
  have hset : ∀ (b : Bool) (u : State), State.Quiet eventReach u ((u.setBitAt F.AON_DIOOUT_OUT k b).dioFollow k) :=
    fun b u => (State.Quiet.wr u F.AON_DIOOUT_OUT _ (by decide)).trans (.dioFollow _ k)
  have hinc : State.Quiet eventReach s (s.inc (mrgFld (34 + 3 * k + 2))) :=
    .inc s _ (eventReach_block (.inr (.inr (.inl (by
      show (A.EVR_MRG ((34 + 3 * k + 2) / 6)) / 0x10000 = 0x80A
      unfold A.EVR_MRG
      omega)))))
  have hvoid : ∀ c : Bool, State.Quiet eventReach s (if c = true then s.inc (mrgFld (34 + 3 * k + 2)) else s) :=
    fun c => .ite hinc (.refl _ s)
  unfold State.dioTask
  refine .ite (.refl _ s) ?_
  simp only []
  split
  · exact (hvoid _).trans (.arrive _ 1 _ (by omega) (fun u => .ite (.refl _ u) (hset true u)))
  · exact (hvoid _).trans (.arrive _ 1 _ (by omega) (fun u => hset false u))
  · exact .ite hinc (.arrive s 1 _ (by omega) (fun u => hset _ u))
  · exact .refl _ s

theorem State.Quiet.commitRefuse (s : State) {a : Nat} (cause : Nat) (ha : a < 24) : State.Quiet eventReach s (s.commitRefuse a cause) := by
  have hb : eventReach (A.LE_AX_BSTAT a) = true := eventReach_block (.inr (.inl (by unfold A.LE_AX_BSTAT; omega)))
  have h1 := State.Quiet.wr (p := eventReach) s (F.LE_AX_BSTAT_PEND a) 0 hb
  have h2 : ∀ t : State, State.Quiet eventReach t (t.setBitAt F.LE_COMMIT_PEND_PEND a false) :=
    fun t => .wr t F.LE_COMMIT_PEND_PEND _ (by decide)
  have h3 : ∀ t : State, State.Quiet eventReach t ((t.on (F.LE_AX_BSTAT_REFUSED a)).wr (F.LE_AX_BSTAT_CAUSE a) cause) :=
    fun t => (State.Quiet.wr t (F.LE_AX_BSTAT_REFUSED a) 1 hb).trans (.wr _ (F.LE_AX_BSTAT_CAUSE a) cause hb)
  exact ((h1.trans (h2 _)).trans (h3 _)).trans (.irqEvent _ _)

theorem State.Quiet.setAxis (p : Nat → Bool) (s : State) (a : Nat) (x : Axis) : State.Quiet p s (s.setAxis a x) := .of_eq p rfl rfl rfl

theorem State.Quiet.commitAxis (s : State) {a : Nat} (cause : Nat) (ha : a < 24) : State.Quiet eventReach s (s.commitAxis a cause) := by
  have hb : eventReach (A.LE_AX_BSTAT a) = true := eventReach_block (.inr (.inl (by unfold A.LE_AX_BSTAT; omega)))
  have h1 : State.Quiet eventReach s
      (if s.sameAs (s.axis a).refAt = true then (s.off0 (F.LE_AX_BSTAT_REFUSED a)).wr (F.LE_AX_BSTAT_CAUSE a) 0 else s) :=
    .ite ((State.Quiet.wr s (F.LE_AX_BSTAT_REFUSED a) 0 hb).trans (.wr _ (F.LE_AX_BSTAT_CAUSE a) 0 hb)) (.refl _ s)
  have h2 : ∀ t : State, State.Quiet eventReach t (t.on (F.LE_AX_BSTAT_PEND a)) := fun t => .wr t (F.LE_AX_BSTAT_PEND a) 1 hb
  have h3 : ∀ t : State, State.Quiet eventReach t (t.setBitAt F.LE_COMMIT_PEND_PEND a true) :=
    fun t => .wr t F.LE_COMMIT_PEND_PEND _ (by decide)
  exact .ite (.ite (.refl _ s) (((h1.trans (h2 _)).trans (h3 _)).trans (.setAxis _ _ a _)))
    ((State.Quiet.commitRefuse s cause ha).trans (.setAxis _ _ a _))

theorem State.Quiet.commitRequest (s : State) (m : Nat) : State.Quiet eventReach s (s.commitRequest m) :=
  .upto s 24 _ (fun _ ha t => .ite (.commitAxis t _ ha) (.refl _ t))

theorem State.Quiet.commitTask (s : State) : State.Quiet eventReach s s.commitTask := .ite (.commitRequest s _) (.refl _ s)

theorem State.Quiet.wakeSet (s : State) (ch : Nat) : State.Quiet eventReach s (s.wakeSet ch) := by
  unfold State.wakeSet
  split
  · exact .refl _ s
  · exact .of_eq _ rfl rfl rfl

/-- An EVR setting as a firing uses it lies below 2^w. -/
theorem State.evrSet_lt (s : State) (f : Fld) : s.evrSet f < 2 ^ f.w := by
  unfold State.evrSet
  split
  · exact getBits_lt _ _ _
  · exact State.rd_lt _ _

theorem State.Quiet.evrDeliver (s : State) (ch : Nat) : State.Quiet eventReach s (s.evrDeliver ch) := by
  have e : ∀ (l : Nat) (t : State), State.Quiet eventReach t (t.upto 4 (fun k s => if l.testBit k then s.edge k (128 + ch) else s)) :=
    fun l t => .upto t 4 _ (fun k hk u => .ite ((State.Quiet.edge u (128 + ch) (by omega)).mono eventReach_icu) (.refl _ u))
  have ht : s.evrSet (F.EVR_CH_CFG_TGRP ch) < 100 := Nat.lt_trans (State.evrSet_lt _ _) (show 2 ^ 4 < 100 by decide)
  have r : ∀ t : State, State.Quiet eventReach t t := .refl _
  have h0 : State.Quiet eventReach s (if s.evrAonOnly then s else s.upto 4 (fun k u =>
      if (s.evrSet (F.EVR_CH_LINK_LINK ch)).testBit k then u.edge k (128 + ch) else u)) := .ite (r s) (e _ s)
  have h1 : ∀ t : State, State.Quiet eventReach t (if t.wakeHonoured && (s.evrSet (F.EVR_CH_LINK_LINK ch)).testBit 4 then t.wakeSet ch else t) :=
    fun t => .ite (.wakeSet t ch) (r t)
  have h2 : ∀ t : State, State.Quiet eventReach t
      (if !s.evrAonOnly && (s.evrSet (F.EVR_CH_LINK_LINK ch)).testBit 5 then t.arrive 0 1 State.gstartTask else t) :=
    fun t => .ite (.arrive t 1 _ (by decide) .gstartTask) (r t)
  have h3 : ∀ t : State, State.Quiet eventReach t
      (if !s.evrAonOnly && (s.evrSet (F.EVR_CH_LINK_LINK ch)).testBit 6 then t.arrive 1 1 State.commitTask else t) :=
    fun t => .ite (.arrive t 1 _ (by decide) .commitTask) (r t)
  have h4 : ∀ (t : State) (b : Bool) (k : Nat), State.Quiet eventReach t
      (if (s.evrSet (F.EVR_CH_LINK_LINK ch)).testBit k then t.groupTask (s.evrSet (F.EVR_CH_CFG_TGRP ch)) b else t) :=
    fun t b _ => .ite (.groupTask t b ht) (r t)
  have h5 : ∀ t : State, State.Quiet eventReach t (if !s.evrAonOnly && (s.evrSet (F.EVR_CH_LINK_LINK ch)).testBit 9
      then t.arrive (2 + 2 * (ch % 16) + (ch / 16) % 2) 1 (fun s => s.capture (ch % 16) ((ch / 16) % 2)) else t) :=
    fun t => .ite (.arrive t 1 _ (by omega) (fun u => .capture u _ (by omega) (by omega))) (r t)
  have h6 : ∀ t : State, State.Quiet eventReach t
      (if (s.evrSet (F.EVR_CH_LINK_LINK ch)).testBit 10 then t.dioTask (ch % 16) (s.evrSet (F.EVR_CH_CFG_DIOACT ch)) else t) :=
    fun t => .ite (.dioTask t _ (by omega)) (r t)
  unfold State.evrDeliver
  exact ((((((h0.trans (h1 _)).trans (h2 _)).trans (h3 _)).trans (h4 _ true 7)).trans (h4 _ false 8)).trans (h5 _)).trans (h6 _)

theorem State.Quiet.evrFireCh (s : State) {ch : Nat} (hc : ch < 96) : State.Quiet eventReach s (s.evrFireCh ch) := by
  have hb : eventReach (A.EVR_CH_STAT ch) = true := eventReach_block (.inr (.inr (.inl (by unfold A.EVR_CH_STAT; omega))))
  unfold State.evrFireCh
  split
  · exact .refl _ s
  · split
    · exact .inc s (F.EVR_CH_STAT_DROPCNT ch) hb
    · split
      · exact (State.Quiet.wr s (F.EVR_CH_STAT_LOOP ch) 1 hb).trans (.irqEvent _ 110)
      · have h1 : State.Quiet eventReach s (s.wr (F.EVR_CH_STAT_FIRECNT ch) (min 255 (s.fireCount ch + 1))) :=
          .wr s (F.EVR_CH_STAT_FIRECNT ch) _ hb
        have h2 : ∀ t : State, State.Quiet eventReach t
            (if !s.bit F.TICK_STATUS_RUNNING && !s.due .evrWindowExpire then t.after 732422 .evrWindowExpire else t) :=
          fun t => .ite (.after _ t _ _) (.refl _ t)
        have h3 : ∀ t : State, State.Quiet eventReach t { t with evrLast := Tab.put t.evrLast ch t.instant } :=
          fun t => .of_eq _ rfl rfl rfl
        exact ((h1.trans (h2 _)).trans (h3 _)).trans (.evrDeliver _ ch)

/-- An arrival at an event channel reaches no other register than those of `eventReach`, and no memory (R310). -/
theorem State.Quiet.fire (s : State) {ch : Nat} (inp : Nat) (hc : ch < 96) : State.Quiet eventReach s (s.fire ch inp) := by
  unfold State.fire
  exact .ite (.evrFireCh s hc) (.refl _ s)

end Sys2Proof.Machine
end

