-- ==== Sys2Proof/WellFormed.lean ====
section
/-! DEFINITION. The commands whose operands can occur: addresses inside the local address map (R35), converter codes of 14 bits
and as many as a conversion gives (R161, R172, R178), a comparator not above and below its window at once (R186), table addresses in the
table window (R246), a Tephra reply of seven bytes (R282), an SFP+ identification of 128 bytes (R479), a frame with its
addresses and EtherType (R482).  An operand of a finite type is always well formed. -/
namespace Sys2Proof

/-- Whether the operands of a command can occur. -/
def Instr.wf : Instr → Bool
  | .registerWrite _ addr _ => decide (addr < 0x40000000)
  | .bootPfcStart _ _ => true
  | .adcCalibrationDone codes => decide (codes.length = 102)
  | .modeRequest _ _ => true
  | .sysRstreqWrite _ _ => true
  | .sysKeyWrite _ _ => true
  | .unlockWindowExpire key => decide (key < 0x30)
  | .sysCorerstWrite _ _ => true
  | .coreResetRelease _ => true
  | .tickDone _ _ => true
  | .tickFrameWrite _ _ _ => true
  | .systimeNsRead _ => true
  | .timerWrap _ => true
  | .timerMatch _ _ => true
  | .timerGstart _ _ => true
  | .timerGstop _ _ => true
  | .timerCountWrite _ _ _ => true
  | .timerReloadWrite _ _ _ _ => true
  | .timerCmpWrite _ _ _ _ => true
  | .timerCapture _ _ => true
  | .timerCapRead _ _ _ => true
  | .pwmOenWrite _ _ _ => true
  | .pwmConfigWrite _ _ _ _ => true
  | .carrierValley _ => true
  | .carrierPeak _ => true
  | .pwmDutyWrite _ _ _ _ => true
  | .pwmWindowEdge _ _ => true
  | .pwmDeadTimeEnd _ _ => true
  | .bootstrapRefresh _ _ => true
  | .bootstrapUvlo _ _ => true
  | .axisTrip _ _ => true
  | .pwmSwtripWrite _ _ _ => true
  | .pwmDsrcWrite _ _ _ => true
  | .pwmTripstWrite _ _ _ => true
  | .gateenWrite _ _ => true
  | .adcSample _ _ => true
  | .adcConversionDone _ codes => decide (codes.length = 8) && codes.all (fun x => decide (x < 16384))
  | .adcIuRead _ _ => true
  | .adcSampWrite _ _ _ => true
  | .adcCalreq _ _ => true
  | .adcRecalDone codes => decide (codes.length = 54)
  | .auxConversion _ _ code => decide (code < 16384)
  | .cmpCrossing _ above below => !(above && below)
  | .cmpBlankingEnd _ => true
  | .cmpLatchClear _ _ => true
  | .cmpClrall _ _ => true
  | .cmpSpWrite _ _ _ _ => true
  | .cmpSampleWindow _ above below => !(above && below)
  | .laneCurrentPass _ => true
  | .laneOuterStage _ => true
  | .leCommit _ _ => true
  | .leBankCopyDone _ => true
  | .leParamWrite _ _ _ _ => true
  | .leSetpointWrite _ _ _ _ => true
  | .leCtlWrite _ _ _ => true
  | .tableEntryWrite _ addr _ => decide (0x09000000 ≤ addr) && decide (addr + 6 ≤ 0x090C0000)
  | .tableSeal _ _ _ => true
  | .tableUnseal _ _ _ => true
  | .learnStart _ _ => true
  | .learnStop _ => true
  | .quadEdge _ _ _ => true
  | .indexEdge _ => true
  | .fbZarm _ _ => true
  | .hallTransition _ _ => true
  | .hallInvalidTimeout _ => true
  | .lineFault _ => true
  | .serialTrigger _ => true
  | .ssiTransactionDone _ _ _ => true
  | .tephraReply _ bytes formErr => formErr || bytes.all (fun l => decide (l.length = 7))
  | .tephraTimeout _ => true
  | .fbTid _ _ => true
  | .fbTclr _ _ => true
  | .fbPreset _ _ => true
  | .fbReval _ _ => true
  | .fbPossRead _ _ => true
  | .fbConfigWrite _ _ _ _ => true
  | .emuCtlWrite _ _ _ => true
  | .emuEdgeOutput _ => true
  | .dioEdge _ _ => true
  | .evrProducerEdge _ _ => true
  | .evrFire _ _ _ => true
  | .evrLoopClear _ _ => true
  | .evrChannelLock _ _ _ => true
  | .lineHalfCycle vrms freq peak => decide (vrms < 65536) && decide (freq < 65536) && decide (peak < 65536)
  | .pwrBusmodeWrite _ _ => true
  | .pwrUpdate _ _ _ => true
  | .enc5vOvercurrentOff _ => true
  | .pwrSupctlWrite _ _ => true
  | .brakeCtlWrite _ _ => true
  | .brakeIlimOff _ => true
  | .brakeIlimClear _ _ => true
  | .nop _ _ => true
  | .add _ _ => true
  | .sub _ _ => true
  | .adds _ _ => true
  | .subs _ _ => true
  | .and _ _ => true
  | .or _ _ => true
  | .xor _ _ => true
  | .andn _ _ => true
  | .sll _ _ => true
  | .srl _ _ => true
  | .sra _ _ => true
  | .cmpeq _ _ => true
  | .cmplt _ _ => true
  | .cmpltu _ _ => true
  | .min _ _ => true
  | .max _ _ => true
  | .mul _ _ => true
  | .mulh _ _ => true
  | .mulhu _ _ => true
  | .mulf _ _ => true
  | .macf _ _ => true
  | .div _ _ => true
  | .divu _ _ => true
  | .rem _ _ => true
  | .remu _ _ => true
  | .clz _ _ => true
  | .extb _ _ => true
  | .insb _ _ => true
  | .perm _ _ => true
  | .addi _ _ => true
  | .andi _ _ => true
  | .ori _ _ => true
  | .xori _ _ => true
  | .slli _ _ => true
  | .srli _ _ => true
  | .srai _ _ => true
  | .cmpeqi _ _ => true
  | .cmplti _ _ => true
  | .cmpltui _ _ => true
  | .ldhi _ _ => true
  | .ldi _ _ => true
  | .ld1 _ _ _ => true
  | .ld2 _ _ _ => true
  | .ld6 _ _ => true
  | .st1 _ _ => true
  | .st2 _ _ => true
  | .st6 _ _ => true
  | .ldl _ _ => true
  | .stc _ _ => true
  | .movblk _ _ => true
  | .fillblk _ _ => true
  | .cmpblk _ _ => true
  | .scanblk _ _ => true
  | .beq _ _ => true
  | .bne _ _ => true
  | .blt _ _ => true
  | .bge _ _ => true
  | .bltu _ _ => true
  | .bgeu _ _ => true
  | .jmp _ _ => true
  | .jmpr _ _ => true
  | .call _ _ => true
  | .callr _ _ => true
  | .ret _ _ => true
  | .mfsr _ _ => true
  | .mtsr _ _ => true
  | .fence _ _ => true
  | .fenceI _ _ => true
  | .syscall _ _ => true
  | .rete _ _ => true
  | .wfi _ _ => true
  | .flushw _ _ => true
  | .brk _ _ => true
  | .storeBufferDrain _ => true
  | .windowSpill _ => true
  | .windowFill _ => true
  | .interruptEntry _ => true
  | .icuSourceEdge _ _ => true
  | .icuClaim _ _ => true
  | .icuEoi _ _ _ => true
  | .icuSwi _ _ _ => true
  | .icuGroupTimeout _ _ => true
  | .dmaStart _ _ _ => true
  | .dmaGstart _ _ => true
  | .dmaAbort _ _ => true
  | .dmaAbortall _ _ => true
  | .dmaElementRead _ => true
  | .dmaElementWrite _ => true
  | .flcAlloc _ => true
  | .flcFree _ _ => true
  | .flcGo _ _ _ => true
  | .flcProgramUnitDone _ => true
  | .sfpInsertion _ ident readable => !readable || decide (ident.length = 128)
  | .portUp _ => true
  | .portDown _ => true
  | .frameReceive _ frame => decide (14 ≤ frame.length)
  | .discover _ frame => decide (14 ≤ frame.length)
  | .assign _ frame => decide (14 ≤ frame.length)
  | .farReadRequest _ frame => decide (14 ≤ frame.length)
  | .farWriteRequest _ frame => decide (14 ≤ frame.length)
  | .farResponse _ frame => decide (14 ≤ frame.length)
  | .farTimeout _ => true
  | .fabWakepulse _ _ => true
  | .wakepulseEnd _ => true
  | .cyclicFrame _ frame => decide (14 ≤ frame.length)
  | .echoRequest _ frame => decide (14 ≤ frame.length)
  | .echoResponse _ frame => decide (14 ≤ frame.length)
  | .syncReceive _ frame => decide (14 ≤ frame.length)
  | .mgmtOpen _ frame => decide (14 ≤ frame.length)
  | .mgmtClose _ frame => decide (14 ≤ frame.length)
  | .mgmtCyckey _ frame => decide (14 ≤ frame.length)
  | .mgmtAttest _ frame => decide (14 ≤ frame.length)
  | .sessionIdleTimeout _ => true
  | .sessionCloseWrite _ _ _ => true
  | .stoInputAssert _ => true
  | .stoInputRelease _ => true
  | .safFaultClear _ _ => true
  | .safDeclare _ => true
  | .safHoldWrite _ _ => true
  | .safAck _ => true
  | .mwdtService _ _ => true
  | .cwdService _ _ _ => true
  | .cwdExpire _ => true
  | .cryHash _ _ => true
  | .cryVerify _ _ => true
  | .cryVerifyOwner _ _ => true
  | .crySignDev _ _ => true
  | .cryCommit _ _ => true
  | .cryCompact _ _ => true
  | .otpProv _ _ => true
  | .otpRevoke _ _ => true
  | .otpEpoch _ _ => true
  | .otpCfgsig _ _ => true
  | .padRelease _ _ => true
  | .lbistDone _ _ => true
  | .dbgHalt _ _ => true
  | .vtTxdWrite _ _ _ => true
  | .vtRxdWrite _ _ _ => true
  | .vtRxdRead _ _ => true
  | .extest _ => true
  | .memap _ addr _ => decide (addr < 0x40000000)
  | .dbgAuthVerify _ _ => true
  | .dbgAuthWithdraw _ _ => true
  | .tstCtlWrite _ _ _ => true
  | .flashBusyStretchEnd _ => true
  | .blockLockChange _ _ => true
  | .sfpRemoval _ => true
  | .mainsApplied => true
  | .bootPorRelease => true
  | .bootClockLock => true
  | .bootJournalScan => true
  | .bootSafetyImage => true
  | .bootConfigRead => true
  | .bootTickStart => true
  | .bootAppImage => true
  | .bootDramInit => true
  | .adcCalibrationStart => true
  | .bootCoreRelease => true
  | .mainsLostOff => true
  | .brownout => true
  | .moduleReset => true
  | .resetHardcut => true
  | .frameTick => true
  | .systimeNsWrap => true
  | .timerGstartEvent => true
  | .leCommitEvent => true
  | .learnRecordWrite => true
  | .evrWindowExpire => true
  | .mainsLoss => true
  | .mainsReturn => true
  | .busRegulationSet => true
  | .busRegulationLost => true
  | .isoConverterStop => true
  | .chopperOn => true
  | .chopperOff => true
  | .busOvervoltage => true
  | .busUndervoltage => true
  | .aux24OvercurrentOff => true
  | .dramRefresh => true
  | .flcOpStart => true
  | .flcProgramTimeout => true
  | .flcEraseDone => true
  | .flcEraseTimeout => true
  | .flcCompaction => true
  | .nodeIdLost => true
  | .fabricWakeDetect => true
  | .cyclicSnapshot => true
  | .cyclicWindowClose => true
  | .echoSend => true
  | .syncSend => true
  | .syncTimeout => true
  | .stoChainRelease => true
  | .stoDiscrepancy => true
  | .ss1Expire => true
  | .safeStopAckTimeout => true
  | .lockstepMismatch => true
  | .mwdtHalf => true
  | .mwdtExpire => true
  | .cryJobDone => true
  | .dormantEntryComplete => true
  | .wake => true
  | .wakeRestore => true
  | .wakeComplete => true
  | .aonTimerExpire => true
  | .lbistStart => true
  | .lbistRecordWritten => true
  | .tapReset => true
  | .idcode => true
  | .samplePreload => true
  | .bypass => true
  | .dbgAuthDone => true
  | .tickJitterDelivery => true
  | .isoConverterStart => true

end Sys2Proof
end

