-- ==== Sys2Proof/Laws/PerInstr.lean ====
section
/-! SUPPORT. The check of a command's operands, said in words of the spec and constructor by constructor: which operands can
occur (R35, R161, R172, R178, R186, R246, R282, R479, R482). -/
namespace Sys2Proof.Laws.Operands

/-- The operands of a command can occur. -/
def Occur : Instr → Prop
  | .registerWrite _ addr _ => addr < 0x40000000
  | .bootPfcStart _ _ => True
  | .adcCalibrationDone codes => codes.length = 102
  | .modeRequest _ _ => True
  | .sysRstreqWrite _ _ => True
  | .sysKeyWrite _ _ => True
  | .unlockWindowExpire key => key < 0x30
  | .sysCorerstWrite _ _ => True
  | .coreResetRelease _ => True
  | .tickDone _ _ => True
  | .tickFrameWrite _ _ _ => True
  | .systimeNsRead _ => True
  | .timerWrap _ => True
  | .timerMatch _ _ => True
  | .timerGstart _ _ => True
  | .timerGstop _ _ => True
  | .timerCountWrite _ _ _ => True
  | .timerReloadWrite _ _ _ _ => True
  | .timerCmpWrite _ _ _ _ => True
  | .timerCapture _ _ => True
  | .timerCapRead _ _ _ => True
  | .pwmOenWrite _ _ _ => True
  | .pwmConfigWrite _ _ _ _ => True
  | .carrierValley _ => True
  | .carrierPeak _ => True
  | .pwmDutyWrite _ _ _ _ => True
  | .pwmWindowEdge _ _ => True
  | .pwmDeadTimeEnd _ _ => True
  | .bootstrapRefresh _ _ => True
  | .bootstrapUvlo _ _ => True
  | .axisTrip _ _ => True
  | .pwmSwtripWrite _ _ _ => True
  | .pwmDsrcWrite _ _ _ => True
  | .pwmTripstWrite _ _ _ => True
  | .gateenWrite _ _ => True
  | .adcSample _ _ => True
  | .adcConversionDone _ codes => codes.length = 8 ∧ ∀ x ∈ codes, x < 16384
  | .adcIuRead _ _ => True
  | .adcSampWrite _ _ _ => True
  | .adcCalreq _ _ => True
  | .adcRecalDone codes => codes.length = 54
  | .auxConversion _ _ code => code < 16384
  | .cmpCrossing _ above below => above = false ∨ below = false
  | .cmpBlankingEnd _ => True
  | .cmpLatchClear _ _ => True
  | .cmpClrall _ _ => True
  | .cmpSpWrite _ _ _ _ => True
  | .cmpSampleWindow _ above below => above = false ∨ below = false
  | .laneCurrentPass _ => True
  | .laneOuterStage _ => True
  | .leCommit _ _ => True
  | .leBankCopyDone _ => True
  | .leParamWrite _ _ _ _ => True
  | .leSetpointWrite _ _ _ _ => True
  | .leCtlWrite _ _ _ => True
  | .tableEntryWrite _ addr _ => 0x09000000 ≤ addr ∧ addr + 6 ≤ 0x090C0000
  | .tableSeal _ _ _ => True
  | .tableUnseal _ _ _ => True
  | .learnStart _ _ => True
  | .learnStop _ => True
  | .quadEdge _ _ _ => True
  | .indexEdge _ => True
  | .fbZarm _ _ => True
  | .hallTransition _ _ => True
  | .hallInvalidTimeout _ => True
  | .lineFault _ => True
  | .serialTrigger _ => True
  | .ssiTransactionDone _ _ _ => True
  | .tephraReply _ bytes formErr => formErr = false → ∀ l, bytes = some l → l.length = 7
  | .tephraTimeout _ => True
  | .fbTid _ _ => True
  | .fbTclr _ _ => True
  | .fbPreset _ _ => True
  | .fbReval _ _ => True
  | .fbPossRead _ _ => True
  | .fbConfigWrite _ _ _ _ => True
  | .emuCtlWrite _ _ _ => True
  | .emuEdgeOutput _ => True
  | .dioEdge _ _ => True
  | .evrProducerEdge _ _ => True
  | .evrFire _ _ _ => True
  | .evrLoopClear _ _ => True
  | .evrChannelLock _ _ _ => True
  | .lineHalfCycle vrms freq peak => vrms < 65536 ∧ freq < 65536 ∧ peak < 65536
  | .pwrBusmodeWrite _ _ => True
  | .pwrUpdate _ _ _ => True
  | .enc5vOvercurrentOff _ => True
  | .pwrSupctlWrite _ _ => True
  | .brakeCtlWrite _ _ => True
  | .brakeIlimOff _ => True
  | .brakeIlimClear _ _ => True
  | .nop _ _ => True
  | .add _ _ => True
  | .sub _ _ => True
  | .adds _ _ => True
  | .subs _ _ => True
  | .and _ _ => True
  | .or _ _ => True
  | .xor _ _ => True
  | .andn _ _ => True
  | .sll _ _ => True
  | .srl _ _ => True
  | .sra _ _ => True
  | .cmpeq _ _ => True
  | .cmplt _ _ => True
  | .cmpltu _ _ => True
  | .min _ _ => True
  | .max _ _ => True
  | .mul _ _ => True
  | .mulh _ _ => True
  | .mulhu _ _ => True
  | .mulf _ _ => True
  | .macf _ _ => True
  | .div _ _ => True
  | .divu _ _ => True
  | .rem _ _ => True
  | .remu _ _ => True
  | .clz _ _ => True
  | .extb _ _ => True
  | .insb _ _ => True
  | .perm _ _ => True
  | .addi _ _ => True
  | .andi _ _ => True
  | .ori _ _ => True
  | .xori _ _ => True
  | .slli _ _ => True
  | .srli _ _ => True
  | .srai _ _ => True
  | .cmpeqi _ _ => True
  | .cmplti _ _ => True
  | .cmpltui _ _ => True
  | .ldhi _ _ => True
  | .ldi _ _ => True
  | .ld1 _ _ _ => True
  | .ld2 _ _ _ => True
  | .ld6 _ _ => True
  | .st1 _ _ => True
  | .st2 _ _ => True
  | .st6 _ _ => True
  | .ldl _ _ => True
  | .stc _ _ => True
  | .movblk _ _ => True
  | .fillblk _ _ => True
  | .cmpblk _ _ => True
  | .scanblk _ _ => True
  | .beq _ _ => True
  | .bne _ _ => True
  | .blt _ _ => True
  | .bge _ _ => True
  | .bltu _ _ => True
  | .bgeu _ _ => True
  | .jmp _ _ => True
  | .jmpr _ _ => True
  | .call _ _ => True
  | .callr _ _ => True
  | .ret _ _ => True
  | .mfsr _ _ => True
  | .mtsr _ _ => True
  | .fence _ _ => True
  | .fenceI _ _ => True
  | .syscall _ _ => True
  | .rete _ _ => True
  | .wfi _ _ => True
  | .flushw _ _ => True
  | .brk _ _ => True
  | .storeBufferDrain _ => True
  | .windowSpill _ => True
  | .windowFill _ => True
  | .interruptEntry _ => True
  | .icuSourceEdge _ _ => True
  | .icuClaim _ _ => True
  | .icuEoi _ _ _ => True
  | .icuSwi _ _ _ => True
  | .icuGroupTimeout _ _ => True
  | .dmaStart _ _ _ => True
  | .dmaGstart _ _ => True
  | .dmaAbort _ _ => True
  | .dmaAbortall _ _ => True
  | .dmaElementRead _ => True
  | .dmaElementWrite _ => True
  | .flcAlloc _ => True
  | .flcFree _ _ => True
  | .flcGo _ _ _ => True
  | .flcProgramUnitDone _ => True
  | .sfpInsertion _ ident readable => readable = true → ident.length = 128
  | .portUp _ => True
  | .portDown _ => True
  | .frameReceive _ frame => 14 ≤ frame.length
  | .discover _ frame => 14 ≤ frame.length
  | .assign _ frame => 14 ≤ frame.length
  | .farReadRequest _ frame => 14 ≤ frame.length
  | .farWriteRequest _ frame => 14 ≤ frame.length
  | .farResponse _ frame => 14 ≤ frame.length
  | .farTimeout _ => True
  | .fabWakepulse _ _ => True
  | .wakepulseEnd _ => True
  | .cyclicFrame _ frame => 14 ≤ frame.length
  | .echoRequest _ frame => 14 ≤ frame.length
  | .echoResponse _ frame => 14 ≤ frame.length
  | .syncReceive _ frame => 14 ≤ frame.length
  | .mgmtOpen _ frame => 14 ≤ frame.length
  | .mgmtClose _ frame => 14 ≤ frame.length
  | .mgmtCyckey _ frame => 14 ≤ frame.length
  | .mgmtAttest _ frame => 14 ≤ frame.length
  | .sessionIdleTimeout _ => True
  | .sessionCloseWrite _ _ _ => True
  | .stoInputAssert _ => True
  | .stoInputRelease _ => True
  | .safFaultClear _ _ => True
  | .safDeclare _ => True
  | .safHoldWrite _ _ => True
  | .safAck _ => True
  | .mwdtService _ _ => True
  | .cwdService _ _ _ => True
  | .cwdExpire _ => True
  | .cryHash _ _ => True
  | .cryVerify _ _ => True
  | .cryVerifyOwner _ _ => True
  | .crySignDev _ _ => True
  | .cryCommit _ _ => True
  | .cryCompact _ _ => True
  | .otpProv _ _ => True
  | .otpRevoke _ _ => True
  | .otpEpoch _ _ => True
  | .otpCfgsig _ _ => True
  | .padRelease _ _ => True
  | .lbistDone _ _ => True
  | .dbgHalt _ _ => True
  | .vtTxdWrite _ _ _ => True
  | .vtRxdWrite _ _ _ => True
  | .vtRxdRead _ _ => True
  | .extest _ => True
  | .memap _ addr _ => addr < 0x40000000
  | .dbgAuthVerify _ _ => True
  | .dbgAuthWithdraw _ _ => True
  | .tstCtlWrite _ _ _ => True
  | .flashBusyStretchEnd _ => True
  | .blockLockChange _ _ => True
  | .sfpRemoval _ => True
  | .mainsApplied => True
  | .bootPorRelease => True
  | .bootClockLock => True
  | .bootJournalScan => True
  | .bootSafetyImage => True
  | .bootConfigRead => True
  | .bootTickStart => True
  | .bootAppImage => True
  | .bootDramInit => True
  | .adcCalibrationStart => True
  | .bootCoreRelease => True
  | .mainsLostOff => True
  | .brownout => True
  | .moduleReset => True
  | .resetHardcut => True
  | .frameTick => True
  | .systimeNsWrap => True
  | .timerGstartEvent => True
  | .leCommitEvent => True
  | .learnRecordWrite => True
  | .evrWindowExpire => True
  | .mainsLoss => True
  | .mainsReturn => True
  | .busRegulationSet => True
  | .busRegulationLost => True
  | .isoConverterStop => True
  | .chopperOn => True
  | .chopperOff => True
  | .busOvervoltage => True
  | .busUndervoltage => True
  | .aux24OvercurrentOff => True
  | .dramRefresh => True
  | .flcOpStart => True
  | .flcProgramTimeout => True
  | .flcEraseDone => True
  | .flcEraseTimeout => True
  | .flcCompaction => True
  | .nodeIdLost => True
  | .fabricWakeDetect => True
  | .cyclicSnapshot => True
  | .cyclicWindowClose => True
  | .echoSend => True
  | .syncSend => True
  | .syncTimeout => True
  | .stoChainRelease => True
  | .stoDiscrepancy => True
  | .ss1Expire => True
  | .safeStopAckTimeout => True
  | .lockstepMismatch => True
  | .mwdtHalf => True
  | .mwdtExpire => True
  | .cryJobDone => True
  | .dormantEntryComplete => True
  | .wake => True
  | .wakeRestore => True
  | .wakeComplete => True
  | .aonTimerExpire => True
  | .lbistStart => True
  | .lbistRecordWritten => True
  | .tapReset => True
  | .idcode => True
  | .samplePreload => True
  | .bypass => True
  | .dbgAuthDone => True
  | .tickJitterDelivery => True
  | .isoConverterStart => True

/-- The check answers exactly whether the operands can occur. -/
def Statement (i : Instr) : Prop := i.wf = true ↔ Occur i

theorem registerWrite (w : Writer) (addr : Nat) (v : Word) : Statement (.registerWrite w addr v) := by
  simp [Statement, Instr.wf, Occur]
theorem bootPfcStart (bulk : Word) (tb : Word) : Statement (.bootPfcStart bulk tb) :=
  ⟨fun _ => trivial, fun _ => rfl⟩
theorem adcCalibrationDone (codes : List Nat) : Statement (.adcCalibrationDone codes) := by
  simp [Statement, Instr.wf, Occur]
theorem modeRequest (w : Writer) (v : Word) : Statement (.modeRequest w v) :=
  ⟨fun _ => trivial, fun _ => rfl⟩
theorem sysRstreqWrite (w : Writer) (v : Word) : Statement (.sysRstreqWrite w v) :=
  ⟨fun _ => trivial, fun _ => rfl⟩
theorem sysKeyWrite (w : Writer) (v : Word) : Statement (.sysKeyWrite w v) :=
  ⟨fun _ => trivial, fun _ => rfl⟩
theorem unlockWindowExpire (key : Nat) : Statement (.unlockWindowExpire key) := by
  simp [Statement, Instr.wf, Occur]
theorem sysCorerstWrite (w : Writer) (v : Word) : Statement (.sysCorerstWrite w v) :=
  ⟨fun _ => trivial, fun _ => rfl⟩
theorem coreResetRelease (c : Fin 4) : Statement (.coreResetRelease c) :=
  ⟨fun _ => trivial, fun _ => rfl⟩
theorem tickDone (w : Writer) (v : Word) : Statement (.tickDone w v) :=
  ⟨fun _ => trivial, fun _ => rfl⟩
theorem tickFrameWrite (w : Writer) (fcyc : Bool) (v : Word) : Statement (.tickFrameWrite w fcyc v) :=
  ⟨fun _ => trivial, fun _ => rfl⟩
theorem systimeNsRead (r : Writer) : Statement (.systimeNsRead r) :=
  ⟨fun _ => trivial, fun _ => rfl⟩
theorem timerWrap (t : Fin 16) : Statement (.timerWrap t) :=
  ⟨fun _ => trivial, fun _ => rfl⟩
theorem timerMatch (t : Fin 16) (k : Fin 4) : Statement (.timerMatch t k) :=
  ⟨fun _ => trivial, fun _ => rfl⟩
theorem timerGstart (w : Writer) (v : Word) : Statement (.timerGstart w v) :=
  ⟨fun _ => trivial, fun _ => rfl⟩
theorem timerGstop (w : Writer) (v : Word) : Statement (.timerGstop w v) :=
  ⟨fun _ => trivial, fun _ => rfl⟩
theorem timerCountWrite (w : Writer) (t : Fin 16) (v : Word) : Statement (.timerCountWrite w t v) :=
  ⟨fun _ => trivial, fun _ => rfl⟩
theorem timerReloadWrite (w : Writer) (t : Fin 16) (pre : Bool) (v : Word) : Statement (.timerReloadWrite w t pre v) :=
  ⟨fun _ => trivial, fun _ => rfl⟩
theorem timerCmpWrite (w : Writer) (t : Fin 16) (k : Fin 4) (v : Word) : Statement (.timerCmpWrite w t k v) :=
  ⟨fun _ => trivial, fun _ => rfl⟩
theorem timerCapture (t : Fin 16) (k : Fin 2) : Statement (.timerCapture t k) :=
  ⟨fun _ => trivial, fun _ => rfl⟩
theorem timerCapRead (r : Writer) (t : Fin 16) (k : Fin 2) : Statement (.timerCapRead r t k) :=
  ⟨fun _ => trivial, fun _ => rfl⟩
theorem pwmOenWrite (w : Writer) (a : Fin 24) (oen : Bool) : Statement (.pwmOenWrite w a oen) :=
  ⟨fun _ => trivial, fun _ => rfl⟩
theorem pwmConfigWrite (w : Writer) (q : Fin 6) (r : Fin 5) (v : Word) : Statement (.pwmConfigWrite w q r v) :=
  ⟨fun _ => trivial, fun _ => rfl⟩
theorem carrierValley (q : Fin 6) : Statement (.carrierValley q) :=
  ⟨fun _ => trivial, fun _ => rfl⟩
theorem carrierPeak (q : Fin 6) : Statement (.carrierPeak q) :=
  ⟨fun _ => trivial, fun _ => rfl⟩
theorem pwmDutyWrite (w : Writer) (a : Fin 24) (ph : Fin 3) (v : Word) : Statement (.pwmDutyWrite w a ph v) :=
  ⟨fun _ => trivial, fun _ => rfl⟩
theorem pwmWindowEdge (a : Fin 24) (ph : Fin 3) : Statement (.pwmWindowEdge a ph) :=
  ⟨fun _ => trivial, fun _ => rfl⟩
theorem pwmDeadTimeEnd (a : Fin 24) (ph : Fin 3) : Statement (.pwmDeadTimeEnd a ph) :=
  ⟨fun _ => trivial, fun _ => rfl⟩
theorem bootstrapRefresh (a : Fin 24) (ph : Fin 3) : Statement (.bootstrapRefresh a ph) :=
  ⟨fun _ => trivial, fun _ => rfl⟩
theorem bootstrapUvlo (a : Fin 24) (ph : Fin 3) : Statement (.bootstrapUvlo a ph) :=
  ⟨fun _ => trivial, fun _ => rfl⟩
theorem axisTrip (a : Fin 24) (inp : Fin 6) : Statement (.axisTrip a inp) :=
  ⟨fun _ => trivial, fun _ => rfl⟩
theorem pwmSwtripWrite (w : Writer) (q : Fin 6) (v : Word) : Statement (.pwmSwtripWrite w q v) :=
  ⟨fun _ => trivial, fun _ => rfl⟩
theorem pwmDsrcWrite (w : Writer) (a : Fin 24) (dsrc : Bool) : Statement (.pwmDsrcWrite w a dsrc) :=
  ⟨fun _ => trivial, fun _ => rfl⟩
theorem pwmTripstWrite (w : Writer) (a : Fin 24) (codes : BitVec 6) : Statement (.pwmTripstWrite w a codes) :=
  ⟨fun _ => trivial, fun _ => rfl⟩
theorem gateenWrite (w : Writer) (v : Word) : Statement (.gateenWrite w v) :=
  ⟨fun _ => trivial, fun _ => rfl⟩
theorem adcSample (q : Fin 6) (second : Bool) : Statement (.adcSample q second) :=
  ⟨fun _ => trivial, fun _ => rfl⟩
theorem adcConversionDone (q : Fin 6) (codes : List Nat) : Statement (.adcConversionDone q codes) := by
  simp [Statement, Instr.wf, Occur]
theorem adcIuRead (r : Writer) (a : Fin 24) : Statement (.adcIuRead r a) :=
  ⟨fun _ => trivial, fun _ => rfl⟩
theorem adcSampWrite (w : Writer) (q : Fin 6) (v : Word) : Statement (.adcSampWrite w q v) :=
  ⟨fun _ => trivial, fun _ => rfl⟩
theorem adcCalreq (w : Writer) (v : Word) : Statement (.adcCalreq w v) :=
  ⟨fun _ => trivial, fun _ => rfl⟩
theorem adcRecalDone (codes : List Nat) : Statement (.adcRecalDone codes) := by
  simp [Statement, Instr.wf, Occur]
theorem auxConversion (q : Fin 6) (inp : Fin 4) (code : Nat) : Statement (.auxConversion q inp code) := by
  simp [Statement, Instr.wf, Occur]
theorem cmpCrossing (n : Fin 58) (above below : Bool) : Statement (.cmpCrossing n above below) := by
  cases above <;> cases below <;> simp [Statement, Instr.wf, Occur]
theorem cmpBlankingEnd (n : Fin 58) : Statement (.cmpBlankingEnd n) :=
  ⟨fun _ => trivial, fun _ => rfl⟩
theorem cmpLatchClear (w : Writer) (n : Fin 58) : Statement (.cmpLatchClear w n) :=
  ⟨fun _ => trivial, fun _ => rfl⟩
theorem cmpClrall (w : Writer) (v : Word) : Statement (.cmpClrall w v) :=
  ⟨fun _ => trivial, fun _ => rfl⟩
theorem cmpSpWrite (w : Writer) (n : Fin 58) (r : Fin 3) (v : Word) : Statement (.cmpSpWrite w n r v) :=
  ⟨fun _ => trivial, fun _ => rfl⟩
theorem cmpSampleWindow (n : Fin 4) (above below : Bool) : Statement (.cmpSampleWindow n above below) := by
  cases above <;> cases below <;> simp [Statement, Instr.wf, Occur]
theorem laneCurrentPass (q : Fin 6) : Statement (.laneCurrentPass q) :=
  ⟨fun _ => trivial, fun _ => rfl⟩
theorem laneOuterStage (q : Fin 6) : Statement (.laneOuterStage q) :=
  ⟨fun _ => trivial, fun _ => rfl⟩
theorem leCommit (w : Writer) (v : Word) : Statement (.leCommit w v) :=
  ⟨fun _ => trivial, fun _ => rfl⟩
theorem leBankCopyDone (a : Fin 24) : Statement (.leBankCopyDone a) :=
  ⟨fun _ => trivial, fun _ => rfl⟩
theorem leParamWrite (w : Writer) (a : Fin 24) (ofs : Fin 96) (v : Word) : Statement (.leParamWrite w a ofs v) :=
  ⟨fun _ => trivial, fun _ => rfl⟩
theorem leSetpointWrite (w : Writer) (a : Fin 24) (k : Fin 5) (v : Word) : Statement (.leSetpointWrite w a k v) :=
  ⟨fun _ => trivial, fun _ => rfl⟩
theorem leCtlWrite (w : Writer) (a : Fin 24) (v : Word) : Statement (.leCtlWrite w a v) :=
  ⟨fun _ => trivial, fun _ => rfl⟩
theorem tableEntryWrite (w : Writer) (addr : Nat) (v : Word) : Statement (.tableEntryWrite w addr v) := by
  simp [Statement, Instr.wf, Occur]
theorem tableSeal (w : Writer) (a : Fin 24) (pages : BitVec 4) : Statement (.tableSeal w a pages) :=
  ⟨fun _ => trivial, fun _ => rfl⟩
theorem tableUnseal (w : Writer) (a : Fin 24) (pages : BitVec 4) : Statement (.tableUnseal w a pages) :=
  ⟨fun _ => trivial, fun _ => rfl⟩
theorem learnStart (w : Writer) (v : Word) : Statement (.learnStart w v) :=
  ⟨fun _ => trivial, fun _ => rfl⟩
theorem learnStop (w : Writer) : Statement (.learnStop w) :=
  ⟨fun _ => trivial, fun _ => rfl⟩
theorem quadEdge (a : Fin 24) (na nb : Bool) : Statement (.quadEdge a na nb) :=
  ⟨fun _ => trivial, fun _ => rfl⟩
theorem indexEdge (z : ZLevel) : Statement (.indexEdge z) :=
  ⟨fun _ => trivial, fun _ => rfl⟩
theorem fbZarm (w : Writer) (a : Fin 24) : Statement (.fbZarm w a) :=
  ⟨fun _ => trivial, fun _ => rfl⟩
theorem hallTransition (a : Fin 24) (code : BitVec 3) : Statement (.hallTransition a code) :=
  ⟨fun _ => trivial, fun _ => rfl⟩
theorem hallInvalidTimeout (a : Fin 24) : Statement (.hallInvalidTimeout a) :=
  ⟨fun _ => trivial, fun _ => rfl⟩
theorem lineFault (p : PairBand) : Statement (.lineFault p) :=
  ⟨fun _ => trivial, fun _ => rfl⟩
theorem serialTrigger (a : Fin 24) : Statement (.serialTrigger a) :=
  ⟨fun _ => trivial, fun _ => rfl⟩
theorem ssiTransactionDone (a : Fin 24) (raw : Word) (ended : Bool) : Statement (.ssiTransactionDone a raw ended) :=
  ⟨fun _ => trivial, fun _ => rfl⟩
theorem tephraReply (a : Fin 24) (bytes : Option (List Byte)) (formErr : Bool) :
    Statement (.tephraReply a bytes formErr) := by
  cases bytes <;> cases formErr <;> simp [Statement, Instr.wf, Occur]
theorem tephraTimeout (a : Fin 24) : Statement (.tephraTimeout a) :=
  ⟨fun _ => trivial, fun _ => rfl⟩
theorem fbTid (w : Writer) (a : Fin 24) : Statement (.fbTid w a) :=
  ⟨fun _ => trivial, fun _ => rfl⟩
theorem fbTclr (w : Writer) (a : Fin 24) : Statement (.fbTclr w a) :=
  ⟨fun _ => trivial, fun _ => rfl⟩
theorem fbPreset (w : Writer) (a : Fin 24) : Statement (.fbPreset w a) :=
  ⟨fun _ => trivial, fun _ => rfl⟩
theorem fbReval (w : Writer) (a : Fin 24) : Statement (.fbReval w a) :=
  ⟨fun _ => trivial, fun _ => rfl⟩
theorem fbPossRead (r : Writer) (a : Fin 24) : Statement (.fbPossRead r a) :=
  ⟨fun _ => trivial, fun _ => rfl⟩
theorem fbConfigWrite (w : Writer) (a : Fin 24) (r : Fin 5) (v : Word) : Statement (.fbConfigWrite w a r v) :=
  ⟨fun _ => trivial, fun _ => rfl⟩
theorem emuCtlWrite (w : Writer) (n : Fin 2) (v : Word) : Statement (.emuCtlWrite w n v) :=
  ⟨fun _ => trivial, fun _ => rfl⟩
theorem emuEdgeOutput (n : Fin 2) : Statement (.emuEdgeOutput n) :=
  ⟨fun _ => trivial, fun _ => rfl⟩
theorem dioEdge (k : Fin 16) (level : Bool) : Statement (.dioEdge k level) :=
  ⟨fun _ => trivial, fun _ => rfl⟩
theorem evrProducerEdge (ch : Fin 96) (inp : Fin 32) : Statement (.evrProducerEdge ch inp) :=
  ⟨fun _ => trivial, fun _ => rfl⟩
theorem evrFire (w : Writer) (r : Fin 2) (v : Word) : Statement (.evrFire w r v) :=
  ⟨fun _ => trivial, fun _ => rfl⟩
theorem evrLoopClear (w : Writer) (ch : Fin 96) : Statement (.evrLoopClear w ch) :=
  ⟨fun _ => trivial, fun _ => rfl⟩
theorem evrChannelLock (w : Writer) (ch : Fin 96) (v : Word) : Statement (.evrChannelLock w ch v) :=
  ⟨fun _ => trivial, fun _ => rfl⟩
theorem lineHalfCycle (vrms freq : Nat) (peak : Nat) : Statement (.lineHalfCycle vrms freq peak) := by
  simp [Statement, Instr.wf, Occur, and_assoc]
theorem pwrBusmodeWrite (w : Writer) (v : Word) : Statement (.pwrBusmodeWrite w v) :=
  ⟨fun _ => trivial, fun _ => rfl⟩
theorem pwrUpdate (vbulk pdraw pout : Word) : Statement (.pwrUpdate vbulk pdraw pout) :=
  ⟨fun _ => trivial, fun _ => rfl⟩
theorem enc5vOvercurrentOff (q : Fin 6) : Statement (.enc5vOvercurrentOff q) :=
  ⟨fun _ => trivial, fun _ => rfl⟩
theorem pwrSupctlWrite (w : Writer) (v : Word) : Statement (.pwrSupctlWrite w v) :=
  ⟨fun _ => trivial, fun _ => rfl⟩
theorem brakeCtlWrite (w : Writer) (v : Word) : Statement (.brakeCtlWrite w v) :=
  ⟨fun _ => trivial, fun _ => rfl⟩
theorem brakeIlimOff (k : Fin 4) : Statement (.brakeIlimOff k) :=
  ⟨fun _ => trivial, fun _ => rfl⟩
theorem brakeIlimClear (w : Writer) (k : Fin 4) : Statement (.brakeIlimClear w k) :=
  ⟨fun _ => trivial, fun _ => rfl⟩
theorem nop (c : Fin 5) (f : Fields) : Statement (.nop c f) :=
  ⟨fun _ => trivial, fun _ => rfl⟩
theorem add (c : Fin 5) (f : Fields) : Statement (.add c f) :=
  ⟨fun _ => trivial, fun _ => rfl⟩
theorem sub (c : Fin 5) (f : Fields) : Statement (.sub c f) :=
  ⟨fun _ => trivial, fun _ => rfl⟩
theorem adds (c : Fin 5) (f : Fields) : Statement (.adds c f) :=
  ⟨fun _ => trivial, fun _ => rfl⟩
theorem subs (c : Fin 5) (f : Fields) : Statement (.subs c f) :=
  ⟨fun _ => trivial, fun _ => rfl⟩
theorem and (c : Fin 5) (f : Fields) : Statement (.and c f) :=
  ⟨fun _ => trivial, fun _ => rfl⟩
theorem or (c : Fin 5) (f : Fields) : Statement (.or c f) :=
  ⟨fun _ => trivial, fun _ => rfl⟩
theorem xor (c : Fin 5) (f : Fields) : Statement (.xor c f) :=
  ⟨fun _ => trivial, fun _ => rfl⟩
theorem andn (c : Fin 5) (f : Fields) : Statement (.andn c f) :=
  ⟨fun _ => trivial, fun _ => rfl⟩
theorem sll (c : Fin 5) (f : Fields) : Statement (.sll c f) :=
  ⟨fun _ => trivial, fun _ => rfl⟩
theorem srl (c : Fin 5) (f : Fields) : Statement (.srl c f) :=
  ⟨fun _ => trivial, fun _ => rfl⟩
theorem sra (c : Fin 5) (f : Fields) : Statement (.sra c f) :=
  ⟨fun _ => trivial, fun _ => rfl⟩
theorem cmpeq (c : Fin 5) (f : Fields) : Statement (.cmpeq c f) :=
  ⟨fun _ => trivial, fun _ => rfl⟩
theorem cmplt (c : Fin 5) (f : Fields) : Statement (.cmplt c f) :=
  ⟨fun _ => trivial, fun _ => rfl⟩
theorem cmpltu (c : Fin 5) (f : Fields) : Statement (.cmpltu c f) :=
  ⟨fun _ => trivial, fun _ => rfl⟩
theorem min (c : Fin 5) (f : Fields) : Statement (.min c f) :=
  ⟨fun _ => trivial, fun _ => rfl⟩
theorem max (c : Fin 5) (f : Fields) : Statement (.max c f) :=
  ⟨fun _ => trivial, fun _ => rfl⟩
theorem mul (c : Fin 5) (f : Fields) : Statement (.mul c f) :=
  ⟨fun _ => trivial, fun _ => rfl⟩
theorem mulh (c : Fin 5) (f : Fields) : Statement (.mulh c f) :=
  ⟨fun _ => trivial, fun _ => rfl⟩
theorem mulhu (c : Fin 5) (f : Fields) : Statement (.mulhu c f) :=
  ⟨fun _ => trivial, fun _ => rfl⟩
theorem mulf (c : Fin 5) (f : Fields) : Statement (.mulf c f) :=
  ⟨fun _ => trivial, fun _ => rfl⟩
theorem macf (c : Fin 5) (f : Fields) : Statement (.macf c f) :=
  ⟨fun _ => trivial, fun _ => rfl⟩
theorem div (c : Fin 5) (f : Fields) : Statement (.div c f) :=
  ⟨fun _ => trivial, fun _ => rfl⟩
theorem divu (c : Fin 5) (f : Fields) : Statement (.divu c f) :=
  ⟨fun _ => trivial, fun _ => rfl⟩
theorem rem (c : Fin 5) (f : Fields) : Statement (.rem c f) :=
  ⟨fun _ => trivial, fun _ => rfl⟩
theorem remu (c : Fin 5) (f : Fields) : Statement (.remu c f) :=
  ⟨fun _ => trivial, fun _ => rfl⟩
theorem clz (c : Fin 5) (f : Fields) : Statement (.clz c f) :=
  ⟨fun _ => trivial, fun _ => rfl⟩
theorem extb (c : Fin 5) (f : Fields) : Statement (.extb c f) :=
  ⟨fun _ => trivial, fun _ => rfl⟩
theorem insb (c : Fin 5) (f : Fields) : Statement (.insb c f) :=
  ⟨fun _ => trivial, fun _ => rfl⟩
theorem perm (c : Fin 5) (f : Fields) : Statement (.perm c f) :=
  ⟨fun _ => trivial, fun _ => rfl⟩
theorem addi (c : Fin 5) (f : Fields) : Statement (.addi c f) :=
  ⟨fun _ => trivial, fun _ => rfl⟩
theorem andi (c : Fin 5) (f : Fields) : Statement (.andi c f) :=
  ⟨fun _ => trivial, fun _ => rfl⟩
theorem ori (c : Fin 5) (f : Fields) : Statement (.ori c f) :=
  ⟨fun _ => trivial, fun _ => rfl⟩
theorem xori (c : Fin 5) (f : Fields) : Statement (.xori c f) :=
  ⟨fun _ => trivial, fun _ => rfl⟩
theorem slli (c : Fin 5) (f : Fields) : Statement (.slli c f) :=
  ⟨fun _ => trivial, fun _ => rfl⟩
theorem srli (c : Fin 5) (f : Fields) : Statement (.srli c f) :=
  ⟨fun _ => trivial, fun _ => rfl⟩
theorem srai (c : Fin 5) (f : Fields) : Statement (.srai c f) :=
  ⟨fun _ => trivial, fun _ => rfl⟩
theorem cmpeqi (c : Fin 5) (f : Fields) : Statement (.cmpeqi c f) :=
  ⟨fun _ => trivial, fun _ => rfl⟩
theorem cmplti (c : Fin 5) (f : Fields) : Statement (.cmplti c f) :=
  ⟨fun _ => trivial, fun _ => rfl⟩
theorem cmpltui (c : Fin 5) (f : Fields) : Statement (.cmpltui c f) :=
  ⟨fun _ => trivial, fun _ => rfl⟩
theorem ldhi (c : Fin 5) (f : Fields) : Statement (.ldhi c f) :=
  ⟨fun _ => trivial, fun _ => rfl⟩
theorem ldi (c : Fin 5) (f : JFields) : Statement (.ldi c f) :=
  ⟨fun _ => trivial, fun _ => rfl⟩
theorem ld1 (c : Fin 5) (sx : Bool) (f : Fields) : Statement (.ld1 c sx f) :=
  ⟨fun _ => trivial, fun _ => rfl⟩
theorem ld2 (c : Fin 5) (sx : Bool) (f : Fields) : Statement (.ld2 c sx f) :=
  ⟨fun _ => trivial, fun _ => rfl⟩
theorem ld6 (c : Fin 5) (f : Fields) : Statement (.ld6 c f) :=
  ⟨fun _ => trivial, fun _ => rfl⟩
theorem st1 (c : Fin 5) (f : Fields) : Statement (.st1 c f) :=
  ⟨fun _ => trivial, fun _ => rfl⟩
theorem st2 (c : Fin 5) (f : Fields) : Statement (.st2 c f) :=
  ⟨fun _ => trivial, fun _ => rfl⟩
theorem st6 (c : Fin 5) (f : Fields) : Statement (.st6 c f) :=
  ⟨fun _ => trivial, fun _ => rfl⟩
theorem ldl (c : Fin 5) (f : Fields) : Statement (.ldl c f) :=
  ⟨fun _ => trivial, fun _ => rfl⟩
theorem stc (c : Fin 5) (f : Fields) : Statement (.stc c f) :=
  ⟨fun _ => trivial, fun _ => rfl⟩
theorem movblk (c : Fin 5) (f : Fields) : Statement (.movblk c f) :=
  ⟨fun _ => trivial, fun _ => rfl⟩
theorem fillblk (c : Fin 5) (f : Fields) : Statement (.fillblk c f) :=
  ⟨fun _ => trivial, fun _ => rfl⟩
theorem cmpblk (c : Fin 5) (f : Fields) : Statement (.cmpblk c f) :=
  ⟨fun _ => trivial, fun _ => rfl⟩
theorem scanblk (c : Fin 5) (f : Fields) : Statement (.scanblk c f) :=
  ⟨fun _ => trivial, fun _ => rfl⟩
theorem beq (c : Fin 5) (f : Fields) : Statement (.beq c f) :=
  ⟨fun _ => trivial, fun _ => rfl⟩
theorem bne (c : Fin 5) (f : Fields) : Statement (.bne c f) :=
  ⟨fun _ => trivial, fun _ => rfl⟩
theorem blt (c : Fin 5) (f : Fields) : Statement (.blt c f) :=
  ⟨fun _ => trivial, fun _ => rfl⟩
theorem bge (c : Fin 5) (f : Fields) : Statement (.bge c f) :=
  ⟨fun _ => trivial, fun _ => rfl⟩
theorem bltu (c : Fin 5) (f : Fields) : Statement (.bltu c f) :=
  ⟨fun _ => trivial, fun _ => rfl⟩
theorem bgeu (c : Fin 5) (f : Fields) : Statement (.bgeu c f) :=
  ⟨fun _ => trivial, fun _ => rfl⟩
theorem jmp (c : Fin 5) (f : JFields) : Statement (.jmp c f) :=
  ⟨fun _ => trivial, fun _ => rfl⟩
theorem jmpr (c : Fin 5) (f : Fields) : Statement (.jmpr c f) :=
  ⟨fun _ => trivial, fun _ => rfl⟩
theorem call (c : Fin 5) (f : JFields) : Statement (.call c f) :=
  ⟨fun _ => trivial, fun _ => rfl⟩
theorem callr (c : Fin 5) (f : Fields) : Statement (.callr c f) :=
  ⟨fun _ => trivial, fun _ => rfl⟩
theorem ret (c : Fin 5) (f : Fields) : Statement (.ret c f) :=
  ⟨fun _ => trivial, fun _ => rfl⟩
theorem mfsr (c : Fin 5) (f : Fields) : Statement (.mfsr c f) :=
  ⟨fun _ => trivial, fun _ => rfl⟩
theorem mtsr (c : Fin 5) (f : Fields) : Statement (.mtsr c f) :=
  ⟨fun _ => trivial, fun _ => rfl⟩
theorem fence (c : Fin 5) (f : Fields) : Statement (.fence c f) :=
  ⟨fun _ => trivial, fun _ => rfl⟩
theorem fenceI (c : Fin 5) (f : Fields) : Statement (.fenceI c f) :=
  ⟨fun _ => trivial, fun _ => rfl⟩
theorem syscall (c : Fin 5) (f : Fields) : Statement (.syscall c f) :=
  ⟨fun _ => trivial, fun _ => rfl⟩
theorem rete (c : Fin 5) (f : Fields) : Statement (.rete c f) :=
  ⟨fun _ => trivial, fun _ => rfl⟩
theorem wfi (c : Fin 5) (f : Fields) : Statement (.wfi c f) :=
  ⟨fun _ => trivial, fun _ => rfl⟩
theorem flushw (c : Fin 5) (f : Fields) : Statement (.flushw c f) :=
  ⟨fun _ => trivial, fun _ => rfl⟩
theorem brk (c : Fin 5) (f : Fields) : Statement (.brk c f) :=
  ⟨fun _ => trivial, fun _ => rfl⟩
theorem storeBufferDrain (c : Fin 5) : Statement (.storeBufferDrain c) :=
  ⟨fun _ => trivial, fun _ => rfl⟩
theorem windowSpill (c : Fin 5) : Statement (.windowSpill c) :=
  ⟨fun _ => trivial, fun _ => rfl⟩
theorem windowFill (c : Fin 5) : Statement (.windowFill c) :=
  ⟨fun _ => trivial, fun _ => rfl⟩
theorem interruptEntry (c : Fin 5) : Statement (.interruptEntry c) :=
  ⟨fun _ => trivial, fun _ => rfl⟩
theorem icuSourceEdge (c : Fin 5) (src : Fin 512) : Statement (.icuSourceEdge c src) :=
  ⟨fun _ => trivial, fun _ => rfl⟩
theorem icuClaim (r : Writer) (c : Fin 5) : Statement (.icuClaim r c) :=
  ⟨fun _ => trivial, fun _ => rfl⟩
theorem icuEoi (w : Writer) (c : Fin 5) (v : Word) : Statement (.icuEoi w c v) :=
  ⟨fun _ => trivial, fun _ => rfl⟩
theorem icuSwi (w : Writer) (c : Fin 5) (v : Word) : Statement (.icuSwi w c v) :=
  ⟨fun _ => trivial, fun _ => rfl⟩
theorem icuGroupTimeout (c : Fin 5) (g : Fin 32) : Statement (.icuGroupTimeout c g) :=
  ⟨fun _ => trivial, fun _ => rfl⟩
theorem dmaStart (w : Writer) (n : Fin 16) (v : Word) : Statement (.dmaStart w n v) :=
  ⟨fun _ => trivial, fun _ => rfl⟩
theorem dmaGstart (w : Writer) (v : Word) : Statement (.dmaGstart w v) :=
  ⟨fun _ => trivial, fun _ => rfl⟩
theorem dmaAbort (w : Writer) (n : Fin 16) : Statement (.dmaAbort w n) :=
  ⟨fun _ => trivial, fun _ => rfl⟩
theorem dmaAbortall (w : Writer) (v : Word) : Statement (.dmaAbortall w v) :=
  ⟨fun _ => trivial, fun _ => rfl⟩
theorem dmaElementRead (n : Fin 16) : Statement (.dmaElementRead n) :=
  ⟨fun _ => trivial, fun _ => rfl⟩
theorem dmaElementWrite (n : Fin 16) : Statement (.dmaElementWrite n) :=
  ⟨fun _ => trivial, fun _ => rfl⟩
theorem flcAlloc (r : Writer) : Statement (.flcAlloc r) :=
  ⟨fun _ => trivial, fun _ => rfl⟩
theorem flcFree (w : Writer) (k : Fin 16) : Statement (.flcFree w k) :=
  ⟨fun _ => trivial, fun _ => rfl⟩
theorem flcGo (w : Writer) (k : Fin 16) (v : Word) : Statement (.flcGo w k v) :=
  ⟨fun _ => trivial, fun _ => rfl⟩
theorem flcProgramUnitDone (ok : Bool) : Statement (.flcProgramUnitDone ok) :=
  ⟨fun _ => trivial, fun _ => rfl⟩
theorem sfpInsertion (p : Fin 2) (ident : List Byte) (readable : Bool) : Statement (.sfpInsertion p ident readable) := by
  cases readable <;> simp [Statement, Instr.wf, Occur]
theorem portUp (p : Fin 2) : Statement (.portUp p) :=
  ⟨fun _ => trivial, fun _ => rfl⟩
theorem portDown (p : Fin 2) : Statement (.portDown p) :=
  ⟨fun _ => trivial, fun _ => rfl⟩
theorem frameReceive (p : Fin 2) (frame : List Byte) : Statement (.frameReceive p frame) := by
  simp [Statement, Instr.wf, Occur]
theorem discover (p : Fin 2) (frame : List Byte) : Statement (.discover p frame) := by
  simp [Statement, Instr.wf, Occur]
theorem assign (p : Fin 2) (frame : List Byte) : Statement (.assign p frame) := by
  simp [Statement, Instr.wf, Occur]
theorem farReadRequest (p : Fin 2) (frame : List Byte) : Statement (.farReadRequest p frame) := by
  simp [Statement, Instr.wf, Occur]
theorem farWriteRequest (p : Fin 2) (frame : List Byte) : Statement (.farWriteRequest p frame) := by
  simp [Statement, Instr.wf, Occur]
theorem farResponse (p : Fin 2) (frame : List Byte) : Statement (.farResponse p frame) := by
  simp [Statement, Instr.wf, Occur]
theorem farTimeout (n : Fin 21) : Statement (.farTimeout n) :=
  ⟨fun _ => trivial, fun _ => rfl⟩
theorem fabWakepulse (w : Writer) (p : Fin 2) : Statement (.fabWakepulse w p) :=
  ⟨fun _ => trivial, fun _ => rfl⟩
theorem wakepulseEnd (p : Fin 2) : Statement (.wakepulseEnd p) :=
  ⟨fun _ => trivial, fun _ => rfl⟩
theorem cyclicFrame (p : Fin 2) (frame : List Byte) : Statement (.cyclicFrame p frame) := by
  simp [Statement, Instr.wf, Occur]
theorem echoRequest (p : Fin 2) (frame : List Byte) : Statement (.echoRequest p frame) := by
  simp [Statement, Instr.wf, Occur]
theorem echoResponse (p : Fin 2) (frame : List Byte) : Statement (.echoResponse p frame) := by
  simp [Statement, Instr.wf, Occur]
theorem syncReceive (p : Fin 2) (frame : List Byte) : Statement (.syncReceive p frame) := by
  simp [Statement, Instr.wf, Occur]
theorem mgmtOpen (p : Fin 2) (frame : List Byte) : Statement (.mgmtOpen p frame) := by
  simp [Statement, Instr.wf, Occur]
theorem mgmtClose (p : Fin 2) (frame : List Byte) : Statement (.mgmtClose p frame) := by
  simp [Statement, Instr.wf, Occur]
theorem mgmtCyckey (p : Fin 2) (frame : List Byte) : Statement (.mgmtCyckey p frame) := by
  simp [Statement, Instr.wf, Occur]
theorem mgmtAttest (p : Fin 2) (frame : List Byte) : Statement (.mgmtAttest p frame) := by
  simp [Statement, Instr.wf, Occur]
theorem sessionIdleTimeout (n : Fin 16) : Statement (.sessionIdleTimeout n) :=
  ⟨fun _ => trivial, fun _ => rfl⟩
theorem sessionCloseWrite (w : Writer) (n : Fin 16) (v : Word) : Statement (.sessionCloseWrite w n v) :=
  ⟨fun _ => trivial, fun _ => rfl⟩
theorem stoInputAssert (b : Bool) : Statement (.stoInputAssert b) :=
  ⟨fun _ => trivial, fun _ => rfl⟩
theorem stoInputRelease (b : Bool) : Statement (.stoInputRelease b) :=
  ⟨fun _ => trivial, fun _ => rfl⟩
theorem safFaultClear (w : Writer) (v : Word) : Statement (.safFaultClear w v) :=
  ⟨fun _ => trivial, fun _ => rfl⟩
theorem safDeclare (w : Writer) : Statement (.safDeclare w) :=
  ⟨fun _ => trivial, fun _ => rfl⟩
theorem safHoldWrite (w : Writer) (hold : Bool) : Statement (.safHoldWrite w hold) :=
  ⟨fun _ => trivial, fun _ => rfl⟩
theorem safAck (w : Writer) : Statement (.safAck w) :=
  ⟨fun _ => trivial, fun _ => rfl⟩
theorem mwdtService (w : Writer) (v : Word) : Statement (.mwdtService w v) :=
  ⟨fun _ => trivial, fun _ => rfl⟩
theorem cwdService (w : Writer) (n : Fin 4) (v : Word) : Statement (.cwdService w n v) :=
  ⟨fun _ => trivial, fun _ => rfl⟩
theorem cwdExpire (n : Fin 4) : Statement (.cwdExpire n) :=
  ⟨fun _ => trivial, fun _ => rfl⟩
theorem cryHash (w : Writer) (v : Word) : Statement (.cryHash w v) :=
  ⟨fun _ => trivial, fun _ => rfl⟩
theorem cryVerify (w : Writer) (v : Word) : Statement (.cryVerify w v) :=
  ⟨fun _ => trivial, fun _ => rfl⟩
theorem cryVerifyOwner (w : Writer) (v : Word) : Statement (.cryVerifyOwner w v) :=
  ⟨fun _ => trivial, fun _ => rfl⟩
theorem crySignDev (w : Writer) (v : Word) : Statement (.crySignDev w v) :=
  ⟨fun _ => trivial, fun _ => rfl⟩
theorem cryCommit (w : Writer) (v : Word) : Statement (.cryCommit w v) :=
  ⟨fun _ => trivial, fun _ => rfl⟩
theorem cryCompact (w : Writer) (v : Word) : Statement (.cryCompact w v) :=
  ⟨fun _ => trivial, fun _ => rfl⟩
theorem otpProv (w : Writer) (v : Word) : Statement (.otpProv w v) :=
  ⟨fun _ => trivial, fun _ => rfl⟩
theorem otpRevoke (w : Writer) (v : Word) : Statement (.otpRevoke w v) :=
  ⟨fun _ => trivial, fun _ => rfl⟩
theorem otpEpoch (w : Writer) (v : Word) : Statement (.otpEpoch w v) :=
  ⟨fun _ => trivial, fun _ => rfl⟩
theorem otpCfgsig (w : Writer) (v : Word) : Statement (.otpCfgsig w v) :=
  ⟨fun _ => trivial, fun _ => rfl⟩
theorem padRelease (w : Writer) (v : Word) : Statement (.padRelease w v) :=
  ⟨fun _ => trivial, fun _ => rfl⟩
theorem lbistDone (app saf : Bool) : Statement (.lbistDone app saf) :=
  ⟨fun _ => trivial, fun _ => rfl⟩
theorem dbgHalt (w : Writer) (c : Fin 5) : Statement (.dbgHalt w c) :=
  ⟨fun _ => trivial, fun _ => rfl⟩
theorem vtTxdWrite (w : Writer) (c : Fin 5) (v : Word) : Statement (.vtTxdWrite w c v) :=
  ⟨fun _ => trivial, fun _ => rfl⟩
theorem vtRxdWrite (w : Writer) (c : Fin 5) (v : Word) : Statement (.vtRxdWrite w c v) :=
  ⟨fun _ => trivial, fun _ => rfl⟩
theorem vtRxdRead (r : Writer) (c : Fin 5) : Statement (.vtRxdRead r c) :=
  ⟨fun _ => trivial, fun _ => rfl⟩
theorem extest (boundary : List Bool) : Statement (.extest boundary) :=
  ⟨fun _ => trivial, fun _ => rfl⟩
theorem memap (rd : Bool) (addr : Nat) (v : Word) : Statement (.memap rd addr v) := by
  simp [Statement, Instr.wf, Occur]
theorem dbgAuthVerify (w : Writer) (v : Word) : Statement (.dbgAuthVerify w v) :=
  ⟨fun _ => trivial, fun _ => rfl⟩
theorem dbgAuthWithdraw (w : Writer) (v : Word) : Statement (.dbgAuthWithdraw w v) :=
  ⟨fun _ => trivial, fun _ => rfl⟩
theorem tstCtlWrite (w : Writer) (r : Fin 9) (v : Word) : Statement (.tstCtlWrite w r v) :=
  ⟨fun _ => trivial, fun _ => rfl⟩
theorem flashBusyStretchEnd (bank : Bool) : Statement (.flashBusyStretchEnd bank) :=
  ⟨fun _ => trivial, fun _ => rfl⟩
theorem blockLockChange (p : Fin 2) (lock : Bool) : Statement (.blockLockChange p lock) :=
  ⟨fun _ => trivial, fun _ => rfl⟩
theorem sfpRemoval (p : Fin 2) : Statement (.sfpRemoval p) :=
  ⟨fun _ => trivial, fun _ => rfl⟩
theorem mainsApplied : Statement (.mainsApplied) :=
  ⟨fun _ => trivial, fun _ => rfl⟩
theorem bootPorRelease : Statement (.bootPorRelease) :=
  ⟨fun _ => trivial, fun _ => rfl⟩
theorem bootClockLock : Statement (.bootClockLock) :=
  ⟨fun _ => trivial, fun _ => rfl⟩
theorem bootJournalScan : Statement (.bootJournalScan) :=
  ⟨fun _ => trivial, fun _ => rfl⟩
theorem bootSafetyImage : Statement (.bootSafetyImage) :=
  ⟨fun _ => trivial, fun _ => rfl⟩
theorem bootConfigRead : Statement (.bootConfigRead) :=
  ⟨fun _ => trivial, fun _ => rfl⟩
theorem bootTickStart : Statement (.bootTickStart) :=
  ⟨fun _ => trivial, fun _ => rfl⟩
theorem bootAppImage : Statement (.bootAppImage) :=
  ⟨fun _ => trivial, fun _ => rfl⟩
theorem bootDramInit : Statement (.bootDramInit) :=
  ⟨fun _ => trivial, fun _ => rfl⟩
theorem adcCalibrationStart : Statement (.adcCalibrationStart) :=
  ⟨fun _ => trivial, fun _ => rfl⟩
theorem bootCoreRelease : Statement (.bootCoreRelease) :=
  ⟨fun _ => trivial, fun _ => rfl⟩
theorem mainsLostOff : Statement (.mainsLostOff) :=
  ⟨fun _ => trivial, fun _ => rfl⟩
theorem brownout : Statement (.brownout) :=
  ⟨fun _ => trivial, fun _ => rfl⟩
theorem moduleReset : Statement (.moduleReset) :=
  ⟨fun _ => trivial, fun _ => rfl⟩
theorem resetHardcut : Statement (.resetHardcut) :=
  ⟨fun _ => trivial, fun _ => rfl⟩
theorem frameTick : Statement (.frameTick) :=
  ⟨fun _ => trivial, fun _ => rfl⟩
theorem systimeNsWrap : Statement (.systimeNsWrap) :=
  ⟨fun _ => trivial, fun _ => rfl⟩
theorem timerGstartEvent : Statement (.timerGstartEvent) :=
  ⟨fun _ => trivial, fun _ => rfl⟩
theorem leCommitEvent : Statement (.leCommitEvent) :=
  ⟨fun _ => trivial, fun _ => rfl⟩
theorem learnRecordWrite : Statement (.learnRecordWrite) :=
  ⟨fun _ => trivial, fun _ => rfl⟩
theorem evrWindowExpire : Statement (.evrWindowExpire) :=
  ⟨fun _ => trivial, fun _ => rfl⟩
theorem mainsLoss : Statement (.mainsLoss) :=
  ⟨fun _ => trivial, fun _ => rfl⟩
theorem mainsReturn : Statement (.mainsReturn) :=
  ⟨fun _ => trivial, fun _ => rfl⟩
theorem busRegulationSet : Statement (.busRegulationSet) :=
  ⟨fun _ => trivial, fun _ => rfl⟩
theorem busRegulationLost : Statement (.busRegulationLost) :=
  ⟨fun _ => trivial, fun _ => rfl⟩
theorem isoConverterStop : Statement (.isoConverterStop) :=
  ⟨fun _ => trivial, fun _ => rfl⟩
theorem chopperOn : Statement (.chopperOn) :=
  ⟨fun _ => trivial, fun _ => rfl⟩
theorem chopperOff : Statement (.chopperOff) :=
  ⟨fun _ => trivial, fun _ => rfl⟩
theorem busOvervoltage : Statement (.busOvervoltage) :=
  ⟨fun _ => trivial, fun _ => rfl⟩
theorem busUndervoltage : Statement (.busUndervoltage) :=
  ⟨fun _ => trivial, fun _ => rfl⟩
theorem aux24OvercurrentOff : Statement (.aux24OvercurrentOff) :=
  ⟨fun _ => trivial, fun _ => rfl⟩
theorem dramRefresh : Statement (.dramRefresh) :=
  ⟨fun _ => trivial, fun _ => rfl⟩
theorem flcOpStart : Statement (.flcOpStart) :=
  ⟨fun _ => trivial, fun _ => rfl⟩
theorem flcProgramTimeout : Statement (.flcProgramTimeout) :=
  ⟨fun _ => trivial, fun _ => rfl⟩
theorem flcEraseDone : Statement (.flcEraseDone) :=
  ⟨fun _ => trivial, fun _ => rfl⟩
theorem flcEraseTimeout : Statement (.flcEraseTimeout) :=
  ⟨fun _ => trivial, fun _ => rfl⟩
theorem flcCompaction : Statement (.flcCompaction) :=
  ⟨fun _ => trivial, fun _ => rfl⟩
theorem nodeIdLost : Statement (.nodeIdLost) :=
  ⟨fun _ => trivial, fun _ => rfl⟩
theorem fabricWakeDetect : Statement (.fabricWakeDetect) :=
  ⟨fun _ => trivial, fun _ => rfl⟩
theorem cyclicSnapshot : Statement (.cyclicSnapshot) :=
  ⟨fun _ => trivial, fun _ => rfl⟩
theorem cyclicWindowClose : Statement (.cyclicWindowClose) :=
  ⟨fun _ => trivial, fun _ => rfl⟩
theorem echoSend : Statement (.echoSend) :=
  ⟨fun _ => trivial, fun _ => rfl⟩
theorem syncSend : Statement (.syncSend) :=
  ⟨fun _ => trivial, fun _ => rfl⟩
theorem syncTimeout : Statement (.syncTimeout) :=
  ⟨fun _ => trivial, fun _ => rfl⟩
theorem stoChainRelease : Statement (.stoChainRelease) :=
  ⟨fun _ => trivial, fun _ => rfl⟩
theorem stoDiscrepancy : Statement (.stoDiscrepancy) :=
  ⟨fun _ => trivial, fun _ => rfl⟩
theorem ss1Expire : Statement (.ss1Expire) :=
  ⟨fun _ => trivial, fun _ => rfl⟩
theorem safeStopAckTimeout : Statement (.safeStopAckTimeout) :=
  ⟨fun _ => trivial, fun _ => rfl⟩
theorem lockstepMismatch : Statement (.lockstepMismatch) :=
  ⟨fun _ => trivial, fun _ => rfl⟩
theorem mwdtHalf : Statement (.mwdtHalf) :=
  ⟨fun _ => trivial, fun _ => rfl⟩
theorem mwdtExpire : Statement (.mwdtExpire) :=
  ⟨fun _ => trivial, fun _ => rfl⟩
theorem cryJobDone : Statement (.cryJobDone) :=
  ⟨fun _ => trivial, fun _ => rfl⟩
theorem dormantEntryComplete : Statement (.dormantEntryComplete) :=
  ⟨fun _ => trivial, fun _ => rfl⟩
theorem wake : Statement (.wake) :=
  ⟨fun _ => trivial, fun _ => rfl⟩
theorem wakeRestore : Statement (.wakeRestore) :=
  ⟨fun _ => trivial, fun _ => rfl⟩
theorem wakeComplete : Statement (.wakeComplete) :=
  ⟨fun _ => trivial, fun _ => rfl⟩
theorem aonTimerExpire : Statement (.aonTimerExpire) :=
  ⟨fun _ => trivial, fun _ => rfl⟩
theorem lbistStart : Statement (.lbistStart) :=
  ⟨fun _ => trivial, fun _ => rfl⟩
theorem lbistRecordWritten : Statement (.lbistRecordWritten) :=
  ⟨fun _ => trivial, fun _ => rfl⟩
theorem tapReset : Statement (.tapReset) :=
  ⟨fun _ => trivial, fun _ => rfl⟩
theorem idcode : Statement (.idcode) :=
  ⟨fun _ => trivial, fun _ => rfl⟩
theorem samplePreload : Statement (.samplePreload) :=
  ⟨fun _ => trivial, fun _ => rfl⟩
theorem bypass : Statement (.bypass) :=
  ⟨fun _ => trivial, fun _ => rfl⟩
theorem dbgAuthDone : Statement (.dbgAuthDone) :=
  ⟨fun _ => trivial, fun _ => rfl⟩
theorem tickJitterDelivery : Statement (.tickJitterDelivery) :=
  ⟨fun _ => trivial, fun _ => rfl⟩
theorem isoConverterStart : Statement (.isoConverterStart) :=
  ⟨fun _ => trivial, fun _ => rfl⟩

end Sys2Proof.Laws.Operands
end

