-- ==== Sys2Proof/Machine/Contacts.lean ====
section
/-! DEFINITION. What the module does at its contacts: the feedback ports by port mode (R52), and every group of contacts by mode
(R64).  The contacts follow the state; no command acts on them otherwise. -/
namespace Sys2Proof.Machine

/-- How a contact or a pair of contacts stands. -/
inductive Contact where
  /-- the module is unpowered -/
  | unpowered
  /-- at high impedance, its termination off, ignored by the module -/
  | highZ
  /-- an input, with or without the 120 Ω termination -/
  | input (term : Bool)
  /-- driven to a level -/
  | driven (level : Bool)
  deriving DecidableEq, Repr

/-- The use of a port's A pair, B pair and Z contact. -/
structure PortContacts where
  /-- A+ with A−, or A+ alone as Hall 1 -/
  a : Contact
  /-- B+ with B−, or B+ alone as Hall 2 -/
  b : Contact
  /-- Z: the index, or Hall 3 -/
  z : Contact
  deriving DecidableEq, Repr

/-- The level of an SSI clock (R278): high while idle; from the trigger BITS + 1 half-periods low and high in turn, then high. -/
def State.ssiClock (s : State) (a : Nat) : Bool :=
  let x := s.port a
  let k := (s.now + s.inForce (F.FB_AX_SER_DLY a) - x.latchAt) / max 1 (s.inForce (F.FB_AX_SER_HP a))
  !x.busy || decide (2 * s.inForce (F.FB_AX_SER_BITS a) ≤ k) || k % 2 == 1

/-- What the module puts on the B pair of a Tephra port while it sends a request: the Manchester code of the bit that is due, most
significant bit first, a 1 rising at mid-bit (R279, R280). -/
def State.tephraLevel (s : State) (a : Nat) : Bool :=
  let x := s.port a
  let t := s.now + 900 + s.inForce (F.FB_AX_SER_DLY a) - x.latchAt
  let one := x.request.testBit (11 - t / 75)
  one == decide (75 ≤ 2 * (t % 75))

/-- The feedback contacts of port `a` (R52, R64, R269, R270, R279): by the port mode once the configuration is read. -/
def State.portContacts (s : State) (a : Nat) : PortContacts :=
  let term := s.inForce (F.FB_AX_CFG_TERM a) == 1
  let z : Contact := .highZ
  if s.mode == .off then ⟨.unpowered, .unpowered, .unpowered⟩
  else if s.mode == .dormant || s.earlyBoot then ⟨z, z, z⟩
  else
    match (s.port a).mode with
    | 1 => ⟨.input term, .input term, .input false⟩
    | 2 => ⟨.input false, .input false, .input false⟩
    | 3 => ⟨if s.mode == .shutdown then z else .driven (s.ssiClock a), .input term, z⟩
    | 4 => ⟨z, if s.drivesB a then .driven (s.tephraLevel a) else .input term, z⟩
    | _ => ⟨z, z, z⟩

/-- The emulation contacts of channel `n`: A, B and Z (R54, R64, R296, R299). -/
def State.emuContacts (s : State) (n : Nat) : PortContacts :=
  if s.mode == .off then ⟨.unpowered, .unpowered, .unpowered⟩
  else
    match s.emuLevels n with
    | some (a, b, z) => ⟨.driven a, .driven b, .driven z⟩
    | none => ⟨.highZ, .highZ, .highZ⟩

/-- The contact of DIO `k` (R64, R67, R68). -/
def State.dioContact (s : State) (k : Nat) : Contact :=
  if s.mode == .off then .unpowered
  else
    match s.dioDriven k with
    | some b => .driven b
    | none => .input false

/-- Whether the switches of a motor phase are on: high side, low side (R64). -/
def State.phaseContact (s : State) (a p : Nat) : Bool × Bool :=
  match (s.phase a p).gate with
  | .high => (true, false)
  | .low => (false, true)
  | _ => (false, false)

/-- Whether the STO inputs are monitored (R64). -/
def State.stoMonitored (s : State) : Bool := !s.modeIn [.off, .dormant]

/-- Whether SAFE_ST conducts (R56, R64): both STO channels released, so that they agree, no safety fault, and a mode in which it may. -/
def State.safeSt (s : State) : Bool :=
  s.stoIn.testBit 0 && s.stoIn.testBit 1 && s.reg A.SAF_FAULT == 0 && s.modeIn [.standby, .armed, .run]

/-- Whether the 24 V brake output `k` is energised (R49, R50, R64). -/
def State.brakeOn (s : State) (k : Nat) : Bool := s.bitAt F.PWR_BRKSTAT_OUT k && s.modeIn [.standby, .armed, .run]

/-- Whether the analogue inputs are measured (R64). -/
def State.ainMeasured (s : State) : Bool := !s.modeIn [.off, .dormant]

end Sys2Proof.Machine
end

