-- ==== Sys2Proof/Tests/Slice0.lean ====
section
/-! SUPPORT. The model's own tests: ill-formed operands that the check refuses, single steps on small states, and for every
statement of Certificates/Slice0/Obligations.lean that has hypotheses a state and operands that meet them. -/
set_option Elab.async false
open Sys2Proof Sys2Proof.Machine

/-- A state past BOOT with the listed registers written over the reset state. -/
def Sys2Proof.Wit.st (l : List (Nat × Word)) : State :=
  l.foldl (fun s p => s.setReg p.1 p.2) { State.reset with alarms := [], bootStage := 13, auxOn := true, now := 1000000, beat := 5 }

/-- The same in BOOT at row `n` of R81. -/
def Sys2Proof.Wit.boot (n : Nat) (l : List (Nat × Word)) : State :=
  l.foldl (fun s p => s.setReg p.1 p.2) { State.reset with alarms := [], bootStage := n }

/-- Core `c` runs at its reset vector with the listed window registers. -/
def Sys2Proof.Wit.run (s : State) (c : Nat) (l : List (Nat × Word)) : State :=
  s.setCore c { Core.init with run := .running, released := true, pc := BitVec.ofNat 48 (isramBase c), wregs := l }

/-- A Plovkolu frame from a host with a universally administered address, its payload followed by `rest`. -/
def Sys2Proof.Wit.plvkRest (type flags dst src hops : Nat) (payload rest : List Byte) : List Byte :=
  wireFrame [0x03, 0x50, 0x4B, 0, 0, 0] [0, 1, 2, 3, 4, 5] []
    (fabHeader type flags dst src hops 64 5 payload.length ++ payload ++ rest)

/-- The same with nothing after the payload. -/
def Sys2Proof.Wit.plvk (type flags dst src hops : Nat) (payload : List Byte) : List Byte :=
  plvkRest type flags dst src hops payload []

/-- A frame of a session whose MAC key is `key`. -/
def Sys2Proof.Wit.signed (key : List Byte) (type flags dst src : Nat) (payload : List Byte) : List Byte :=
  plvkRest type flags dst src 0 payload
    (hmac key (hdrCovered (fabHeader type flags dst src 0 64 5 payload.length) ++ payload))

/-- A frame with one byte of its header changed. -/
def Sys2Proof.Wit.badHcrc (l : List Byte) : List Byte := l.take 16 ++ [0xFE] ++ l.drop 17

/-- The parts of a frame. -/
def Sys2Proof.Wit.parts (l : List Byte) : Parsed :=
  match parseFrame l with
  | some x => x
  | none => ⟨[], [], [], 0, 0, 0, 0, 0, 0, 0, 0, [], [], [], false, false, false, false⟩

/-- A far transaction to fill in. -/
def Sys2Proof.Wit.noFar : FarOp := ⟨0, 0, false, 0, 0, 0, 0, false, [], .plain⟩

/-- An SFP identification page whose power bits are `b`. -/
def Sys2Proof.Wit.sfp (b : Byte) : List Byte :=
  [3, 0, 0, 0x20] ++ List.replicate 59 0 ++ [0x23, b] ++ List.replicate 31 0

/-- A word whose bit 41 is set, as an address, has the locally administered bit set. -/
theorem Sys2Proof.Wit.macBit (w : Word) (h : w.getLsbD 41 = true) : ((beBytes 6 w.toNat).getD 0 0).getLsbD 1 = true := by
  have e : (beBytes 6 w.toNat).getD 0 0 = BitVec.ofNat 8 (w.toNat / 256 / 256 / 256 / 256 / 256) := by
    simp [beBytes, leBytes]
  rw [e, ← h]
  simp [BitVec.getLsbD, Nat.testBit, Nat.shiftRight_eq_div_pow, Nat.div_div_eq_div_mul]
  have : BitVec.toNat w / 1099511627776 % 256 / 2 % 2 = BitVec.toNat w / 2199023255552 % 2 := by omega
  rw [this]
/-- An address whose second lowest bit of the first byte is 0 is no address of a port (R506). -/
theorem Sys2Proof.Wit.foreign_of (m : List Byte) (h : (m.getD 0 0).getLsbD 1 = false) : foreign m = true := by
  have k : ∀ p : Nat, m ≠ portMac p := by
    intro p e
    have b : ((portMac p).getD 0 0).getLsbD 1 = true := by
      unfold portMac
      apply Sys2Proof.Wit.macBit
      split <;> simp [fabMac]
    rw [e, b] at h
    cases h
  simp [foreign, k]

open Sys2Proof.Wit
/-! FRAMES of the witnesses, and their parts. -/
/-- Frame 1. -/
def Sys2Proof.Wit.fr1 : List Byte :=
  [0x03, 0x50, 0x4b, 0x00, 0x00, 0x00, 0x00, 0x01, 0x02, 0x03, 0x04, 0x05, 0x88, 0xb5, 0x19, 0x00, 0xfe, 0x05, 0x00, 0x07,
  0x00, 0x40, 0x00, 0x00, 0x00, 0x05, 0x00, 0x01, 0x53, 0xd4, 0x01, 0x00, 0x00, 0x00, 0x00, 0x00, 0x00, 0x00, 0x00, 0x00,
  0x00, 0x00, 0x00, 0x00, 0x00, 0x00, 0x00, 0x00, 0x00, 0x00, 0x00, 0x00, 0x00, 0x00, 0x00, 0x00, 0x00, 0x00, 0x00, 0x00,
  0xa9, 0xda, 0x90, 0x3f]
/-- Its parts. -/
def Sys2Proof.Wit.pa1 : Parsed :=
  ⟨ [0x03, 0x50, 0x4b, 0x00, 0x00, 0x00], [0x00, 0x01, 0x02, 0x03, 0x04, 0x05], [], 9, 1, 0, 1541, 7, 0, 64, 5, [0x19,
  0x00, 0xfe, 0x05, 0x00, 0x07, 0x00, 0x40, 0x00, 0x00, 0x00, 0x05, 0x00, 0x01, 0x53, 0xd4], [0x01], [0x00, 0x00, 0x00,
  0x00, 0x00, 0x00, 0x00, 0x00, 0x00, 0x00, 0x00, 0x00, 0x00, 0x00, 0x00, 0x00, 0x00, 0x00, 0x00, 0x00, 0x00, 0x00, 0x00,
  0x00, 0x00, 0x00, 0x00, 0x00, 0x00], true, false, false, false ⟩
/-- Frame 2. -/
def Sys2Proof.Wit.fr2 : List Byte :=
  [0x03, 0x50, 0x4b, 0x00, 0x00, 0x00, 0x00, 0x01, 0x02, 0x03, 0x04, 0x05, 0x88, 0xb5, 0x12, 0x40, 0xfe, 0x05, 0x00, 0x07,
  0x00, 0x40, 0x00, 0x00, 0x00, 0x05, 0x00, 0x01, 0x4a, 0x6b, 0x01, 0x00, 0x00, 0x00, 0x00, 0x00, 0x00, 0x00, 0x00, 0x00,
  0x00, 0x00, 0x00, 0x00, 0x00, 0x00, 0x00, 0x00, 0x00, 0x00, 0x00, 0x00, 0x00, 0x00, 0x00, 0x00, 0x00, 0x00, 0x00, 0x00,
  0x63, 0x48, 0x8b, 0xb7]
/-- Its parts. -/
def Sys2Proof.Wit.pa2 : Parsed :=
  ⟨ [0x03, 0x50, 0x4b, 0x00, 0x00, 0x00], [0x00, 0x01, 0x02, 0x03, 0x04, 0x05], [], 2, 1, 64, 1541, 7, 0, 64, 5, [0x12,
  0x40, 0xfe, 0x05, 0x00, 0x07, 0x00, 0x40, 0x00, 0x00, 0x00, 0x05, 0x00, 0x01, 0x4a, 0x6b], [0x01], [0x00, 0x00, 0x00,
  0x00, 0x00, 0x00, 0x00, 0x00, 0x00, 0x00, 0x00, 0x00, 0x00, 0x00, 0x00, 0x00, 0x00, 0x00, 0x00, 0x00, 0x00, 0x00, 0x00,
  0x00, 0x00, 0x00, 0x00, 0x00, 0x00], true, false, false, false ⟩
/-- Frame 3. -/
def Sys2Proof.Wit.fr3 : List Byte :=
  [0x03, 0x50, 0x4b, 0x00, 0x00, 0x00, 0x00, 0x01, 0x02, 0x03, 0x04, 0x05, 0x88, 0xb5, 0x17, 0x00, 0x00, 0x05, 0x00, 0x07,
  0x3e, 0x40, 0x00, 0x00, 0x00, 0x05, 0x00, 0x02, 0xe7, 0x86, 0x01, 0x02, 0x00, 0x00, 0x00, 0x00, 0x00, 0x00, 0x00, 0x00,
  0x00, 0x00, 0x00, 0x00, 0x00, 0x00, 0x00, 0x00, 0x00, 0x00, 0x00, 0x00, 0x00, 0x00, 0x00, 0x00, 0x00, 0x00, 0x00, 0x00,
  0x40, 0x0e, 0xb3, 0x98]
/-- Its parts. -/
def Sys2Proof.Wit.pa3 : Parsed :=
  ⟨ [0x03, 0x50, 0x4b, 0x00, 0x00, 0x00], [0x00, 0x01, 0x02, 0x03, 0x04, 0x05], [], 7, 1, 0, 5, 7, 62, 64, 5, [0x17, 0x00,
  0x00, 0x05, 0x00, 0x07, 0x3e, 0x40, 0x00, 0x00, 0x00, 0x05, 0x00, 0x02, 0xe7, 0x86], [0x01, 0x02], [0x00, 0x00, 0x00,
  0x00, 0x00, 0x00, 0x00, 0x00, 0x00, 0x00, 0x00, 0x00, 0x00, 0x00, 0x00, 0x00, 0x00, 0x00, 0x00, 0x00, 0x00, 0x00, 0x00,
  0x00, 0x00, 0x00, 0x00, 0x00], true, true, true, false ⟩
/-- Frame 4. -/
def Sys2Proof.Wit.fr4 : List Byte :=
  [0x03, 0x50, 0x4b, 0x00, 0x00, 0x00, 0x00, 0x01, 0x02, 0x03, 0x04, 0x05, 0x88, 0xb5, 0x12, 0x40, 0x00, 0x00, 0x00, 0x07,
  0x04, 0x40, 0x00, 0x00, 0x00, 0x05, 0x00, 0x08, 0x19, 0x32, 0x00, 0x00, 0x07, 0xfb, 0x00, 0x00, 0x00, 0x00, 0x00, 0x00,
  0x00, 0x00, 0x00, 0x00, 0x00, 0x00, 0x00, 0x00, 0x00, 0x00, 0x00, 0x00, 0x00, 0x00, 0x00, 0x00, 0x00, 0x00, 0x00, 0x00,
  0x2a, 0x1a, 0xda, 0x13]
/-- Its parts. -/
def Sys2Proof.Wit.pa4 : Parsed :=
  ⟨ [0x03, 0x50, 0x4b, 0x00, 0x00, 0x00], [0x00, 0x01, 0x02, 0x03, 0x04, 0x05], [], 2, 1, 64, 0, 7, 4, 64, 5, [0x12, 0x40,
  0x00, 0x00, 0x00, 0x07, 0x04, 0x40, 0x00, 0x00, 0x00, 0x05, 0x00, 0x08, 0x19, 0x32], [0x00, 0x00, 0x07, 0xfb, 0x00, 0x00,
  0x00, 0x00], [0x00, 0x00, 0x00, 0x00, 0x00, 0x00, 0x00, 0x00, 0x00, 0x00, 0x00, 0x00, 0x00, 0x00, 0x00, 0x00, 0x00, 0x00,
  0x00, 0x00, 0x00, 0x00], true, true, true, false ⟩
/-- Frame 5. -/
def Sys2Proof.Wit.fr5 : List Byte :=
  [0x03, 0x50, 0x4b, 0x00, 0x00, 0x00, 0x00, 0x01, 0x02, 0x03, 0x04, 0x05, 0x88, 0xb5, 0x12, 0x40, 0x00, 0x00, 0x00, 0x07,
  0x00, 0x40, 0x00, 0x00, 0x00, 0x05, 0x00, 0x08, 0x19, 0x32, 0x02, 0x00, 0x00, 0x00, 0x00, 0x00, 0x00, 0x00, 0x00, 0x00,
  0x00, 0x00, 0x00, 0x00, 0x00, 0x00, 0x00, 0x00, 0x00, 0x00, 0x00, 0x00, 0x00, 0x00, 0x00, 0x00, 0x00, 0x00, 0x00, 0x00,
  0x7e, 0x91, 0x8d, 0x10]
/-- Its parts. -/
def Sys2Proof.Wit.pa5 : Parsed :=
  ⟨ [0x03, 0x50, 0x4b, 0x00, 0x00, 0x00], [0x00, 0x01, 0x02, 0x03, 0x04, 0x05], [], 2, 1, 64, 0, 7, 0, 64, 5, [0x12, 0x40,
  0x00, 0x00, 0x00, 0x07, 0x00, 0x40, 0x00, 0x00, 0x00, 0x05, 0x00, 0x08, 0x19, 0x32], [0x02, 0x00, 0x00, 0x00, 0x00, 0x00,
  0x00, 0x00], [0x00, 0x00, 0x00, 0x00, 0x00, 0x00, 0x00, 0x00, 0x00, 0x00, 0x00, 0x00, 0x00, 0x00, 0x00, 0x00, 0x00, 0x00,
  0x00, 0x00, 0x00, 0x00], true, true, true, false ⟩
/-- Frame 6. -/
def Sys2Proof.Wit.fr6 : List Byte :=
  [0x03, 0x50, 0x4b, 0x00, 0x00, 0x00, 0x00, 0x01, 0x02, 0x03, 0x04, 0x05, 0x88, 0xb5, 0x12, 0x40, 0x00, 0x00, 0x00, 0x07,
  0xff, 0x40, 0x00, 0x00, 0x00, 0x05, 0x00, 0x08, 0x19, 0x32, 0x00, 0x00, 0x00, 0x00, 0x00, 0x00, 0x00, 0x00, 0x00, 0x00,
  0x00, 0x00, 0x00, 0x00, 0x00, 0x00, 0x00, 0x00, 0x00, 0x00, 0x00, 0x00, 0x00, 0x00, 0x00, 0x00, 0x00, 0x00, 0x00, 0x00,
  0x0b, 0x22, 0xd8, 0x81]
/-- Its parts. -/
def Sys2Proof.Wit.pa6 : Parsed :=
  ⟨ [0x03, 0x50, 0x4b, 0x00, 0x00, 0x00], [0x00, 0x01, 0x02, 0x03, 0x04, 0x05], [], 2, 1, 64, 0, 7, 255, 64, 5, [0x12,
  0x40, 0x00, 0x00, 0x00, 0x07, 0xff, 0x40, 0x00, 0x00, 0x00, 0x05, 0x00, 0x08, 0x19, 0x32], [0x00, 0x00, 0x00, 0x00, 0x00,
  0x00, 0x00, 0x00], [0x00, 0x00, 0x00, 0x00, 0x00, 0x00, 0x00, 0x00, 0x00, 0x00, 0x00, 0x00, 0x00, 0x00, 0x00, 0x00, 0x00,
  0x00, 0x00, 0x00, 0x00, 0x00], true, true, true, false ⟩
/-- Frame 7. -/
def Sys2Proof.Wit.fr7 : List Byte :=
  [0x03, 0x50, 0x4b, 0x00, 0x00, 0x00, 0x00, 0x01, 0x02, 0x03, 0x04, 0x05, 0x88, 0xb5, 0x13, 0x40, 0x00, 0x00, 0x00, 0x07,
  0x03, 0x40, 0x00, 0x00, 0x00, 0x05, 0x00, 0x08, 0x5c, 0x51, 0x01, 0x02, 0x03, 0x04, 0x05, 0x06, 0x00, 0x09, 0x00, 0x00,
  0x00, 0x00, 0x00, 0x00, 0x00, 0x00, 0x00, 0x00, 0x00, 0x00, 0x00, 0x00, 0x00, 0x00, 0x00, 0x00, 0x00, 0x00, 0x00, 0x00,
  0xbe, 0x0d, 0xd8, 0x77]
/-- Its parts. -/
def Sys2Proof.Wit.pa7 : Parsed :=
  ⟨ [0x03, 0x50, 0x4b, 0x00, 0x00, 0x00], [0x00, 0x01, 0x02, 0x03, 0x04, 0x05], [], 3, 1, 64, 0, 7, 3, 64, 5, [0x13, 0x40,
  0x00, 0x00, 0x00, 0x07, 0x03, 0x40, 0x00, 0x00, 0x00, 0x05, 0x00, 0x08, 0x5c, 0x51], [0x01, 0x02, 0x03, 0x04, 0x05, 0x06,
  0x00, 0x09], [0x00, 0x00, 0x00, 0x00, 0x00, 0x00, 0x00, 0x00, 0x00, 0x00, 0x00, 0x00, 0x00, 0x00, 0x00, 0x00, 0x00, 0x00,
  0x00, 0x00, 0x00, 0x00], true, true, true, false ⟩
/-- Frame 8. -/
def Sys2Proof.Wit.fr8 : List Byte :=
  [0x03, 0x50, 0x4b, 0x00, 0x00, 0x00, 0x00, 0x01, 0x02, 0x03, 0x04, 0x05, 0x88, 0xb5, 0x13, 0x40, 0x00, 0x00, 0x00, 0x07,
  0x03, 0x40, 0x00, 0x00, 0x00, 0x05, 0x00, 0x08, 0x5c, 0x51, 0x01, 0x02, 0x03, 0x04, 0x05, 0x06, 0x00, 0x00, 0x00, 0x00,
  0x00, 0x00, 0x00, 0x00, 0x00, 0x00, 0x00, 0x00, 0x00, 0x00, 0x00, 0x00, 0x00, 0x00, 0x00, 0x00, 0x00, 0x00, 0x00, 0x00,
  0x4c, 0xa4, 0x12, 0xec]
/-- Its parts. -/
def Sys2Proof.Wit.pa8 : Parsed :=
  ⟨ [0x03, 0x50, 0x4b, 0x00, 0x00, 0x00], [0x00, 0x01, 0x02, 0x03, 0x04, 0x05], [], 3, 1, 64, 0, 7, 3, 64, 5, [0x13, 0x40,
  0x00, 0x00, 0x00, 0x07, 0x03, 0x40, 0x00, 0x00, 0x00, 0x05, 0x00, 0x08, 0x5c, 0x51], [0x01, 0x02, 0x03, 0x04, 0x05, 0x06,
  0x00, 0x00], [0x00, 0x00, 0x00, 0x00, 0x00, 0x00, 0x00, 0x00, 0x00, 0x00, 0x00, 0x00, 0x00, 0x00, 0x00, 0x00, 0x00, 0x00,
  0x00, 0x00, 0x00, 0x00], true, true, true, false ⟩
/-- Frame 9. -/
def Sys2Proof.Wit.fr9 : List Byte :=
  [0x03, 0x50, 0x4b, 0x00, 0x00, 0x00, 0x00, 0x01, 0x02, 0x03, 0x04, 0x05, 0x88, 0xb5, 0x16, 0x80, 0x00, 0x05, 0x00, 0x07,
  0x00, 0x40, 0x00, 0x00, 0x00, 0x05, 0x00, 0x0e, 0xc9, 0xc8, 0x09, 0x08, 0x07, 0x06, 0x00, 0x03, 0x03, 0x00, 0x00, 0x0a,
  0x00, 0x06, 0x06, 0x00, 0x79, 0xe6, 0x06, 0xb8, 0x80, 0xa2, 0xef, 0xa5, 0x32, 0x1f, 0xa1, 0x68, 0x9d, 0xc1, 0xd0, 0x73,
  0xdc, 0xa9, 0x69, 0x2c, 0xa7, 0x69, 0xc1, 0x0f, 0x11, 0x79, 0x87, 0x2f, 0x15, 0x19, 0xd3, 0x43, 0xc5, 0x35, 0xf7, 0xa9]
/-- Its parts. -/
def Sys2Proof.Wit.pa9 : Parsed :=
  ⟨ [0x03, 0x50, 0x4b, 0x00, 0x00, 0x00], [0x00, 0x01, 0x02, 0x03, 0x04, 0x05], [], 6, 1, 128, 5, 7, 0, 64, 5, [0x16, 0x80,
  0x00, 0x05, 0x00, 0x07, 0x00, 0x40, 0x00, 0x00, 0x00, 0x05, 0x00, 0x0e, 0xc9, 0xc8], [0x09, 0x08, 0x07, 0x06, 0x00, 0x03,
  0x03, 0x00, 0x00, 0x0a, 0x00, 0x06, 0x06, 0x00], [0x79, 0xe6, 0x06, 0xb8, 0x80, 0xa2, 0xef, 0xa5, 0x32, 0x1f, 0xa1, 0x68,
  0x9d, 0xc1, 0xd0, 0x73, 0xdc, 0xa9, 0x69, 0x2c, 0xa7, 0x69, 0xc1, 0x0f, 0x11, 0x79, 0x87, 0x2f, 0x15, 0x19, 0xd3, 0x43],
  true, true, true, false ⟩
/-- Frame 10. -/
def Sys2Proof.Wit.fr10 : List Byte :=
  [0x03, 0x50, 0x4b, 0x00, 0x00, 0x00, 0x00, 0x01, 0x02, 0x03, 0x04, 0x05, 0x88, 0xb5, 0x17, 0x80, 0x00, 0x05, 0x00, 0x07,
  0x00, 0x40, 0x00, 0x00, 0x00, 0x05, 0x00, 0x10, 0x7f, 0x54, 0x09, 0x08, 0x07, 0x06, 0x00, 0x03, 0x03, 0x00, 0x00, 0x0f,
  0x00, 0x02, 0x02, 0x00, 0xab, 0xcd, 0x19, 0x43, 0xef, 0x9c, 0x86, 0x4d, 0x21, 0xf5, 0x23, 0xfd, 0xa3, 0x79, 0x95, 0xec,
  0x03, 0x24, 0x45, 0x10, 0x59, 0xf3, 0xcf, 0x2f, 0x81, 0x26, 0xbd, 0x75, 0x78, 0x92, 0x53, 0x8f, 0xc2, 0x00, 0xdf, 0xd2,
  0x67, 0x7f]
/-- Its parts. -/
def Sys2Proof.Wit.pa10 : Parsed :=
  ⟨ [0x03, 0x50, 0x4b, 0x00, 0x00, 0x00], [0x00, 0x01, 0x02, 0x03, 0x04, 0x05], [], 7, 1, 128, 5, 7, 0, 64, 5, [0x17, 0x80,
  0x00, 0x05, 0x00, 0x07, 0x00, 0x40, 0x00, 0x00, 0x00, 0x05, 0x00, 0x10, 0x7f, 0x54], [0x09, 0x08, 0x07, 0x06, 0x00, 0x03,
  0x03, 0x00, 0x00, 0x0f, 0x00, 0x02, 0x02, 0x00, 0xab, 0xcd], [0x19, 0x43, 0xef, 0x9c, 0x86, 0x4d, 0x21, 0xf5, 0x23, 0xfd,
  0xa3, 0x79, 0x95, 0xec, 0x03, 0x24, 0x45, 0x10, 0x59, 0xf3, 0xcf, 0x2f, 0x81, 0x26, 0xbd, 0x75, 0x78, 0x92, 0x53, 0x8f,
  0xc2, 0x00], true, true, true, false ⟩
/-- Frame 11. -/
def Sys2Proof.Wit.fr11 : List Byte :=
  [0x03, 0x50, 0x4b, 0x00, 0x00, 0x00, 0x00, 0x01, 0x02, 0x03, 0x04, 0x05, 0x88, 0xb5, 0x16, 0xa0, 0x00, 0x05, 0x00, 0x07,
  0x00, 0x40, 0x00, 0x00, 0x00, 0x05, 0x00, 0x0a, 0xe7, 0xec, 0x09, 0x08, 0x07, 0x06, 0x00, 0x00, 0x00, 0x01, 0xfe, 0x80,
  0x76, 0x5c, 0xc8, 0x84, 0xd0, 0x69, 0x01, 0xde, 0x02, 0x94, 0x12, 0xbd, 0x10, 0xb1, 0xe2, 0xad, 0x5a, 0xd1, 0xc9, 0x96,
  0x1e, 0x7e, 0x90, 0xbb, 0x6d, 0x02, 0x2e, 0xff, 0x5a, 0xd0, 0x17, 0x33, 0x8b, 0x3c, 0xd2, 0x5d]
/-- Its parts. -/
def Sys2Proof.Wit.pa11 : Parsed :=
  ⟨ [0x03, 0x50, 0x4b, 0x00, 0x00, 0x00], [0x00, 0x01, 0x02, 0x03, 0x04, 0x05], [], 6, 1, 160, 5, 7, 0, 64, 5, [0x16, 0xa0,
  0x00, 0x05, 0x00, 0x07, 0x00, 0x40, 0x00, 0x00, 0x00, 0x05, 0x00, 0x0a, 0xe7, 0xec], [0x09, 0x08, 0x07, 0x06, 0x00, 0x00,
  0x00, 0x01, 0xfe, 0x80], [0x76, 0x5c, 0xc8, 0x84, 0xd0, 0x69, 0x01, 0xde, 0x02, 0x94, 0x12, 0xbd, 0x10, 0xb1, 0xe2, 0xad,
  0x5a, 0xd1, 0xc9, 0x96, 0x1e, 0x7e, 0x90, 0xbb, 0x6d, 0x02, 0x2e, 0xff, 0x5a, 0xd0, 0x17, 0x33], true, true, true, false
  ⟩
/-- Frame 12. -/
def Sys2Proof.Wit.fr12 : List Byte :=
  []
/-- Its parts. -/
def Sys2Proof.Wit.pa12 : Parsed :=
  ⟨ [], [], [], 0, 0, 0, 0, 0, 0, 0, 0, [], [], [], false, false, false, false ⟩
/-- Frame 13. -/
def Sys2Proof.Wit.fr13 : List Byte :=
  [0x03, 0x50, 0x4b, 0x00, 0x00, 0x00, 0x00, 0x01, 0x02, 0x03, 0x04, 0x05, 0x88, 0xb5, 0x18, 0x00, 0x00, 0x00, 0x00, 0x07,
  0x00, 0x40, 0x00, 0x00, 0x00, 0x05, 0x00, 0x1c, 0x17, 0x5b, 0x01, 0x01, 0x00, 0x09, 0x00, 0x00, 0x00, 0x00, 0x00, 0x00,
  0x00, 0x00, 0x00, 0x00, 0x00, 0x00, 0x00, 0x00, 0x00, 0x00, 0x00, 0x00, 0x00, 0x00, 0x00, 0x00, 0x00, 0x00, 0x00, 0x00,
  0x62, 0x23, 0x3c, 0x12]
/-- Its parts. -/
def Sys2Proof.Wit.pa13 : Parsed :=
  ⟨ [0x03, 0x50, 0x4b, 0x00, 0x00, 0x00], [0x00, 0x01, 0x02, 0x03, 0x04, 0x05], [], 8, 1, 0, 0, 7, 0, 64, 5, [0x18, 0x00,
  0x00, 0x00, 0x00, 0x07, 0x00, 0x40, 0x00, 0x00, 0x00, 0x05, 0x00, 0x1c, 0x17, 0x5b], [0x01, 0x01, 0x00, 0x09, 0x00, 0x00,
  0x00, 0x00, 0x00, 0x00, 0x00, 0x00, 0x00, 0x00, 0x00, 0x00, 0x00, 0x00, 0x00, 0x00, 0x00, 0x00, 0x00, 0x00, 0x00, 0x00,
  0x00, 0x00], [0x00, 0x00], true, true, true, false ⟩
/-- Frame 14. -/
def Sys2Proof.Wit.fr14 : List Byte :=
  [0x03, 0x50, 0x4b, 0x00, 0x00, 0x00, 0x00, 0x01, 0x02, 0x03, 0x04, 0x05, 0x88, 0xb5, 0x18, 0x20, 0x00, 0x00, 0x00, 0x07,
  0x00, 0x40, 0x00, 0x00, 0x00, 0x05, 0x00, 0x1c, 0x79, 0xfb, 0x02, 0x01, 0xff, 0xff, 0x00, 0x00, 0x00, 0x00, 0x00, 0x00,
  0x00, 0x00, 0x00, 0x00, 0x00, 0x00, 0x00, 0x00, 0x00, 0x00, 0x00, 0x00, 0x00, 0x00, 0x00, 0x00, 0x00, 0x00, 0x00, 0x00,
  0x53, 0x93, 0xa2, 0x28]
/-- Its parts. -/
def Sys2Proof.Wit.pa14 : Parsed :=
  ⟨ [0x03, 0x50, 0x4b, 0x00, 0x00, 0x00], [0x00, 0x01, 0x02, 0x03, 0x04, 0x05], [], 8, 1, 32, 0, 7, 0, 64, 5, [0x18, 0x20,
  0x00, 0x00, 0x00, 0x07, 0x00, 0x40, 0x00, 0x00, 0x00, 0x05, 0x00, 0x1c, 0x79, 0xfb], [0x02, 0x01, 0xff, 0xff, 0x00, 0x00,
  0x00, 0x00, 0x00, 0x00, 0x00, 0x00, 0x00, 0x00, 0x00, 0x00, 0x00, 0x00, 0x00, 0x00, 0x00, 0x00, 0x00, 0x00, 0x00, 0x00,
  0x00, 0x00], [0x00, 0x00], true, true, true, false ⟩
/-- Frame 15. -/
def Sys2Proof.Wit.fr15 : List Byte :=
  [0x03, 0x50, 0x4b, 0x00, 0x00, 0x00, 0x00, 0x01, 0x02, 0x03, 0x04, 0x05, 0x88, 0xb5, 0x18, 0x40, 0x00, 0x00, 0x00, 0x07,
  0x00, 0x40, 0x00, 0x00, 0x00, 0x05, 0x00, 0x1c, 0xca, 0x1b, 0x03, 0x00, 0x00, 0x00, 0x00, 0x00, 0x00, 0x00, 0x00, 0x00,
  0x00, 0x00, 0x00, 0x00, 0x00, 0x00, 0x00, 0x00, 0x00, 0x00, 0x00, 0x01, 0x24, 0xf8, 0x00, 0x00, 0x00, 0x00, 0x00, 0x00,
  0xe7, 0xc1, 0xbb, 0x91]
/-- Its parts. -/
def Sys2Proof.Wit.pa15 : Parsed :=
  ⟨ [0x03, 0x50, 0x4b, 0x00, 0x00, 0x00], [0x00, 0x01, 0x02, 0x03, 0x04, 0x05], [], 8, 1, 64, 0, 7, 0, 64, 5, [0x18, 0x40,
  0x00, 0x00, 0x00, 0x07, 0x00, 0x40, 0x00, 0x00, 0x00, 0x05, 0x00, 0x1c, 0xca, 0x1b], [0x03, 0x00, 0x00, 0x00, 0x00, 0x00,
  0x00, 0x00, 0x00, 0x00, 0x00, 0x00, 0x00, 0x00, 0x00, 0x00, 0x00, 0x00, 0x00, 0x00, 0x00, 0x01, 0x24, 0xf8, 0x00, 0x00,
  0x00, 0x00], [0x00, 0x00], true, true, true, false ⟩
/-- Frame 16. -/
def Sys2Proof.Wit.fr16 : List Byte :=
  [0x03, 0x50, 0x4b, 0x00, 0x00, 0x00, 0x00, 0x01, 0x02, 0x03, 0x04, 0x05, 0x88, 0xb5, 0x18, 0x40, 0x00, 0x00, 0x00, 0x07,
  0x00, 0x40, 0x00, 0x00, 0x00, 0x05, 0x00, 0x1c, 0xca, 0x1b, 0x03, 0x00, 0x00, 0x00, 0x00, 0x00, 0x00, 0x00, 0x00, 0x00,
  0x00, 0x00, 0x00, 0x00, 0x00, 0x00, 0x00, 0x00, 0x00, 0x00, 0x00, 0x00, 0x00, 0x00, 0x00, 0x00, 0x00, 0x00, 0x00, 0x00,
  0xb6, 0xcd, 0x6d, 0xac]
/-- Its parts. -/
def Sys2Proof.Wit.pa16 : Parsed :=
  ⟨ [0x03, 0x50, 0x4b, 0x00, 0x00, 0x00], [0x00, 0x01, 0x02, 0x03, 0x04, 0x05], [], 8, 1, 64, 0, 7, 0, 64, 5, [0x18, 0x40,
  0x00, 0x00, 0x00, 0x07, 0x00, 0x40, 0x00, 0x00, 0x00, 0x05, 0x00, 0x1c, 0xca, 0x1b], [0x03, 0x00, 0x00, 0x00, 0x00, 0x00,
  0x00, 0x00, 0x00, 0x00, 0x00, 0x00, 0x00, 0x00, 0x00, 0x00, 0x00, 0x00, 0x00, 0x00, 0x00, 0x00, 0x00, 0x00, 0x00, 0x00,
  0x00, 0x00], [0x00, 0x00], true, true, true, false ⟩
/-- Frame 17. -/
def Sys2Proof.Wit.fr17 : List Byte :=
  [0x03, 0x50, 0x4b, 0x00, 0x00, 0x00, 0x00, 0x01, 0x02, 0x03, 0x04, 0x05, 0x88, 0xb5, 0x11, 0x40, 0x00, 0x00, 0x00, 0x07,
  0x00, 0x40, 0x00, 0x00, 0x00, 0x05, 0x00, 0x28, 0xf2, 0xf5, 0x00, 0x01, 0x02, 0x03, 0x00, 0x00, 0x00, 0x00, 0x00, 0x00,
  0x00, 0x00, 0x00, 0x00, 0x00, 0x00, 0x01, 0x02, 0x03, 0x04, 0x05, 0x06, 0x07, 0x08, 0x09, 0x0a, 0x0b, 0x0c, 0xee, 0xee,
  0xee, 0xee, 0xee, 0xee, 0xee, 0xee, 0xee, 0xee, 0xee, 0xee, 0x7c, 0x80, 0x1c, 0x46]
/-- Its parts. -/
def Sys2Proof.Wit.pa17 : Parsed :=
  ⟨ [0x03, 0x50, 0x4b, 0x00, 0x00, 0x00], [0x00, 0x01, 0x02, 0x03, 0x04, 0x05], [], 1, 1, 64, 0, 7, 0, 64, 5, [0x11, 0x40,
  0x00, 0x00, 0x00, 0x07, 0x00, 0x40, 0x00, 0x00, 0x00, 0x05, 0x00, 0x28, 0xf2, 0xf5], [0x00, 0x01, 0x02, 0x03, 0x00, 0x00,
  0x00, 0x00, 0x00, 0x00, 0x00, 0x00, 0x00, 0x00, 0x00, 0x00, 0x01, 0x02, 0x03, 0x04, 0x05, 0x06, 0x07, 0x08, 0x09, 0x0a,
  0x0b, 0x0c, 0xee, 0xee, 0xee, 0xee, 0xee, 0xee, 0xee, 0xee, 0xee, 0xee, 0xee, 0xee], [], true, true, true, false ⟩
/-- Frame 18. -/
def Sys2Proof.Wit.fr18 : List Byte :=
  [0x03, 0x50, 0x4b, 0x00, 0x00, 0x00, 0x00, 0x01, 0x02, 0x03, 0x04, 0x05, 0x88, 0xb5, 0x15, 0x00, 0x00, 0x05, 0x00, 0x07,
  0x00, 0x40, 0x00, 0x00, 0x00, 0x05, 0x00, 0xa5, 0xa8, 0x4d, 0x01, 0x03, 0x00, 0x00, 0x3f, 0x00, 0x00, 0x00, 0x00, 0x00,
  0x00, 0x00, 0x00, 0x00, 0x00, 0x00, 0x00, 0x00, 0x00, 0x00, 0x00, 0x00, 0x00, 0x00, 0x00, 0x00, 0x00, 0x00, 0x00, 0x00,
  0x00, 0x00, 0x00, 0x00, 0x00, 0x00, 0x00, 0x00, 0x00, 0x00, 0x00, 0x00, 0x00, 0x00, 0x00, 0x00, 0x00, 0x00, 0x00, 0x00,
  0x00, 0x00, 0x00, 0x00, 0x00, 0x00, 0x00, 0x00, 0x00, 0x00, 0x00, 0x00, 0x00, 0x00, 0x00, 0x00, 0x00, 0x00, 0x00, 0x00,
  0x00, 0x00, 0x00, 0x00, 0x00, 0x00, 0x00, 0x00, 0x00, 0x00, 0x00, 0x00, 0x00, 0x00, 0x00, 0x00, 0x00, 0x00, 0x00, 0x00,
  0x00, 0x00, 0x00, 0x00, 0x00, 0x00, 0x00, 0x00, 0x00, 0x00, 0x00, 0x00, 0x00, 0x00, 0x00, 0x00, 0x00, 0x00, 0x00, 0x00,
  0x00, 0x00, 0x00, 0x00, 0x00, 0x00, 0x00, 0x00, 0x00, 0x00, 0x00, 0x00, 0x00, 0x00, 0x00, 0x00, 0x00, 0x00, 0x00, 0x00,
  0x00, 0x00, 0x00, 0x00, 0x00, 0x00, 0x00, 0x00, 0x00, 0x00, 0x00, 0x00, 0x00, 0x00, 0x00, 0x00, 0x00, 0x00, 0x00, 0x00,
  0x00, 0x00, 0x00, 0x00, 0x00, 0x00, 0x00, 0x00, 0x00, 0x00, 0x00, 0x00, 0x00, 0x00, 0x00, 0xc6, 0x91, 0x27, 0xbf]
/-- Its parts. -/
def Sys2Proof.Wit.pa18 : Parsed :=
  ⟨ [0x03, 0x50, 0x4b, 0x00, 0x00, 0x00], [0x00, 0x01, 0x02, 0x03, 0x04, 0x05], [], 5, 1, 0, 5, 7, 0, 64, 5, [0x15, 0x00,
  0x00, 0x05, 0x00, 0x07, 0x00, 0x40, 0x00, 0x00, 0x00, 0x05, 0x00, 0xa5, 0xa8, 0x4d], [0x01, 0x03, 0x00, 0x00, 0x3f, 0x00,
  0x00, 0x00, 0x00, 0x00, 0x00, 0x00, 0x00, 0x00, 0x00, 0x00, 0x00, 0x00, 0x00, 0x00, 0x00, 0x00, 0x00, 0x00, 0x00, 0x00,
  0x00, 0x00, 0x00, 0x00, 0x00, 0x00, 0x00, 0x00, 0x00, 0x00, 0x00, 0x00, 0x00, 0x00, 0x00, 0x00, 0x00, 0x00, 0x00, 0x00,
  0x00, 0x00, 0x00, 0x00, 0x00, 0x00, 0x00, 0x00, 0x00, 0x00, 0x00, 0x00, 0x00, 0x00, 0x00, 0x00, 0x00, 0x00, 0x00, 0x00,
  0x00, 0x00, 0x00, 0x00, 0x00, 0x00, 0x00, 0x00, 0x00, 0x00, 0x00, 0x00, 0x00, 0x00, 0x00, 0x00, 0x00, 0x00, 0x00, 0x00,
  0x00, 0x00, 0x00, 0x00, 0x00, 0x00, 0x00, 0x00, 0x00, 0x00, 0x00, 0x00, 0x00, 0x00, 0x00, 0x00, 0x00, 0x00, 0x00, 0x00,
  0x00, 0x00, 0x00, 0x00, 0x00, 0x00, 0x00, 0x00, 0x00, 0x00, 0x00, 0x00, 0x00, 0x00, 0x00, 0x00, 0x00, 0x00, 0x00, 0x00,
  0x00, 0x00, 0x00, 0x00, 0x00, 0x00, 0x00, 0x00, 0x00, 0x00, 0x00, 0x00, 0x00, 0x00, 0x00, 0x00, 0x00, 0x00, 0x00, 0x00,
  0x00, 0x00, 0x00, 0x00, 0x00, 0x00, 0x00, 0x00, 0x00, 0x00, 0x00, 0x00, 0x00, 0x00, 0x00, 0x00, 0x00, 0x00, 0x00], [],
  true, true, true, false ⟩
/-- Frame 19. -/
def Sys2Proof.Wit.fr19 : List Byte :=
  [0x03, 0x50, 0x4b, 0x00, 0x00, 0x00, 0x00, 0x01, 0x02, 0x03, 0x04, 0x05, 0x88, 0xb5, 0x15, 0x80, 0x00, 0x05, 0x00, 0x07,
  0x00, 0x40, 0x00, 0x00, 0x00, 0x05, 0x00, 0x03, 0xd7, 0xc0, 0x03, 0x03, 0x00, 0x0d, 0xa6, 0x03, 0x28, 0x97, 0x78, 0xc3,
  0x3b, 0x3f, 0x54, 0xfc, 0x99, 0xbd, 0x17, 0xcf, 0x48, 0x81, 0xb0, 0x70, 0x65, 0xbc, 0x1a, 0x58, 0x62, 0xee, 0x7a, 0xef,
  0xbb, 0x51, 0xad, 0xd9, 0xa3, 0xc8, 0xe5, 0x8c, 0x83]
/-- Its parts. -/
def Sys2Proof.Wit.pa19 : Parsed :=
  ⟨ [0x03, 0x50, 0x4b, 0x00, 0x00, 0x00], [0x00, 0x01, 0x02, 0x03, 0x04, 0x05], [], 5, 1, 128, 5, 7, 0, 64, 5, [0x15, 0x80,
  0x00, 0x05, 0x00, 0x07, 0x00, 0x40, 0x00, 0x00, 0x00, 0x05, 0x00, 0x03, 0xd7, 0xc0], [0x03, 0x03, 0x00], [0x0d, 0xa6,
  0x03, 0x28, 0x97, 0x78, 0xc3, 0x3b, 0x3f, 0x54, 0xfc, 0x99, 0xbd, 0x17, 0xcf, 0x48, 0x81, 0xb0, 0x70, 0x65, 0xbc, 0x1a,
  0x58, 0x62, 0xee, 0x7a, 0xef, 0xbb, 0x51, 0xad, 0xd9, 0xa3], true, true, true, false ⟩
/-- Frame 20. -/
def Sys2Proof.Wit.fr20 : List Byte :=
  [0x03, 0x50, 0x4b, 0x00, 0x00, 0x00, 0x00, 0x01, 0x02, 0x03, 0x04, 0x05, 0x88, 0xb5, 0x15, 0x80, 0x00, 0x05, 0x00, 0x07,
  0x00, 0x40, 0x00, 0x00, 0x00, 0x05, 0x00, 0x27, 0xb3, 0x26, 0x04, 0x03, 0x00, 0x00, 0x01, 0x02, 0x04, 0x07, 0x07, 0x07,
  0x07, 0x07, 0x07, 0x07, 0x07, 0x07, 0x07, 0x07, 0x07, 0x07, 0x07, 0x07, 0x07, 0x07, 0x07, 0x07, 0x07, 0x07, 0x07, 0x07,
  0x07, 0x07, 0x07, 0x07, 0x07, 0x07, 0x07, 0x07, 0x07, 0x65, 0x14, 0x4b, 0x23, 0xed, 0x4b, 0x2b, 0x29, 0x40, 0x01, 0xc3,
  0x2e, 0xda, 0x29, 0x97, 0x86, 0x83, 0x52, 0xed, 0x9f, 0xce, 0x2f, 0xc5, 0xcf, 0x58, 0x33, 0x04, 0xce, 0x5d, 0x69, 0x0c,
  0x3e, 0x0d, 0xdd, 0xc4, 0x31]
/-- Its parts. -/
def Sys2Proof.Wit.pa20 : Parsed :=
  ⟨ [0x03, 0x50, 0x4b, 0x00, 0x00, 0x00], [0x00, 0x01, 0x02, 0x03, 0x04, 0x05], [], 5, 1, 128, 5, 7, 0, 64, 5, [0x15, 0x80,
  0x00, 0x05, 0x00, 0x07, 0x00, 0x40, 0x00, 0x00, 0x00, 0x05, 0x00, 0x27, 0xb3, 0x26], [0x04, 0x03, 0x00, 0x00, 0x01, 0x02,
  0x04, 0x07, 0x07, 0x07, 0x07, 0x07, 0x07, 0x07, 0x07, 0x07, 0x07, 0x07, 0x07, 0x07, 0x07, 0x07, 0x07, 0x07, 0x07, 0x07,
  0x07, 0x07, 0x07, 0x07, 0x07, 0x07, 0x07, 0x07, 0x07, 0x07, 0x07, 0x07, 0x07], [0x65, 0x14, 0x4b, 0x23, 0xed, 0x4b, 0x2b,
  0x29, 0x40, 0x01, 0xc3, 0x2e, 0xda, 0x29, 0x97, 0x86, 0x83, 0x52, 0xed, 0x9f, 0xce, 0x2f, 0xc5, 0xcf, 0x58, 0x33, 0x04,
  0xce, 0x5d, 0x69, 0x0c, 0x3e], true, true, true, false ⟩
/-- Frame 21. -/
def Sys2Proof.Wit.fr21 : List Byte :=
  [0x03, 0x50, 0x4b, 0x00, 0x00, 0x00, 0x00, 0x01, 0x02, 0x03, 0x04, 0x05, 0x88, 0xb5, 0x15, 0x80, 0x00, 0x05, 0x00, 0x07,
  0x00, 0x40, 0x00, 0x00, 0x00, 0x05, 0x00, 0x23, 0xf3, 0xa2, 0x06, 0x03, 0x00, 0x07, 0x07, 0x07, 0x07, 0x07, 0x07, 0x07,
  0x07, 0x07, 0x07, 0x07, 0x07, 0x07, 0x07, 0x07, 0x07, 0x07, 0x07, 0x07, 0x07, 0x07, 0x07, 0x07, 0x07, 0x07, 0x07, 0x07,
  0x07, 0x07, 0x07, 0x07, 0x07, 0x0b, 0x3f, 0x19, 0xd7, 0x77, 0x7c, 0x95, 0x6b, 0x56, 0xbf, 0x60, 0xb4, 0x48, 0xf9, 0xc0,
  0xa3, 0xd5, 0x31, 0xcf, 0x6d, 0xf3, 0x3b, 0x14, 0xac, 0xb9, 0x51, 0x6d, 0xd0, 0x10, 0xcc, 0x51, 0x4a, 0xa3, 0xee, 0xcd,
  0x51]
/-- Its parts. -/
def Sys2Proof.Wit.pa21 : Parsed :=
  ⟨ [0x03, 0x50, 0x4b, 0x00, 0x00, 0x00], [0x00, 0x01, 0x02, 0x03, 0x04, 0x05], [], 5, 1, 128, 5, 7, 0, 64, 5, [0x15, 0x80,
  0x00, 0x05, 0x00, 0x07, 0x00, 0x40, 0x00, 0x00, 0x00, 0x05, 0x00, 0x23, 0xf3, 0xa2], [0x06, 0x03, 0x00, 0x07, 0x07, 0x07,
  0x07, 0x07, 0x07, 0x07, 0x07, 0x07, 0x07, 0x07, 0x07, 0x07, 0x07, 0x07, 0x07, 0x07, 0x07, 0x07, 0x07, 0x07, 0x07, 0x07,
  0x07, 0x07, 0x07, 0x07, 0x07, 0x07, 0x07, 0x07, 0x07], [0x0b, 0x3f, 0x19, 0xd7, 0x77, 0x7c, 0x95, 0x6b, 0x56, 0xbf, 0x60,
  0xb4, 0x48, 0xf9, 0xc0, 0xa3, 0xd5, 0x31, 0xcf, 0x6d, 0xf3, 0x3b, 0x14, 0xac, 0xb9, 0x51, 0x6d, 0xd0, 0x10, 0xcc, 0x51,
  0x4a], true, true, true, false ⟩
/- END FRAMES -/
/- END HELPERS -/

theorem test_wit_stepRunsTheFrontCommand : ({ State.reset with pending := [.frameTick] } : State).pending = .frameTick :: [] := by
  decide +kernel

theorem test_wit_idleStepLetsTimePass_1 : State.reset.pending = [] ∧ State.reset.dueNow = none := by decide +kernel

theorem test_wit_idleStepLetsTimePass_2 : ({ State.reset with now := 2250000 } : State).dueNow = some (2250000, .bootClockLock) := by
  decide +kernel

theorem test_wit_idleStepLetsTimePass_3 :
    ({ State.reset with now := 9, alarms := [(3, .mainsLoss), (9, .frameTick)] } : State).dueNow = some (9, .frameTick) := by
  decide +kernel

theorem test_wit_commandsKeepTheQueue : ∃ t, exec .bypass State.reset = .next t := ⟨_, rfl⟩

theorem test_wit_stepsKeepTheCanonicalForm :
    State.reset.Canonical ∧ step { State.reset with pending := [.bypass] } = exec .bypass State.reset := by
  exact ⟨by unfold State.Canonical Memory.wf; decide +kernel, rfl⟩

theorem test_wit_timerRegistersAndRun_1_1 : ((st [(A.SYS_MODE, 3), (A.TMR_T_CTL 3, 0x3C0)] : State).operating = true) ∧ (isCore (.coreA 1 false : Writer) = true) ∧ ((st [(A.SYS_MODE, 3), (A.TMR_T_CTL 3, 0x3C0)] : State).tmrRun (3 : Fin 16) = false) := by decide +kernel

theorem test_wit_timerRegistersAndRun_3_1 : ((st [(A.SYS_MODE, 3), (A.TMR_T_CTL 3, 0x3C0)] : State).operating = true) ∧ (isCore (.coreA 1 false : Writer) = true) := by decide +kernel

theorem test_wit_timerRegistersAndRun_4_1 : ((st [(A.SYS_MODE, 3), (A.TMR_T_CTL 3, 0x3C0)] : State).operating = true) ∧ (isCore (.coreA 1 false : Writer) = true) := by decide +kernel

theorem test_wit_timerRegistersAndRun_5_1 : ((st [(A.SYS_MODE, 3), (A.TMR_T_CTL 3, 0x3C0)] : State).operating = true) ∧ (isCore (.coreA 1 false : Writer) = true) := by decide +kernel

theorem test_wit_timerRegistersAndRun_2_2 : ((st [(A.SYS_MODE, 5), (A.TMR_RUN, 8), (A.TMR_T_RELOAD 3, 100), (A.TMR_T_CTL 3, 0x3C0)] : State).operating = true) ∧ (isCore (.coreS : Writer) = true) ∧ ((st [(A.SYS_MODE, 5), (A.TMR_RUN, 8), (A.TMR_T_RELOAD 3, 100), (A.TMR_T_CTL 3, 0x3C0)] : State).tmrRun (3 : Fin 16) = true) := by decide +kernel

theorem test_wit_timerRegistersAndRun_3_2 : ((st [(A.SYS_MODE, 5), (A.TMR_RUN, 8), (A.TMR_T_RELOAD 3, 100), (A.TMR_T_CTL 3, 0x3C0)] : State).operating = true) ∧ (isCore (.coreS : Writer) = true) := by decide +kernel

theorem test_wit_timerRegistersAndRun_4_2 : ((st [(A.SYS_MODE, 5), (A.TMR_RUN, 8), (A.TMR_T_RELOAD 3, 100), (A.TMR_T_CTL 3, 0x3C0)] : State).operating = true) ∧ (isCore (.coreS : Writer) = true) := by decide +kernel

theorem test_wit_timerRegistersAndRun_5_2 : ((st [(A.SYS_MODE, 5), (A.TMR_RUN, 8), (A.TMR_T_RELOAD 3, 100), (A.TMR_T_CTL 3, 0x3C0)] : State).operating = true) ∧ (isCore (.coreS : Writer) = true) := by decide +kernel

theorem test_wit_timerRegistersAndRun_6_3 : ((st [(A.SYS_MODE, 3), (A.TMR_RUN, 9), (A.TMR_GSTART_EV, 0x1FFFF), (A.TMR_T_COUNT 3, 7)] : State).operating = true) ∧ (isCore (.coreA 0 true : Writer) = true) := by decide +kernel

theorem test_wit_timerRegistersAndRun_7_3 : ((st [(A.SYS_MODE, 3), (A.TMR_RUN, 9), (A.TMR_GSTART_EV, 0x1FFFF), (A.TMR_T_COUNT 3, 7)] : State).operating = true) ∧ (isCore (.coreA 0 true : Writer) = true) := by decide +kernel

theorem test_wit_timerRegistersAndRun_8_3 : ((st [(A.SYS_MODE, 3), (A.TMR_RUN, 9), (A.TMR_GSTART_EV, 0x1FFFF), (A.TMR_T_COUNT 3, 7)] : State).operating = true) ∧ (isCore (.coreA 0 true : Writer) = true) ∧ ((st [(A.SYS_MODE, 3), (A.TMR_RUN, 9), (A.TMR_GSTART_EV, 0x1FFFF), (A.TMR_T_COUNT 3, 7)] : State).bit F.TMR_GSTART_EV_EN = true) ∧ ((st [(A.SYS_MODE, 3), (A.TMR_RUN, 9), (A.TMR_GSTART_EV, 0x1FFFF), (A.TMR_T_COUNT 3, 7)] : State).arrived 0 1 = false) := by decide +kernel

theorem test_wit_timerRegistersAndRun_6_4 : (({ (st [(A.SYS_MODE, 3), (A.TMR_RUN, 1), (A.TMR_GSTART_EV, 0x1FFFF)]).setTmr 3 { Timer.init with stopAt := some (0, 0) } with now := 0 } : State).operating = true) ∧ (isCore (.coreS : Writer) = true) := by decide +kernel

theorem test_wit_timerRegistersAndRun_8_4 : (({ (st [(A.SYS_MODE, 3), (A.TMR_RUN, 1), (A.TMR_GSTART_EV, 0x1FFFF)]).setTmr 3 { Timer.init with stopAt := some (0, 0) } with now := 0 } : State).operating = true) ∧ (isCore (.coreS : Writer) = true) ∧ (({ (st [(A.SYS_MODE, 3), (A.TMR_RUN, 1), (A.TMR_GSTART_EV, 0x1FFFF)]).setTmr 3 { Timer.init with stopAt := some (0, 0) } with now := 0 } : State).bit F.TMR_GSTART_EV_EN = true) ∧ (({ (st [(A.SYS_MODE, 3), (A.TMR_RUN, 1), (A.TMR_GSTART_EV, 0x1FFFF)]).setTmr 3 { Timer.init with stopAt := some (0, 0) } with now := 0 } : State).arrived 0 1 = false) := by decide +kernel

theorem test_wit_capturesAndSystemTime_1_1 : (((st [(A.SYS_MODE, 3), (A.TMR_T_CTL 2, 0xFFFFFFFFFFFF), (A.TMR_T_COUNT 2, 77)]).setCapQ 2 1 [5] : State).operating = true) ∧ (isCore (.coreA 3 true : Writer) = true) ∧ (((st [(A.SYS_MODE, 3), (A.TMR_T_CTL 2, 0xFFFFFFFFFFFF), (A.TMR_T_COUNT 2, 77)]).setCapQ 2 1 [5] : State).arrived (2 + 2 * (2 : Fin 16) + (1 : Fin 2)) 1 = false) ∧ ((if (1 : Fin 2) = 0 then ((st [(A.SYS_MODE, 3), (A.TMR_T_CTL 2, 0xFFFFFFFFFFFF), (A.TMR_T_COUNT 2, 77)]).setCapQ 2 1 [5] : State).bit (F.TMR_T_CTL_CAPEN0 (2 : Fin 16)) else ((st [(A.SYS_MODE, 3), (A.TMR_T_CTL 2, 0xFFFFFFFFFFFF), (A.TMR_T_COUNT 2, 77)]).setCapQ 2 1 [5] : State).bit (F.TMR_T_CTL_CAPEN1 (2 : Fin 16))) = true) ∧ (((st [(A.SYS_MODE, 3), (A.TMR_T_CTL 2, 0xFFFFFFFFFFFF), (A.TMR_T_COUNT 2, 77)]).setCapQ 2 1 [5] : State).tmrFrozen (2 : Fin 16) = false) ∧ ((((st [(A.SYS_MODE, 3), (A.TMR_T_CTL 2, 0xFFFFFFFFFFFF), (A.TMR_T_COUNT 2, 77)]).setCapQ 2 1 [5] : State).capQ (2 : Fin 16) (1 : Fin 2)).length < 4) := by decide +kernel

theorem test_wit_capturesAndSystemTime_3_1 : (((st [(A.SYS_MODE, 3), (A.TMR_T_CTL 2, 0xFFFFFFFFFFFF), (A.TMR_T_COUNT 2, 77)]).setCapQ 2 1 [5] : State).operating = true) ∧ (isCore (.coreA 3 true : Writer) = true) ∧ (((st [(A.SYS_MODE, 3), (A.TMR_T_CTL 2, 0xFFFFFFFFFFFF), (A.TMR_T_COUNT 2, 77)]).setCapQ 2 1 [5] : State).capOnlyNew (2 : Fin 16) (1 : Fin 2) = false) := by decide +kernel

theorem test_wit_capturesAndSystemTime_2_2 : (((st [(A.SYS_MODE, 3), (A.TMR_T_CTL 15, 0x13F), (A.TMR_T_COUNT 15, 77)]).setCapQ 15 0 [5, 6, 7, 8] : State).operating = true) ∧ (isCore (.coreS : Writer) = true) ∧ (((st [(A.SYS_MODE, 3), (A.TMR_T_CTL 15, 0x13F), (A.TMR_T_COUNT 15, 77)]).setCapQ 15 0 [5, 6, 7, 8] : State).arrived (2 + 2 * (15 : Fin 16) + (0 : Fin 2)) 1 = false) ∧ ((if (0 : Fin 2) = 0 then ((st [(A.SYS_MODE, 3), (A.TMR_T_CTL 15, 0x13F), (A.TMR_T_COUNT 15, 77)]).setCapQ 15 0 [5, 6, 7, 8] : State).bit (F.TMR_T_CTL_CAPEN0 (15 : Fin 16)) else ((st [(A.SYS_MODE, 3), (A.TMR_T_CTL 15, 0x13F), (A.TMR_T_COUNT 15, 77)]).setCapQ 15 0 [5, 6, 7, 8] : State).bit (F.TMR_T_CTL_CAPEN1 (15 : Fin 16))) = true) ∧ (((st [(A.SYS_MODE, 3), (A.TMR_T_CTL 15, 0x13F), (A.TMR_T_COUNT 15, 77)]).setCapQ 15 0 [5, 6, 7, 8] : State).tmrFrozen (15 : Fin 16) = false) ∧ (4 ≤ (((st [(A.SYS_MODE, 3), (A.TMR_T_CTL 15, 0x13F), (A.TMR_T_COUNT 15, 77)]).setCapQ 15 0 [5, 6, 7, 8] : State).capQ (15 : Fin 16) (0 : Fin 2)).length) ∧ (((st [(A.SYS_MODE, 3), (A.TMR_T_CTL 15, 0x13F), (A.TMR_T_COUNT 15, 77)]).setCapQ 15 0 [5, 6, 7, 8] : State).clocked = false) := by decide +kernel

theorem test_wit_capturesAndSystemTime_3_2 : (((st [(A.SYS_MODE, 3), (A.TMR_T_CTL 15, 0x13F), (A.TMR_T_COUNT 15, 77)]).setCapQ 15 0 [5, 6, 7, 8] : State).operating = true) ∧ (isCore (.coreS : Writer) = true) ∧ (((st [(A.SYS_MODE, 3), (A.TMR_T_CTL 15, 0x13F), (A.TMR_T_COUNT 15, 77)]).setCapQ 15 0 [5, 6, 7, 8] : State).capOnlyNew (15 : Fin 16) (0 : Fin 2) = false) := by decide +kernel

theorem test_wit_capturesAndSystemTime_3_3 : ((((st [(A.SYS_MODE, 3)]).setCapQ 15 0 [5, 6, 7, 8]).setLost 15 0 (some 9) : State).operating = true) ∧ (isCore (.coreS : Writer) = true) ∧ ((((st [(A.SYS_MODE, 3)]).setCapQ 15 0 [5, 6, 7, 8]).setLost 15 0 (some 9) : State).capOnlyNew (15 : Fin 16) (0 : Fin 2) = false) := by decide +kernel

theorem test_wit_capturesAndSystemTime_4_4 : (((let x := (st [(A.SYS_MODE, 3)]).setCapQ 2 1 [5]; x.setTmr 2 { x.tmr 2 with newAt1 := some x.instant }) : State).operating = true) ∧ (isCore (.coreA 3 true : Writer) = true) ∧ (((let x := (st [(A.SYS_MODE, 3)]).setCapQ 2 1 [5]; x.setTmr 2 { x.tmr 2 with newAt1 := some x.instant }) : State).capOnlyNew (2 : Fin 16) (1 : Fin 2) = true) := by decide +kernel

theorem test_wit_capturesAndSystemTime_5_5 : (({ (st [(A.SYS_MODE, 3), (A.TMR_T_CTL 15, 0x13F), (A.TMR_T_COUNT 15, 77)]).setCapQ 15 0 [5, 6, 7, 8] with clocked := true } : State).operating = true) ∧ (isCore (.coreS : Writer) = true) ∧ (({ (st [(A.SYS_MODE, 3), (A.TMR_T_CTL 15, 0x13F), (A.TMR_T_COUNT 15, 77)]).setCapQ 15 0 [5, 6, 7, 8] with clocked := true } : State).arrived (2 + 2 * (15 : Fin 16) + (0 : Fin 2)) 1 = false) ∧ ((if (0 : Fin 2) = 0 then ({ (st [(A.SYS_MODE, 3), (A.TMR_T_CTL 15, 0x13F), (A.TMR_T_COUNT 15, 77)]).setCapQ 15 0 [5, 6, 7, 8] with clocked := true } : State).bit (F.TMR_T_CTL_CAPEN0 (15 : Fin 16)) else ({ (st [(A.SYS_MODE, 3), (A.TMR_T_CTL 15, 0x13F), (A.TMR_T_COUNT 15, 77)]).setCapQ 15 0 [5, 6, 7, 8] with clocked := true } : State).bit (F.TMR_T_CTL_CAPEN1 (15 : Fin 16))) = true) ∧ (({ (st [(A.SYS_MODE, 3), (A.TMR_T_CTL 15, 0x13F), (A.TMR_T_COUNT 15, 77)]).setCapQ 15 0 [5, 6, 7, 8] with clocked := true } : State).tmrFrozen (15 : Fin 16) = false) ∧ (4 ≤ (({ (st [(A.SYS_MODE, 3), (A.TMR_T_CTL 15, 0x13F), (A.TMR_T_COUNT 15, 77)]).setCapQ 15 0 [5, 6, 7, 8] with clocked := true } : State).capQ (15 : Fin 16) (0 : Fin 2)).length) ∧ (({ (st [(A.SYS_MODE, 3), (A.TMR_T_CTL 15, 0x13F), (A.TMR_T_COUNT 15, 77)]).setCapQ 15 0 [5, 6, 7, 8] with clocked := true } : State).clocked = true) := by decide +kernel

theorem test_wit_capturesAndSystemTime_6_6 : (((let x := st [(A.SYS_MODE, 4), (A.SYSTIME_NS, 12345)]; { x with epoch := 7 }) : State).operating = true) ∧ (isCore (.coreA 2 false : Writer) = true) := by decide +kernel

theorem test_wit_capturesAndSystemTime_7_7 : (((let x := st [(A.SYS_MODE, 4), (A.TICK_STATUS, 1), (A.SYSTIME_NS, 0xFFFFFFFFFFFF)]; { x with epoch := 0xFFFFFFFF, nsPhase := 2 }) : State).tickRuns = true) ∧ (2 ^ 48 ≤ ((let x := st [(A.SYS_MODE, 4), (A.TICK_STATUS, 1), (A.SYSTIME_NS, 0xFFFFFFFFFFFF)]; { x with epoch := 0xFFFFFFFF, nsPhase := 2 }) : State).rd F.SYSTIME_NS_NS + ((let x := st [(A.SYS_MODE, 4), (A.TICK_STATUS, 1), (A.SYSTIME_NS, 0xFFFFFFFFFFFF)]; { x with epoch := 0xFFFFFFFF, nsPhase := 2 }) : State).nsStep) := by decide +kernel

theorem test_wit_timerMoves_1_1 : ((st [(A.SYS_MODE, 5), (A.TMR_RUN, 0x8000), (A.TMR_T_CTL 15, 0x3FF), (A.TMR_T_RELOAD 15, 9), (A.TMR_T_COUNT 15, 9)] : State).tmrCounts (15 : Fin 16) = true) ∧ ((st [(A.SYS_MODE, 5), (A.TMR_RUN, 0x8000), (A.TMR_T_CTL 15, 0x3FF), (A.TMR_T_RELOAD 15, 9), (A.TMR_T_COUNT 15, 9)] : State).activeReload (15 : Fin 16) ≤ (st [(A.SYS_MODE, 5), (A.TMR_RUN, 0x8000), (A.TMR_T_CTL 15, 0x3FF), (A.TMR_T_RELOAD 15, 9), (A.TMR_T_COUNT 15, 9)] : State).rd (F.TMR_T_COUNT_COUNT (15 : Fin 16))) := by decide +kernel

theorem test_wit_timerMoves_2_1 : ((st [(A.SYS_MODE, 5), (A.TMR_RUN, 0x8000), (A.TMR_T_CTL 15, 0x3FF), (A.TMR_T_RELOAD 15, 9), (A.TMR_T_COUNT 15, 9)] : State).tmrCounts (15 : Fin 16) = true) ∧ ((st [(A.SYS_MODE, 5), (A.TMR_RUN, 0x8000), (A.TMR_T_CTL 15, 0x3FF), (A.TMR_T_RELOAD 15, 9), (A.TMR_T_COUNT 15, 9)] : State).bitAt (F.TMR_T_CTL_CMPEN (15 : Fin 16)) (3 : Fin 4) = true) ∧ ((st [(A.SYS_MODE, 5), (A.TMR_RUN, 0x8000), (A.TMR_T_CTL 15, 0x3FF), (A.TMR_T_RELOAD 15, 9), (A.TMR_T_COUNT 15, 9)] : State).rd (F.TMR_T_CMP_C (15 : Fin 16) (3 : Fin 4)) = (st [(A.SYS_MODE, 5), (A.TMR_RUN, 0x8000), (A.TMR_T_CTL 15, 0x3FF), (A.TMR_T_RELOAD 15, 9), (A.TMR_T_COUNT 15, 9)] : State).tmrNext (15 : Fin 16)) := by decide +kernel

theorem test_wit_timerMoves_2_2 : ((st [(A.SYS_MODE, 5), (A.TMR_RUN, 1), (A.TMR_T_CTL 0, 0x3FF), (A.TMR_T_RELOAD 0, 0xFFFFFFFFFFFF), (A.TMR_T_COUNT 0, 0xFFFFFFFFFFFE), (A.TMR_T_CMP 0 1, 0xFFFFFFFFFFFF)] : State).tmrCounts (0 : Fin 16) = true) ∧ ((st [(A.SYS_MODE, 5), (A.TMR_RUN, 1), (A.TMR_T_CTL 0, 0x3FF), (A.TMR_T_RELOAD 0, 0xFFFFFFFFFFFF), (A.TMR_T_COUNT 0, 0xFFFFFFFFFFFE), (A.TMR_T_CMP 0 1, 0xFFFFFFFFFFFF)] : State).bitAt (F.TMR_T_CTL_CMPEN (0 : Fin 16)) (1 : Fin 4) = true) ∧ ((st [(A.SYS_MODE, 5), (A.TMR_RUN, 1), (A.TMR_T_CTL 0, 0x3FF), (A.TMR_T_RELOAD 0, 0xFFFFFFFFFFFF), (A.TMR_T_COUNT 0, 0xFFFFFFFFFFFE), (A.TMR_T_CMP 0 1, 0xFFFFFFFFFFFF)] : State).rd (F.TMR_T_CMP_C (0 : Fin 16) (1 : Fin 4)) = (st [(A.SYS_MODE, 5), (A.TMR_RUN, 1), (A.TMR_T_CTL 0, 0x3FF), (A.TMR_T_RELOAD 0, 0xFFFFFFFFFFFF), (A.TMR_T_COUNT 0, 0xFFFFFFFFFFFE), (A.TMR_T_CMP 0 1, 0xFFFFFFFFFFFF)] : State).tmrNext (0 : Fin 16)) := by decide +kernel

theorem test_wit_tickSettingsAndFrames_1_1 : ((st [(A.SYS_MODE, 3)] : State).operating = true) ∧ (isCore (.coreA 0 false : Writer) = true) ∧ ((st [(A.SYS_MODE, 3)] : State).mode = .standby) ∧ (3750 ≤ getBits (3750 : Word) 0 20) ∧ (getBits (3750 : Word) 0 20 ≤ 750000) := by decide +kernel

theorem test_wit_tickSettingsAndFrames_2_1 : ((st [(A.SYS_MODE, 3)] : State).operating = true) ∧ (isCore (.coreA 0 false : Writer) = true) ∧ ((st [(A.SYS_MODE, 3)] : State).mode = .standby) := by decide +kernel

theorem test_wit_tickSettingsAndFrames_5_1 : ((st [(A.SYS_MODE, 3)] : State).operating = true) ∧ (isCore (.coreA 0 false : Writer) = true) := by decide +kernel

theorem test_wit_tickSettingsAndFrames_1_2 : ((st [(A.SYS_MODE, 3), (A.TICK_SLOT 4, 0xFFFFFFFFFFFF), (A.TICK_SLOT 5, 0xFFFFFFFFFFFF)] : State).operating = true) ∧ (isCore (.coreS : Writer) = true) ∧ ((st [(A.SYS_MODE, 3), (A.TICK_SLOT 4, 0xFFFFFFFFFFFF), (A.TICK_SLOT 5, 0xFFFFFFFFFFFF)] : State).mode = .standby) ∧ (3750 ≤ getBits (750000 : Word) 0 20) ∧ (getBits (750000 : Word) 0 20 ≤ 750000) := by decide +kernel

theorem test_wit_tickSettingsAndFrames_2_2 : ((st [(A.SYS_MODE, 3), (A.TICK_SLOT 4, 0xFFFFFFFFFFFF), (A.TICK_SLOT 5, 0xFFFFFFFFFFFF)] : State).operating = true) ∧ (isCore (.coreS : Writer) = true) ∧ ((st [(A.SYS_MODE, 3), (A.TICK_SLOT 4, 0xFFFFFFFFFFFF), (A.TICK_SLOT 5, 0xFFFFFFFFFFFF)] : State).mode = .standby) := by decide +kernel

theorem test_wit_tickSettingsAndFrames_5_2 : ((st [(A.SYS_MODE, 3), (A.TICK_SLOT 4, 0xFFFFFFFFFFFF), (A.TICK_SLOT 5, 0xFFFFFFFFFFFF)] : State).operating = true) ∧ (isCore (.coreS : Writer) = true) := by decide +kernel

theorem test_wit_tickSettingsAndFrames_3_3 : ((st [(A.SYS_MODE, 5)] : State).operating = true) ∧ (isCore (.coreA 0 false : Writer) = true) ∧ ((st [(A.SYS_MODE, 5)] : State).mode ≠ .standby) ∧ (getBits (5 : Word) 0 20 ≠ (st [(A.SYS_MODE, 5)] : State).rd F.TICK_FRAME_COUNTS) := by decide +kernel

theorem test_wit_tickSettingsAndFrames_4_3 : ((st [(A.SYS_MODE, 5)] : State).operating = true) ∧ (isCore (.coreA 0 false : Writer) = true) ∧ ((st [(A.SYS_MODE, 5)] : State).mode ≠ .standby) ∧ (getBits (5 : Word) 0 4 ≠ (st [(A.SYS_MODE, 5)] : State).rd F.TICK_FCYC_MM1) := by decide +kernel

theorem test_wit_tickSettingsAndFrames_5_3 : ((st [(A.SYS_MODE, 5)] : State).operating = true) ∧ (isCore (.coreA 0 false : Writer) = true) := by decide +kernel

theorem test_wit_tickSettingsAndFrames_6_4 : ((st [(A.SYS_MODE, 3), (A.TICK_STATUS, 1), (A.TICK_FRAMECNT, 5), (A.TICK_FRAMENO, 1)] : State).tickRuns = true) ∧ ((st [(A.SYS_MODE, 3), (A.TICK_STATUS, 1), (A.TICK_FRAMECNT, 5), (A.TICK_FRAMENO, 1)] : State).dormAt = none) ∧ ((st [(A.SYS_MODE, 3), (A.TICK_STATUS, 1), (A.TICK_FRAMECNT, 5), (A.TICK_FRAMENO, 1)] : State).atFrameEdge = true) ∧ ((st [(A.SYS_MODE, 3), (A.TICK_STATUS, 1), (A.TICK_FRAMECNT, 5), (A.TICK_FRAMENO, 1)] : State).tickAt = none) := by decide +kernel

theorem test_wit_tickSettingsAndFrames_7_5 : (((let x := st [(A.SYS_MODE, 3), (A.TICK_STATUS, 1), (A.TICK_FRAMECNT, 0xFFFFFFFFFFFF), (A.TICK_FRAMENO, 1), (A.TICK_FCYC, 1)]; { x with tickAt := some (3, 4) }) : State).tickRuns = true) ∧ (((let x := st [(A.SYS_MODE, 3), (A.TICK_STATUS, 1), (A.TICK_FRAMECNT, 0xFFFFFFFFFFFF), (A.TICK_FRAMENO, 1), (A.TICK_FCYC, 1)]; { x with tickAt := some (3, 4) }) : State).dormAt = none) ∧ (((let x := st [(A.SYS_MODE, 3), (A.TICK_STATUS, 1), (A.TICK_FRAMECNT, 0xFFFFFFFFFFFF), (A.TICK_FRAMENO, 1), (A.TICK_FCYC, 1)]; { x with tickAt := some (3, 4) }) : State).atFrameEdge = true) ∧ (((let x := st [(A.SYS_MODE, 3), (A.TICK_STATUS, 1), (A.TICK_FRAMECNT, 0xFFFFFFFFFFFF), (A.TICK_FRAMENO, 1), (A.TICK_FCYC, 1)]; { x with tickAt := some (3, 4) }) : State).tickAt ≠ none) := by decide +kernel

theorem test_wit_tickSettingsAndFrames_7_6 : (((let x := st [(A.SYS_MODE, 5), (A.TICK_STATUS, 1), (A.TICK_FRAMECNT, 8), (A.TICK_FRAMENO, 1), (A.TICK_FCYC, 3)]; { x with tickAt := some (3, 4) }) : State).tickRuns = true) ∧ (((let x := st [(A.SYS_MODE, 5), (A.TICK_STATUS, 1), (A.TICK_FRAMECNT, 8), (A.TICK_FRAMENO, 1), (A.TICK_FCYC, 3)]; { x with tickAt := some (3, 4) }) : State).dormAt = none) ∧ (((let x := st [(A.SYS_MODE, 5), (A.TICK_STATUS, 1), (A.TICK_FRAMECNT, 8), (A.TICK_FRAMENO, 1), (A.TICK_FCYC, 3)]; { x with tickAt := some (3, 4) }) : State).atFrameEdge = true) ∧ (((let x := st [(A.SYS_MODE, 5), (A.TICK_STATUS, 1), (A.TICK_FRAMECNT, 8), (A.TICK_FRAMENO, 1), (A.TICK_FCYC, 3)]; { x with tickAt := some (3, 4) }) : State).tickAt ≠ none) := by decide +kernel

theorem test_wit_tickSettingsAndFrames_8_7 : ((st [(A.SYS_MODE, 5), (A.TICK_STATUS, 1), (A.TICK_PHASE, 77)] : State).atFrameEdge = false) := by decide +kernel

theorem test_wit_tickSettingsAndFrames_7_8 : (((let x := st [(A.SYS_MODE, 3), (A.TICK_STATUS, 1), (A.TICK_FRAMECNT, 8), (A.TICK_FRAMENO, 1), (A.TICK_FCYC, 3)]; { (x.hold A.TICK_FCYC 2) with tickAt := some (3, 4) }) : State).tickRuns = true) ∧ (((let x := st [(A.SYS_MODE, 3), (A.TICK_STATUS, 1), (A.TICK_FRAMECNT, 8), (A.TICK_FRAMENO, 1), (A.TICK_FCYC, 3)]; { (x.hold A.TICK_FCYC 2) with tickAt := some (3, 4) }) : State).dormAt = none) ∧ (((let x := st [(A.SYS_MODE, 3), (A.TICK_STATUS, 1), (A.TICK_FRAMECNT, 8), (A.TICK_FRAMENO, 1), (A.TICK_FCYC, 3)]; { (x.hold A.TICK_FCYC 2) with tickAt := some (3, 4) }) : State).atFrameEdge = true) ∧ (((let x := st [(A.SYS_MODE, 3), (A.TICK_STATUS, 1), (A.TICK_FRAMECNT, 8), (A.TICK_FRAMENO, 1), (A.TICK_FCYC, 3)]; { (x.hold A.TICK_FCYC 2) with tickAt := some (3, 4) }) : State).tickAt ≠ none) := by decide +kernel

theorem test_wit_tickSettingsAndFrames_9_9 : (((st [(A.SYS_MODE, 5), (A.TICK_STATUS, 1), (A.SYS_READY, 0xFFFF), (A.TICK_SLOT 3, 1), (A.TICK_FRAMECNT, 8)]).after 3 .tickJitterDelivery : State).due .tickJitterDelivery = true) := by decide +kernel

theorem test_wit_carrierTurns_1_1 : (((st [(A.SYS_MODE, 5), (A.PWM_Q_STATUS 2, 1), (A.PWM_Q_CTL 2, 5), (A.PWM_AX_STATUS 9, 1), (A.PWM_AX_DUTYU 9, 3000), (A.PWM_AX_DUTYW 9, 17)]) : State).carrierOn (2 : Fin 6) = true) := by decide +kernel

theorem test_wit_carrierTurns_2_1 : (((st [(A.SYS_MODE, 5), (A.PWM_Q_STATUS 2, 1), (A.PWM_Q_CTL 2, 5), (A.PWM_AX_STATUS 9, 1), (A.PWM_AX_DUTYU 9, 3000), (A.PWM_AX_DUTYW 9, 17)]) : State).carrierOn (2 : Fin 6) = true) := by decide +kernel

theorem test_wit_axisOutputWrites_1_1 : ((st [(A.SYS_MODE, 4), (A.PWM_AX_CTL 7, 3)] : State).operating = true) ∧ (isCore (.coreA 0 false : Writer) = true) ∧ ((st [(A.SYS_MODE, 4), (A.PWM_AX_CTL 7, 3)] : State).mode = .standby ∨ (st [(A.SYS_MODE, 4), (A.PWM_AX_CTL 7, 3)] : State).mode = .armed ∨ (st [(A.SYS_MODE, 4), (A.PWM_AX_CTL 7, 3)] : State).mode = .run) := by decide +kernel

theorem test_wit_axisOutputWrites_3_1 : ((st [(A.SYS_MODE, 4), (A.PWM_AX_CTL 7, 3)] : State).operating = true) ∧ (isCore (.coreA 0 false : Writer) = true) ∧ ((st [(A.SYS_MODE, 4), (A.PWM_AX_CTL 7, 3)] : State).mode = .standby ∨ (st [(A.SYS_MODE, 4), (A.PWM_AX_CTL 7, 3)] : State).mode = .armed) := by decide +kernel

theorem test_wit_axisOutputWrites_4_1 : ((st [(A.SYS_MODE, 4), (A.PWM_AX_CTL 7, 3)] : State).operating = true) ∧ (isCore (.coreA 0 false : Writer) = true) ∧ ((st [(A.SYS_MODE, 4), (A.PWM_AX_CTL 7, 3)] : State).mode = .standby ∨ (st [(A.SYS_MODE, 4), (A.PWM_AX_CTL 7, 3)] : State).mode = .armed) ∧ (∀ j : Fin 3, (0x12 : BitVec 6).toNat / 4 ^ j.val % 4 ≠ 3) ∧ (getBits ((st [(A.SYS_MODE, 4), (A.PWM_AX_CTL 7, 3)] : State).reg (A.PWM_AX_CTL (7 : Fin 24))) 2 6 ≠ (0x12 : BitVec 6).toNat) := by decide +kernel

theorem test_wit_axisOutputWrites_5_1 : ((st [(A.SYS_MODE, 4), (A.PWM_AX_CTL 7, 3)] : State).operating = true) ∧ (isCore (.coreA 0 false : Writer) = true) ∧ ((st [(A.SYS_MODE, 4), (A.PWM_AX_CTL 7, 3)] : State).mode ≠ .shutdown) ∧ ((st [(A.SYS_MODE, 4), (A.PWM_AX_CTL 7, 3)] : State).mode ≠ .safeStop) ∧ ((st [(A.SYS_MODE, 4), (A.PWM_AX_CTL 7, 3)] : State).inForce (F.PWM_AX_CTL_DSRC (7 : Fin 24)) ≠ 0) := by decide +kernel

theorem test_wit_axisOutputWrites_1_2 : ((st [(A.SYS_MODE, 3), (A.PWM_AX_CTL 23, 0)] : State).operating = true) ∧ (isCore (.coreS : Writer) = true) ∧ ((st [(A.SYS_MODE, 3), (A.PWM_AX_CTL 23, 0)] : State).mode = .standby ∨ (st [(A.SYS_MODE, 3), (A.PWM_AX_CTL 23, 0)] : State).mode = .armed ∨ (st [(A.SYS_MODE, 3), (A.PWM_AX_CTL 23, 0)] : State).mode = .run) := by decide +kernel

theorem test_wit_axisOutputWrites_3_2 : ((st [(A.SYS_MODE, 3), (A.PWM_AX_CTL 23, 0)] : State).operating = true) ∧ (isCore (.coreS : Writer) = true) ∧ ((st [(A.SYS_MODE, 3), (A.PWM_AX_CTL 23, 0)] : State).mode = .standby ∨ (st [(A.SYS_MODE, 3), (A.PWM_AX_CTL 23, 0)] : State).mode = .armed) := by decide +kernel

theorem test_wit_axisOutputWrites_4_2 : ((st [(A.SYS_MODE, 3), (A.PWM_AX_CTL 23, 0)] : State).operating = true) ∧ (isCore (.coreS : Writer) = true) ∧ ((st [(A.SYS_MODE, 3), (A.PWM_AX_CTL 23, 0)] : State).mode = .standby ∨ (st [(A.SYS_MODE, 3), (A.PWM_AX_CTL 23, 0)] : State).mode = .armed) ∧ (∀ j : Fin 3, (0x2A : BitVec 6).toNat / 4 ^ j.val % 4 ≠ 3) ∧ (getBits ((st [(A.SYS_MODE, 3), (A.PWM_AX_CTL 23, 0)] : State).reg (A.PWM_AX_CTL (23 : Fin 24))) 2 6 ≠ (0x2A : BitVec 6).toNat) := by decide +kernel

theorem test_wit_axisOutputWrites_6_2 : ((st [(A.SYS_MODE, 3), (A.PWM_AX_CTL 23, 0)] : State).operating = true) ∧ (isCore (.coreS : Writer) = true) ∧ ((st [(A.SYS_MODE, 3), (A.PWM_AX_CTL 23, 0)] : State).mode ≠ .shutdown) ∧ ((st [(A.SYS_MODE, 3), (A.PWM_AX_CTL 23, 0)] : State).mode = .safeStop ∨ (st [(A.SYS_MODE, 3), (A.PWM_AX_CTL 23, 0)] : State).inForce (F.PWM_AX_CTL_DSRC (23 : Fin 24)) = 0) ∧ (getBits (77 : Word) 0 20 ≠ (st [(A.SYS_MODE, 3), (A.PWM_AX_CTL 23, 0)] : State).staged (23 : Fin 24) (0 : Fin 3)) := by decide +kernel

theorem test_wit_axisOutputWrites_2_3 : ((st [(A.SYS_MODE, 6), (A.PWM_AX_CTL 0, 2)] : State).operating = true) ∧ (isCore (.coreS : Writer) = true) ∧ ((st [(A.SYS_MODE, 6), (A.PWM_AX_CTL 0, 2)] : State).mode = .safeStop) ∧ ((st [(A.SYS_MODE, 6), (A.PWM_AX_CTL 0, 2)] : State).bit (F.PWM_AX_CTL_OEN (0 : Fin 24)) = false) := by decide +kernel

theorem test_wit_axisOutputWrites_6_3 : ((st [(A.SYS_MODE, 6), (A.PWM_AX_CTL 0, 2)] : State).operating = true) ∧ (isCore (.coreS : Writer) = true) ∧ ((st [(A.SYS_MODE, 6), (A.PWM_AX_CTL 0, 2)] : State).mode ≠ .shutdown) ∧ ((st [(A.SYS_MODE, 6), (A.PWM_AX_CTL 0, 2)] : State).mode = .safeStop ∨ (st [(A.SYS_MODE, 6), (A.PWM_AX_CTL 0, 2)] : State).inForce (F.PWM_AX_CTL_DSRC (0 : Fin 24)) = 0) ∧ (getBits (77 : Word) 0 20 ≠ (st [(A.SYS_MODE, 6), (A.PWM_AX_CTL 0, 2)] : State).staged (0 : Fin 24) (1 : Fin 3)) := by decide +kernel

theorem test_wit_axisOutputWrites_7_4 : ((st [(A.SYS_MODE, 6), (A.PWM_AX_CTL 0, 2), (A.PWM_AX_DUTYV 0, 77)] : State).operating = true) ∧ (isCore (.coreS : Writer) = true) ∧ ((st [(A.SYS_MODE, 6), (A.PWM_AX_CTL 0, 2), (A.PWM_AX_DUTYV 0, 77)] : State).mode ≠ .shutdown) ∧ ((st [(A.SYS_MODE, 6), (A.PWM_AX_CTL 0, 2), (A.PWM_AX_DUTYV 0, 77)] : State).mode = .safeStop ∨ (st [(A.SYS_MODE, 6), (A.PWM_AX_CTL 0, 2), (A.PWM_AX_DUTYV 0, 77)] : State).inForce (F.PWM_AX_CTL_DSRC (0 : Fin 24)) = 0) ∧ (getBits (77 : Word) 0 20 = (st [(A.SYS_MODE, 6), (A.PWM_AX_CTL 0, 2), (A.PWM_AX_DUTYV 0, 77)] : State).staged (0 : Fin 24) (1 : Fin 3)) := by decide +kernel

theorem test_wit_carrierConfigurationWrites_1_1 : ((st [(A.SYS_MODE, 3)] : State).operating = true) ∧ (isCore (.coreA 0 false : Writer) = true) ∧ ((st [(A.SYS_MODE, 3)] : State).mode = .standby) ∧ (rowInRange (fieldsAt (A.PWM_Q_CTL (5 : Fin 6) + 8 * (0 : Fin 5))) (1 : Word) = true) := by decide +kernel

theorem test_wit_carrierConfigurationWrites_1_2 : ((st [(A.SYS_MODE, 3)] : State).operating = true) ∧ (isCore (.coreA 0 false : Writer) = true) ∧ ((st [(A.SYS_MODE, 3)] : State).mode = .standby) ∧ (rowInRange (fieldsAt (A.PWM_Q_CTL (1 : Fin 6) + 8 * (3 : Fin 5))) (15 : Word) = true) := by decide +kernel

theorem test_wit_carrierConfigurationWrites_2_3 : ((st [(A.SYS_MODE, 5)] : State).operating = true) ∧ (isCore (.coreA 0 false : Writer) = true) ∧ ((st [(A.SYS_MODE, 5)] : State).mode ≠ .standby) ∧ (rowWrite false (fieldsAt (A.PWM_Q_CTL (0 : Fin 6) + 8 * (1 : Fin 5))) ((st [(A.SYS_MODE, 5)] : State).reg (A.PWM_Q_CTL (0 : Fin 6) + 8 * (1 : Fin 5))) (9000 : Word) ≠ (st [(A.SYS_MODE, 5)] : State).reg (A.PWM_Q_CTL (0 : Fin 6) + 8 * (1 : Fin 5))) := by decide +kernel

theorem test_wit_gateEdges_6_1 : (((let x := st [(A.SYS_MODE, 5), (A.SAF_STATUS, 6), (A.SAF_GATEEN, 0xFFFFFF), (A.PWM_Q_BOOT 0, 0), (A.PWM_Q_STATUS 0, 1), (A.PWM_Q_PERIOD 0, 18750)]; (x.setAxis 1 { x.axis 1 with inTrip := false, oenEff := true }).setPhase 1 0 { x.phase 1 0 with duty := 150000, gate := .dead true }) : State).lockoutMay (1 : Fin 24) (0 : Fin 3) = true) := by decide +kernel

theorem test_wit_gateEdges_7_2 : (((let x := st [(A.SYS_MODE, 5)]; x.setPhase 1 0 { x.phase 1 0 with lowAt := some 0 }) : State).lockoutMay (1 : Fin 24) (0 : Fin 3) = false) := by decide +kernel

theorem test_wit_gateEdges_1_3 : (((let x := st [(A.SYS_MODE, 5), (A.SAF_STATUS, 6), (A.SAF_GATEEN, 0xFFFFFF), (A.PWM_Q_STATUS 0, 1), (A.PWM_Q_PERIOD 0, 18750), (A.PWM_Q_CTL 0, 0x10)]; (x.setAxis 1 { x.axis 1 with inTrip := false, oenEff := true }).setPhase 1 0 { x.phase 1 0 with duty := 150000, gate := .dead true, bs := 255 }) : State).powered (1 : Fin 24) = true) ∧ ((((let x := st [(A.SYS_MODE, 5), (A.SAF_STATUS, 6), (A.SAF_GATEEN, 0xFFFFFF), (A.PWM_Q_STATUS 0, 1), (A.PWM_Q_PERIOD 0, 18750), (A.PWM_Q_CTL 0, 0x10)]; (x.setAxis 1 { x.axis 1 with inTrip := false, oenEff := true }).setPhase 1 0 { x.phase 1 0 with duty := 150000, gate := .dead true, bs := 255 }) : State).axis (1 : Fin 24)).inTrip = false) ∧ (((let x := st [(A.SYS_MODE, 5), (A.SAF_STATUS, 6), (A.SAF_GATEEN, 0xFFFFFF), (A.PWM_Q_STATUS 0, 1), (A.PWM_Q_PERIOD 0, 18750), (A.PWM_Q_CTL 0, 0x10)]; (x.setAxis 1 { x.axis 1 with inTrip := false, oenEff := true }).setPhase 1 0 { x.phase 1 0 with duty := 150000, gate := .dead true, bs := 255 }) : State).carrierOn ((1 : Fin 24) / 4) = true) ∧ (((let x := st [(A.SYS_MODE, 5), (A.SAF_STATUS, 6), (A.SAF_GATEEN, 0xFFFFFF), (A.PWM_Q_STATUS 0, 1), (A.PWM_Q_PERIOD 0, 18750), (A.PWM_Q_CTL 0, 0x10)]; (x.setAxis 1 { x.axis 1 with inTrip := false, oenEff := true }).setPhase 1 0 { x.phase 1 0 with duty := 150000, gate := .dead true, bs := 255 }) : State).bit (F.PWM_Q_CNT_DIR ((1 : Fin 24) / 4)) = false) ∧ (((let x := st [(A.SYS_MODE, 5), (A.SAF_STATUS, 6), (A.SAF_GATEEN, 0xFFFFFF), (A.PWM_Q_STATUS 0, 1), (A.PWM_Q_PERIOD 0, 18750), (A.PWM_Q_CTL 0, 0x10)]; (x.setAxis 1 { x.axis 1 with inTrip := false, oenEff := true }).setPhase 1 0 { x.phase 1 0 with duty := 150000, gate := .dead true, bs := 255 }) : State).edgeDuty (1 : Fin 24) (0 : Fin 3) < ((let x := st [(A.SYS_MODE, 5), (A.SAF_STATUS, 6), (A.SAF_GATEEN, 0xFFFFFF), (A.PWM_Q_STATUS 0, 1), (A.PWM_Q_PERIOD 0, 18750), (A.PWM_Q_CTL 0, 0x10)]; (x.setAxis 1 { x.axis 1 with inTrip := false, oenEff := true }).setPhase 1 0 { x.phase 1 0 with duty := 150000, gate := .dead true, bs := 255 }) : State).periodSteps ((1 : Fin 24) / 4)) ∧ (120 ≤ ((let x := st [(A.SYS_MODE, 5), (A.SAF_STATUS, 6), (A.SAF_GATEEN, 0xFFFFFF), (A.PWM_Q_STATUS 0, 1), (A.PWM_Q_PERIOD 0, 18750), (A.PWM_Q_CTL 0, 0x10)]; (x.setAxis 1 { x.axis 1 with inTrip := false, oenEff := true }).setPhase 1 0 { x.phase 1 0 with duty := 150000, gate := .dead true, bs := 255 }) : State).edgeDuty (1 : Fin 24) (0 : Fin 3) - ((let x := st [(A.SYS_MODE, 5), (A.SAF_STATUS, 6), (A.SAF_GATEEN, 0xFFFFFF), (A.PWM_Q_STATUS 0, 1), (A.PWM_Q_PERIOD 0, 18750), (A.PWM_Q_CTL 0, 0x10)]; (x.setAxis 1 { x.axis 1 with inTrip := false, oenEff := true }).setPhase 1 0 { x.phase 1 0 with duty := 150000, gate := .dead true, bs := 255 }) : State).deadSteps ((1 : Fin 24) / 4)) ∧ ((((let x := st [(A.SYS_MODE, 5), (A.SAF_STATUS, 6), (A.SAF_GATEEN, 0xFFFFFF), (A.PWM_Q_STATUS 0, 1), (A.PWM_Q_PERIOD 0, 18750), (A.PWM_Q_CTL 0, 0x10)]; (x.setAxis 1 { x.axis 1 with inTrip := false, oenEff := true }).setPhase 1 0 { x.phase 1 0 with duty := 150000, gate := .dead true, bs := 255 }) : State).phase (1 : Fin 24) (0 : Fin 3)).dropLow = false) := by decide +kernel

theorem test_wit_gateEdges_4_3 : ((((let x := st [(A.SYS_MODE, 5), (A.SAF_STATUS, 6), (A.SAF_GATEEN, 0xFFFFFF), (A.PWM_Q_STATUS 0, 1), (A.PWM_Q_PERIOD 0, 18750), (A.PWM_Q_CTL 0, 0x10)]; (x.setAxis 1 { x.axis 1 with inTrip := false, oenEff := true }).setPhase 1 0 { x.phase 1 0 with duty := 150000, gate := .dead true, bs := 255 }) : State).phase (1 : Fin 24) (0 : Fin 3)).gate = .dead (true : Bool)) := by decide +kernel

theorem test_wit_gateEdges_5_3 : (((let x := st [(A.SYS_MODE, 5), (A.SAF_STATUS, 6), (A.SAF_GATEEN, 0xFFFFFF), (A.PWM_Q_STATUS 0, 1), (A.PWM_Q_PERIOD 0, 18750), (A.PWM_Q_CTL 0, 0x10)]; (x.setAxis 1 { x.axis 1 with inTrip := false, oenEff := true }).setPhase 1 0 { x.phase 1 0 with duty := 150000, gate := .dead true, bs := 255 }) : State).inForce (F.PWM_Q_CTL_BSMODE ((1 : Fin 24) / 4)) = 1) ∧ (((let x := st [(A.SYS_MODE, 5), (A.SAF_STATUS, 6), (A.SAF_GATEEN, 0xFFFFFF), (A.PWM_Q_STATUS 0, 1), (A.PWM_Q_PERIOD 0, 18750), (A.PWM_Q_CTL 0, 0x10)]; (x.setAxis 1 { x.axis 1 with inTrip := false, oenEff := true }).setPhase 1 0 { x.phase 1 0 with duty := 150000, gate := .dead true, bs := 255 }) : State).inForce (F.PWM_Q_BOOT_BSMAX ((1 : Fin 24) / 4)) ≤ (((let x := st [(A.SYS_MODE, 5), (A.SAF_STATUS, 6), (A.SAF_GATEEN, 0xFFFFFF), (A.PWM_Q_STATUS 0, 1), (A.PWM_Q_PERIOD 0, 18750), (A.PWM_Q_CTL 0, 0x10)]; (x.setAxis 1 { x.axis 1 with inTrip := false, oenEff := true }).setPhase 1 0 { x.phase 1 0 with duty := 150000, gate := .dead true, bs := 255 }) : State).phase (1 : Fin 24) (0 : Fin 3)).bs) ∧ ((((let x := st [(A.SYS_MODE, 5), (A.SAF_STATUS, 6), (A.SAF_GATEEN, 0xFFFFFF), (A.PWM_Q_STATUS 0, 1), (A.PWM_Q_PERIOD 0, 18750), (A.PWM_Q_CTL 0, 0x10)]; (x.setAxis 1 { x.axis 1 with inTrip := false, oenEff := true }).setPhase 1 0 { x.phase 1 0 with duty := 150000, gate := .dead true, bs := 255 }) : State).phase (1 : Fin 24) (0 : Fin 3)).refresh = false) ∧ (((let x := st [(A.SYS_MODE, 5), (A.SAF_STATUS, 6), (A.SAF_GATEEN, 0xFFFFFF), (A.PWM_Q_STATUS 0, 1), (A.PWM_Q_PERIOD 0, 18750), (A.PWM_Q_CTL 0, 0x10)]; (x.setAxis 1 { x.axis 1 with inTrip := false, oenEff := true }).setPhase 1 0 { x.phase 1 0 with duty := 150000, gate := .dead true, bs := 255 }) : State).carrierOn ((1 : Fin 24) / 4) = true) ∧ (((let x := st [(A.SYS_MODE, 5), (A.SAF_STATUS, 6), (A.SAF_GATEEN, 0xFFFFFF), (A.PWM_Q_STATUS 0, 1), (A.PWM_Q_PERIOD 0, 18750), (A.PWM_Q_CTL 0, 0x10)]; (x.setAxis 1 { x.axis 1 with inTrip := false, oenEff := true }).setPhase 1 0 { x.phase 1 0 with duty := 150000, gate := .dead true, bs := 255 }) : State).rd (F.PWM_AX_CNT_BSCNT (1 : Fin 24)) < 65535) := by decide +kernel

theorem test_wit_gateEdges_2_4 : (((let x := st [(A.SYS_MODE, 5), (A.SAF_STATUS, 6), (A.SAF_GATEEN, 0xFFFFFF), (A.PWM_Q_STATUS 0, 1), (A.PWM_Q_PERIOD 0, 18750), (A.PWM_Q_CTL 0, 0x10)]; (x.setAxis 1 { x.axis 1 with inTrip := false, oenEff := true }).setPhase 1 0 { x.phase 1 0 with duty := 100, gate := .low }) : State).powered (1 : Fin 24) = true) ∧ ((((let x := st [(A.SYS_MODE, 5), (A.SAF_STATUS, 6), (A.SAF_GATEEN, 0xFFFFFF), (A.PWM_Q_STATUS 0, 1), (A.PWM_Q_PERIOD 0, 18750), (A.PWM_Q_CTL 0, 0x10)]; (x.setAxis 1 { x.axis 1 with inTrip := false, oenEff := true }).setPhase 1 0 { x.phase 1 0 with duty := 100, gate := .low }) : State).axis (1 : Fin 24)).inTrip = false) ∧ (((let x := st [(A.SYS_MODE, 5), (A.SAF_STATUS, 6), (A.SAF_GATEEN, 0xFFFFFF), (A.PWM_Q_STATUS 0, 1), (A.PWM_Q_PERIOD 0, 18750), (A.PWM_Q_CTL 0, 0x10)]; (x.setAxis 1 { x.axis 1 with inTrip := false, oenEff := true }).setPhase 1 0 { x.phase 1 0 with duty := 100, gate := .low }) : State).carrierOn ((1 : Fin 24) / 4) = true) ∧ (((let x := st [(A.SYS_MODE, 5), (A.SAF_STATUS, 6), (A.SAF_GATEEN, 0xFFFFFF), (A.PWM_Q_STATUS 0, 1), (A.PWM_Q_PERIOD 0, 18750), (A.PWM_Q_CTL 0, 0x10)]; (x.setAxis 1 { x.axis 1 with inTrip := false, oenEff := true }).setPhase 1 0 { x.phase 1 0 with duty := 100, gate := .low }) : State).bit (F.PWM_Q_CNT_DIR ((1 : Fin 24) / 4)) = false) ∧ (((let x := st [(A.SYS_MODE, 5), (A.SAF_STATUS, 6), (A.SAF_GATEEN, 0xFFFFFF), (A.PWM_Q_STATUS 0, 1), (A.PWM_Q_PERIOD 0, 18750), (A.PWM_Q_CTL 0, 0x10)]; (x.setAxis 1 { x.axis 1 with inTrip := false, oenEff := true }).setPhase 1 0 { x.phase 1 0 with duty := 100, gate := .low }) : State).edgeDuty (1 : Fin 24) (0 : Fin 3) < ((let x := st [(A.SYS_MODE, 5), (A.SAF_STATUS, 6), (A.SAF_GATEEN, 0xFFFFFF), (A.PWM_Q_STATUS 0, 1), (A.PWM_Q_PERIOD 0, 18750), (A.PWM_Q_CTL 0, 0x10)]; (x.setAxis 1 { x.axis 1 with inTrip := false, oenEff := true }).setPhase 1 0 { x.phase 1 0 with duty := 100, gate := .low }) : State).periodSteps ((1 : Fin 24) / 4)) ∧ (0 < ((let x := st [(A.SYS_MODE, 5), (A.SAF_STATUS, 6), (A.SAF_GATEEN, 0xFFFFFF), (A.PWM_Q_STATUS 0, 1), (A.PWM_Q_PERIOD 0, 18750), (A.PWM_Q_CTL 0, 0x10)]; (x.setAxis 1 { x.axis 1 with inTrip := false, oenEff := true }).setPhase 1 0 { x.phase 1 0 with duty := 100, gate := .low }) : State).edgeDuty (1 : Fin 24) (0 : Fin 3)) ∧ (((let x := st [(A.SYS_MODE, 5), (A.SAF_STATUS, 6), (A.SAF_GATEEN, 0xFFFFFF), (A.PWM_Q_STATUS 0, 1), (A.PWM_Q_PERIOD 0, 18750), (A.PWM_Q_CTL 0, 0x10)]; (x.setAxis 1 { x.axis 1 with inTrip := false, oenEff := true }).setPhase 1 0 { x.phase 1 0 with duty := 100, gate := .low }) : State).edgeDuty (1 : Fin 24) (0 : Fin 3) - ((let x := st [(A.SYS_MODE, 5), (A.SAF_STATUS, 6), (A.SAF_GATEEN, 0xFFFFFF), (A.PWM_Q_STATUS 0, 1), (A.PWM_Q_PERIOD 0, 18750), (A.PWM_Q_CTL 0, 0x10)]; (x.setAxis 1 { x.axis 1 with inTrip := false, oenEff := true }).setPhase 1 0 { x.phase 1 0 with duty := 100, gate := .low }) : State).deadSteps ((1 : Fin 24) / 4) < 120) ∧ (((let x := st [(A.SYS_MODE, 5), (A.SAF_STATUS, 6), (A.SAF_GATEEN, 0xFFFFFF), (A.PWM_Q_STATUS 0, 1), (A.PWM_Q_PERIOD 0, 18750), (A.PWM_Q_CTL 0, 0x10)]; (x.setAxis 1 { x.axis 1 with inTrip := false, oenEff := true }).setPhase 1 0 { x.phase 1 0 with duty := 100, gate := .low }) : State).inForce (F.PWM_Q_CTL_MPMODE ((1 : Fin 24) / 4)) = 0) ∧ ((((let x := st [(A.SYS_MODE, 5), (A.SAF_STATUS, 6), (A.SAF_GATEEN, 0xFFFFFF), (A.PWM_Q_STATUS 0, 1), (A.PWM_Q_PERIOD 0, 18750), (A.PWM_Q_CTL 0, 0x10)]; (x.setAxis 1 { x.axis 1 with inTrip := false, oenEff := true }).setPhase 1 0 { x.phase 1 0 with duty := 100, gate := .low }) : State).phase (1 : Fin 24) (0 : Fin 3)).dropLow = false) := by decide +kernel

theorem test_wit_gateEdges_3_5 : (((let x := st [(A.SYS_MODE, 5), (A.SAF_STATUS, 6), (A.SAF_GATEEN, 0xFFFFFF), (A.PWM_Q_STATUS 0, 1), (A.PWM_Q_PERIOD 0, 18750), (A.PWM_Q_CNT 0, 0x10000)]; (x.setAxis 1 { x.axis 1 with inTrip := false, oenEff := true }).setPhase 1 0 { x.phase 1 0 with duty := 100, gate := .high }) : State).powered (1 : Fin 24) = true) ∧ ((((let x := st [(A.SYS_MODE, 5), (A.SAF_STATUS, 6), (A.SAF_GATEEN, 0xFFFFFF), (A.PWM_Q_STATUS 0, 1), (A.PWM_Q_PERIOD 0, 18750), (A.PWM_Q_CNT 0, 0x10000)]; (x.setAxis 1 { x.axis 1 with inTrip := false, oenEff := true }).setPhase 1 0 { x.phase 1 0 with duty := 100, gate := .high }) : State).axis (1 : Fin 24)).inTrip = false) ∧ (((let x := st [(A.SYS_MODE, 5), (A.SAF_STATUS, 6), (A.SAF_GATEEN, 0xFFFFFF), (A.PWM_Q_STATUS 0, 1), (A.PWM_Q_PERIOD 0, 18750), (A.PWM_Q_CNT 0, 0x10000)]; (x.setAxis 1 { x.axis 1 with inTrip := false, oenEff := true }).setPhase 1 0 { x.phase 1 0 with duty := 100, gate := .high }) : State).carrierOn ((1 : Fin 24) / 4) = true) ∧ (((let x := st [(A.SYS_MODE, 5), (A.SAF_STATUS, 6), (A.SAF_GATEEN, 0xFFFFFF), (A.PWM_Q_STATUS 0, 1), (A.PWM_Q_PERIOD 0, 18750), (A.PWM_Q_CNT 0, 0x10000)]; (x.setAxis 1 { x.axis 1 with inTrip := false, oenEff := true }).setPhase 1 0 { x.phase 1 0 with duty := 100, gate := .high }) : State).bit (F.PWM_Q_CNT_DIR ((1 : Fin 24) / 4)) = true) ∧ (0 < ((let x := st [(A.SYS_MODE, 5), (A.SAF_STATUS, 6), (A.SAF_GATEEN, 0xFFFFFF), (A.PWM_Q_STATUS 0, 1), (A.PWM_Q_PERIOD 0, 18750), (A.PWM_Q_CNT 0, 0x10000)]; (x.setAxis 1 { x.axis 1 with inTrip := false, oenEff := true }).setPhase 1 0 { x.phase 1 0 with duty := 100, gate := .high }) : State).edgeDuty (1 : Fin 24) (0 : Fin 3)) ∧ (120 ≤ ((let x := st [(A.SYS_MODE, 5), (A.SAF_STATUS, 6), (A.SAF_GATEEN, 0xFFFFFF), (A.PWM_Q_STATUS 0, 1), (A.PWM_Q_PERIOD 0, 18750), (A.PWM_Q_CNT 0, 0x10000)]; (x.setAxis 1 { x.axis 1 with inTrip := false, oenEff := true }).setPhase 1 0 { x.phase 1 0 with duty := 100, gate := .high }) : State).periodSteps ((1 : Fin 24) / 4) - ((let x := st [(A.SYS_MODE, 5), (A.SAF_STATUS, 6), (A.SAF_GATEEN, 0xFFFFFF), (A.PWM_Q_STATUS 0, 1), (A.PWM_Q_PERIOD 0, 18750), (A.PWM_Q_CNT 0, 0x10000)]; (x.setAxis 1 { x.axis 1 with inTrip := false, oenEff := true }).setPhase 1 0 { x.phase 1 0 with duty := 100, gate := .high }) : State).edgeDuty (1 : Fin 24) (0 : Fin 3) - ((let x := st [(A.SYS_MODE, 5), (A.SAF_STATUS, 6), (A.SAF_GATEEN, 0xFFFFFF), (A.PWM_Q_STATUS 0, 1), (A.PWM_Q_PERIOD 0, 18750), (A.PWM_Q_CNT 0, 0x10000)]; (x.setAxis 1 { x.axis 1 with inTrip := false, oenEff := true }).setPhase 1 0 { x.phase 1 0 with duty := 100, gate := .high }) : State).deadSteps ((1 : Fin 24) / 4)) ∧ ((((let x := st [(A.SYS_MODE, 5), (A.SAF_STATUS, 6), (A.SAF_GATEEN, 0xFFFFFF), (A.PWM_Q_STATUS 0, 1), (A.PWM_Q_PERIOD 0, 18750), (A.PWM_Q_CNT 0, 0x10000)]; (x.setAxis 1 { x.axis 1 with inTrip := false, oenEff := true }).setPhase 1 0 { x.phase 1 0 with duty := 100, gate := .high }) : State).phase (1 : Fin 24) (0 : Fin 3)).dropHigh = false) := by decide +kernel

theorem test_wit_tripsAndGateEnables_1_1 : ((((let x := st [(A.SYS_MODE, 5), (A.SAF_STATUS, 6), (A.SAF_GATEEN, 0xFFFFFF)]; x.setPhase 9 1 { x.phase 9 1 with gate := .low }) : State).axis (9 : Fin 24)).lvl = false) ∧ ((4 : Fin 6) = 4 ∨ ((let x := st [(A.SYS_MODE, 5), (A.SAF_STATUS, 6), (A.SAF_GATEEN, 0xFFFFFF)]; x.setPhase 9 1 { x.phase 9 1 with gate := .low }) : State).tripLevel (9 : Fin 24) = true) := by decide +kernel

theorem test_wit_tripsAndGateEnables_2_1 : (((let x := st [(A.SYS_MODE, 5), (A.SAF_STATUS, 6), (A.SAF_GATEEN, 0xFFFFFF)]; x.setPhase 9 1 { x.phase 9 1 with gate := .low }) : State).operating = true) ∧ (isCore (.coreA 1 false : Writer) = true) := by decide +kernel

theorem test_wit_tripsAndGateEnables_3_1 : (((let x := st [(A.SYS_MODE, 5), (A.SAF_STATUS, 6), (A.SAF_GATEEN, 0xFFFFFF)]; x.setPhase 9 1 { x.phase 9 1 with gate := .low }) : State).operating = true) := by decide +kernel

theorem test_wit_tripsAndGateEnables_3_2 : ((st [(A.SYS_MODE, 6), (A.SAF_STATUS, 6), (A.SAF_GATEEN, 0xFF0000)] : State).operating = true) := by decide +kernel

theorem test_wit_comparatorsActAndClear_1_1 : ((st [(A.SYS_MODE, 5), (A.CMP_CH_CFG 13, 1)] : State).compPowered (13 : Fin 58) = true) ∧ (((false : Bool) && (true : Bool)) = false) := by decide +kernel

theorem test_wit_comparatorsActAndClear_3_1 : ((st [(A.SYS_MODE, 5), (A.CMP_CH_CFG 13, 1)] : State).compPowered (13 : Fin 58) = true) ∧ ((st [(A.SYS_MODE, 5), (A.CMP_CH_CFG 13, 1)] : State).compSampled (13 : Fin 58) = false) ∧ ((st [(A.SYS_MODE, 5), (A.CMP_CH_CFG 13, 1)] : State).inForce (F.CMP_CH_CFG_MAJ (13 : Fin 58)) = 0) ∧ (((st [(A.SYS_MODE, 5), (A.CMP_CH_CFG 13, 1)] : State).comp (13 : Fin 58)).blank = false) ∧ ((st [(A.SYS_MODE, 5), (A.CMP_CH_CFG 13, 1)] : State).inForce (F.CMP_CH_CFG_TRIPEN_HI (13 : Fin 58)) ≠ 0) ∧ ((st [(A.SYS_MODE, 5), (A.CMP_CH_CFG 13, 1)] : State).inForce (F.CMP_CH_CFG_CLR (13 : Fin 58)) ≠ 2) ∧ (((st [(A.SYS_MODE, 5), (A.CMP_CH_CFG 13, 1)] : State).comp (13 : Fin 58)).latch = false) := by decide +kernel

theorem test_wit_comparatorsActAndClear_1_2 : ((st [(A.SYS_MODE, 5), (A.CMP_CH_CFG 57, 9)] : State).compPowered (57 : Fin 58) = true) ∧ (((true : Bool) && (false : Bool)) = false) := by decide +kernel

theorem test_wit_comparatorsActAndClear_3_2 : ((st [(A.SYS_MODE, 5), (A.CMP_CH_CFG 57, 9)] : State).compPowered (57 : Fin 58) = true) ∧ ((st [(A.SYS_MODE, 5), (A.CMP_CH_CFG 57, 9)] : State).compSampled (57 : Fin 58) = false) ∧ ((st [(A.SYS_MODE, 5), (A.CMP_CH_CFG 57, 9)] : State).inForce (F.CMP_CH_CFG_MAJ (57 : Fin 58)) = 0) ∧ (((st [(A.SYS_MODE, 5), (A.CMP_CH_CFG 57, 9)] : State).comp (57 : Fin 58)).blank = false) ∧ ((st [(A.SYS_MODE, 5), (A.CMP_CH_CFG 57, 9)] : State).inForce (F.CMP_CH_CFG_TRIPEN_HI (57 : Fin 58)) ≠ 0) ∧ ((st [(A.SYS_MODE, 5), (A.CMP_CH_CFG 57, 9)] : State).inForce (F.CMP_CH_CFG_CLR (57 : Fin 58)) ≠ 2) ∧ (((st [(A.SYS_MODE, 5), (A.CMP_CH_CFG 57, 9)] : State).comp (57 : Fin 58)).latch = false) := by decide +kernel

theorem test_wit_comparatorsActAndClear_2_3 : ((st [(A.SYS_MODE, 1)] : State).compPowered (57 : Fin 58) = false) := by decide +kernel

theorem test_wit_comparatorsActAndClear_4_4 : ((st [(A.SYS_MODE, 5), (A.CMP_CH_CFG 13, 0x5)] : State).compPowered (13 : Fin 58) = true) ∧ ((st [(A.SYS_MODE, 5), (A.CMP_CH_CFG 13, 0x5)] : State).compSampled (13 : Fin 58) = false) ∧ ((st [(A.SYS_MODE, 5), (A.CMP_CH_CFG 13, 0x5)] : State).inForce (F.CMP_CH_CFG_MAJ (13 : Fin 58)) ≠ 0) ∧ (majority 2 3 ((st [(A.SYS_MODE, 5), (A.CMP_CH_CFG 13, 0x5)] : State).comp (13 : Fin 58)).histA = false) ∧ (majority 2 3 ((st [(A.SYS_MODE, 5), (A.CMP_CH_CFG 13, 0x5)] : State).comp (13 : Fin 58)).histB = false) ∧ (((st [(A.SYS_MODE, 5), (A.CMP_CH_CFG 13, 0x5)] : State).comp (13 : Fin 58)).latch = false) := by decide +kernel

theorem test_wit_comparatorsActAndClear_5_5 : (((let x := st [(A.SYS_MODE, 5), (A.CMP_CH_CFG 13, 1)]; x.setComp 13 { x.comp 13 with blank := true, above := true }) : State).compLive = true) ∧ (((let x := st [(A.SYS_MODE, 5), (A.CMP_CH_CFG 13, 1)]; x.setComp 13 { x.comp 13 with blank := true, above := true }) : State).compSampled (13 : Fin 58) = false) ∧ (((let x := st [(A.SYS_MODE, 5), (A.CMP_CH_CFG 13, 1)]; x.setComp 13 { x.comp 13 with blank := true, above := true }) : State).inForce (F.CMP_CH_CFG_MAJ (13 : Fin 58)) = 0) ∧ ((((let x := st [(A.SYS_MODE, 5), (A.CMP_CH_CFG 13, 1)]; x.setComp 13 { x.comp 13 with blank := true, above := true }) : State).comp (13 : Fin 58)).blank = true) ∧ ((((let x := st [(A.SYS_MODE, 5), (A.CMP_CH_CFG 13, 1)]; x.setComp 13 { x.comp 13 with blank := true, above := true }) : State).comp (13 : Fin 58)).above = true) ∧ (((let x := st [(A.SYS_MODE, 5), (A.CMP_CH_CFG 13, 1)]; x.setComp 13 { x.comp 13 with blank := true, above := true }) : State).inForce (F.CMP_CH_CFG_TRIPEN_HI (13 : Fin 58)) ≠ 0) ∧ (((let x := st [(A.SYS_MODE, 5), (A.CMP_CH_CFG 13, 1)]; x.setComp 13 { x.comp 13 with blank := true, above := true }) : State).inForce (F.CMP_CH_CFG_CLR (13 : Fin 58)) ≠ 2) := by decide +kernel

theorem test_wit_comparatorsActAndClear_6_6 : ((((let x := st [(A.SYS_MODE, 5), (A.CMP_CH_CFG 13, 1)]; x.setComp 13 { x.comp 13 with blank := true }) : State).comp (13 : Fin 58)).blank = true) := by decide +kernel

theorem test_wit_comparatorsActAndClear_7_7 : ((st [(A.SYS_MODE, 5), (A.CMP_CH_CFG 56, 0x400001), (A.TICK_PHASE, 60)] : State).compLive = true) ∧ ((st [(A.SYS_MODE, 5), (A.CMP_CH_CFG 56, 0x400001), (A.TICK_PHASE, 60)] : State).compSampled (54 + (2 : Fin 4)) = true) ∧ (((false : Bool) && (true : Bool)) = false) ∧ ((st [(A.SYS_MODE, 5), (A.CMP_CH_CFG 56, 0x400001), (A.TICK_PHASE, 60)] : State).windowEnds (2 : Fin 4) = true) ∧ ((st [(A.SYS_MODE, 5), (A.CMP_CH_CFG 56, 0x400001), (A.TICK_PHASE, 60)] : State).cmpFrozen = false) := by decide +kernel

theorem test_wit_comparatorsActAndClear_8_8 : (((let x := st [(A.SYS_MODE, 5), (A.CMP_CH_CFG 55, 0)]; x.setComp 55 { x.comp 55 with latch := true }) : State).operating = true) ∧ ((.coreA 2 false : Writer) = .coreS ∨ (isCore (.coreA 2 false : Writer) = true ∧ ((let x := st [(A.SYS_MODE, 5), (A.CMP_CH_CFG 55, 0)]; x.setComp 55 { x.comp 55 with latch := true }) : State).mode ≠ .safeStop)) ∧ (((let x := st [(A.SYS_MODE, 5), (A.CMP_CH_CFG 55, 0)]; x.setComp 55 { x.comp 55 with latch := true }) : State).compSig (55 : Fin 58) = false) := by decide +kernel

theorem test_wit_comparatorsActAndClear_10_8 : (((let x := st [(A.SYS_MODE, 5), (A.CMP_CH_CFG 55, 0)]; x.setComp 55 { x.comp 55 with latch := true }) : State).operating = true) ∧ ((.coreA 2 false : Writer) = .coreS ∨ (isCore (.coreA 2 false : Writer) = true ∧ ((let x := st [(A.SYS_MODE, 5), (A.CMP_CH_CFG 55, 0)]; x.setComp 55 { x.comp 55 with latch := true }) : State).mode ≠ .safeStop)) ∧ (getBits (0x100C1 : Word) 0 8 = 0xC1) := by decide +kernel

theorem test_wit_comparatorsActAndClear_11_8 : (((let x := st [(A.SYS_MODE, 5), (A.CMP_CH_CFG 55, 0)]; x.setComp 55 { x.comp 55 with latch := true }) : State).operating = true) ∧ (getBits (0x100C1 : Word) 16 10 < getBits (0x100C1 : Word) 0 10) := by decide +kernel

theorem test_wit_comparatorsActAndClear_13_8 : (((let x := st [(A.SYS_MODE, 5), (A.CMP_CH_CFG 55, 0)]; x.setComp 55 { x.comp 55 with latch := true }) : State).operating = true) ∧ (getBits (0x100C1 : Word) 3 2 ≠ 3) := by decide +kernel

theorem test_wit_comparatorsActAndClear_14_8 : (((let x := st [(A.SYS_MODE, 5), (A.CMP_CH_CFG 55, 0)]; x.setComp 55 { x.comp 55 with latch := true }) : State).operating = true) ∧ ((55 : Fin 58).val = 54 + (1 : Fin 4).val) := by decide +kernel

theorem test_wit_comparatorsActAndClear_15_8 : (((let x := st [(A.SYS_MODE, 5), (A.CMP_CH_CFG 55, 0)]; x.setComp 55 { x.comp 55 with latch := true }) : State).operating = true) := by decide +kernel

theorem test_wit_comparatorsActAndClear_9_9 : (((let x := st [(A.SYS_MODE, 6), (A.CMP_CH_CFG 0, 1)]; x.setComp 0 { x.comp 0 with latch := true, above := true }) : State).operating = true) ∧ ((.coreS : Writer) = .coreS ∨ (isCore (.coreS : Writer) = true ∧ ((let x := st [(A.SYS_MODE, 6), (A.CMP_CH_CFG 0, 1)]; x.setComp 0 { x.comp 0 with latch := true, above := true }) : State).mode ≠ .safeStop)) ∧ (((let x := st [(A.SYS_MODE, 6), (A.CMP_CH_CFG 0, 1)]; x.setComp 0 { x.comp 0 with latch := true, above := true }) : State).compSig (0 : Fin 58) = true) ∧ ((((let x := st [(A.SYS_MODE, 6), (A.CMP_CH_CFG 0, 1)]; x.setComp 0 { x.comp 0 with latch := true, above := true }) : State).comp (0 : Fin 58)).latch = true) := by decide +kernel

theorem test_wit_comparatorsActAndClear_12_9 : (((let x := st [(A.SYS_MODE, 6), (A.CMP_CH_CFG 0, 1)]; x.setComp 0 { x.comp 0 with latch := true, above := true }) : State).operating = true) ∧ (getBits (0x12000DD : Word) 0 10 ≤ getBits (0x12000DD : Word) 16 10) := by decide +kernel

theorem test_wit_comparatorsActAndClear_15_9 : (((let x := st [(A.SYS_MODE, 6), (A.CMP_CH_CFG 0, 1)]; x.setComp 0 { x.comp 0 with latch := true, above := true }) : State).operating = true) := by decide +kernel

theorem test_wit_eventChannels_1_1 : ((st [(A.SYS_MODE, 5), (A.EVR_CH_CFG 95, 1), (A.EVR_CH_CFG 7, 1), (A.EVR_CH_SRC 7, 0x80000000), (A.EVR_CH_LINK 7, 0x7FF), (A.EVR_CH_LINK 95, 0x7FF)] : State).evrAonOnly = false) ∧ ((st [(A.SYS_MODE, 5), (A.EVR_CH_CFG 95, 1), (A.EVR_CH_CFG 7, 1), (A.EVR_CH_SRC 7, 0x80000000), (A.EVR_CH_LINK 7, 0x7FF), (A.EVR_CH_LINK 95, 0x7FF)] : State).evrFrozen = false) ∧ ((31 : Fin 32).val < evrInputs (7 : Fin 96)) ∧ (((st [(A.SYS_MODE, 5), (A.EVR_CH_CFG 95, 1), (A.EVR_CH_CFG 7, 1), (A.EVR_CH_SRC 7, 0x80000000), (A.EVR_CH_LINK 7, 0x7FF), (A.EVR_CH_LINK 95, 0x7FF)] : State).evrSet (F.EVR_CH_SRC_MASK (7 : Fin 96))).testBit (31 : Fin 32) = true) ∧ ((st [(A.SYS_MODE, 5), (A.EVR_CH_CFG 95, 1), (A.EVR_CH_CFG 7, 1), (A.EVR_CH_SRC 7, 0x80000000), (A.EVR_CH_LINK 7, 0x7FF), (A.EVR_CH_LINK 95, 0x7FF)] : State).evrFires (7 : Fin 96) = true) ∧ ((st [(A.SYS_MODE, 5), (A.EVR_CH_CFG 95, 1), (A.EVR_CH_CFG 7, 1), (A.EVR_CH_SRC 7, 0x80000000), (A.EVR_CH_LINK 7, 0x7FF), (A.EVR_CH_LINK 95, 0x7FF)] : State).evrGate (7 : Fin 96) = true) ∧ ((st [(A.SYS_MODE, 5), (A.EVR_CH_CFG 95, 1), (A.EVR_CH_CFG 7, 1), (A.EVR_CH_SRC 7, 0x80000000), (A.EVR_CH_LINK 7, 0x7FF), (A.EVR_CH_LINK 95, 0x7FF)] : State).evrFiredNow (7 : Fin 96) = false) ∧ ((st [(A.SYS_MODE, 5), (A.EVR_CH_CFG 95, 1), (A.EVR_CH_CFG 7, 1), (A.EVR_CH_SRC 7, 0x80000000), (A.EVR_CH_LINK 7, 0x7FF), (A.EVR_CH_LINK 95, 0x7FF)] : State).evrHoldoff (7 : Fin 96) = false) ∧ ((st [(A.SYS_MODE, 5), (A.EVR_CH_CFG 95, 1), (A.EVR_CH_CFG 7, 1), (A.EVR_CH_SRC 7, 0x80000000), (A.EVR_CH_LINK 7, 0x7FF), (A.EVR_CH_LINK 95, 0x7FF)] : State).fireCount (7 : Fin 96) < (st [(A.SYS_MODE, 5), (A.EVR_CH_CFG 95, 1), (A.EVR_CH_CFG 7, 1), (A.EVR_CH_SRC 7, 0x80000000), (A.EVR_CH_LINK 7, 0x7FF), (A.EVR_CH_LINK 95, 0x7FF)] : State).rd F.EVR_LOOPLIM_LIM) := by decide +kernel

theorem test_wit_eventChannels_3_1 : ((st [(A.SYS_MODE, 5), (A.EVR_CH_CFG 95, 1), (A.EVR_CH_CFG 7, 1), (A.EVR_CH_SRC 7, 0x80000000), (A.EVR_CH_LINK 7, 0x7FF), (A.EVR_CH_LINK 95, 0x7FF)] : State).operating = true) ∧ (isCore (.coreA 0 false : Writer) = true) ∧ ((st [(A.SYS_MODE, 5), (A.EVR_CH_CFG 95, 1), (A.EVR_CH_CFG 7, 1), (A.EVR_CH_SRC 7, 0x80000000), (A.EVR_CH_LINK 7, 0x7FF), (A.EVR_CH_LINK 95, 0x7FF)] : State).evrSoft = 0) := by decide +kernel

theorem test_wit_eventChannels_2_2 : (((st [(A.SYS_MODE, 5), (A.EVR_CH_CFG 7, 1), (A.EVR_CH_SRC 7, 1)] : State).evrSet (F.EVR_CH_SRC_MASK (7 : Fin 96))).testBit (31 : Fin 32) = false) := by decide +kernel

theorem test_wit_eventChannels_3_2 : ((st [(A.SYS_MODE, 5), (A.EVR_CH_CFG 7, 1), (A.EVR_CH_SRC 7, 1)] : State).operating = true) ∧ (isCore (.coreS : Writer) = true) ∧ ((st [(A.SYS_MODE, 5), (A.EVR_CH_CFG 7, 1), (A.EVR_CH_SRC 7, 1)] : State).evrSoft = 0) := by decide +kernel

theorem test_wit_eventChannels_4_3 : ((st [(A.SYS_MODE, 3), (A.EVR_CH_STAT 95, 0x7F2001)] : State).operating = true) ∧ (isCore (.coreA 0 false : Writer) = true) ∧ ((st [(A.SYS_MODE, 3), (A.EVR_CH_STAT 95, 0x7F2001)] : State).bit (F.EVR_CH_STAT_LOOP (95 : Fin 96)) = true) := by decide +kernel

theorem test_wit_eventChannels_5_3 : ((st [(A.SYS_MODE, 3), (A.EVR_CH_STAT 95, 0x7F2001)] : State).operating = true) ∧ (isCore (.coreA 0 false : Writer) = true) ∧ ((st [(A.SYS_MODE, 3), (A.EVR_CH_STAT 95, 0x7F2001)] : State).bit (F.EVR_CH_CFG_LOCK (95 : Fin 96)) = false) := by decide +kernel

theorem test_wit_eventChannels_7_3 : ((st [(A.SYS_MODE, 3), (A.EVR_CH_STAT 95, 0x7F2001)] : State).bit F.TICK_STATUS_RUNNING = false) ∧ ((st [(A.SYS_MODE, 3), (A.EVR_CH_STAT 95, 0x7F2001)] : State).evrFrozen = false) := by decide +kernel

theorem test_wit_eventChannels_8_3 : ((st [(A.SYS_MODE, 3), (A.EVR_CH_STAT 95, 0x7F2001)] : State).mode = .off ∨ (st [(A.SYS_MODE, 3), (A.EVR_CH_STAT 95, 0x7F2001)] : State).dioDriven (15 : Fin 16) = none ∨ (st [(A.SYS_MODE, 3), (A.EVR_CH_STAT 95, 0x7F2001)] : State).dioDriven (15 : Fin 16) = some (true : Bool)) := by decide +kernel

theorem test_wit_eventChannels_6_4 : ((st [(A.SYS_MODE, 3), (A.EVR_CH_CFG 0, 0x801)] : State).operating = true) ∧ (isCore (.coreA 0 false : Writer) = true) ∧ ((st [(A.SYS_MODE, 3), (A.EVR_CH_CFG 0, 0x801)] : State).bit (F.EVR_CH_CFG_LOCK (0 : Fin 96)) = true) := by decide +kernel

theorem test_wit_eventChannels_8_5 : ((st [(A.SYS_MODE, 1), (A.AON_DIODIR, 1), (A.AON_DIOIN, 1)] : State).mode = .off ∨ (st [(A.SYS_MODE, 1), (A.AON_DIODIR, 1), (A.AON_DIOIN, 1)] : State).dioDriven (0 : Fin 16) = none ∨ (st [(A.SYS_MODE, 1), (A.AON_DIODIR, 1), (A.AON_DIOIN, 1)] : State).dioDriven (0 : Fin 16) = some (false : Bool)) := by decide +kernel

theorem test_wit_interruptsLatchAndAreClaimed_1_1 : (sourceExists (3 : Fin 5) (511 : Fin 512) = true) ∧ ((st [(A.SYS_MODE, 3), (A.ICU_PEND 3 15, 0x80000000), (A.ICU_GRP 3 31, 0x105000101), (A.ICU_MRGCNT 3, 65535)] : State).icuLive (3 : Fin 5) = true) ∧ ((st [(A.SYS_MODE, 3), (A.ICU_PEND 3 15, 0x80000000), (A.ICU_GRP 3 31, 0x105000101), (A.ICU_MRGCNT 3, 65535)] : State).bit (F.ICU_CFG_GEN (3 : Fin 5) (511 : Fin 512)) = false) := by decide +kernel

theorem test_wit_interruptsLatchAndAreClaimed_3_1 : ((st [(A.SYS_MODE, 3), (A.ICU_PEND 3 15, 0x80000000), (A.ICU_GRP 3 31, 0x105000101), (A.ICU_MRGCNT 3, 65535)] : State).operating = true) ∧ ((isCore (.coreA 0 true : Writer) = true ∧ (3 : Fin 5).val < 4) ∨ (.coreA 0 true : Writer) = .coreS) := by decide +kernel

theorem test_wit_interruptsLatchAndAreClaimed_4_1 : ((st [(A.SYS_MODE, 3), (A.ICU_PEND 3 15, 0x80000000), (A.ICU_GRP 3 31, 0x105000101), (A.ICU_MRGCNT 3, 65535)] : State).bit (F.ICU_GRP_RUN (3 : Fin 5) (31 : Fin 32)) = true) := by decide +kernel

theorem test_wit_interruptsLatchAndAreClaimed_1_2 : (sourceExists (4 : Fin 5) (0 : Fin 512) = true) ∧ ((st [(A.SYS_MODE, 3)] : State).icuLive (4 : Fin 5) = true) ∧ ((st [(A.SYS_MODE, 3)] : State).bit (F.ICU_CFG_GEN (4 : Fin 5) (0 : Fin 512)) = false) := by decide +kernel

theorem test_wit_interruptsLatchAndAreClaimed_3_2 : ((st [(A.SYS_MODE, 3)] : State).operating = true) ∧ ((isCore (.coreS : Writer) = true ∧ (4 : Fin 5).val < 4) ∨ (.coreS : Writer) = .coreS) := by decide +kernel

theorem test_wit_interruptsLatchAndAreClaimed_2_3 : (sourceExists (4 : Fin 5) (29 : Fin 512) = false) := by decide +kernel

theorem test_wit_interruptsLatchAndAreClaimed_5_4 : ((st [(A.SYS_MODE, 3), (A.ICU_PEND 2 1, 0x20), (A.ICU_CFG 2 9, 0x6000), (A.ICU_ACT 2 15, 0x80000000)] : State).operating = true) ∧ (isCore (.coreA 1 true : Writer) = true) ∧ ((st [(A.SYS_MODE, 3), (A.ICU_PEND 2 1, 0x20), (A.ICU_CFG 2 9, 0x6000), (A.ICU_ACT 2 15, 0x80000000)] : State).icuPick (2 : Fin 5) ((st [(A.SYS_MODE, 3), (A.ICU_PEND 2 1, 0x20), (A.ICU_CFG 2 9, 0x6000), (A.ICU_ACT 2 15, 0x80000000)] : State).icuBy (.coreA 1 true : Writer) (2 : Fin 5)) = some (37 : Fin 512).val) := by decide +kernel

theorem test_wit_interruptsLatchAndAreClaimed_7_4 : ((st [(A.SYS_MODE, 3), (A.ICU_PEND 2 1, 0x20), (A.ICU_CFG 2 9, 0x6000), (A.ICU_ACT 2 15, 0x80000000)] : State).operating = true) ∧ ((isCore (.coreA 1 true : Writer) = true ∧ (2 : Fin 5).val < 4) ∨ (.coreA 1 true : Writer) = .coreS) ∧ ((0x11FF : Word).getLsbD 12 = true) ∧ ((st [(A.SYS_MODE, 3), (A.ICU_PEND 2 1, 0x20), (A.ICU_CFG 2 9, 0x6000), (A.ICU_ACT 2 15, 0x80000000)] : State).bit (actFld (2 : Fin 5) (getBits (0x11FF : Word) 0 9)) = true) := by decide +kernel

theorem test_wit_interruptsLatchAndAreClaimed_6_5 : ((st [(A.SYS_MODE, 3)] : State).operating = true) ∧ (isCore (.coreS : Writer) = true) ∧ ((st [(A.SYS_MODE, 3)] : State).icuPick (4 : Fin 5) ((st [(A.SYS_MODE, 3)] : State).icuBy (.coreS : Writer) (4 : Fin 5)) = none) := by decide +kernel

theorem test_wit_interruptsLatchAndAreClaimed_8_5 : ((st [(A.SYS_MODE, 3)] : State).operating = true) ∧ ((isCore (.coreS : Writer) = true ∧ (4 : Fin 5).val < 4) ∨ (.coreS : Writer) = .coreS) ∧ ((0x1000 : Word).getLsbD 12 = false ∨ (st [(A.SYS_MODE, 3)] : State).bit (actFld (4 : Fin 5) (getBits (0x1000 : Word) 0 9)) = false) := by decide +kernel

theorem test_wit_modeRequests_1_1 : ((st [(A.SYS_MODE, 3)] : State).operating = true) := by decide +kernel

theorem test_wit_modeRequests_3_1 : ((st [(A.SYS_MODE, 3)] : State).operating = true) ∧ (isCore (.coreA 0 true : Writer) = true) ∧ (isSup (.coreA 0 true : Writer) = true) ∧ ((st [(A.SYS_MODE, 3)] : State).bit F.SYS_MODESTAT_PEND = false) ∧ ((st [(A.SYS_MODE, 3)] : State).modeReason (getBits (4 : Word) 0 3) ≠ 0) := by decide +kernel

theorem test_wit_modeRequests_1_2 : ((st [(A.SYS_MODE, 4), (A.SYS_MODESTAT, 1)] : State).operating = true) := by decide +kernel

theorem test_wit_modeRequests_2_2 : ((st [(A.SYS_MODE, 4), (A.SYS_MODESTAT, 1)] : State).operating = true) ∧ (isCore (.coreS : Writer) = true) ∧ (isSup (.coreS : Writer) = true) ∧ ((st [(A.SYS_MODE, 4), (A.SYS_MODESTAT, 1)] : State).bit F.SYS_MODESTAT_PEND = true) := by decide +kernel

theorem test_wit_modeRequests_4_3 : ((st [(A.SYS_MODE, 4)] : State).operating = true) ∧ (isCore (.coreS : Writer) = true) ∧ (isSup (.coreS : Writer) = true) ∧ ((st [(A.SYS_MODE, 4)] : State).bit F.SYS_MODESTAT_PEND = false) ∧ ((st [(A.SYS_MODE, 4)] : State).modeReason (getBits (3 : Word) 0 3) = 0) ∧ (3 ≤ getBits (3 : Word) 0 3) ∧ (getBits (3 : Word) 0 3 ≤ 5) := by decide +kernel

theorem test_wit_modeRequests_4_4 : ((st [(A.SYS_MODE, 3), (A.SAF_STATUS, 6), (A.SAF_CONSENT, 1), (A.SYS_READY, 0x7FFF), (A.ADC_STATUS, 1)] : State).operating = true) ∧ (isCore (.coreA 3 true : Writer) = true) ∧ (isSup (.coreA 3 true : Writer) = true) ∧ ((st [(A.SYS_MODE, 3), (A.SAF_STATUS, 6), (A.SAF_CONSENT, 1), (A.SYS_READY, 0x7FFF), (A.ADC_STATUS, 1)] : State).bit F.SYS_MODESTAT_PEND = false) ∧ ((st [(A.SYS_MODE, 3), (A.SAF_STATUS, 6), (A.SAF_CONSENT, 1), (A.SYS_READY, 0x7FFF), (A.ADC_STATUS, 1)] : State).modeReason (getBits (4 : Word) 0 3) = 0) ∧ (3 ≤ getBits (4 : Word) 0 3) ∧ (getBits (4 : Word) 0 3 ≤ 5) := by decide +kernel

theorem test_wit_runLeavesThroughArmed_1_1 : ((st [(A.SYS_MODE, 5)] : State).operating = true) ∧ (isCore (.coreA 0 true : Writer) = true) ∧ (isSup (.coreA 0 true : Writer) = true) ∧ ((st [(A.SYS_MODE, 5)] : State).mode = .run) ∧ ((st [(A.SYS_MODE, 5)] : State).bit F.SYS_MODESTAT_PEND = false) ∧ (getBits (3 : Word) 0 3 = 3) := by decide +kernel

theorem test_wit_runLeavesThroughArmed_2_2 : ((st [(A.SYS_MODE, 5)] : State).operating = true) ∧ (isCore (.coreS : Writer) = true) ∧ (isSup (.coreS : Writer) = true) ∧ ((st [(A.SYS_MODE, 5)] : State).mode = .run) ∧ ((st [(A.SYS_MODE, 5)] : State).bit F.SYS_MODESTAT_PEND = false) ∧ (getBits (4 : Word) 0 3 = 4) := by decide +kernel

theorem test_wit_unlockWindows_1_1 : ((st [(A.SYS_MODE, 3)] : State).operating = true) ∧ (isSup (.coreA 0 true : Writer) = true) ∧ (isCore (.coreA 0 true : Writer) = true) ∧ (getBits (0x7A3C : Word) 0 16 = 0x7A3C) := by decide +kernel

theorem test_wit_unlockWindows_4_1 : ((st [(A.SYS_MODE, 3)] : State).operating = true) ∧ (isCore (.coreA 0 true : Writer) = true) ∧ ((st [(A.SYS_MODE, 3)] : State).windowOpen (writerKey (.coreA 0 true : Writer)) = false) := by decide +kernel

theorem test_wit_unlockWindows_5_1 : ((st [(A.SYS_MODE, 3)] : State).operating = true) ∧ (isCore (.coreA 0 true : Writer) = true) ∧ ((st [(A.SYS_MODE, 3)] : State).windowOpen (writerKey (.coreA 0 true : Writer)) = false) := by decide +kernel

theorem test_wit_unlockWindows_2_2 : ((st [(A.SYS_MODE, 6)] : State).operating = true) ∧ (isCore (.coreS : Writer) = true) ∧ (getBits (0x5A : Word) 0 16 ≠ 0x7A3C) := by decide +kernel

theorem test_wit_unlockWindows_4_2 : ((st [(A.SYS_MODE, 6)] : State).operating = true) ∧ (isCore (.coreS : Writer) = true) ∧ ((st [(A.SYS_MODE, 6)] : State).windowOpen (writerKey (.coreS : Writer)) = false) := by decide +kernel

theorem test_wit_unlockWindows_5_2 : ((st [(A.SYS_MODE, 6)] : State).operating = true) ∧ (isCore (.coreS : Writer) = true) ∧ ((st [(A.SYS_MODE, 6)] : State).windowOpen (writerKey (.coreS : Writer)) = false) := by decide +kernel

theorem test_wit_coreResets_1_1 : (((let x := (st [(A.SYS_MODE, 5), (A.SAF_CWD 2, 0xF00A1)]).after 1000 (.cwdExpire 2); (({ x with windows := [2], cwdLen := [(2, 1500)] } : State).setCore 2 { Core.init with run := .running, released := true })) : State).operating = true) ∧ (isCore (.coreA 2 true : Writer) = true) ∧ (isSup (.coreA 2 true : Writer) = true) ∧ (((let x := (st [(A.SYS_MODE, 5), (A.SAF_CWD 2, 0xF00A1)]).after 1000 (.cwdExpire 2); (({ x with windows := [2], cwdLen := [(2, 1500)] } : State).setCore 2 { Core.init with run := .running, released := true })) : State).windowOpen (writerKey (.coreA 2 true : Writer)) = true) ∧ ((0xC3A5 : Word).getLsbD (2 : Fin 4) = true) ∧ (((let x := (st [(A.SYS_MODE, 5), (A.SAF_CWD 2, 0xF00A1)]).after 1000 (.cwdExpire 2); (({ x with windows := [2], cwdLen := [(2, 1500)] } : State).setCore 2 { Core.init with run := .running, released := true })) : State).bitAt F.SYS_CORERST_HOLD (2 : Fin 4) = false) := by decide +kernel

theorem test_wit_coreResets_3_1 : (((let x := (st [(A.SYS_MODE, 5), (A.SAF_CWD 2, 0xF00A1)]).after 1000 (.cwdExpire 2); (({ x with windows := [2], cwdLen := [(2, 1500)] } : State).setCore 2 { Core.init with run := .running, released := true })) : State).due (.cwdExpire (2 : Fin 4)) = true) ∧ (((let x := (st [(A.SYS_MODE, 5), (A.SAF_CWD 2, 0xF00A1)]).after 1000 (.cwdExpire 2); (({ x with windows := [2], cwdLen := [(2, 1500)] } : State).setCore 2 { Core.init with run := .running, released := true })) : State).cwdFrozen (2 : Fin 4) = false) ∧ ((((let x := (st [(A.SYS_MODE, 5), (A.SAF_CWD 2, 0xF00A1)]).after 1000 (.cwdExpire 2); (({ x with windows := [2], cwdLen := [(2, 1500)] } : State).setCore 2 { Core.init with run := .running, released := true })) : State).core (2 : Fin 4)).released = true) := by decide +kernel

theorem test_wit_coreResets_4_1 : (((let x := (st [(A.SYS_MODE, 5), (A.SAF_CWD 2, 0xF00A1)]).after 1000 (.cwdExpire 2); (({ x with windows := [2], cwdLen := [(2, 1500)] } : State).setCore 2 { Core.init with run := .running, released := true })) : State).operating = true) ∧ ((.coreA 2 true : Writer) = .coreA (2 : Fin 4) true) ∧ (getBits (0xC3A5 : Word) 0 16 = 0xC3A5) ∧ (((let x := (st [(A.SYS_MODE, 5), (A.SAF_CWD 2, 0xF00A1)]).after 1000 (.cwdExpire 2); (({ x with windows := [2], cwdLen := [(2, 1500)] } : State).setCore 2 { Core.init with run := .running, released := true })) : State).due (.cwdExpire (2 : Fin 4)) = true) ∧ ((((let x := (st [(A.SYS_MODE, 5), (A.SAF_CWD 2, 0xF00A1)]).after 1000 (.cwdExpire 2); (({ x with windows := [2], cwdLen := [(2, 1500)] } : State).setCore 2 { Core.init with run := .running, released := true })) : State).core (2 : Fin 4)).released = true) ∧ (16 * (Tab.get 0 ((let x := (st [(A.SYS_MODE, 5), (A.SAF_CWD 2, 0xF00A1)]).after 1000 (.cwdExpire 2); (({ x with windows := [2], cwdLen := [(2, 1500)] } : State).setCore 2 { Core.init with run := .running, released := true })) : State).cwdLen (2 : Fin 4) - ((let x := (st [(A.SYS_MODE, 5), (A.SAF_CWD 2, 0xF00A1)]).after 1000 (.cwdExpire 2); (({ x with windows := [2], cwdLen := [(2, 1500)] } : State).setCore 2 { Core.init with run := .running, released := true })) : State).remaining (.cwdExpire (2 : Fin 4))) < ((let x := (st [(A.SYS_MODE, 5), (A.SAF_CWD 2, 0xF00A1)]).after 1000 (.cwdExpire 2); (({ x with windows := [2], cwdLen := [(2, 1500)] } : State).setCore 2 { Core.init with run := .running, released := true })) : State).rd (F.SAF_CWD_WIN (2 : Fin 4)) * Tab.get 0 ((let x := (st [(A.SYS_MODE, 5), (A.SAF_CWD 2, 0xF00A1)]).after 1000 (.cwdExpire 2); (({ x with windows := [2], cwdLen := [(2, 1500)] } : State).setCore 2 { Core.init with run := .running, released := true })) : State).cwdLen (2 : Fin 4)) := by decide +kernel

theorem test_wit_coreResets_5_2 : (((let x := (st [(A.SYS_MODE, 5), (A.SAF_CWD 3, 0xA1)]).after 1000 (.cwdExpire 3); (({ x with windows := [3], cwdLen := [(3, 1500)] } : State).setCore 3 { Core.init with run := .running, released := true })) : State).operating = true) ∧ ((.coreA 3 true : Writer) = .coreA (3 : Fin 4) true) ∧ (getBits (0xC3A5 : Word) 0 16 = 0xC3A5) ∧ (((let x := (st [(A.SYS_MODE, 5), (A.SAF_CWD 3, 0xA1)]).after 1000 (.cwdExpire 3); (({ x with windows := [3], cwdLen := [(3, 1500)] } : State).setCore 3 { Core.init with run := .running, released := true })) : State).due (.cwdExpire (3 : Fin 4)) = true) ∧ (((let x := (st [(A.SYS_MODE, 5), (A.SAF_CWD 3, 0xA1)]).after 1000 (.cwdExpire 3); (({ x with windows := [3], cwdLen := [(3, 1500)] } : State).setCore 3 { Core.init with run := .running, released := true })) : State).bit (F.SAF_CWD_EN (3 : Fin 4)) = true) ∧ (((let x := (st [(A.SYS_MODE, 5), (A.SAF_CWD 3, 0xA1)]).after 1000 (.cwdExpire 3); (({ x with windows := [3], cwdLen := [(3, 1500)] } : State).setCore 3 { Core.init with run := .running, released := true })) : State).rd (F.SAF_CWD_WIN (3 : Fin 4)) = 0) := by decide +kernel

theorem test_wit_coreResets_6_3 : (((st [(A.SYS_MODE, 5)]).setCore 0 { Core.init with released := true, pc := 0x01000000 } : State).coreMayGo (0 : Fin 4) = true) := by decide +kernel

theorem test_wit_coreResets_2_4 : (((let x := (st [(A.SYS_MODE, 5), (A.SYS_CORERST, 4)]).setCore 2 { Core.init with released := true, pc := 0x01000000 }; ({ x with windows := [4] } : State)) : State).operating = true) ∧ (isCore (.coreS : Writer) = true) ∧ (isSup (.coreS : Writer) = true) ∧ (((let x := (st [(A.SYS_MODE, 5), (A.SYS_CORERST, 4)]).setCore 2 { Core.init with released := true, pc := 0x01000000 }; ({ x with windows := [4] } : State)) : State).windowOpen (writerKey (.coreS : Writer)) = true) ∧ ((0 : Word).getLsbD (2 : Fin 4) = false) ∧ (((let x := (st [(A.SYS_MODE, 5), (A.SYS_CORERST, 4)]).setCore 2 { Core.init with released := true, pc := 0x01000000 }; ({ x with windows := [4] } : State)) : State).bitAt F.SYS_CORERST_HOLD (2 : Fin 4) = true) ∧ (((let x := (st [(A.SYS_MODE, 5), (A.SYS_CORERST, 4)]).setCore 2 { Core.init with released := true, pc := 0x01000000 }; ({ x with windows := [4] } : State)) : State).due (.coreResetRelease (2 : Fin 4)) = false) ∧ ((((let x := (st [(A.SYS_MODE, 5), (A.SYS_CORERST, 4)]).setCore 2 { Core.init with released := true, pc := 0x01000000 }; ({ x with windows := [4] } : State)) : State).core (2 : Fin 4)).run = .held) ∧ ((((let x := (st [(A.SYS_MODE, 5), (A.SYS_CORERST, 4)]).setCore 2 { Core.init with released := true, pc := 0x01000000 }; ({ x with windows := [4] } : State)) : State).core (2 : Fin 4)).released = true) := by decide +kernel

theorem test_wit_moduleResets_1_1 : (((let x := (st [(A.SYS_MODE, 3), (A.SYS_RSTCAUSE, 2)]).after 9 .mwdtExpire; ({ x with windows := [4] } : State)) : State).operating = true) ∧ (isCore (.coreS : Writer) = true) ∧ (isSup (.coreS : Writer) = true) ∧ (((let x := (st [(A.SYS_MODE, 3), (A.SYS_RSTCAUSE, 2)]).after 9 .mwdtExpire; ({ x with windows := [4] } : State)) : State).windowOpen (writerKey (.coreS : Writer)) = true) ∧ (getBits (0x5A : Word) 0 8 = 0x5A) ∧ (((let x := (st [(A.SYS_MODE, 3), (A.SYS_RSTCAUSE, 2)]).after 9 .mwdtExpire; ({ x with windows := [4] } : State)) : State).resetFree = true) := by decide +kernel

theorem test_wit_moduleResets_2_1 : (((let x := (st [(A.SYS_MODE, 3), (A.SYS_RSTCAUSE, 2)]).after 9 .mwdtExpire; ({ x with windows := [4] } : State)) : State).due .mwdtExpire = true) ∧ (((let x := (st [(A.SYS_MODE, 3), (A.SYS_RSTCAUSE, 2)]).after 9 .mwdtExpire; ({ x with windows := [4] } : State)) : State).mwdtFrozen = false) ∧ (((let x := (st [(A.SYS_MODE, 3), (A.SYS_RSTCAUSE, 2)]).after 9 .mwdtExpire; ({ x with windows := [4] } : State)) : State).resetFree = true) := by decide +kernel

theorem test_wit_moduleResets_1_2 : (((let x := (st [(A.SYS_MODE, 5)]); (({ x with windows := [2] } : State).setCore 4 { Core.init with run := .running })) : State).operating = true) ∧ (isCore (.coreA 2 true : Writer) = true) ∧ (isSup (.coreA 2 true : Writer) = true) ∧ (((let x := (st [(A.SYS_MODE, 5)]); (({ x with windows := [2] } : State).setCore 4 { Core.init with run := .running })) : State).windowOpen (writerKey (.coreA 2 true : Writer)) = true) ∧ (getBits (0x5A : Word) 0 8 = 0x5A) ∧ (((let x := (st [(A.SYS_MODE, 5)]); (({ x with windows := [2] } : State).setCore 4 { Core.init with run := .running })) : State).resetFree = true) := by decide +kernel

theorem test_wit_moduleResets_3_2 : (((let x := (st [(A.SYS_MODE, 5)]); (({ x with windows := [2] } : State).setCore 4 { Core.init with run := .running })) : State).mode ≠ .off) ∧ (((let x := (st [(A.SYS_MODE, 5)]); (({ x with windows := [2] } : State).setCore 4 { Core.init with run := .running })) : State).mode ≠ .dormant) ∧ ((((let x := (st [(A.SYS_MODE, 5)]); (({ x with windows := [2] } : State).setCore 4 { Core.init with run := .running })) : State).core 4).run ≠ .held) ∧ (((let x := (st [(A.SYS_MODE, 5)]); (({ x with windows := [2] } : State).setCore 4 { Core.init with run := .running })) : State).bistRunning = false) ∧ (((let x := (st [(A.SYS_MODE, 5)]); (({ x with windows := [2] } : State).setCore 4 { Core.init with run := .running })) : State).resetFree = true) := by decide +kernel

theorem test_wit_moduleResets_4_3 : (((st [(A.SYS_MODE, 5), (A.SYS_MODESTAT, 8)]) : State).bit F.SYS_MODESTAT_RST_PENDING = true) ∧ (((st [(A.SYS_MODE, 5), (A.SYS_MODESTAT, 8)]) : State).flcOp = .idle) := by decide +kernel

theorem test_wit_moduleResets_5_3 : (((st [(A.SYS_MODE, 5), (A.SYS_MODESTAT, 8)]) : State).bit F.SYS_MODESTAT_RST_PENDING = true) := by decide +kernel

theorem test_wit_moduleResets_6_3 : (((st [(A.SYS_MODE, 5), (A.SYS_MODESTAT, 8)]) : State).mainsOn = true) ∧ (((st [(A.SYS_MODE, 5), (A.SYS_MODESTAT, 8)]) : State).mode ≠ .off) := by decide +kernel

theorem test_wit_powerComesAndGoes_1_1 : (((let x := st [(A.SYS_MODE, 0)]; { x with mainsOn := false }) : State).mainsOn = false) ∧ (((let x := st [(A.SYS_MODE, 0)]; { x with mainsOn := false }) : State).mode = .off) ∧ (((let x := st [(A.SYS_MODE, 0)]; { x with mainsOn := false }) : State).offHold = false) := by decide +kernel

theorem test_wit_powerComesAndGoes_2_2 : ((st [(A.SYS_MODE, 0)] : State).mode = .off) ∧ ((st [(A.SYS_MODE, 0)] : State).mainsOn = true) ∧ ((st [(A.SYS_MODE, 0)] : State).offHold = false) := by decide +kernel

theorem test_wit_powerComesAndGoes_3_3 : ((st [(A.SYS_MODE, 5)] : State).mainsOn = true) := by decide +kernel

theorem test_wit_bootRows_1_1 : ((boot 1 [] : State).bootAtRow 1 = true) := by decide +kernel

theorem test_wit_bootRows_2_2 : ((boot 2 [] : State).bootAtRow 2 = true) := by decide +kernel

theorem test_wit_bootRows_3_3 : ((boot 3 [] : State).bootAtRow 3 = true) := by decide +kernel

theorem test_wit_bootRows_4_4 : ((boot 4 [] : State).bootAtRow 4 = true) ∧ ((boot 4 [] : State).auxOn = false) := by decide +kernel

theorem test_wit_bootRows_5_5 : ((boot 5 [] : State).bootAtRow 5 = true) := by decide +kernel

theorem test_wit_bootRows_6_6 : ((boot 6 [(A.SYSTIME_NS, 5)] : State).bootAtRow 6 = true) := by decide +kernel

theorem test_wit_bootRows_7_7 : ((boot 7 [] : State).bootAtRow 7 = true) := by decide +kernel

theorem test_wit_bootRows_8_8 : (((boot 8 []).setByte 0x3FFFFFFF 7 : State).bootAtRow 8 = true) ∧ (0x20000000 ≤ (0x3FFFFFFF : Nat)) ∧ ((0x3FFFFFFF : Nat) < 0x40000000) ∧ (((boot 8 []).setByte 0x3FFFFFFF 7 : State).tornAt (0x3FFFFFFF : Nat) = none) := by decide +kernel

theorem test_wit_bootRows_9_9 : ((boot 9 [] : State).bootAtRow 9 = true) := by decide +kernel

theorem test_wit_bootRows_10_10 : (((let x := boot 11 []; { x with calAt := 100, now := 100 + ms 120 }) : State).bootAtRow 11 = true) ∧ (((let x := boot 11 []; { x with calAt := 100, now := 100 + ms 120 }) : State).calAt + ms 120 ≤ ((let x := boot 11 []; { x with calAt := 100, now := 100 + ms 120 }) : State).now) := by decide +kernel

theorem test_wit_bootRows_11_11 : (((let x := boot 11 []; { x with calAt := 100, now := 99 + ms 120 }) : State).bootAtRow 11 = true) ∧ (((let x := boot 11 []; { x with calAt := 100, now := 99 + ms 120 }) : State).now < ((let x := boot 11 []; { x with calAt := 100, now := 99 + ms 120 }) : State).calAt + ms 120) := by decide +kernel

theorem test_wit_bootRows_12_12 : ((boot 12 [] : State).bootAtRow 12 = true) ∧ ((boot 12 [] : State).bit F.SYS_BOOTSTAT_HOLD = false) := by decide +kernel

theorem test_wit_dormantAndWake_1_1 : (((let x := st [(A.SYS_MODE, 3)]; { x with dormAt := some 5 }) : State).dormAt = some (5 : Nat)) ∧ (∀ c : Fin 5, (((let x := st [(A.SYS_MODE, 3)]; { x with dormAt := some 5 }) : State).core c).run ≠ .stalled) := by decide +kernel

theorem test_wit_dormantAndWake_3_2 : (((let x := st [(A.SYS_MODE, 1)]; { x with dormAt := some 5, wakeAt := some 8 }) : State).wakeAt = some (8 : Nat)) := by decide +kernel

theorem test_wit_dormantAndWake_4_2 : (((let x := st [(A.SYS_MODE, 1)]; { x with dormAt := some 5, wakeAt := some 8 }) : State).wakeAt = some (8 : Nat)) := by decide +kernel

theorem test_wit_dormantAndWake_2_3 : (((let x := st [(A.SYS_MODE, 1), (A.AON_WAKECFG, 0x80008000), (A.AON_DIOIN, 0x8000)]; { x with dormAt := some 5 }) : State).mode = .dormant) ∧ (((let x := st [(A.SYS_MODE, 1), (A.AON_WAKECFG, 0x80008000), (A.AON_DIOIN, 0x8000)]; { x with dormAt := some 5 }) : State).wakeAt = none) ∧ (((let x := st [(A.SYS_MODE, 1), (A.AON_WAKECFG, 0x80008000), (A.AON_DIOIN, 0x8000)]; { x with dormAt := some 5 }) : State).wakeSources ≠ 0) ∧ (((let x := st [(A.SYS_MODE, 1), (A.AON_WAKECFG, 0x80008000), (A.AON_DIOIN, 0x8000)]; { x with dormAt := some 5 }) : State).fromShutdown = false) := by decide +kernel

theorem test_wit_dormantAndWake_5_4 : ((st [(A.SYS_MODE, 3), (A.AON_PADREL, 0x100)] : State).operating = true) ∧ (isCore (.coreS : Writer) = true) ∧ ((st [(A.SYS_MODE, 3), (A.AON_PADREL, 0x100)] : State).bit F.AON_PADREL_HELD = true) := by decide +kernel

theorem test_wit_dormantEntryClearsTheWakeRecords_1_1 : (((let x := st [(A.SYS_MODE, 3), (A.AON_WAKESTAT, 5)]; { x with wakeLatch := some 64 }) : State).operating = true) ∧ (isCore (.coreA 0 true : Writer) = true) ∧ (isSup (.coreA 0 true : Writer) = true) ∧ (((let x := st [(A.SYS_MODE, 3), (A.AON_WAKESTAT, 5)]; { x with wakeLatch := some 64 }) : State).bit F.SYS_MODESTAT_PEND = false) ∧ (((let x := st [(A.SYS_MODE, 3), (A.AON_WAKESTAT, 5)]; { x with wakeLatch := some 64 }) : State).mode = .standby) ∧ (getBits (1 : Word) 0 3 = 1) ∧ (((let x := st [(A.SYS_MODE, 3), (A.AON_WAKESTAT, 5)]; { x with wakeLatch := some 64 }) : State).modeReason 1 = 0) := by decide +kernel

theorem test_wit_dormantEntryClearsTheWakeRecords_2_2 : (((let x := st [(A.SYS_MODE, 3), (A.AON_WAKESTAT, 5)]; { x with dormAt := some 7 }) : State).dormAt = some (7 : Nat)) ∧ (∀ c : Fin 5, (((let x := st [(A.SYS_MODE, 3), (A.AON_WAKESTAT, 5)]; { x with dormAt := some 7 }) : State).core c).run ≠ .stalled) := by decide +kernel

theorem test_wit_dormantAfterShutdownRunsBoot_1_1 : (((let x := st [(A.SYS_MODE, 7), (A.AON_SAVESTAT, 1)]; { x with bistRunning := true, fromShutdown := true }) : State).mode = .shutdown) ∧ (((let x := st [(A.SYS_MODE, 7), (A.AON_SAVESTAT, 1)]; { x with bistRunning := true, fromShutdown := true }) : State).bistRunning = true) ∧ (((let x := st [(A.SYS_MODE, 7), (A.AON_SAVESTAT, 1)]; { x with bistRunning := true, fromShutdown := true }) : State).fromShutdown = true) := by decide +kernel

theorem test_wit_dormantAfterShutdownRunsBoot_2_2 : (((let x := st [(A.SYS_MODE, 1), (A.AON_WAKECFG, 0x80008000), (A.AON_DIOIN, 0x8000)]; { x with fromShutdown := true }) : State).mode = .dormant) ∧ (((let x := st [(A.SYS_MODE, 1), (A.AON_WAKECFG, 0x80008000), (A.AON_DIOIN, 0x8000)]; { x with fromShutdown := true }) : State).wakeAt = none) ∧ (((let x := st [(A.SYS_MODE, 1), (A.AON_WAKECFG, 0x80008000), (A.AON_DIOIN, 0x8000)]; { x with fromShutdown := true }) : State).wakeSources ≠ 0) ∧ (((let x := st [(A.SYS_MODE, 1), (A.AON_WAKECFG, 0x80008000), (A.AON_DIOIN, 0x8000)]; { x with fromShutdown := true }) : State).fromShutdown = true) := by decide +kernel

theorem test_wit_dormantAfterShutdownRunsBoot_3_3 : ((st [(A.SYS_MODE, 0)] : State).mode = .off) ∧ ((st [(A.SYS_MODE, 0)] : State).mainsOn = true) ∧ ((st [(A.SYS_MODE, 0)] : State).offHold = false) := by decide +kernel

theorem test_wit_shutdownAndLogicBist_1_1 : ((st [(A.SYS_MODE, 7), (A.SYS_MODEREQ, 0x17), (A.TICK_STATUS, 1)] : State).mode = .shutdown) ∧ ((st [(A.SYS_MODE, 7), (A.SYS_MODEREQ, 0x17), (A.TICK_STATUS, 1)] : State).bistRunning = false) := by decide +kernel

theorem test_wit_shutdownAndLogicBist_2_2 : (((let x := st [(A.SYS_MODE, 7)]; { x with bistRunning := true }) : State).mode = .shutdown) ∧ (((let x := st [(A.SYS_MODE, 7)]; { x with bistRunning := true }) : State).bistRunning = true) ∧ (((let x := st [(A.SYS_MODE, 7)]; { x with bistRunning := true }) : State).due .lbistRecordWritten = false) := by decide +kernel

theorem test_wit_shutdownAndLogicBist_3_2 : (((let x := st [(A.SYS_MODE, 7)]; { x with bistRunning := true }) : State).mode = .shutdown) ∧ (((let x := st [(A.SYS_MODE, 7)]; { x with bistRunning := true }) : State).bistRunning = true) ∧ (((let x := st [(A.SYS_MODE, 7)]; { x with bistRunning := true }) : State).fromShutdown = false) := by decide +kernel

theorem test_wit_shutdownAndLogicBist_4_3 : (((let x := st [(A.SYS_MODE, 7)]; { x with bistRunning := true, fromShutdown := true }) : State).mode = .shutdown) ∧ (((let x := st [(A.SYS_MODE, 7)]; { x with bistRunning := true, fromShutdown := true }) : State).bistRunning = true) ∧ (((let x := st [(A.SYS_MODE, 7)]; { x with bistRunning := true, fromShutdown := true }) : State).fromShutdown = true) := by decide +kernel

theorem test_wit_aonTimer_1_1 : ((st [(A.SYS_MODE, 1), (A.AON_TMR, 0x100000001)] : State).bit F.AON_TMR_EN = true) ∧ ((st [(A.SYS_MODE, 1), (A.AON_TMR, 0x100000001)] : State).rd F.AON_TMR_CNT ≤ 1) := by decide +kernel

theorem test_wit_stoChain_1_1 : ((st [(A.SYS_MODE, 5), (A.SAF_STATUS, 0xE)] : State).stoSeen = true) := by decide +kernel

theorem test_wit_stoChain_2_1 : ((st [(A.SYS_MODE, 5), (A.SAF_STATUS, 0xE)] : State).stoSeen = true) := by decide +kernel

theorem test_wit_stoChain_6_1 : ((st [(A.SYS_MODE, 5), (A.SAF_STATUS, 0xE)] : State).bit F.SAF_STATUS_SS1 = true) := by decide +kernel

theorem test_wit_stoChain_3_2 : ((st [(A.SYS_MODE, 3), (A.SAF_STATUS, 7), (A.SAF_STOCTL, 0)] : State).bit F.SAF_STATUS_STO = true) ∧ ((st [(A.SYS_MODE, 3), (A.SAF_STATUS, 7), (A.SAF_STOCTL, 0)] : State).stoMayRelease = true) ∧ ((st [(A.SYS_MODE, 3), (A.SAF_STATUS, 7), (A.SAF_STOCTL, 0)] : State).stoDemand = false) := by decide +kernel

theorem test_wit_stoChain_4_3 : ((st [(A.SYS_MODE, 3), (A.SAF_STATUS, 3)] : State).bit F.SAF_STATUS_STO = true) ∧ ((st [(A.SYS_MODE, 3), (A.SAF_STATUS, 3)] : State).stoMayRelease = false) := by decide +kernel

theorem test_wit_stoChain_5_3 : ((st [(A.SYS_MODE, 3), (A.SAF_STATUS, 3)] : State).stoSeen = true) ∧ ((st [(A.SYS_MODE, 3), (A.SAF_STATUS, 3)] : State).bit F.SAF_STATUS_STOA_REL ≠ (st [(A.SYS_MODE, 3), (A.SAF_STATUS, 3)] : State).bit F.SAF_STATUS_STOB_REL) := by decide +kernel

theorem test_wit_safetyWrites_1_1 : ((st [(A.SYS_MODE, 5), (A.SAF_STATUS, 6), (A.SAF_FAULT, 0x3F)] : State).operating = true) := by decide +kernel

theorem test_wit_safetyWrites_2_1 : ((st [(A.SYS_MODE, 5), (A.SAF_STATUS, 6), (A.SAF_FAULT, 0x3F)] : State).operating = true) := by decide +kernel

theorem test_wit_safetyWrites_3_1 : ((st [(A.SYS_MODE, 5), (A.SAF_STATUS, 6), (A.SAF_FAULT, 0x3F)] : State).operating = true) ∧ ((st [(A.SYS_MODE, 5), (A.SAF_STATUS, 6), (A.SAF_FAULT, 0x3F)] : State).mode ≠ .safeStop) := by decide +kernel

theorem test_wit_safetyWrites_5_1 : ((st [(A.SYS_MODE, 5), (A.SAF_STATUS, 6), (A.SAF_FAULT, 0x3F)] : State).operating = true) := by decide +kernel

theorem test_wit_safetyWrites_6_1 : ((st [(A.SYS_MODE, 5), (A.SAF_STATUS, 6), (A.SAF_FAULT, 0x3F)] : State).operating = true) := by decide +kernel

theorem test_wit_safetyWrites_1_2 : ((st [(A.SYS_MODE, 3), (A.SAF_STATUS, 1), (A.SAF_FAULT, 0x3F)] : State).operating = true) := by decide +kernel

theorem test_wit_safetyWrites_2_2 : ((st [(A.SYS_MODE, 3), (A.SAF_STATUS, 1), (A.SAF_FAULT, 0x3F)] : State).operating = true) := by decide +kernel

theorem test_wit_safetyWrites_3_2 : ((st [(A.SYS_MODE, 3), (A.SAF_STATUS, 1), (A.SAF_FAULT, 0x3F)] : State).operating = true) ∧ ((st [(A.SYS_MODE, 3), (A.SAF_STATUS, 1), (A.SAF_FAULT, 0x3F)] : State).mode ≠ .safeStop) := by decide +kernel

theorem test_wit_safetyWrites_5_2 : ((st [(A.SYS_MODE, 3), (A.SAF_STATUS, 1), (A.SAF_FAULT, 0x3F)] : State).operating = true) := by decide +kernel

theorem test_wit_safetyWrites_1_3 : ((st [(A.SYS_MODE, 6), (A.SAF_STATUS, 6), (A.SAF_FAULT, 1), (A.SAF_STOCTL, 1)] : State).operating = true) := by decide +kernel

theorem test_wit_safetyWrites_2_3 : ((st [(A.SYS_MODE, 6), (A.SAF_STATUS, 6), (A.SAF_FAULT, 1), (A.SAF_STOCTL, 1)] : State).operating = true) := by decide +kernel

theorem test_wit_safetyWrites_4_3 : ((st [(A.SYS_MODE, 6), (A.SAF_STATUS, 6), (A.SAF_FAULT, 1), (A.SAF_STOCTL, 1)] : State).operating = true) ∧ ((st [(A.SYS_MODE, 6), (A.SAF_STATUS, 6), (A.SAF_FAULT, 1), (A.SAF_STOCTL, 1)] : State).mode = .safeStop) := by decide +kernel

theorem test_wit_safetyWrites_5_3 : ((st [(A.SYS_MODE, 6), (A.SAF_STATUS, 6), (A.SAF_FAULT, 1), (A.SAF_STOCTL, 1)] : State).operating = true) := by decide +kernel

theorem test_wit_safeStopAcknowledge_1_1 : (((let x := st [(A.SYS_MODE, 6), (A.SYS_MODESTAT, 1), (A.SAF_STATUS, 7)]; { x with ssCauses := 2 }) : State).operating = true) ∧ (((let x := st [(A.SYS_MODE, 6), (A.SYS_MODESTAT, 1), (A.SAF_STATUS, 7)]; { x with ssCauses := 2 }) : State).ackWaits = true) ∧ (((let x := st [(A.SYS_MODE, 6), (A.SYS_MODESTAT, 1), (A.SAF_STATUS, 7)]; { x with ssCauses := 2 }) : State).ss1Done = true) ∧ (((let x := st [(A.SYS_MODE, 6), (A.SYS_MODESTAT, 1), (A.SAF_STATUS, 7)]; { x with ssCauses := 2 }) : State).reg A.SAF_FAULT = 0) ∧ (((let x := st [(A.SYS_MODE, 6), (A.SYS_MODESTAT, 1), (A.SAF_STATUS, 7)]; { x with ssCauses := 2 }) : State).anyCausePresent = false) := by decide +kernel

theorem test_wit_safeStopAcknowledge_3_1 : (((let x := st [(A.SYS_MODE, 6), (A.SYS_MODESTAT, 1), (A.SAF_STATUS, 7)]; { x with ssCauses := 2 }) : State).ackWaits = true) := by decide +kernel

theorem test_wit_safeStopAcknowledge_2_2 : ((st [(A.SYS_MODE, 6), (A.SAF_STATUS, 7)] : State).operating = true) ∧ ((st [(A.SYS_MODE, 6), (A.SAF_STATUS, 7)] : State).ackWaits = false) := by decide +kernel

theorem test_wit_moduleWatchdog_1_1 : (((st [(A.SYS_MODE, 5)]).after 70 .mwdtExpire : State).operating = true) ∧ (((st [(A.SYS_MODE, 5)]).after 70 .mwdtExpire : State).due .mwdtExpire = true) ∧ (getBits (0x6D : Word) 0 8 = (if ((st [(A.SYS_MODE, 5)]).after 70 .mwdtExpire : State).mwdtSecond then 0x92 else 0x6D)) := by decide +kernel

theorem test_wit_moduleWatchdog_3_1 : (((st [(A.SYS_MODE, 5)]).after 70 .mwdtExpire : State).due .mwdtExpire = true) ∧ (((st [(A.SYS_MODE, 5)]).after 70 .mwdtExpire : State).mwdtFrozen = false) ∧ (((st [(A.SYS_MODE, 5)]).after 70 .mwdtExpire : State).icuLive 4 = true) := by decide +kernel

theorem test_wit_moduleWatchdog_2_2 : (((st [(A.SYS_MODE, 5)]).after 70 .mwdtExpire : State).operating = true) ∧ (((st [(A.SYS_MODE, 5)]).after 70 .mwdtExpire : State).due .mwdtExpire = true) ∧ (getBits (0x92 : Word) 0 8 ≠ (if ((st [(A.SYS_MODE, 5)]).after 70 .mwdtExpire : State).mwdtSecond then 0x92 else 0x6D)) ∧ (((st [(A.SYS_MODE, 5)]).after 70 .mwdtExpire : State).resetFree = true) := by decide +kernel

theorem test_wit_moduleWatchdog_3_2 : (((st [(A.SYS_MODE, 5)]).after 70 .mwdtExpire : State).due .mwdtExpire = true) ∧ (((st [(A.SYS_MODE, 5)]).after 70 .mwdtExpire : State).mwdtFrozen = false) ∧ (((st [(A.SYS_MODE, 5)]).after 70 .mwdtExpire : State).icuLive 4 = true) := by decide +kernel

theorem test_wit_lineBusAndBulk_1_1 : ((st [(A.SYS_MODE, 5), (A.PWR_CTL, 3), (A.PWR_STATUS, 3)] : State).pwrLive = true) := by decide +kernel

theorem test_wit_lineBusAndBulk_2_1 : ((st [(A.SYS_MODE, 5), (A.PWR_CTL, 3), (A.PWR_STATUS, 3)] : State).pwrLive = true) ∧ ((st [(A.SYS_MODE, 5), (A.PWR_CTL, 3), (A.PWR_STATUS, 3)] : State).bit F.PWR_STATUS_MAINSLOSS = false) := by decide +kernel

theorem test_wit_lineBusAndBulk_1_2 : ((st [(A.SYS_MODE, 3), (A.PWR_STATUS, 0x10)] : State).pwrLive = true) := by decide +kernel

theorem test_wit_lineBusAndBulk_3_2 : ((st [(A.SYS_MODE, 3), (A.PWR_STATUS, 0x10)] : State).bit F.PWR_STATUS_MAINSLOSS = true) := by decide +kernel

theorem test_wit_lineBusAndBulk_6_3 : ((st [(A.SYS_MODE, 5), (A.PWR_VBUS, 0x300000000000)] : State).pwrLive = true) ∧ (volts 44 ≤ (st [(A.SYS_MODE, 5), (A.PWR_VBUS, 0x300000000000)] : State).busMean) ∧ ((st [(A.SYS_MODE, 5), (A.PWR_VBUS, 0x300000000000)] : State).busMean ≤ volts 52) := by decide +kernel

theorem test_wit_lineBusAndBulk_9_3 : ((st [(A.SYS_MODE, 5), (A.PWR_VBUS, 0x300000000000)] : State).busMean < volts 54) := by decide +kernel

theorem test_wit_lineBusAndBulk_7_4 : ((st [(A.SYS_MODE, 5), (A.SYS_READY, 0x1000), (A.PWR_VBUS, 0x3D0000000000)] : State).bit F.SYS_READY_BUS = true) ∧ ((st [(A.SYS_MODE, 5), (A.SYS_READY, 0x1000), (A.PWR_VBUS, 0x3D0000000000)] : State).busMean < volts 42 ∨ volts 58 < (st [(A.SYS_MODE, 5), (A.SYS_READY, 0x1000), (A.PWR_VBUS, 0x3D0000000000)] : State).busMean) := by decide +kernel

theorem test_wit_lineBusAndBulk_8_4 : ((st [(A.SYS_MODE, 5), (A.SYS_READY, 0x1000), (A.PWR_VBUS, 0x3D0000000000)] : State).pwrLive = true) ∧ ((st [(A.SYS_MODE, 5), (A.SYS_READY, 0x1000), (A.PWR_VBUS, 0x3D0000000000)] : State).bit F.PWR_STATUS_CHOPHOT = false) ∧ (volts 56 < (st [(A.SYS_MODE, 5), (A.SYS_READY, 0x1000), (A.PWR_VBUS, 0x3D0000000000)] : State).busMean) := by decide +kernel

theorem test_wit_lineBusAndBulk_10_4 : ((st [(A.SYS_MODE, 5), (A.SYS_READY, 0x1000), (A.PWR_VBUS, 0x3D0000000000)] : State).pwrLive = true) ∧ (volts 60 < (st [(A.SYS_MODE, 5), (A.SYS_READY, 0x1000), (A.PWR_VBUS, 0x3D0000000000)] : State).busMean) := by decide +kernel

theorem test_wit_lineBusAndBulk_7_5 : ((st [(A.SYS_MODE, 4), (A.SYS_READY, 0x1000), (A.PWR_VBUS, 0x250000000000)] : State).bit F.SYS_READY_BUS = true) ∧ ((st [(A.SYS_MODE, 4), (A.SYS_READY, 0x1000), (A.PWR_VBUS, 0x250000000000)] : State).busMean < volts 42 ∨ volts 58 < (st [(A.SYS_MODE, 4), (A.SYS_READY, 0x1000), (A.PWR_VBUS, 0x250000000000)] : State).busMean) := by decide +kernel

theorem test_wit_lineBusAndBulk_9_5 : ((st [(A.SYS_MODE, 4), (A.SYS_READY, 0x1000), (A.PWR_VBUS, 0x250000000000)] : State).busMean < volts 54) := by decide +kernel

theorem test_wit_lineBusAndBulk_11_5 : ((st [(A.SYS_MODE, 4), (A.SYS_READY, 0x1000), (A.PWR_VBUS, 0x250000000000)] : State).busMean < volts 38) ∧ ((st [(A.SYS_MODE, 4), (A.SYS_READY, 0x1000), (A.PWR_VBUS, 0x250000000000)] : State).mode = .armed ∨ (st [(A.SYS_MODE, 4), (A.SYS_READY, 0x1000), (A.PWR_VBUS, 0x250000000000)] : State).mode = .run) := by decide +kernel

theorem test_wit_lineBusAndBulk_12_6 : ((st [(A.SYS_MODE, 5), (A.THM_AX_Q 3, 0x1000000), (A.ADC_AX_IU 3, 0xA0000000000)] : State).pwrLive = true) ∧ ((st [(A.SYS_MODE, 5), (A.THM_AX_Q 3, 0x1000000), (A.ADC_AX_IU 3, 0xA0000000000)] : State).auxOn = true) := by decide +kernel

theorem test_wit_suppliesAndBrakes_1_1 : ((st [(A.SYS_MODE, 3), (A.SAF_STATUS, 6), (A.PWR_SUPCTL, 0x7F), (A.PWR_BRKSTAT, 8), (A.PWR_BRKCTL, 8)] : State).encOn (5 : Fin 6) = true) := by decide +kernel

theorem test_wit_suppliesAndBrakes_2_1 : ((st [(A.SYS_MODE, 3), (A.SAF_STATUS, 6), (A.PWR_SUPCTL, 0x7F), (A.PWR_BRKSTAT, 8), (A.PWR_BRKCTL, 8)] : State).pwrLive = true) ∧ ((st [(A.SYS_MODE, 3), (A.SAF_STATUS, 6), (A.PWR_SUPCTL, 0x7F), (A.PWR_BRKSTAT, 8), (A.PWR_BRKCTL, 8)] : State).aux24On = true) := by decide +kernel

theorem test_wit_suppliesAndBrakes_3_1 : ((st [(A.SYS_MODE, 3), (A.SAF_STATUS, 6), (A.PWR_SUPCTL, 0x7F), (A.PWR_BRKSTAT, 8), (A.PWR_BRKCTL, 8)] : State).operating = true) ∧ (isCore (.coreA 0 false : Writer) = true) ∧ ((st [(A.SYS_MODE, 3), (A.SAF_STATUS, 6), (A.PWR_SUPCTL, 0x7F), (A.PWR_BRKSTAT, 8), (A.PWR_BRKCTL, 8)] : State).mode = .standby ∨ (st [(A.SYS_MODE, 3), (A.SAF_STATUS, 6), (A.PWR_SUPCTL, 0x7F), (A.PWR_BRKSTAT, 8), (A.PWR_BRKCTL, 8)] : State).mode = .armed ∨ (st [(A.SYS_MODE, 3), (A.SAF_STATUS, 6), (A.PWR_SUPCTL, 0x7F), (A.PWR_BRKSTAT, 8), (A.PWR_BRKCTL, 8)] : State).mode = .run) := by decide +kernel

theorem test_wit_suppliesAndBrakes_4_1 : ((st [(A.SYS_MODE, 3), (A.SAF_STATUS, 6), (A.PWR_SUPCTL, 0x7F), (A.PWR_BRKSTAT, 8), (A.PWR_BRKCTL, 8)] : State).operating = true) ∧ (isCore (.coreA 0 false : Writer) = true) ∧ ((st [(A.SYS_MODE, 3), (A.SAF_STATUS, 6), (A.PWR_SUPCTL, 0x7F), (A.PWR_BRKSTAT, 8), (A.PWR_BRKCTL, 8)] : State).mode = .standby) := by decide +kernel

theorem test_wit_suppliesAndBrakes_6_1 : ((st [(A.SYS_MODE, 3), (A.SAF_STATUS, 6), (A.PWR_SUPCTL, 0x7F), (A.PWR_BRKSTAT, 8), (A.PWR_BRKCTL, 8)] : State).operating = true) ∧ (isCore (.coreA 0 false : Writer) = true) ∧ ((st [(A.SYS_MODE, 3), (A.SAF_STATUS, 6), (A.PWR_SUPCTL, 0x7F), (A.PWR_BRKSTAT, 8), (A.PWR_BRKCTL, 8)] : State).bit F.SAF_STATUS_STO = false) ∧ ((st [(A.SYS_MODE, 3), (A.SAF_STATUS, 6), (A.PWR_SUPCTL, 0x7F), (A.PWR_BRKSTAT, 8), (A.PWR_BRKCTL, 8)] : State).mode = .standby) := by decide +kernel

theorem test_wit_suppliesAndBrakes_8_1 : ((st [(A.SYS_MODE, 3), (A.SAF_STATUS, 6), (A.PWR_SUPCTL, 0x7F), (A.PWR_BRKSTAT, 8), (A.PWR_BRKCTL, 8)] : State).bitAt F.PWR_BRKSTAT_OUT (3 : Fin 4) = true) := by decide +kernel

theorem test_wit_suppliesAndBrakes_5_2 : ((st [(A.SYS_MODE, 5), (A.SAF_STATUS, 7), (A.PWR_BRKSTAT, 0xF0), (A.PWR_BRKCTL, 6)] : State).operating = true) ∧ (isCore (.coreS : Writer) = true) ∧ ((st [(A.SYS_MODE, 5), (A.SAF_STATUS, 7), (A.PWR_BRKSTAT, 0xF0), (A.PWR_BRKCTL, 6)] : State).mode ≠ .standby) ∧ (rowWrite false (fieldsAt A.PWR_CTL) ((st [(A.SYS_MODE, 5), (A.SAF_STATUS, 7), (A.PWR_BRKSTAT, 0xF0), (A.PWR_BRKCTL, 6)] : State).reg A.PWR_CTL) (3 : Word) ≠ (st [(A.SYS_MODE, 5), (A.SAF_STATUS, 7), (A.PWR_BRKSTAT, 0xF0), (A.PWR_BRKCTL, 6)] : State).reg A.PWR_CTL) := by decide +kernel

theorem test_wit_suppliesAndBrakes_7_2 : ((st [(A.SYS_MODE, 5), (A.SAF_STATUS, 7), (A.PWR_BRKSTAT, 0xF0), (A.PWR_BRKCTL, 6)] : State).operating = true) ∧ (isCore (.coreS : Writer) = true) ∧ ((st [(A.SYS_MODE, 5), (A.SAF_STATUS, 7), (A.PWR_BRKSTAT, 0xF0), (A.PWR_BRKCTL, 6)] : State).bit F.SAF_STATUS_STO = true) := by decide +kernel

theorem test_wit_suppliesAndBrakes_9_2 : ((st [(A.SYS_MODE, 5), (A.SAF_STATUS, 7), (A.PWR_BRKSTAT, 0xF0), (A.PWR_BRKCTL, 6)] : State).operating = true) ∧ (isCore (.coreS : Writer) = true) ∧ ((st [(A.SYS_MODE, 5), (A.SAF_STATUS, 7), (A.PWR_BRKSTAT, 0xF0), (A.PWR_BRKCTL, 6)] : State).bitAt F.PWR_BRKSTAT_ILIM (0 : Fin 4) = true) := by decide +kernel

theorem test_wit_registerWritesGoFieldByField_1_1 : ((st [(A.SYS_MODE, 3)] : State).operating = true) ∧ (isCore (.coreS : Writer) = true) ∧ ((A.SYS_RSTCAUSE : Nat) / 0x10000 = 0x800) ∧ ((A.SYS_RSTCAUSE : Nat) % 8 = 0) ∧ ((A.SYS_RSTCAUSE : Nat) ≠ A.SYS_MODEREQ) ∧ ((A.SYS_RSTCAUSE : Nat) ≠ A.SYS_RSTREQ) ∧ ((A.SYS_RSTCAUSE : Nat) ≠ A.SYS_CORERST) ∧ ((A.SYS_RSTCAUSE : Nat) ≠ A.SYS_KEY) := by decide +kernel

theorem test_wit_registerWritesGoFieldByField_1_2 : ((st [(A.SYS_MODE, 3)] : State).operating = true) ∧ (isCore (.coreA 1 false : Writer) = true) ∧ ((0x0800FFF8 : Nat) / 0x10000 = 0x800) ∧ ((0x0800FFF8 : Nat) % 8 = 0) ∧ ((0x0800FFF8 : Nat) ≠ A.SYS_MODEREQ) ∧ ((0x0800FFF8 : Nat) ≠ A.SYS_RSTREQ) ∧ ((0x0800FFF8 : Nat) ≠ A.SYS_CORERST) ∧ ((0x0800FFF8 : Nat) ≠ A.SYS_KEY) := by decide +kernel

theorem test_wit_registerWritesGoFieldByField_2_3 : ((st [(A.SYS_MODE, 5)] : State).operating = true) ∧ (isCore (.coreS : Writer) = true) ∧ ((A.SAF_GATEEN : Nat) / 0x10000 = 0xC00) ∧ ((A.SAF_GATEEN : Nat) % 8 = 0) := by decide +kernel

theorem test_wit_registerWritesGoFieldByField_3_4 : ((st [(A.SYS_MODE, 3)] : State).operating = true) ∧ (isCore (.coreA 1 true : Writer) = true) ∧ ((0x08000004 : Nat) % 8 ≠ 0 ∨ isRegion (0x08000004 : Nat) = false) := by decide +kernel

theorem test_wit_registerWritesGoFieldByField_3_5 : ((st [(A.SYS_MODE, 3)] : State).operating = true) ∧ (isCore (.coreA 1 true : Writer) = true) ∧ ((0x08080000 : Nat) % 8 ≠ 0 ∨ isRegion (0x08080000 : Nat) = false) := by decide +kernel

theorem test_wit_wCurrentIsTheNegatedSum_1_1 : ((((st [(A.SYS_MODE, 5), (A.ADC_AX_GAIN 22, 0x400000400000)]).setQuad 5 { Quad.init with busy := true } : State).quad (5 : Fin 6)).busy = true) := by decide +kernel

theorem test_wit_samplesAndConversions_1_1 : ((st [(A.SYS_MODE, 5), (A.PWM_Q_STATUS 3, 1), (A.PWM_Q_PERIOD 3, 9375), (A.TICK_FRAME, 750000), (A.TICK_STATUS, 1), (A.ADC_AX_RAW 23, 77)] : State).sampling (3 : Fin 6) = true) ∧ ((false : Bool) = false ∨ (st [(A.SYS_MODE, 5), (A.PWM_Q_STATUS 3, 1), (A.PWM_Q_PERIOD 3, 9375), (A.TICK_FRAME, 750000), (A.TICK_STATUS, 1), (A.ADC_AX_RAW 23, 77)] : State).dbl (3 : Fin 6) = true) := by decide +kernel

theorem test_wit_samplesAndConversions_4_1 : ((st [(A.SYS_MODE, 5), (A.PWM_Q_STATUS 3, 1), (A.PWM_Q_PERIOD 3, 9375), (A.TICK_FRAME, 750000), (A.TICK_STATUS, 1), (A.ADC_AX_RAW 23, 77)] : State).operating = true) ∧ (isCore (.coreA 2 false : Writer) = true) ∧ ((st [(A.SYS_MODE, 5), (A.PWM_Q_STATUS 3, 1), (A.PWM_Q_PERIOD 3, 9375), (A.TICK_FRAME, 750000), (A.TICK_STATUS, 1), (A.ADC_AX_RAW 23, 77)] : State).thisCycle ((st [(A.SYS_MODE, 5), (A.PWM_Q_STATUS 3, 1), (A.PWM_Q_PERIOD 3, 9375), (A.TICK_FRAME, 750000), (A.TICK_STATUS, 1), (A.ADC_AX_RAW 23, 77)] : State).axis (23 : Fin 24)).adcAt = false) := by decide +kernel

theorem test_wit_samplesAndConversions_2_2 : ((((st [(A.SYS_MODE, 5), (A.ADC_AX_GAIN 0, 0x400000400000), (A.ADC_AX_OFS 0, 0xFFF00010)]).setQuad 0 { Quad.init with busy := true, point := 41 } |> (fun x ↦ { x with auxOn := true }) : State).quad (0 : Fin 6)).busy = true) ∧ (∀ i : Fin 8, ([0, 16383] : List Nat).getD i 8192 < 16384) := by decide +kernel

theorem test_wit_samplesAndConversions_3_2 : (((st [(A.SYS_MODE, 5), (A.ADC_AX_GAIN 0, 0x400000400000), (A.ADC_AX_OFS 0, 0xFFF00010)]).setQuad 0 { Quad.init with busy := true, point := 41 } |> (fun x ↦ { x with auxOn := true }) : State).auxTurn (0 : Fin 6) 0 = true) ∧ ((16383 : Nat) < 16384) := by decide +kernel

theorem test_wit_samplesAndConversions_4_2 : (((st [(A.SYS_MODE, 5), (A.ADC_AX_GAIN 0, 0x400000400000), (A.ADC_AX_OFS 0, 0xFFF00010)]).setQuad 0 { Quad.init with busy := true, point := 41 } |> (fun x ↦ { x with auxOn := true }) : State).operating = true) ∧ (isCore (.coreS : Writer) = true) ∧ (((st [(A.SYS_MODE, 5), (A.ADC_AX_GAIN 0, 0x400000400000), (A.ADC_AX_OFS 0, 0xFFF00010)]).setQuad 0 { Quad.init with busy := true, point := 41 } |> (fun x ↦ { x with auxOn := true }) : State).thisCycle (((st [(A.SYS_MODE, 5), (A.ADC_AX_GAIN 0, 0x400000400000), (A.ADC_AX_OFS 0, 0xFFF00010)]).setQuad 0 { Quad.init with busy := true, point := 41 } |> (fun x ↦ { x with auxOn := true }) : State).axis (0 : Fin 24)).adcAt = false) := by decide +kernel

theorem test_wit_converterSettingsAndCalibration_1_1 : ((st [(A.SYS_MODE, 3), (A.PWR_CTL, 0)] : State).operating = true) ∧ (isCore (.coreA 0 false : Writer) = true) ∧ ((st [(A.SYS_MODE, 3), (A.PWR_CTL, 0)] : State).mode = .standby) ∧ (rowInRange (fieldsAt (A.ADC_Q_SAMP (5 : Fin 6))) (0xCA : Word) = true) := by decide +kernel

theorem test_wit_converterSettingsAndCalibration_3_1 : ((st [(A.SYS_MODE, 3), (A.PWR_CTL, 0)] : State).operating = true) ∧ (isCore (.coreA 0 false : Writer) = true) ∧ (getBits (0xCA : Word) 0 8 = 0xCA) ∧ ((st [(A.SYS_MODE, 3), (A.PWR_CTL, 0)] : State).mode = .standby) ∧ ((st [(A.SYS_MODE, 3), (A.PWR_CTL, 0)] : State).bit F.ADC_STATUS_CALBUSY = false) ∧ ((st [(A.SYS_MODE, 3), (A.PWR_CTL, 0)] : State).busSettled = true) := by decide +kernel

theorem test_wit_converterSettingsAndCalibration_1_2 : ((st [(A.SYS_MODE, 3), (A.PWR_CTL, 0)] : State).operating = true) ∧ (isCore (.coreA 0 false : Writer) = true) ∧ ((st [(A.SYS_MODE, 3), (A.PWR_CTL, 0)] : State).mode = .standby) ∧ (rowInRange (fieldsAt (A.ADC_Q_SAMP (0 : Fin 6))) (0x200CA : Word) = true) := by decide +kernel

theorem test_wit_converterSettingsAndCalibration_2_3 : ((st [(A.SYS_MODE, 4), (A.ADC_STATUS, 2)] : State).operating = true) ∧ (isCore (.coreS : Writer) = true) ∧ ((st [(A.SYS_MODE, 4), (A.ADC_STATUS, 2)] : State).mode ≠ .standby) ∧ (rowWrite false (fieldsAt (A.ADC_Q_SAMP (5 : Fin 6))) ((st [(A.SYS_MODE, 4), (A.ADC_STATUS, 2)] : State).reg (A.ADC_Q_SAMP (5 : Fin 6))) (0xCA : Word) ≠ (st [(A.SYS_MODE, 4), (A.ADC_STATUS, 2)] : State).reg (A.ADC_Q_SAMP (5 : Fin 6))) := by decide +kernel

theorem test_wit_converterSettingsAndCalibration_4_3 : ((st [(A.SYS_MODE, 4), (A.ADC_STATUS, 2)] : State).operating = true) ∧ (isCore (.coreS : Writer) = true) ∧ (getBits (0xCA : Word) 0 8 = 0xCA) ∧ ((st [(A.SYS_MODE, 4), (A.ADC_STATUS, 2)] : State).mode ≠ .standby ∨ (st [(A.SYS_MODE, 4), (A.ADC_STATUS, 2)] : State).bit F.ADC_STATUS_CALBUSY = true ∨ (st [(A.SYS_MODE, 4), (A.ADC_STATUS, 2)] : State).busSettled = false) := by decide +kernel

theorem test_wit_converterSettingsAndCalibration_5_3 : ((st [(A.SYS_MODE, 4), (A.ADC_STATUS, 2)] : State).operating = true) ∧ (isCore (.coreS : Writer) = true) ∧ ((st [(A.SYS_MODE, 4), (A.ADC_STATUS, 2)] : State).bit F.ADC_STATUS_CALBUSY = true) ∧ ((st [(A.SYS_MODE, 4), (A.ADC_STATUS, 2)] : State).mode ≠ .boot) ∧ (((List.replicate 54 98304) : List Nat).getD (2 * (23 : Fin 24)) 0 < 163840) ∧ (98304 ≤ ((List.replicate 54 98304) : List Nat).getD (2 * (23 : Fin 24)) 0) := by decide +kernel

theorem test_wit_lanesRun_1_1 : (((let x := st [(A.SYS_MODE, 5), (A.LE_STATUS, 2), (A.LE_AX_GRAPH 7, 3), (A.LE_AX_MOTOR 7, 0x800005000007), (A.FB_AX_POSS 7, 0xFFFFFF123456), (A.FB_AX_STAT 7, 3), (A.TICK_FRAME, 750000), (A.PWM_Q_PERIOD 1, 9375), (A.ADC_Q_VBUS 1, 0x300000000000)]; (x.setLane 1 { Lane.init with setReady := true, outer := [0, 2] }).setAxis 7 { x.axis 7 with spPos := 0x1000000, inTrip := false }) : State).laneOn (1 : Fin 6) = true) ∧ (((let x := st [(A.SYS_MODE, 5), (A.LE_STATUS, 2), (A.LE_AX_GRAPH 7, 3), (A.LE_AX_MOTOR 7, 0x800005000007), (A.FB_AX_POSS 7, 0xFFFFFF123456), (A.FB_AX_STAT 7, 3), (A.TICK_FRAME, 750000), (A.PWM_Q_PERIOD 1, 9375), (A.ADC_Q_VBUS 1, 0x300000000000)]; (x.setLane 1 { Lane.init with setReady := true, outer := [0, 2] }).setAxis 7 { x.axis 7 with spPos := 0x1000000, inTrip := false }) : State).laneFrozen = false) ∧ ((((let x := st [(A.SYS_MODE, 5), (A.LE_STATUS, 2), (A.LE_AX_GRAPH 7, 3), (A.LE_AX_MOTOR 7, 0x800005000007), (A.FB_AX_POSS 7, 0xFFFFFF123456), (A.FB_AX_STAT 7, 3), (A.TICK_FRAME, 750000), (A.PWM_Q_PERIOD 1, 9375), (A.ADC_Q_VBUS 1, 0x300000000000)]; (x.setLane 1 { Lane.init with setReady := true, outer := [0, 2] }).setAxis 7 { x.axis 7 with spPos := 0x1000000, inTrip := false }) : State).lane (1 : Fin 6)).setReady = true) ∧ ((((let x := st [(A.SYS_MODE, 5), (A.LE_STATUS, 2), (A.LE_AX_GRAPH 7, 3), (A.LE_AX_MOTOR 7, 0x800005000007), (A.FB_AX_POSS 7, 0xFFFFFF123456), (A.FB_AX_STAT 7, 3), (A.TICK_FRAME, 750000), (A.PWM_Q_PERIOD 1, 9375), (A.ADC_Q_VBUS 1, 0x300000000000)]; (x.setLane 1 { Lane.init with setReady := true, outer := [0, 2] }).setAxis 7 { x.axis 7 with spPos := 0x1000000, inTrip := false }) : State).lane (1 : Fin 6)).next = false) ∧ (((let x := st [(A.SYS_MODE, 5), (A.LE_STATUS, 2), (A.LE_AX_GRAPH 7, 3), (A.LE_AX_MOTOR 7, 0x800005000007), (A.FB_AX_POSS 7, 0xFFFFFF123456), (A.FB_AX_STAT 7, 3), (A.TICK_FRAME, 750000), (A.PWM_Q_PERIOD 1, 9375), (A.ADC_Q_VBUS 1, 0x300000000000)]; (x.setLane 1 { Lane.init with setReady := true, outer := [0, 2] }).setAxis 7 { x.axis 7 with spPos := 0x1000000, inTrip := false }) : State).clocked = false ∨ (((let x := st [(A.SYS_MODE, 5), (A.LE_STATUS, 2), (A.LE_AX_GRAPH 7, 3), (A.LE_AX_MOTOR 7, 0x800005000007), (A.FB_AX_POSS 7, 0xFFFFFF123456), (A.FB_AX_STAT 7, 3), (A.TICK_FRAME, 750000), (A.PWM_Q_PERIOD 1, 9375), (A.ADC_Q_VBUS 1, 0x300000000000)]; (x.setLane 1 { Lane.init with setReady := true, outer := [0, 2] }).setAxis 7 { x.axis 7 with spPos := 0x1000000, inTrip := false }) : State).lane (1 : Fin 6)).beginAt ≠ some ((let x := st [(A.SYS_MODE, 5), (A.LE_STATUS, 2), (A.LE_AX_GRAPH 7, 3), (A.LE_AX_MOTOR 7, 0x800005000007), (A.FB_AX_POSS 7, 0xFFFFFF123456), (A.FB_AX_STAT 7, 3), (A.TICK_FRAME, 750000), (A.PWM_Q_PERIOD 1, 9375), (A.ADC_Q_VBUS 1, 0x300000000000)]; (x.setLane 1 { Lane.init with setReady := true, outer := [0, 2] }).setAxis 7 { x.axis 7 with spPos := 0x1000000, inTrip := false }) : State).now) ∧ (1 ≤ ((let x := st [(A.SYS_MODE, 5), (A.LE_STATUS, 2), (A.LE_AX_GRAPH 7, 3), (A.LE_AX_MOTOR 7, 0x800005000007), (A.FB_AX_POSS 7, 0xFFFFFF123456), (A.FB_AX_STAT 7, 3), (A.TICK_FRAME, 750000), (A.PWM_Q_PERIOD 1, 9375), (A.ADC_Q_VBUS 1, 0x300000000000)]; (x.setLane 1 { Lane.init with setReady := true, outer := [0, 2] }).setAxis 7 { x.axis 7 with spPos := 0x1000000, inTrip := false }) : State).leMode (4 * (1 : Fin 6) + (3 : Fin 4)) ∧ ((let x := st [(A.SYS_MODE, 5), (A.LE_STATUS, 2), (A.LE_AX_GRAPH 7, 3), (A.LE_AX_MOTOR 7, 0x800005000007), (A.FB_AX_POSS 7, 0xFFFFFF123456), (A.FB_AX_STAT 7, 3), (A.TICK_FRAME, 750000), (A.PWM_Q_PERIOD 1, 9375), (A.ADC_Q_VBUS 1, 0x300000000000)]; (x.setLane 1 { Lane.init with setReady := true, outer := [0, 2] }).setAxis 7 { x.axis 7 with spPos := 0x1000000, inTrip := false }) : State).leMode (4 * (1 : Fin 6) + (3 : Fin 4)) ≤ 3) := by decide +kernel

theorem test_wit_lanesRun_2_1 : (((let x := st [(A.SYS_MODE, 5), (A.LE_STATUS, 2), (A.LE_AX_GRAPH 7, 3), (A.LE_AX_MOTOR 7, 0x800005000007), (A.FB_AX_POSS 7, 0xFFFFFF123456), (A.FB_AX_STAT 7, 3), (A.TICK_FRAME, 750000), (A.PWM_Q_PERIOD 1, 9375), (A.ADC_Q_VBUS 1, 0x300000000000)]; (x.setLane 1 { Lane.init with setReady := true, outer := [0, 2] }).setAxis 7 { x.axis 7 with spPos := 0x1000000, inTrip := false }) : State).laneOn (1 : Fin 6) = true) ∧ (((let x := st [(A.SYS_MODE, 5), (A.LE_STATUS, 2), (A.LE_AX_GRAPH 7, 3), (A.LE_AX_MOTOR 7, 0x800005000007), (A.FB_AX_POSS 7, 0xFFFFFF123456), (A.FB_AX_STAT 7, 3), (A.TICK_FRAME, 750000), (A.PWM_Q_PERIOD 1, 9375), (A.ADC_Q_VBUS 1, 0x300000000000)]; (x.setLane 1 { Lane.init with setReady := true, outer := [0, 2] }).setAxis 7 { x.axis 7 with spPos := 0x1000000, inTrip := false }) : State).laneFrozen = false) ∧ ((((let x := st [(A.SYS_MODE, 5), (A.LE_STATUS, 2), (A.LE_AX_GRAPH 7, 3), (A.LE_AX_MOTOR 7, 0x800005000007), (A.FB_AX_POSS 7, 0xFFFFFF123456), (A.FB_AX_STAT 7, 3), (A.TICK_FRAME, 750000), (A.PWM_Q_PERIOD 1, 9375), (A.ADC_Q_VBUS 1, 0x300000000000)]; (x.setLane 1 { Lane.init with setReady := true, outer := [0, 2] }).setAxis 7 { x.axis 7 with spPos := 0x1000000, inTrip := false }) : State).lane (1 : Fin 6)).outer = (0 : Nat) :: (((let x := st [(A.SYS_MODE, 5), (A.LE_STATUS, 2), (A.LE_AX_GRAPH 7, 3), (A.LE_AX_MOTOR 7, 0x800005000007), (A.FB_AX_POSS 7, 0xFFFFFF123456), (A.FB_AX_STAT 7, 3), (A.TICK_FRAME, 750000), (A.PWM_Q_PERIOD 1, 9375), (A.ADC_Q_VBUS 1, 0x300000000000)]; (x.setLane 1 { Lane.init with setReady := true, outer := [0, 2] }).setAxis 7 { x.axis 7 with spPos := 0x1000000, inTrip := false }) : State).lane (1 : Fin 6)).outer.tail) ∧ ((((let x := st [(A.SYS_MODE, 5), (A.LE_STATUS, 2), (A.LE_AX_GRAPH 7, 3), (A.LE_AX_MOTOR 7, 0x800005000007), (A.FB_AX_POSS 7, 0xFFFFFF123456), (A.FB_AX_STAT 7, 3), (A.TICK_FRAME, 750000), (A.PWM_Q_PERIOD 1, 9375), (A.ADC_Q_VBUS 1, 0x300000000000)]; (x.setLane 1 { Lane.init with setReady := true, outer := [0, 2] }).setAxis 7 { x.axis 7 with spPos := 0x1000000, inTrip := false }) : State).lane (1 : Fin 6)).outRes = none) ∧ (((let x := st [(A.SYS_MODE, 5), (A.LE_STATUS, 2), (A.LE_AX_GRAPH 7, 3), (A.LE_AX_MOTOR 7, 0x800005000007), (A.FB_AX_POSS 7, 0xFFFFFF123456), (A.FB_AX_STAT 7, 3), (A.TICK_FRAME, 750000), (A.PWM_Q_PERIOD 1, 9375), (A.ADC_Q_VBUS 1, 0x300000000000)]; (x.setLane 1 { Lane.init with setReady := true, outer := [0, 2] }).setAxis 7 { x.axis 7 with spPos := 0x1000000, inTrip := false }) : State).clocked = false ∨ ((let x := st [(A.SYS_MODE, 5), (A.LE_STATUS, 2), (A.LE_AX_GRAPH 7, 3), (A.LE_AX_MOTOR 7, 0x800005000007), (A.FB_AX_POSS 7, 0xFFFFFF123456), (A.FB_AX_STAT 7, 3), (A.TICK_FRAME, 750000), (A.PWM_Q_PERIOD 1, 9375), (A.ADC_Q_VBUS 1, 0x300000000000)]; (x.setLane 1 { Lane.init with setReady := true, outer := [0, 2] }).setAxis 7 { x.axis 7 with spPos := 0x1000000, inTrip := false }) : State).passRuns (1 : Fin 6) = false) ∧ (∀ j : Fin 4, ((let x := st [(A.SYS_MODE, 5), (A.LE_STATUS, 2), (A.LE_AX_GRAPH 7, 3), (A.LE_AX_MOTOR 7, 0x800005000007), (A.FB_AX_POSS 7, 0xFFFFFF123456), (A.FB_AX_STAT 7, 3), (A.TICK_FRAME, 750000), (A.PWM_Q_PERIOD 1, 9375), (A.ADC_Q_VBUS 1, 0x300000000000)]; (x.setLane 1 { Lane.init with setReady := true, outer := [0, 2] }).setAxis 7 { x.axis 7 with spPos := 0x1000000, inTrip := false }) : State).inForce (F.LE_AX_CTL_FAULTACT (4 * (1 : Fin 6) + j)) ≠ 2) ∧ (((let x := st [(A.SYS_MODE, 5), (A.LE_STATUS, 2), (A.LE_AX_GRAPH 7, 3), (A.LE_AX_MOTOR 7, 0x800005000007), (A.FB_AX_POSS 7, 0xFFFFFF123456), (A.FB_AX_STAT 7, 3), (A.TICK_FRAME, 750000), (A.PWM_Q_PERIOD 1, 9375), (A.ADC_Q_VBUS 1, 0x300000000000)]; (x.setLane 1 { Lane.init with setReady := true, outer := [0, 2] }).setAxis 7 { x.axis 7 with spPos := 0x1000000, inTrip := false }) : State).loopDue (4 * (1 : Fin 6) + (3 : Fin 4)) (0 : Nat) true = true) ∧ ((((let x := st [(A.SYS_MODE, 5), (A.LE_STATUS, 2), (A.LE_AX_GRAPH 7, 3), (A.LE_AX_MOTOR 7, 0x800005000007), (A.FB_AX_POSS 7, 0xFFFFFF123456), (A.FB_AX_STAT 7, 3), (A.TICK_FRAME, 750000), (A.PWM_Q_PERIOD 1, 9375), (A.ADC_Q_VBUS 1, 0x300000000000)]; (x.setLane 1 { Lane.init with setReady := true, outer := [0, 2] }).setAxis 7 { x.axis 7 with spPos := 0x1000000, inTrip := false }) : State).axis (4 * (1 : Fin 6) + (3 : Fin 4))).ssZero = false) ∧ ((((let x := st [(A.SYS_MODE, 5), (A.LE_STATUS, 2), (A.LE_AX_GRAPH 7, 3), (A.LE_AX_MOTOR 7, 0x800005000007), (A.FB_AX_POSS 7, 0xFFFFFF123456), (A.FB_AX_STAT 7, 3), (A.TICK_FRAME, 750000), (A.PWM_Q_PERIOD 1, 9375), (A.ADC_Q_VBUS 1, 0x300000000000)]; (x.setLane 1 { Lane.init with setReady := true, outer := [0, 2] }).setAxis 7 { x.axis 7 with spPos := 0x1000000, inTrip := false }) : State).axis (4 * (1 : Fin 6) + (3 : Fin 4))).ramp = none) ∧ (((let x := st [(A.SYS_MODE, 5), (A.LE_STATUS, 2), (A.LE_AX_GRAPH 7, 3), (A.LE_AX_MOTOR 7, 0x800005000007), (A.FB_AX_POSS 7, 0xFFFFFF123456), (A.FB_AX_STAT 7, 3), (A.TICK_FRAME, 750000), (A.PWM_Q_PERIOD 1, 9375), (A.ADC_Q_VBUS 1, 0x300000000000)]; (x.setLane 1 { Lane.init with setReady := true, outer := [0, 2] }).setAxis 7 { x.axis 7 with spPos := 0x1000000, inTrip := false }) : State).inForce (F.LE_AX_CTL_SPINT (4 * (1 : Fin 6) + (3 : Fin 4))) = 0) := by decide +kernel

theorem test_wit_lanesRun_3_2 : (((let x := st [(A.SYS_MODE, 5), (A.LE_STATUS, 32), (A.LE_AX_GRAPH 20, 2), (A.FB_AX_STAT 20, 3), (A.TICK_FRAME, 750000), (A.PWM_Q_PERIOD 5, 9375), (A.ADC_Q_VBUS 5, 0x300000000000)]; (x.setLane 5 { Lane.init with setReady := true, outer := [3] }).setAxis 20 { x.axis 20 with spVel := 0xFFFFFF000000, inTrip := false }) : State).laneOn (5 : Fin 6) = true) ∧ (((let x := st [(A.SYS_MODE, 5), (A.LE_STATUS, 32), (A.LE_AX_GRAPH 20, 2), (A.FB_AX_STAT 20, 3), (A.TICK_FRAME, 750000), (A.PWM_Q_PERIOD 5, 9375), (A.ADC_Q_VBUS 5, 0x300000000000)]; (x.setLane 5 { Lane.init with setReady := true, outer := [3] }).setAxis 20 { x.axis 20 with spVel := 0xFFFFFF000000, inTrip := false }) : State).laneFrozen = false) ∧ ((((let x := st [(A.SYS_MODE, 5), (A.LE_STATUS, 32), (A.LE_AX_GRAPH 20, 2), (A.FB_AX_STAT 20, 3), (A.TICK_FRAME, 750000), (A.PWM_Q_PERIOD 5, 9375), (A.ADC_Q_VBUS 5, 0x300000000000)]; (x.setLane 5 { Lane.init with setReady := true, outer := [3] }).setAxis 20 { x.axis 20 with spVel := 0xFFFFFF000000, inTrip := false }) : State).lane (5 : Fin 6)).outer = (3 : Nat) :: (((let x := st [(A.SYS_MODE, 5), (A.LE_STATUS, 32), (A.LE_AX_GRAPH 20, 2), (A.FB_AX_STAT 20, 3), (A.TICK_FRAME, 750000), (A.PWM_Q_PERIOD 5, 9375), (A.ADC_Q_VBUS 5, 0x300000000000)]; (x.setLane 5 { Lane.init with setReady := true, outer := [3] }).setAxis 20 { x.axis 20 with spVel := 0xFFFFFF000000, inTrip := false }) : State).lane (5 : Fin 6)).outer.tail) ∧ ((((let x := st [(A.SYS_MODE, 5), (A.LE_STATUS, 32), (A.LE_AX_GRAPH 20, 2), (A.FB_AX_STAT 20, 3), (A.TICK_FRAME, 750000), (A.PWM_Q_PERIOD 5, 9375), (A.ADC_Q_VBUS 5, 0x300000000000)]; (x.setLane 5 { Lane.init with setReady := true, outer := [3] }).setAxis 20 { x.axis 20 with spVel := 0xFFFFFF000000, inTrip := false }) : State).lane (5 : Fin 6)).outRes = none) ∧ (((let x := st [(A.SYS_MODE, 5), (A.LE_STATUS, 32), (A.LE_AX_GRAPH 20, 2), (A.FB_AX_STAT 20, 3), (A.TICK_FRAME, 750000), (A.PWM_Q_PERIOD 5, 9375), (A.ADC_Q_VBUS 5, 0x300000000000)]; (x.setLane 5 { Lane.init with setReady := true, outer := [3] }).setAxis 20 { x.axis 20 with spVel := 0xFFFFFF000000, inTrip := false }) : State).clocked = false ∨ ((let x := st [(A.SYS_MODE, 5), (A.LE_STATUS, 32), (A.LE_AX_GRAPH 20, 2), (A.FB_AX_STAT 20, 3), (A.TICK_FRAME, 750000), (A.PWM_Q_PERIOD 5, 9375), (A.ADC_Q_VBUS 5, 0x300000000000)]; (x.setLane 5 { Lane.init with setReady := true, outer := [3] }).setAxis 20 { x.axis 20 with spVel := 0xFFFFFF000000, inTrip := false }) : State).passRuns (5 : Fin 6) = false) ∧ (∀ j : Fin 4, ((let x := st [(A.SYS_MODE, 5), (A.LE_STATUS, 32), (A.LE_AX_GRAPH 20, 2), (A.FB_AX_STAT 20, 3), (A.TICK_FRAME, 750000), (A.PWM_Q_PERIOD 5, 9375), (A.ADC_Q_VBUS 5, 0x300000000000)]; (x.setLane 5 { Lane.init with setReady := true, outer := [3] }).setAxis 20 { x.axis 20 with spVel := 0xFFFFFF000000, inTrip := false }) : State).inForce (F.LE_AX_CTL_FAULTACT (4 * (5 : Fin 6) + j)) ≠ 2) ∧ (((let x := st [(A.SYS_MODE, 5), (A.LE_STATUS, 32), (A.LE_AX_GRAPH 20, 2), (A.FB_AX_STAT 20, 3), (A.TICK_FRAME, 750000), (A.PWM_Q_PERIOD 5, 9375), (A.ADC_Q_VBUS 5, 0x300000000000)]; (x.setLane 5 { Lane.init with setReady := true, outer := [3] }).setAxis 20 { x.axis 20 with spVel := 0xFFFFFF000000, inTrip := false }) : State).loopDue (4 * (5 : Fin 6) + (0 : Fin 4)) (3 : Nat) false = true) ∧ (((let x := st [(A.SYS_MODE, 5), (A.LE_STATUS, 32), (A.LE_AX_GRAPH 20, 2), (A.FB_AX_STAT 20, 3), (A.TICK_FRAME, 750000), (A.PWM_Q_PERIOD 5, 9375), (A.ADC_Q_VBUS 5, 0x300000000000)]; (x.setLane 5 { Lane.init with setReady := true, outer := [3] }).setAxis 20 { x.axis 20 with spVel := 0xFFFFFF000000, inTrip := false }) : State).leMode (4 * (5 : Fin 6) + (0 : Fin 4)) = 2) ∧ ((((let x := st [(A.SYS_MODE, 5), (A.LE_STATUS, 32), (A.LE_AX_GRAPH 20, 2), (A.FB_AX_STAT 20, 3), (A.TICK_FRAME, 750000), (A.PWM_Q_PERIOD 5, 9375), (A.ADC_Q_VBUS 5, 0x300000000000)]; (x.setLane 5 { Lane.init with setReady := true, outer := [3] }).setAxis 20 { x.axis 20 with spVel := 0xFFFFFF000000, inTrip := false }) : State).axis (4 * (5 : Fin 6) + (0 : Fin 4))).ssZero = false) ∧ ((((let x := st [(A.SYS_MODE, 5), (A.LE_STATUS, 32), (A.LE_AX_GRAPH 20, 2), (A.FB_AX_STAT 20, 3), (A.TICK_FRAME, 750000), (A.PWM_Q_PERIOD 5, 9375), (A.ADC_Q_VBUS 5, 0x300000000000)]; (x.setLane 5 { Lane.init with setReady := true, outer := [3] }).setAxis 20 { x.axis 20 with spVel := 0xFFFFFF000000, inTrip := false }) : State).axis (4 * (5 : Fin 6) + (0 : Fin 4))).ramp = none) ∧ (((let x := st [(A.SYS_MODE, 5), (A.LE_STATUS, 32), (A.LE_AX_GRAPH 20, 2), (A.FB_AX_STAT 20, 3), (A.TICK_FRAME, 750000), (A.PWM_Q_PERIOD 5, 9375), (A.ADC_Q_VBUS 5, 0x300000000000)]; (x.setLane 5 { Lane.init with setReady := true, outer := [3] }).setAxis 20 { x.axis 20 with spVel := 0xFFFFFF000000, inTrip := false }) : State).inForce (F.LE_AX_CTL_SPINT (4 * (5 : Fin 6) + (0 : Fin 4))) = 0) := by decide +kernel

theorem test_wit_lanesRun_4_3 : (((let x := st [(A.SYS_MODE, 5), (A.LE_STATUS, 32)]; { x.setLane 5 { Lane.init with setReady := true, beginAt := some 1000000, outer := [3] } with clocked := true }) : State).laneOn (5 : Fin 6) = true) ∧ (((let x := st [(A.SYS_MODE, 5), (A.LE_STATUS, 32)]; { x.setLane 5 { Lane.init with setReady := true, beginAt := some 1000000, outer := [3] } with clocked := true }) : State).laneFrozen = false) ∧ ((((let x := st [(A.SYS_MODE, 5), (A.LE_STATUS, 32)]; { x.setLane 5 { Lane.init with setReady := true, beginAt := some 1000000, outer := [3] } with clocked := true }) : State).lane (5 : Fin 6)).setReady = true) ∧ (((let x := st [(A.SYS_MODE, 5), (A.LE_STATUS, 32)]; { x.setLane 5 { Lane.init with setReady := true, beginAt := some 1000000, outer := [3] } with clocked := true }) : State).clocked = true) ∧ ((((let x := st [(A.SYS_MODE, 5), (A.LE_STATUS, 32)]; { x.setLane 5 { Lane.init with setReady := true, beginAt := some 1000000, outer := [3] } with clocked := true }) : State).lane (5 : Fin 6)).beginAt = some ((let x := st [(A.SYS_MODE, 5), (A.LE_STATUS, 32)]; { x.setLane 5 { Lane.init with setReady := true, beginAt := some 1000000, outer := [3] } with clocked := true }) : State).now) := by decide +kernel

theorem test_wit_lanesRun_5_4 : (((let x := st [(A.SYS_MODE, 5), (A.LE_STATUS, 32)]; { (x.setLane 5 { Lane.init with setReady := true, outer := [3] }).after 7 (.laneCurrentPass 5) with clocked := true }) : State).laneOn (5 : Fin 6) = true) ∧ (((let x := st [(A.SYS_MODE, 5), (A.LE_STATUS, 32)]; { (x.setLane 5 { Lane.init with setReady := true, outer := [3] }).after 7 (.laneCurrentPass 5) with clocked := true }) : State).laneFrozen = false) ∧ ((((let x := st [(A.SYS_MODE, 5), (A.LE_STATUS, 32)]; { (x.setLane 5 { Lane.init with setReady := true, outer := [3] }).after 7 (.laneCurrentPass 5) with clocked := true }) : State).lane (5 : Fin 6)).outer ≠ []) ∧ (((let x := st [(A.SYS_MODE, 5), (A.LE_STATUS, 32)]; { (x.setLane 5 { Lane.init with setReady := true, outer := [3] }).after 7 (.laneCurrentPass 5) with clocked := true }) : State).clocked = true) ∧ (((let x := st [(A.SYS_MODE, 5), (A.LE_STATUS, 32)]; { (x.setLane 5 { Lane.init with setReady := true, outer := [3] }).after 7 (.laneCurrentPass 5) with clocked := true }) : State).passRuns (5 : Fin 6) = true) := by decide +kernel

theorem test_wit_parametersAndSetPoints_1_1 : (((let x := st [(A.SYS_MODE, 3), (A.LE_COMMIT_EV, 0x1FFFFFF), (A.LE_AX_GRAPH 23, 2), (A.LE_AX_BSTAT 23, 2), (A.TICK_FRAME, 750000), (A.PWM_Q_PERIOD 5, 9375)]; x.setAxis 23 { x.axis 23 with copying := false }) : State).operating = true) ∧ (isCore (.coreA 3 false : Writer) = true) ∧ ((findRow (blockRows (A.LE_AX_GRAPH (23 : Fin 24) + 8 * (46 : Fin 96))) (A.LE_AX_GRAPH (23 : Fin 24) + 8 * (46 : Fin 96))).isSome = true) ∧ (rowInRange (fieldsAt (A.LE_AX_GRAPH (23 : Fin 24) + 8 * (46 : Fin 96))) (0x800000 : Word) = true) ∧ ((((let x := st [(A.SYS_MODE, 3), (A.LE_COMMIT_EV, 0x1FFFFFF), (A.LE_AX_GRAPH 23, 2), (A.LE_AX_BSTAT 23, 2), (A.TICK_FRAME, 750000), (A.PWM_Q_PERIOD 5, 9375)]; x.setAxis 23 { x.axis 23 with copying := false }) : State).axis (23 : Fin 24)).copying = false) ∧ (((let x := st [(A.SYS_MODE, 3), (A.LE_COMMIT_EV, 0x1FFFFFF), (A.LE_AX_GRAPH 23, 2), (A.LE_AX_BSTAT 23, 2), (A.TICK_FRAME, 750000), (A.PWM_Q_PERIOD 5, 9375)]; x.setAxis 23 { x.axis 23 with copying := false }) : State).sameAs (((let x := st [(A.SYS_MODE, 3), (A.LE_COMMIT_EV, 0x1FFFFFF), (A.LE_AX_GRAPH 23, 2), (A.LE_AX_BSTAT 23, 2), (A.TICK_FRAME, 750000), (A.PWM_Q_PERIOD 5, 9375)]; x.setAxis 23 { x.axis 23 with copying := false }) : State).axis (23 : Fin 24)).swapAt = false) := by decide +kernel

theorem test_wit_parametersAndSetPoints_2_1 : (((let x := st [(A.SYS_MODE, 3), (A.LE_COMMIT_EV, 0x1FFFFFF), (A.LE_AX_GRAPH 23, 2), (A.LE_AX_BSTAT 23, 2), (A.TICK_FRAME, 750000), (A.PWM_Q_PERIOD 5, 9375)]; x.setAxis 23 { x.axis 23 with copying := false }) : State).operating = true) ∧ (isCore (.coreA 3 false : Writer) = true) ∧ ((0x800000 : Word).getLsbD (23 : Fin 24) = true) ∧ (((let x := st [(A.SYS_MODE, 3), (A.LE_COMMIT_EV, 0x1FFFFFF), (A.LE_AX_GRAPH 23, 2), (A.LE_AX_BSTAT 23, 2), (A.TICK_FRAME, 750000), (A.PWM_Q_PERIOD 5, 9375)]; x.setAxis 23 { x.axis 23 with copying := false }) : State).bit (F.LE_AX_BSTAT_PEND (23 : Fin 24)) = false) ∧ (((let x := st [(A.SYS_MODE, 3), (A.LE_COMMIT_EV, 0x1FFFFFF), (A.LE_AX_GRAPH 23, 2), (A.LE_AX_BSTAT 23, 2), (A.TICK_FRAME, 750000), (A.PWM_Q_PERIOD 5, 9375)]; x.setAxis 23 { x.axis 23 with copying := false }) : State).commitCause (23 : Fin 24) (getBits (0x800000 : Word) 0 24 ||| ((let x := st [(A.SYS_MODE, 3), (A.LE_COMMIT_EV, 0x1FFFFFF), (A.LE_AX_GRAPH 23, 2), (A.LE_AX_BSTAT 23, 2), (A.TICK_FRAME, 750000), (A.PWM_Q_PERIOD 5, 9375)]; x.setAxis 23 { x.axis 23 with copying := false }) : State).commitNow ||| ((let x := st [(A.SYS_MODE, 3), (A.LE_COMMIT_EV, 0x1FFFFFF), (A.LE_AX_GRAPH 23, 2), (A.LE_AX_BSTAT 23, 2), (A.TICK_FRAME, 750000), (A.PWM_Q_PERIOD 5, 9375)]; x.setAxis 23 { x.axis 23 with copying := false }) : State).rd F.LE_COMMIT_PEND_PEND) = 0) := by decide +kernel

theorem test_wit_parametersAndSetPoints_4_1 : (((let x := st [(A.SYS_MODE, 3), (A.LE_COMMIT_EV, 0x1FFFFFF), (A.LE_AX_GRAPH 23, 2), (A.LE_AX_BSTAT 23, 2), (A.TICK_FRAME, 750000), (A.PWM_Q_PERIOD 5, 9375)]; x.setAxis 23 { x.axis 23 with copying := false }) : State).operating = true) ∧ (isCore (.coreA 3 false : Writer) = true) ∧ (((let x := st [(A.SYS_MODE, 3), (A.LE_COMMIT_EV, 0x1FFFFFF), (A.LE_AX_GRAPH 23, 2), (A.LE_AX_BSTAT 23, 2), (A.TICK_FRAME, 750000), (A.PWM_Q_PERIOD 5, 9375)]; x.setAxis 23 { x.axis 23 with copying := false }) : State).bit F.LE_COMMIT_EV_EN = true) ∧ (((let x := st [(A.SYS_MODE, 3), (A.LE_COMMIT_EV, 0x1FFFFFF), (A.LE_AX_GRAPH 23, 2), (A.LE_AX_BSTAT 23, 2), (A.TICK_FRAME, 750000), (A.PWM_Q_PERIOD 5, 9375)]; x.setAxis 23 { x.axis 23 with copying := false }) : State).arrived 1 1 = false) ∧ (((let x := st [(A.SYS_MODE, 3), (A.LE_COMMIT_EV, 0x1FFFFFF), (A.LE_AX_GRAPH 23, 2), (A.LE_AX_BSTAT 23, 2), (A.TICK_FRAME, 750000), (A.PWM_Q_PERIOD 5, 9375)]; x.setAxis 23 { x.axis 23 with copying := false }) : State).bitAt F.LE_COMMIT_EV_MASK (23 : Fin 24) = true) ∧ (((let x := st [(A.SYS_MODE, 3), (A.LE_COMMIT_EV, 0x1FFFFFF), (A.LE_AX_GRAPH 23, 2), (A.LE_AX_BSTAT 23, 2), (A.TICK_FRAME, 750000), (A.PWM_Q_PERIOD 5, 9375)]; x.setAxis 23 { x.axis 23 with copying := false }) : State).bit (F.LE_AX_BSTAT_PEND (23 : Fin 24)) = false) := by decide +kernel

theorem test_wit_parametersAndSetPoints_6_1 : (((let x := st [(A.SYS_MODE, 3), (A.LE_COMMIT_EV, 0x1FFFFFF), (A.LE_AX_GRAPH 23, 2), (A.LE_AX_BSTAT 23, 2), (A.TICK_FRAME, 750000), (A.PWM_Q_PERIOD 5, 9375)]; x.setAxis 23 { x.axis 23 with copying := false }) : State).operating = true) ∧ (isCore (.coreA 3 false : Writer) = true) ∧ (((let x := st [(A.SYS_MODE, 3), (A.LE_COMMIT_EV, 0x1FFFFFF), (A.LE_AX_GRAPH 23, 2), (A.LE_AX_BSTAT 23, 2), (A.TICK_FRAME, 750000), (A.PWM_Q_PERIOD 5, 9375)]; x.setAxis 23 { x.axis 23 with copying := false }) : State).inForce (F.LE_AX_CTL_SPSRC (23 : Fin 24)) = 0) := by decide +kernel

theorem test_wit_parametersAndSetPoints_8_1 : (((let x := st [(A.SYS_MODE, 3), (A.LE_COMMIT_EV, 0x1FFFFFF), (A.LE_AX_GRAPH 23, 2), (A.LE_AX_BSTAT 23, 2), (A.TICK_FRAME, 750000), (A.PWM_Q_PERIOD 5, 9375)]; x.setAxis 23 { x.axis 23 with copying := false }) : State).operating = true) ∧ (isCore (.coreA 3 false : Writer) = true) ∧ (((let x := st [(A.SYS_MODE, 3), (A.LE_COMMIT_EV, 0x1FFFFFF), (A.LE_AX_GRAPH 23, 2), (A.LE_AX_BSTAT 23, 2), (A.TICK_FRAME, 750000), (A.PWM_Q_PERIOD 5, 9375)]; x.setAxis 23 { x.axis 23 with copying := false }) : State).mode = .standby ∨ ((let x := st [(A.SYS_MODE, 3), (A.LE_COMMIT_EV, 0x1FFFFFF), (A.LE_AX_GRAPH 23, 2), (A.LE_AX_BSTAT 23, 2), (A.TICK_FRAME, 750000), (A.PWM_Q_PERIOD 5, 9375)]; x.setAxis 23 { x.axis 23 with copying := false }) : State).mode = .armed) ∧ (getBits (0x800000 : Word) 3 2 ≠ 3) := by decide +kernel

theorem test_wit_parametersAndSetPoints_5_2 : (((let x := st [(A.SYS_MODE, 4), (A.LE_AX_KE 0, 5)]; x.setAxis 0 { x.axis 0 with copying := true }) : State).operating = true) ∧ (isCore (.coreS : Writer) = true) ∧ ((((let x := st [(A.SYS_MODE, 4), (A.LE_AX_KE 0, 5)]; x.setAxis 0 { x.axis 0 with copying := true }) : State).axis (0 : Fin 24)).copying = true) ∧ ((((let x := st [(A.SYS_MODE, 4), (A.LE_AX_KE 0, 5)]; x.setAxis 0 { x.axis 0 with copying := true }) : State).axis (0 : Fin 24)).stalled = []) ∧ ((findRow (blockRows (A.LE_AX_GRAPH (0 : Fin 24) + 8 * (9 : Fin 96))) (A.LE_AX_GRAPH (0 : Fin 24) + 8 * (9 : Fin 96))).isSome = true) ∧ ((9 : Fin 96) < 47) := by decide +kernel

theorem test_wit_parametersAndSetPoints_1_3 : ((st [(A.SYS_MODE, 6), (A.LE_AX_CTL 0, 1)] : State).operating = true) ∧ (isCore (.coreS : Writer) = true) ∧ ((findRow (blockRows (A.LE_AX_GRAPH (0 : Fin 24) + 8 * (0 : Fin 96))) (A.LE_AX_GRAPH (0 : Fin 24) + 8 * (0 : Fin 96))).isSome = true) ∧ (rowInRange (fieldsAt (A.LE_AX_GRAPH (0 : Fin 24) + 8 * (0 : Fin 96))) (0x1 : Word) = true) ∧ (((st [(A.SYS_MODE, 6), (A.LE_AX_CTL 0, 1)] : State).axis (0 : Fin 24)).copying = false) ∧ ((st [(A.SYS_MODE, 6), (A.LE_AX_CTL 0, 1)] : State).sameAs ((st [(A.SYS_MODE, 6), (A.LE_AX_CTL 0, 1)] : State).axis (0 : Fin 24)).swapAt = false) := by decide +kernel

theorem test_wit_parametersAndSetPoints_3_3 : ((st [(A.SYS_MODE, 6), (A.LE_AX_CTL 0, 1)] : State).operating = true) ∧ (isCore (.coreS : Writer) = true) ∧ ((0x1 : Word).getLsbD (0 : Fin 24) = true) ∧ ((st [(A.SYS_MODE, 6), (A.LE_AX_CTL 0, 1)] : State).bit (F.LE_AX_BSTAT_PEND (0 : Fin 24)) = false) ∧ ((st [(A.SYS_MODE, 6), (A.LE_AX_CTL 0, 1)] : State).mode = .safeStop) := by decide +kernel

theorem test_wit_parametersAndSetPoints_7_3 : ((st [(A.SYS_MODE, 6), (A.LE_AX_CTL 0, 1)] : State).operating = true) ∧ (isCore (.coreS : Writer) = true) ∧ ((st [(A.SYS_MODE, 6), (A.LE_AX_CTL 0, 1)] : State).inForce (F.LE_AX_CTL_SPSRC (0 : Fin 24)) ≠ 0) ∧ ((0x1 : Word) ≠ (st [(A.SYS_MODE, 6), (A.LE_AX_CTL 0, 1)] : State).reg (A.LE_AX_SP_POS (0 : Fin 24) + 8 * (0 : Fin 5))) := by decide +kernel

theorem test_wit_parametersAndSetPoints_7_4 : ((st [(A.SYS_MODE, 5), (A.LE_AX_CTL 9, 1)] : State).operating = true) ∧ (isCore (.coreS : Writer) = true) ∧ ((st [(A.SYS_MODE, 5), (A.LE_AX_CTL 9, 1)] : State).inForce (F.LE_AX_CTL_SPSRC (9 : Fin 24)) ≠ 0) ∧ ((0x4 : Word) ≠ (st [(A.SYS_MODE, 5), (A.LE_AX_CTL 9, 1)] : State).reg (A.LE_AX_SP_POS (9 : Fin 24) + 8 * (0 : Fin 5))) := by decide +kernel

theorem test_wit_parametersAndSetPoints_9_4 : ((st [(A.SYS_MODE, 5), (A.LE_AX_CTL 9, 1)] : State).operating = true) ∧ (isCore (.coreS : Writer) = true) ∧ ((st [(A.SYS_MODE, 5), (A.LE_AX_CTL 9, 1)] : State).mode = .run ∨ (st [(A.SYS_MODE, 5), (A.LE_AX_CTL 9, 1)] : State).mode = .safeStop) ∧ (rowWrite false (fieldsAt (A.LE_AX_CTL (9 : Fin 24))) ((st [(A.SYS_MODE, 5), (A.LE_AX_CTL 9, 1)] : State).reg (A.LE_AX_CTL (9 : Fin 24))) (0x4 : Word) ≠ (st [(A.SYS_MODE, 5), (A.LE_AX_CTL 9, 1)] : State).reg (A.LE_AX_CTL (9 : Fin 24))) ∧ (getBits (0x4 : Word) 3 2 ≠ 3) := by decide +kernel

theorem test_wit_tablesAndLearning_1_1 : ((st [(A.SYS_MODE, 3)] : State).operating = true) ∧ (isCore (.coreA 0 false : Writer) = true) ∧ (∀ i : Fin 6, region ((0x09002000 : Nat) + i) = .table ∧ (st [(A.SYS_MODE, 3)] : State).tornAt ((0x09002000 : Nat) + i) = none) ∧ ((st [(A.SYS_MODE, 3)] : State).pageActive (tableAxis (0x09002000 : Nat)) (tablePg (0x09002000 : Nat)) = false) := by decide +kernel

theorem test_wit_tablesAndLearning_3_1 : ((st [(A.SYS_MODE, 3)] : State).operating = true) ∧ (isCore (.coreA 0 false : Writer) = true) ∧ ((8 : BitVec 4).getLsbD (3 : Fin 4) = true) ∧ ((st [(A.SYS_MODE, 3)] : State).sameAs (Tab.find (st [(A.SYS_MODE, 3)] : State).tblWr (4 * (0 : Fin 24) + (3 : Fin 4))) = false) := by decide +kernel

theorem test_wit_tablesAndLearning_4_1 : ((st [(A.SYS_MODE, 3)] : State).operating = true) ∧ (isCore (.coreA 0 false : Writer) = true) ∧ ((8 : BitVec 4).getLsbD (3 : Fin 4) = true) := by decide +kernel

theorem test_wit_tablesAndLearning_6_1 : ((st [(A.SYS_MODE, 3)] : State).operating = true) ∧ (isCore (.coreA 0 false : Writer) = true) ∧ ((st [(A.SYS_MODE, 3)] : State).mode ≠ .run) ∧ ((0x8765432100FE : Word).getLsbD 17 = false) := by decide +kernel

theorem test_wit_tablesAndLearning_1_2 : ((st [(A.SYS_MODE, 3), (A.LE_AX_TBLSTAT 23, 15)] : State).operating = true) ∧ (isCore (.coreA 0 false : Writer) = true) ∧ (∀ i : Fin 6, region ((0x090BDBFA : Nat) + i) = .table ∧ (st [(A.SYS_MODE, 3), (A.LE_AX_TBLSTAT 23, 15)] : State).tornAt ((0x090BDBFA : Nat) + i) = none) ∧ ((st [(A.SYS_MODE, 3), (A.LE_AX_TBLSTAT 23, 15)] : State).pageActive (tableAxis (0x090BDBFA : Nat)) (tablePg (0x090BDBFA : Nat)) = false) := by decide +kernel

theorem test_wit_tablesAndLearning_3_2 : ((st [(A.SYS_MODE, 3), (A.LE_AX_TBLSTAT 23, 15)] : State).operating = true) ∧ (isCore (.coreA 0 false : Writer) = true) ∧ ((1 : BitVec 4).getLsbD (0 : Fin 4) = true) ∧ ((st [(A.SYS_MODE, 3), (A.LE_AX_TBLSTAT 23, 15)] : State).sameAs (Tab.find (st [(A.SYS_MODE, 3), (A.LE_AX_TBLSTAT 23, 15)] : State).tblWr (4 * (23 : Fin 24) + (0 : Fin 4))) = false) := by decide +kernel

theorem test_wit_tablesAndLearning_4_2 : ((st [(A.SYS_MODE, 3), (A.LE_AX_TBLSTAT 23, 15)] : State).operating = true) ∧ (isCore (.coreA 0 false : Writer) = true) ∧ ((1 : BitVec 4).getLsbD (0 : Fin 4) = true) := by decide +kernel

theorem test_wit_tablesAndLearning_6_2 : ((st [(A.SYS_MODE, 3), (A.LE_AX_TBLSTAT 23, 15)] : State).operating = true) ∧ (isCore (.coreA 0 false : Writer) = true) ∧ ((st [(A.SYS_MODE, 3), (A.LE_AX_TBLSTAT 23, 15)] : State).mode ≠ .run) ∧ ((0x8765432100FE : Word).getLsbD 17 = false) := by decide +kernel

theorem test_wit_tablesAndLearning_2_3 : (({ st [(A.SYS_MODE, 5), (A.SYS_READY, 0xFFFFFF), (A.LE_AX_GRAPH 23, 2), (A.LE_LRN_BASE, 0x20000000), (A.LE_LRN_LEN, 1048576), (A.LE_LRN_COUNT, 5)] with learn := ⟨0, true, List.replicate 40 0xA5⟩ } : State).operating = true) ∧ (isCore (.coreS : Writer) = true) ∧ (∀ i : Fin 6, region ((0x09000006 : Nat) + i) = .table) ∧ (({ st [(A.SYS_MODE, 5), (A.SYS_READY, 0xFFFFFF), (A.LE_AX_GRAPH 23, 2), (A.LE_LRN_BASE, 0x20000000), (A.LE_LRN_LEN, 1048576), (A.LE_LRN_COUNT, 5)] with learn := ⟨0, true, List.replicate 40 0xA5⟩ } : State).pageActive (tableAxis (0x09000006 : Nat)) (tablePg (0x09000006 : Nat)) = true) := by decide +kernel

theorem test_wit_tablesAndLearning_5_3 : (({ st [(A.SYS_MODE, 5), (A.SYS_READY, 0xFFFFFF), (A.LE_AX_GRAPH 23, 2), (A.LE_LRN_BASE, 0x20000000), (A.LE_LRN_LEN, 1048576), (A.LE_LRN_COUNT, 5)] with learn := ⟨0, true, List.replicate 40 0xA5⟩ } : State).operating = true) ∧ (isCore (.coreS : Writer) = true) ∧ (({ st [(A.SYS_MODE, 5), (A.SYS_READY, 0xFFFFFF), (A.LE_AX_GRAPH 23, 2), (A.LE_LRN_BASE, 0x20000000), (A.LE_LRN_LEN, 1048576), (A.LE_LRN_COUNT, 5)] with learn := ⟨0, true, List.replicate 40 0xA5⟩ } : State).mode = .run) ∧ (getBits (0xFF17 : Word) 0 5 = (23 : Fin 24).val) ∧ (({ st [(A.SYS_MODE, 5), (A.SYS_READY, 0xFFFFFF), (A.LE_AX_GRAPH 23, 2), (A.LE_LRN_BASE, 0x20000000), (A.LE_LRN_LEN, 1048576), (A.LE_LRN_COUNT, 5)] with learn := ⟨0, true, List.replicate 40 0xA5⟩ } : State).leMode (23 : Fin 24) = 2 ∨ ({ st [(A.SYS_MODE, 5), (A.SYS_READY, 0xFFFFFF), (A.LE_AX_GRAPH 23, 2), (A.LE_LRN_BASE, 0x20000000), (A.LE_LRN_LEN, 1048576), (A.LE_LRN_COUNT, 5)] with learn := ⟨0, true, List.replicate 40 0xA5⟩ } : State).leMode (23 : Fin 24) = 3) ∧ (({ st [(A.SYS_MODE, 5), (A.SYS_READY, 0xFFFFFF), (A.LE_AX_GRAPH 23, 2), (A.LE_LRN_BASE, 0x20000000), (A.LE_LRN_LEN, 1048576), (A.LE_LRN_COUNT, 5)] with learn := ⟨0, true, List.replicate 40 0xA5⟩ } : State).rd F.LE_LRN_BASE_ADDR % 8 = 0) ∧ (0x20000000 ≤ ({ st [(A.SYS_MODE, 5), (A.SYS_READY, 0xFFFFFF), (A.LE_AX_GRAPH 23, 2), (A.LE_LRN_BASE, 0x20000000), (A.LE_LRN_LEN, 1048576), (A.LE_LRN_COUNT, 5)] with learn := ⟨0, true, List.replicate 40 0xA5⟩ } : State).rd F.LE_LRN_BASE_ADDR) ∧ (1 ≤ ({ st [(A.SYS_MODE, 5), (A.SYS_READY, 0xFFFFFF), (A.LE_AX_GRAPH 23, 2), (A.LE_LRN_BASE, 0x20000000), (A.LE_LRN_LEN, 1048576), (A.LE_LRN_COUNT, 5)] with learn := ⟨0, true, List.replicate 40 0xA5⟩ } : State).rd F.LE_LRN_LEN_LEN ∧ ({ st [(A.SYS_MODE, 5), (A.SYS_READY, 0xFFFFFF), (A.LE_AX_GRAPH 23, 2), (A.LE_LRN_BASE, 0x20000000), (A.LE_LRN_LEN, 1048576), (A.LE_LRN_COUNT, 5)] with learn := ⟨0, true, List.replicate 40 0xA5⟩ } : State).rd F.LE_LRN_LEN_LEN ≤ 1048576) ∧ (({ st [(A.SYS_MODE, 5), (A.SYS_READY, 0xFFFFFF), (A.LE_AX_GRAPH 23, 2), (A.LE_LRN_BASE, 0x20000000), (A.LE_LRN_LEN, 1048576), (A.LE_LRN_COUNT, 5)] with learn := ⟨0, true, List.replicate 40 0xA5⟩ } : State).rd F.LE_LRN_BASE_ADDR + 40 * ({ st [(A.SYS_MODE, 5), (A.SYS_READY, 0xFFFFFF), (A.LE_AX_GRAPH 23, 2), (A.LE_LRN_BASE, 0x20000000), (A.LE_LRN_LEN, 1048576), (A.LE_LRN_COUNT, 5)] with learn := ⟨0, true, List.replicate 40 0xA5⟩ } : State).rd F.LE_LRN_LEN_LEN ≤ 0x40000000) ∧ (({ st [(A.SYS_MODE, 5), (A.SYS_READY, 0xFFFFFF), (A.LE_AX_GRAPH 23, 2), (A.LE_LRN_BASE, 0x20000000), (A.LE_LRN_LEN, 1048576), (A.LE_LRN_COUNT, 5)] with learn := ⟨0, true, List.replicate 40 0xA5⟩ } : State).bit F.SYS_READY_DRAM = true) ∧ (({ st [(A.SYS_MODE, 5), (A.SYS_READY, 0xFFFFFF), (A.LE_AX_GRAPH 23, 2), (A.LE_LRN_BASE, 0x20000000), (A.LE_LRN_LEN, 1048576), (A.LE_LRN_COUNT, 5)] with learn := ⟨0, true, List.replicate 40 0xA5⟩ } : State).learnBusy = false) ∧ ((0xFF17 : Word).getLsbD 17 = false) := by decide +kernel

theorem test_wit_tablesAndLearning_7_3 : (({ st [(A.SYS_MODE, 5), (A.SYS_READY, 0xFFFFFF), (A.LE_AX_GRAPH 23, 2), (A.LE_LRN_BASE, 0x20000000), (A.LE_LRN_LEN, 1048576), (A.LE_LRN_COUNT, 5)] with learn := ⟨0, true, List.replicate 40 0xA5⟩ } : State).operating = true) ∧ (isCore (.coreS : Writer) = true) := by decide +kernel

theorem test_wit_tablesAndLearning_8_3 : (({ st [(A.SYS_MODE, 5), (A.SYS_READY, 0xFFFFFF), (A.LE_AX_GRAPH 23, 2), (A.LE_LRN_BASE, 0x20000000), (A.LE_LRN_LEN, 1048576), (A.LE_LRN_COUNT, 5)] with learn := ⟨0, true, List.replicate 40 0xA5⟩ } : State).operating = true) ∧ (isCore (.coreS : Writer) = true) ∧ (({ st [(A.SYS_MODE, 5), (A.SYS_READY, 0xFFFFFF), (A.LE_AX_GRAPH 23, 2), (A.LE_LRN_BASE, 0x20000000), (A.LE_LRN_LEN, 1048576), (A.LE_LRN_COUNT, 5)] with learn := ⟨0, true, List.replicate 40 0xA5⟩ } : State).learn.record.length = 40) ∧ (({ st [(A.SYS_MODE, 5), (A.SYS_READY, 0xFFFFFF), (A.LE_AX_GRAPH 23, 2), (A.LE_LRN_BASE, 0x20000000), (A.LE_LRN_LEN, 1048576), (A.LE_LRN_COUNT, 5)] with learn := ⟨0, true, List.replicate 40 0xA5⟩ } : State).rd F.LE_LRN_COUNT_COUNT < 1048576) ∧ (∀ i : Fin 40, ({ st [(A.SYS_MODE, 5), (A.SYS_READY, 0xFFFFFF), (A.LE_AX_GRAPH 23, 2), (A.LE_LRN_BASE, 0x20000000), (A.LE_LRN_LEN, 1048576), (A.LE_LRN_COUNT, 5)] with learn := ⟨0, true, List.replicate 40 0xA5⟩ } : State).tornAt (({ st [(A.SYS_MODE, 5), (A.SYS_READY, 0xFFFFFF), (A.LE_AX_GRAPH 23, 2), (A.LE_LRN_BASE, 0x20000000), (A.LE_LRN_LEN, 1048576), (A.LE_LRN_COUNT, 5)] with learn := ⟨0, true, List.replicate 40 0xA5⟩ } : State).rd F.LE_LRN_BASE_ADDR + 40 * ({ st [(A.SYS_MODE, 5), (A.SYS_READY, 0xFFFFFF), (A.LE_AX_GRAPH 23, 2), (A.LE_LRN_BASE, 0x20000000), (A.LE_LRN_LEN, 1048576), (A.LE_LRN_COUNT, 5)] with learn := ⟨0, true, List.replicate 40 0xA5⟩ } : State).rd F.LE_LRN_COUNT_COUNT + i) = none) := by decide +kernel

theorem test_wit_positionSensorsCount_1_1 : ((((let x := st [(A.SYS_MODE, 5), (A.PWM_Q_STATUS 5, 1), (A.PWM_Q_PERIOD 5, 9375), (A.TICK_FRAME, 750000), (A.FB_AX_CPE 23, 8000), (A.FB_AX_STAT 23, 1)]; (x.setPort 23 { Port.init with mode := 1, t := 0xFFFFFF, r := 7999 }).setEmu 1 { Emu.init with on := true, left := -2 }) : State).port (23 : Fin 24)).mode = 1) ∧ (quadMove (((let x := st [(A.SYS_MODE, 5), (A.PWM_Q_STATUS 5, 1), (A.PWM_Q_PERIOD 5, 9375), (A.TICK_FRAME, 750000), (A.FB_AX_CPE 23, 8000), (A.FB_AX_STAT 23, 1)]; (x.setPort 23 { Port.init with mode := 1, t := 0xFFFFFF, r := 7999 }).setEmu 1 { Emu.init with on := true, left := -2 }) : State).port (23 : Fin 24)).la (((let x := st [(A.SYS_MODE, 5), (A.PWM_Q_STATUS 5, 1), (A.PWM_Q_PERIOD 5, 9375), (A.TICK_FRAME, 750000), (A.FB_AX_CPE 23, 8000), (A.FB_AX_STAT 23, 1)]; (x.setPort 23 { Port.init with mode := 1, t := 0xFFFFFF, r := 7999 }).setEmu 1 { Emu.init with on := true, left := -2 }) : State).port (23 : Fin 24)).lb (true : Bool) (false : Bool) = (if ((let x := st [(A.SYS_MODE, 5), (A.PWM_Q_STATUS 5, 1), (A.PWM_Q_PERIOD 5, 9375), (A.TICK_FRAME, 750000), (A.FB_AX_CPE 23, 8000), (A.FB_AX_STAT 23, 1)]; (x.setPort 23 { Port.init with mode := 1, t := 0xFFFFFF, r := 7999 }).setEmu 1 { Emu.init with on := true, left := -2 }) : State).inForce (F.FB_AX_CFG_INV (23 : Fin 24)) = 1 then 3 else 1)) ∧ (((let x := st [(A.SYS_MODE, 5), (A.PWM_Q_STATUS 5, 1), (A.PWM_Q_PERIOD 5, 9375), (A.TICK_FRAME, 750000), (A.FB_AX_CPE 23, 8000), (A.FB_AX_STAT 23, 1)]; (x.setPort 23 { Port.init with mode := 1, t := 0xFFFFFF, r := 7999 }).setEmu 1 { Emu.init with on := true, left := -2 }) : State).filterPasses (23 : Fin 24) (((let x := st [(A.SYS_MODE, 5), (A.PWM_Q_STATUS 5, 1), (A.PWM_Q_PERIOD 5, 9375), (A.TICK_FRAME, 750000), (A.FB_AX_CPE 23, 8000), (A.FB_AX_STAT 23, 1)]; (x.setPort 23 { Port.init with mode := 1, t := 0xFFFFFF, r := 7999 }).setEmu 1 { Emu.init with on := true, left := -2 }) : State).port (23 : Fin 24)).aAt = true) ∧ (((let x := st [(A.SYS_MODE, 5), (A.PWM_Q_STATUS 5, 1), (A.PWM_Q_PERIOD 5, 9375), (A.TICK_FRAME, 750000), (A.FB_AX_CPE 23, 8000), (A.FB_AX_STAT 23, 1)]; (x.setPort 23 { Port.init with mode := 1, t := 0xFFFFFF, r := 7999 }).setEmu 1 { Emu.init with on := true, left := -2 }) : State).filterPasses (23 : Fin 24) (((let x := st [(A.SYS_MODE, 5), (A.PWM_Q_STATUS 5, 1), (A.PWM_Q_PERIOD 5, 9375), (A.TICK_FRAME, 750000), (A.FB_AX_CPE 23, 8000), (A.FB_AX_STAT 23, 1)]; (x.setPort 23 { Port.init with mode := 1, t := 0xFFFFFF, r := 7999 }).setEmu 1 { Emu.init with on := true, left := -2 }) : State).port (23 : Fin 24)).bAt = true) := by decide +kernel

theorem test_wit_positionSensorsCount_5_1 : ((((let x := st [(A.SYS_MODE, 5), (A.PWM_Q_STATUS 5, 1), (A.PWM_Q_PERIOD 5, 9375), (A.TICK_FRAME, 750000), (A.FB_AX_CPE 23, 8000), (A.FB_AX_STAT 23, 1)]; (x.setPort 23 { Port.init with mode := 1, t := 0xFFFFFF, r := 7999 }).setEmu 1 { Emu.init with on := true, left := -2 }) : State).port (23 : Fin 24)).mode = 1) ∧ (((let x := st [(A.SYS_MODE, 5), (A.PWM_Q_STATUS 5, 1), (A.PWM_Q_PERIOD 5, 9375), (A.TICK_FRAME, 750000), (A.FB_AX_CPE 23, 8000), (A.FB_AX_STAT 23, 1)]; (x.setPort 23 { Port.init with mode := 1, t := 0xFFFFFF, r := 7999 }).setEmu 1 { Emu.init with on := true, left := -2 }) : State).filterPasses (23 : Fin 24) (((let x := st [(A.SYS_MODE, 5), (A.PWM_Q_STATUS 5, 1), (A.PWM_Q_PERIOD 5, 9375), (A.TICK_FRAME, 750000), (A.FB_AX_CPE 23, 8000), (A.FB_AX_STAT 23, 1)]; (x.setPort 23 { Port.init with mode := 1, t := 0xFFFFFF, r := 7999 }).setEmu 1 { Emu.init with on := true, left := -2 }) : State).port (23 : Fin 24)).zAt = true) ∧ ((true : Bool) ≠ (((let x := st [(A.SYS_MODE, 5), (A.PWM_Q_STATUS 5, 1), (A.PWM_Q_PERIOD 5, 9375), (A.TICK_FRAME, 750000), (A.FB_AX_CPE 23, 8000), (A.FB_AX_STAT 23, 1)]; (x.setPort 23 { Port.init with mode := 1, t := 0xFFFFFF, r := 7999 }).setEmu 1 { Emu.init with on := true, left := -2 }) : State).port (23 : Fin 24)).lz) ∧ ((true : Bool) ≠ (((let x := st [(A.SYS_MODE, 5), (A.PWM_Q_STATUS 5, 1), (A.PWM_Q_PERIOD 5, 9375), (A.TICK_FRAME, 750000), (A.FB_AX_CPE 23, 8000), (A.FB_AX_STAT 23, 1)]; (x.setPort 23 { Port.init with mode := 1, t := 0xFFFFFF, r := 7999 }).setEmu 1 { Emu.init with on := true, left := -2 }) : State).inForce (F.FB_AX_CFG_ZPOL (23 : Fin 24)) == 1)) := by decide +kernel

theorem test_wit_positionSensorsCount_10_1 : (((let x := st [(A.SYS_MODE, 5), (A.PWM_Q_STATUS 5, 1), (A.PWM_Q_PERIOD 5, 9375), (A.TICK_FRAME, 750000), (A.FB_AX_CPE 23, 8000), (A.FB_AX_STAT 23, 1)]; (x.setPort 23 { Port.init with mode := 1, t := 0xFFFFFF, r := 7999 }).setEmu 1 { Emu.init with on := true, left := -2 }) : State).pairUsed (23 : Fin 24) (false : Bool) = true) := by decide +kernel

theorem test_wit_positionSensorsCount_12_1 : (((let x := st [(A.SYS_MODE, 5), (A.PWM_Q_STATUS 5, 1), (A.PWM_Q_PERIOD 5, 9375), (A.TICK_FRAME, 750000), (A.FB_AX_CPE 23, 8000), (A.FB_AX_STAT 23, 1)]; (x.setPort 23 { Port.init with mode := 1, t := 0xFFFFFF, r := 7999 }).setEmu 1 { Emu.init with on := true, left := -2 }) : State).pairUsed (23 : Fin 24) (false : Bool) = true) := by decide +kernel

theorem test_wit_positionSensorsCount_13_1 : (((let x := st [(A.SYS_MODE, 5), (A.PWM_Q_STATUS 5, 1), (A.PWM_Q_PERIOD 5, 9375), (A.TICK_FRAME, 750000), (A.FB_AX_CPE 23, 8000), (A.FB_AX_STAT 23, 1)]; (x.setPort 23 { Port.init with mode := 1, t := 0xFFFFFF, r := 7999 }).setEmu 1 { Emu.init with on := true, left := -2 }) : State).sampling (5 : Fin 6) = true) ∧ ((((let x := st [(A.SYS_MODE, 5), (A.PWM_Q_STATUS 5, 1), (A.PWM_Q_PERIOD 5, 9375), (A.TICK_FRAME, 750000), (A.FB_AX_CPE 23, 8000), (A.FB_AX_STAT 23, 1)]; (x.setPort 23 { Port.init with mode := 1, t := 0xFFFFFF, r := 7999 }).setEmu 1 { Emu.init with on := true, left := -2 }) : State).port (4 * (5 : Fin 6) + (3 : Fin 4))).mode = 1) ∧ ((((let x := st [(A.SYS_MODE, 5), (A.PWM_Q_STATUS 5, 1), (A.PWM_Q_PERIOD 5, 9375), (A.TICK_FRAME, 750000), (A.FB_AX_CPE 23, 8000), (A.FB_AX_STAT 23, 1)]; (x.setPort 23 { Port.init with mode := 1, t := 0xFFFFFF, r := 7999 }).setEmu 1 { Emu.init with on := true, left := -2 }) : State).port (4 * (5 : Fin 6) + (3 : Fin 4))).preset = false) ∧ (((let x := st [(A.SYS_MODE, 5), (A.PWM_Q_STATUS 5, 1), (A.PWM_Q_PERIOD 5, 9375), (A.TICK_FRAME, 750000), (A.FB_AX_CPE 23, 8000), (A.FB_AX_STAT 23, 1)]; (x.setPort 23 { Port.init with mode := 1, t := 0xFFFFFF, r := 7999 }).setEmu 1 { Emu.init with on := true, left := -2 }) : State).bit (F.FB_AX_STAT_POSVALID (4 * (5 : Fin 6) + (3 : Fin 4))) = true) := by decide +kernel

theorem test_wit_positionSensorsCount_14_1 : (((let x := st [(A.SYS_MODE, 5), (A.PWM_Q_STATUS 5, 1), (A.PWM_Q_PERIOD 5, 9375), (A.TICK_FRAME, 750000), (A.FB_AX_CPE 23, 8000), (A.FB_AX_STAT 23, 1)]; (x.setPort 23 { Port.init with mode := 1, t := 0xFFFFFF, r := 7999 }).setEmu 1 { Emu.init with on := true, left := -2 }) : State).emuDrives (1 : Fin 2) = true) ∧ ((((let x := st [(A.SYS_MODE, 5), (A.PWM_Q_STATUS 5, 1), (A.PWM_Q_PERIOD 5, 9375), (A.TICK_FRAME, 750000), (A.FB_AX_CPE 23, 8000), (A.FB_AX_STAT 23, 1)]; (x.setPort 23 { Port.init with mode := 1, t := 0xFFFFFF, r := 7999 }).setEmu 1 { Emu.init with on := true, left := -2 }) : State).emu (1 : Fin 2)).left ≠ 0) := by decide +kernel

theorem test_wit_positionSensorsCount_2_2 : ((((let x := st [(A.SYS_MODE, 3), (A.FB_AX_CPE 0, 4), (A.FB_AX_STAT 0, 1)]; x.setPort 0 { Port.init with mode := 1, seen := 2 }) : State).port (0 : Fin 24)).mode = 1) ∧ (quadMove (((let x := st [(A.SYS_MODE, 3), (A.FB_AX_CPE 0, 4), (A.FB_AX_STAT 0, 1)]; x.setPort 0 { Port.init with mode := 1, seen := 2 }) : State).port (0 : Fin 24)).la (((let x := st [(A.SYS_MODE, 3), (A.FB_AX_CPE 0, 4), (A.FB_AX_STAT 0, 1)]; x.setPort 0 { Port.init with mode := 1, seen := 2 }) : State).port (0 : Fin 24)).lb (false : Bool) (true : Bool) = (if ((let x := st [(A.SYS_MODE, 3), (A.FB_AX_CPE 0, 4), (A.FB_AX_STAT 0, 1)]; x.setPort 0 { Port.init with mode := 1, seen := 2 }) : State).inForce (F.FB_AX_CFG_INV (0 : Fin 24)) = 1 then 1 else 3)) ∧ (((let x := st [(A.SYS_MODE, 3), (A.FB_AX_CPE 0, 4), (A.FB_AX_STAT 0, 1)]; x.setPort 0 { Port.init with mode := 1, seen := 2 }) : State).filterPasses (0 : Fin 24) (((let x := st [(A.SYS_MODE, 3), (A.FB_AX_CPE 0, 4), (A.FB_AX_STAT 0, 1)]; x.setPort 0 { Port.init with mode := 1, seen := 2 }) : State).port (0 : Fin 24)).aAt = true) ∧ (((let x := st [(A.SYS_MODE, 3), (A.FB_AX_CPE 0, 4), (A.FB_AX_STAT 0, 1)]; x.setPort 0 { Port.init with mode := 1, seen := 2 }) : State).filterPasses (0 : Fin 24) (((let x := st [(A.SYS_MODE, 3), (A.FB_AX_CPE 0, 4), (A.FB_AX_STAT 0, 1)]; x.setPort 0 { Port.init with mode := 1, seen := 2 }) : State).port (0 : Fin 24)).bAt = true) := by decide +kernel

theorem test_wit_positionSensorsCount_6_2 : ((((let x := st [(A.SYS_MODE, 3), (A.FB_AX_CPE 0, 4), (A.FB_AX_STAT 0, 1)]; x.setPort 0 { Port.init with mode := 1, seen := 2 }) : State).port (0 : Fin 24)).mode = 1) ∧ ((false : Bool) = (((let x := st [(A.SYS_MODE, 3), (A.FB_AX_CPE 0, 4), (A.FB_AX_STAT 0, 1)]; x.setPort 0 { Port.init with mode := 1, seen := 2 }) : State).inForce (F.FB_AX_CFG_ZPOL (0 : Fin 24)) == 1)) := by decide +kernel

theorem test_wit_positionSensorsCount_10_2 : (((let x := st [(A.SYS_MODE, 3), (A.FB_AX_CPE 0, 4), (A.FB_AX_STAT 0, 1)]; x.setPort 0 { Port.init with mode := 1, seen := 2 }) : State).pairUsed (0 : Fin 24) (true : Bool) = true) := by decide +kernel

theorem test_wit_positionSensorsCount_4_3 : ((((let x := st [(A.SYS_MODE, 3), (A.FB_AX_CPE 0, 4), (A.FB_AX_CFG 0, 0x31)]; x.setPort 0 { Port.init with mode := 1, aAt := some (1000000, 0), bAt := some (999997, 7) }) : State).port (0 : Fin 24)).mode = 1) ∧ (((let x := st [(A.SYS_MODE, 3), (A.FB_AX_CPE 0, 4), (A.FB_AX_CFG 0, 0x31)]; x.setPort 0 { Port.init with mode := 1, aAt := some (1000000, 0), bAt := some (999997, 7) }) : State).filterPasses (0 : Fin 24) (((let x := st [(A.SYS_MODE, 3), (A.FB_AX_CPE 0, 4), (A.FB_AX_CFG 0, 0x31)]; x.setPort 0 { Port.init with mode := 1, aAt := some (1000000, 0), bAt := some (999997, 7) }) : State).port (0 : Fin 24)).aAt = false) ∧ (((let x := st [(A.SYS_MODE, 3), (A.FB_AX_CPE 0, 4), (A.FB_AX_CFG 0, 0x31)]; x.setPort 0 { Port.init with mode := 1, aAt := some (1000000, 0), bAt := some (999997, 7) }) : State).filterPasses (0 : Fin 24) (((let x := st [(A.SYS_MODE, 3), (A.FB_AX_CPE 0, 4), (A.FB_AX_CFG 0, 0x31)]; x.setPort 0 { Port.init with mode := 1, aAt := some (1000000, 0), bAt := some (999997, 7) }) : State).port (0 : Fin 24)).bAt = false) := by decide +kernel

theorem test_wit_positionSensorsCount_11_4 : (((let x := st [(A.SYS_MODE, 3)]; x.setPort 0 { Port.init with mode := 2 }) : State).pairUsed (0 : Fin 24) (true : Bool) = false) := by decide +kernel

theorem test_wit_positionSensorsCount_3_5 : ((((let x := st [(A.SYS_MODE, 3), (A.FB_AX_CPE 0, 4), (A.FB_AX_STAT 0, 1)]; x.setPort 0 { Port.init with mode := 1, seen := 2, r := 3 }) : State).port (0 : Fin 24)).mode = 1) ∧ (quadMove (((let x := st [(A.SYS_MODE, 3), (A.FB_AX_CPE 0, 4), (A.FB_AX_STAT 0, 1)]; x.setPort 0 { Port.init with mode := 1, seen := 2, r := 3 }) : State).port (0 : Fin 24)).la (((let x := st [(A.SYS_MODE, 3), (A.FB_AX_CPE 0, 4), (A.FB_AX_STAT 0, 1)]; x.setPort 0 { Port.init with mode := 1, seen := 2, r := 3 }) : State).port (0 : Fin 24)).lb (true : Bool) (true : Bool) = 2) ∧ (((let x := st [(A.SYS_MODE, 3), (A.FB_AX_CPE 0, 4), (A.FB_AX_STAT 0, 1)]; x.setPort 0 { Port.init with mode := 1, seen := 2, r := 3 }) : State).filterPasses (0 : Fin 24) (((let x := st [(A.SYS_MODE, 3), (A.FB_AX_CPE 0, 4), (A.FB_AX_STAT 0, 1)]; x.setPort 0 { Port.init with mode := 1, seen := 2, r := 3 }) : State).port (0 : Fin 24)).aAt = true) ∧ (((let x := st [(A.SYS_MODE, 3), (A.FB_AX_CPE 0, 4), (A.FB_AX_STAT 0, 1)]; x.setPort 0 { Port.init with mode := 1, seen := 2, r := 3 }) : State).filterPasses (0 : Fin 24) (((let x := st [(A.SYS_MODE, 3), (A.FB_AX_CPE 0, 4), (A.FB_AX_STAT 0, 1)]; x.setPort 0 { Port.init with mode := 1, seen := 2, r := 3 }) : State).port (0 : Fin 24)).bAt = true) ∧ (((let x := st [(A.SYS_MODE, 3), (A.FB_AX_CPE 0, 4), (A.FB_AX_STAT 0, 1)]; x.setPort 0 { Port.init with mode := 1, seen := 2, r := 3 }) : State).rd (F.FB_AX_CNT_QERRCNT (0 : Fin 24)) < 255) := by decide +kernel

theorem test_wit_positionSensorsCount_7_6 : ((((let x := st [(A.SYS_MODE, 3), (A.FB_AX_CFG 9, 0x4002), (A.FB_AX_STAT 9, 1)]; x.setPort 9 { Port.init with mode := 2, sector := some 1 }) : State).port (9 : Fin 24)).mode = 2) ∧ ((2 : BitVec 3).toNat ≠ 0) ∧ ((2 : BitVec 3).toNat ≠ 7) ∧ (((let x := st [(A.SYS_MODE, 3), (A.FB_AX_CFG 9, 0x4002), (A.FB_AX_STAT 9, 1)]; x.setPort 9 { Port.init with mode := 2, sector := some 1 }) : State).filterPasses (9 : Fin 24) (((let x := st [(A.SYS_MODE, 3), (A.FB_AX_CFG 9, 0x4002), (A.FB_AX_STAT 9, 1)]; x.setPort 9 { Port.init with mode := 2, sector := some 1 }) : State).port (9 : Fin 24)).aAt = true) ∧ (((let x := st [(A.SYS_MODE, 3), (A.FB_AX_CFG 9, 0x4002), (A.FB_AX_STAT 9, 1)]; x.setPort 9 { Port.init with mode := 2, sector := some 1 }) : State).filterPasses (9 : Fin 24) (((let x := st [(A.SYS_MODE, 3), (A.FB_AX_CFG 9, 0x4002), (A.FB_AX_STAT 9, 1)]; x.setPort 9 { Port.init with mode := 2, sector := some 1 }) : State).port (9 : Fin 24)).bAt = true) ∧ (((let x := st [(A.SYS_MODE, 3), (A.FB_AX_CFG 9, 0x4002), (A.FB_AX_STAT 9, 1)]; x.setPort 9 { Port.init with mode := 2, sector := some 1 }) : State).filterPasses (9 : Fin 24) (((let x := st [(A.SYS_MODE, 3), (A.FB_AX_CFG 9, 0x4002), (A.FB_AX_STAT 9, 1)]; x.setPort 9 { Port.init with mode := 2, sector := some 1 }) : State).port (9 : Fin 24)).zAt = true) := by decide +kernel

theorem test_wit_positionSensorsCount_9_6 : ((((let x := st [(A.SYS_MODE, 3), (A.FB_AX_CFG 9, 0x4002), (A.FB_AX_STAT 9, 1)]; x.setPort 9 { Port.init with mode := 2, sector := some 1 }) : State).port (9 : Fin 24)).mode = 2) := by decide +kernel

theorem test_wit_positionSensorsCount_8_7 : ((((let x := st [(A.SYS_MODE, 3), (A.FB_AX_CFG 9, 0x4002), (A.FB_AX_STAT 9, 1)]; x.setPort 9 { Port.init with mode := 2, sector := some 1 }) : State).port (9 : Fin 24)).mode = 2) ∧ ((7 : BitVec 3).toNat = 0 ∨ (7 : BitVec 3).toNat = 7) ∧ (((let x := st [(A.SYS_MODE, 3), (A.FB_AX_CFG 9, 0x4002), (A.FB_AX_STAT 9, 1)]; x.setPort 9 { Port.init with mode := 2, sector := some 1 }) : State).filterPasses (9 : Fin 24) (((let x := st [(A.SYS_MODE, 3), (A.FB_AX_CFG 9, 0x4002), (A.FB_AX_STAT 9, 1)]; x.setPort 9 { Port.init with mode := 2, sector := some 1 }) : State).port (9 : Fin 24)).aAt = true) ∧ (((let x := st [(A.SYS_MODE, 3), (A.FB_AX_CFG 9, 0x4002), (A.FB_AX_STAT 9, 1)]; x.setPort 9 { Port.init with mode := 2, sector := some 1 }) : State).filterPasses (9 : Fin 24) (((let x := st [(A.SYS_MODE, 3), (A.FB_AX_CFG 9, 0x4002), (A.FB_AX_STAT 9, 1)]; x.setPort 9 { Port.init with mode := 2, sector := some 1 }) : State).port (9 : Fin 24)).bAt = true) ∧ (((let x := st [(A.SYS_MODE, 3), (A.FB_AX_CFG 9, 0x4002), (A.FB_AX_STAT 9, 1)]; x.setPort 9 { Port.init with mode := 2, sector := some 1 }) : State).filterPasses (9 : Fin 24) (((let x := st [(A.SYS_MODE, 3), (A.FB_AX_CFG 9, 0x4002), (A.FB_AX_STAT 9, 1)]; x.setPort 9 { Port.init with mode := 2, sector := some 1 }) : State).port (9 : Fin 24)).zAt = true) := by decide +kernel

theorem test_wit_positionSensorsCount_9_7 : ((((let x := st [(A.SYS_MODE, 3), (A.FB_AX_CFG 9, 0x4002), (A.FB_AX_STAT 9, 1)]; x.setPort 9 { Port.init with mode := 2, sector := some 1 }) : State).port (9 : Fin 24)).mode = 2) := by decide +kernel

theorem test_wit_serialEncodersAndFeedbackCommands_1_1 : ((((let x := st [(A.SYS_MODE, 3), (A.PWR_SUPCTL, 0xFF), (A.FB_AX_SER 7, 0x2000C319), (A.FB_AX_STAT 7, 0x100000000)]; x.setPort 7 { Port.init with mode := 3, busy := true, ofs := 5 }) : State).port (7 : Fin 24)).mode = 3 ∨ (((let x := st [(A.SYS_MODE, 3), (A.PWR_SUPCTL, 0xFF), (A.FB_AX_SER 7, 0x2000C319), (A.FB_AX_STAT 7, 0x100000000)]; x.setPort 7 { Port.init with mode := 3, busy := true, ofs := 5 }) : State).port (7 : Fin 24)).mode = 4) ∧ (((let x := st [(A.SYS_MODE, 3), (A.PWR_SUPCTL, 0xFF), (A.FB_AX_SER 7, 0x2000C319), (A.FB_AX_STAT 7, 0x100000000)]; x.setPort 7 { Port.init with mode := 3, busy := true, ofs := 5 }) : State).fbFrozen = false) ∧ (((let x := st [(A.SYS_MODE, 3), (A.PWR_SUPCTL, 0xFF), (A.FB_AX_SER 7, 0x2000C319), (A.FB_AX_STAT 7, 0x100000000)]; x.setPort 7 { Port.init with mode := 3, busy := true, ofs := 5 }) : State).bit (F.FB_AX_FLAG_TRIG_ERR (7 : Fin 24)) = false) ∧ ((((let x := st [(A.SYS_MODE, 3), (A.PWR_SUPCTL, 0xFF), (A.FB_AX_SER 7, 0x2000C319), (A.FB_AX_STAT 7, 0x100000000)]; x.setPort 7 { Port.init with mode := 3, busy := true, ofs := 5 }) : State).port (7 : Fin 24)).mode = 4 ∨ ((let x := st [(A.SYS_MODE, 3), (A.PWR_SUPCTL, 0xFF), (A.FB_AX_SER 7, 0x2000C319), (A.FB_AX_STAT 7, 0x100000000)]; x.setPort 7 { Port.init with mode := 3, busy := true, ofs := 5 }) : State).serOk (7 : Fin 24) = true) ∧ (((let x := st [(A.SYS_MODE, 3), (A.PWR_SUPCTL, 0xFF), (A.FB_AX_SER 7, 0x2000C319), (A.FB_AX_STAT 7, 0x100000000)]; x.setPort 7 { Port.init with mode := 3, busy := true, ofs := 5 }) : State).encOn ((7 : Fin 24) / 4) = true) := by decide +kernel

theorem test_wit_serialEncodersAndFeedbackCommands_2_1 : ((((let x := st [(A.SYS_MODE, 3), (A.PWR_SUPCTL, 0xFF), (A.FB_AX_SER 7, 0x2000C319), (A.FB_AX_STAT 7, 0x100000000)]; x.setPort 7 { Port.init with mode := 3, busy := true, ofs := 5 }) : State).port (7 : Fin 24)).mode = 3) ∧ ((((let x := st [(A.SYS_MODE, 3), (A.PWR_SUPCTL, 0xFF), (A.FB_AX_SER 7, 0x2000C319), (A.FB_AX_STAT 7, 0x100000000)]; x.setPort 7 { Port.init with mode := 3, busy := true, ofs := 5 }) : State).port (7 : Fin 24)).busy = true) ∧ (((let x := st [(A.SYS_MODE, 3), (A.PWR_SUPCTL, 0xFF), (A.FB_AX_SER 7, 0x2000C319), (A.FB_AX_STAT 7, 0x100000000)]; x.setPort 7 { Port.init with mode := 3, busy := true, ofs := 5 }) : State).rd (F.FB_AX_CNT_SERERRCNT (7 : Fin 24)) < 255) := by decide +kernel

theorem test_wit_serialEncodersAndFeedbackCommands_3_1 : ((((let x := st [(A.SYS_MODE, 3), (A.PWR_SUPCTL, 0xFF), (A.FB_AX_SER 7, 0x2000C319), (A.FB_AX_STAT 7, 0x100000000)]; x.setPort 7 { Port.init with mode := 3, busy := true, ofs := 5 }) : State).port (7 : Fin 24)).mode = 3) ∧ ((((let x := st [(A.SYS_MODE, 3), (A.PWR_SUPCTL, 0xFF), (A.FB_AX_SER 7, 0x2000C319), (A.FB_AX_STAT 7, 0x100000000)]; x.setPort 7 { Port.init with mode := 3, busy := true, ofs := 5 }) : State).port (7 : Fin 24)).busy = true) ∧ ((((let x := st [(A.SYS_MODE, 3), (A.PWR_SUPCTL, 0xFF), (A.FB_AX_SER 7, 0x2000C319), (A.FB_AX_STAT 7, 0x100000000)]; x.setPort 7 { Port.init with mode := 3, busy := true, ofs := 5 }) : State).port (7 : Fin 24)).prevA = none) ∧ (((let x := st [(A.SYS_MODE, 3), (A.PWR_SUPCTL, 0xFF), (A.FB_AX_SER 7, 0x2000C319), (A.FB_AX_STAT 7, 0x100000000)]; x.setPort 7 { Port.init with mode := 3, busy := true, ofs := 5 }) : State).encOn ((7 : Fin 24) / 4) = true) := by decide +kernel

theorem test_wit_serialEncodersAndFeedbackCommands_8_1 : (((let x := st [(A.SYS_MODE, 3), (A.PWR_SUPCTL, 0xFF), (A.FB_AX_SER 7, 0x2000C319), (A.FB_AX_STAT 7, 0x100000000)]; x.setPort 7 { Port.init with mode := 3, busy := true, ofs := 5 }) : State).operating = true) ∧ (isCore (.coreA 0 false : Writer) = true) := by decide +kernel

theorem test_wit_serialEncodersAndFeedbackCommands_9_1 : (((let x := st [(A.SYS_MODE, 3), (A.PWR_SUPCTL, 0xFF), (A.FB_AX_SER 7, 0x2000C319), (A.FB_AX_STAT 7, 0x100000000)]; x.setPort 7 { Port.init with mode := 3, busy := true, ofs := 5 }) : State).operating = true) ∧ (isCore (.coreA 0 false : Writer) = true) ∧ (((((let x := st [(A.SYS_MODE, 3), (A.PWR_SUPCTL, 0xFF), (A.FB_AX_SER 7, 0x2000C319), (A.FB_AX_STAT 7, 0x100000000)]; x.setPort 7 { Port.init with mode := 3, busy := true, ofs := 5 }) : State).port (7 : Fin 24)).mode == 4 && (((let x := st [(A.SYS_MODE, 3), (A.PWR_SUPCTL, 0xFF), (A.FB_AX_SER 7, 0x2000C319), (A.FB_AX_STAT 7, 0x100000000)]; x.setPort 7 { Port.init with mode := 3, busy := true, ofs := 5 }) : State).port (7 : Fin 24)).busy && ((let x := st [(A.SYS_MODE, 3), (A.PWR_SUPCTL, 0xFF), (A.FB_AX_SER 7, 0x2000C319), (A.FB_AX_STAT 7, 0x100000000)]; x.setPort 7 { Port.init with mode := 3, busy := true, ofs := 5 }) : State).sameAs (((let x := st [(A.SYS_MODE, 3), (A.PWR_SUPCTL, 0xFF), (A.FB_AX_SER 7, 0x2000C319), (A.FB_AX_STAT 7, 0x100000000)]; x.setPort 7 { Port.init with mode := 3, busy := true, ofs := 5 }) : State).port (7 : Fin 24)).trigAt) = false) := by decide +kernel

theorem test_wit_serialEncodersAndFeedbackCommands_10_1 : (((let x := st [(A.SYS_MODE, 3), (A.PWR_SUPCTL, 0xFF), (A.FB_AX_SER 7, 0x2000C319), (A.FB_AX_STAT 7, 0x100000000)]; x.setPort 7 { Port.init with mode := 3, busy := true, ofs := 5 }) : State).operating = true) ∧ (isCore (.coreA 0 false : Writer) = true) ∧ (((((let x := st [(A.SYS_MODE, 3), (A.PWR_SUPCTL, 0xFF), (A.FB_AX_SER 7, 0x2000C319), (A.FB_AX_STAT 7, 0x100000000)]; x.setPort 7 { Port.init with mode := 3, busy := true, ofs := 5 }) : State).port (7 : Fin 24)).mode == 4 && (((let x := st [(A.SYS_MODE, 3), (A.PWR_SUPCTL, 0xFF), (A.FB_AX_SER 7, 0x2000C319), (A.FB_AX_STAT 7, 0x100000000)]; x.setPort 7 { Port.init with mode := 3, busy := true, ofs := 5 }) : State).port (7 : Fin 24)).busy && ((let x := st [(A.SYS_MODE, 3), (A.PWR_SUPCTL, 0xFF), (A.FB_AX_SER 7, 0x2000C319), (A.FB_AX_STAT 7, 0x100000000)]; x.setPort 7 { Port.init with mode := 3, busy := true, ofs := 5 }) : State).sameAs (((let x := st [(A.SYS_MODE, 3), (A.PWR_SUPCTL, 0xFF), (A.FB_AX_SER 7, 0x2000C319), (A.FB_AX_STAT 7, 0x100000000)]; x.setPort 7 { Port.init with mode := 3, busy := true, ofs := 5 }) : State).port (7 : Fin 24)).trigAt) = false) := by decide +kernel

theorem test_wit_serialEncodersAndFeedbackCommands_11_1 : (((let x := st [(A.SYS_MODE, 3), (A.PWR_SUPCTL, 0xFF), (A.FB_AX_SER 7, 0x2000C319), (A.FB_AX_STAT 7, 0x100000000)]; x.setPort 7 { Port.init with mode := 3, busy := true, ofs := 5 }) : State).operating = true) ∧ (isCore (.coreA 0 false : Writer) = true) := by decide +kernel

theorem test_wit_serialEncodersAndFeedbackCommands_12_1 : (((let x := st [(A.SYS_MODE, 3), (A.PWR_SUPCTL, 0xFF), (A.FB_AX_SER 7, 0x2000C319), (A.FB_AX_STAT 7, 0x100000000)]; x.setPort 7 { Port.init with mode := 3, busy := true, ofs := 5 }) : State).operating = true) ∧ (isCore (.coreA 0 false : Writer) = true) := by decide +kernel

theorem test_wit_serialEncodersAndFeedbackCommands_13_1 : (((let x := st [(A.SYS_MODE, 3), (A.PWR_SUPCTL, 0xFF), (A.FB_AX_SER 7, 0x2000C319), (A.FB_AX_STAT 7, 0x100000000)]; x.setPort 7 { Port.init with mode := 3, busy := true, ofs := 5 }) : State).operating = true) ∧ (isCore (.coreS : Writer) = true) ∧ (((let x := st [(A.SYS_MODE, 3), (A.PWR_SUPCTL, 0xFF), (A.FB_AX_SER 7, 0x2000C319), (A.FB_AX_STAT 7, 0x100000000)]; x.setPort 7 { Port.init with mode := 3, busy := true, ofs := 5 }) : State).thisCycle (((let x := st [(A.SYS_MODE, 3), (A.PWR_SUPCTL, 0xFF), (A.FB_AX_SER 7, 0x2000C319), (A.FB_AX_STAT 7, 0x100000000)]; x.setPort 7 { Port.init with mode := 3, busy := true, ofs := 5 }) : State).port (7 : Fin 24)).setAt = false) := by decide +kernel

theorem test_wit_serialEncodersAndFeedbackCommands_15_1 : (((let x := st [(A.SYS_MODE, 3), (A.PWR_SUPCTL, 0xFF), (A.FB_AX_SER 7, 0x2000C319), (A.FB_AX_STAT 7, 0x100000000)]; x.setPort 7 { Port.init with mode := 3, busy := true, ofs := 5 }) : State).operating = true) ∧ (isCore (.coreA 0 false : Writer) = true) ∧ (((let x := st [(A.SYS_MODE, 3), (A.PWR_SUPCTL, 0xFF), (A.FB_AX_SER 7, 0x2000C319), (A.FB_AX_STAT 7, 0x100000000)]; x.setPort 7 { Port.init with mode := 3, busy := true, ofs := 5 }) : State).mode = .standby) ∧ (rowInRange (fieldsAt (fbCfgAddr (7 : Fin 24) (3 : Fin 5))) (0xC00 : Word) = true) := by decide +kernel

theorem test_wit_serialEncodersAndFeedbackCommands_18_1 : (((let x := st [(A.SYS_MODE, 3), (A.PWR_SUPCTL, 0xFF), (A.FB_AX_SER 7, 0x2000C319), (A.FB_AX_STAT 7, 0x100000000)]; x.setPort 7 { Port.init with mode := 3, busy := true, ofs := 5 }) : State).operating = true) ∧ (isCore (.coreA 0 false : Writer) = true) ∧ (((let x := st [(A.SYS_MODE, 3), (A.PWR_SUPCTL, 0xFF), (A.FB_AX_SER 7, 0x2000C319), (A.FB_AX_STAT 7, 0x100000000)]; x.setPort 7 { Port.init with mode := 3, busy := true, ofs := 5 }) : State).mode = .standby ∨ ((let x := st [(A.SYS_MODE, 3), (A.PWR_SUPCTL, 0xFF), (A.FB_AX_SER 7, 0x2000C319), (A.FB_AX_STAT 7, 0x100000000)]; x.setPort 7 { Port.init with mode := 3, busy := true, ofs := 5 }) : State).mode = .armed ∨ ((let x := st [(A.SYS_MODE, 3), (A.PWR_SUPCTL, 0xFF), (A.FB_AX_SER 7, 0x2000C319), (A.FB_AX_STAT 7, 0x100000000)]; x.setPort 7 { Port.init with mode := 3, busy := true, ofs := 5 }) : State).mode = .run) ∧ (rowInRange (fieldsAt (A.FB_EMU_CTL (1 : Fin 2))) (0xC00 : Word) = true) := by decide +kernel

theorem test_wit_serialEncodersAndFeedbackCommands_1_2 : ((((let x := st [(A.SYS_MODE, 5), (A.PWR_SUPCTL, 0xFF), (A.FB_AX_STAT 0, 1)]; x.setPort 0 { Port.init with mode := 4, busy := true, nextCmd := 2 }) : State).port (0 : Fin 24)).mode = 3 ∨ (((let x := st [(A.SYS_MODE, 5), (A.PWR_SUPCTL, 0xFF), (A.FB_AX_STAT 0, 1)]; x.setPort 0 { Port.init with mode := 4, busy := true, nextCmd := 2 }) : State).port (0 : Fin 24)).mode = 4) ∧ (((let x := st [(A.SYS_MODE, 5), (A.PWR_SUPCTL, 0xFF), (A.FB_AX_STAT 0, 1)]; x.setPort 0 { Port.init with mode := 4, busy := true, nextCmd := 2 }) : State).fbFrozen = false) ∧ (((let x := st [(A.SYS_MODE, 5), (A.PWR_SUPCTL, 0xFF), (A.FB_AX_STAT 0, 1)]; x.setPort 0 { Port.init with mode := 4, busy := true, nextCmd := 2 }) : State).bit (F.FB_AX_FLAG_TRIG_ERR (0 : Fin 24)) = false) ∧ ((((let x := st [(A.SYS_MODE, 5), (A.PWR_SUPCTL, 0xFF), (A.FB_AX_STAT 0, 1)]; x.setPort 0 { Port.init with mode := 4, busy := true, nextCmd := 2 }) : State).port (0 : Fin 24)).mode = 4 ∨ ((let x := st [(A.SYS_MODE, 5), (A.PWR_SUPCTL, 0xFF), (A.FB_AX_STAT 0, 1)]; x.setPort 0 { Port.init with mode := 4, busy := true, nextCmd := 2 }) : State).serOk (0 : Fin 24) = true) ∧ (((let x := st [(A.SYS_MODE, 5), (A.PWR_SUPCTL, 0xFF), (A.FB_AX_STAT 0, 1)]; x.setPort 0 { Port.init with mode := 4, busy := true, nextCmd := 2 }) : State).encOn ((0 : Fin 24) / 4) = true) := by decide +kernel

theorem test_wit_serialEncodersAndFeedbackCommands_4_2 : ((((let x := st [(A.SYS_MODE, 5), (A.PWR_SUPCTL, 0xFF), (A.FB_AX_STAT 0, 1)]; x.setPort 0 { Port.init with mode := 4, busy := true, nextCmd := 2 }) : State).port (0 : Fin 24)).mode = 4) ∧ ((((let x := st [(A.SYS_MODE, 5), (A.PWR_SUPCTL, 0xFF), (A.FB_AX_STAT 0, 1)]; x.setPort 0 { Port.init with mode := 4, busy := true, nextCmd := 2 }) : State).port (0 : Fin 24)).busy = true) ∧ (([0x80, 1, 2, 3, 4, 5, BitVec.ofNat 8 (crc8 [0x80, 1, 2, 3, 4, 5])] : List Byte).length = 7) ∧ (crc8 (([0x80, 1, 2, 3, 4, 5, BitVec.ofNat 8 (crc8 [0x80, 1, 2, 3, 4, 5])] : List Byte).take 6) = (([0x80, 1, 2, 3, 4, 5, BitVec.ofNat 8 (crc8 [0x80, 1, 2, 3, 4, 5])] : List Byte).getD 6 0).toNat) ∧ ((([0x80, 1, 2, 3, 4, 5, BitVec.ofNat 8 (crc8 [0x80, 1, 2, 3, 4, 5])] : List Byte).getD 0 0).getLsbD 7 = true) := by decide +kernel

theorem test_wit_serialEncodersAndFeedbackCommands_6_2 : ((((let x := st [(A.SYS_MODE, 5), (A.PWR_SUPCTL, 0xFF), (A.FB_AX_STAT 0, 1)]; x.setPort 0 { Port.init with mode := 4, busy := true, nextCmd := 2 }) : State).port (0 : Fin 24)).mode = 4) ∧ ((((let x := st [(A.SYS_MODE, 5), (A.PWR_SUPCTL, 0xFF), (A.FB_AX_STAT 0, 1)]; x.setPort 0 { Port.init with mode := 4, busy := true, nextCmd := 2 }) : State).port (0 : Fin 24)).busy = true) := by decide +kernel

theorem test_wit_serialEncodersAndFeedbackCommands_7_2 : ((((let x := st [(A.SYS_MODE, 5), (A.PWR_SUPCTL, 0xFF), (A.FB_AX_STAT 0, 1)]; x.setPort 0 { Port.init with mode := 4, busy := true, nextCmd := 2 }) : State).port (0 : Fin 24)).mode = 4) ∧ ((((let x := st [(A.SYS_MODE, 5), (A.PWR_SUPCTL, 0xFF), (A.FB_AX_STAT 0, 1)]; x.setPort 0 { Port.init with mode := 4, busy := true, nextCmd := 2 }) : State).port (0 : Fin 24)).busy = true) ∧ (((let x := st [(A.SYS_MODE, 5), (A.PWR_SUPCTL, 0xFF), (A.FB_AX_STAT 0, 1)]; x.setPort 0 { Port.init with mode := 4, busy := true, nextCmd := 2 }) : State).rd (F.FB_AX_CNT_SERERRCNT (0 : Fin 24)) < 255) := by decide +kernel

theorem test_wit_serialEncodersAndFeedbackCommands_11_2 : (((let x := st [(A.SYS_MODE, 5), (A.PWR_SUPCTL, 0xFF), (A.FB_AX_STAT 0, 1)]; x.setPort 0 { Port.init with mode := 4, busy := true, nextCmd := 2 }) : State).operating = true) ∧ (isCore (.coreA 0 false : Writer) = true) := by decide +kernel

theorem test_wit_serialEncodersAndFeedbackCommands_5_3 : ((((let x := st [(A.SYS_MODE, 4), (A.PWR_SUPCTL, 0xFF), (A.FB_AX_STAT 0, 1)]; x.setPort 0 { Port.init with mode := 4, busy := true, sent := 1 }) : State).port (0 : Fin 24)).mode = 4) ∧ ((((let x := st [(A.SYS_MODE, 4), (A.PWR_SUPCTL, 0xFF), (A.FB_AX_STAT 0, 1)]; x.setPort 0 { Port.init with mode := 4, busy := true, sent := 1 }) : State).port (0 : Fin 24)).busy = true) ∧ (([0x00, 1, 2, 3, 4, 5, BitVec.ofNat 8 (crc8 [0x00, 1, 2, 3, 4, 5])] : List Byte).length = 7) ∧ (crc8 (([0x00, 1, 2, 3, 4, 5, BitVec.ofNat 8 (crc8 [0x00, 1, 2, 3, 4, 5])] : List Byte).take 6) = (([0x00, 1, 2, 3, 4, 5, BitVec.ofNat 8 (crc8 [0x00, 1, 2, 3, 4, 5])] : List Byte).getD 6 0).toNat) ∧ ((([0x00, 1, 2, 3, 4, 5, BitVec.ofNat 8 (crc8 [0x00, 1, 2, 3, 4, 5])] : List Byte).getD 0 0).getLsbD 7 = false) ∧ ((((let x := st [(A.SYS_MODE, 4), (A.PWR_SUPCTL, 0xFF), (A.FB_AX_STAT 0, 1)]; x.setPort 0 { Port.init with mode := 4, busy := true, sent := 1 }) : State).port (0 : Fin 24)).sent = 1) := by decide +kernel

theorem test_wit_serialEncodersAndFeedbackCommands_11_3 : (((let x := st [(A.SYS_MODE, 4), (A.PWR_SUPCTL, 0xFF), (A.FB_AX_STAT 0, 1)]; x.setPort 0 { Port.init with mode := 4, busy := true, sent := 1 }) : State).operating = true) ∧ (isCore (.coreA 0 false : Writer) = true) := by decide +kernel

theorem test_wit_serialEncodersAndFeedbackCommands_17_3 : (((let x := st [(A.SYS_MODE, 4), (A.PWR_SUPCTL, 0xFF), (A.FB_AX_STAT 0, 1)]; x.setPort 0 { Port.init with mode := 4, busy := true, sent := 1 }) : State).operating = true) ∧ (isCore (.coreA 0 false : Writer) = true) ∧ (((let x := st [(A.SYS_MODE, 4), (A.PWR_SUPCTL, 0xFF), (A.FB_AX_STAT 0, 1)]; x.setPort 0 { Port.init with mode := 4, busy := true, sent := 1 }) : State).mode ≠ .standby) ∧ (rowWrite false (fieldsAt (fbCfgAddr (0 : Fin 24) (4 : Fin 5))) (((let x := st [(A.SYS_MODE, 4), (A.PWR_SUPCTL, 0xFF), (A.FB_AX_STAT 0, 1)]; x.setPort 0 { Port.init with mode := 4, busy := true, sent := 1 }) : State).reg (fbCfgAddr (0 : Fin 24) (4 : Fin 5))) (0xC00 : Word) ≠ ((let x := st [(A.SYS_MODE, 4), (A.PWR_SUPCTL, 0xFF), (A.FB_AX_STAT 0, 1)]; x.setPort 0 { Port.init with mode := 4, busy := true, sent := 1 }) : State).reg (fbCfgAddr (0 : Fin 24) (4 : Fin 5))) := by decide +kernel

theorem test_wit_serialEncodersAndFeedbackCommands_14_4 : (((let x := st [(A.SYS_MODE, 3)]; x.setPort 7 { Port.init with setAt := some (1000000, 3), shown := [9, 8, 7] }) : State).operating = true) ∧ (isCore (.coreS : Writer) = true) ∧ (((let x := st [(A.SYS_MODE, 3)]; x.setPort 7 { Port.init with setAt := some (1000000, 3), shown := [9, 8, 7] }) : State).thisCycle (((let x := st [(A.SYS_MODE, 3)]; x.setPort 7 { Port.init with setAt := some (1000000, 3), shown := [9, 8, 7] }) : State).port (7 : Fin 24)).setAt = true) := by decide +kernel

theorem test_wit_serialEncodersAndFeedbackCommands_16_4 : (((let x := st [(A.SYS_MODE, 3)]; x.setPort 7 { Port.init with setAt := some (1000000, 3), shown := [9, 8, 7] }) : State).operating = true) ∧ (isCore (.coreA 0 false : Writer) = true) ∧ (((let x := st [(A.SYS_MODE, 3)]; x.setPort 7 { Port.init with setAt := some (1000000, 3), shown := [9, 8, 7] }) : State).mode = .standby) ∧ (rowInRange (fieldsAt (fbCfgAddr (7 : Fin 24) (0 : Fin 5))) (0x7 : Word) = false) ∧ ((0 : Fin 5) ≠ 2) := by decide +kernel

theorem test_wit_serialEncodersAndFeedbackCommands_12_5 : (((let x := st [(A.SYS_MODE, 5), (A.PWR_SUPCTL, 0xFF), (A.FB_AX_STAT 7, 0x300000000)]; x.setPort 7 { Port.init with mode := 1 }) : State).operating = true) ∧ (isCore (.coreA 0 false : Writer) = true) := by decide +kernel

theorem test_wit_serialEncodersAndFeedbackCommands_11_6 : (((let x := st [(A.SYS_MODE, 6)]; x.setPort 7 { Port.init with mode := 1 }) : State).operating = true) ∧ (isCore (.coreA 0 false : Writer) = true) := by decide +kernel

theorem test_wit_serialEncodersAndFeedbackCommands_19_6 : (((let x := st [(A.SYS_MODE, 6)]; x.setPort 7 { Port.init with mode := 1 }) : State).operating = true) ∧ (isCore (.coreA 0 false : Writer) = true) ∧ (((let x := st [(A.SYS_MODE, 6)]; x.setPort 7 { Port.init with mode := 1 }) : State).mode = .safeStop) ∧ (rowWrite false (fieldsAt (A.FB_EMU_CTL (0 : Fin 2))) (((let x := st [(A.SYS_MODE, 6)]; x.setPort 7 { Port.init with mode := 1 }) : State).reg (A.FB_EMU_CTL (0 : Fin 2))) (0xC2E : Word) ≠ ((let x := st [(A.SYS_MODE, 6)]; x.setPort 7 { Port.init with mode := 1 }) : State).reg (A.FB_EMU_CTL (0 : Fin 2))) := by decide +kernel

theorem test_wit_registerInstructionsCompute_1_1 : ((run (st [(A.SYS_MODE, 5)]) 0 [(1, 0x800000000000), (2, 0xFFFFFFFFFFFF)] : State).atInstruction (0 : Fin 5) = true) ∧ (regs3 (⟨1, 1, 2, 0⟩ : Fields) = true) ∧ ((⟨1, 1, 2, 0⟩ : Fields).imm = 0) := by decide +kernel

theorem test_wit_registerInstructionsCompute_2_1 : ((run (st [(A.SYS_MODE, 5)]) 0 [(1, 0x800000000000), (2, 0xFFFFFFFFFFFF)] : State).atInstruction (0 : Fin 5) = true) ∧ (regs3 (⟨1, 1, 2, 0⟩ : Fields) = true) ∧ ((⟨1, 1, 2, 0⟩ : Fields).imm = 0) := by decide +kernel

theorem test_wit_registerInstructionsCompute_3_1 : ((run (st [(A.SYS_MODE, 5)]) 0 [(1, 0x800000000000), (2, 0xFFFFFFFFFFFF)] : State).atInstruction (0 : Fin 5) = true) ∧ (regs3 (⟨1, 1, 2, 0⟩ : Fields) = true) ∧ ((⟨1, 1, 2, 0⟩ : Fields).imm = 0) := by decide +kernel

theorem test_wit_registerInstructionsCompute_4_1 : ((run (st [(A.SYS_MODE, 5)]) 0 [(1, 0x800000000000), (2, 0xFFFFFFFFFFFF)] : State).atInstruction (0 : Fin 5) = true) ∧ (regs3 (⟨1, 1, 2, 0⟩ : Fields) = true) ∧ ((⟨1, 1, 2, 0⟩ : Fields).imm = 0) := by decide +kernel

theorem test_wit_registerInstructionsCompute_5_1 : ((run (st [(A.SYS_MODE, 5)]) 0 [(1, 0x800000000000), (2, 0xFFFFFFFFFFFF)] : State).atInstruction (0 : Fin 5) = true) ∧ (regs3 (⟨1, 1, 2, 0⟩ : Fields) = true) ∧ ((⟨1, 1, 2, 0⟩ : Fields).imm = 0) := by decide +kernel

theorem test_wit_registerInstructionsCompute_6_1 : ((run (st [(A.SYS_MODE, 5)]) 0 [(1, 0x800000000000), (2, 0xFFFFFFFFFFFF)] : State).atInstruction (0 : Fin 5) = true) ∧ (regs3 (⟨1, 1, 2, 0⟩ : Fields) = true) ∧ ((⟨1, 1, 2, 0⟩ : Fields).imm = 0) := by decide +kernel

theorem test_wit_registerInstructionsCompute_7_1 : ((run (st [(A.SYS_MODE, 5)]) 0 [(1, 0x800000000000), (2, 0xFFFFFFFFFFFF)] : State).atInstruction (0 : Fin 5) = true) ∧ (regs3 (⟨1, 1, 2, 0⟩ : Fields) = true) ∧ ((⟨1, 1, 2, 0⟩ : Fields).imm = 0) := by decide +kernel

theorem test_wit_registerInstructionsCompute_8_1 : ((run (st [(A.SYS_MODE, 5)]) 0 [(1, 0x800000000000), (2, 0xFFFFFFFFFFFF)] : State).atInstruction (0 : Fin 5) = true) ∧ (regs3 (⟨1, 1, 2, 0⟩ : Fields) = true) ∧ ((⟨1, 1, 2, 0⟩ : Fields).imm = 0) := by decide +kernel

theorem test_wit_registerInstructionsCompute_9_1 : ((run (st [(A.SYS_MODE, 5)]) 0 [(1, 0x800000000000), (2, 0xFFFFFFFFFFFF)] : State).atInstruction (0 : Fin 5) = true) ∧ (regs3 (⟨1, 1, 2, 0⟩ : Fields) = true) ∧ ((⟨1, 1, 2, 0⟩ : Fields).imm = 0) := by decide +kernel

theorem test_wit_registerInstructionsCompute_10_1 : ((run (st [(A.SYS_MODE, 5)]) 0 [(1, 0x800000000000), (2, 0xFFFFFFFFFFFF)] : State).atInstruction (0 : Fin 5) = true) ∧ (regs3 (⟨1, 1, 2, 0⟩ : Fields) = true) ∧ ((⟨1, 1, 2, 0⟩ : Fields).imm = 0) := by decide +kernel

theorem test_wit_registerInstructionsCompute_11_1 : ((run (st [(A.SYS_MODE, 5)]) 0 [(1, 0x800000000000), (2, 0xFFFFFFFFFFFF)] : State).atInstruction (0 : Fin 5) = true) ∧ (regs3 (⟨1, 1, 2, 0⟩ : Fields) = true) ∧ ((⟨1, 1, 2, 0⟩ : Fields).imm = 0) := by decide +kernel

theorem test_wit_registerInstructionsCompute_12_1 : ((run (st [(A.SYS_MODE, 5)]) 0 [(1, 0x800000000000), (2, 0xFFFFFFFFFFFF)] : State).atInstruction (0 : Fin 5) = true) ∧ (regs3 (⟨1, 1, 2, 0⟩ : Fields) = true) ∧ ((⟨1, 1, 2, 0⟩ : Fields).imm = 0) := by decide +kernel

theorem test_wit_registerInstructionsCompute_13_1 : ((run (st [(A.SYS_MODE, 5)]) 0 [(1, 0x800000000000), (2, 0xFFFFFFFFFFFF)] : State).atInstruction (0 : Fin 5) = true) ∧ (regs3 (⟨1, 1, 2, 0⟩ : Fields) = true) ∧ ((⟨1, 1, 2, 0⟩ : Fields).imm = 0) := by decide +kernel

theorem test_wit_registerInstructionsCompute_14_1 : ((run (st [(A.SYS_MODE, 5)]) 0 [(1, 0x800000000000), (2, 0xFFFFFFFFFFFF)] : State).atInstruction (0 : Fin 5) = true) ∧ (regs3 (⟨1, 1, 2, 0⟩ : Fields) = true) ∧ ((⟨1, 1, 2, 0⟩ : Fields).imm = 0) := by decide +kernel

theorem test_wit_registerInstructionsCompute_15_1 : ((run (st [(A.SYS_MODE, 5)]) 0 [(1, 0x800000000000), (2, 0xFFFFFFFFFFFF)] : State).atInstruction (0 : Fin 5) = true) ∧ (regs3 (⟨1, 1, 2, 0⟩ : Fields) = true) ∧ ((⟨1, 1, 2, 0⟩ : Fields).imm = 0) := by decide +kernel

theorem test_wit_registerInstructionsCompute_16_1 : ((run (st [(A.SYS_MODE, 5)]) 0 [(1, 0x800000000000), (2, 0xFFFFFFFFFFFF)] : State).atInstruction (0 : Fin 5) = true) ∧ (regs3 (⟨1, 1, 2, 0⟩ : Fields) = true) ∧ ((⟨1, 1, 2, 0⟩ : Fields).imm = 0) := by decide +kernel

theorem test_wit_registerInstructionsCompute_17_1 : ((run (st [(A.SYS_MODE, 5)]) 0 [(1, 0x800000000000), (2, 0xFFFFFFFFFFFF)] : State).atInstruction (0 : Fin 5) = true) ∧ (regs3 (⟨1, 1, 2, 0⟩ : Fields) = true) ∧ ((⟨1, 1, 2, 0⟩ : Fields).imm = 0) := by decide +kernel

theorem test_wit_registerInstructionsCompute_18_1 : ((run (st [(A.SYS_MODE, 5)]) 0 [(1, 0x800000000000), (2, 0xFFFFFFFFFFFF)] : State).atInstruction (0 : Fin 5) = true) ∧ (regs3 (⟨1, 1, 2, 0⟩ : Fields) = true) ∧ ((⟨1, 1, 2, 0⟩ : Fields).imm = 0) := by decide +kernel

theorem test_wit_registerInstructionsCompute_19_1 : ((run (st [(A.SYS_MODE, 5)]) 0 [(1, 0x800000000000), (2, 0xFFFFFFFFFFFF)] : State).atInstruction (0 : Fin 5) = true) ∧ (regs3 (⟨1, 1, 2, 0⟩ : Fields) = true) ∧ ((⟨1, 1, 2, 0⟩ : Fields).imm = 0) := by decide +kernel

theorem test_wit_registerInstructionsCompute_20_1 : ((run (st [(A.SYS_MODE, 5)]) 0 [(1, 0x800000000000), (2, 0xFFFFFFFFFFFF)] : State).atInstruction (0 : Fin 5) = true) ∧ (regs3 (⟨1, 1, 2, 0⟩ : Fields) = true) ∧ ((⟨1, 1, 2, 0⟩ : Fields).imm = 0) := by decide +kernel

theorem test_wit_registerInstructionsCompute_21_1 : ((run (st [(A.SYS_MODE, 5)]) 0 [(1, 0x800000000000), (2, 0xFFFFFFFFFFFF)] : State).atInstruction (0 : Fin 5) = true) ∧ (regs3 (⟨1, 1, 2, 0⟩ : Fields) = true) ∧ ((⟨1, 1, 2, 0⟩ : Fields).imm = 0) := by decide +kernel

theorem test_wit_registerInstructionsCompute_22_1 : ((run (st [(A.SYS_MODE, 5)]) 0 [(1, 0x800000000000), (2, 0xFFFFFFFFFFFF)] : State).atInstruction (0 : Fin 5) = true) ∧ (regs3 (⟨1, 1, 2, 0⟩ : Fields) = true) ∧ ((⟨1, 1, 2, 0⟩ : Fields).imm = 0) := by decide +kernel

theorem test_wit_registerInstructionsCompute_23_1 : ((run (st [(A.SYS_MODE, 5)]) 0 [(1, 0x800000000000), (2, 0xFFFFFFFFFFFF)] : State).atInstruction (0 : Fin 5) = true) ∧ (regs3 (⟨1, 1, 2, 0⟩ : Fields) = true) ∧ ((⟨1, 1, 2, 0⟩ : Fields).imm = 0) := by decide +kernel

theorem test_wit_registerInstructionsCompute_1_2 : ((run (st [(A.SYS_MODE, 3)]) 4 [(31, 0x1234), (260, 60)] : State).atInstruction (4 : Fin 5) = true) ∧ (regs3 (⟨39, 31, 36, 0⟩ : Fields) = true) ∧ ((⟨39, 31, 36, 0⟩ : Fields).imm = 0) := by decide +kernel

theorem test_wit_registerInstructionsCompute_2_2 : ((run (st [(A.SYS_MODE, 3)]) 4 [(31, 0x1234), (260, 60)] : State).atInstruction (4 : Fin 5) = true) ∧ (regs3 (⟨39, 31, 36, 0⟩ : Fields) = true) ∧ ((⟨39, 31, 36, 0⟩ : Fields).imm = 0) := by decide +kernel

theorem test_wit_registerInstructionsCompute_3_2 : ((run (st [(A.SYS_MODE, 3)]) 4 [(31, 0x1234), (260, 60)] : State).atInstruction (4 : Fin 5) = true) ∧ (regs3 (⟨39, 31, 36, 0⟩ : Fields) = true) ∧ ((⟨39, 31, 36, 0⟩ : Fields).imm = 0) := by decide +kernel

theorem test_wit_registerInstructionsCompute_4_2 : ((run (st [(A.SYS_MODE, 3)]) 4 [(31, 0x1234), (260, 60)] : State).atInstruction (4 : Fin 5) = true) ∧ (regs3 (⟨39, 31, 36, 0⟩ : Fields) = true) ∧ ((⟨39, 31, 36, 0⟩ : Fields).imm = 0) := by decide +kernel

theorem test_wit_registerInstructionsCompute_5_2 : ((run (st [(A.SYS_MODE, 3)]) 4 [(31, 0x1234), (260, 60)] : State).atInstruction (4 : Fin 5) = true) ∧ (regs3 (⟨39, 31, 36, 0⟩ : Fields) = true) ∧ ((⟨39, 31, 36, 0⟩ : Fields).imm = 0) := by decide +kernel

theorem test_wit_registerInstructionsCompute_6_2 : ((run (st [(A.SYS_MODE, 3)]) 4 [(31, 0x1234), (260, 60)] : State).atInstruction (4 : Fin 5) = true) ∧ (regs3 (⟨39, 31, 36, 0⟩ : Fields) = true) ∧ ((⟨39, 31, 36, 0⟩ : Fields).imm = 0) := by decide +kernel

theorem test_wit_registerInstructionsCompute_7_2 : ((run (st [(A.SYS_MODE, 3)]) 4 [(31, 0x1234), (260, 60)] : State).atInstruction (4 : Fin 5) = true) ∧ (regs3 (⟨39, 31, 36, 0⟩ : Fields) = true) ∧ ((⟨39, 31, 36, 0⟩ : Fields).imm = 0) := by decide +kernel

theorem test_wit_registerInstructionsCompute_8_2 : ((run (st [(A.SYS_MODE, 3)]) 4 [(31, 0x1234), (260, 60)] : State).atInstruction (4 : Fin 5) = true) ∧ (regs3 (⟨39, 31, 36, 0⟩ : Fields) = true) ∧ ((⟨39, 31, 36, 0⟩ : Fields).imm = 0) := by decide +kernel

theorem test_wit_registerInstructionsCompute_9_2 : ((run (st [(A.SYS_MODE, 3)]) 4 [(31, 0x1234), (260, 60)] : State).atInstruction (4 : Fin 5) = true) ∧ (regs3 (⟨39, 31, 36, 0⟩ : Fields) = true) ∧ ((⟨39, 31, 36, 0⟩ : Fields).imm = 0) := by decide +kernel

theorem test_wit_registerInstructionsCompute_10_2 : ((run (st [(A.SYS_MODE, 3)]) 4 [(31, 0x1234), (260, 60)] : State).atInstruction (4 : Fin 5) = true) ∧ (regs3 (⟨39, 31, 36, 0⟩ : Fields) = true) ∧ ((⟨39, 31, 36, 0⟩ : Fields).imm = 0) := by decide +kernel

theorem test_wit_registerInstructionsCompute_11_2 : ((run (st [(A.SYS_MODE, 3)]) 4 [(31, 0x1234), (260, 60)] : State).atInstruction (4 : Fin 5) = true) ∧ (regs3 (⟨39, 31, 36, 0⟩ : Fields) = true) ∧ ((⟨39, 31, 36, 0⟩ : Fields).imm = 0) := by decide +kernel

theorem test_wit_registerInstructionsCompute_12_2 : ((run (st [(A.SYS_MODE, 3)]) 4 [(31, 0x1234), (260, 60)] : State).atInstruction (4 : Fin 5) = true) ∧ (regs3 (⟨39, 31, 36, 0⟩ : Fields) = true) ∧ ((⟨39, 31, 36, 0⟩ : Fields).imm = 0) := by decide +kernel

theorem test_wit_registerInstructionsCompute_13_2 : ((run (st [(A.SYS_MODE, 3)]) 4 [(31, 0x1234), (260, 60)] : State).atInstruction (4 : Fin 5) = true) ∧ (regs3 (⟨39, 31, 36, 0⟩ : Fields) = true) ∧ ((⟨39, 31, 36, 0⟩ : Fields).imm = 0) := by decide +kernel

theorem test_wit_registerInstructionsCompute_14_2 : ((run (st [(A.SYS_MODE, 3)]) 4 [(31, 0x1234), (260, 60)] : State).atInstruction (4 : Fin 5) = true) ∧ (regs3 (⟨39, 31, 36, 0⟩ : Fields) = true) ∧ ((⟨39, 31, 36, 0⟩ : Fields).imm = 0) := by decide +kernel

theorem test_wit_registerInstructionsCompute_15_2 : ((run (st [(A.SYS_MODE, 3)]) 4 [(31, 0x1234), (260, 60)] : State).atInstruction (4 : Fin 5) = true) ∧ (regs3 (⟨39, 31, 36, 0⟩ : Fields) = true) ∧ ((⟨39, 31, 36, 0⟩ : Fields).imm = 0) := by decide +kernel

theorem test_wit_registerInstructionsCompute_16_2 : ((run (st [(A.SYS_MODE, 3)]) 4 [(31, 0x1234), (260, 60)] : State).atInstruction (4 : Fin 5) = true) ∧ (regs3 (⟨39, 31, 36, 0⟩ : Fields) = true) ∧ ((⟨39, 31, 36, 0⟩ : Fields).imm = 0) := by decide +kernel

theorem test_wit_registerInstructionsCompute_17_2 : ((run (st [(A.SYS_MODE, 3)]) 4 [(31, 0x1234), (260, 60)] : State).atInstruction (4 : Fin 5) = true) ∧ (regs3 (⟨39, 31, 36, 0⟩ : Fields) = true) ∧ ((⟨39, 31, 36, 0⟩ : Fields).imm = 0) := by decide +kernel

theorem test_wit_registerInstructionsCompute_18_2 : ((run (st [(A.SYS_MODE, 3)]) 4 [(31, 0x1234), (260, 60)] : State).atInstruction (4 : Fin 5) = true) ∧ (regs3 (⟨39, 31, 36, 0⟩ : Fields) = true) ∧ ((⟨39, 31, 36, 0⟩ : Fields).imm = 0) := by decide +kernel

theorem test_wit_registerInstructionsCompute_19_2 : ((run (st [(A.SYS_MODE, 3)]) 4 [(31, 0x1234), (260, 60)] : State).atInstruction (4 : Fin 5) = true) ∧ (regs3 (⟨39, 31, 36, 0⟩ : Fields) = true) ∧ ((⟨39, 31, 36, 0⟩ : Fields).imm = 0) := by decide +kernel

theorem test_wit_registerInstructionsCompute_20_2 : ((run (st [(A.SYS_MODE, 3)]) 4 [(31, 0x1234), (260, 60)] : State).atInstruction (4 : Fin 5) = true) ∧ (regs3 (⟨39, 31, 36, 0⟩ : Fields) = true) ∧ ((⟨39, 31, 36, 0⟩ : Fields).imm = 0) := by decide +kernel

theorem test_wit_registerInstructionsCompute_21_2 : ((run (st [(A.SYS_MODE, 3)]) 4 [(31, 0x1234), (260, 60)] : State).atInstruction (4 : Fin 5) = true) ∧ (regs3 (⟨39, 31, 36, 0⟩ : Fields) = true) ∧ ((⟨39, 31, 36, 0⟩ : Fields).imm = 0) := by decide +kernel

theorem test_wit_registerInstructionsCompute_22_2 : ((run (st [(A.SYS_MODE, 3)]) 4 [(31, 0x1234), (260, 60)] : State).atInstruction (4 : Fin 5) = true) ∧ (regs3 (⟨39, 31, 36, 0⟩ : Fields) = true) ∧ ((⟨39, 31, 36, 0⟩ : Fields).imm = 0) := by decide +kernel

theorem test_wit_registerInstructionsCompute_23_2 : ((run (st [(A.SYS_MODE, 3)]) 4 [(31, 0x1234), (260, 60)] : State).atInstruction (4 : Fin 5) = true) ∧ (regs3 (⟨39, 31, 36, 0⟩ : Fields) = true) ∧ ((⟨39, 31, 36, 0⟩ : Fields).imm = 0) := by decide +kernel

theorem test_wit_registerInstructionsCompute_24_3 : ((run (st [(A.SYS_MODE, 5)]) 3 [(1, 0x7FFFFFFFFFFF), (2, 0x7FFFFFFFFFFF)] : State).atInstruction (3 : Fin 5) = true) ∧ (regs3 (⟨1, 1, 2, 47⟩ : Fields) = true) ∧ ((⟨1, 1, 2, 47⟩ : Fields).imm.toNat < 48) := by decide +kernel

theorem test_wit_registerInstructionsCompute_25_3 : ((run (st [(A.SYS_MODE, 5)]) 3 [(1, 0x7FFFFFFFFFFF), (2, 0x7FFFFFFFFFFF)] : State).atInstruction (3 : Fin 5) = true) ∧ (regs3 (⟨1, 1, 2, 47⟩ : Fields) = true) ∧ ((⟨1, 1, 2, 47⟩ : Fields).imm.toNat < 48) := by decide +kernel

theorem test_wit_immediateInstructionsCompute_1_1 : ((run (st [(A.SYS_MODE, 5)]) 1 [(9, 0x800001000000)] : State).atInstruction (1 : Fin 5) = true) ∧ (regOk (⟨9, 9, 0, 0⟩ : Fields).rd = true) ∧ (regOk (⟨9, 9, 0, 0⟩ : Fields).ra = true) ∧ ((⟨9, 9, 0, 0⟩ : Fields).rb = 0) ∧ ((⟨9, 9, 0, 0⟩ : Fields).imm = 0) := by decide +kernel

theorem test_wit_immediateInstructionsCompute_5_1 : ((run (st [(A.SYS_MODE, 5)]) 1 [(9, 0x800001000000)] : State).atInstruction (1 : Fin 5) = true) ∧ (regOk (⟨9, 9, 0, 0⟩ : Fields).rd = true) ∧ (regOk (⟨9, 9, 0, 0⟩ : Fields).ra = true) ∧ ((⟨9, 9, 0, 0⟩ : Fields).rb = 0) := by decide +kernel

theorem test_wit_immediateInstructionsCompute_6_1 : ((run (st [(A.SYS_MODE, 5)]) 1 [(9, 0x800001000000)] : State).atInstruction (1 : Fin 5) = true) ∧ (regOk (⟨9, 9, 0, 0⟩ : Fields).rd = true) ∧ (regOk (⟨9, 9, 0, 0⟩ : Fields).ra = true) ∧ ((⟨9, 9, 0, 0⟩ : Fields).rb = 0) := by decide +kernel

theorem test_wit_immediateInstructionsCompute_7_1 : ((run (st [(A.SYS_MODE, 5)]) 1 [(9, 0x800001000000)] : State).atInstruction (1 : Fin 5) = true) ∧ (regOk (⟨9, 9, 0, 0⟩ : Fields).rd = true) ∧ (regOk (⟨9, 9, 0, 0⟩ : Fields).ra = true) ∧ ((⟨9, 9, 0, 0⟩ : Fields).rb = 0) := by decide +kernel

theorem test_wit_immediateInstructionsCompute_8_1 : ((run (st [(A.SYS_MODE, 5)]) 1 [(9, 0x800001000000)] : State).atInstruction (1 : Fin 5) = true) ∧ (regOk (⟨9, 9, 0, 0⟩ : Fields).rd = true) ∧ (regOk (⟨9, 9, 0, 0⟩ : Fields).ra = true) ∧ ((⟨9, 9, 0, 0⟩ : Fields).rb = 0) := by decide +kernel

theorem test_wit_immediateInstructionsCompute_9_1 : ((run (st [(A.SYS_MODE, 5)]) 1 [(9, 0x800001000000)] : State).atInstruction (1 : Fin 5) = true) ∧ (regOk (⟨9, 9, 0, 0⟩ : Fields).rd = true) ∧ (regOk (⟨9, 9, 0, 0⟩ : Fields).ra = true) ∧ ((⟨9, 9, 0, 0⟩ : Fields).rb = 0) ∧ ((⟨9, 9, 0, 0⟩ : Fields).imm.toNat < 48) := by decide +kernel

theorem test_wit_immediateInstructionsCompute_10_1 : ((run (st [(A.SYS_MODE, 5)]) 1 [(9, 0x800001000000)] : State).atInstruction (1 : Fin 5) = true) ∧ (regOk (⟨9, 9, 0, 0⟩ : Fields).rd = true) ∧ (regOk (⟨9, 9, 0, 0⟩ : Fields).ra = true) ∧ ((⟨9, 9, 0, 0⟩ : Fields).rb = 0) ∧ ((⟨9, 9, 0, 0⟩ : Fields).imm.toNat < 48) := by decide +kernel

theorem test_wit_immediateInstructionsCompute_11_1 : ((run (st [(A.SYS_MODE, 5)]) 1 [(9, 0x800001000000)] : State).atInstruction (1 : Fin 5) = true) ∧ (regOk (⟨9, 9, 0, 0⟩ : Fields).rd = true) ∧ (regOk (⟨9, 9, 0, 0⟩ : Fields).ra = true) ∧ ((⟨9, 9, 0, 0⟩ : Fields).rb = 0) ∧ ((⟨9, 9, 0, 0⟩ : Fields).imm.toNat < 48) := by decide +kernel

theorem test_wit_immediateInstructionsCompute_12_1 : ((run (st [(A.SYS_MODE, 5)]) 1 [(9, 0x800001000000)] : State).atInstruction (1 : Fin 5) = true) ∧ (regOk (⟨9, 9, 0, 0⟩ : Fields).rd = true) ∧ (regOk (⟨9, 9, 0, 0⟩ : Fields).ra = true) ∧ ((⟨9, 9, 0, 0⟩ : Fields).rb = 0) := by decide +kernel

theorem test_wit_immediateInstructionsCompute_13_1 : ((run (st [(A.SYS_MODE, 5)]) 1 [(9, 0x800001000000)] : State).atInstruction (1 : Fin 5) = true) ∧ (regOk (⟨9, 9, 0, 0⟩ : Fields).rd = true) ∧ (regOk (⟨9, 9, 0, 0⟩ : Fields).ra = true) ∧ ((⟨9, 9, 0, 0⟩ : Fields).rb = 0) := by decide +kernel

theorem test_wit_immediateInstructionsCompute_14_1 : ((run (st [(A.SYS_MODE, 5)]) 1 [(9, 0x800001000000)] : State).atInstruction (1 : Fin 5) = true) ∧ (regOk (⟨9, 9, 0, 0⟩ : Fields).rd = true) ∧ (regOk (⟨9, 9, 0, 0⟩ : Fields).ra = true) ∧ ((⟨9, 9, 0, 0⟩ : Fields).rb = 0) := by decide +kernel

theorem test_wit_immediateInstructionsCompute_2_2 : ((run (st [(A.SYS_MODE, 3)]) 4 [(9, 0x800001008000)] : State).atInstruction (4 : Fin 5) = true) ∧ (regOk (⟨39, 9, 0, 0x140F⟩ : Fields).rd = true) ∧ (regOk (⟨39, 9, 0, 0x140F⟩ : Fields).ra = true) ∧ ((⟨39, 9, 0, 0x140F⟩ : Fields).rb = 0) ∧ (fieldOk (⟨39, 9, 0, 0x140F⟩ : Fields) true = true) := by decide +kernel

theorem test_wit_immediateInstructionsCompute_4_2 : ((run (st [(A.SYS_MODE, 3)]) 4 [(9, 0x800001008000)] : State).atInstruction (4 : Fin 5) = true) ∧ (regOk (⟨39, 9, 0, 0x140F⟩ : Fields).rd = true) ∧ (regOk (⟨39, 9, 0, 0x140F⟩ : Fields).ra = true) ∧ ((⟨39, 9, 0, 0x140F⟩ : Fields).rb = 0) ∧ ((⟨39, 9, 0, 0x140F⟩ : Fields).imm.toNat < 2 ^ 18) := by decide +kernel

theorem test_wit_immediateInstructionsCompute_5_2 : ((run (st [(A.SYS_MODE, 3)]) 4 [(9, 0x800001008000)] : State).atInstruction (4 : Fin 5) = true) ∧ (regOk (⟨39, 9, 0, 0x140F⟩ : Fields).rd = true) ∧ (regOk (⟨39, 9, 0, 0x140F⟩ : Fields).ra = true) ∧ ((⟨39, 9, 0, 0x140F⟩ : Fields).rb = 0) := by decide +kernel

theorem test_wit_immediateInstructionsCompute_6_2 : ((run (st [(A.SYS_MODE, 3)]) 4 [(9, 0x800001008000)] : State).atInstruction (4 : Fin 5) = true) ∧ (regOk (⟨39, 9, 0, 0x140F⟩ : Fields).rd = true) ∧ (regOk (⟨39, 9, 0, 0x140F⟩ : Fields).ra = true) ∧ ((⟨39, 9, 0, 0x140F⟩ : Fields).rb = 0) := by decide +kernel

theorem test_wit_immediateInstructionsCompute_7_2 : ((run (st [(A.SYS_MODE, 3)]) 4 [(9, 0x800001008000)] : State).atInstruction (4 : Fin 5) = true) ∧ (regOk (⟨39, 9, 0, 0x140F⟩ : Fields).rd = true) ∧ (regOk (⟨39, 9, 0, 0x140F⟩ : Fields).ra = true) ∧ ((⟨39, 9, 0, 0x140F⟩ : Fields).rb = 0) := by decide +kernel

theorem test_wit_immediateInstructionsCompute_8_2 : ((run (st [(A.SYS_MODE, 3)]) 4 [(9, 0x800001008000)] : State).atInstruction (4 : Fin 5) = true) ∧ (regOk (⟨39, 9, 0, 0x140F⟩ : Fields).rd = true) ∧ (regOk (⟨39, 9, 0, 0x140F⟩ : Fields).ra = true) ∧ ((⟨39, 9, 0, 0x140F⟩ : Fields).rb = 0) := by decide +kernel

theorem test_wit_immediateInstructionsCompute_12_2 : ((run (st [(A.SYS_MODE, 3)]) 4 [(9, 0x800001008000)] : State).atInstruction (4 : Fin 5) = true) ∧ (regOk (⟨39, 9, 0, 0x140F⟩ : Fields).rd = true) ∧ (regOk (⟨39, 9, 0, 0x140F⟩ : Fields).ra = true) ∧ ((⟨39, 9, 0, 0x140F⟩ : Fields).rb = 0) := by decide +kernel

theorem test_wit_immediateInstructionsCompute_13_2 : ((run (st [(A.SYS_MODE, 3)]) 4 [(9, 0x800001008000)] : State).atInstruction (4 : Fin 5) = true) ∧ (regOk (⟨39, 9, 0, 0x140F⟩ : Fields).rd = true) ∧ (regOk (⟨39, 9, 0, 0x140F⟩ : Fields).ra = true) ∧ ((⟨39, 9, 0, 0x140F⟩ : Fields).rb = 0) := by decide +kernel

theorem test_wit_immediateInstructionsCompute_14_2 : ((run (st [(A.SYS_MODE, 3)]) 4 [(9, 0x800001008000)] : State).atInstruction (4 : Fin 5) = true) ∧ (regOk (⟨39, 9, 0, 0x140F⟩ : Fields).rd = true) ∧ (regOk (⟨39, 9, 0, 0x140F⟩ : Fields).ra = true) ∧ ((⟨39, 9, 0, 0x140F⟩ : Fields).rb = 0) := by decide +kernel

theorem test_wit_immediateInstructionsCompute_9_3 : ((run (st [(A.SYS_MODE, 3)]) 4 [(9, 0x800001008000)] : State).atInstruction (4 : Fin 5) = true) ∧ (regOk (⟨39, 9, 0, 47⟩ : Fields).rd = true) ∧ (regOk (⟨39, 9, 0, 47⟩ : Fields).ra = true) ∧ ((⟨39, 9, 0, 47⟩ : Fields).rb = 0) ∧ ((⟨39, 9, 0, 47⟩ : Fields).imm.toNat < 48) := by decide +kernel

theorem test_wit_immediateInstructionsCompute_10_3 : ((run (st [(A.SYS_MODE, 3)]) 4 [(9, 0x800001008000)] : State).atInstruction (4 : Fin 5) = true) ∧ (regOk (⟨39, 9, 0, 47⟩ : Fields).rd = true) ∧ (regOk (⟨39, 9, 0, 47⟩ : Fields).ra = true) ∧ ((⟨39, 9, 0, 47⟩ : Fields).rb = 0) ∧ ((⟨39, 9, 0, 47⟩ : Fields).imm.toNat < 48) := by decide +kernel

theorem test_wit_immediateInstructionsCompute_11_3 : ((run (st [(A.SYS_MODE, 3)]) 4 [(9, 0x800001008000)] : State).atInstruction (4 : Fin 5) = true) ∧ (regOk (⟨39, 9, 0, 47⟩ : Fields).rd = true) ∧ (regOk (⟨39, 9, 0, 47⟩ : Fields).ra = true) ∧ ((⟨39, 9, 0, 47⟩ : Fields).rb = 0) ∧ ((⟨39, 9, 0, 47⟩ : Fields).imm.toNat < 48) := by decide +kernel

theorem test_wit_immediateInstructionsCompute_3_4 : ((run (st [(A.SYS_MODE, 3)]) 4 [(9, 0x800001008000)] : State).atInstruction (4 : Fin 5) = true) ∧ (regOk (⟨39, 9, 0, 0xC00⟩ : Fields).rd = true) ∧ (regOk (⟨39, 9, 0, 0xC00⟩ : Fields).ra = true) ∧ ((⟨39, 9, 0, 0xC00⟩ : Fields).rb = 0) ∧ (fieldOk (⟨39, 9, 0, 0xC00⟩ : Fields) false = true) := by decide +kernel

theorem test_wit_immediateInstructionsCompute_15_5 : ((run (st [(A.SYS_MODE, 3)]) 2 [] : State).atInstruction (2 : Fin 5) = true) ∧ (regOk (⟨0, 0, 0, 0⟩ : Fields).rd = true) ∧ ((⟨0, 0, 0, 0⟩ : Fields).ra = 0) ∧ ((⟨0, 0, 0, 0⟩ : Fields).rb = 0) ∧ ((⟨0, 0, 0, 0⟩ : Fields).imm.toNat < 2 ^ 14) := by decide +kernel

theorem test_wit_immediateInstructionsCompute_16_5 : ((run (st [(A.SYS_MODE, 3)]) 2 [] : State).atInstruction (2 : Fin 5) = true) ∧ (regOk (⟨31, 0x3FFFFFFFF⟩ : JFields).rd = true) := by decide +kernel

theorem test_wit_immediateInstructionsCompute_17_5 : ((run (st [(A.SYS_MODE, 3)]) 2 [] : State).atInstruction (2 : Fin 5) = true) ∧ ((⟨0, 0, 0, 0⟩ : Fields).rd = 0) ∧ ((⟨0, 0, 0, 0⟩ : Fields).ra = 0) ∧ ((⟨0, 0, 0, 0⟩ : Fields).rb = 0) ∧ ((⟨0, 0, 0, 0⟩ : Fields).imm = 0) := by decide +kernel

theorem test_wit_countLeadingZeros_1_1 : ((run (st [(A.SYS_MODE, 5)]) 1 [(9, 0x1000000)] : State).atInstruction (1 : Fin 5) = true) ∧ (regOk (⟨8, 9, 0, 0⟩ : Fields).rd = true) ∧ (regOk (⟨8, 9, 0, 0⟩ : Fields).ra = true) ∧ ((⟨8, 9, 0, 0⟩ : Fields).rb = 0) ∧ ((⟨8, 9, 0, 0⟩ : Fields).imm = 0) ∧ (((run (st [(A.SYS_MODE, 5)]) 1 [(9, 0x1000000)] : State).getR (1 : Fin 5) (⟨8, 9, 0, 0⟩ : Fields).ra).getLsbD (24 : Fin 48) = true) ∧ (∀ i : Fin 48, (24 : Fin 48) < i → ((run (st [(A.SYS_MODE, 5)]) 1 [(9, 0x1000000)] : State).getR (1 : Fin 5) (⟨8, 9, 0, 0⟩ : Fields).ra).getLsbD i = false) := by decide +kernel

theorem test_wit_countLeadingZeros_3_1 : ((run (st [(A.SYS_MODE, 5)]) 1 [(9, 0x1000000)] : State).atInstruction (1 : Fin 5) = true) ∧ (regOk (⟨8, 9, 0, 0⟩ : Fields).rd = true) ∧ (regOk (⟨8, 9, 0, 0⟩ : Fields).ra = true) ∧ ((⟨8, 9, 0, 0⟩ : Fields).rb = 0) ∧ ((⟨8, 9, 0, 0⟩ : Fields).imm = 0) ∧ ((run (st [(A.SYS_MODE, 5)]) 1 [(9, 0x1000000)] : State).getR (1 : Fin 5) (⟨8, 9, 0, 0⟩ : Fields).ra = 0x000001000000) := by decide +kernel

theorem test_wit_countLeadingZeros_1_2 : ((run (st [(A.SYS_MODE, 5)]) 1 [(9, 0xFFFFFFFFFFFF)] : State).atInstruction (1 : Fin 5) = true) ∧ (regOk (⟨8, 9, 0, 0⟩ : Fields).rd = true) ∧ (regOk (⟨8, 9, 0, 0⟩ : Fields).ra = true) ∧ ((⟨8, 9, 0, 0⟩ : Fields).rb = 0) ∧ ((⟨8, 9, 0, 0⟩ : Fields).imm = 0) ∧ (((run (st [(A.SYS_MODE, 5)]) 1 [(9, 0xFFFFFFFFFFFF)] : State).getR (1 : Fin 5) (⟨8, 9, 0, 0⟩ : Fields).ra).getLsbD (47 : Fin 48) = true) ∧ (∀ i : Fin 48, (47 : Fin 48) < i → ((run (st [(A.SYS_MODE, 5)]) 1 [(9, 0xFFFFFFFFFFFF)] : State).getR (1 : Fin 5) (⟨8, 9, 0, 0⟩ : Fields).ra).getLsbD i = false) := by decide +kernel

theorem test_wit_countLeadingZeros_2_3 : ((run (st [(A.SYS_MODE, 5)]) 4 [(8, 7)] : State).atInstruction (4 : Fin 5) = true) ∧ (regOk (⟨8, 9, 0, 0⟩ : Fields).rd = true) ∧ (regOk (⟨8, 9, 0, 0⟩ : Fields).ra = true) ∧ ((⟨8, 9, 0, 0⟩ : Fields).rb = 0) ∧ ((⟨8, 9, 0, 0⟩ : Fields).imm = 0) ∧ ((run (st [(A.SYS_MODE, 5)]) 4 [(8, 7)] : State).getR (4 : Fin 5) (⟨8, 9, 0, 0⟩ : Fields).ra = 0) := by decide +kernel

theorem test_wit_coreMemoryAccesses_1_1 : (((run (st [(A.SYS_MODE, 5)]) 1 [(3, 0x02100010), (9, 0x8765432100FE)]).setBytes 0x02100010 [0xFE, 0x80, 3, 4, 5, 0xFF] : State).atInstruction (1 : Fin 5) = true) ∧ (illI (⟨9, 3, 0, 0⟩ : Fields) = false) ∧ (((run (st [(A.SYS_MODE, 5)]) 1 [(3, 0x02100010), (9, 0x8765432100FE)]).setBytes 0x02100010 [0xFE, 0x80, 3, 4, 5, 0xFF] : State).loadsPlain (1 : Fin 5) (((run (st [(A.SYS_MODE, 5)]) 1 [(3, 0x02100010), (9, 0x8765432100FE)]).setBytes 0x02100010 [0xFE, 0x80, 3, 4, 5, 0xFF] : State).ea (1 : Fin 5) (⟨9, 3, 0, 0⟩ : Fields)) 1 = true) := by decide +kernel

theorem test_wit_coreMemoryAccesses_2_1 : (((run (st [(A.SYS_MODE, 5)]) 1 [(3, 0x02100010), (9, 0x8765432100FE)]).setBytes 0x02100010 [0xFE, 0x80, 3, 4, 5, 0xFF] : State).atInstruction (1 : Fin 5) = true) ∧ (illI (⟨9, 3, 0, 0⟩ : Fields) = false) ∧ (((run (st [(A.SYS_MODE, 5)]) 1 [(3, 0x02100010), (9, 0x8765432100FE)]).setBytes 0x02100010 [0xFE, 0x80, 3, 4, 5, 0xFF] : State).loadsPlain (1 : Fin 5) (((run (st [(A.SYS_MODE, 5)]) 1 [(3, 0x02100010), (9, 0x8765432100FE)]).setBytes 0x02100010 [0xFE, 0x80, 3, 4, 5, 0xFF] : State).ea (1 : Fin 5) (⟨9, 3, 0, 0⟩ : Fields)) 2 = true) := by decide +kernel

theorem test_wit_coreMemoryAccesses_3_1 : (((run (st [(A.SYS_MODE, 5)]) 1 [(3, 0x02100010), (9, 0x8765432100FE)]).setBytes 0x02100010 [0xFE, 0x80, 3, 4, 5, 0xFF] : State).atInstruction (1 : Fin 5) = true) ∧ (illI (⟨9, 3, 0, 0⟩ : Fields) = false) ∧ (((run (st [(A.SYS_MODE, 5)]) 1 [(3, 0x02100010), (9, 0x8765432100FE)]).setBytes 0x02100010 [0xFE, 0x80, 3, 4, 5, 0xFF] : State).loadsPlain (1 : Fin 5) (((run (st [(A.SYS_MODE, 5)]) 1 [(3, 0x02100010), (9, 0x8765432100FE)]).setBytes 0x02100010 [0xFE, 0x80, 3, 4, 5, 0xFF] : State).ea (1 : Fin 5) (⟨9, 3, 0, 0⟩ : Fields)) 6 = true) := by decide +kernel

theorem test_wit_coreMemoryAccesses_9_1 : (((run (st [(A.SYS_MODE, 5)]) 1 [(3, 0x02100010), (9, 0x8765432100FE)]).setBytes 0x02100010 [0xFE, 0x80, 3, 4, 5, 0xFF] : State).atInstruction (1 : Fin 5) = true) ∧ (illI (⟨9, 3, 0, 0⟩ : Fields) = false) ∧ (linkMisaligned (((run (st [(A.SYS_MODE, 5)]) 1 [(3, 0x02100010), (9, 0x8765432100FE)]).setBytes 0x02100010 [0xFE, 0x80, 3, 4, 5, 0xFF] : State).ea (1 : Fin 5) (⟨9, 3, 0, 0⟩ : Fields)) = false) ∧ (reservable (1 : Fin 5) (((run (st [(A.SYS_MODE, 5)]) 1 [(3, 0x02100010), (9, 0x8765432100FE)]).setBytes 0x02100010 [0xFE, 0x80, 3, 4, 5, 0xFF] : State).ea (1 : Fin 5) (⟨9, 3, 0, 0⟩ : Fields)) = true) ∧ (((run (st [(A.SYS_MODE, 5)]) 1 [(3, 0x02100010), (9, 0x8765432100FE)]).setBytes 0x02100010 [0xFE, 0x80, 3, 4, 5, 0xFF] : State).loadsPlain (1 : Fin 5) (((run (st [(A.SYS_MODE, 5)]) 1 [(3, 0x02100010), (9, 0x8765432100FE)]).setBytes 0x02100010 [0xFE, 0x80, 3, 4, 5, 0xFF] : State).ea (1 : Fin 5) (⟨9, 3, 0, 0⟩ : Fields)) 6 = true) := by decide +kernel

theorem test_wit_coreMemoryAccesses_10_1 : (((run (st [(A.SYS_MODE, 5)]) 1 [(3, 0x02100010), (9, 0x8765432100FE)]).setBytes 0x02100010 [0xFE, 0x80, 3, 4, 5, 0xFF] : State).atInstruction (1 : Fin 5) = true) ∧ (regs3 (⟨9, 3, 0, 0⟩ : Fields) = true) ∧ (linkMisaligned (((run (st [(A.SYS_MODE, 5)]) 1 [(3, 0x02100010), (9, 0x8765432100FE)]).setBytes 0x02100010 [0xFE, 0x80, 3, 4, 5, 0xFF] : State).ea (1 : Fin 5) (⟨9, 3, 0, 0⟩ : Fields)) = false) ∧ (reservable (1 : Fin 5) (((run (st [(A.SYS_MODE, 5)]) 1 [(3, 0x02100010), (9, 0x8765432100FE)]).setBytes 0x02100010 [0xFE, 0x80, 3, 4, 5, 0xFF] : State).ea (1 : Fin 5) (⟨9, 3, 0, 0⟩ : Fields)) = true) ∧ (((run (st [(A.SYS_MODE, 5)]) 1 [(3, 0x02100010), (9, 0x8765432100FE)]).setBytes 0x02100010 [0xFE, 0x80, 3, 4, 5, 0xFF] : State).storesPlain (1 : Fin 5) (((run (st [(A.SYS_MODE, 5)]) 1 [(3, 0x02100010), (9, 0x8765432100FE)]).setBytes 0x02100010 [0xFE, 0x80, 3, 4, 5, 0xFF] : State).ea (1 : Fin 5) (⟨9, 3, 0, 0⟩ : Fields)) 6 = true) := by decide +kernel

theorem test_wit_coreMemoryAccesses_4_2 : (({ (run (st [(A.SYS_MODE, 3)]) 4 [(3, 0x0C20000E), (9, 0x8765432100FE)]) with beat := 9 } : State).atInstruction (4 : Fin 5) = true) ∧ (illS (⟨0, 3, 9, 0x3FFFF2⟩ : Fields) = false) ∧ (({ (run (st [(A.SYS_MODE, 3)]) 4 [(3, 0x0C20000E), (9, 0x8765432100FE)]) with beat := 9 } : State).storesPlain (4 : Fin 5) (({ (run (st [(A.SYS_MODE, 3)]) 4 [(3, 0x0C20000E), (9, 0x8765432100FE)]) with beat := 9 } : State).ea (4 : Fin 5) (⟨0, 3, 9, 0x3FFFF2⟩ : Fields)) 1 = true) ∧ (({ (run (st [(A.SYS_MODE, 3)]) 4 [(3, 0x0C20000E), (9, 0x8765432100FE)]) with beat := 9 } : State).deterministic (4 : Fin 5) = true) := by decide +kernel

theorem test_wit_coreMemoryAccesses_5_2 : (({ (run (st [(A.SYS_MODE, 3)]) 4 [(3, 0x0C20000E), (9, 0x8765432100FE)]) with beat := 9 } : State).atInstruction (4 : Fin 5) = true) ∧ (illS (⟨0, 3, 9, 0x3FFFF2⟩ : Fields) = false) ∧ (({ (run (st [(A.SYS_MODE, 3)]) 4 [(3, 0x0C20000E), (9, 0x8765432100FE)]) with beat := 9 } : State).storesPlain (4 : Fin 5) (({ (run (st [(A.SYS_MODE, 3)]) 4 [(3, 0x0C20000E), (9, 0x8765432100FE)]) with beat := 9 } : State).ea (4 : Fin 5) (⟨0, 3, 9, 0x3FFFF2⟩ : Fields)) 2 = true) ∧ (({ (run (st [(A.SYS_MODE, 3)]) 4 [(3, 0x0C20000E), (9, 0x8765432100FE)]) with beat := 9 } : State).deterministic (4 : Fin 5) = true) := by decide +kernel

theorem test_wit_coreMemoryAccesses_6_2 : (({ (run (st [(A.SYS_MODE, 3)]) 4 [(3, 0x0C20000E), (9, 0x8765432100FE)]) with beat := 9 } : State).atInstruction (4 : Fin 5) = true) ∧ (illS (⟨0, 3, 9, 0x3FFFF2⟩ : Fields) = false) ∧ (({ (run (st [(A.SYS_MODE, 3)]) 4 [(3, 0x0C20000E), (9, 0x8765432100FE)]) with beat := 9 } : State).storesPlain (4 : Fin 5) (({ (run (st [(A.SYS_MODE, 3)]) 4 [(3, 0x0C20000E), (9, 0x8765432100FE)]) with beat := 9 } : State).ea (4 : Fin 5) (⟨0, 3, 9, 0x3FFFF2⟩ : Fields)) 6 = true) ∧ (({ (run (st [(A.SYS_MODE, 3)]) 4 [(3, 0x0C20000E), (9, 0x8765432100FE)]) with beat := 9 } : State).deterministic (4 : Fin 5) = true) := by decide +kernel

theorem test_wit_coreMemoryAccesses_10_2 : (({ (run (st [(A.SYS_MODE, 3)]) 4 [(3, 0x0C20000E), (9, 0x8765432100FE)]) with beat := 9 } : State).atInstruction (4 : Fin 5) = true) ∧ (regs3 (⟨0, 3, 9, 0x3FFFF2⟩ : Fields) = true) ∧ (linkMisaligned (({ (run (st [(A.SYS_MODE, 3)]) 4 [(3, 0x0C20000E), (9, 0x8765432100FE)]) with beat := 9 } : State).ea (4 : Fin 5) (⟨0, 3, 9, 0x3FFFF2⟩ : Fields)) = false) ∧ (reservable (4 : Fin 5) (({ (run (st [(A.SYS_MODE, 3)]) 4 [(3, 0x0C20000E), (9, 0x8765432100FE)]) with beat := 9 } : State).ea (4 : Fin 5) (⟨0, 3, 9, 0x3FFFF2⟩ : Fields)) = true) ∧ (({ (run (st [(A.SYS_MODE, 3)]) 4 [(3, 0x0C20000E), (9, 0x8765432100FE)]) with beat := 9 } : State).storesPlain (4 : Fin 5) (({ (run (st [(A.SYS_MODE, 3)]) 4 [(3, 0x0C20000E), (9, 0x8765432100FE)]) with beat := 9 } : State).ea (4 : Fin 5) (⟨0, 3, 9, 0x3FFFF2⟩ : Fields)) 6 = true) := by decide +kernel

theorem test_wit_coreMemoryAccesses_7_3 : ((run (st [(A.SYS_MODE, 5)]) 3 [(3, 0x03000010), (9, 0x8765432100FE)] : State).atInstruction (3 : Fin 5) = true) ∧ (illS (⟨0, 3, 9, 2⟩ : Fields) = false) ∧ ((run (st [(A.SYS_MODE, 5)]) 3 [(3, 0x03000010), (9, 0x8765432100FE)] : State).storesPlain (3 : Fin 5) ((run (st [(A.SYS_MODE, 5)]) 3 [(3, 0x03000010), (9, 0x8765432100FE)] : State).ea (3 : Fin 5) (⟨0, 3, 9, 2⟩ : Fields)) 6 = true) ∧ ((run (st [(A.SYS_MODE, 5)]) 3 [(3, 0x03000010), (9, 0x8765432100FE)] : State).deterministic (3 : Fin 5) = false) ∧ ((run (st [(A.SYS_MODE, 5)]) 3 [(3, 0x03000010), (9, 0x8765432100FE)] : State).ownIsram (3 : Fin 5) (localOf ((run (st [(A.SYS_MODE, 5)]) 3 [(3, 0x03000010), (9, 0x8765432100FE)] : State).ea (3 : Fin 5) (⟨0, 3, 9, 2⟩ : Fields))) = false) ∧ ((run (st [(A.SYS_MODE, 5)]) 3 [(3, 0x03000010), (9, 0x8765432100FE)] : State).ea (3 : Fin 5) (⟨0, 3, 9, 2⟩ : Fields) % 16 ≤ 10) := by decide +kernel

theorem test_wit_coreMemoryAccesses_8_4 : ((((let x := run (st [(A.SYS_MODE, 5)]) 3 []; x.setCore 3 { x.core 3 with sbuf := [(0x0300000E, [1, 2, 3]), (0x03000000, [9])] }) : State).core (3 : Fin 5)).sbuf = ((0x0300000E, [1, 2, 3]) : Nat × List Byte) :: (((let x := run (st [(A.SYS_MODE, 5)]) 3 []; x.setCore 3 { x.core 3 with sbuf := [(0x0300000E, [1, 2, 3]), (0x03000000, [9])] }) : State).core (3 : Fin 5)).sbuf.tail) ∧ (((0x0300000E, [1, 2, 3]) : Nat × List Byte).2 ≠ []) ∧ (((0x0300000E, [1, 2, 3]) : Nat × List Byte).2.length ≤ 6) ∧ (((let x := run (st [(A.SYS_MODE, 5)]) 3 []; x.setCore 3 { x.core 3 with sbuf := [(0x0300000E, [1, 2, 3]), (0x03000000, [9])] }) : State).memWriteErr (((let x := run (st [(A.SYS_MODE, 5)]) 3 []; x.setCore 3 { x.core 3 with sbuf := [(0x0300000E, [1, 2, 3]), (0x03000000, [9])] }) : State).coreWriter (3 : Fin 5)) ((0x0300000E, [1, 2, 3]) : Nat × List Byte).1 ((0x0300000E, [1, 2, 3]) : Nat × List Byte).2.length = none) ∧ (∀ i : Fin 6, region (((0x0300000E, [1, 2, 3]) : Nat × List Byte).1 + i) ≠ .table ∧ ((let x := run (st [(A.SYS_MODE, 5)]) 3 []; x.setCore 3 { x.core 3 with sbuf := [(0x0300000E, [1, 2, 3]), (0x03000000, [9])] }) : State).tornAt (((0x0300000E, [1, 2, 3]) : Nat × List Byte).1 + i) = none) := by decide +kernel

theorem test_wit_coreMemoryAccesses_10_5 : (((let x := run (st [(A.SYS_MODE, 5)]) 3 [(3, 0x03000010), (9, 0x8765432100FE)]; x.setCore 3 { x.core 3 with resv := some 0x03000010 }) : State).atInstruction (3 : Fin 5) = true) ∧ (regs3 (⟨0, 3, 9, 2⟩ : Fields) = true) ∧ (linkMisaligned (((let x := run (st [(A.SYS_MODE, 5)]) 3 [(3, 0x03000010), (9, 0x8765432100FE)]; x.setCore 3 { x.core 3 with resv := some 0x03000010 }) : State).ea (3 : Fin 5) (⟨0, 3, 9, 2⟩ : Fields)) = false) ∧ (reservable (3 : Fin 5) (((let x := run (st [(A.SYS_MODE, 5)]) 3 [(3, 0x03000010), (9, 0x8765432100FE)]; x.setCore 3 { x.core 3 with resv := some 0x03000010 }) : State).ea (3 : Fin 5) (⟨0, 3, 9, 2⟩ : Fields)) = true) ∧ (((let x := run (st [(A.SYS_MODE, 5)]) 3 [(3, 0x03000010), (9, 0x8765432100FE)]; x.setCore 3 { x.core 3 with resv := some 0x03000010 }) : State).storesPlain (3 : Fin 5) (((let x := run (st [(A.SYS_MODE, 5)]) 3 [(3, 0x03000010), (9, 0x8765432100FE)]; x.setCore 3 { x.core 3 with resv := some 0x03000010 }) : State).ea (3 : Fin 5) (⟨0, 3, 9, 2⟩ : Fields)) 6 = true) := by decide +kernel

theorem test_wit_coreMemoryAccesses_11_6 : (((run (st [(A.SYS_MODE, 5)]) 4 [(1, 0x0C20000E), (2, 0x0C200100), (3, 1)]).setBytes 0x0C200100 [1, 2, 3, 4, 5, 6] : State).atInstruction (4 : Fin 5) = true) ∧ (illBlock kindMov (⟨1, 2, 3, 0⟩ : Fields) = false) ∧ ((⟨1, 2, 3, 0⟩ : Fields).imm = 0) ∧ (((run (st [(A.SYS_MODE, 5)]) 4 [(1, 0x0C20000E), (2, 0x0C200100), (3, 1)]).setBytes 0x0C200100 [1, 2, 3, 4, 5, 6] : State).getR (4 : Fin 5) (⟨1, 2, 3, 0⟩ : Fields).rb ≠ 0) ∧ (((run (st [(A.SYS_MODE, 5)]) 4 [(1, 0x0C20000E), (2, 0x0C200100), (3, 1)]).setBytes 0x0C200100 [1, 2, 3, 4, 5, 6] : State).deterministic (4 : Fin 5) = true) ∧ (((run (st [(A.SYS_MODE, 5)]) 4 [(1, 0x0C20000E), (2, 0x0C200100), (3, 1)]).setBytes 0x0C200100 [1, 2, 3, 4, 5, 6] : State).loadsPlain (4 : Fin 5) (((run (st [(A.SYS_MODE, 5)]) 4 [(1, 0x0C20000E), (2, 0x0C200100), (3, 1)]).setBytes 0x0C200100 [1, 2, 3, 4, 5, 6] : State).getR (4 : Fin 5) (⟨1, 2, 3, 0⟩ : Fields).ra).toNat 6 = true) ∧ (((run (st [(A.SYS_MODE, 5)]) 4 [(1, 0x0C20000E), (2, 0x0C200100), (3, 1)]).setBytes 0x0C200100 [1, 2, 3, 4, 5, 6] : State).storesPlain (4 : Fin 5) (((run (st [(A.SYS_MODE, 5)]) 4 [(1, 0x0C20000E), (2, 0x0C200100), (3, 1)]).setBytes 0x0C200100 [1, 2, 3, 4, 5, 6] : State).getR (4 : Fin 5) (⟨1, 2, 3, 0⟩ : Fields).rd).toNat 6 = true) := by decide +kernel

theorem test_wit_coreMemoryAccesses_12_6 : (((run (st [(A.SYS_MODE, 5)]) 4 [(1, 0x0C20000E), (2, 0x0C200100), (3, 1)]).setBytes 0x0C200100 [1, 2, 3, 4, 5, 6] : State).atInstruction (4 : Fin 5) = true) ∧ (illBlock kindFill (⟨1, 2, 3, 0⟩ : Fields) = false) ∧ (((run (st [(A.SYS_MODE, 5)]) 4 [(1, 0x0C20000E), (2, 0x0C200100), (3, 1)]).setBytes 0x0C200100 [1, 2, 3, 4, 5, 6] : State).getR (4 : Fin 5) (⟨1, 2, 3, 0⟩ : Fields).rb ≠ 0) ∧ (((run (st [(A.SYS_MODE, 5)]) 4 [(1, 0x0C20000E), (2, 0x0C200100), (3, 1)]).setBytes 0x0C200100 [1, 2, 3, 4, 5, 6] : State).deterministic (4 : Fin 5) = true) ∧ (((run (st [(A.SYS_MODE, 5)]) 4 [(1, 0x0C20000E), (2, 0x0C200100), (3, 1)]).setBytes 0x0C200100 [1, 2, 3, 4, 5, 6] : State).storesPlain (4 : Fin 5) (((run (st [(A.SYS_MODE, 5)]) 4 [(1, 0x0C20000E), (2, 0x0C200100), (3, 1)]).setBytes 0x0C200100 [1, 2, 3, 4, 5, 6] : State).getR (4 : Fin 5) (⟨1, 2, 3, 0⟩ : Fields).rd).toNat 6 = true) := by decide +kernel

theorem test_wit_coreMemoryAccesses_13_6 : (((run (st [(A.SYS_MODE, 5)]) 4 [(1, 0x0C20000E), (2, 0x0C200100), (3, 1)]).setBytes 0x0C200100 [1, 2, 3, 4, 5, 6] : State).atInstruction (4 : Fin 5) = true) ∧ (illBlock kindCmp (⟨1, 2, 3, 0⟩ : Fields) = false) ∧ (((run (st [(A.SYS_MODE, 5)]) 4 [(1, 0x0C20000E), (2, 0x0C200100), (3, 1)]).setBytes 0x0C200100 [1, 2, 3, 4, 5, 6] : State).getR (4 : Fin 5) (⟨1, 2, 3, 0⟩ : Fields).rb ≠ 0) ∧ (((run (st [(A.SYS_MODE, 5)]) 4 [(1, 0x0C20000E), (2, 0x0C200100), (3, 1)]).setBytes 0x0C200100 [1, 2, 3, 4, 5, 6] : State).loadsPlain (4 : Fin 5) (((run (st [(A.SYS_MODE, 5)]) 4 [(1, 0x0C20000E), (2, 0x0C200100), (3, 1)]).setBytes 0x0C200100 [1, 2, 3, 4, 5, 6] : State).getR (4 : Fin 5) (⟨1, 2, 3, 0⟩ : Fields).rd).toNat 6 = true) ∧ (((run (st [(A.SYS_MODE, 5)]) 4 [(1, 0x0C20000E), (2, 0x0C200100), (3, 1)]).setBytes 0x0C200100 [1, 2, 3, 4, 5, 6] : State).loadsPlain (4 : Fin 5) (((run (st [(A.SYS_MODE, 5)]) 4 [(1, 0x0C20000E), (2, 0x0C200100), (3, 1)]).setBytes 0x0C200100 [1, 2, 3, 4, 5, 6] : State).getR (4 : Fin 5) (⟨1, 2, 3, 0⟩ : Fields).ra).toNat 6 = true) := by decide +kernel

theorem test_wit_coreMemoryAccesses_14_6 : (((run (st [(A.SYS_MODE, 5)]) 4 [(1, 0x0C20000E), (2, 0x0C200100), (3, 1)]).setBytes 0x0C200100 [1, 2, 3, 4, 5, 6] : State).atInstruction (4 : Fin 5) = true) ∧ (illBlock kindScan (⟨1, 2, 3, 0⟩ : Fields) = false) ∧ ((⟨1, 2, 3, 0⟩ : Fields).imm = 0) ∧ (((run (st [(A.SYS_MODE, 5)]) 4 [(1, 0x0C20000E), (2, 0x0C200100), (3, 1)]).setBytes 0x0C200100 [1, 2, 3, 4, 5, 6] : State).getR (4 : Fin 5) (⟨1, 2, 3, 0⟩ : Fields).rb ≠ 0) ∧ (((run (st [(A.SYS_MODE, 5)]) 4 [(1, 0x0C20000E), (2, 0x0C200100), (3, 1)]).setBytes 0x0C200100 [1, 2, 3, 4, 5, 6] : State).loadsPlain (4 : Fin 5) (((run (st [(A.SYS_MODE, 5)]) 4 [(1, 0x0C20000E), (2, 0x0C200100), (3, 1)]).setBytes 0x0C200100 [1, 2, 3, 4, 5, 6] : State).getR (4 : Fin 5) (⟨1, 2, 3, 0⟩ : Fields).rd).toNat 6 = true) := by decide +kernel

theorem test_wit_coreMemoryAccesses_11_7 : (((run (st [(A.SYS_MODE, 5)]) 4 [(1, 0x0C20000E), (2, 0x0C200000), (3, 0xFFFFFFFFFFFF)]) : State).atInstruction (4 : Fin 5) = true) ∧ (illBlock kindMov (⟨1, 2, 3, 0⟩ : Fields) = false) ∧ ((⟨1, 2, 3, 0⟩ : Fields).imm = 0) ∧ (((run (st [(A.SYS_MODE, 5)]) 4 [(1, 0x0C20000E), (2, 0x0C200000), (3, 0xFFFFFFFFFFFF)]) : State).getR (4 : Fin 5) (⟨1, 2, 3, 0⟩ : Fields).rb ≠ 0) ∧ (((run (st [(A.SYS_MODE, 5)]) 4 [(1, 0x0C20000E), (2, 0x0C200000), (3, 0xFFFFFFFFFFFF)]) : State).deterministic (4 : Fin 5) = true) ∧ (((run (st [(A.SYS_MODE, 5)]) 4 [(1, 0x0C20000E), (2, 0x0C200000), (3, 0xFFFFFFFFFFFF)]) : State).loadsPlain (4 : Fin 5) (((run (st [(A.SYS_MODE, 5)]) 4 [(1, 0x0C20000E), (2, 0x0C200000), (3, 0xFFFFFFFFFFFF)]) : State).getR (4 : Fin 5) (⟨1, 2, 3, 0⟩ : Fields).ra).toNat 6 = true) ∧ (((run (st [(A.SYS_MODE, 5)]) 4 [(1, 0x0C20000E), (2, 0x0C200000), (3, 0xFFFFFFFFFFFF)]) : State).storesPlain (4 : Fin 5) (((run (st [(A.SYS_MODE, 5)]) 4 [(1, 0x0C20000E), (2, 0x0C200000), (3, 0xFFFFFFFFFFFF)]) : State).getR (4 : Fin 5) (⟨1, 2, 3, 0⟩ : Fields).rd).toNat 6 = true) := by decide +kernel

theorem test_wit_coreMemoryAccesses_12_7 : (((run (st [(A.SYS_MODE, 5)]) 4 [(1, 0x0C20000E), (2, 0x0C200000), (3, 0xFFFFFFFFFFFF)]) : State).atInstruction (4 : Fin 5) = true) ∧ (illBlock kindFill (⟨1, 2, 3, 0⟩ : Fields) = false) ∧ (((run (st [(A.SYS_MODE, 5)]) 4 [(1, 0x0C20000E), (2, 0x0C200000), (3, 0xFFFFFFFFFFFF)]) : State).getR (4 : Fin 5) (⟨1, 2, 3, 0⟩ : Fields).rb ≠ 0) ∧ (((run (st [(A.SYS_MODE, 5)]) 4 [(1, 0x0C20000E), (2, 0x0C200000), (3, 0xFFFFFFFFFFFF)]) : State).deterministic (4 : Fin 5) = true) ∧ (((run (st [(A.SYS_MODE, 5)]) 4 [(1, 0x0C20000E), (2, 0x0C200000), (3, 0xFFFFFFFFFFFF)]) : State).storesPlain (4 : Fin 5) (((run (st [(A.SYS_MODE, 5)]) 4 [(1, 0x0C20000E), (2, 0x0C200000), (3, 0xFFFFFFFFFFFF)]) : State).getR (4 : Fin 5) (⟨1, 2, 3, 0⟩ : Fields).rd).toNat 6 = true) := by decide +kernel

theorem test_wit_coreMemoryAccesses_13_7 : (((run (st [(A.SYS_MODE, 5)]) 4 [(1, 0x0C20000E), (2, 0x0C200000), (3, 0xFFFFFFFFFFFF)]) : State).atInstruction (4 : Fin 5) = true) ∧ (illBlock kindCmp (⟨1, 2, 3, 0⟩ : Fields) = false) ∧ (((run (st [(A.SYS_MODE, 5)]) 4 [(1, 0x0C20000E), (2, 0x0C200000), (3, 0xFFFFFFFFFFFF)]) : State).getR (4 : Fin 5) (⟨1, 2, 3, 0⟩ : Fields).rb ≠ 0) ∧ (((run (st [(A.SYS_MODE, 5)]) 4 [(1, 0x0C20000E), (2, 0x0C200000), (3, 0xFFFFFFFFFFFF)]) : State).loadsPlain (4 : Fin 5) (((run (st [(A.SYS_MODE, 5)]) 4 [(1, 0x0C20000E), (2, 0x0C200000), (3, 0xFFFFFFFFFFFF)]) : State).getR (4 : Fin 5) (⟨1, 2, 3, 0⟩ : Fields).rd).toNat 6 = true) ∧ (((run (st [(A.SYS_MODE, 5)]) 4 [(1, 0x0C20000E), (2, 0x0C200000), (3, 0xFFFFFFFFFFFF)]) : State).loadsPlain (4 : Fin 5) (((run (st [(A.SYS_MODE, 5)]) 4 [(1, 0x0C20000E), (2, 0x0C200000), (3, 0xFFFFFFFFFFFF)]) : State).getR (4 : Fin 5) (⟨1, 2, 3, 0⟩ : Fields).ra).toNat 6 = true) := by decide +kernel

theorem test_wit_coreMemoryAccesses_14_7 : (((run (st [(A.SYS_MODE, 5)]) 4 [(1, 0x0C20000E), (2, 0x0C200000), (3, 0xFFFFFFFFFFFF)]) : State).atInstruction (4 : Fin 5) = true) ∧ (illBlock kindScan (⟨1, 2, 3, 0⟩ : Fields) = false) ∧ ((⟨1, 2, 3, 0⟩ : Fields).imm = 0) ∧ (((run (st [(A.SYS_MODE, 5)]) 4 [(1, 0x0C20000E), (2, 0x0C200000), (3, 0xFFFFFFFFFFFF)]) : State).getR (4 : Fin 5) (⟨1, 2, 3, 0⟩ : Fields).rb ≠ 0) ∧ (((run (st [(A.SYS_MODE, 5)]) 4 [(1, 0x0C20000E), (2, 0x0C200000), (3, 0xFFFFFFFFFFFF)]) : State).loadsPlain (4 : Fin 5) (((run (st [(A.SYS_MODE, 5)]) 4 [(1, 0x0C20000E), (2, 0x0C200000), (3, 0xFFFFFFFFFFFF)]) : State).getR (4 : Fin 5) (⟨1, 2, 3, 0⟩ : Fields).rd).toNat 6 = true) := by decide +kernel

theorem test_wit_controlTransfersAndWindows_1_1 : ((run (st [(A.SYS_MODE, 5)]) 3 [(1, 0x800000000000), (2, 5)] : State).atInstruction (3 : Fin 5) = true) ∧ ((⟨0, 1, 2, 0x3FFFFF⟩ : Fields).rd = 0) ∧ (regOk (⟨0, 1, 2, 0x3FFFFF⟩ : Fields).ra = true) ∧ (regOk (⟨0, 1, 2, 0x3FFFFF⟩ : Fields).rb = true) := by decide +kernel

theorem test_wit_controlTransfersAndWindows_2_1 : ((run (st [(A.SYS_MODE, 5)]) 3 [(1, 0x800000000000), (2, 5)] : State).atInstruction (3 : Fin 5) = true) ∧ ((⟨0, 1, 2, 0x3FFFFF⟩ : Fields).rd = 0) ∧ (regOk (⟨0, 1, 2, 0x3FFFFF⟩ : Fields).ra = true) ∧ (regOk (⟨0, 1, 2, 0x3FFFFF⟩ : Fields).rb = true) := by decide +kernel

theorem test_wit_controlTransfersAndWindows_3_1 : ((run (st [(A.SYS_MODE, 5)]) 3 [(1, 0x800000000000), (2, 5)] : State).atInstruction (3 : Fin 5) = true) ∧ ((⟨0, 1, 2, 0x3FFFFF⟩ : Fields).rd = 0) ∧ (regOk (⟨0, 1, 2, 0x3FFFFF⟩ : Fields).ra = true) ∧ (regOk (⟨0, 1, 2, 0x3FFFFF⟩ : Fields).rb = true) := by decide +kernel

theorem test_wit_controlTransfersAndWindows_4_1 : ((run (st [(A.SYS_MODE, 5)]) 3 [(1, 0x800000000000), (2, 5)] : State).atInstruction (3 : Fin 5) = true) ∧ ((⟨0, 1, 2, 0x3FFFFF⟩ : Fields).rd = 0) ∧ (regOk (⟨0, 1, 2, 0x3FFFFF⟩ : Fields).ra = true) ∧ (regOk (⟨0, 1, 2, 0x3FFFFF⟩ : Fields).rb = true) := by decide +kernel

theorem test_wit_controlTransfersAndWindows_5_1 : ((run (st [(A.SYS_MODE, 5)]) 3 [(1, 0x800000000000), (2, 5)] : State).atInstruction (3 : Fin 5) = true) ∧ ((⟨0, 1, 2, 0x3FFFFF⟩ : Fields).rd = 0) ∧ (regOk (⟨0, 1, 2, 0x3FFFFF⟩ : Fields).ra = true) ∧ (regOk (⟨0, 1, 2, 0x3FFFFF⟩ : Fields).rb = true) := by decide +kernel

theorem test_wit_controlTransfersAndWindows_6_1 : ((run (st [(A.SYS_MODE, 5)]) 3 [(1, 0x800000000000), (2, 5)] : State).atInstruction (3 : Fin 5) = true) ∧ ((⟨0, 1, 2, 0x3FFFFF⟩ : Fields).rd = 0) ∧ (regOk (⟨0, 1, 2, 0x3FFFFF⟩ : Fields).ra = true) ∧ (regOk (⟨0, 1, 2, 0x3FFFFF⟩ : Fields).rb = true) := by decide +kernel

theorem test_wit_controlTransfersAndWindows_1_2 : ((run (st [(A.SYS_MODE, 5)]) 4 [(1, 5), (2, 5)] : State).atInstruction (4 : Fin 5) = true) ∧ ((⟨0, 1, 2, 100⟩ : Fields).rd = 0) ∧ (regOk (⟨0, 1, 2, 100⟩ : Fields).ra = true) ∧ (regOk (⟨0, 1, 2, 100⟩ : Fields).rb = true) := by decide +kernel

theorem test_wit_controlTransfersAndWindows_2_2 : ((run (st [(A.SYS_MODE, 5)]) 4 [(1, 5), (2, 5)] : State).atInstruction (4 : Fin 5) = true) ∧ ((⟨0, 1, 2, 100⟩ : Fields).rd = 0) ∧ (regOk (⟨0, 1, 2, 100⟩ : Fields).ra = true) ∧ (regOk (⟨0, 1, 2, 100⟩ : Fields).rb = true) := by decide +kernel

theorem test_wit_controlTransfersAndWindows_3_2 : ((run (st [(A.SYS_MODE, 5)]) 4 [(1, 5), (2, 5)] : State).atInstruction (4 : Fin 5) = true) ∧ ((⟨0, 1, 2, 100⟩ : Fields).rd = 0) ∧ (regOk (⟨0, 1, 2, 100⟩ : Fields).ra = true) ∧ (regOk (⟨0, 1, 2, 100⟩ : Fields).rb = true) := by decide +kernel

theorem test_wit_controlTransfersAndWindows_4_2 : ((run (st [(A.SYS_MODE, 5)]) 4 [(1, 5), (2, 5)] : State).atInstruction (4 : Fin 5) = true) ∧ ((⟨0, 1, 2, 100⟩ : Fields).rd = 0) ∧ (regOk (⟨0, 1, 2, 100⟩ : Fields).ra = true) ∧ (regOk (⟨0, 1, 2, 100⟩ : Fields).rb = true) := by decide +kernel

theorem test_wit_controlTransfersAndWindows_5_2 : ((run (st [(A.SYS_MODE, 5)]) 4 [(1, 5), (2, 5)] : State).atInstruction (4 : Fin 5) = true) ∧ ((⟨0, 1, 2, 100⟩ : Fields).rd = 0) ∧ (regOk (⟨0, 1, 2, 100⟩ : Fields).ra = true) ∧ (regOk (⟨0, 1, 2, 100⟩ : Fields).rb = true) := by decide +kernel

theorem test_wit_controlTransfersAndWindows_6_2 : ((run (st [(A.SYS_MODE, 5)]) 4 [(1, 5), (2, 5)] : State).atInstruction (4 : Fin 5) = true) ∧ ((⟨0, 1, 2, 100⟩ : Fields).rd = 0) ∧ (regOk (⟨0, 1, 2, 100⟩ : Fields).ra = true) ∧ (regOk (⟨0, 1, 2, 100⟩ : Fields).rb = true) := by decide +kernel

theorem test_wit_controlTransfersAndWindows_7_2 : ((run (st [(A.SYS_MODE, 5)]) 4 [(1, 5), (2, 5)] : State).atInstruction (4 : Fin 5) = true) ∧ ((⟨0, 0x300⟩ : JFields).rd = 0) := by decide +kernel

theorem test_wit_controlTransfersAndWindows_8_3 : ((run (st [(A.SYS_MODE, 5)]) 4 [(1, 0x0C100020), (2, 5)] : State).atInstruction (4 : Fin 5) = true) ∧ ((⟨0, 1, 0, 0⟩ : Fields).rd = 0) ∧ (regOk (⟨0, 1, 0, 0⟩ : Fields).ra = true) ∧ ((⟨0, 1, 0, 0⟩ : Fields).rb = 0) ∧ ((⟨0, 1, 0, 0⟩ : Fields).imm = 0) := by decide +kernel

theorem test_wit_controlTransfersAndWindows_9_4 : (((run (st [(A.SYS_MODE, 5)]) 1 [(1, 0x01100020)]).setSreg 1 4 25 : State).atInstruction (1 : Fin 5) = true) ∧ (1 ≤ (⟨3, 0x3FFFFFFF0⟩ : JFields).rd.toNat) ∧ ((⟨3, 0x3FFFFFFF0⟩ : JFields).rd.toNat ≤ 3) ∧ (((run (st [(A.SYS_MODE, 5)]) 1 [(1, 0x01100020)]).setSreg 1 4 25 : State).resBelow (1 : Fin 5) + (⟨3, 0x3FFFFFFF0⟩ : JFields).rd.toNat ≤ 28) := by decide +kernel

theorem test_wit_controlTransfersAndWindows_10_4 : (((run (st [(A.SYS_MODE, 5)]) 1 [(1, 0x01100020)]).setSreg 1 4 25 : State).atInstruction (1 : Fin 5) = true) ∧ (1 ≤ (⟨3, 1, 0, 0⟩ : Fields).rd.toNat) ∧ ((⟨3, 1, 0, 0⟩ : Fields).rd.toNat ≤ 3) ∧ (regOk (⟨3, 1, 0, 0⟩ : Fields).ra = true) ∧ ((⟨3, 1, 0, 0⟩ : Fields).rb = 0) ∧ ((⟨3, 1, 0, 0⟩ : Fields).imm = 0) ∧ (((run (st [(A.SYS_MODE, 5)]) 1 [(1, 0x01100020)]).setSreg 1 4 25 : State).resBelow (1 : Fin 5) + (⟨3, 1, 0, 0⟩ : Fields).rd.toNat ≤ 28) := by decide +kernel

theorem test_wit_controlTransfersAndWindows_9_5 : (((run (st [(A.SYS_MODE, 5)]) 4 [(1, 0x0C100020)]).setSreg 4 1 0xF8 : State).atInstruction (4 : Fin 5) = true) ∧ (1 ≤ (⟨3, 0x3FFFFFFF0⟩ : JFields).rd.toNat) ∧ ((⟨3, 0x3FFFFFFF0⟩ : JFields).rd.toNat ≤ 3) ∧ (((run (st [(A.SYS_MODE, 5)]) 4 [(1, 0x0C100020)]).setSreg 4 1 0xF8 : State).resBelow (4 : Fin 5) + (⟨3, 0x3FFFFFFF0⟩ : JFields).rd.toNat ≤ 28) := by decide +kernel

theorem test_wit_controlTransfersAndWindows_10_5 : (((run (st [(A.SYS_MODE, 5)]) 4 [(1, 0x0C100020)]).setSreg 4 1 0xF8 : State).atInstruction (4 : Fin 5) = true) ∧ (1 ≤ (⟨1, 1, 0, 0⟩ : Fields).rd.toNat) ∧ ((⟨1, 1, 0, 0⟩ : Fields).rd.toNat ≤ 3) ∧ (regOk (⟨1, 1, 0, 0⟩ : Fields).ra = true) ∧ ((⟨1, 1, 0, 0⟩ : Fields).rb = 0) ∧ ((⟨1, 1, 0, 0⟩ : Fields).imm = 0) ∧ (((run (st [(A.SYS_MODE, 5)]) 4 [(1, 0x0C100020)]).setSreg 4 1 0xF8 : State).resBelow (4 : Fin 5) + (⟨1, 1, 0, 0⟩ : Fields).rd.toNat ≤ 28) := by decide +kernel

theorem test_wit_controlTransfersAndWindows_11_6 : ((((run (st [(A.SYS_MODE, 5)]) 1 [(55, linkWord 0x01100206 0)]).setSreg 1 4 3).setSreg 1 1 24 : State).atInstruction (1 : Fin 5) = true) ∧ (noFields (⟨0, 0, 0, 0⟩ : Fields) = true) ∧ ((((run (st [(A.SYS_MODE, 5)]) 1 [(55, linkWord 0x01100206 0)]).setSreg 1 4 3).setSreg 1 1 24 : State).getR (1 : Fin 5) 31 = linkWord (0x01100206 : Word) (0 : Nat)) ∧ ((0 : Nat) < 32) ∧ (1 ≤ ((((run (st [(A.SYS_MODE, 5)]) 1 [(55, linkWord 0x01100206 0)]).setSreg 1 4 3).setSreg 1 1 24 : State).wbGroup (1 : Fin 5) + 32 - (0 : Nat)) % 32) ∧ (((((run (st [(A.SYS_MODE, 5)]) 1 [(55, linkWord 0x01100206 0)]).setSreg 1 4 3).setSreg 1 1 24 : State).wbGroup (1 : Fin 5) + 32 - (0 : Nat)) % 32 ≤ 3) ∧ (((((run (st [(A.SYS_MODE, 5)]) 1 [(55, linkWord 0x01100206 0)]).setSreg 1 4 3).setSreg 1 1 24 : State).wbGroup (1 : Fin 5) + 32 - (0 : Nat)) % 32 ≤ (((run (st [(A.SYS_MODE, 5)]) 1 [(55, linkWord 0x01100206 0)]).setSreg 1 4 3).setSreg 1 1 24 : State).resBelow (1 : Fin 5)) := by decide +kernel

theorem test_wit_controlTransfersAndWindows_14_6 : ((((run (st [(A.SYS_MODE, 5)]) 1 [(55, linkWord 0x01100206 0)]).setSreg 1 4 3).setSreg 1 1 24 : State).atInstruction (1 : Fin 5) = true) ∧ (noFields (⟨0, 0, 0, 0⟩ : Fields) = true) ∧ ((((run (st [(A.SYS_MODE, 5)]) 1 [(55, linkWord 0x01100206 0)]).setSreg 1 4 3).setSreg 1 1 24 : State).psrSup (1 : Fin 5) = true) ∧ ((((((run (st [(A.SYS_MODE, 5)]) 1 [(55, linkWord 0x01100206 0)]).setSreg 1 4 3).setSreg 1 1 24 : State).setRun (1 : Fin 5) .running).flush (1 : Fin 5) 32).isSome = true) := by decide +kernel

theorem test_wit_controlTransfersAndWindows_12_7 : (((run (st [(A.SYS_MODE, 5)]) 1 [(55, 77)]).setSreg 1 4 28 : State).engineClocked (1 : Fin 5) = true) ∧ (((run (st [(A.SYS_MODE, 5)]) 1 [(55, 77)]).setSreg 1 4 28 : State).deterministic (1 : Fin 5) = false) ∧ (((run (st [(A.SYS_MODE, 5)]) 1 [(55, 77)]).setSreg 1 4 28 : State).wantsSpill (1 : Fin 5) = true) ∧ (((run (st [(A.SYS_MODE, 5)]) 1 [(55, 77)]).setSreg 1 4 28 : State).wspValid (1 : Fin 5) = true) ∧ (1 ≤ ((run (st [(A.SYS_MODE, 5)]) 1 [(55, 77)]).setSreg 1 4 28 : State).resBelow (1 : Fin 5)) ∧ (((run (st [(A.SYS_MODE, 5)]) 1 [(55, 77)]).setSreg 1 4 28 : State).wdepth (1 : Fin 5) < 1000) ∧ (∀ i : Fin 48, ((run (st [(A.SYS_MODE, 5)]) 1 [(55, 77)]).setSreg 1 4 28 : State).tornAt ((((run (st [(A.SYS_MODE, 5)]) 1 [(55, 77)]).setSreg 1 4 28 : State).sreg (1 : Fin 5) 2).toNat - 48 + i) = none) := by decide +kernel

theorem test_wit_controlTransfersAndWindows_14_7 : (((run (st [(A.SYS_MODE, 5)]) 1 [(55, 77)]).setSreg 1 4 28 : State).atInstruction (1 : Fin 5) = true) ∧ (noFields (⟨0, 0, 0, 0⟩ : Fields) = true) ∧ (((run (st [(A.SYS_MODE, 5)]) 1 [(55, 77)]).setSreg 1 4 28 : State).psrSup (1 : Fin 5) = true) ∧ (((((run (st [(A.SYS_MODE, 5)]) 1 [(55, 77)]).setSreg 1 4 28 : State).setRun (1 : Fin 5) .running).flush (1 : Fin 5) 32).isSome = true) := by decide +kernel

theorem test_wit_controlTransfersAndWindows_13_8 : ((((run (st [(A.SYS_MODE, 5)]) 1 []).setSreg 1 2 0x02100100).setSreg 1 3 2 |> (fun x ↦ x.setBytes 0x02100100 [1, 2, 3, 4, 5, 6]) : State).engineClocked (1 : Fin 5) = true) ∧ ((((run (st [(A.SYS_MODE, 5)]) 1 []).setSreg 1 2 0x02100100).setSreg 1 3 2 |> (fun x ↦ x.setBytes 0x02100100 [1, 2, 3, 4, 5, 6]) : State).deterministic (1 : Fin 5) = false) ∧ ((((run (st [(A.SYS_MODE, 5)]) 1 []).setSreg 1 2 0x02100100).setSreg 1 3 2 |> (fun x ↦ x.setBytes 0x02100100 [1, 2, 3, 4, 5, 6]) : State).wantsFill (1 : Fin 5) = true) ∧ ((((run (st [(A.SYS_MODE, 5)]) 1 []).setSreg 1 2 0x02100100).setSreg 1 3 2 |> (fun x ↦ x.setBytes 0x02100100 [1, 2, 3, 4, 5, 6]) : State).wspValid (1 : Fin 5) = true) ∧ (((((run (st [(A.SYS_MODE, 5)]) 1 []).setSreg 1 2 0x02100100).setSreg 1 3 2 |> (fun x ↦ x.setBytes 0x02100100 [1, 2, 3, 4, 5, 6]) : State).core (1 : Fin 5)).sbuf = []) ∧ (stackMemory (1 : Fin 5) ((((run (st [(A.SYS_MODE, 5)]) 1 []).setSreg 1 2 0x02100100).setSreg 1 3 2 |> (fun x ↦ x.setBytes 0x02100100 [1, 2, 3, 4, 5, 6]) : State).sreg (1 : Fin 5) 2).toNat = true) ∧ ((((run (st [(A.SYS_MODE, 5)]) 1 []).setSreg 1 2 0x02100100).setSreg 1 3 2 |> (fun x ↦ x.setBytes 0x02100100 [1, 2, 3, 4, 5, 6]) : State).stackOpen (1 : Fin 5) ((((run (st [(A.SYS_MODE, 5)]) 1 []).setSreg 1 2 0x02100100).setSreg 1 3 2 |> (fun x ↦ x.setBytes 0x02100100 [1, 2, 3, 4, 5, 6]) : State).sreg (1 : Fin 5) 2).toNat = true) ∧ ((((run (st [(A.SYS_MODE, 5)]) 1 []).setSreg 1 2 0x02100100).setSreg 1 3 2 |> (fun x ↦ x.setBytes 0x02100100 [1, 2, 3, 4, 5, 6]) : State).eccRead ((((run (st [(A.SYS_MODE, 5)]) 1 []).setSreg 1 2 0x02100100).setSreg 1 3 2 |> (fun x ↦ x.setBytes 0x02100100 [1, 2, 3, 4, 5, 6]) : State).sreg (1 : Fin 5) 2).toNat 48 = (false, (((run (st [(A.SYS_MODE, 5)]) 1 []).setSreg 1 2 0x02100100).setSreg 1 3 2 |> (fun x ↦ x.setBytes 0x02100100 [1, 2, 3, 4, 5, 6]) : State))) := by decide +kernel

theorem test_wit_systemInstructionsAndExceptions_1_1 : (((run (st [(A.SYS_MODE, 5)]) 0 []).setCore 0 { (run (st [(A.SYS_MODE, 5)]) 0 []).core 0 with sbuf := [(0x03000000, [1, 2])] } : State).atInstruction (0 : Fin 5) = true) ∧ (regOk (⟨0, 0, 0, 0⟩ : Fields).rd = true) ∧ ((⟨0, 0, 0, 0⟩ : Fields).ra = 0) ∧ ((⟨0, 0, 0, 0⟩ : Fields).rb = 0) ∧ (badSreg (⟨0, 0, 0, 0⟩ : Fields) = false) ∧ (((run (st [(A.SYS_MODE, 5)]) 0 []).setCore 0 { (run (st [(A.SYS_MODE, 5)]) 0 []).core 0 with sbuf := [(0x03000000, [1, 2])] } : State).psrSup (0 : Fin 5) = true) := by decide +kernel

theorem test_wit_systemInstructionsAndExceptions_3_1 : (((run (st [(A.SYS_MODE, 5)]) 0 []).setCore 0 { (run (st [(A.SYS_MODE, 5)]) 0 []).core 0 with sbuf := [(0x03000000, [1, 2])] } : State).atInstruction (0 : Fin 5) = true) ∧ (noFields (⟨0, 0, 0, 0⟩ : Fields) = true) := by decide +kernel

theorem test_wit_systemInstructionsAndExceptions_4_1 : (((run (st [(A.SYS_MODE, 5)]) 0 []).setCore 0 { (run (st [(A.SYS_MODE, 5)]) 0 []).core 0 with sbuf := [(0x03000000, [1, 2])] } : State).atInstruction (0 : Fin 5) = true) ∧ (noFields (⟨0, 0, 0, 0⟩ : Fields) = true) := by decide +kernel

theorem test_wit_systemInstructionsAndExceptions_5_1 : (((run (st [(A.SYS_MODE, 5)]) 0 []).setCore 0 { (run (st [(A.SYS_MODE, 5)]) 0 []).core 0 with sbuf := [(0x03000000, [1, 2])] } : State).atInstruction (0 : Fin 5) = true) ∧ ((⟨0, 0, 0, 0⟩ : Fields).rd = 0) ∧ ((⟨0, 0, 0, 0⟩ : Fields).ra = 0) ∧ ((⟨0, 0, 0, 0⟩ : Fields).rb = 0) ∧ (((run (st [(A.SYS_MODE, 5)]) 0 []).setCore 0 { (run (st [(A.SYS_MODE, 5)]) 0 []).core 0 with sbuf := [(0x03000000, [1, 2])] } : State).psrLevel (0 : Fin 5) < 6) ∧ (((run (st [(A.SYS_MODE, 5)]) 0 []).setCore 0 { (run (st [(A.SYS_MODE, 5)]) 0 []).core 0 with sbuf := [(0x03000000, [1, 2])] } : State).fetchDenied (0 : Fin 5) true (vector (0 : Fin 5) 8) = none) := by decide +kernel

theorem test_wit_systemInstructionsAndExceptions_7_1 : (((run (st [(A.SYS_MODE, 5)]) 0 []).setCore 0 { (run (st [(A.SYS_MODE, 5)]) 0 []).core 0 with sbuf := [(0x03000000, [1, 2])] } : State).atInstruction (0 : Fin 5) = true) ∧ (noFields (⟨0, 0, 0, 0⟩ : Fields) = true) ∧ (((run (st [(A.SYS_MODE, 5)]) 0 []).setCore 0 { (run (st [(A.SYS_MODE, 5)]) 0 []).core 0 with sbuf := [(0x03000000, [1, 2])] } : State).psrSup (0 : Fin 5) = true) ∧ (((run (st [(A.SYS_MODE, 5)]) 0 []).setCore 0 { (run (st [(A.SYS_MODE, 5)]) 0 []).core 0 with sbuf := [(0x03000000, [1, 2])] } : State).icuRequest (0 : Fin 5) = 0) := by decide +kernel

theorem test_wit_systemInstructionsAndExceptions_2_2 : (((run (st [(A.SYS_MODE, 5)]) 4 [(7, 0xFFFFFFFFFFFF)]).setSreg 4 0x41 5 : State).atInstruction (4 : Fin 5) = true) ∧ ((⟨0, 7, 0, 0x41⟩ : Fields).rd = 0) ∧ (regOk (⟨0, 7, 0, 0x41⟩ : Fields).ra = true) ∧ ((⟨0, 7, 0, 0x41⟩ : Fields).rb = 0) ∧ (badSreg (⟨0, 7, 0, 0x41⟩ : Fields) = false) ∧ (((run (st [(A.SYS_MODE, 5)]) 4 [(7, 0xFFFFFFFFFFFF)]).setSreg 4 0x41 5 : State).psrSup (4 : Fin 5) = true) ∧ ((⟨0, 7, 0, 0x41⟩ : Fields).imm ≠ 2 ∨ (((run (st [(A.SYS_MODE, 5)]) 4 [(7, 0xFFFFFFFFFFFF)]).setSreg 4 0x41 5 : State).due (spillEvent (4 : Fin 5)) = false ∧ ((run (st [(A.SYS_MODE, 5)]) 4 [(7, 0xFFFFFFFFFFFF)]).setSreg 4 0x41 5 : State).due (fillEvent (4 : Fin 5)) = false)) := by decide +kernel

theorem test_wit_systemInstructionsAndExceptions_2_3 : (((run (st [(A.SYS_MODE, 5)]) 4 [(7, 0xFFFFFFFFFFFF)]) : State).atInstruction (4 : Fin 5) = true) ∧ ((⟨0, 7, 0, 1⟩ : Fields).rd = 0) ∧ (regOk (⟨0, 7, 0, 1⟩ : Fields).ra = true) ∧ ((⟨0, 7, 0, 1⟩ : Fields).rb = 0) ∧ (badSreg (⟨0, 7, 0, 1⟩ : Fields) = false) ∧ (((run (st [(A.SYS_MODE, 5)]) 4 [(7, 0xFFFFFFFFFFFF)]) : State).psrSup (4 : Fin 5) = true) ∧ ((⟨0, 7, 0, 1⟩ : Fields).imm ≠ 2 ∨ (((run (st [(A.SYS_MODE, 5)]) 4 [(7, 0xFFFFFFFFFFFF)]) : State).due (spillEvent (4 : Fin 5)) = false ∧ ((run (st [(A.SYS_MODE, 5)]) 4 [(7, 0xFFFFFFFFFFFF)]) : State).due (fillEvent (4 : Fin 5)) = false)) := by decide +kernel

theorem test_wit_systemInstructionsAndExceptions_13_4 : ((((run (st [(A.SYS_MODE, 5)]) 1 [(7, 0x02100200)]).setSreg 1 4 28).after 3 (spillEvent 1) : State).atInstruction (1 : Fin 5) = true) ∧ ((⟨0, 7, 0, 2⟩ : Fields).rd = 0) ∧ (regOk (⟨0, 7, 0, 2⟩ : Fields).ra = true) ∧ ((⟨0, 7, 0, 2⟩ : Fields).rb = 0) ∧ ((⟨0, 7, 0, 2⟩ : Fields).imm = 2) ∧ ((((run (st [(A.SYS_MODE, 5)]) 1 [(7, 0x02100200)]).setSreg 1 4 28).after 3 (spillEvent 1) : State).psrSup (1 : Fin 5) = true) ∧ ((((run (st [(A.SYS_MODE, 5)]) 1 [(7, 0x02100200)]).setSreg 1 4 28).after 3 (spillEvent 1) : State).due (spillEvent (1 : Fin 5)) = true) ∧ ((((run (st [(A.SYS_MODE, 5)]) 1 [(7, 0x02100200)]).setSreg 1 4 28).after 3 (spillEvent 1) : State).wantsSpill (1 : Fin 5) = true) ∧ ((((run (st [(A.SYS_MODE, 5)]) 1 [(7, 0x02100200)]).setSreg 1 4 28).after 3 (spillEvent 1) : State).wspValid (1 : Fin 5) = true) ∧ (1 ≤ (((run (st [(A.SYS_MODE, 5)]) 1 [(7, 0x02100200)]).setSreg 1 4 28).after 3 (spillEvent 1) : State).resBelow (1 : Fin 5)) ∧ ((((run (st [(A.SYS_MODE, 5)]) 1 [(7, 0x02100200)]).setSreg 1 4 28).after 3 (spillEvent 1) : State).wdepth (1 : Fin 5) < 1000) ∧ (∀ i : Fin 48, (((run (st [(A.SYS_MODE, 5)]) 1 [(7, 0x02100200)]).setSreg 1 4 28).after 3 (spillEvent 1) : State).tornAt (((((run (st [(A.SYS_MODE, 5)]) 1 [(7, 0x02100200)]).setSreg 1 4 28).after 3 (spillEvent 1) : State).sreg (1 : Fin 5) 2).toNat - 48 + i) = none) := by decide +kernel

theorem test_wit_systemInstructionsAndExceptions_6_5 : (((((run (st [(A.SYS_MODE, 5)]) 1 []).setSreg 1 0 0xD).setSreg 1 0x17 0x42).setSreg 1 0x16 0x01100206 : State).atInstruction (1 : Fin 5) = true) ∧ (noFields (⟨0, 0, 0, 0⟩ : Fields) = true) ∧ (((((run (st [(A.SYS_MODE, 5)]) 1 []).setSreg 1 0 0xD).setSreg 1 0x17 0x42).setSreg 1 0x16 0x01100206 : State).psrSup (1 : Fin 5) = true) ∧ (1 ≤ ((((run (st [(A.SYS_MODE, 5)]) 1 []).setSreg 1 0 0xD).setSreg 1 0x17 0x42).setSreg 1 0x16 0x01100206 : State).psrLevel (1 : Fin 5)) ∧ (((((run (st [(A.SYS_MODE, 5)]) 1 []).setSreg 1 0 0xD).setSreg 1 0x17 0x42).setSreg 1 0x16 0x01100206 : State).psrLevel (1 : Fin 5) < 7 ∨ ((((run (st [(A.SYS_MODE, 5)]) 1 []).setSreg 1 0 0xD).setSreg 1 0x17 0x42).setSreg 1 0x16 0x01100206 : State).wdepth (1 : Fin 5) ≤ getBits (((((run (st [(A.SYS_MODE, 5)]) 1 []).setSreg 1 0 0xD).setSreg 1 0x17 0x42).setSreg 1 0x16 0x01100206 : State).sreg (1 : Fin 5) 0x1F) 16 30) ∧ (getBits (((((run (st [(A.SYS_MODE, 5)]) 1 []).setSreg 1 0 0xD).setSreg 1 0x17 0x42).setSreg 1 0x16 0x01100206 : State).sreg (1 : Fin 5) (spsReg (((((run (st [(A.SYS_MODE, 5)]) 1 []).setSreg 1 0 0xD).setSreg 1 0x17 0x42).setSreg 1 0x16 0x01100206 : State).psrLevel (1 : Fin 5)))) 2 3 < ((((run (st [(A.SYS_MODE, 5)]) 1 []).setSreg 1 0 0xD).setSreg 1 0x17 0x42).setSreg 1 0x16 0x01100206 : State).psrLevel (1 : Fin 5)) ∧ ((((((run (st [(A.SYS_MODE, 5)]) 1 []).setSreg 1 0 0xD).setSreg 1 0x17 0x42).setSreg 1 0x16 0x01100206 : State).sreg (1 : Fin 5) (spsReg (((((run (st [(A.SYS_MODE, 5)]) 1 []).setSreg 1 0 0xD).setSreg 1 0x17 0x42).setSreg 1 0x16 0x01100206 : State).psrLevel (1 : Fin 5)))).getLsbD 0 = false ∨ (((((run (st [(A.SYS_MODE, 5)]) 1 []).setSreg 1 0 0xD).setSreg 1 0x17 0x42).setSreg 1 0x16 0x01100206 : State).sreg (1 : Fin 5) (spsReg (((((run (st [(A.SYS_MODE, 5)]) 1 []).setSreg 1 0 0xD).setSreg 1 0x17 0x42).setSreg 1 0x16 0x01100206 : State).psrLevel (1 : Fin 5)))).getLsbD 6 = true) ∧ (((((run (st [(A.SYS_MODE, 5)]) 1 []).setSreg 1 0 0xD).setSreg 1 0x17 0x42).setSreg 1 0x16 0x01100206 : State).chainLevel (1 : Fin 5) (((((run (st [(A.SYS_MODE, 5)]) 1 []).setSreg 1 0 0xD).setSreg 1 0x17 0x42).setSreg 1 0x16 0x01100206 : State).sreg (1 : Fin 5) (spsReg (((((run (st [(A.SYS_MODE, 5)]) 1 []).setSreg 1 0 0xD).setSreg 1 0x17 0x42).setSreg 1 0x16 0x01100206 : State).psrLevel (1 : Fin 5)))) = 0) := by decide +kernel

theorem test_wit_systemInstructionsAndExceptions_6_6 : ((((((run (st [(A.SYS_MODE, 5)]) 1 []).setSreg 1 0 0x1D).setSreg 1 0x1F 0x4B).setSreg 1 0x1E 0x01100206).setSreg 1 6 0x02100030 : State).atInstruction (1 : Fin 5) = true) ∧ (noFields (⟨0, 0, 0, 0⟩ : Fields) = true) ∧ ((((((run (st [(A.SYS_MODE, 5)]) 1 []).setSreg 1 0 0x1D).setSreg 1 0x1F 0x4B).setSreg 1 0x1E 0x01100206).setSreg 1 6 0x02100030 : State).psrSup (1 : Fin 5) = true) ∧ (1 ≤ (((((run (st [(A.SYS_MODE, 5)]) 1 []).setSreg 1 0 0x1D).setSreg 1 0x1F 0x4B).setSreg 1 0x1E 0x01100206).setSreg 1 6 0x02100030 : State).psrLevel (1 : Fin 5)) ∧ ((((((run (st [(A.SYS_MODE, 5)]) 1 []).setSreg 1 0 0x1D).setSreg 1 0x1F 0x4B).setSreg 1 0x1E 0x01100206).setSreg 1 6 0x02100030 : State).psrLevel (1 : Fin 5) < 7 ∨ (((((run (st [(A.SYS_MODE, 5)]) 1 []).setSreg 1 0 0x1D).setSreg 1 0x1F 0x4B).setSreg 1 0x1E 0x01100206).setSreg 1 6 0x02100030 : State).wdepth (1 : Fin 5) ≤ getBits ((((((run (st [(A.SYS_MODE, 5)]) 1 []).setSreg 1 0 0x1D).setSreg 1 0x1F 0x4B).setSreg 1 0x1E 0x01100206).setSreg 1 6 0x02100030 : State).sreg (1 : Fin 5) 0x1F) 16 30) ∧ (getBits ((((((run (st [(A.SYS_MODE, 5)]) 1 []).setSreg 1 0 0x1D).setSreg 1 0x1F 0x4B).setSreg 1 0x1E 0x01100206).setSreg 1 6 0x02100030 : State).sreg (1 : Fin 5) (spsReg ((((((run (st [(A.SYS_MODE, 5)]) 1 []).setSreg 1 0 0x1D).setSreg 1 0x1F 0x4B).setSreg 1 0x1E 0x01100206).setSreg 1 6 0x02100030 : State).psrLevel (1 : Fin 5)))) 2 3 < (((((run (st [(A.SYS_MODE, 5)]) 1 []).setSreg 1 0 0x1D).setSreg 1 0x1F 0x4B).setSreg 1 0x1E 0x01100206).setSreg 1 6 0x02100030 : State).psrLevel (1 : Fin 5)) ∧ (((((((run (st [(A.SYS_MODE, 5)]) 1 []).setSreg 1 0 0x1D).setSreg 1 0x1F 0x4B).setSreg 1 0x1E 0x01100206).setSreg 1 6 0x02100030 : State).sreg (1 : Fin 5) (spsReg ((((((run (st [(A.SYS_MODE, 5)]) 1 []).setSreg 1 0 0x1D).setSreg 1 0x1F 0x4B).setSreg 1 0x1E 0x01100206).setSreg 1 6 0x02100030 : State).psrLevel (1 : Fin 5)))).getLsbD 0 = false ∨ ((((((run (st [(A.SYS_MODE, 5)]) 1 []).setSreg 1 0 0x1D).setSreg 1 0x1F 0x4B).setSreg 1 0x1E 0x01100206).setSreg 1 6 0x02100030 : State).sreg (1 : Fin 5) (spsReg ((((((run (st [(A.SYS_MODE, 5)]) 1 []).setSreg 1 0 0x1D).setSreg 1 0x1F 0x4B).setSreg 1 0x1E 0x01100206).setSreg 1 6 0x02100030 : State).psrLevel (1 : Fin 5)))).getLsbD 6 = true) ∧ ((((((run (st [(A.SYS_MODE, 5)]) 1 []).setSreg 1 0 0x1D).setSreg 1 0x1F 0x4B).setSreg 1 0x1E 0x01100206).setSreg 1 6 0x02100030 : State).chainLevel (1 : Fin 5) ((((((run (st [(A.SYS_MODE, 5)]) 1 []).setSreg 1 0 0x1D).setSreg 1 0x1F 0x4B).setSreg 1 0x1E 0x01100206).setSreg 1 6 0x02100030 : State).sreg (1 : Fin 5) (spsReg ((((((run (st [(A.SYS_MODE, 5)]) 1 []).setSreg 1 0 0x1D).setSreg 1 0x1F 0x4B).setSreg 1 0x1E 0x01100206).setSreg 1 6 0x02100030 : State).psrLevel (1 : Fin 5)))) = 0) := by decide +kernel

theorem test_wit_systemInstructionsAndExceptions_8_7 : ((run (st [(A.SYS_MODE, 5), (A.DBG_CTL, 6)]) 1 [] : State).atInstruction (1 : Fin 5) = true) ∧ (noFields (⟨0, 0, 0, 0⟩ : Fields) = true) ∧ ((run (st [(A.SYS_MODE, 5), (A.DBG_CTL, 6)]) 1 [] : State).monitorMay (1 : Fin 5) = true) ∧ ((run (st [(A.SYS_MODE, 5), (A.DBG_CTL, 6)]) 1 [] : State).fetchDenied (1 : Fin 5) true (vector (1 : Fin 5) 9) = none) := by decide +kernel

theorem test_wit_systemInstructionsAndExceptions_9_8 : ((run (st [(A.SYS_MODE, 5), (A.DBG_CTL, 0)]) 1 [] : State).atInstruction (1 : Fin 5) = true) ∧ (noFields (⟨0, 0, 0, 0⟩ : Fields) = true) ∧ ((run (st [(A.SYS_MODE, 5), (A.DBG_CTL, 0)]) 1 [] : State).monitorMay (1 : Fin 5) = false) := by decide +kernel

theorem test_wit_systemInstructionsAndExceptions_10_9 : (((run (st [(A.SYS_MODE, 3), (A.ICU_PEND 2 1, 0x20), (A.ICU_CFG 2 9, 0x3000)]) 2 []).setSreg 2 0 3 : State).executes (2 : Fin 5) = true) ∧ (((run (st [(A.SYS_MODE, 3), (A.ICU_PEND 2 1, 0x20), (A.ICU_CFG 2 9, 0x3000)]) 2 []).setSreg 2 0 3 : State).deliverable (2 : Fin 5) ≠ 0) ∧ (((run (st [(A.SYS_MODE, 3), (A.ICU_PEND 2 1, 0x20), (A.ICU_CFG 2 9, 0x3000)]) 2 []).setSreg 2 0 3 : State).fetchDenied (2 : Fin 5) true (vector (2 : Fin 5) (9 + ((run (st [(A.SYS_MODE, 3), (A.ICU_PEND 2 1, 0x20), (A.ICU_CFG 2 9, 0x3000)]) 2 []).setSreg 2 0 3 : State).deliverable (2 : Fin 5))) = none) := by decide +kernel

theorem test_wit_systemInstructionsAndExceptions_11_10 : ((run (st [(A.SYS_MODE, 3)]) 2 [] : State).atInstruction (2 : Fin 5) = true) ∧ (illR (⟨40, 0, 0, 0⟩ : Fields) = true) ∧ ((run (st [(A.SYS_MODE, 3)]) 2 [] : State).psrLevel (2 : Fin 5) < 6) ∧ ((run (st [(A.SYS_MODE, 3)]) 2 [] : State).fetchDenied (2 : Fin 5) true (vector (2 : Fin 5) 6) = none) := by decide +kernel

theorem test_wit_systemInstructionsAndExceptions_12_11 : ((((run (st [(A.SYS_MODE, 3)]) 2 []).setSreg 2 0 0).setSreg 2 0x40 0x01020000000F |> (fun x ↦ (x.setSreg 2 0x41 0x01FFFFFFFF00).setSreg 2 0x40 0xF) : State).atInstruction (2 : Fin 5) = true) ∧ (noFields (⟨0, 0, 0, 0⟩ : Fields) = true) ∧ ((((run (st [(A.SYS_MODE, 3)]) 2 []).setSreg 2 0 0).setSreg 2 0x40 0x01020000000F |> (fun x ↦ (x.setSreg 2 0x41 0x01FFFFFFFF00).setSreg 2 0x40 0xF) : State).psrSup (2 : Fin 5) = false) ∧ ((((run (st [(A.SYS_MODE, 3)]) 2 []).setSreg 2 0 0).setSreg 2 0x40 0x01020000000F |> (fun x ↦ (x.setSreg 2 0x41 0x01FFFFFFFF00).setSreg 2 0x40 0xF) : State).psrLevel (2 : Fin 5) < 6) ∧ ((((run (st [(A.SYS_MODE, 3)]) 2 []).setSreg 2 0 0).setSreg 2 0x40 0x01020000000F |> (fun x ↦ (x.setSreg 2 0x41 0x01FFFFFFFF00).setSreg 2 0x40 0xF) : State).fetchDenied (2 : Fin 5) true (vector (2 : Fin 5) 5) = none) := by decide +kernel

theorem test_wit_fetchFromAnotherNodeFaults_1_1 : (((run (st [(A.SYS_MODE, 3), (A.FAB_NODE, 0x805)]) 2 []).setPc 2 0x000041200000 : State).boundaryClear (2 : Fin 5) = true) ∧ (nodeOf (((run (st [(A.SYS_MODE, 3), (A.FAB_NODE, 0x805)]) 2 []).setPc 2 0x000041200000 : State).pc (2 : Fin 5)).toNat ≠ 0) ∧ (((run (st [(A.SYS_MODE, 3), (A.FAB_NODE, 0x805)]) 2 []).setPc 2 0x000041200000 : State).bit F.FAB_NODE_VALID = false ∨ nodeOf (((run (st [(A.SYS_MODE, 3), (A.FAB_NODE, 0x805)]) 2 []).setPc 2 0x000041200000 : State).pc (2 : Fin 5)).toNat ≠ ((run (st [(A.SYS_MODE, 3), (A.FAB_NODE, 0x805)]) 2 []).setPc 2 0x000041200000 : State).rd F.FAB_NODE_ID) ∧ (((run (st [(A.SYS_MODE, 3), (A.FAB_NODE, 0x805)]) 2 []).setPc 2 0x000041200000 : State).psrLevel (2 : Fin 5) < 6) ∧ (((run (st [(A.SYS_MODE, 3), (A.FAB_NODE, 0x805)]) 2 []).setPc 2 0x000041200000 : State).fetchDenied (2 : Fin 5) true (vector (2 : Fin 5) 2) = none) := by decide +kernel

theorem test_wit_fetchFromAnotherNodeFaults_2_1 : (((run (st [(A.SYS_MODE, 3), (A.FAB_NODE, 0x805)]) 2 []).setPc 2 0x000041200000 : State).boundaryClear (2 : Fin 5) = true) ∧ (nodeOf (((run (st [(A.SYS_MODE, 3), (A.FAB_NODE, 0x805)]) 2 []).setPc 2 0x000041200000 : State).pc (2 : Fin 5)).toNat ≠ 0) ∧ (((run (st [(A.SYS_MODE, 3), (A.FAB_NODE, 0x805)]) 2 []).setPc 2 0x000041200000 : State).bit F.FAB_NODE_VALID = false ∨ nodeOf (((run (st [(A.SYS_MODE, 3), (A.FAB_NODE, 0x805)]) 2 []).setPc 2 0x000041200000 : State).pc (2 : Fin 5)).toNat ≠ ((run (st [(A.SYS_MODE, 3), (A.FAB_NODE, 0x805)]) 2 []).setPc 2 0x000041200000 : State).rd F.FAB_NODE_ID) ∧ (((run (st [(A.SYS_MODE, 3), (A.FAB_NODE, 0x805)]) 2 []).setPc 2 0x000041200000 : State).psrLevel (2 : Fin 5) < 6) ∧ (((run (st [(A.SYS_MODE, 3), (A.FAB_NODE, 0x805)]) 2 []).setPc 2 0x000041200000 : State).fetchDenied (2 : Fin 5) true (vector (2 : Fin 5) 2) = none) := by decide +kernel

theorem test_wit_fetchFromAnotherNodeFaults_3_1 : (((run (st [(A.SYS_MODE, 3), (A.FAB_NODE, 0x805)]) 2 []).setPc 2 0x000041200000 : State).boundaryClear (2 : Fin 5) = true) ∧ (nodeOf (((run (st [(A.SYS_MODE, 3), (A.FAB_NODE, 0x805)]) 2 []).setPc 2 0x000041200000 : State).pc (2 : Fin 5)).toNat ≠ 0) ∧ (((run (st [(A.SYS_MODE, 3), (A.FAB_NODE, 0x805)]) 2 []).setPc 2 0x000041200000 : State).bit F.FAB_NODE_VALID = false ∨ nodeOf (((run (st [(A.SYS_MODE, 3), (A.FAB_NODE, 0x805)]) 2 []).setPc 2 0x000041200000 : State).pc (2 : Fin 5)).toNat ≠ ((run (st [(A.SYS_MODE, 3), (A.FAB_NODE, 0x805)]) 2 []).setPc 2 0x000041200000 : State).rd F.FAB_NODE_ID) ∧ (((run (st [(A.SYS_MODE, 3), (A.FAB_NODE, 0x805)]) 2 []).setPc 2 0x000041200000 : State).psrLevel (2 : Fin 5) < 6) ∧ (((run (st [(A.SYS_MODE, 3), (A.FAB_NODE, 0x805)]) 2 []).setPc 2 0x000041200000 : State).fetchDenied (2 : Fin 5) true (vector (2 : Fin 5) 2) = none) := by decide +kernel

theorem test_wit_dmaMovesElements_1_1 : ((st [(A.SYS_MODE, 3), (A.SYS_READY, 0xFFFFFF), (A.DMA_CH_SRC 15, 0x20000000), (A.DMA_CH_DST 15, 0x1FFFFFFFFFF), (A.DMA_CH_CNT 15, 0xFFFFFF), (A.DMA_CH_STAT 15, 0xE)] : State).operating = true) ∧ (isCore (.coreA 0 false : Writer) = true) ∧ ((st [(A.SYS_MODE, 3), (A.SYS_READY, 0xFFFFFF), (A.DMA_CH_SRC 15, 0x20000000), (A.DMA_CH_DST 15, 0x1FFFFFFFFFF), (A.DMA_CH_CNT 15, 0xFFFFFF), (A.DMA_CH_STAT 15, 0xE)] : State).dmaDueNow = false) ∧ ((0x8014 : Word).getLsbD 1 = false) ∧ ((st [(A.SYS_MODE, 3), (A.SYS_READY, 0xFFFFFF), (A.DMA_CH_SRC 15, 0x20000000), (A.DMA_CH_DST 15, 0x1FFFFFFFFFF), (A.DMA_CH_CNT 15, 0xFFFFFF), (A.DMA_CH_STAT 15, 0xE)] : State).dmaBusy (15 : Fin 16) = false) ∧ (swapOk (getBits (0x8014 : Word) 2 2) (getBits (0x8014 : Word) 4 2) = true) ∧ (((st [(A.SYS_MODE, 3), (A.SYS_READY, 0xFFFFFF), (A.DMA_CH_SRC 15, 0x20000000), (A.DMA_CH_DST 15, 0x1FFFFFFFFFF), (A.DMA_CH_CNT 15, 0xFFFFFF), (A.DMA_CH_STAT 15, 0xE)] : State).reg (A.DMA_CH_SRC (15 : Fin 16))).toNat < 2 ^ 41) ∧ (((st [(A.SYS_MODE, 3), (A.SYS_READY, 0xFFFFFF), (A.DMA_CH_SRC 15, 0x20000000), (A.DMA_CH_DST 15, 0x1FFFFFFFFFF), (A.DMA_CH_CNT 15, 0xFFFFFF), (A.DMA_CH_STAT 15, 0xE)] : State).reg (A.DMA_CH_DST (15 : Fin 16))).toNat < 2 ^ 41) ∧ ((st [(A.SYS_MODE, 3), (A.SYS_READY, 0xFFFFFF), (A.DMA_CH_SRC 15, 0x20000000), (A.DMA_CH_DST 15, 0x1FFFFFFFFFF), (A.DMA_CH_CNT 15, 0xFFFFFF), (A.DMA_CH_STAT 15, 0xE)] : State).rd (F.DMA_CH_CNT_COUNT (15 : Fin 16)) ≠ 0) := by decide +kernel

theorem test_wit_dmaMovesElements_4_1 : ((st [(A.SYS_MODE, 3), (A.SYS_READY, 0xFFFFFF), (A.DMA_CH_SRC 15, 0x20000000), (A.DMA_CH_DST 15, 0x1FFFFFFFFFF), (A.DMA_CH_CNT 15, 0xFFFFFF), (A.DMA_CH_STAT 15, 0xE)] : State).operating = true) ∧ (isCore (.coreA 0 false : Writer) = true) ∧ ((st [(A.SYS_MODE, 3), (A.SYS_READY, 0xFFFFFF), (A.DMA_CH_SRC 15, 0x20000000), (A.DMA_CH_DST 15, 0x1FFFFFFFFFF), (A.DMA_CH_CNT 15, 0xFFFFFF), (A.DMA_CH_STAT 15, 0xE)] : State).dmaDueNow = false) ∧ ((0x8014 : Word).getLsbD (15 : Fin 16) = true) ∧ ((st [(A.SYS_MODE, 3), (A.SYS_READY, 0xFFFFFF), (A.DMA_CH_SRC 15, 0x20000000), (A.DMA_CH_DST 15, 0x1FFFFFFFFFF), (A.DMA_CH_CNT 15, 0xFFFFFF), (A.DMA_CH_STAT 15, 0xE)] : State).dmaBusy (15 : Fin 16) = false) ∧ (swapOk ((st [(A.SYS_MODE, 3), (A.SYS_READY, 0xFFFFFF), (A.DMA_CH_SRC 15, 0x20000000), (A.DMA_CH_DST 15, 0x1FFFFFFFFFF), (A.DMA_CH_CNT 15, 0xFFFFFF), (A.DMA_CH_STAT 15, 0xE)] : State).rd (F.DMA_CH_CTL_ESIZE (15 : Fin 16))) ((st [(A.SYS_MODE, 3), (A.SYS_READY, 0xFFFFFF), (A.DMA_CH_SRC 15, 0x20000000), (A.DMA_CH_DST 15, 0x1FFFFFFFFFF), (A.DMA_CH_CNT 15, 0xFFFFFF), (A.DMA_CH_STAT 15, 0xE)] : State).rd (F.DMA_CH_CTL_SWAP (15 : Fin 16))) = true) ∧ (((st [(A.SYS_MODE, 3), (A.SYS_READY, 0xFFFFFF), (A.DMA_CH_SRC 15, 0x20000000), (A.DMA_CH_DST 15, 0x1FFFFFFFFFF), (A.DMA_CH_CNT 15, 0xFFFFFF), (A.DMA_CH_STAT 15, 0xE)] : State).reg (A.DMA_CH_SRC (15 : Fin 16))).toNat < 2 ^ 41) ∧ (((st [(A.SYS_MODE, 3), (A.SYS_READY, 0xFFFFFF), (A.DMA_CH_SRC 15, 0x20000000), (A.DMA_CH_DST 15, 0x1FFFFFFFFFF), (A.DMA_CH_CNT 15, 0xFFFFFF), (A.DMA_CH_STAT 15, 0xE)] : State).reg (A.DMA_CH_DST (15 : Fin 16))).toNat < 2 ^ 41) ∧ ((st [(A.SYS_MODE, 3), (A.SYS_READY, 0xFFFFFF), (A.DMA_CH_SRC 15, 0x20000000), (A.DMA_CH_DST 15, 0x1FFFFFFFFFF), (A.DMA_CH_CNT 15, 0xFFFFFF), (A.DMA_CH_STAT 15, 0xE)] : State).rd (F.DMA_CH_CNT_COUNT (15 : Fin 16)) ≠ 0) := by decide +kernel

theorem test_wit_dmaMovesElements_9_1 : ((st [(A.SYS_MODE, 3), (A.SYS_READY, 0xFFFFFF), (A.DMA_CH_SRC 15, 0x20000000), (A.DMA_CH_DST 15, 0x1FFFFFFFFFF), (A.DMA_CH_CNT 15, 0xFFFFFF), (A.DMA_CH_STAT 15, 0xE)] : State).bit F.SYS_READY_DRAM = true) := by decide +kernel

theorem test_wit_dmaMovesElements_4_2 : ((st [(A.SYS_MODE, 5), (A.DMA_CH_CTL 0, 0x38), (A.DMA_CH_CNT 0, 1)] : State).operating = true) ∧ (isCore (.coreS : Writer) = true) ∧ ((st [(A.SYS_MODE, 5), (A.DMA_CH_CTL 0, 0x38), (A.DMA_CH_CNT 0, 1)] : State).dmaDueNow = false) ∧ ((0xFFFF : Word).getLsbD (0 : Fin 16) = true) ∧ ((st [(A.SYS_MODE, 5), (A.DMA_CH_CTL 0, 0x38), (A.DMA_CH_CNT 0, 1)] : State).dmaBusy (0 : Fin 16) = false) ∧ (swapOk ((st [(A.SYS_MODE, 5), (A.DMA_CH_CTL 0, 0x38), (A.DMA_CH_CNT 0, 1)] : State).rd (F.DMA_CH_CTL_ESIZE (0 : Fin 16))) ((st [(A.SYS_MODE, 5), (A.DMA_CH_CTL 0, 0x38), (A.DMA_CH_CNT 0, 1)] : State).rd (F.DMA_CH_CTL_SWAP (0 : Fin 16))) = true) ∧ (((st [(A.SYS_MODE, 5), (A.DMA_CH_CTL 0, 0x38), (A.DMA_CH_CNT 0, 1)] : State).reg (A.DMA_CH_SRC (0 : Fin 16))).toNat < 2 ^ 41) ∧ (((st [(A.SYS_MODE, 5), (A.DMA_CH_CTL 0, 0x38), (A.DMA_CH_CNT 0, 1)] : State).reg (A.DMA_CH_DST (0 : Fin 16))).toNat < 2 ^ 41) ∧ ((st [(A.SYS_MODE, 5), (A.DMA_CH_CTL 0, 0x38), (A.DMA_CH_CNT 0, 1)] : State).rd (F.DMA_CH_CNT_COUNT (0 : Fin 16)) ≠ 0) := by decide +kernel

theorem test_wit_dmaMovesElements_2_3 : ((st [(A.SYS_MODE, 5)] : State).operating = true) ∧ (isCore (.coreS : Writer) = true) ∧ ((st [(A.SYS_MODE, 5)] : State).dmaDueNow = false) ∧ ((0xC0 : Word).getLsbD 1 = false) ∧ ((st [(A.SYS_MODE, 5)] : State).dmaBusy (0 : Fin 16) = false) ∧ (swapOk (getBits (0xC0 : Word) 2 2) (getBits (0xC0 : Word) 4 2) = true) ∧ (((st [(A.SYS_MODE, 5)] : State).reg (A.DMA_CH_SRC (0 : Fin 16))).toNat < 2 ^ 41) ∧ (((st [(A.SYS_MODE, 5)] : State).reg (A.DMA_CH_DST (0 : Fin 16))).toNat < 2 ^ 41) ∧ ((st [(A.SYS_MODE, 5)] : State).rd (F.DMA_CH_CNT_COUNT (0 : Fin 16)) = 0) := by decide +kernel

theorem test_wit_dmaMovesElements_3_4 : ((st [(A.SYS_MODE, 5)] : State).operating = true) ∧ (isCore (.coreS : Writer) = true) ∧ ((st [(A.SYS_MODE, 5)] : State).dmaDueNow = false) ∧ ((0xC : Word).getLsbD 1 = false) ∧ ((st [(A.SYS_MODE, 5)] : State).dmaBusy (7 : Fin 16) = false) ∧ (swapOk (getBits (0xC : Word) 2 2) (getBits (0xC : Word) 4 2) = false) := by decide +kernel

theorem test_wit_dmaMovesElements_5_5 : (({ st [(A.SYS_MODE, 5), (A.DMA_CH_STAT 3, 1), (A.DMA_CH_STAT 4, 1), (A.DMA_BUSY, 0x18), (A.DMA_CH_SRC 3, 0x02000006), (A.DMA_CH_CNT 3, 2)] with dmaBuf := [(4, 0, [1]), (3, 0x02000000, [9])] } : State).operating = true) ∧ (isCore (.coreS : Writer) = true) ∧ (({ st [(A.SYS_MODE, 5), (A.DMA_CH_STAT 3, 1), (A.DMA_CH_STAT 4, 1), (A.DMA_BUSY, 0x18), (A.DMA_CH_SRC 3, 0x02000006), (A.DMA_CH_CNT 3, 2)] with dmaBuf := [(4, 0, [1]), (3, 0x02000000, [9])] } : State).dmaDueNow = false) ∧ (({ st [(A.SYS_MODE, 5), (A.DMA_CH_STAT 3, 1), (A.DMA_CH_STAT 4, 1), (A.DMA_BUSY, 0x18), (A.DMA_CH_SRC 3, 0x02000006), (A.DMA_CH_CNT 3, 2)] with dmaBuf := [(4, 0, [1]), (3, 0x02000000, [9])] } : State).dmaBusy (3 : Fin 16) = true) ∧ (({ st [(A.SYS_MODE, 5), (A.DMA_CH_STAT 3, 1), (A.DMA_CH_STAT 4, 1), (A.DMA_BUSY, 0x18), (A.DMA_CH_SRC 3, 0x02000006), (A.DMA_CH_CNT 3, 2)] with dmaBuf := [(4, 0, [1]), (3, 0x02000000, [9])] } : State).farOps = []) := by decide +kernel

theorem test_wit_dmaMovesElements_6_5 : (({ st [(A.SYS_MODE, 5), (A.DMA_CH_STAT 3, 1), (A.DMA_CH_STAT 4, 1), (A.DMA_BUSY, 0x18), (A.DMA_CH_SRC 3, 0x02000006), (A.DMA_CH_CNT 3, 2)] with dmaBuf := [(4, 0, [1]), (3, 0x02000000, [9])] } : State).operating = true) ∧ (isCore (.coreS : Writer) = true) ∧ (({ st [(A.SYS_MODE, 5), (A.DMA_CH_STAT 3, 1), (A.DMA_CH_STAT 4, 1), (A.DMA_BUSY, 0x18), (A.DMA_CH_SRC 3, 0x02000006), (A.DMA_CH_CNT 3, 2)] with dmaBuf := [(4, 0, [1]), (3, 0x02000000, [9])] } : State).dmaDueNow = false) ∧ (getBits (0xAB : Word) 0 8 = 0xAB) ∧ (({ st [(A.SYS_MODE, 5), (A.DMA_CH_STAT 3, 1), (A.DMA_CH_STAT 4, 1), (A.DMA_BUSY, 0x18), (A.DMA_CH_SRC 3, 0x02000006), (A.DMA_CH_CNT 3, 2)] with dmaBuf := [(4, 0, [1]), (3, 0x02000000, [9])] } : State).farOps = []) := by decide +kernel

theorem test_wit_dmaMovesElements_7_6 : (((st [(A.SYS_MODE, 5), (A.DMA_CH_STAT 3, 1), (A.DMA_BUSY, 8), (A.DMA_CH_SRC 3, 0x0200000E), (A.DMA_CH_STRIDE 3, 0xFFFA), (A.DMA_CH_CNT 3, 2), (A.DMA_CH_CTL 3, 8)]).setBytes 0x0200000E [1, 2, 3, 4, 5, 6] : State).dmaBusy (3 : Fin 16) = true) ∧ ((((st [(A.SYS_MODE, 5), (A.DMA_CH_STAT 3, 1), (A.DMA_BUSY, 8), (A.DMA_CH_SRC 3, 0x0200000E), (A.DMA_CH_STRIDE 3, 0xFFFA), (A.DMA_CH_CNT 3, 2), (A.DMA_CH_CTL 3, 8)]).setBytes 0x0200000E [1, 2, 3, 4, 5, 6] : State).dmaHeld (3 : Fin 16)).length < ((st [(A.SYS_MODE, 5), (A.DMA_CH_STAT 3, 1), (A.DMA_BUSY, 8), (A.DMA_CH_SRC 3, 0x0200000E), (A.DMA_CH_STRIDE 3, 0xFFFA), (A.DMA_CH_CNT 3, 2), (A.DMA_CH_CTL 3, 8)]).setBytes 0x0200000E [1, 2, 3, 4, 5, 6] : State).rd (F.DMA_CH_CNT_COUNT (3 : Fin 16))) ∧ (((st [(A.SYS_MODE, 5), (A.DMA_CH_STAT 3, 1), (A.DMA_BUSY, 8), (A.DMA_CH_SRC 3, 0x0200000E), (A.DMA_CH_STRIDE 3, 0xFFFA), (A.DMA_CH_CNT 3, 2), (A.DMA_CH_CTL 3, 8)]).setBytes 0x0200000E [1, 2, 3, 4, 5, 6] : State).farOps = []) ∧ (((st [(A.SYS_MODE, 5), (A.DMA_CH_STAT 3, 1), (A.DMA_BUSY, 8), (A.DMA_CH_SRC 3, 0x0200000E), (A.DMA_CH_STRIDE 3, 0xFFFA), (A.DMA_CH_CNT 3, 2), (A.DMA_CH_CTL 3, 8)]).setBytes 0x0200000E [1, 2, 3, 4, 5, 6] : State).dmaReadEnd (3 : Fin 16) = false) ∧ (((st [(A.SYS_MODE, 5), (A.DMA_CH_STAT 3, 1), (A.DMA_BUSY, 8), (A.DMA_CH_SRC 3, 0x0200000E), (A.DMA_CH_STRIDE 3, 0xFFFA), (A.DMA_CH_CNT 3, 2), (A.DMA_CH_CTL 3, 8)]).setBytes 0x0200000E [1, 2, 3, 4, 5, 6] : State).dmaFrozen = false) ∧ (((((st [(A.SYS_MODE, 5), (A.DMA_CH_STAT 3, 1), (A.DMA_BUSY, 8), (A.DMA_CH_SRC 3, 0x0200000E), (A.DMA_CH_STRIDE 3, 0xFFFA), (A.DMA_CH_CNT 3, 2), (A.DMA_CH_CTL 3, 8)]).setBytes 0x0200000E [1, 2, 3, 4, 5, 6] : State).dmaHeld (3 : Fin 16)).length + 1) * ((st [(A.SYS_MODE, 5), (A.DMA_CH_STAT 3, 1), (A.DMA_BUSY, 8), (A.DMA_CH_SRC 3, 0x0200000E), (A.DMA_CH_STRIDE 3, 0xFFFA), (A.DMA_CH_CNT 3, 2), (A.DMA_CH_CTL 3, 8)]).setBytes 0x0200000E [1, 2, 3, 4, 5, 6] : State).dmaSize (3 : Fin 16) ≤ 2048) ∧ (pointerErr (((st [(A.SYS_MODE, 5), (A.DMA_CH_STAT 3, 1), (A.DMA_BUSY, 8), (A.DMA_CH_SRC 3, 0x0200000E), (A.DMA_CH_STRIDE 3, 0xFFFA), (A.DMA_CH_CNT 3, 2), (A.DMA_CH_CTL 3, 8)]).setBytes 0x0200000E [1, 2, 3, 4, 5, 6] : State).reg (A.DMA_CH_SRC (3 : Fin 16))).toNat (((st [(A.SYS_MODE, 5), (A.DMA_CH_STAT 3, 1), (A.DMA_BUSY, 8), (A.DMA_CH_SRC 3, 0x0200000E), (A.DMA_CH_STRIDE 3, 0xFFFA), (A.DMA_CH_CNT 3, 2), (A.DMA_CH_CTL 3, 8)]).setBytes 0x0200000E [1, 2, 3, 4, 5, 6] : State).dmaSize (3 : Fin 16)) = none) ∧ (((st [(A.SYS_MODE, 5), (A.DMA_CH_STAT 3, 1), (A.DMA_BUSY, 8), (A.DMA_CH_SRC 3, 0x0200000E), (A.DMA_CH_STRIDE 3, 0xFFFA), (A.DMA_CH_CNT 3, 2), (A.DMA_CH_CTL 3, 8)]).setBytes 0x0200000E [1, 2, 3, 4, 5, 6] : State).isLocal (((st [(A.SYS_MODE, 5), (A.DMA_CH_STAT 3, 1), (A.DMA_BUSY, 8), (A.DMA_CH_SRC 3, 0x0200000E), (A.DMA_CH_STRIDE 3, 0xFFFA), (A.DMA_CH_CNT 3, 2), (A.DMA_CH_CTL 3, 8)]).setBytes 0x0200000E [1, 2, 3, 4, 5, 6] : State).reg (A.DMA_CH_SRC (3 : Fin 16))).toNat = true) ∧ (isRegion (localOf (((st [(A.SYS_MODE, 5), (A.DMA_CH_STAT 3, 1), (A.DMA_BUSY, 8), (A.DMA_CH_SRC 3, 0x0200000E), (A.DMA_CH_STRIDE 3, 0xFFFA), (A.DMA_CH_CNT 3, 2), (A.DMA_CH_CTL 3, 8)]).setBytes 0x0200000E [1, 2, 3, 4, 5, 6] : State).reg (A.DMA_CH_SRC (3 : Fin 16))).toNat) = false) ∧ (isRegion (localOf (((st [(A.SYS_MODE, 5), (A.DMA_CH_STAT 3, 1), (A.DMA_BUSY, 8), (A.DMA_CH_SRC 3, 0x0200000E), (A.DMA_CH_STRIDE 3, 0xFFFA), (A.DMA_CH_CNT 3, 2), (A.DMA_CH_CTL 3, 8)]).setBytes 0x0200000E [1, 2, 3, 4, 5, 6] : State).reg (A.DMA_CH_SRC (3 : Fin 16))).toNat + ((st [(A.SYS_MODE, 5), (A.DMA_CH_STAT 3, 1), (A.DMA_BUSY, 8), (A.DMA_CH_SRC 3, 0x0200000E), (A.DMA_CH_STRIDE 3, 0xFFFA), (A.DMA_CH_CNT 3, 2), (A.DMA_CH_CTL 3, 8)]).setBytes 0x0200000E [1, 2, 3, 4, 5, 6] : State).dmaSize (3 : Fin 16) - 1) = false) ∧ (region (localOf (((st [(A.SYS_MODE, 5), (A.DMA_CH_STAT 3, 1), (A.DMA_BUSY, 8), (A.DMA_CH_SRC 3, 0x0200000E), (A.DMA_CH_STRIDE 3, 0xFFFA), (A.DMA_CH_CNT 3, 2), (A.DMA_CH_CTL 3, 8)]).setBytes 0x0200000E [1, 2, 3, 4, 5, 6] : State).reg (A.DMA_CH_SRC (3 : Fin 16))).toNat) ≠ .rom) ∧ ((((st [(A.SYS_MODE, 5), (A.DMA_CH_STAT 3, 1), (A.DMA_BUSY, 8), (A.DMA_CH_SRC 3, 0x0200000E), (A.DMA_CH_STRIDE 3, 0xFFFA), (A.DMA_CH_CNT 3, 2), (A.DMA_CH_CTL 3, 8)]).setBytes 0x0200000E [1, 2, 3, 4, 5, 6] : State).cancel (.dmaElementRead (3 : Fin 16))).memRead (localOf (((st [(A.SYS_MODE, 5), (A.DMA_CH_STAT 3, 1), (A.DMA_BUSY, 8), (A.DMA_CH_SRC 3, 0x0200000E), (A.DMA_CH_STRIDE 3, 0xFFFA), (A.DMA_CH_CNT 3, 2), (A.DMA_CH_CTL 3, 8)]).setBytes 0x0200000E [1, 2, 3, 4, 5, 6] : State).reg (A.DMA_CH_SRC (3 : Fin 16))).toNat) (((st [(A.SYS_MODE, 5), (A.DMA_CH_STAT 3, 1), (A.DMA_BUSY, 8), (A.DMA_CH_SRC 3, 0x0200000E), (A.DMA_CH_STRIDE 3, 0xFFFA), (A.DMA_CH_CNT 3, 2), (A.DMA_CH_CTL 3, 8)]).setBytes 0x0200000E [1, 2, 3, 4, 5, 6] : State).dmaSize (3 : Fin 16)) = (none, (((st [(A.SYS_MODE, 5), (A.DMA_CH_STAT 3, 1), (A.DMA_BUSY, 8), (A.DMA_CH_SRC 3, 0x0200000E), (A.DMA_CH_STRIDE 3, 0xFFFA), (A.DMA_CH_CNT 3, 2), (A.DMA_CH_CTL 3, 8)]).setBytes 0x0200000E [1, 2, 3, 4, 5, 6] : State).cancel (.dmaElementRead (3 : Fin 16))))) := by decide +kernel

theorem test_wit_dmaMovesElements_8_7 : (({ st [(A.SYS_MODE, 5), (A.DMA_CH_STAT 3, 1), (A.DMA_BUSY, 8), (A.DMA_CH_DST 3, 0x0200000E), (A.DMA_CH_STRIDE 3, 0xFFFA0000), (A.DMA_CH_CNT 3, 1), (A.DMA_CH_CTL 3, 0x38)] with dmaBuf := [(3, 0x10, [1, 2, 3, 4, 5, 6])] } : State).dmaBuf = ((3 : Fin 16).val, (0x10 : Nat), ([1, 2, 3, 4, 5, 6] : List Byte)) :: ({ st [(A.SYS_MODE, 5), (A.DMA_CH_STAT 3, 1), (A.DMA_BUSY, 8), (A.DMA_CH_DST 3, 0x0200000E), (A.DMA_CH_STRIDE 3, 0xFFFA0000), (A.DMA_CH_CNT 3, 1), (A.DMA_CH_CTL 3, 0x38)] with dmaBuf := [(3, 0x10, [1, 2, 3, 4, 5, 6])] } : State).dmaBuf.tail) ∧ (([1, 2, 3, 4, 5, 6] : List Byte).length = ({ st [(A.SYS_MODE, 5), (A.DMA_CH_STAT 3, 1), (A.DMA_BUSY, 8), (A.DMA_CH_DST 3, 0x0200000E), (A.DMA_CH_STRIDE 3, 0xFFFA0000), (A.DMA_CH_CNT 3, 1), (A.DMA_CH_CTL 3, 0x38)] with dmaBuf := [(3, 0x10, [1, 2, 3, 4, 5, 6])] } : State).dmaSize (3 : Fin 16)) ∧ (({ st [(A.SYS_MODE, 5), (A.DMA_CH_STAT 3, 1), (A.DMA_BUSY, 8), (A.DMA_CH_DST 3, 0x0200000E), (A.DMA_CH_STRIDE 3, 0xFFFA0000), (A.DMA_CH_CNT 3, 1), (A.DMA_CH_CTL 3, 0x38)] with dmaBuf := [(3, 0x10, [1, 2, 3, 4, 5, 6])] } : State).farOps = []) ∧ (({ st [(A.SYS_MODE, 5), (A.DMA_CH_STAT 3, 1), (A.DMA_BUSY, 8), (A.DMA_CH_DST 3, 0x0200000E), (A.DMA_CH_STRIDE 3, 0xFFFA0000), (A.DMA_CH_CNT 3, 1), (A.DMA_CH_CTL 3, 0x38)] with dmaBuf := [(3, 0x10, [1, 2, 3, 4, 5, 6])] } : State).dmaBusy (3 : Fin 16) = true) ∧ (({ st [(A.SYS_MODE, 5), (A.DMA_CH_STAT 3, 1), (A.DMA_BUSY, 8), (A.DMA_CH_DST 3, 0x0200000E), (A.DMA_CH_STRIDE 3, 0xFFFA0000), (A.DMA_CH_CNT 3, 1), (A.DMA_CH_CTL 3, 0x38)] with dmaBuf := [(3, 0x10, [1, 2, 3, 4, 5, 6])] } : State).dmaFrozen = false) ∧ (1 ≤ ({ st [(A.SYS_MODE, 5), (A.DMA_CH_STAT 3, 1), (A.DMA_BUSY, 8), (A.DMA_CH_DST 3, 0x0200000E), (A.DMA_CH_STRIDE 3, 0xFFFA0000), (A.DMA_CH_CNT 3, 1), (A.DMA_CH_CTL 3, 0x38)] with dmaBuf := [(3, 0x10, [1, 2, 3, 4, 5, 6])] } : State).rd (F.DMA_CH_CNT_COUNT (3 : Fin 16))) ∧ (pointerErr (({ st [(A.SYS_MODE, 5), (A.DMA_CH_STAT 3, 1), (A.DMA_BUSY, 8), (A.DMA_CH_DST 3, 0x0200000E), (A.DMA_CH_STRIDE 3, 0xFFFA0000), (A.DMA_CH_CNT 3, 1), (A.DMA_CH_CTL 3, 0x38)] with dmaBuf := [(3, 0x10, [1, 2, 3, 4, 5, 6])] } : State).reg (A.DMA_CH_DST (3 : Fin 16))).toNat (({ st [(A.SYS_MODE, 5), (A.DMA_CH_STAT 3, 1), (A.DMA_BUSY, 8), (A.DMA_CH_DST 3, 0x0200000E), (A.DMA_CH_STRIDE 3, 0xFFFA0000), (A.DMA_CH_CNT 3, 1), (A.DMA_CH_CTL 3, 0x38)] with dmaBuf := [(3, 0x10, [1, 2, 3, 4, 5, 6])] } : State).dmaSize (3 : Fin 16)) = none) ∧ (({ st [(A.SYS_MODE, 5), (A.DMA_CH_STAT 3, 1), (A.DMA_BUSY, 8), (A.DMA_CH_DST 3, 0x0200000E), (A.DMA_CH_STRIDE 3, 0xFFFA0000), (A.DMA_CH_CNT 3, 1), (A.DMA_CH_CTL 3, 0x38)] with dmaBuf := [(3, 0x10, [1, 2, 3, 4, 5, 6])] } : State).isLocal (({ st [(A.SYS_MODE, 5), (A.DMA_CH_STAT 3, 1), (A.DMA_BUSY, 8), (A.DMA_CH_DST 3, 0x0200000E), (A.DMA_CH_STRIDE 3, 0xFFFA0000), (A.DMA_CH_CNT 3, 1), (A.DMA_CH_CTL 3, 0x38)] with dmaBuf := [(3, 0x10, [1, 2, 3, 4, 5, 6])] } : State).reg (A.DMA_CH_DST (3 : Fin 16))).toNat = true) ∧ (isRegion (localOf (({ st [(A.SYS_MODE, 5), (A.DMA_CH_STAT 3, 1), (A.DMA_BUSY, 8), (A.DMA_CH_DST 3, 0x0200000E), (A.DMA_CH_STRIDE 3, 0xFFFA0000), (A.DMA_CH_CNT 3, 1), (A.DMA_CH_CTL 3, 0x38)] with dmaBuf := [(3, 0x10, [1, 2, 3, 4, 5, 6])] } : State).reg (A.DMA_CH_DST (3 : Fin 16))).toNat) = false) ∧ (isRegion (localOf (({ st [(A.SYS_MODE, 5), (A.DMA_CH_STAT 3, 1), (A.DMA_BUSY, 8), (A.DMA_CH_DST 3, 0x0200000E), (A.DMA_CH_STRIDE 3, 0xFFFA0000), (A.DMA_CH_CNT 3, 1), (A.DMA_CH_CTL 3, 0x38)] with dmaBuf := [(3, 0x10, [1, 2, 3, 4, 5, 6])] } : State).reg (A.DMA_CH_DST (3 : Fin 16))).toNat + ({ st [(A.SYS_MODE, 5), (A.DMA_CH_STAT 3, 1), (A.DMA_BUSY, 8), (A.DMA_CH_DST 3, 0x0200000E), (A.DMA_CH_STRIDE 3, 0xFFFA0000), (A.DMA_CH_CNT 3, 1), (A.DMA_CH_CTL 3, 0x38)] with dmaBuf := [(3, 0x10, [1, 2, 3, 4, 5, 6])] } : State).dmaSize (3 : Fin 16) - 1) = false) ∧ (({ st [(A.SYS_MODE, 5), (A.DMA_CH_STAT 3, 1), (A.DMA_BUSY, 8), (A.DMA_CH_DST 3, 0x0200000E), (A.DMA_CH_STRIDE 3, 0xFFFA0000), (A.DMA_CH_CNT 3, 1), (A.DMA_CH_CTL 3, 0x38)] with dmaBuf := [(3, 0x10, [1, 2, 3, 4, 5, 6])] } : State).memWriteErr (.dma (3 : Fin 16)) (localOf (({ st [(A.SYS_MODE, 5), (A.DMA_CH_STAT 3, 1), (A.DMA_BUSY, 8), (A.DMA_CH_DST 3, 0x0200000E), (A.DMA_CH_STRIDE 3, 0xFFFA0000), (A.DMA_CH_CNT 3, 1), (A.DMA_CH_CTL 3, 0x38)] with dmaBuf := [(3, 0x10, [1, 2, 3, 4, 5, 6])] } : State).reg (A.DMA_CH_DST (3 : Fin 16))).toNat) (({ st [(A.SYS_MODE, 5), (A.DMA_CH_STAT 3, 1), (A.DMA_BUSY, 8), (A.DMA_CH_DST 3, 0x0200000E), (A.DMA_CH_STRIDE 3, 0xFFFA0000), (A.DMA_CH_CNT 3, 1), (A.DMA_CH_CTL 3, 0x38)] with dmaBuf := [(3, 0x10, [1, 2, 3, 4, 5, 6])] } : State).dmaSize (3 : Fin 16)) = none) ∧ (∀ i : Fin 6, region (localOf (({ st [(A.SYS_MODE, 5), (A.DMA_CH_STAT 3, 1), (A.DMA_BUSY, 8), (A.DMA_CH_DST 3, 0x0200000E), (A.DMA_CH_STRIDE 3, 0xFFFA0000), (A.DMA_CH_CNT 3, 1), (A.DMA_CH_CTL 3, 0x38)] with dmaBuf := [(3, 0x10, [1, 2, 3, 4, 5, 6])] } : State).reg (A.DMA_CH_DST (3 : Fin 16))).toNat + i) ≠ .table ∧ ({ st [(A.SYS_MODE, 5), (A.DMA_CH_STAT 3, 1), (A.DMA_BUSY, 8), (A.DMA_CH_DST 3, 0x0200000E), (A.DMA_CH_STRIDE 3, 0xFFFA0000), (A.DMA_CH_CNT 3, 1), (A.DMA_CH_CTL 3, 0x38)] with dmaBuf := [(3, 0x10, [1, 2, 3, 4, 5, 6])] } : State).tornAt (localOf (({ st [(A.SYS_MODE, 5), (A.DMA_CH_STAT 3, 1), (A.DMA_BUSY, 8), (A.DMA_CH_DST 3, 0x0200000E), (A.DMA_CH_STRIDE 3, 0xFFFA0000), (A.DMA_CH_CNT 3, 1), (A.DMA_CH_CTL 3, 0x38)] with dmaBuf := [(3, 0x10, [1, 2, 3, 4, 5, 6])] } : State).reg (A.DMA_CH_DST (3 : Fin 16))).toNat + i) = none) := by decide +kernel

theorem test_wit_flashControllerRunsItsQueue_1_1 : ((st [(A.SYS_MODE, 3), (A.FLC_D_STAT 0, 4)] : State).operating = true) ∧ (isCore (.coreA 0 false : Writer) = true) ∧ ((st [(A.SYS_MODE, 3), (A.FLC_D_STAT 0, 4)] : State).flcIs (1 : Fin 16) 0 = true) ∧ (∀ j : Fin 16, j < (1 : Fin 16) → (st [(A.SYS_MODE, 3), (A.FLC_D_STAT 0, 4)] : State).flcIs j 0 = false) := by decide +kernel

theorem test_wit_flashControllerRunsItsQueue_2_2 : ((st ([(A.SYS_MODE, 3)] ++ (List.range 16).map (fun j ↦ (A.FLC_D_STAT j, 0x44))) : State).operating = true) ∧ (isCore (.coreS : Writer) = true) ∧ (∀ j : Fin 16, (st ([(A.SYS_MODE, 3)] ++ (List.range 16).map (fun j ↦ (A.FLC_D_STAT j, 0x44))) : State).flcIs j 0 = false) := by decide +kernel

theorem test_wit_flashControllerRunsItsQueue_3_2 : ((st ([(A.SYS_MODE, 3)] ++ (List.range 16).map (fun j ↦ (A.FLC_D_STAT j, 0x44))) : State).operating = true) ∧ (isCore (.coreS : Writer) = true) ∧ ((st ([(A.SYS_MODE, 3)] ++ (List.range 16).map (fun j ↦ (A.FLC_D_STAT j, 0x44))) : State).flcIs (15 : Fin 16) 1 = true ∨ (st ([(A.SYS_MODE, 3)] ++ (List.range 16).map (fun j ↦ (A.FLC_D_STAT j, 0x44))) : State).flcIs (15 : Fin 16) 4 = true) := by decide +kernel

theorem test_wit_flashControllerRunsItsQueue_7_2 : ((st ([(A.SYS_MODE, 3)] ++ (List.range 16).map (fun j ↦ (A.FLC_D_STAT j, 0x44))) : State).operating = true) ∧ (isCore (.coreS : Writer) = true) ∧ ((st ([(A.SYS_MODE, 3)] ++ (List.range 16).map (fun j ↦ (A.FLC_D_STAT j, 0x44))) : State).flcIs (15 : Fin 16) 1 = false) ∧ ((5 : Word).getLsbD 13 = false) := by decide +kernel

theorem test_wit_flashControllerRunsItsQueue_4_3 : ((st [(A.SYS_MODE, 3), (A.SYS_READY, 0xFFFFFF), (A.FLC_D_STAT 15, 1), (A.FLC_D_ADDR 15, 0x04FF0000)] : State).operating = true) ∧ (isCore (.coreA 0 true : Writer) = true) ∧ (isSup (.coreA 0 true : Writer) = true) ∧ ((st [(A.SYS_MODE, 3), (A.SYS_READY, 0xFFFFFF), (A.FLC_D_STAT 15, 1), (A.FLC_D_ADDR 15, 0x04FF0000)] : State).flcIs (15 : Fin 16) 1 = true) ∧ ((5 : Word).getLsbD 13 = false) ∧ ((st [(A.SYS_MODE, 3), (A.SYS_READY, 0xFFFFFF), (A.FLC_D_STAT 15, 1), (A.FLC_D_ADDR 15, 0x04FF0000)] : State).bit F.SYS_READY_FLASH = true) ∧ ((st [(A.SYS_MODE, 3), (A.SYS_READY, 0xFFFFFF), (A.FLC_D_STAT 15, 1), (A.FLC_D_ADDR 15, 0x04FF0000)] : State).bit F.FLC_STATUS_ACCEPT_OFF = false) ∧ ((st [(A.SYS_MODE, 3), (A.SYS_READY, 0xFFFFFF), (A.FLC_D_STAT 15, 1), (A.FLC_D_ADDR 15, 0x04FF0000)] : State).modeIn [.standby, .armed, .run, .safeStop] = true) ∧ (getBits (5 : Word) 1 2 = 2) ∧ (inFlash ((st [(A.SYS_MODE, 3), (A.SYS_READY, 0xFFFFFF), (A.FLC_D_STAT 15, 1), (A.FLC_D_ADDR 15, 0x04FF0000)] : State).flcAddr (15 : Fin 16)) = true) ∧ (sectorBase (bankOf ((st [(A.SYS_MODE, 3), (A.SYS_READY, 0xFFFFFF), (A.FLC_D_STAT 15, 1), (A.FLC_D_ADDR 15, 0x04FF0000)] : State).flcAddr (15 : Fin 16))) (sectorOf ((st [(A.SYS_MODE, 3), (A.SYS_READY, 0xFFFFFF), (A.FLC_D_STAT 15, 1), (A.FLC_D_ADDR 15, 0x04FF0000)] : State).flcAddr (15 : Fin 16))) = ((st [(A.SYS_MODE, 3), (A.SYS_READY, 0xFFFFFF), (A.FLC_D_STAT 15, 1), (A.FLC_D_ADDR 15, 0x04FF0000)] : State).flcAddr (15 : Fin 16))) ∧ ((st [(A.SYS_MODE, 3), (A.SYS_READY, 0xFFFFFF), (A.FLC_D_STAT 15, 1), (A.FLC_D_ADDR 15, 0x04FF0000)] : State).flcMay (.coreA 0 true : Writer) ((st [(A.SYS_MODE, 3), (A.SYS_READY, 0xFFFFFF), (A.FLC_D_STAT 15, 1), (A.FLC_D_ADDR 15, 0x04FF0000)] : State).flcNames (15 : Fin 16)) = true) ∧ ((st [(A.SYS_MODE, 3), (A.SYS_READY, 0xFFFFFF), (A.FLC_D_STAT 15, 1), (A.FLC_D_ADDR 15, 0x04FF0000)] : State).flcRunning (bankOf ((st [(A.SYS_MODE, 3), (A.SYS_READY, 0xFFFFFF), (A.FLC_D_STAT 15, 1), (A.FLC_D_ADDR 15, 0x04FF0000)] : State).flcAddr (15 : Fin 16))) ((st [(A.SYS_MODE, 3), (A.SYS_READY, 0xFFFFFF), (A.FLC_D_STAT 15, 1), (A.FLC_D_ADDR 15, 0x04FF0000)] : State).flcNames (15 : Fin 16)) = false) := by decide +kernel

theorem test_wit_flashControllerRunsItsQueue_5_4 : ((st [(A.SYS_MODE, 5), (A.SYS_READY, 0xFFFFFF), (A.FLC_D_STAT 0, 1), (A.FLC_D_ADDR 0, 0x04004000)] : State).operating = true) ∧ (isCore (.coreS : Writer) = true) ∧ (isSup (.coreS : Writer) = true) ∧ ((st [(A.SYS_MODE, 5), (A.SYS_READY, 0xFFFFFF), (A.FLC_D_STAT 0, 1), (A.FLC_D_ADDR 0, 0x04004000)] : State).flcIs (0 : Fin 16) 1 = true) ∧ ((0x803 : Word).getLsbD 13 = false) ∧ ((st [(A.SYS_MODE, 5), (A.SYS_READY, 0xFFFFFF), (A.FLC_D_STAT 0, 1), (A.FLC_D_ADDR 0, 0x04004000)] : State).bit F.SYS_READY_FLASH = true) ∧ ((st [(A.SYS_MODE, 5), (A.SYS_READY, 0xFFFFFF), (A.FLC_D_STAT 0, 1), (A.FLC_D_ADDR 0, 0x04004000)] : State).bit F.FLC_STATUS_ACCEPT_OFF = false) ∧ ((st [(A.SYS_MODE, 5), (A.SYS_READY, 0xFFFFFF), (A.FLC_D_STAT 0, 1), (A.FLC_D_ADDR 0, 0x04004000)] : State).modeIn [.standby, .armed, .run, .safeStop] = true) ∧ (getBits (0x803 : Word) 1 2 = 1) ∧ (1 ≤ getBits (0x803 : Word) 3 9) ∧ (getBits (0x803 : Word) 3 9 ≤ 256) ∧ (inFlash ((st [(A.SYS_MODE, 5), (A.SYS_READY, 0xFFFFFF), (A.FLC_D_STAT 0, 1), (A.FLC_D_ADDR 0, 0x04004000)] : State).flcAddr (0 : Fin 16)) = true) ∧ (((st [(A.SYS_MODE, 5), (A.SYS_READY, 0xFFFFFF), (A.FLC_D_STAT 0, 1), (A.FLC_D_ADDR 0, 0x04004000)] : State).flcAddr (0 : Fin 16)) % 32 = 0) ∧ (((st [(A.SYS_MODE, 5), (A.SYS_READY, 0xFFFFFF), (A.FLC_D_STAT 0, 1), (A.FLC_D_ADDR 0, 0x04004000)] : State).flcAddr (0 : Fin 16)) + 32 * getBits (0x803 : Word) 3 9 ≤ sectorBase (bankOf ((st [(A.SYS_MODE, 5), (A.SYS_READY, 0xFFFFFF), (A.FLC_D_STAT 0, 1), (A.FLC_D_ADDR 0, 0x04004000)] : State).flcAddr (0 : Fin 16))) (sectorOf ((st [(A.SYS_MODE, 5), (A.SYS_READY, 0xFFFFFF), (A.FLC_D_STAT 0, 1), (A.FLC_D_ADDR 0, 0x04004000)] : State).flcAddr (0 : Fin 16))) + sectorSize (sectorOf ((st [(A.SYS_MODE, 5), (A.SYS_READY, 0xFFFFFF), (A.FLC_D_STAT 0, 1), (A.FLC_D_ADDR 0, 0x04004000)] : State).flcAddr (0 : Fin 16)))) ∧ ((st [(A.SYS_MODE, 5), (A.SYS_READY, 0xFFFFFF), (A.FLC_D_STAT 0, 1), (A.FLC_D_ADDR 0, 0x04004000)] : State).flcMay (.coreS : Writer) ((st [(A.SYS_MODE, 5), (A.SYS_READY, 0xFFFFFF), (A.FLC_D_STAT 0, 1), (A.FLC_D_ADDR 0, 0x04004000)] : State).flcNames (0 : Fin 16)) = true) ∧ ((st [(A.SYS_MODE, 5), (A.SYS_READY, 0xFFFFFF), (A.FLC_D_STAT 0, 1), (A.FLC_D_ADDR 0, 0x04004000)] : State).flcRunning (bankOf ((st [(A.SYS_MODE, 5), (A.SYS_READY, 0xFFFFFF), (A.FLC_D_STAT 0, 1), (A.FLC_D_ADDR 0, 0x04004000)] : State).flcAddr (0 : Fin 16))) ((st [(A.SYS_MODE, 5), (A.SYS_READY, 0xFFFFFF), (A.FLC_D_STAT 0, 1), (A.FLC_D_ADDR 0, 0x04004000)] : State).flcNames (0 : Fin 16)) = false) := by decide +kernel

theorem test_wit_flashControllerRunsItsQueue_6_5 : ((st [(A.SYS_MODE, 5), (A.SYS_READY, 0xFFFFFF), (A.FLC_D_STAT 0, 1), (A.FLC_D_ADDR 0, 0x04004000)] : State).operating = true) ∧ (isCore (.coreS : Writer) = true) ∧ (isSup (.coreS : Writer) = true) ∧ ((st [(A.SYS_MODE, 5), (A.SYS_READY, 0xFFFFFF), (A.FLC_D_STAT 0, 1), (A.FLC_D_ADDR 0, 0x04004000)] : State).flcIs (0 : Fin 16) 1 = true) ∧ ((0x807 : Word).getLsbD 13 = false) ∧ ((st [(A.SYS_MODE, 5), (A.SYS_READY, 0xFFFFFF), (A.FLC_D_STAT 0, 1), (A.FLC_D_ADDR 0, 0x04004000)] : State).bit F.SYS_READY_FLASH = true) ∧ ((st [(A.SYS_MODE, 5), (A.SYS_READY, 0xFFFFFF), (A.FLC_D_STAT 0, 1), (A.FLC_D_ADDR 0, 0x04004000)] : State).bit F.FLC_STATUS_ACCEPT_OFF = false) ∧ ((st [(A.SYS_MODE, 5), (A.SYS_READY, 0xFFFFFF), (A.FLC_D_STAT 0, 1), (A.FLC_D_ADDR 0, 0x04004000)] : State).modeIn [.standby, .armed, .run, .safeStop] = true) ∧ (getBits (0x807 : Word) 1 2 = 0 ∨ getBits (0x807 : Word) 1 2 = 3) := by decide +kernel

theorem test_wit_flashControllerRunsItsQueue_8_6 : (({ st [(A.SYS_MODE, 5), (A.FLC_D_STAT 2, 2), (A.FLC_D_ADDR 2, 0x04380000), (A.FLC_D_SRC 2, 0x03000000), (A.FLC_D_CTL 2, 0xA)] with flcQueue := [2, 5] } : State).flcFree = true) ∧ (({ st [(A.SYS_MODE, 5), (A.FLC_D_STAT 2, 2), (A.FLC_D_ADDR 2, 0x04380000), (A.FLC_D_SRC 2, 0x03000000), (A.FLC_D_CTL 2, 0xA)] with flcQueue := [2, 5] } : State).flcHold = false) ∧ (({ st [(A.SYS_MODE, 5), (A.FLC_D_STAT 2, 2), (A.FLC_D_ADDR 2, 0x04380000), (A.FLC_D_SRC 2, 0x03000000), (A.FLC_D_CTL 2, 0xA)] with flcQueue := [2, 5] } : State).flcHalf = []) ∧ (({ st [(A.SYS_MODE, 5), (A.FLC_D_STAT 2, 2), (A.FLC_D_ADDR 2, 0x04380000), (A.FLC_D_SRC 2, 0x03000000), (A.FLC_D_CTL 2, 0xA)] with flcQueue := [2, 5] } : State).flcQueue = (2 : Fin 16).val :: ({ st [(A.SYS_MODE, 5), (A.FLC_D_STAT 2, 2), (A.FLC_D_ADDR 2, 0x04380000), (A.FLC_D_SRC 2, 0x03000000), (A.FLC_D_CTL 2, 0xA)] with flcQueue := [2, 5] } : State).flcQueue.tail) ∧ (({ st [(A.SYS_MODE, 5), (A.FLC_D_STAT 2, 2), (A.FLC_D_ADDR 2, 0x04380000), (A.FLC_D_SRC 2, 0x03000000), (A.FLC_D_CTL 2, 0xA)] with flcQueue := [2, 5] } : State).rd (F.FLC_D_CTL_OP (2 : Fin 16)) = 1) := by decide +kernel

theorem test_wit_flashControllerRunsItsQueue_9_7 : (({ st [(A.SYS_MODE, 5), (A.FLC_D_STAT 2, 2), (A.FLC_D_ADDR 2, 0x04380000), (A.FLC_D_CTL 2, 4)] with flcQueue := [2, 5] } : State).flcFree = true) ∧ (({ st [(A.SYS_MODE, 5), (A.FLC_D_STAT 2, 2), (A.FLC_D_ADDR 2, 0x04380000), (A.FLC_D_CTL 2, 4)] with flcQueue := [2, 5] } : State).flcHold = false) ∧ (({ st [(A.SYS_MODE, 5), (A.FLC_D_STAT 2, 2), (A.FLC_D_ADDR 2, 0x04380000), (A.FLC_D_CTL 2, 4)] with flcQueue := [2, 5] } : State).flcHalf = []) ∧ (({ st [(A.SYS_MODE, 5), (A.FLC_D_STAT 2, 2), (A.FLC_D_ADDR 2, 0x04380000), (A.FLC_D_CTL 2, 4)] with flcQueue := [2, 5] } : State).flcQueue = (2 : Fin 16).val :: ({ st [(A.SYS_MODE, 5), (A.FLC_D_STAT 2, 2), (A.FLC_D_ADDR 2, 0x04380000), (A.FLC_D_CTL 2, 4)] with flcQueue := [2, 5] } : State).flcQueue.tail) ∧ (({ st [(A.SYS_MODE, 5), (A.FLC_D_STAT 2, 2), (A.FLC_D_ADDR 2, 0x04380000), (A.FLC_D_CTL 2, 4)] with flcQueue := [2, 5] } : State).rd (F.FLC_D_CTL_OP (2 : Fin 16)) = 2) ∧ (({ st [(A.SYS_MODE, 5), (A.FLC_D_STAT 2, 2), (A.FLC_D_ADDR 2, 0x04380000), (A.FLC_D_CTL 2, 4)] with flcQueue := [2, 5] } : State).compactNeeded = false) := by decide +kernel

theorem test_wit_flashControllerRunsItsQueue_10_8 : (({ st [(A.SYS_MODE, 5), (A.FLC_D_STAT 2, 3), (A.FLC_D_ADDR 2, 0x04380000), (A.FLC_D_CTL 2, 0xA)] with flcOp := .unit 2 (some (List.replicate 31 7 ++ [0xFF])) } : State).tstOn 8 = false) ∧ (({ st [(A.SYS_MODE, 5), (A.FLC_D_STAT 2, 3), (A.FLC_D_ADDR 2, 0x04380000), (A.FLC_D_CTL 2, 0xA)] with flcOp := .unit 2 (some (List.replicate 31 7 ++ [0xFF])) } : State).flcOp = .unit (2 : Fin 16) (some ((List.replicate 31 7 ++ [0xFF]) : List Byte))) ∧ (((List.replicate 31 7 ++ [0xFF]) : List Byte).length = 32) ∧ (({ st [(A.SYS_MODE, 5), (A.FLC_D_STAT 2, 3), (A.FLC_D_ADDR 2, 0x04380000), (A.FLC_D_CTL 2, 0xA)] with flcOp := .unit 2 (some (List.replicate 31 7 ++ [0xFF])) } : State).unitBlank (({ st [(A.SYS_MODE, 5), (A.FLC_D_STAT 2, 3), (A.FLC_D_ADDR 2, 0x04380000), (A.FLC_D_CTL 2, 0xA)] with flcOp := .unit 2 (some (List.replicate 31 7 ++ [0xFF])) } : State).flcAddr (2 : Fin 16) + 32 * ({ st [(A.SYS_MODE, 5), (A.FLC_D_STAT 2, 3), (A.FLC_D_ADDR 2, 0x04380000), (A.FLC_D_CTL 2, 0xA)] with flcOp := .unit 2 (some (List.replicate 31 7 ++ [0xFF])) } : State).rd (F.FLC_D_STAT_UNITS (2 : Fin 16))) = true) ∧ (({ st [(A.SYS_MODE, 5), (A.FLC_D_STAT 2, 3), (A.FLC_D_ADDR 2, 0x04380000), (A.FLC_D_CTL 2, 0xA)] with flcOp := .unit 2 (some (List.replicate 31 7 ++ [0xFF])) } : State).rd (F.FLC_D_STAT_UNITS (2 : Fin 16)) < 256) := by decide +kernel

theorem test_wit_flashControllerRunsItsQueue_11_8 : (({ st [(A.SYS_MODE, 5), (A.FLC_D_STAT 2, 3), (A.FLC_D_ADDR 2, 0x04380000), (A.FLC_D_CTL 2, 0xA)] with flcOp := .unit 2 (some (List.replicate 31 7 ++ [0xFF])) } : State).tstOn 8 = false) ∧ (({ st [(A.SYS_MODE, 5), (A.FLC_D_STAT 2, 3), (A.FLC_D_ADDR 2, 0x04380000), (A.FLC_D_CTL 2, 0xA)] with flcOp := .unit 2 (some (List.replicate 31 7 ++ [0xFF])) } : State).flcOp = .unit (2 : Fin 16) (some (List.replicate 31 7 ++ [0xFF]) : Option (List Byte))) := by decide +kernel

theorem test_wit_flashControllerRunsItsQueue_12_9 : (({ (st [(A.SYS_MODE, 5), (A.FLC_D_STAT 2, 3), (A.FLC_D_CTL 2, 4)]).setBytes 0x04830000 [1, 2] with flcOp := .erase 2 1 10 } : State).tstOn 8 = false) ∧ (({ (st [(A.SYS_MODE, 5), (A.FLC_D_STAT 2, 3), (A.FLC_D_CTL 2, 4)]).setBytes 0x04830000 [1, 2] with flcOp := .erase 2 1 10 } : State).flcOp = .erase (2 : Fin 16) (1 : Fin 2) (10 : Fin 135)) ∧ ((1 : Fin 2) = 1 ∨ 2 ≤ (10 : Fin 135)) := by decide +kernel

theorem test_wit_flashControllerRunsItsQueue_13_9 : (({ (st [(A.SYS_MODE, 5), (A.FLC_D_STAT 2, 3), (A.FLC_D_CTL 2, 4)]).setBytes 0x04830000 [1, 2] with flcOp := .erase 2 1 10 } : State).tstOn 8 = false) ∧ (({ (st [(A.SYS_MODE, 5), (A.FLC_D_STAT 2, 3), (A.FLC_D_CTL 2, 4)]).setBytes 0x04830000 [1, 2] with flcOp := .erase 2 1 10 } : State).flcOp = .erase (2 : Fin 16) (1 : Fin 2) (10 : Fin 135)) := by decide +kernel

theorem test_wit_flashControllerRunsItsQueue_14_10 : (({ (st [(A.SYS_MODE, 5)]).setBytes 0x04000000 (headerBytes 7) with flcOp := .compact } : State).tstOn 8 = false) ∧ (({ (st [(A.SYS_MODE, 5)]).setBytes 0x04000000 (headerBytes 7) with flcOp := .compact } : State).flcOp = .compact) ∧ ((({ (st [(A.SYS_MODE, 5)]).setBytes 0x04000000 (headerBytes 7) with flcOp := .compact } : State).journalGen ({ (st [(A.SYS_MODE, 5)]).setBytes 0x04000000 (headerBytes 7) with flcOp := .compact } : State).journalActive).getD 0 < 2 ^ 32 - 1) := by decide +kernel

theorem test_wit_flashControllerRunsItsQueue_15_11 : (({ st [(A.SYS_MODE, 5), (A.FLC_D_STAT 2, 3)] with flcOp := .stretch 2 9 1 } : State).flcOp = .stretch (2 : Fin 16) (9 : Fin 16) (1 : Fin 2)) ∧ ((9 : Fin 16) ≠ 0) := by decide +kernel

theorem test_wit_cryptographyJobs_1_1 : ((st [(A.SYS_MODE, 3), (A.CRY_SRC, 0x03000000), (A.CRY_LEN, 3), (A.CRY_STAT, 0x3A)] : State).operating = true) ∧ (isCore (.coreS : Writer) = true) ∧ ((st [(A.SYS_MODE, 3), (A.CRY_SRC, 0x03000000), (A.CRY_LEN, 3), (A.CRY_STAT, 0x3A)] : State).bit F.CRY_STAT_BUSY = false) ∧ ((st [(A.SYS_MODE, 3), (A.CRY_SRC, 0x03000000), (A.CRY_LEN, 3), (A.CRY_STAT, 0x3A)] : State).cryMay (.coreS : Writer) 1 = true) := by decide +kernel

theorem test_wit_cryptographyJobs_2_1 : ((st [(A.SYS_MODE, 3), (A.CRY_SRC, 0x03000000), (A.CRY_LEN, 3), (A.CRY_STAT, 0x3A)] : State).operating = true) ∧ (isCore (.coreS : Writer) = true) ∧ ((st [(A.SYS_MODE, 3), (A.CRY_SRC, 0x03000000), (A.CRY_LEN, 3), (A.CRY_STAT, 0x3A)] : State).bit F.CRY_STAT_BUSY = false) ∧ ((st [(A.SYS_MODE, 3), (A.CRY_SRC, 0x03000000), (A.CRY_LEN, 3), (A.CRY_STAT, 0x3A)] : State).cryMay (.coreS : Writer) 2 = true) := by decide +kernel

theorem test_wit_cryptographyJobs_3_1 : ((st [(A.SYS_MODE, 3), (A.CRY_SRC, 0x03000000), (A.CRY_LEN, 3), (A.CRY_STAT, 0x3A)] : State).operating = true) ∧ (isCore (.coreS : Writer) = true) ∧ ((st [(A.SYS_MODE, 3), (A.CRY_SRC, 0x03000000), (A.CRY_LEN, 3), (A.CRY_STAT, 0x3A)] : State).bit F.CRY_STAT_BUSY = false) ∧ ((st [(A.SYS_MODE, 3), (A.CRY_SRC, 0x03000000), (A.CRY_LEN, 3), (A.CRY_STAT, 0x3A)] : State).cryMay (.coreS : Writer) 3 = true) := by decide +kernel

theorem test_wit_cryptographyJobs_4_1 : ((st [(A.SYS_MODE, 3), (A.CRY_SRC, 0x03000000), (A.CRY_LEN, 3), (A.CRY_STAT, 0x3A)] : State).operating = true) ∧ (isCore (.coreS : Writer) = true) ∧ ((st [(A.SYS_MODE, 3), (A.CRY_SRC, 0x03000000), (A.CRY_LEN, 3), (A.CRY_STAT, 0x3A)] : State).bit F.CRY_STAT_BUSY = false) ∧ ((st [(A.SYS_MODE, 3), (A.CRY_SRC, 0x03000000), (A.CRY_LEN, 3), (A.CRY_STAT, 0x3A)] : State).cryMay (.coreS : Writer) 4 = true) := by decide +kernel

theorem test_wit_cryptographyJobs_5_1 : ((st [(A.SYS_MODE, 3), (A.CRY_SRC, 0x03000000), (A.CRY_LEN, 3), (A.CRY_STAT, 0x3A)] : State).operating = true) ∧ (isCore (.coreS : Writer) = true) ∧ ((st [(A.SYS_MODE, 3), (A.CRY_SRC, 0x03000000), (A.CRY_LEN, 3), (A.CRY_STAT, 0x3A)] : State).bit F.CRY_STAT_BUSY = false) ∧ ((st [(A.SYS_MODE, 3), (A.CRY_SRC, 0x03000000), (A.CRY_LEN, 3), (A.CRY_STAT, 0x3A)] : State).cryMay (.coreS : Writer) 5 = true) := by decide +kernel

theorem test_wit_cryptographyJobs_6_1 : ((st [(A.SYS_MODE, 3), (A.CRY_SRC, 0x03000000), (A.CRY_LEN, 3), (A.CRY_STAT, 0x3A)] : State).operating = true) ∧ (isCore (.coreS : Writer) = true) ∧ ((st [(A.SYS_MODE, 3), (A.CRY_SRC, 0x03000000), (A.CRY_LEN, 3), (A.CRY_STAT, 0x3A)] : State).bit F.CRY_STAT_BUSY = false) ∧ ((st [(A.SYS_MODE, 3), (A.CRY_SRC, 0x03000000), (A.CRY_LEN, 3), (A.CRY_STAT, 0x3A)] : State).cryMay (.coreS : Writer) 6 = true) := by decide +kernel

theorem test_wit_cryptographyJobs_7_1 : ((st [(A.SYS_MODE, 3), (A.CRY_SRC, 0x03000000), (A.CRY_LEN, 3), (A.CRY_STAT, 0x3A)] : State).operating = true) ∧ (isCore (.coreS : Writer) = true) ∧ ((st [(A.SYS_MODE, 3), (A.CRY_SRC, 0x03000000), (A.CRY_LEN, 3), (A.CRY_STAT, 0x3A)] : State).bit F.CRY_STAT_BUSY = false) ∧ ((st [(A.SYS_MODE, 3), (A.CRY_SRC, 0x03000000), (A.CRY_LEN, 3), (A.CRY_STAT, 0x3A)] : State).cryMay (.coreS : Writer) 7 = true) := by decide +kernel

theorem test_wit_cryptographyJobs_8_1 : ((st [(A.SYS_MODE, 3), (A.CRY_SRC, 0x03000000), (A.CRY_LEN, 3), (A.CRY_STAT, 0x3A)] : State).operating = true) ∧ (isCore (.coreS : Writer) = true) ∧ ((st [(A.SYS_MODE, 3), (A.CRY_SRC, 0x03000000), (A.CRY_LEN, 3), (A.CRY_STAT, 0x3A)] : State).bit F.CRY_STAT_BUSY = false) ∧ ((st [(A.SYS_MODE, 3), (A.CRY_SRC, 0x03000000), (A.CRY_LEN, 3), (A.CRY_STAT, 0x3A)] : State).cryMay (.coreS : Writer) 8 = true) := by decide +kernel

theorem test_wit_cryptographyJobs_9_1 : ((st [(A.SYS_MODE, 3), (A.CRY_SRC, 0x03000000), (A.CRY_LEN, 3), (A.CRY_STAT, 0x3A)] : State).operating = true) ∧ (isCore (.coreS : Writer) = true) ∧ ((st [(A.SYS_MODE, 3), (A.CRY_SRC, 0x03000000), (A.CRY_LEN, 3), (A.CRY_STAT, 0x3A)] : State).bit F.CRY_STAT_BUSY = false) ∧ ((st [(A.SYS_MODE, 3), (A.CRY_SRC, 0x03000000), (A.CRY_LEN, 3), (A.CRY_STAT, 0x3A)] : State).cryMay (.coreS : Writer) 9 = true) := by decide +kernel

theorem test_wit_cryptographyJobs_10_1 : ((st [(A.SYS_MODE, 3), (A.CRY_SRC, 0x03000000), (A.CRY_LEN, 3), (A.CRY_STAT, 0x3A)] : State).operating = true) ∧ (isCore (.coreS : Writer) = true) ∧ ((st [(A.SYS_MODE, 3), (A.CRY_SRC, 0x03000000), (A.CRY_LEN, 3), (A.CRY_STAT, 0x3A)] : State).bit F.CRY_STAT_BUSY = false) ∧ ((st [(A.SYS_MODE, 3), (A.CRY_SRC, 0x03000000), (A.CRY_LEN, 3), (A.CRY_STAT, 0x3A)] : State).cryMay (.coreS : Writer) 10 = true) := by decide +kernel

theorem test_wit_cryptographyJobs_1_2 : ((st [(A.SYS_MODE, 5)] : State).operating = true) ∧ (isCore (.coreA 2 true : Writer) = true) ∧ ((st [(A.SYS_MODE, 5)] : State).bit F.CRY_STAT_BUSY = false) ∧ ((st [(A.SYS_MODE, 5)] : State).cryMay (.coreA 2 true : Writer) 1 = true) := by decide +kernel

theorem test_wit_cryptographyJobs_2_2 : ((st [(A.SYS_MODE, 5)] : State).operating = true) ∧ (isCore (.coreA 2 true : Writer) = true) ∧ ((st [(A.SYS_MODE, 5)] : State).bit F.CRY_STAT_BUSY = false) ∧ ((st [(A.SYS_MODE, 5)] : State).cryMay (.coreA 2 true : Writer) 2 = true) := by decide +kernel

theorem test_wit_cryptographyJobs_3_2 : ((st [(A.SYS_MODE, 5)] : State).operating = true) ∧ (isCore (.coreA 2 true : Writer) = true) ∧ ((st [(A.SYS_MODE, 5)] : State).bit F.CRY_STAT_BUSY = false) ∧ ((st [(A.SYS_MODE, 5)] : State).cryMay (.coreA 2 true : Writer) 3 = true) := by decide +kernel

theorem test_wit_cryptographyJobs_5_2 : ((st [(A.SYS_MODE, 5)] : State).operating = true) ∧ (isCore (.coreA 2 true : Writer) = true) ∧ ((st [(A.SYS_MODE, 5)] : State).bit F.CRY_STAT_BUSY = false) ∧ ((st [(A.SYS_MODE, 5)] : State).cryMay (.coreA 2 true : Writer) 5 = true) := by decide +kernel

theorem test_wit_cryptographyJobs_11_2 : ((st [(A.SYS_MODE, 5)] : State).operating = true) ∧ (isCore (.coreA 2 true : Writer) = true) ∧ ((st [(A.SYS_MODE, 5)] : State).bit F.CRY_STAT_BUSY = false) ∧ ((st [(A.SYS_MODE, 5)] : State).cryMay (.coreA 2 true : Writer) 7 = false) := by decide +kernel

theorem test_wit_cryptographyJobs_12_3 : (({ (st [(A.SYS_MODE, 5), (A.CRY_STAT, 1)]).setBytes 0x03000000 [0x61, 0x62, 0x63] with cryJob := [1, 0x03000000, 3, 0, 0, 0x03000008] } : State).operating = true) ∧ (isCore (.coreS : Writer) = true) ∧ (({ (st [(A.SYS_MODE, 5), (A.CRY_STAT, 1)]).setBytes 0x03000000 [0x61, 0x62, 0x63] with cryJob := [1, 0x03000000, 3, 0, 0, 0x03000008] } : State).bit F.CRY_STAT_BUSY = true) := by decide +kernel

theorem test_wit_cryptographyJobs_13_3 : (({ (st [(A.SYS_MODE, 5), (A.CRY_STAT, 1)]).setBytes 0x03000000 [0x61, 0x62, 0x63] with cryJob := [1, 0x03000000, 3, 0, 0, 0x03000008] } : State).bit F.CRY_STAT_BUSY = true) ∧ (({ (st [(A.SYS_MODE, 5), (A.CRY_STAT, 1)]).setBytes 0x03000000 [0x61, 0x62, 0x63] with cryJob := [1, 0x03000000, 3, 0, 0, 0x03000008] } : State).cryFrozen = false) ∧ (({ (st [(A.SYS_MODE, 5), (A.CRY_STAT, 1)]).setBytes 0x03000000 [0x61, 0x62, 0x63] with cryJob := [1, 0x03000000, 3, 0, 0, 0x03000008] } : State).cryStage = 0) ∧ (cryOp (({ (st [(A.SYS_MODE, 5), (A.CRY_STAT, 1)]).setBytes 0x03000000 [0x61, 0x62, 0x63] with cryJob := [1, 0x03000000, 3, 0, 0, 0x03000008] } : State).cryArg 0) = 1) ∧ (({ (st [(A.SYS_MODE, 5), (A.CRY_STAT, 1)]).setBytes 0x03000000 [0x61, 0x62, 0x63] with cryJob := [1, 0x03000000, 3, 0, 0, 0x03000008] } : State).blockRead (({ (st [(A.SYS_MODE, 5), (A.CRY_STAT, 1)]).setBytes 0x03000000 [0x61, 0x62, 0x63] with cryJob := [1, 0x03000000, 3, 0, 0, 0x03000008] } : State).cryArg 1) (({ (st [(A.SYS_MODE, 5), (A.CRY_STAT, 1)]).setBytes 0x03000000 [0x61, 0x62, 0x63] with cryJob := [1, 0x03000000, 3, 0, 0, 0x03000008] } : State).cryArg 2) = (some ([0x61, 0x62, 0x63] : List Byte), ({ (st [(A.SYS_MODE, 5), (A.CRY_STAT, 1)]).setBytes 0x03000000 [0x61, 0x62, 0x63] with cryJob := [1, 0x03000000, 3, 0, 0, 0x03000008] } : State))) ∧ ((({ (st [(A.SYS_MODE, 5), (A.CRY_STAT, 1)]).setBytes 0x03000000 [0x61, 0x62, 0x63] with cryJob := [1, 0x03000000, 3, 0, 0, 0x03000008] } : State).blockWrite ({ (st [(A.SYS_MODE, 5), (A.CRY_STAT, 1)]).setBytes 0x03000000 [0x61, 0x62, 0x63] with cryJob := [1, 0x03000000, 3, 0, 0, 0x03000008] } : State).cryWriter (({ (st [(A.SYS_MODE, 5), (A.CRY_STAT, 1)]).setBytes 0x03000000 [0x61, 0x62, 0x63] with cryJob := [1, 0x03000000, 3, 0, 0, 0x03000008] } : State).cryArg 5) (sha256 ([0x61, 0x62, 0x63] : List Byte))).1 = true) ∧ (∀ i : Fin 32, region (localOf (({ (st [(A.SYS_MODE, 5), (A.CRY_STAT, 1)]).setBytes 0x03000000 [0x61, 0x62, 0x63] with cryJob := [1, 0x03000000, 3, 0, 0, 0x03000008] } : State).cryArg 5) + i) ≠ .table ∧ ({ (st [(A.SYS_MODE, 5), (A.CRY_STAT, 1)]).setBytes 0x03000000 [0x61, 0x62, 0x63] with cryJob := [1, 0x03000000, 3, 0, 0, 0x03000008] } : State).tornAt (localOf (({ (st [(A.SYS_MODE, 5), (A.CRY_STAT, 1)]).setBytes 0x03000000 [0x61, 0x62, 0x63] with cryJob := [1, 0x03000000, 3, 0, 0, 0x03000008] } : State).cryArg 5) + i) = none) := by decide +kernel

theorem test_wit_cryptographyJobs_14_4 : (({ st [(A.SYS_MODE, 3), (A.CRY_STAT, 1), (A.CRY_OTPSTAT, 0x1F40)] with cryJob := [0x2009, 0, 0, 0, 0, 0] } : State).bit F.CRY_STAT_BUSY = true) ∧ (({ st [(A.SYS_MODE, 3), (A.CRY_STAT, 1), (A.CRY_OTPSTAT, 0x1F40)] with cryJob := [0x2009, 0, 0, 0, 0, 0] } : State).cryFrozen = false) ∧ (({ st [(A.SYS_MODE, 3), (A.CRY_STAT, 1), (A.CRY_OTPSTAT, 0x1F40)] with cryJob := [0x2009, 0, 0, 0, 0, 0] } : State).cryStage = 0) ∧ (cryOp (({ st [(A.SYS_MODE, 3), (A.CRY_STAT, 1), (A.CRY_OTPSTAT, 0x1F40)] with cryJob := [0x2009, 0, 0, 0, 0, 0] } : State).cryArg 0) = 9) ∧ (({ st [(A.SYS_MODE, 3), (A.CRY_STAT, 1), (A.CRY_OTPSTAT, 0x1F40)] with cryJob := [0x2009, 0, 0, 0, 0, 0] } : State).rd F.CRY_OTPSTAT_EPOCH < cryEpoch (({ st [(A.SYS_MODE, 3), (A.CRY_STAT, 1), (A.CRY_OTPSTAT, 0x1F40)] with cryJob := [0x2009, 0, 0, 0, 0, 0] } : State).cryArg 0)) ∧ (cryEpoch (({ st [(A.SYS_MODE, 3), (A.CRY_STAT, 1), (A.CRY_OTPSTAT, 0x1F40)] with cryJob := [0x2009, 0, 0, 0, 0, 0] } : State).cryArg 0) ≤ 32) := by decide +kernel

theorem test_wit_cryptographyJobs_15_5 : (({ st [(A.SYS_MODE, 3), (A.CRY_STAT, 1), (A.CRY_OTPSTAT, 0x3)] with cryJob := [0x18, 0, 0, 0, 0, 0] } : State).bit F.CRY_STAT_BUSY = true) ∧ (({ st [(A.SYS_MODE, 3), (A.CRY_STAT, 1), (A.CRY_OTPSTAT, 0x3)] with cryJob := [0x18, 0, 0, 0, 0, 0] } : State).cryFrozen = false) ∧ (({ st [(A.SYS_MODE, 3), (A.CRY_STAT, 1), (A.CRY_OTPSTAT, 0x3)] with cryJob := [0x18, 0, 0, 0, 0, 0] } : State).cryStage = 0) ∧ (cryOp (({ st [(A.SYS_MODE, 3), (A.CRY_STAT, 1), (A.CRY_OTPSTAT, 0x3)] with cryJob := [0x18, 0, 0, 0, 0, 0] } : State).cryArg 0) = 8) ∧ (∃ j : Fin 4, j.val ≠ cryIdx (({ st [(A.SYS_MODE, 3), (A.CRY_STAT, 1), (A.CRY_OTPSTAT, 0x3)] with cryJob := [0x18, 0, 0, 0, 0, 0] } : State).cryArg 0) ∧ ({ st [(A.SYS_MODE, 3), (A.CRY_STAT, 1), (A.CRY_OTPSTAT, 0x3)] with cryJob := [0x18, 0, 0, 0, 0, 0] } : State).keyUsable j = true) := by decide +kernel

theorem test_wit_cryptographyJobs_16_6 : (({ st [(A.SYS_MODE, 3), (A.CRY_STAT, 1), (A.CRY_OTPSTAT, 0x1)] with cryJob := [0x37, 0, 0, 0x03000000, 0, 0] } : State).bit F.CRY_STAT_BUSY = true) ∧ (({ st [(A.SYS_MODE, 3), (A.CRY_STAT, 1), (A.CRY_OTPSTAT, 0x1)] with cryJob := [0x37, 0, 0, 0x03000000, 0, 0] } : State).cryFrozen = false) ∧ (({ st [(A.SYS_MODE, 3), (A.CRY_STAT, 1), (A.CRY_OTPSTAT, 0x1)] with cryJob := [0x37, 0, 0, 0x03000000, 0, 0] } : State).cryStage = 0) ∧ (cryOp (({ st [(A.SYS_MODE, 3), (A.CRY_STAT, 1), (A.CRY_OTPSTAT, 0x1)] with cryJob := [0x37, 0, 0, 0x03000000, 0, 0] } : State).cryArg 0) = 7) ∧ (({ st [(A.SYS_MODE, 3), (A.CRY_STAT, 1), (A.CRY_OTPSTAT, 0x1)] with cryJob := [0x37, 0, 0, 0x03000000, 0, 0] } : State).bitAt F.CRY_OTPSTAT_PROV (cryIdx (({ st [(A.SYS_MODE, 3), (A.CRY_STAT, 1), (A.CRY_OTPSTAT, 0x1)] with cryJob := [0x37, 0, 0, 0x03000000, 0, 0] } : State).cryArg 0)) = false) ∧ (({ st [(A.SYS_MODE, 3), (A.CRY_STAT, 1), (A.CRY_OTPSTAT, 0x1)] with cryJob := [0x37, 0, 0, 0x03000000, 0, 0] } : State).blockRead (({ st [(A.SYS_MODE, 3), (A.CRY_STAT, 1), (A.CRY_OTPSTAT, 0x1)] with cryJob := [0x37, 0, 0, 0x03000000, 0, 0] } : State).cryArg 3) 64 = (some ((List.replicate 64 0) : List Byte), ({ st [(A.SYS_MODE, 3), (A.CRY_STAT, 1), (A.CRY_OTPSTAT, 0x1)] with cryJob := [0x37, 0, 0, 0x03000000, 0, 0] } : State))) := by decide +kernel

theorem test_wit_cryptographyJobs_17_7 : (({ st [(A.SYS_MODE, 3), (A.CRY_STAT, 1)] with cryJob := [0xA, 0, 0, 0, 0, 0] } : State).bit F.CRY_STAT_BUSY = true) ∧ (({ st [(A.SYS_MODE, 3), (A.CRY_STAT, 1)] with cryJob := [0xA, 0, 0, 0, 0, 0] } : State).cryFrozen = false) ∧ (({ st [(A.SYS_MODE, 3), (A.CRY_STAT, 1)] with cryJob := [0xA, 0, 0, 0, 0, 0] } : State).cryStage = 0) ∧ (cryOp (({ st [(A.SYS_MODE, 3), (A.CRY_STAT, 1)] with cryJob := [0xA, 0, 0, 0, 0, 0] } : State).cryArg 0) = 10) := by decide +kernel

theorem test_wit_fabricPorts_1_1 : ((st [(A.SYS_MODE, 3), (A.FAB_P_STAT 0, 0x40B), (A.FAB_P_STAT 1, 0x10C), (A.FAB_NODE, 0)] : State).fabLive = true ∨ (st [(A.SYS_MODE, 3), (A.FAB_P_STAT 0, 0x40B), (A.FAB_P_STAT 1, 0x10C), (A.FAB_NODE, 0)] : State).mode = .dormant) ∧ ((st [(A.SYS_MODE, 3), (A.FAB_P_STAT 0, 0x40B), (A.FAB_P_STAT 1, 0x10C), (A.FAB_NODE, 0)] : State).fabLive = true) ∧ (sfpMedia (sfp 0 : List Byte) = some ((2 : Nat), (false : Bool))) := by decide +kernel

theorem test_wit_fabricPorts_6_1 : ((st [(A.SYS_MODE, 3), (A.FAB_P_STAT 0, 0x40B), (A.FAB_P_STAT 1, 0x10C), (A.FAB_NODE, 0)] : State).fabLive = true ∨ (st [(A.SYS_MODE, 3), (A.FAB_P_STAT 0, 0x40B), (A.FAB_P_STAT 1, 0x10C), (A.FAB_NODE, 0)] : State).mode = .dormant) ∧ ((st [(A.SYS_MODE, 3), (A.FAB_P_STAT 0, 0x40B), (A.FAB_P_STAT 1, 0x10C), (A.FAB_NODE, 0)] : State).fabLive = true) ∧ ((st [(A.SYS_MODE, 3), (A.FAB_P_STAT 0, 0x40B), (A.FAB_P_STAT 1, 0x10C), (A.FAB_NODE, 0)] : State).bit (F.FAB_P_STAT_LOCK (0 : Fin 2)) = true) ∧ ((st [(A.SYS_MODE, 3), (A.FAB_P_STAT 0, 0x40B), (A.FAB_P_STAT 1, 0x10C), (A.FAB_NODE, 0)] : State).portIsUp (0 : Fin 2) = false) ∧ ((st [(A.SYS_MODE, 3), (A.FAB_P_STAT 0, 0x40B), (A.FAB_P_STAT 1, 0x10C), (A.FAB_NODE, 0)] : State).mode = .boot → (st [(A.SYS_MODE, 3), (A.FAB_P_STAT 0, 0x40B), (A.FAB_P_STAT 1, 0x10C), (A.FAB_NODE, 0)] : State).bit F.SYS_READY_DRAM = true) := by decide +kernel

theorem test_wit_fabricPorts_9_1 : ((st [(A.SYS_MODE, 3), (A.FAB_P_STAT 0, 0x40B), (A.FAB_P_STAT 1, 0x10C), (A.FAB_NODE, 0)] : State).fabLive = true ∨ (st [(A.SYS_MODE, 3), (A.FAB_P_STAT 0, 0x40B), (A.FAB_P_STAT 1, 0x10C), (A.FAB_NODE, 0)] : State).mode = .dormant) ∧ ((st [(A.SYS_MODE, 3), (A.FAB_P_STAT 0, 0x40B), (A.FAB_P_STAT 1, 0x10C), (A.FAB_NODE, 0)] : State).fabLive = true) ∧ ((st [(A.SYS_MODE, 3), (A.FAB_P_STAT 0, 0x40B), (A.FAB_P_STAT 1, 0x10C), (A.FAB_NODE, 0)] : State).operating = true) ∧ (isCore (.coreA 0 false : Writer) = true) := by decide +kernel

theorem test_wit_fabricPorts_10_1 : ((st [(A.SYS_MODE, 3), (A.FAB_P_STAT 0, 0x40B), (A.FAB_P_STAT 1, 0x10C), (A.FAB_NODE, 0)] : State).fabLive = true ∨ (st [(A.SYS_MODE, 3), (A.FAB_P_STAT 0, 0x40B), (A.FAB_P_STAT 1, 0x10C), (A.FAB_NODE, 0)] : State).mode = .dormant) := by decide +kernel

theorem test_wit_fabricPorts_1_2 : ((st [(A.SYS_MODE, 3), (A.FAB_P_STAT 1, 0x406)] : State).fabLive = true ∨ (st [(A.SYS_MODE, 3), (A.FAB_P_STAT 1, 0x406)] : State).mode = .dormant) ∧ ((st [(A.SYS_MODE, 3), (A.FAB_P_STAT 1, 0x406)] : State).fabLive = true) ∧ (sfpMedia (sfp 2 : List Byte) = some ((2 : Nat), (true : Bool))) := by decide +kernel

theorem test_wit_fabricPorts_4_2 : ((st [(A.SYS_MODE, 3), (A.FAB_P_STAT 1, 0x406)] : State).fabLive = true ∨ (st [(A.SYS_MODE, 3), (A.FAB_P_STAT 1, 0x406)] : State).mode = .dormant) ∧ ((st [(A.SYS_MODE, 3), (A.FAB_P_STAT 1, 0x406)] : State).fabLive = true) ∧ ((st [(A.SYS_MODE, 3), (A.FAB_P_STAT 1, 0x406)] : State).bit (F.FAB_P_CTL_EN (1 : Fin 2)) = true) ∧ ((st [(A.SYS_MODE, 3), (A.FAB_P_STAT 1, 0x406)] : State).bit (F.FAB_P_STAT_IDOK (1 : Fin 2)) = true) ∧ ((st [(A.SYS_MODE, 3), (A.FAB_P_STAT 1, 0x406)] : State).portIsUp (1 : Fin 2) = false) ∧ ((st [(A.SYS_MODE, 3), (A.FAB_P_STAT 1, 0x406)] : State).due (.portUp (1 : Fin 2)) = false) := by decide +kernel

theorem test_wit_fabricPorts_5_3 : ((st [(A.SYS_MODE, 5), (A.FAB_P_STAT 1, 0x01B)] : State).fabLive = true ∨ (st [(A.SYS_MODE, 5), (A.FAB_P_STAT 1, 0x01B)] : State).mode = .dormant) ∧ ((st [(A.SYS_MODE, 5), (A.FAB_P_STAT 1, 0x01B)] : State).fabLive = true) ∧ ((st [(A.SYS_MODE, 5), (A.FAB_P_STAT 1, 0x01B)] : State).portIsUp (1 : Fin 2) = true) ∧ ((st [(A.SYS_MODE, 5), (A.FAB_P_STAT 1, 0x01B)] : State).due (.portDown (1 : Fin 2)) = false) := by decide +kernel

theorem test_wit_fabricPorts_2_4 : ((st [(A.SYS_MODE, 5), (A.FAB_P_STAT 1, 0x40C)] : State).fabLive = true ∨ (st [(A.SYS_MODE, 5), (A.FAB_P_STAT 1, 0x40C)] : State).mode = .dormant) ∧ ((st [(A.SYS_MODE, 5), (A.FAB_P_STAT 1, 0x40C)] : State).fabLive = true) ∧ (sfpMedia ([3, 0, 0] : List Byte) = none) := by decide +kernel

theorem test_wit_fabricPorts_3_4 : ((st [(A.SYS_MODE, 5), (A.FAB_P_STAT 1, 0x40C)] : State).fabLive = true ∨ (st [(A.SYS_MODE, 5), (A.FAB_P_STAT 1, 0x40C)] : State).mode = .dormant) ∧ ((st [(A.SYS_MODE, 5), (A.FAB_P_STAT 1, 0x40C)] : State).fabLive = true) := by decide +kernel

theorem test_wit_fabricPorts_7_5 : ((st [(A.SYS_MODE, 5), (A.FAB_P_STAT 1, 0x400), (A.FAB_P_STAT 0, 0x10), (A.FAB_NODE, 0x2805), (A.FAB_P_DOWNCNT 0, 0xFFFF)] : State).fabLive = true ∨ (st [(A.SYS_MODE, 5), (A.FAB_P_STAT 1, 0x400), (A.FAB_P_STAT 0, 0x10), (A.FAB_NODE, 0x2805), (A.FAB_P_DOWNCNT 0, 0xFFFF)] : State).mode = .dormant) ∧ ((st [(A.SYS_MODE, 5), (A.FAB_P_STAT 1, 0x400), (A.FAB_P_STAT 0, 0x10), (A.FAB_NODE, 0x2805), (A.FAB_P_DOWNCNT 0, 0xFFFF)] : State).portIsUp (0 : Fin 2) = true) ∧ ((st [(A.SYS_MODE, 5), (A.FAB_P_STAT 1, 0x400), (A.FAB_P_STAT 0, 0x10), (A.FAB_NODE, 0x2805), (A.FAB_P_DOWNCNT 0, 0xFFFF)] : State).bit (F.FAB_P_STAT_LOCK (0 : Fin 2)) = false) := by decide +kernel

theorem test_wit_fabricPorts_7_6 : ((st [(A.SYS_MODE, 5), (A.FAB_P_STAT 1, 0x10), (A.FAB_P_STAT 0, 0x18), (A.FAB_NODE, 0x1000)] : State).fabLive = true ∨ (st [(A.SYS_MODE, 5), (A.FAB_P_STAT 1, 0x10), (A.FAB_P_STAT 0, 0x18), (A.FAB_NODE, 0x1000)] : State).mode = .dormant) ∧ ((st [(A.SYS_MODE, 5), (A.FAB_P_STAT 1, 0x10), (A.FAB_P_STAT 0, 0x18), (A.FAB_NODE, 0x1000)] : State).portIsUp (1 : Fin 2) = true) ∧ ((st [(A.SYS_MODE, 5), (A.FAB_P_STAT 1, 0x10), (A.FAB_P_STAT 0, 0x18), (A.FAB_NODE, 0x1000)] : State).bit (F.FAB_P_STAT_LOCK (1 : Fin 2)) = false) := by decide +kernel

theorem test_wit_fabricPorts_8_7 : ((st [(A.SYS_MODE, 5), (A.SYS_READY, 0x40), (A.FAB_NODE, 0x2805)] : State).fabLive = true ∨ (st [(A.SYS_MODE, 5), (A.SYS_READY, 0x40), (A.FAB_NODE, 0x2805)] : State).mode = .dormant) ∧ ((st [(A.SYS_MODE, 5), (A.SYS_READY, 0x40), (A.FAB_NODE, 0x2805)] : State).rd F.FAB_NODE_STATE = 2) ∧ ((st [(A.SYS_MODE, 5), (A.SYS_READY, 0x40), (A.FAB_NODE, 0x2805)] : State).portIsUp 0 = false) ∧ ((st [(A.SYS_MODE, 5), (A.SYS_READY, 0x40), (A.FAB_NODE, 0x2805)] : State).portIsUp 1 = false) := by decide +kernel

theorem test_wit_fabricPorts_11_8 : ((st [(A.SYS_MODE, 1)] : State).fabLive = true ∨ (st [(A.SYS_MODE, 1)] : State).mode = .dormant) ∧ ((st [(A.SYS_MODE, 1)] : State).mode = .dormant) := by decide +kernel

theorem test_wit_fabricFramesActAndPass_1_1 : ((st ([(A.SYS_MODE, 3), (A.FAB_P_STAT 0, 0x1B), (A.FAB_P_STAT 1, 0x1B), (A.FAB_P_ERRCNT 0, 0xFFFFFFFFFFFF)]) : State).fabLive = true) ∧ ((st ([(A.SYS_MODE, 3), (A.FAB_P_STAT 0, 0x1B), (A.FAB_P_STAT 1, 0x1B), (A.FAB_P_ERRCNT 0, 0xFFFFFFFFFFFF)]) : State).dormAt = none) ∧ ((st ([(A.SYS_MODE, 3), (A.FAB_P_STAT 0, 0x1B), (A.FAB_P_STAT 1, 0x1B), (A.FAB_P_ERRCNT 0, 0xFFFFFFFFFFFF)]) : State).portIsUp (0 : Fin 2) = true) ∧ ((st ([(A.SYS_MODE, 3), (A.FAB_P_STAT 0, 0x1B), (A.FAB_P_STAT 1, 0x1B), (A.FAB_P_ERRCNT 0, 0xFFFFFFFFFFFF)]) : State).tstOn 4 = false) ∧ ((st ([(A.SYS_MODE, 3), (A.FAB_P_STAT 0, 0x1B), (A.FAB_P_STAT 1, 0x1B), (A.FAB_P_ERRCNT 0, 0xFFFFFFFFFFFF)]) : State).rd F.FAB_CTL_TOPO ≠ 2) ∧ (parseFrame (fr1 : List Byte) = some (pa1 : Parsed)) ∧ ((pa1 : Parsed).hcrcGood = false) := by decide +kernel

theorem test_wit_fabricFramesActAndPass_1_2 : ((st ([(A.SYS_MODE, 3), (A.FAB_P_STAT 0, 0x1B), (A.FAB_P_STAT 1, 0x1B), (A.FAB_CTL, 0x2048)]) : State).fabLive = true) ∧ ((st ([(A.SYS_MODE, 3), (A.FAB_P_STAT 0, 0x1B), (A.FAB_P_STAT 1, 0x1B), (A.FAB_CTL, 0x2048)]) : State).dormAt = none) ∧ ((st ([(A.SYS_MODE, 3), (A.FAB_P_STAT 0, 0x1B), (A.FAB_P_STAT 1, 0x1B), (A.FAB_CTL, 0x2048)]) : State).portIsUp (1 : Fin 2) = true) ∧ ((st ([(A.SYS_MODE, 3), (A.FAB_P_STAT 0, 0x1B), (A.FAB_P_STAT 1, 0x1B), (A.FAB_CTL, 0x2048)]) : State).tstOn 4 = false) ∧ ((st ([(A.SYS_MODE, 3), (A.FAB_P_STAT 0, 0x1B), (A.FAB_P_STAT 1, 0x1B), (A.FAB_CTL, 0x2048)]) : State).rd F.FAB_CTL_TOPO ≠ 2) ∧ (parseFrame (fr2 : List Byte) = some (pa2 : Parsed)) ∧ ((pa2 : Parsed).hcrcGood = false) := by decide +kernel

theorem test_wit_fabricFramesActAndPass_2_3 : (parseFrame (fr3 : List Byte) = some (pa3 : Parsed)) ∧ ((st ([(A.SYS_MODE, 3), (A.FAB_P_STAT 0, 0x1B), (A.FAB_P_STAT 1, 0x1B), (A.FAB_NODE, 0x2806)]) : State).takes (0 : Fin 2) (pa3 : Parsed) (fr3 : List Byte) = true) ∧ (foreign (pa3 : Parsed).src = true) ∧ ((st ([(A.SYS_MODE, 3), (A.FAB_P_STAT 0, 0x1B), (A.FAB_P_STAT 1, 0x1B), (A.FAB_NODE, 0x2806)]) : State).addressed (pa3 : Parsed) = false) ∧ ((pa3 : Parsed).type ≠ 1) ∧ ((pa3 : Parsed).type ≠ 8) ∧ ((st ([(A.SYS_MODE, 3), (A.FAB_P_STAT 0, 0x1B), (A.FAB_P_STAT 1, 0x1B), (A.FAB_NODE, 0x2806)]) : State).sendsOn (0 : Fin 2) (pa3 : Parsed) = true) := ⟨by decide +kernel, by decide +kernel, Sys2Proof.Wit.foreign_of _ (by decide +kernel), by decide +kernel, by decide +kernel, by decide +kernel, by decide +kernel⟩

theorem test_wit_fabricFramesActAndPass_3_4 : (parseFrame (fr4 : List Byte) = some (pa4 : Parsed)) ∧ ((st ([(A.SYS_MODE, 3), (A.FAB_P_STAT 0, 0x1B), (A.FAB_P_STAT 1, 0x1B), (A.FAB_NODE, 0x1000)]) : State).takes (0 : Fin 2) (pa4 : Parsed) (fr4 : List Byte) = true) ∧ (foreign (pa4 : Parsed).src = true) ∧ ((pa4 : Parsed).type = 2) ∧ ((pa4 : Parsed).bcast = true) ∧ ((pa4 : Parsed).resp = false) ∧ ((st ([(A.SYS_MODE, 3), (A.FAB_P_STAT 0, 0x1B), (A.FAB_P_STAT 1, 0x1B), (A.FAB_NODE, 0x1000)]) : State).rd F.FAB_NODE_STATE = 1) ∧ ((st ([(A.SYS_MODE, 3), (A.FAB_P_STAT 0, 0x1B), (A.FAB_P_STAT 1, 0x1B), (A.FAB_NODE, 0x1000)]) : State).rd F.FAB_CTL_TOPO = 0 ∨ ((st ([(A.SYS_MODE, 3), (A.FAB_P_STAT 0, 0x1B), (A.FAB_P_STAT 1, 0x1B), (A.FAB_NODE, 0x1000)]) : State).rd F.FAB_CTL_TOPO = 1 ∧ (0 : Fin 2) = 0)) ∧ ((st ([(A.SYS_MODE, 3), (A.FAB_P_STAT 0, 0x1B), (A.FAB_P_STAT 1, 0x1B), (A.FAB_NODE, 0x1000)]) : State).rd F.FAB_CTL_IDMODE = 0) ∧ ((pa4 : Parsed).hops < 255) ∧ ((if beNat ((pa4 : Parsed).pay 2 2) = 0 then (st ([(A.SYS_MODE, 3), (A.FAB_P_STAT 0, 0x1B), (A.FAB_P_STAT 1, 0x1B), (A.FAB_NODE, 0x1000)]) : State).rd F.FAB_CFGID_POSBASE else beNat ((pa4 : Parsed).pay 2 2)) + (pa4 : Parsed).hops = (2047 : Nat)) ∧ (1 ≤ (2047 : Nat)) ∧ ((2047 : Nat) ≤ 2047) ∧ ((2047 : Nat) ≠ (pa4 : Parsed).srcId) := ⟨by decide +kernel, by decide +kernel, Sys2Proof.Wit.foreign_of _ (by decide +kernel), by decide +kernel, by decide +kernel, by decide +kernel, by decide +kernel, by decide +kernel, by decide +kernel, by decide +kernel, by decide +kernel, by decide +kernel, by decide +kernel, by decide +kernel⟩

theorem test_wit_fabricFramesActAndPass_3_5 : (parseFrame (fr5 : List Byte) = some (pa5 : Parsed)) ∧ ((st ([(A.SYS_MODE, 3), (A.FAB_P_STAT 0, 0x1B), (A.FAB_P_STAT 1, 0x1B), (A.FAB_NODE, 0x1000), (A.FAB_CTL, 0x2040)]) : State).takes (1 : Fin 2) (pa5 : Parsed) (fr5 : List Byte) = true) ∧ (foreign (pa5 : Parsed).src = true) ∧ ((pa5 : Parsed).type = 2) ∧ ((pa5 : Parsed).bcast = true) ∧ ((pa5 : Parsed).resp = false) ∧ ((st ([(A.SYS_MODE, 3), (A.FAB_P_STAT 0, 0x1B), (A.FAB_P_STAT 1, 0x1B), (A.FAB_NODE, 0x1000), (A.FAB_CTL, 0x2040)]) : State).rd F.FAB_NODE_STATE = 1) ∧ ((st ([(A.SYS_MODE, 3), (A.FAB_P_STAT 0, 0x1B), (A.FAB_P_STAT 1, 0x1B), (A.FAB_NODE, 0x1000), (A.FAB_CTL, 0x2040)]) : State).rd F.FAB_CTL_TOPO = 0 ∨ ((st ([(A.SYS_MODE, 3), (A.FAB_P_STAT 0, 0x1B), (A.FAB_P_STAT 1, 0x1B), (A.FAB_NODE, 0x1000), (A.FAB_CTL, 0x2040)]) : State).rd F.FAB_CTL_TOPO = 1 ∧ (1 : Fin 2) = 0)) ∧ ((st ([(A.SYS_MODE, 3), (A.FAB_P_STAT 0, 0x1B), (A.FAB_P_STAT 1, 0x1B), (A.FAB_NODE, 0x1000), (A.FAB_CTL, 0x2040)]) : State).rd F.FAB_CTL_IDMODE = 0) ∧ ((pa5 : Parsed).hops < 255) ∧ ((if beNat ((pa5 : Parsed).pay 2 2) = 0 then (st ([(A.SYS_MODE, 3), (A.FAB_P_STAT 0, 0x1B), (A.FAB_P_STAT 1, 0x1B), (A.FAB_NODE, 0x1000), (A.FAB_CTL, 0x2040)]) : State).rd F.FAB_CFGID_POSBASE else beNat ((pa5 : Parsed).pay 2 2)) + (pa5 : Parsed).hops = (1 : Nat)) ∧ (1 ≤ (1 : Nat)) ∧ ((1 : Nat) ≤ 2047) ∧ ((1 : Nat) ≠ (pa5 : Parsed).srcId) := ⟨by decide +kernel, by decide +kernel, Sys2Proof.Wit.foreign_of _ (by decide +kernel), by decide +kernel, by decide +kernel, by decide +kernel, by decide +kernel, by decide +kernel, by decide +kernel, by decide +kernel, by decide +kernel, by decide +kernel, by decide +kernel, by decide +kernel⟩

theorem test_wit_fabricFramesActAndPass_4_6 : (parseFrame (fr6 : List Byte) = some (pa6 : Parsed)) ∧ ((st ([(A.SYS_MODE, 3), (A.FAB_P_STAT 0, 0x1B), (A.FAB_P_STAT 1, 0x1B), (A.FAB_NODE, 0x1000), (A.FAB_CTL, 0x2020), (A.FAB_CFGID, 0x1005)]) : State).takes (1 : Fin 2) (pa6 : Parsed) (fr6 : List Byte) = true) ∧ (foreign (pa6 : Parsed).src = true) ∧ ((pa6 : Parsed).type = 2) ∧ ((pa6 : Parsed).bcast = true) ∧ ((pa6 : Parsed).resp = false) ∧ ((st ([(A.SYS_MODE, 3), (A.FAB_P_STAT 0, 0x1B), (A.FAB_P_STAT 1, 0x1B), (A.FAB_NODE, 0x1000), (A.FAB_CTL, 0x2020), (A.FAB_CFGID, 0x1005)]) : State).rd F.FAB_NODE_STATE = 1) ∧ ((st ([(A.SYS_MODE, 3), (A.FAB_P_STAT 0, 0x1B), (A.FAB_P_STAT 1, 0x1B), (A.FAB_NODE, 0x1000), (A.FAB_CTL, 0x2020), (A.FAB_CFGID, 0x1005)]) : State).rd F.FAB_CTL_IDMODE = 1) ∧ ((st ([(A.SYS_MODE, 3), (A.FAB_P_STAT 0, 0x1B), (A.FAB_P_STAT 1, 0x1B), (A.FAB_NODE, 0x1000), (A.FAB_CTL, 0x2020), (A.FAB_CFGID, 0x1005)]) : State).rd F.FAB_CTL_TOPO ≠ 1 ∨ (1 : Fin 2) = 0) ∧ ((st ([(A.SYS_MODE, 3), (A.FAB_P_STAT 0, 0x1B), (A.FAB_P_STAT 1, 0x1B), (A.FAB_NODE, 0x1000), (A.FAB_CTL, 0x2020), (A.FAB_CFGID, 0x1005)]) : State).rd F.FAB_CFGID_NODEID ≠ 0) ∧ ((st ([(A.SYS_MODE, 3), (A.FAB_P_STAT 0, 0x1B), (A.FAB_P_STAT 1, 0x1B), (A.FAB_NODE, 0x1000), (A.FAB_CTL, 0x2020), (A.FAB_CFGID, 0x1005)]) : State).rd F.FAB_CFGID_NODEID ≠ (pa6 : Parsed).srcId) := ⟨by decide +kernel, by decide +kernel, Sys2Proof.Wit.foreign_of _ (by decide +kernel), by decide +kernel, by decide +kernel, by decide +kernel, by decide +kernel, by decide +kernel, by decide +kernel, by decide +kernel, by decide +kernel⟩

theorem test_wit_fabricFramesActAndPass_5_7 : (parseFrame (fr7 : List Byte) = some (pa7 : Parsed)) ∧ ((st ([(A.SYS_MODE, 3), (A.FAB_P_STAT 0, 0x1B), (A.FAB_P_STAT 1, 0x1B), (A.FAB_NODE, 0x1000)]) : State).takes (0 : Fin 2) (pa7 : Parsed) (fr7 : List Byte) = true) ∧ (foreign (pa7 : Parsed).src = true) ∧ ((pa7 : Parsed).type = 3) ∧ ((pa7 : Parsed).bcast = true) ∧ ((pa7 : Parsed).resp = false) ∧ (beNat ((pa7 : Parsed).pay 6 2) ≤ 2047) ∧ (beNat ((pa7 : Parsed).pay 6 2) = 0 ∨ beNat ((pa7 : Parsed).pay 6 2) ≠ (st ([(A.SYS_MODE, 3), (A.FAB_P_STAT 0, 0x1B), (A.FAB_P_STAT 1, 0x1B), (A.FAB_NODE, 0x1000)]) : State).rd F.FAB_NODE_HOSTID) := ⟨by decide +kernel, by decide +kernel, Sys2Proof.Wit.foreign_of _ (by decide +kernel), by decide +kernel, by decide +kernel, by decide +kernel, by decide +kernel, by decide +kernel⟩

theorem test_wit_fabricFramesActAndPass_5_8 : (parseFrame (fr8 : List Byte) = some (pa8 : Parsed)) ∧ ((st ([(A.SYS_MODE, 3), (A.FAB_P_STAT 0, 0x1B), (A.FAB_P_STAT 1, 0x1B), (A.FAB_NODE, 0x2806)]) : State).takes (0 : Fin 2) (pa8 : Parsed) (fr8 : List Byte) = true) ∧ (foreign (pa8 : Parsed).src = true) ∧ ((pa8 : Parsed).type = 3) ∧ ((pa8 : Parsed).bcast = true) ∧ ((pa8 : Parsed).resp = false) ∧ (beNat ((pa8 : Parsed).pay 6 2) ≤ 2047) ∧ (beNat ((pa8 : Parsed).pay 6 2) = 0 ∨ beNat ((pa8 : Parsed).pay 6 2) ≠ (st ([(A.SYS_MODE, 3), (A.FAB_P_STAT 0, 0x1B), (A.FAB_P_STAT 1, 0x1B), (A.FAB_NODE, 0x2806)]) : State).rd F.FAB_NODE_HOSTID) := ⟨by decide +kernel, by decide +kernel, Sys2Proof.Wit.foreign_of _ (by decide +kernel), by decide +kernel, by decide +kernel, by decide +kernel, by decide +kernel, by decide +kernel⟩

theorem test_wit_fabricFramesActAndPass_6_9 : (parseFrame (fr9 : List Byte) = some (pa9 : Parsed)) ∧ ((({ st [(A.SYS_MODE, 3), (A.FAB_P_STAT 0, 0x1B), (A.FAB_P_STAT 1, 0x1B), (A.FAB_NODE, 0x07002805), (A.FAB_SESS_STAT 3, 0x1CFE), (routeFld 7 |>.addr, 0x200000), (A.SYS_READY, 4)] with sess := [(3, { Sess.init with mac := [1, 2, 3], lastSeq := 4 })] }).setBytes 0x0300000A [1, 2, 3, 4, 5, 6] : State).takes (0 : Fin 2) (pa9 : Parsed) (fr9 : List Byte) = true) ∧ (foreign (pa9 : Parsed).src = true) ∧ ((pa9 : Parsed).type = 6) ∧ ((pa9 : Parsed).resp = false) ∧ ((pa9 : Parsed).bcast = false) ∧ ((({ st [(A.SYS_MODE, 3), (A.FAB_P_STAT 0, 0x1B), (A.FAB_P_STAT 1, 0x1B), (A.FAB_NODE, 0x07002805), (A.FAB_SESS_STAT 3, 0x1CFE), (routeFld 7 |>.addr, 0x200000), (A.SYS_READY, 4)] with sess := [(3, { Sess.init with mac := [1, 2, 3], lastSeq := 4 })] }).setBytes 0x0300000A [1, 2, 3, 4, 5, 6] : State).addressed (pa9 : Parsed) = true) ∧ ((({ st [(A.SYS_MODE, 3), (A.FAB_P_STAT 0, 0x1B), (A.FAB_P_STAT 1, 0x1B), (A.FAB_NODE, 0x07002805), (A.FAB_SESS_STAT 3, 0x1CFE), (routeFld 7 |>.addr, 0x200000), (A.SYS_READY, 4)] with sess := [(3, { Sess.init with mac := [1, 2, 3], lastSeq := 4 })] }).setBytes 0x0300000A [1, 2, 3, 4, 5, 6] : State).mode ≠ .boot) ∧ (beNat ((pa9 : Parsed).pay 4 2) = (3 : Fin 16).val) ∧ (((({ st [(A.SYS_MODE, 3), (A.FAB_P_STAT 0, 0x1B), (A.FAB_P_STAT 1, 0x1B), (A.FAB_NODE, 0x07002805), (A.FAB_SESS_STAT 3, 0x1CFE), (routeFld 7 |>.addr, 0x200000), (A.SYS_READY, 4)] with sess := [(3, { Sess.init with mac := [1, 2, 3], lastSeq := 4 })] }).setBytes 0x0300000A [1, 2, 3, 4, 5, 6] : State).heard (0 : Fin 2) (pa9 : Parsed)).sessAccepts (3 : Fin 16) (pa9 : Parsed) = true) ∧ ((({ st [(A.SYS_MODE, 3), (A.FAB_P_STAT 0, 0x1B), (A.FAB_P_STAT 1, 0x1B), (A.FAB_NODE, 0x07002805), (A.FAB_SESS_STAT 3, 0x1CFE), (routeFld 7 |>.addr, 0x200000), (A.SYS_READY, 4)] with sess := [(3, { Sess.init with mac := [1, 2, 3], lastSeq := 4 })] }).setBytes 0x0300000A [1, 2, 3, 4, 5, 6] : State).txHeld = false) ∧ (((({ st [(A.SYS_MODE, 3), (A.FAB_P_STAT 0, 0x1B), (A.FAB_P_STAT 1, 0x1B), (A.FAB_NODE, 0x07002805), (A.FAB_SESS_STAT 3, 0x1CFE), (routeFld 7 |>.addr, 0x200000), (A.SYS_READY, 4)] with sess := [(3, { Sess.init with mac := [1, 2, 3], lastSeq := 4 })] }).setBytes 0x0300000A [1, 2, 3, 4, 5, 6] : State).heard (0 : Fin 2) (pa9 : Parsed)).leavesBy (pa9 : Parsed).srcId (0 : Nat) = true) ∧ ((pa9 : Parsed).byte 12 = 1 ∨ (pa9 : Parsed).byte 12 = 2 ∨ (pa9 : Parsed).byte 12 = 6) ∧ (beNat ((pa9 : Parsed).pay 10 2) = (pa9 : Parsed).byte 12) ∧ (beNat ((pa9 : Parsed).pay 6 4) < 2 ^ 30) ∧ (nodeOf (beNat ((pa9 : Parsed).pay 6 4)) = nodeOf (beNat ((pa9 : Parsed).pay 6 4) + (pa9 : Parsed).byte 12 - 1)) ∧ (isRegion (beNat ((pa9 : Parsed).pay 6 4)) = false) ∧ (isRegion (beNat ((pa9 : Parsed).pay 6 4) + (pa9 : Parsed).byte 12 - 1) = false) ∧ (region (beNat ((pa9 : Parsed).pay 6 4)) ≠ .rom) ∧ ((((({ st [(A.SYS_MODE, 3), (A.FAB_P_STAT 0, 0x1B), (A.FAB_P_STAT 1, 0x1B), (A.FAB_NODE, 0x07002805), (A.FAB_SESS_STAT 3, 0x1CFE), (routeFld 7 |>.addr, 0x200000), (A.SYS_READY, 4)] with sess := [(3, { Sess.init with mac := [1, 2, 3], lastSeq := 4 })] }).setBytes 0x0300000A [1, 2, 3, 4, 5, 6] : State).heard (0 : Fin 2) (pa9 : Parsed)).sessTake (3 : Fin 16) (pa9 : Parsed)).accessMay (.host (3 : Fin 16)) (beNat ((pa9 : Parsed).pay 6 4)) false = true) ∧ ((((({ st [(A.SYS_MODE, 3), (A.FAB_P_STAT 0, 0x1B), (A.FAB_P_STAT 1, 0x1B), (A.FAB_NODE, 0x07002805), (A.FAB_SESS_STAT 3, 0x1CFE), (routeFld 7 |>.addr, 0x200000), (A.SYS_READY, 4)] with sess := [(3, { Sess.init with mac := [1, 2, 3], lastSeq := 4 })] }).setBytes 0x0300000A [1, 2, 3, 4, 5, 6] : State).heard (0 : Fin 2) (pa9 : Parsed)).sessTake (3 : Fin 16) (pa9 : Parsed)).memRead (beNat ((pa9 : Parsed).pay 6 4)) ((pa9 : Parsed).byte 12) = (none, ((({ st [(A.SYS_MODE, 3), (A.FAB_P_STAT 0, 0x1B), (A.FAB_P_STAT 1, 0x1B), (A.FAB_NODE, 0x07002805), (A.FAB_SESS_STAT 3, 0x1CFE), (routeFld 7 |>.addr, 0x200000), (A.SYS_READY, 4)] with sess := [(3, { Sess.init with mac := [1, 2, 3], lastSeq := 4 })] }).setBytes 0x0300000A [1, 2, 3, 4, 5, 6] : State).heard (0 : Fin 2) (pa9 : Parsed)).sessTake (3 : Fin 16) (pa9 : Parsed))) := ⟨by decide +kernel, by decide +kernel, Sys2Proof.Wit.foreign_of _ (by decide +kernel), by decide +kernel, by decide +kernel, by decide +kernel, by decide +kernel, by decide +kernel, by decide +kernel, by decide +kernel, by decide +kernel, by decide +kernel, by decide +kernel, by decide +kernel, by decide +kernel, by decide +kernel, by decide +kernel, by decide +kernel, by decide +kernel, by decide +kernel, by decide +kernel⟩

theorem test_wit_fabricFramesActAndPass_7_10 : (parseFrame (fr10 : List Byte) = some (pa10 : Parsed)) ∧ (({ st [(A.SYS_MODE, 3), (A.FAB_P_STAT 0, 0x1B), (A.FAB_P_STAT 1, 0x1B), (A.FAB_NODE, 0x07002805), (A.FAB_SESS_STAT 3, 0x1CFE), (routeFld 7 |>.addr, 0x200000), (A.SYS_READY, 4)] with sess := [(3, { Sess.init with mac := [1, 2, 3], lastSeq := 4 })] } : State).takes (0 : Fin 2) (pa10 : Parsed) (fr10 : List Byte) = true) ∧ (foreign (pa10 : Parsed).src = true) ∧ ((pa10 : Parsed).type = 7) ∧ ((pa10 : Parsed).resp = false) ∧ ((pa10 : Parsed).bcast = false) ∧ (({ st [(A.SYS_MODE, 3), (A.FAB_P_STAT 0, 0x1B), (A.FAB_P_STAT 1, 0x1B), (A.FAB_NODE, 0x07002805), (A.FAB_SESS_STAT 3, 0x1CFE), (routeFld 7 |>.addr, 0x200000), (A.SYS_READY, 4)] with sess := [(3, { Sess.init with mac := [1, 2, 3], lastSeq := 4 })] } : State).addressed (pa10 : Parsed) = true) ∧ (({ st [(A.SYS_MODE, 3), (A.FAB_P_STAT 0, 0x1B), (A.FAB_P_STAT 1, 0x1B), (A.FAB_NODE, 0x07002805), (A.FAB_SESS_STAT 3, 0x1CFE), (routeFld 7 |>.addr, 0x200000), (A.SYS_READY, 4)] with sess := [(3, { Sess.init with mac := [1, 2, 3], lastSeq := 4 })] } : State).mode ≠ .boot) ∧ (beNat ((pa10 : Parsed).pay 4 2) = (3 : Fin 16).val) ∧ ((({ st [(A.SYS_MODE, 3), (A.FAB_P_STAT 0, 0x1B), (A.FAB_P_STAT 1, 0x1B), (A.FAB_NODE, 0x07002805), (A.FAB_SESS_STAT 3, 0x1CFE), (routeFld 7 |>.addr, 0x200000), (A.SYS_READY, 4)] with sess := [(3, { Sess.init with mac := [1, 2, 3], lastSeq := 4 })] } : State).heard (0 : Fin 2) (pa10 : Parsed)).sessAccepts (3 : Fin 16) (pa10 : Parsed) = true) ∧ (({ st [(A.SYS_MODE, 3), (A.FAB_P_STAT 0, 0x1B), (A.FAB_P_STAT 1, 0x1B), (A.FAB_NODE, 0x07002805), (A.FAB_SESS_STAT 3, 0x1CFE), (routeFld 7 |>.addr, 0x200000), (A.SYS_READY, 4)] with sess := [(3, { Sess.init with mac := [1, 2, 3], lastSeq := 4 })] } : State).txHeld = false) ∧ ((({ st [(A.SYS_MODE, 3), (A.FAB_P_STAT 0, 0x1B), (A.FAB_P_STAT 1, 0x1B), (A.FAB_NODE, 0x07002805), (A.FAB_SESS_STAT 3, 0x1CFE), (routeFld 7 |>.addr, 0x200000), (A.SYS_READY, 4)] with sess := [(3, { Sess.init with mac := [1, 2, 3], lastSeq := 4 })] } : State).heard (0 : Fin 2) (pa10 : Parsed)).leavesBy (pa10 : Parsed).srcId (0 : Nat) = true) ∧ ((pa10 : Parsed).byte 12 = 1 ∨ (pa10 : Parsed).byte 12 = 2 ∨ (pa10 : Parsed).byte 12 = 6) ∧ (beNat ((pa10 : Parsed).pay 10 2) = (pa10 : Parsed).byte 12) ∧ (14 + (pa10 : Parsed).byte 12 ≤ (pa10 : Parsed).payload.length) ∧ (beNat ((pa10 : Parsed).pay 6 4) < 2 ^ 30) ∧ (nodeOf (beNat ((pa10 : Parsed).pay 6 4)) = nodeOf (beNat ((pa10 : Parsed).pay 6 4) + (pa10 : Parsed).byte 12 - 1)) ∧ (isRegion (beNat ((pa10 : Parsed).pay 6 4)) = false) ∧ (isRegion (beNat ((pa10 : Parsed).pay 6 4) + (pa10 : Parsed).byte 12 - 1) = false) ∧ (((({ st [(A.SYS_MODE, 3), (A.FAB_P_STAT 0, 0x1B), (A.FAB_P_STAT 1, 0x1B), (A.FAB_NODE, 0x07002805), (A.FAB_SESS_STAT 3, 0x1CFE), (routeFld 7 |>.addr, 0x200000), (A.SYS_READY, 4)] with sess := [(3, { Sess.init with mac := [1, 2, 3], lastSeq := 4 })] } : State).heard (0 : Fin 2) (pa10 : Parsed)).sessTake (3 : Fin 16) (pa10 : Parsed)).accessMay (.host (3 : Fin 16)) (beNat ((pa10 : Parsed).pay 6 4)) true = true) ∧ (((({ st [(A.SYS_MODE, 3), (A.FAB_P_STAT 0, 0x1B), (A.FAB_P_STAT 1, 0x1B), (A.FAB_NODE, 0x07002805), (A.FAB_SESS_STAT 3, 0x1CFE), (routeFld 7 |>.addr, 0x200000), (A.SYS_READY, 4)] with sess := [(3, { Sess.init with mac := [1, 2, 3], lastSeq := 4 })] } : State).heard (0 : Fin 2) (pa10 : Parsed)).sessTake (3 : Fin 16) (pa10 : Parsed)).memWriteErr (.host (3 : Fin 16)) (beNat ((pa10 : Parsed).pay 6 4)) ((pa10 : Parsed).byte 12) = none) ∧ (∀ j : Fin 6, region (beNat ((pa10 : Parsed).pay 6 4) + j) ≠ .table ∧ ({ st [(A.SYS_MODE, 3), (A.FAB_P_STAT 0, 0x1B), (A.FAB_P_STAT 1, 0x1B), (A.FAB_NODE, 0x07002805), (A.FAB_SESS_STAT 3, 0x1CFE), (routeFld 7 |>.addr, 0x200000), (A.SYS_READY, 4)] with sess := [(3, { Sess.init with mac := [1, 2, 3], lastSeq := 4 })] } : State).tornAt (beNat ((pa10 : Parsed).pay 6 4) + j) = none) ∧ (({ st [(A.SYS_MODE, 3), (A.FAB_P_STAT 0, 0x1B), (A.FAB_P_STAT 1, 0x1B), (A.FAB_NODE, 0x07002805), (A.FAB_SESS_STAT 3, 0x1CFE), (routeFld 7 |>.addr, 0x200000), (A.SYS_READY, 4)] with sess := [(3, { Sess.init with mac := [1, 2, 3], lastSeq := 4 })] } : State).dmaDueNow = false) := ⟨by decide +kernel, by decide +kernel, Sys2Proof.Wit.foreign_of _ (by decide +kernel), by decide +kernel, by decide +kernel, by decide +kernel, by decide +kernel, by decide +kernel, by decide +kernel, by decide +kernel, by decide +kernel, by decide +kernel, by decide +kernel, by decide +kernel, by decide +kernel, by decide +kernel, by decide +kernel, by decide +kernel, by decide +kernel, by decide +kernel, by decide +kernel, by decide +kernel, by decide +kernel⟩

theorem test_wit_fabricFramesActAndPass_8_11 : (parseFrame (fr10 : List Byte) = some (pa10 : Parsed)) ∧ ((st ([(A.SYS_MODE, 3), (A.FAB_P_STAT 0, 0x1B), (A.FAB_P_STAT 1, 0x1B), (A.FAB_NODE, 0x07002805), (routeFld 7 |>.addr, 0x400000)]) : State).takes (1 : Fin 2) (pa10 : Parsed) (fr10 : List Byte) = true) ∧ (foreign (pa10 : Parsed).src = true) ∧ ((pa10 : Parsed).type = 7) ∧ ((pa10 : Parsed).resp = false) ∧ ((pa10 : Parsed).bcast = false) ∧ ((st ([(A.SYS_MODE, 3), (A.FAB_P_STAT 0, 0x1B), (A.FAB_P_STAT 1, 0x1B), (A.FAB_NODE, 0x07002805), (routeFld 7 |>.addr, 0x400000)]) : State).addressed (pa10 : Parsed) = true) ∧ (beNat ((pa10 : Parsed).pay 4 2) = (3 : Fin 16).val) ∧ ((st ([(A.SYS_MODE, 3), (A.FAB_P_STAT 0, 0x1B), (A.FAB_P_STAT 1, 0x1B), (A.FAB_NODE, 0x07002805), (routeFld 7 |>.addr, 0x400000)]) : State).sessOpen (3 : Fin 16) = false) ∧ ((st ([(A.SYS_MODE, 3), (A.FAB_P_STAT 0, 0x1B), (A.FAB_P_STAT 1, 0x1B), (A.FAB_NODE, 0x07002805), (routeFld 7 |>.addr, 0x400000)]) : State).txHeld = false) ∧ (((st ([(A.SYS_MODE, 3), (A.FAB_P_STAT 0, 0x1B), (A.FAB_P_STAT 1, 0x1B), (A.FAB_NODE, 0x07002805), (routeFld 7 |>.addr, 0x400000)]) : State).heard (1 : Fin 2) (pa10 : Parsed)).leavesBy (pa10 : Parsed).srcId (1 : Nat) = true) := ⟨by decide +kernel, by decide +kernel, Sys2Proof.Wit.foreign_of _ (by decide +kernel), by decide +kernel, by decide +kernel, by decide +kernel, by decide +kernel, by decide +kernel, by decide +kernel, by decide +kernel, by decide +kernel⟩

theorem test_wit_fabricFramesActAndPass_9_12 : (parseFrame (fr11 : List Byte) = some (pa11 : Parsed)) ∧ (((let y : State := { st [(A.SYS_MODE, 3), (A.FAB_P_STAT 0, 0x1B), (A.FAB_P_STAT 1, 0x1B), (A.FAB_NODE, 0x07002805), (A.FAB_SESS_STAT 3, 0x1CFE), (routeFld 7 |>.addr, 0x200000), (A.FAB_FARCTL, 0xC032)] with sess := [(3, { Sess.init with mac := [1, 2, 3], lastSeq := 4 })] }; { y.setCore 2 { Core.init with run := .stalled, released := true } with farOps := [{ noFar with owner := 2, tag := 0x09080706, addr := 7 * 2 ^ 30 + 16, esize := 2, count := 2, reg := 9, sext := true }] }) : State).takes (0 : Fin 2) (pa11 : Parsed) (fr11 : List Byte) = true) ∧ (foreign (pa11 : Parsed).src = true) ∧ ((pa11 : Parsed).type = 6) ∧ ((pa11 : Parsed).resp = true) ∧ (((let y : State := { st [(A.SYS_MODE, 3), (A.FAB_P_STAT 0, 0x1B), (A.FAB_P_STAT 1, 0x1B), (A.FAB_NODE, 0x07002805), (A.FAB_SESS_STAT 3, 0x1CFE), (routeFld 7 |>.addr, 0x200000), (A.FAB_FARCTL, 0xC032)] with sess := [(3, { Sess.init with mac := [1, 2, 3], lastSeq := 4 })] }; { y.setCore 2 { Core.init with run := .stalled, released := true } with farOps := [{ noFar with owner := 2, tag := 0x09080706, addr := 7 * 2 ^ 30 + 16, esize := 2, count := 2, reg := 9, sext := true }] }) : State).addressed (pa11 : Parsed) = true) ∧ (((let y : State := { st [(A.SYS_MODE, 3), (A.FAB_P_STAT 0, 0x1B), (A.FAB_P_STAT 1, 0x1B), (A.FAB_NODE, 0x07002805), (A.FAB_SESS_STAT 3, 0x1CFE), (routeFld 7 |>.addr, 0x200000), (A.FAB_FARCTL, 0xC032)] with sess := [(3, { Sess.init with mac := [1, 2, 3], lastSeq := 4 })] }; { y.setCore 2 { Core.init with run := .stalled, released := true } with farOps := [{ noFar with owner := 2, tag := 0x09080706, addr := 7 * 2 ^ 30 + 16, esize := 2, count := 2, reg := 9, sext := true }] }) : State).rd F.FAB_FARCTL_SESS = (3 : Fin 16).val) ∧ ((((let y : State := { st [(A.SYS_MODE, 3), (A.FAB_P_STAT 0, 0x1B), (A.FAB_P_STAT 1, 0x1B), (A.FAB_NODE, 0x07002805), (A.FAB_SESS_STAT 3, 0x1CFE), (routeFld 7 |>.addr, 0x200000), (A.FAB_FARCTL, 0xC032)] with sess := [(3, { Sess.init with mac := [1, 2, 3], lastSeq := 4 })] }; { y.setCore 2 { Core.init with run := .stalled, released := true } with farOps := [{ noFar with owner := 2, tag := 0x09080706, addr := 7 * 2 ^ 30 + 16, esize := 2, count := 2, reg := 9, sext := true }] }) : State).heard (0 : Fin 2) (pa11 : Parsed)).sessAccepts (3 : Fin 16) (pa11 : Parsed) = true) ∧ (((let y : State := { st [(A.SYS_MODE, 3), (A.FAB_P_STAT 0, 0x1B), (A.FAB_P_STAT 1, 0x1B), (A.FAB_NODE, 0x07002805), (A.FAB_SESS_STAT 3, 0x1CFE), (routeFld 7 |>.addr, 0x200000), (A.FAB_FARCTL, 0xC032)] with sess := [(3, { Sess.init with mac := [1, 2, 3], lastSeq := 4 })] }; { y.setCore 2 { Core.init with run := .stalled, released := true } with farOps := [{ noFar with owner := 2, tag := 0x09080706, addr := 7 * 2 ^ 30 + 16, esize := 2, count := 2, reg := 9, sext := true }] }) : State).farOps = [({ noFar with owner := 2, tag := 0x09080706, addr := 7 * 2 ^ 30 + 16, esize := 2, count := 2, reg := 9, sext := true } : FarOp)]) ∧ (({ noFar with owner := 2, tag := 0x09080706, addr := 7 * 2 ^ 30 + 16, esize := 2, count := 2, reg := 9, sext := true } : FarOp).owner = (2 : Fin 21)) ∧ ((2 : Fin 21).val < 5) ∧ (({ noFar with owner := 2, tag := 0x09080706, addr := 7 * 2 ^ 30 + 16, esize := 2, count := 2, reg := 9, sext := true } : FarOp).write = false) ∧ (({ noFar with owner := 2, tag := 0x09080706, addr := 7 * 2 ^ 30 + 16, esize := 2, count := 2, reg := 9, sext := true } : FarOp).use = .plain) ∧ (({ noFar with owner := 2, tag := 0x09080706, addr := 7 * 2 ^ 30 + 16, esize := 2, count := 2, reg := 9, sext := true } : FarOp).tag = beNat ((pa11 : Parsed).pay 0 4)) ∧ (nodeOf ({ noFar with owner := 2, tag := 0x09080706, addr := 7 * 2 ^ 30 + 16, esize := 2, count := 2, reg := 9, sext := true } : FarOp).addr = (pa11 : Parsed).srcId) ∧ ((pa11 : Parsed).byte 4 = 0) ∧ ((((let y : State := { st [(A.SYS_MODE, 3), (A.FAB_P_STAT 0, 0x1B), (A.FAB_P_STAT 1, 0x1B), (A.FAB_NODE, 0x07002805), (A.FAB_SESS_STAT 3, 0x1CFE), (routeFld 7 |>.addr, 0x200000), (A.FAB_FARCTL, 0xC032)] with sess := [(3, { Sess.init with mac := [1, 2, 3], lastSeq := 4 })] }; { y.setCore 2 { Core.init with run := .stalled, released := true } with farOps := [{ noFar with owner := 2, tag := 0x09080706, addr := 7 * 2 ^ 30 + 16, esize := 2, count := 2, reg := 9, sext := true }] }) : State).core (2 : Fin 21)).run = .stalled) ∧ ((((let y : State := { st [(A.SYS_MODE, 3), (A.FAB_P_STAT 0, 0x1B), (A.FAB_P_STAT 1, 0x1B), (A.FAB_NODE, 0x07002805), (A.FAB_SESS_STAT 3, 0x1CFE), (routeFld 7 |>.addr, 0x200000), (A.FAB_FARCTL, 0xC032)] with sess := [(3, { Sess.init with mac := [1, 2, 3], lastSeq := 4 })] }; { y.setCore 2 { Core.init with run := .stalled, released := true } with farOps := [{ noFar with owner := 2, tag := 0x09080706, addr := 7 * 2 ^ 30 + 16, esize := 2, count := 2, reg := 9, sext := true }] }) : State).core (2 : Fin 21)).stepping = false) ∧ (((let y : State := { st [(A.SYS_MODE, 3), (A.FAB_P_STAT 0, 0x1B), (A.FAB_P_STAT 1, 0x1B), (A.FAB_NODE, 0x07002805), (A.FAB_SESS_STAT 3, 0x1CFE), (routeFld 7 |>.addr, 0x200000), (A.FAB_FARCTL, 0xC032)] with sess := [(3, { Sess.init with mac := [1, 2, 3], lastSeq := 4 })] }; { y.setCore 2 { Core.init with run := .stalled, released := true } with farOps := [{ noFar with owner := 2, tag := 0x09080706, addr := 7 * 2 ^ 30 + 16, esize := 2, count := 2, reg := 9, sext := true }] }) : State).psrMon (2 : Fin 21) = false) ∧ (∀ k : Fin 4, (((let y : State := { st [(A.SYS_MODE, 3), (A.FAB_P_STAT 0, 0x1B), (A.FAB_P_STAT 1, 0x1B), (A.FAB_NODE, 0x07002805), (A.FAB_SESS_STAT 3, 0x1CFE), (routeFld 7 |>.addr, 0x200000), (A.FAB_FARCTL, 0xC032)] with sess := [(3, { Sess.init with mac := [1, 2, 3], lastSeq := 4 })] }; { y.setCore 2 { Core.init with run := .stalled, released := true } with farOps := [{ noFar with owner := 2, tag := 0x09080706, addr := 7 * 2 ^ 30 + 16, esize := 2, count := 2, reg := 9, sext := true }] }) : State).reg (A.DBG_C_WP (2 : Fin 21) k)).getLsbD 46 = false ∧ (((let y : State := { st [(A.SYS_MODE, 3), (A.FAB_P_STAT 0, 0x1B), (A.FAB_P_STAT 1, 0x1B), (A.FAB_NODE, 0x07002805), (A.FAB_SESS_STAT 3, 0x1CFE), (routeFld 7 |>.addr, 0x200000), (A.FAB_FARCTL, 0xC032)] with sess := [(3, { Sess.init with mac := [1, 2, 3], lastSeq := 4 })] }; { y.setCore 2 { Core.init with run := .stalled, released := true } with farOps := [{ noFar with owner := 2, tag := 0x09080706, addr := 7 * 2 ^ 30 + 16, esize := 2, count := 2, reg := 9, sext := true }] }) : State).reg (A.DBG_C_WP (2 : Fin 21) k)).getLsbD 47 = false) := ⟨by decide +kernel, by decide +kernel, Sys2Proof.Wit.foreign_of _ (by decide +kernel), by decide +kernel, by decide +kernel, by decide +kernel, by decide +kernel, by decide +kernel, by decide +kernel, by decide +kernel, by decide +kernel, by decide +kernel, by decide +kernel, by decide +kernel, by decide +kernel, by decide +kernel, by decide +kernel, by decide +kernel, by decide +kernel, by decide +kernel⟩

theorem test_wit_fabricFramesActAndPass_10_13 : (((let y : State := st ([(A.SYS_MODE, 3), (A.FAB_P_STAT 0, 0x1B), (A.FAB_P_STAT 1, 0x1B), (A.FAB_FARCTL, 0xC032)]); { y.setCore 2 { Core.init with run := .stalled, released := true } with farOps := [{ noFar with owner := 2, tag := 0x09080706, addr := 7 * 2 ^ 30 + 16, esize := 2, count := 2, reg := 9, sext := true }] }) : State).farOps = [({ noFar with owner := 2, tag := 0x09080706, addr := 7 * 2 ^ 30 + 16, esize := 2, count := 2, reg := 9, sext := true } : FarOp)]) ∧ (({ noFar with owner := 2, tag := 0x09080706, addr := 7 * 2 ^ 30 + 16, esize := 2, count := 2, reg := 9, sext := true } : FarOp).owner = (2 : Fin 21)) ∧ (({ noFar with owner := 2, tag := 0x09080706, addr := 7 * 2 ^ 30 + 16, esize := 2, count := 2, reg := 9, sext := true } : FarOp).addr < 2 ^ 41) ∧ (((let y : State := st ([(A.SYS_MODE, 3), (A.FAB_P_STAT 0, 0x1B), (A.FAB_P_STAT 1, 0x1B), (A.FAB_FARCTL, 0xC032)]); { y.setCore 2 { Core.init with run := .stalled, released := true } with farOps := [{ noFar with owner := 2, tag := 0x09080706, addr := 7 * 2 ^ 30 + 16, esize := 2, count := 2, reg := 9, sext := true }] }) : State).farFrozen (2 : Fin 21) = false) ∧ ((2 : Fin 21).val < 5 → (((let y : State := st ([(A.SYS_MODE, 3), (A.FAB_P_STAT 0, 0x1B), (A.FAB_P_STAT 1, 0x1B), (A.FAB_FARCTL, 0xC032)]); { y.setCore 2 { Core.init with run := .stalled, released := true } with farOps := [{ noFar with owner := 2, tag := 0x09080706, addr := 7 * 2 ^ 30 + 16, esize := 2, count := 2, reg := 9, sext := true }] }) : State).core (2 : Fin 21)).run = .stalled) ∧ ((2 : Fin 21).val < 5 → ((let y : State := st ([(A.SYS_MODE, 3), (A.FAB_P_STAT 0, 0x1B), (A.FAB_P_STAT 1, 0x1B), (A.FAB_FARCTL, 0xC032)]); { y.setCore 2 { Core.init with run := .stalled, released := true } with farOps := [{ noFar with owner := 2, tag := 0x09080706, addr := 7 * 2 ^ 30 + 16, esize := 2, count := 2, reg := 9, sext := true }] }) : State).psrLevel (2 : Fin 21) < 6) := by decide +kernel

theorem test_wit_fabricFramesActAndPass_10_14 : (({ st ([(A.SYS_MODE, 3), (A.FAB_P_STAT 0, 0x1B), (A.FAB_P_STAT 1, 0x1B), (A.DMA_CH_STAT 15, 1)]) with farOps := [{ noFar with owner := 20, tag := 1, write := true, addr := 2 ^ 41 - 6, esize := 6, count := 6, bytes := [1, 2, 3, 4, 5, 6] }] } : State).farOps = [({ noFar with owner := 20, tag := 1, write := true, addr := 2 ^ 41 - 6, esize := 6, count := 6, bytes := [1, 2, 3, 4, 5, 6] } : FarOp)]) ∧ (({ noFar with owner := 20, tag := 1, write := true, addr := 2 ^ 41 - 6, esize := 6, count := 6, bytes := [1, 2, 3, 4, 5, 6] } : FarOp).owner = (20 : Fin 21)) ∧ (({ noFar with owner := 20, tag := 1, write := true, addr := 2 ^ 41 - 6, esize := 6, count := 6, bytes := [1, 2, 3, 4, 5, 6] } : FarOp).addr < 2 ^ 41) ∧ (({ st ([(A.SYS_MODE, 3), (A.FAB_P_STAT 0, 0x1B), (A.FAB_P_STAT 1, 0x1B), (A.DMA_CH_STAT 15, 1)]) with farOps := [{ noFar with owner := 20, tag := 1, write := true, addr := 2 ^ 41 - 6, esize := 6, count := 6, bytes := [1, 2, 3, 4, 5, 6] }] } : State).farFrozen (20 : Fin 21) = false) ∧ ((20 : Fin 21).val < 5 → (({ st ([(A.SYS_MODE, 3), (A.FAB_P_STAT 0, 0x1B), (A.FAB_P_STAT 1, 0x1B), (A.DMA_CH_STAT 15, 1)]) with farOps := [{ noFar with owner := 20, tag := 1, write := true, addr := 2 ^ 41 - 6, esize := 6, count := 6, bytes := [1, 2, 3, 4, 5, 6] }] } : State).core (20 : Fin 21)).run = .stalled) ∧ ((20 : Fin 21).val < 5 → ({ st ([(A.SYS_MODE, 3), (A.FAB_P_STAT 0, 0x1B), (A.FAB_P_STAT 1, 0x1B), (A.DMA_CH_STAT 15, 1)]) with farOps := [{ noFar with owner := 20, tag := 1, write := true, addr := 2 ^ 41 - 6, esize := 6, count := 6, bytes := [1, 2, 3, 4, 5, 6] }] } : State).psrLevel (20 : Fin 21) < 6) := by decide +kernel

theorem test_wit_fabricFramesActAndPass_11_15 : (parseFrame (fr13 : List Byte) = some (pa13 : Parsed)) ∧ ((st ([(A.SYS_MODE, 3), (A.FAB_P_STAT 0, 0x1B), (A.FAB_P_STAT 1, 0x1B), (A.FAB_NODE, 0x1000)]) : State).takes (0 : Fin 2) (pa13 : Parsed) (fr13 : List Byte) = true) ∧ (foreign (pa13 : Parsed).src = true) ∧ ((pa13 : Parsed).isTime 1 = true) ∧ (4 ≤ (pa13 : Parsed).payload.length) ∧ ((st ([(A.SYS_MODE, 3), (A.FAB_P_STAT 0, 0x1B), (A.FAB_P_STAT 1, 0x1B), (A.FAB_NODE, 0x1000)]) : State).bit (F.FAB_P_STAT_TXDIS (0 : Fin 2)) = false) ∧ (((st ([(A.SYS_MODE, 3), (A.FAB_P_STAT 0, 0x1B), (A.FAB_P_STAT 1, 0x1B), (A.FAB_NODE, 0x1000)]) : State).fport (0 : Fin 2)).pulse = false) ∧ ((st ([(A.SYS_MODE, 3), (A.FAB_P_STAT 0, 0x1B), (A.FAB_P_STAT 1, 0x1B), (A.FAB_NODE, 0x1000)]) : State).txHeld = false) := ⟨by decide +kernel, by decide +kernel, Sys2Proof.Wit.foreign_of _ (by decide +kernel), by decide +kernel, by decide +kernel, by decide +kernel, by decide +kernel, by decide +kernel⟩

theorem test_wit_fabricFramesActAndPass_12_16 : (parseFrame (fr14 : List Byte) = some (pa14 : Parsed)) ∧ (({ st ([(A.SYS_MODE, 3), (A.FAB_P_STAT 0, 0x1B), (A.FAB_P_STAT 1, 0x1B), (A.FAB_NODE, 0x1000)]) with fabPorts := [(1, { FabPort.init with t1 := 0, echoNo := 65535, nexch := 7 })] } : State).takes (1 : Fin 2) (pa14 : Parsed) (fr14 : List Byte) = true) ∧ (foreign (pa14 : Parsed).src = true) ∧ ((pa14 : Parsed).isTime 2 = true) ∧ (0 ≤ (({ st ([(A.SYS_MODE, 3), (A.FAB_P_STAT 0, 0x1B), (A.FAB_P_STAT 1, 0x1B), (A.FAB_NODE, 0x1000)]) with fabPorts := [(1, { FabPort.init with t1 := 0, echoNo := 65535, nexch := 7 })] } : State).fport (1 : Fin 2)).t1) ∧ (beNat ((pa14 : Parsed).pay 2 2) = (({ st ([(A.SYS_MODE, 3), (A.FAB_P_STAT 0, 0x1B), (A.FAB_P_STAT 1, 0x1B), (A.FAB_NODE, 0x1000)]) with fabPorts := [(1, { FabPort.init with t1 := 0, echoNo := 65535, nexch := 7 })] } : State).fport (1 : Fin 2)).echoNo) := ⟨by decide +kernel, by decide +kernel, Sys2Proof.Wit.foreign_of _ (by decide +kernel), by decide +kernel, by decide +kernel, by decide +kernel⟩

theorem test_wit_fabricFramesActAndPass_13_16 : (({ st ([(A.SYS_MODE, 3), (A.FAB_P_STAT 0, 0x1B), (A.FAB_P_STAT 1, 0x1B), (A.FAB_NODE, 0x1000)]) with fabPorts := [(1, { FabPort.init with t1 := 0, echoNo := 65535, nexch := 7 })] } : State).fabLive = true) ∧ (({ st ([(A.SYS_MODE, 3), (A.FAB_P_STAT 0, 0x1B), (A.FAB_P_STAT 1, 0x1B), (A.FAB_NODE, 0x1000)]) with fabPorts := [(1, { FabPort.init with t1 := 0, echoNo := 65535, nexch := 7 })] } : State).portIsUp (1 : Fin 2) = true) := by decide +kernel

theorem test_wit_fabricFramesActAndPass_14_17 : (parseFrame (fr15 : List Byte) = some (pa15 : Parsed)) ∧ ((st ([(A.SYS_MODE, 3), (A.FAB_P_STAT 0, 0x1B), (A.FAB_P_STAT 1, 0x1B), (A.FAB_TIME_STAT, 1), (A.FAB_CYC_STAT, 0x80)]) : State).takes (1 : Fin 2) (pa15 : Parsed) (fr15 : List Byte) = true) ∧ (foreign (pa15 : Parsed).src = true) ∧ ((pa15 : Parsed).isTime 3 = true) ∧ ((pa15 : Parsed).bcast = true) ∧ ((st ([(A.SYS_MODE, 3), (A.FAB_P_STAT 0, 0x1B), (A.FAB_P_STAT 1, 0x1B), (A.FAB_TIME_STAT, 1), (A.FAB_CYC_STAT, 0x80)]) : State).isMaster = false) ∧ (beNat ((pa15 : Parsed).pay 20 4) = (st ([(A.SYS_MODE, 3), (A.FAB_P_STAT 0, 0x1B), (A.FAB_P_STAT 1, 0x1B), (A.FAB_TIME_STAT, 1), (A.FAB_CYC_STAT, 0x80)]) : State).cycleLen) := ⟨by decide +kernel, by decide +kernel, Sys2Proof.Wit.foreign_of _ (by decide +kernel), by decide +kernel, by decide +kernel, by decide +kernel, by decide +kernel⟩

theorem test_wit_fabricFramesActAndPass_15_18 : (parseFrame (fr16 : List Byte) = some (pa16 : Parsed)) ∧ ((st ([(A.SYS_MODE, 3), (A.FAB_P_STAT 0, 0x1B), (A.FAB_P_STAT 1, 0x1B), (A.FAB_TIME_STAT, 1), (A.FAB_CYC_STAT, 1)]) : State).takes (1 : Fin 2) (pa16 : Parsed) (fr16 : List Byte) = true) ∧ (foreign (pa16 : Parsed).src = true) ∧ ((pa16 : Parsed).isTime 3 = true) ∧ ((pa16 : Parsed).bcast = true) ∧ ((st ([(A.SYS_MODE, 3), (A.FAB_P_STAT 0, 0x1B), (A.FAB_P_STAT 1, 0x1B), (A.FAB_TIME_STAT, 1), (A.FAB_CYC_STAT, 1)]) : State).isMaster = false) ∧ (beNat ((pa16 : Parsed).pay 20 4) ≠ (st ([(A.SYS_MODE, 3), (A.FAB_P_STAT 0, 0x1B), (A.FAB_P_STAT 1, 0x1B), (A.FAB_TIME_STAT, 1), (A.FAB_CYC_STAT, 1)]) : State).cycleLen) := ⟨by decide +kernel, by decide +kernel, Sys2Proof.Wit.foreign_of _ (by decide +kernel), by decide +kernel, by decide +kernel, by decide +kernel, by decide +kernel⟩

theorem test_wit_fabricFramesActAndPass_16_19 : ((st [(A.SYS_MODE, 3), (A.FAB_P_STAT 1, 0x1B), (A.FAB_TIME_CTL, 0x0C80115), (A.TICK_STATUS, 1)] : State).fabLive = true) ∧ ((st [(A.SYS_MODE, 3), (A.FAB_P_STAT 1, 0x1B), (A.FAB_TIME_CTL, 0x0C80115), (A.TICK_STATUS, 1)] : State).isMaster = true) ∧ ((st [(A.SYS_MODE, 3), (A.FAB_P_STAT 1, 0x1B), (A.FAB_TIME_CTL, 0x0C80115), (A.TICK_STATUS, 1)] : State).tickRuns = true) ∧ ((st [(A.SYS_MODE, 3), (A.FAB_P_STAT 1, 0x1B), (A.FAB_TIME_CTL, 0x0C80115), (A.TICK_STATUS, 1)] : State).portIsUp (1 : Fin 2) = true) ∧ ((st [(A.SYS_MODE, 3), (A.FAB_P_STAT 1, 0x1B), (A.FAB_TIME_CTL, 0x0C80115), (A.TICK_STATUS, 1)] : State).portIsUp (1 - (1 : Fin 2)) = false) ∧ ((st [(A.SYS_MODE, 3), (A.FAB_P_STAT 1, 0x1B), (A.FAB_TIME_CTL, 0x0C80115), (A.TICK_STATUS, 1)] : State).bit (F.FAB_P_STAT_TXDIS (1 : Fin 2)) = false) ∧ (((st [(A.SYS_MODE, 3), (A.FAB_P_STAT 1, 0x1B), (A.FAB_TIME_CTL, 0x0C80115), (A.TICK_STATUS, 1)] : State).fport (1 : Fin 2)).pulse = false) ∧ ((st [(A.SYS_MODE, 3), (A.FAB_P_STAT 1, 0x1B), (A.FAB_TIME_CTL, 0x0C80115), (A.TICK_STATUS, 1)] : State).txHeld = false) := by decide +kernel

theorem test_wit_fabricFramesActAndPass_17_20 : ((st ([(A.SYS_MODE, 3), (A.FAB_P_STAT 0, 0x1B), (A.FAB_P_STAT 1, 0x1B), (A.FAB_TIME_STAT, 1), (A.SYS_READY, 0x60)]) : State).bit F.FAB_TIME_STAT_TIME_VALID = true) ∧ ((st ([(A.SYS_MODE, 3), (A.FAB_P_STAT 0, 0x1B), (A.FAB_P_STAT 1, 0x1B), (A.FAB_TIME_STAT, 1), (A.SYS_READY, 0x60)]) : State).isMaster = false) := by decide +kernel

theorem test_wit_cyclicExchangeAndSessions_1_1 : (parseFrame (fr17 : List Byte) = some (pa17 : Parsed)) ∧ (({ st [(A.SYS_MODE, 5), (A.FAB_P_STAT 0, 0x1B), (A.FAB_P_STAT 1, 0x1B), (A.FAB_NODE, 0x07002805), (A.FAB_CYC_STAT, 0x301), (A.FAB_CYC_NO, 0x10203), (A.FAB_CYC_REGION, 0xC03806010)] with cycOpen := true } : State).takes (0 : Fin 2) (pa17 : Parsed) (fr17 : List Byte) = true) ∧ (foreign (pa17 : Parsed).src = true) ∧ ((pa17 : Parsed).type = 1) ∧ (({ st [(A.SYS_MODE, 5), (A.FAB_P_STAT 0, 0x1B), (A.FAB_P_STAT 1, 0x1B), (A.FAB_NODE, 0x07002805), (A.FAB_CYC_STAT, 0x301), (A.FAB_CYC_NO, 0x10203), (A.FAB_CYC_REGION, 0xC03806010)] with cycOpen := true } : State).cycOpenFor (pa17 : Parsed) = true) ∧ (beNat ((pa17 : Parsed).pay 0 4) = ({ st [(A.SYS_MODE, 5), (A.FAB_P_STAT 0, 0x1B), (A.FAB_P_STAT 1, 0x1B), (A.FAB_NODE, 0x07002805), (A.FAB_CYC_STAT, 0x301), (A.FAB_CYC_NO, 0x10203), (A.FAB_CYC_REGION, 0xC03806010)] with cycOpen := true } : State).rd F.FAB_CYC_NO_CYCNO) ∧ (({ st [(A.SYS_MODE, 5), (A.FAB_P_STAT 0, 0x1B), (A.FAB_P_STAT 1, 0x1B), (A.FAB_NODE, 0x07002805), (A.FAB_CYC_STAT, 0x301), (A.FAB_CYC_NO, 0x10203), (A.FAB_CYC_REGION, 0xC03806010)] with cycOpen := true } : State).cycGot = false) ∧ (({ st [(A.SYS_MODE, 5), (A.FAB_P_STAT 0, 0x1B), (A.FAB_P_STAT 1, 0x1B), (A.FAB_NODE, 0x07002805), (A.FAB_CYC_STAT, 0x301), (A.FAB_CYC_NO, 0x10203), (A.FAB_CYC_REGION, 0xC03806010)] with cycOpen := true } : State).cycOpen = true) ∧ (({ st [(A.SYS_MODE, 5), (A.FAB_P_STAT 0, 0x1B), (A.FAB_P_STAT 1, 0x1B), (A.FAB_NODE, 0x07002805), (A.FAB_CYC_STAT, 0x301), (A.FAB_CYC_NO, 0x10203), (A.FAB_CYC_REGION, 0xC03806010)] with cycOpen := true } : State).cycIn F.FAB_CYC_CTL_AUTH = 0) ∧ (({ st [(A.SYS_MODE, 5), (A.FAB_P_STAT 0, 0x1B), (A.FAB_P_STAT 1, 0x1B), (A.FAB_NODE, 0x07002805), (A.FAB_CYC_STAT, 0x301), (A.FAB_CYC_NO, 0x10203), (A.FAB_CYC_REGION, 0xC03806010)] with cycOpen := true } : State).extractEntries = []) ∧ (({ st [(A.SYS_MODE, 5), (A.FAB_P_STAT 0, 0x1B), (A.FAB_P_STAT 1, 0x1B), (A.FAB_NODE, 0x07002805), (A.FAB_CYC_STAT, 0x301), (A.FAB_CYC_NO, 0x10203), (A.FAB_CYC_REGION, 0xC03806010)] with cycOpen := true } : State).sendsOn (0 : Fin 2) (pa17 : Parsed) = true) := ⟨by decide +kernel, by decide +kernel, Sys2Proof.Wit.foreign_of _ (by decide +kernel), by decide +kernel, by decide +kernel, by decide +kernel, by decide +kernel, by decide +kernel, by decide +kernel, by decide +kernel, by decide +kernel⟩

theorem test_wit_cyclicExchangeAndSessions_1_2 : (parseFrame (fr17 : List Byte) = some (pa17 : Parsed)) ∧ (({ st [(A.SYS_MODE, 5), (A.FAB_P_STAT 0, 0x1B), (A.FAB_P_STAT 1, 0x1B), (A.FAB_NODE, 0x07002805), (A.FAB_CYC_STAT, 0x301), (A.FAB_CYC_NO, 0x10203), (A.FAB_CTL, 0x2048)] with cycOpen := true } : State).takes (1 : Fin 2) (pa17 : Parsed) (fr17 : List Byte) = true) ∧ (foreign (pa17 : Parsed).src = true) ∧ ((pa17 : Parsed).type = 1) ∧ (({ st [(A.SYS_MODE, 5), (A.FAB_P_STAT 0, 0x1B), (A.FAB_P_STAT 1, 0x1B), (A.FAB_NODE, 0x07002805), (A.FAB_CYC_STAT, 0x301), (A.FAB_CYC_NO, 0x10203), (A.FAB_CTL, 0x2048)] with cycOpen := true } : State).cycOpenFor (pa17 : Parsed) = true) ∧ (beNat ((pa17 : Parsed).pay 0 4) = ({ st [(A.SYS_MODE, 5), (A.FAB_P_STAT 0, 0x1B), (A.FAB_P_STAT 1, 0x1B), (A.FAB_NODE, 0x07002805), (A.FAB_CYC_STAT, 0x301), (A.FAB_CYC_NO, 0x10203), (A.FAB_CTL, 0x2048)] with cycOpen := true } : State).rd F.FAB_CYC_NO_CYCNO) ∧ (({ st [(A.SYS_MODE, 5), (A.FAB_P_STAT 0, 0x1B), (A.FAB_P_STAT 1, 0x1B), (A.FAB_NODE, 0x07002805), (A.FAB_CYC_STAT, 0x301), (A.FAB_CYC_NO, 0x10203), (A.FAB_CTL, 0x2048)] with cycOpen := true } : State).cycGot = false) ∧ (({ st [(A.SYS_MODE, 5), (A.FAB_P_STAT 0, 0x1B), (A.FAB_P_STAT 1, 0x1B), (A.FAB_NODE, 0x07002805), (A.FAB_CYC_STAT, 0x301), (A.FAB_CYC_NO, 0x10203), (A.FAB_CTL, 0x2048)] with cycOpen := true } : State).cycOpen = true) ∧ (({ st [(A.SYS_MODE, 5), (A.FAB_P_STAT 0, 0x1B), (A.FAB_P_STAT 1, 0x1B), (A.FAB_NODE, 0x07002805), (A.FAB_CYC_STAT, 0x301), (A.FAB_CYC_NO, 0x10203), (A.FAB_CTL, 0x2048)] with cycOpen := true } : State).cycIn F.FAB_CYC_CTL_AUTH = 0) ∧ (({ st [(A.SYS_MODE, 5), (A.FAB_P_STAT 0, 0x1B), (A.FAB_P_STAT 1, 0x1B), (A.FAB_NODE, 0x07002805), (A.FAB_CYC_STAT, 0x301), (A.FAB_CYC_NO, 0x10203), (A.FAB_CTL, 0x2048)] with cycOpen := true } : State).extractEntries = []) ∧ (({ st [(A.SYS_MODE, 5), (A.FAB_P_STAT 0, 0x1B), (A.FAB_P_STAT 1, 0x1B), (A.FAB_NODE, 0x07002805), (A.FAB_CYC_STAT, 0x301), (A.FAB_CYC_NO, 0x10203), (A.FAB_CTL, 0x2048)] with cycOpen := true } : State).sendsOn (1 : Fin 2) (pa17 : Parsed) = true) := ⟨by decide +kernel, by decide +kernel, Sys2Proof.Wit.foreign_of _ (by decide +kernel), by decide +kernel, by decide +kernel, by decide +kernel, by decide +kernel, by decide +kernel, by decide +kernel, by decide +kernel, by decide +kernel⟩

theorem test_wit_cyclicExchangeAndSessions_2_3 : (parseFrame (fr17 : List Byte) = some (pa17 : Parsed)) ∧ (({ st [(A.SYS_MODE, 5), (A.FAB_P_STAT 0, 0x1B), (A.FAB_P_STAT 1, 0x1B), (A.FAB_NODE, 0x07002805), (A.FAB_CYC_STAT, 0x301), (A.FAB_CYC_NO, 0x10203), (A.FAB_CYC_REGION, 0xC03806010), (A.FAB_CYC_MAP 63, 0x300000B05)] with cycOpen := true } : State).takes (0 : Fin 2) (pa17 : Parsed) (fr17 : List Byte) = true) ∧ (foreign (pa17 : Parsed).src = true) ∧ ((pa17 : Parsed).type = 1) ∧ (({ st [(A.SYS_MODE, 5), (A.FAB_P_STAT 0, 0x1B), (A.FAB_P_STAT 1, 0x1B), (A.FAB_NODE, 0x07002805), (A.FAB_CYC_STAT, 0x301), (A.FAB_CYC_NO, 0x10203), (A.FAB_CYC_REGION, 0xC03806010), (A.FAB_CYC_MAP 63, 0x300000B05)] with cycOpen := true } : State).cycOpenFor (pa17 : Parsed) = true) ∧ (beNat ((pa17 : Parsed).pay 0 4) = ({ st [(A.SYS_MODE, 5), (A.FAB_P_STAT 0, 0x1B), (A.FAB_P_STAT 1, 0x1B), (A.FAB_NODE, 0x07002805), (A.FAB_CYC_STAT, 0x301), (A.FAB_CYC_NO, 0x10203), (A.FAB_CYC_REGION, 0xC03806010), (A.FAB_CYC_MAP 63, 0x300000B05)] with cycOpen := true } : State).rd F.FAB_CYC_NO_CYCNO) ∧ (({ st [(A.SYS_MODE, 5), (A.FAB_P_STAT 0, 0x1B), (A.FAB_P_STAT 1, 0x1B), (A.FAB_NODE, 0x07002805), (A.FAB_CYC_STAT, 0x301), (A.FAB_CYC_NO, 0x10203), (A.FAB_CYC_REGION, 0xC03806010), (A.FAB_CYC_MAP 63, 0x300000B05)] with cycOpen := true } : State).cycGot = false) ∧ (({ st [(A.SYS_MODE, 5), (A.FAB_P_STAT 0, 0x1B), (A.FAB_P_STAT 1, 0x1B), (A.FAB_NODE, 0x07002805), (A.FAB_CYC_STAT, 0x301), (A.FAB_CYC_NO, 0x10203), (A.FAB_CYC_REGION, 0xC03806010), (A.FAB_CYC_MAP 63, 0x300000B05)] with cycOpen := true } : State).cycOpen = true) ∧ (({ st [(A.SYS_MODE, 5), (A.FAB_P_STAT 0, 0x1B), (A.FAB_P_STAT 1, 0x1B), (A.FAB_NODE, 0x07002805), (A.FAB_CYC_STAT, 0x301), (A.FAB_CYC_NO, 0x10203), (A.FAB_CYC_REGION, 0xC03806010), (A.FAB_CYC_MAP 63, 0x300000B05)] with cycOpen := true } : State).cycIn F.FAB_CYC_CTL_AUTH = 0) ∧ (({ st [(A.SYS_MODE, 5), (A.FAB_P_STAT 0, 0x1B), (A.FAB_P_STAT 1, 0x1B), (A.FAB_NODE, 0x07002805), (A.FAB_CYC_STAT, 0x301), (A.FAB_CYC_NO, 0x10203), (A.FAB_CYC_REGION, 0xC03806010), (A.FAB_CYC_MAP 63, 0x300000B05)] with cycOpen := true } : State).extractEntries = [(63 : Fin 64).val]) ∧ (region (({ st [(A.SYS_MODE, 5), (A.FAB_P_STAT 0, 0x1B), (A.FAB_P_STAT 1, 0x1B), (A.FAB_NODE, 0x07002805), (A.FAB_CYC_STAT, 0x301), (A.FAB_CYC_NO, 0x10203), (A.FAB_CYC_REGION, 0xC03806010), (A.FAB_CYC_MAP 63, 0x300000B05)] with cycOpen := true } : State).rd (F.FAB_CYC_MAP_ADDR (63 : Fin 64))) = .shared) ∧ (region (({ st [(A.SYS_MODE, 5), (A.FAB_P_STAT 0, 0x1B), (A.FAB_P_STAT 1, 0x1B), (A.FAB_NODE, 0x07002805), (A.FAB_CYC_STAT, 0x301), (A.FAB_CYC_NO, 0x10203), (A.FAB_CYC_REGION, 0xC03806010), (A.FAB_CYC_MAP 63, 0x300000B05)] with cycOpen := true } : State).rd (F.FAB_CYC_MAP_ADDR (63 : Fin 64)) + 5) = .shared) ∧ (({ st [(A.SYS_MODE, 5), (A.FAB_P_STAT 0, 0x1B), (A.FAB_P_STAT 1, 0x1B), (A.FAB_NODE, 0x07002805), (A.FAB_CYC_STAT, 0x301), (A.FAB_CYC_NO, 0x10203), (A.FAB_CYC_REGION, 0xC03806010), (A.FAB_CYC_MAP 63, 0x300000B05)] with cycOpen := true } : State).rd F.FAB_CYC_REGION_RXOFS + 6 * ({ st [(A.SYS_MODE, 5), (A.FAB_P_STAT 0, 0x1B), (A.FAB_P_STAT 1, 0x1B), (A.FAB_NODE, 0x07002805), (A.FAB_CYC_STAT, 0x301), (A.FAB_CYC_NO, 0x10203), (A.FAB_CYC_REGION, 0xC03806010), (A.FAB_CYC_MAP 63, 0x300000B05)] with cycOpen := true } : State).rd (F.FAB_CYC_MAP_WORD (63 : Fin 64)) + 6 ≤ (pa17 : Parsed).payload.length) ∧ (({ st [(A.SYS_MODE, 5), (A.FAB_P_STAT 0, 0x1B), (A.FAB_P_STAT 1, 0x1B), (A.FAB_NODE, 0x07002805), (A.FAB_CYC_STAT, 0x301), (A.FAB_CYC_NO, 0x10203), (A.FAB_CYC_REGION, 0xC03806010), (A.FAB_CYC_MAP 63, 0x300000B05)] with cycOpen := true } : State).memWriteErr .fabric (({ st [(A.SYS_MODE, 5), (A.FAB_P_STAT 0, 0x1B), (A.FAB_P_STAT 1, 0x1B), (A.FAB_NODE, 0x07002805), (A.FAB_CYC_STAT, 0x301), (A.FAB_CYC_NO, 0x10203), (A.FAB_CYC_REGION, 0xC03806010), (A.FAB_CYC_MAP 63, 0x300000B05)] with cycOpen := true } : State).rd (F.FAB_CYC_MAP_ADDR (63 : Fin 64))) 6 = none) ∧ (({ st [(A.SYS_MODE, 5), (A.FAB_P_STAT 0, 0x1B), (A.FAB_P_STAT 1, 0x1B), (A.FAB_NODE, 0x07002805), (A.FAB_CYC_STAT, 0x301), (A.FAB_CYC_NO, 0x10203), (A.FAB_CYC_REGION, 0xC03806010), (A.FAB_CYC_MAP 63, 0x300000B05)] with cycOpen := true } : State).dmaDueNow = false) := ⟨by decide +kernel, by decide +kernel, Sys2Proof.Wit.foreign_of _ (by decide +kernel), by decide +kernel, by decide +kernel, by decide +kernel, by decide +kernel, by decide +kernel, by decide +kernel, by decide +kernel, by decide +kernel, by decide +kernel, by decide +kernel, by decide +kernel, by decide +kernel⟩

theorem test_wit_cyclicExchangeAndSessions_3_4 : (parseFrame (fr17 : List Byte) = some (pa17 : Parsed)) ∧ (({ st [(A.SYS_MODE, 5), (A.FAB_P_STAT 0, 0x1B), (A.FAB_P_STAT 1, 0x1B), (A.FAB_NODE, 0x07002805), (A.FAB_CYC_STAT, 0x301), (A.FAB_CYC_NO, 0x10203), (A.FAB_CYC_NO, 0x10204)] with cycOpen := true } : State).takes (0 : Fin 2) (pa17 : Parsed) (fr17 : List Byte) = true) ∧ (foreign (pa17 : Parsed).src = true) ∧ ((pa17 : Parsed).type = 1) ∧ (({ st [(A.SYS_MODE, 5), (A.FAB_P_STAT 0, 0x1B), (A.FAB_P_STAT 1, 0x1B), (A.FAB_NODE, 0x07002805), (A.FAB_CYC_STAT, 0x301), (A.FAB_CYC_NO, 0x10203), (A.FAB_CYC_NO, 0x10204)] with cycOpen := true } : State).cycOpenFor (pa17 : Parsed) = true) ∧ (beNat ((pa17 : Parsed).pay 0 4) ≠ ({ st [(A.SYS_MODE, 5), (A.FAB_P_STAT 0, 0x1B), (A.FAB_P_STAT 1, 0x1B), (A.FAB_NODE, 0x07002805), (A.FAB_CYC_STAT, 0x301), (A.FAB_CYC_NO, 0x10203), (A.FAB_CYC_NO, 0x10204)] with cycOpen := true } : State).rd F.FAB_CYC_NO_CYCNO) := ⟨by decide +kernel, by decide +kernel, Sys2Proof.Wit.foreign_of _ (by decide +kernel), by decide +kernel, by decide +kernel, by decide +kernel⟩

theorem test_wit_cyclicExchangeAndSessions_4_5 : (parseFrame (fr17 : List Byte) = some (pa17 : Parsed)) ∧ (({ st [(A.SYS_MODE, 5), (A.FAB_P_STAT 0, 0x1B), (A.FAB_P_STAT 1, 0x1B), (A.FAB_NODE, 0x07002805), (A.FAB_CYC_STAT, 0x301), (A.FAB_CYC_NO, 0x10203), (A.FAB_CYC_CTL, 0x140025B)] with cycOpen := true } : State).takes (0 : Fin 2) (pa17 : Parsed) (fr17 : List Byte) = true) ∧ (foreign (pa17 : Parsed).src = true) ∧ ((pa17 : Parsed).type = 1) ∧ (({ st [(A.SYS_MODE, 5), (A.FAB_P_STAT 0, 0x1B), (A.FAB_P_STAT 1, 0x1B), (A.FAB_NODE, 0x07002805), (A.FAB_CYC_STAT, 0x301), (A.FAB_CYC_NO, 0x10203), (A.FAB_CYC_CTL, 0x140025B)] with cycOpen := true } : State).cycOpenFor (pa17 : Parsed) = true) ∧ (beNat ((pa17 : Parsed).pay 0 4) = ({ st [(A.SYS_MODE, 5), (A.FAB_P_STAT 0, 0x1B), (A.FAB_P_STAT 1, 0x1B), (A.FAB_NODE, 0x07002805), (A.FAB_CYC_STAT, 0x301), (A.FAB_CYC_NO, 0x10203), (A.FAB_CYC_CTL, 0x140025B)] with cycOpen := true } : State).rd F.FAB_CYC_NO_CYCNO) ∧ (({ st [(A.SYS_MODE, 5), (A.FAB_P_STAT 0, 0x1B), (A.FAB_P_STAT 1, 0x1B), (A.FAB_NODE, 0x07002805), (A.FAB_CYC_STAT, 0x301), (A.FAB_CYC_NO, 0x10203), (A.FAB_CYC_CTL, 0x140025B)] with cycOpen := true } : State).cycGot = false) ∧ (({ st [(A.SYS_MODE, 5), (A.FAB_P_STAT 0, 0x1B), (A.FAB_P_STAT 1, 0x1B), (A.FAB_NODE, 0x07002805), (A.FAB_CYC_STAT, 0x301), (A.FAB_CYC_NO, 0x10203), (A.FAB_CYC_CTL, 0x140025B)] with cycOpen := true } : State).cycOpen = true) ∧ (({ st [(A.SYS_MODE, 5), (A.FAB_P_STAT 0, 0x1B), (A.FAB_P_STAT 1, 0x1B), (A.FAB_NODE, 0x07002805), (A.FAB_CYC_STAT, 0x301), (A.FAB_CYC_NO, 0x10203), (A.FAB_CYC_CTL, 0x140025B)] with cycOpen := true } : State).cycIn F.FAB_CYC_CTL_AUTH = 1) ∧ ((pa17 : Parsed).auth = false) := ⟨by decide +kernel, by decide +kernel, Sys2Proof.Wit.foreign_of _ (by decide +kernel), by decide +kernel, by decide +kernel, by decide +kernel, by decide +kernel, by decide +kernel, by decide +kernel, by decide +kernel⟩

theorem test_wit_cyclicExchangeAndSessions_5_6 : ((({ st [(A.SYS_MODE, 5), (A.FAB_P_STAT 0, 0x1B), (A.FAB_P_STAT 1, 0x1B), (A.FAB_NODE, 0x07002805), (A.FAB_CYC_STAT, 0x301), (A.FAB_CYC_NO, 0x10203), (A.FAB_CYC_MAP 0, 0x300000003)] with cycBuf := [9] }).setBytes 0x03000000 [1, 2, 3] : State).fabLive = true) ∧ ((({ st [(A.SYS_MODE, 5), (A.FAB_P_STAT 0, 0x1B), (A.FAB_P_STAT 1, 0x1B), (A.FAB_NODE, 0x07002805), (A.FAB_CYC_STAT, 0x301), (A.FAB_CYC_NO, 0x10203), (A.FAB_CYC_MAP 0, 0x300000003)] with cycBuf := [9] }).setBytes 0x03000000 [1, 2, 3] : State).bit F.FAB_CYC_CTL_EN = true) ∧ ((({ st [(A.SYS_MODE, 5), (A.FAB_P_STAT 0, 0x1B), (A.FAB_P_STAT 1, 0x1B), (A.FAB_NODE, 0x07002805), (A.FAB_CYC_STAT, 0x301), (A.FAB_CYC_NO, 0x10203), (A.FAB_CYC_MAP 0, 0x300000003)] with cycBuf := [9] }).setBytes 0x03000000 [1, 2, 3] : State).insertEntries = [(0 : Fin 64).val]) ∧ (((({ st [(A.SYS_MODE, 5), (A.FAB_P_STAT 0, 0x1B), (A.FAB_P_STAT 1, 0x1B), (A.FAB_NODE, 0x07002805), (A.FAB_CYC_STAT, 0x301), (A.FAB_CYC_NO, 0x10203), (A.FAB_CYC_MAP 0, 0x300000003)] with cycBuf := [9] }).setBytes 0x03000000 [1, 2, 3] : State).cancel .cyclicSnapshot).locRead .fabric ((({ st [(A.SYS_MODE, 5), (A.FAB_P_STAT 0, 0x1B), (A.FAB_P_STAT 1, 0x1B), (A.FAB_NODE, 0x07002805), (A.FAB_CYC_STAT, 0x301), (A.FAB_CYC_NO, 0x10203), (A.FAB_CYC_MAP 0, 0x300000003)] with cycBuf := [9] }).setBytes 0x03000000 [1, 2, 3] : State).rd (F.FAB_CYC_MAP_ADDR (0 : Fin 64))) 6 = (none, ([1, 2, 3, 0, 0, 0] : List Byte), (({ st [(A.SYS_MODE, 5), (A.FAB_P_STAT 0, 0x1B), (A.FAB_P_STAT 1, 0x1B), (A.FAB_NODE, 0x07002805), (A.FAB_CYC_STAT, 0x301), (A.FAB_CYC_NO, 0x10203), (A.FAB_CYC_MAP 0, 0x300000003)] with cycBuf := [9] }).setBytes 0x03000000 [1, 2, 3] : State).cancel .cyclicSnapshot)) := by decide +kernel

theorem test_wit_cyclicExchangeAndSessions_6_7 : (({ st [(A.SYS_MODE, 5), (A.FAB_CYC_STAT, 0x201), (A.FAB_CYC_CNT, 0xFFF)] with cycOpen := true } : State).cycOpen = true) ∧ (({ st [(A.SYS_MODE, 5), (A.FAB_CYC_STAT, 0x201), (A.FAB_CYC_CNT, 0xFFF)] with cycOpen := true } : State).cycGot = false) := by decide +kernel

theorem test_wit_cyclicExchangeAndSessions_6_8 : (({ st [(A.SYS_MODE, 4), (A.FAB_CYC_STAT, 0x201)] with cycOpen := true } : State).cycOpen = true) ∧ (({ st [(A.SYS_MODE, 4), (A.FAB_CYC_STAT, 0x201)] with cycOpen := true } : State).cycGot = false) := by decide +kernel

theorem test_wit_cyclicExchangeAndSessions_7_9 : (parseFrame (fr18 : List Byte) = some (pa18 : Parsed)) ∧ ((st ([(A.SYS_MODE, 3), (A.FAB_P_STAT 0, 0x1B), (A.FAB_P_STAT 1, 0x1B), (A.FAB_NODE, 0x07002805), (A.CRY_OTPSTAT, 1)]) : State).takes (0 : Fin 2) (pa18 : Parsed) (fr18 : List Byte) = true) ∧ (foreign (pa18 : Parsed).src = true) ∧ ((pa18 : Parsed).type = 5) ∧ ((pa18 : Parsed).byte 0 = 1) ∧ ((pa18 : Parsed).resp = false) ∧ ((st ([(A.SYS_MODE, 3), (A.FAB_P_STAT 0, 0x1B), (A.FAB_P_STAT 1, 0x1B), (A.FAB_NODE, 0x07002805), (A.CRY_OTPSTAT, 1)]) : State).addressed (pa18 : Parsed) = true) ∧ ((pa18 : Parsed).byte 1 = (3 : Fin 16).val) ∧ (165 ≤ (pa18 : Parsed).payload.length) ∧ ((st ([(A.SYS_MODE, 3), (A.FAB_P_STAT 0, 0x1B), (A.FAB_P_STAT 1, 0x1B), (A.FAB_NODE, 0x07002805), (A.CRY_OTPSTAT, 1)]) : State).mode ≠ .shutdown) ∧ ((pa18 : Parsed).byte 3 < 4) ∧ ((st ([(A.SYS_MODE, 3), (A.FAB_P_STAT 0, 0x1B), (A.FAB_P_STAT 1, 0x1B), (A.FAB_NODE, 0x07002805), (A.CRY_OTPSTAT, 1)]) : State).keyUsable ((pa18 : Parsed).byte 3) = true) ∧ ((st ([(A.SYS_MODE, 3), (A.FAB_P_STAT 0, 0x1B), (A.FAB_P_STAT 1, 0x1B), (A.FAB_NODE, 0x07002805), (A.CRY_OTPSTAT, 1)]) : State).sessOpen (3 : Fin 16) = true → (st ([(A.SYS_MODE, 3), (A.FAB_P_STAT 0, 0x1B), (A.FAB_P_STAT 1, 0x1B), (A.FAB_NODE, 0x07002805), (A.CRY_OTPSTAT, 1)]) : State).rd (F.FAB_SESS_STAT_PEER (3 : Fin 16)) = (pa18 : Parsed).srcId) := ⟨by decide +kernel, by decide +kernel, Sys2Proof.Wit.foreign_of _ (by decide +kernel), by decide +kernel, by decide +kernel, by decide +kernel, by decide +kernel, by decide +kernel, by decide +kernel, by decide +kernel, by decide +kernel, by decide +kernel, by decide +kernel⟩

theorem test_wit_cyclicExchangeAndSessions_8_10 : (parseFrame (fr19 : List Byte) = some (pa19 : Parsed)) ∧ (({ st [(A.SYS_MODE, 3), (A.FAB_P_STAT 0, 0x1B), (A.FAB_P_STAT 1, 0x1B), (A.FAB_NODE, 0x07002805), (A.FAB_SESS_STAT 3, 0x1CFE), (routeFld 7 |>.addr, 0x200000), (A.SYS_READY, 4)] with sess := [(3, { Sess.init with mac := [1, 2, 3], lastSeq := 4 })] } : State).takes (0 : Fin 2) (pa19 : Parsed) (fr19 : List Byte) = true) ∧ (foreign (pa19 : Parsed).src = true) ∧ ((pa19 : Parsed).type = 5) ∧ ((pa19 : Parsed).byte 0 = 3) ∧ ((pa19 : Parsed).resp = false) ∧ (({ st [(A.SYS_MODE, 3), (A.FAB_P_STAT 0, 0x1B), (A.FAB_P_STAT 1, 0x1B), (A.FAB_NODE, 0x07002805), (A.FAB_SESS_STAT 3, 0x1CFE), (routeFld 7 |>.addr, 0x200000), (A.SYS_READY, 4)] with sess := [(3, { Sess.init with mac := [1, 2, 3], lastSeq := 4 })] } : State).addressed (pa19 : Parsed) = true) ∧ ((pa19 : Parsed).byte 1 = (3 : Fin 16).val) ∧ ((({ st [(A.SYS_MODE, 3), (A.FAB_P_STAT 0, 0x1B), (A.FAB_P_STAT 1, 0x1B), (A.FAB_NODE, 0x07002805), (A.FAB_SESS_STAT 3, 0x1CFE), (routeFld 7 |>.addr, 0x200000), (A.SYS_READY, 4)] with sess := [(3, { Sess.init with mac := [1, 2, 3], lastSeq := 4 })] } : State).heard (0 : Fin 2) (pa19 : Parsed)).sessAccepts (3 : Fin 16) (pa19 : Parsed) = true) := ⟨by decide +kernel, by decide +kernel, Sys2Proof.Wit.foreign_of _ (by decide +kernel), by decide +kernel, by decide +kernel, by decide +kernel, by decide +kernel, by decide +kernel, by decide +kernel⟩

theorem test_wit_cyclicExchangeAndSessions_9_11 : (parseFrame (fr20 : List Byte) = some (pa20 : Parsed)) ∧ (({ st [(A.SYS_MODE, 3), (A.FAB_P_STAT 0, 0x1B), (A.FAB_P_STAT 1, 0x1B), (A.FAB_NODE, 0x07002805), (A.FAB_SESS_STAT 3, 0x1CFE), (routeFld 7 |>.addr, 0x200000), (A.SYS_READY, 4)] with sess := [(3, { Sess.init with mac := [1, 2, 3], lastSeq := 4 })] } : State).takes (0 : Fin 2) (pa20 : Parsed) (fr20 : List Byte) = true) ∧ (foreign (pa20 : Parsed).src = true) ∧ ((pa20 : Parsed).type = 5) ∧ ((pa20 : Parsed).byte 0 = 4) ∧ ((pa20 : Parsed).resp = false) ∧ (({ st [(A.SYS_MODE, 3), (A.FAB_P_STAT 0, 0x1B), (A.FAB_P_STAT 1, 0x1B), (A.FAB_NODE, 0x07002805), (A.FAB_SESS_STAT 3, 0x1CFE), (routeFld 7 |>.addr, 0x200000), (A.SYS_READY, 4)] with sess := [(3, { Sess.init with mac := [1, 2, 3], lastSeq := 4 })] } : State).addressed (pa20 : Parsed) = true) ∧ ((pa20 : Parsed).byte 1 = (3 : Fin 16).val) ∧ ((({ st [(A.SYS_MODE, 3), (A.FAB_P_STAT 0, 0x1B), (A.FAB_P_STAT 1, 0x1B), (A.FAB_NODE, 0x07002805), (A.FAB_SESS_STAT 3, 0x1CFE), (routeFld 7 |>.addr, 0x200000), (A.SYS_READY, 4)] with sess := [(3, { Sess.init with mac := [1, 2, 3], lastSeq := 4 })] } : State).heard (0 : Fin 2) (pa20 : Parsed)).sessAccepts (3 : Fin 16) (pa20 : Parsed) = true) ∧ ((({ st [(A.SYS_MODE, 3), (A.FAB_P_STAT 0, 0x1B), (A.FAB_P_STAT 1, 0x1B), (A.FAB_NODE, 0x07002805), (A.FAB_SESS_STAT 3, 0x1CFE), (routeFld 7 |>.addr, 0x200000), (A.SYS_READY, 4)] with sess := [(3, { Sess.init with mac := [1, 2, 3], lastSeq := 4 })] } : State).rights (3 : Fin 16)).testBit 5 = true) := ⟨by decide +kernel, by decide +kernel, Sys2Proof.Wit.foreign_of _ (by decide +kernel), by decide +kernel, by decide +kernel, by decide +kernel, by decide +kernel, by decide +kernel, by decide +kernel, by decide +kernel⟩

theorem test_wit_cyclicExchangeAndSessions_10_12 : (parseFrame (fr21 : List Byte) = some (pa21 : Parsed)) ∧ (({ st [(A.SYS_MODE, 3), (A.FAB_P_STAT 0, 0x1B), (A.FAB_P_STAT 1, 0x1B), (A.FAB_NODE, 0x07002805), (A.FAB_SESS_STAT 3, 0x1CFE), (routeFld 7 |>.addr, 0x200000), (A.SYS_BOOTSTAT, 0x0)] with sess := [(3, { Sess.init with mac := [1, 2, 3], lastSeq := 4 })] } : State).takes (0 : Fin 2) (pa21 : Parsed) (fr21 : List Byte) = true) ∧ (foreign (pa21 : Parsed).src = true) ∧ ((pa21 : Parsed).type = 5) ∧ ((pa21 : Parsed).byte 0 = 6) ∧ ((pa21 : Parsed).resp = false) ∧ (({ st [(A.SYS_MODE, 3), (A.FAB_P_STAT 0, 0x1B), (A.FAB_P_STAT 1, 0x1B), (A.FAB_NODE, 0x07002805), (A.FAB_SESS_STAT 3, 0x1CFE), (routeFld 7 |>.addr, 0x200000), (A.SYS_BOOTSTAT, 0x0)] with sess := [(3, { Sess.init with mac := [1, 2, 3], lastSeq := 4 })] } : State).addressed (pa21 : Parsed) = true) ∧ ((pa21 : Parsed).byte 1 = (3 : Fin 16).val) ∧ ((({ st [(A.SYS_MODE, 3), (A.FAB_P_STAT 0, 0x1B), (A.FAB_P_STAT 1, 0x1B), (A.FAB_NODE, 0x07002805), (A.FAB_SESS_STAT 3, 0x1CFE), (routeFld 7 |>.addr, 0x200000), (A.SYS_BOOTSTAT, 0x0)] with sess := [(3, { Sess.init with mac := [1, 2, 3], lastSeq := 4 })] } : State).heard (0 : Fin 2) (pa21 : Parsed)).sessAccepts (3 : Fin 16) (pa21 : Parsed) = true) ∧ ((({ st [(A.SYS_MODE, 3), (A.FAB_P_STAT 0, 0x1B), (A.FAB_P_STAT 1, 0x1B), (A.FAB_NODE, 0x07002805), (A.FAB_SESS_STAT 3, 0x1CFE), (routeFld 7 |>.addr, 0x200000), (A.SYS_BOOTSTAT, 0x0)] with sess := [(3, { Sess.init with mac := [1, 2, 3], lastSeq := 4 })] } : State).rights (3 : Fin 16)).testBit 0 = true) ∧ (({ st [(A.SYS_MODE, 3), (A.FAB_P_STAT 0, 0x1B), (A.FAB_P_STAT 1, 0x1B), (A.FAB_NODE, 0x07002805), (A.FAB_SESS_STAT 3, 0x1CFE), (routeFld 7 |>.addr, 0x200000), (A.SYS_BOOTSTAT, 0x0)] with sess := [(3, { Sess.init with mac := [1, 2, 3], lastSeq := 4 })] } : State).bit F.CRY_STAT_BUSY = false) ∧ (({ st [(A.SYS_MODE, 3), (A.FAB_P_STAT 0, 0x1B), (A.FAB_P_STAT 1, 0x1B), (A.FAB_NODE, 0x07002805), (A.FAB_SESS_STAT 3, 0x1CFE), (routeFld 7 |>.addr, 0x200000), (A.SYS_BOOTSTAT, 0x0)] with sess := [(3, { Sess.init with mac := [1, 2, 3], lastSeq := 4 })] } : State).txHeld = false) ∧ ((({ st [(A.SYS_MODE, 3), (A.FAB_P_STAT 0, 0x1B), (A.FAB_P_STAT 1, 0x1B), (A.FAB_NODE, 0x07002805), (A.FAB_SESS_STAT 3, 0x1CFE), (routeFld 7 |>.addr, 0x200000), (A.SYS_BOOTSTAT, 0x0)] with sess := [(3, { Sess.init with mac := [1, 2, 3], lastSeq := 4 })] } : State).heard (0 : Fin 2) (pa21 : Parsed)).leavesBy (pa21 : Parsed).srcId (0 : Nat) = true) ∧ ((pa21 : Parsed).bcast = false) := ⟨by decide +kernel, by decide +kernel, Sys2Proof.Wit.foreign_of _ (by decide +kernel), by decide +kernel, by decide +kernel, by decide +kernel, by decide +kernel, by decide +kernel, by decide +kernel, by decide +kernel, by decide +kernel, by decide +kernel, by decide +kernel, by decide +kernel⟩

theorem test_wit_cyclicExchangeAndSessions_11_13 : (parseFrame (fr21 : List Byte) = some (pa21 : Parsed)) ∧ (({ st [(A.SYS_MODE, 3), (A.FAB_P_STAT 0, 0x1B), (A.FAB_P_STAT 1, 0x1B), (A.FAB_NODE, 0x07002805), (A.FAB_SESS_STAT 3, 0x1CFE), (routeFld 7 |>.addr, 0x200000), (A.CRY_STAT, 1)] with sess := [(3, { Sess.init with mac := [1, 2, 3], lastSeq := 4 })] } : State).takes (0 : Fin 2) (pa21 : Parsed) (fr21 : List Byte) = true) ∧ (foreign (pa21 : Parsed).src = true) ∧ ((pa21 : Parsed).type = 5) ∧ ((pa21 : Parsed).byte 0 = 6) ∧ ((pa21 : Parsed).resp = false) ∧ (({ st [(A.SYS_MODE, 3), (A.FAB_P_STAT 0, 0x1B), (A.FAB_P_STAT 1, 0x1B), (A.FAB_NODE, 0x07002805), (A.FAB_SESS_STAT 3, 0x1CFE), (routeFld 7 |>.addr, 0x200000), (A.CRY_STAT, 1)] with sess := [(3, { Sess.init with mac := [1, 2, 3], lastSeq := 4 })] } : State).addressed (pa21 : Parsed) = true) ∧ ((pa21 : Parsed).byte 1 = (3 : Fin 16).val) ∧ ((({ st [(A.SYS_MODE, 3), (A.FAB_P_STAT 0, 0x1B), (A.FAB_P_STAT 1, 0x1B), (A.FAB_NODE, 0x07002805), (A.FAB_SESS_STAT 3, 0x1CFE), (routeFld 7 |>.addr, 0x200000), (A.CRY_STAT, 1)] with sess := [(3, { Sess.init with mac := [1, 2, 3], lastSeq := 4 })] } : State).heard (0 : Fin 2) (pa21 : Parsed)).sessAccepts (3 : Fin 16) (pa21 : Parsed) = true) ∧ ((({ st [(A.SYS_MODE, 3), (A.FAB_P_STAT 0, 0x1B), (A.FAB_P_STAT 1, 0x1B), (A.FAB_NODE, 0x07002805), (A.FAB_SESS_STAT 3, 0x1CFE), (routeFld 7 |>.addr, 0x200000), (A.CRY_STAT, 1)] with sess := [(3, { Sess.init with mac := [1, 2, 3], lastSeq := 4 })] } : State).rights (3 : Fin 16)).testBit 0 = true) ∧ (({ st [(A.SYS_MODE, 3), (A.FAB_P_STAT 0, 0x1B), (A.FAB_P_STAT 1, 0x1B), (A.FAB_NODE, 0x07002805), (A.FAB_SESS_STAT 3, 0x1CFE), (routeFld 7 |>.addr, 0x200000), (A.CRY_STAT, 1)] with sess := [(3, { Sess.init with mac := [1, 2, 3], lastSeq := 4 })] } : State).bit F.CRY_STAT_BUSY = true) ∧ (({ st [(A.SYS_MODE, 3), (A.FAB_P_STAT 0, 0x1B), (A.FAB_P_STAT 1, 0x1B), (A.FAB_NODE, 0x07002805), (A.FAB_SESS_STAT 3, 0x1CFE), (routeFld 7 |>.addr, 0x200000), (A.CRY_STAT, 1)] with sess := [(3, { Sess.init with mac := [1, 2, 3], lastSeq := 4 })] } : State).attestWait = none) := ⟨by decide +kernel, by decide +kernel, Sys2Proof.Wit.foreign_of _ (by decide +kernel), by decide +kernel, by decide +kernel, by decide +kernel, by decide +kernel, by decide +kernel, by decide +kernel, by decide +kernel, by decide +kernel, by decide +kernel⟩

theorem test_wit_cyclicExchangeAndSessions_12_14 : (({ st [(A.SYS_MODE, 3), (A.FAB_P_STAT 0, 0x1B), (A.FAB_P_STAT 1, 0x1B), (A.FAB_NODE, 0x07002805), (A.FAB_SESS_STAT 3, 0x1CFE), (routeFld 7 |>.addr, 0x200000), (A.SYS_READY, 4)] with sess := [(3, { Sess.init with mac := [1, 2, 3], lastSeq := 4 })] } : State).rd (F.FAB_SESS_STAT_STATE (3 : Fin 16)) ≠ 0) := by decide +kernel

theorem test_wit_cyclicExchangeAndSessions_13_14 : (({ st [(A.SYS_MODE, 3), (A.FAB_P_STAT 0, 0x1B), (A.FAB_P_STAT 1, 0x1B), (A.FAB_NODE, 0x07002805), (A.FAB_SESS_STAT 3, 0x1CFE), (routeFld 7 |>.addr, 0x200000), (A.SYS_READY, 4)] with sess := [(3, { Sess.init with mac := [1, 2, 3], lastSeq := 4 })] } : State).operating = true) ∧ (isCore (.coreS : Writer) = true) ∧ (getBits (0xC5 : Word) 0 8 = 0xC5) := by decide +kernel

theorem test_wit_debugAndTestAccess_1_1 : ((st [(A.SYS_MODE, 3), (A.TST_CTL, 1), (A.DBG_AUTHSTAT, 1)] : State).operating = true) ∧ (isCore (.coreS : Writer) = true) ∧ ((st [(A.SYS_MODE, 3), (A.TST_CTL, 1), (A.DBG_AUTHSTAT, 1)] : State).dbgMay (.coreS : Writer) (4 : Fin 5) = true) ∧ ((4 : Fin 5).val = 4 → (st [(A.SYS_MODE, 3), (A.TST_CTL, 1), (A.DBG_AUTHSTAT, 1)] : State).mode = .standby) := by decide +kernel

theorem test_wit_debugAndTestAccess_3_1 : ((st [(A.SYS_MODE, 3), (A.TST_CTL, 1), (A.DBG_AUTHSTAT, 1)] : State).operating = true) ∧ (isCore (.coreS : Writer) = true) ∧ ((st [(A.SYS_MODE, 3), (A.TST_CTL, 1), (A.DBG_AUTHSTAT, 1)] : State).dbgMay (.coreS : Writer) (4 : Fin 5) = true) ∧ ((st [(A.SYS_MODE, 3), (A.TST_CTL, 1), (A.DBG_AUTHSTAT, 1)] : State).bit (F.DBG_C_VTSTAT_TXFULL (4 : Fin 5)) = false) := by decide +kernel

theorem test_wit_debugAndTestAccess_7_1 : ((st [(A.SYS_MODE, 3), (A.TST_CTL, 1), (A.DBG_AUTHSTAT, 1)] : State).operating = true) ∧ (isCore (.coreS : Writer) = true) ∧ (readsOwn (.coreS : Writer) (4 : Fin 5) = true) ∧ ((st [(A.SYS_MODE, 3), (A.TST_CTL, 1), (A.DBG_AUTHSTAT, 1)] : State).rxdOld (4 : Fin 5) = none) := by decide +kernel

theorem test_wit_debugAndTestAccess_8_1 : ((st [(A.SYS_MODE, 3), (A.TST_CTL, 1), (A.DBG_AUTHSTAT, 1)] : State).operating = true) ∧ ((.coreS : Writer) = .debugger ∨ isCore (.coreS : Writer) = true) ∧ ((st [(A.SYS_MODE, 3), (A.TST_CTL, 1), (A.DBG_AUTHSTAT, 1)] : State).bit F.DBG_AUTHSTAT_LOCKOUT = false) ∧ ((st [(A.SYS_MODE, 3), (A.TST_CTL, 1), (A.DBG_AUTHSTAT, 1)] : State).bit F.DBG_AUTHSTAT_BUSY = false) ∧ ((st [(A.SYS_MODE, 3), (A.TST_CTL, 1), (A.DBG_AUTHSTAT, 1)] : State).dmaDueNow = false) := by decide +kernel

theorem test_wit_debugAndTestAccess_9_1 : ((st [(A.SYS_MODE, 3), (A.TST_CTL, 1), (A.DBG_AUTHSTAT, 1)] : State).operating = true) ∧ ((.coreS : Writer) = .debugger ∨ isCore (.coreS : Writer) = true) ∧ ((st [(A.SYS_MODE, 3), (A.TST_CTL, 1), (A.DBG_AUTHSTAT, 1)] : State).dmaDueNow = false) := by decide +kernel

theorem test_wit_debugAndTestAccess_12_1 : ((st [(A.SYS_MODE, 3), (A.TST_CTL, 1), (A.DBG_AUTHSTAT, 1)] : State).jsvcLive = true) := by decide +kernel

theorem test_wit_debugAndTestAccess_20_1 : ((st [(A.SYS_MODE, 3), (A.TST_CTL, 1), (A.DBG_AUTHSTAT, 1)] : State).operating = true) ∧ (isCore (.coreS : Writer) = true) ∧ ((st [(A.SYS_MODE, 3), (A.TST_CTL, 1), (A.DBG_AUTHSTAT, 1)] : State).tstOpen = true) := by decide +kernel

theorem test_wit_debugAndTestAccess_23_1 : ((st [(A.SYS_MODE, 3), (A.TST_CTL, 1), (A.DBG_AUTHSTAT, 1)] : State).operating = true) ∧ (isCore (.coreS : Writer) = true) ∧ ((st [(A.SYS_MODE, 3), (A.TST_CTL, 1), (A.DBG_AUTHSTAT, 1)] : State).tstOpen = true) ∧ (2 ≤ (8 : Fin 9).val) ∧ ((tstRange (8 : Fin 9) (0x2B8 : Word)).all (fun (f : Nat × Nat × Bool) ↦ f.2.2) = true) := by decide +kernel

theorem test_wit_debugAndTestAccess_1_2 : ((st [(A.SYS_MODE, 5), (A.DBG_C_VTSTAT 0, 1), (A.DBG_C_TXD 0, 7)] : State).operating = true) ∧ (isCore (.coreA 0 true : Writer) = true) ∧ ((st [(A.SYS_MODE, 5), (A.DBG_C_VTSTAT 0, 1), (A.DBG_C_TXD 0, 7)] : State).dbgMay (.coreA 0 true : Writer) (0 : Fin 5) = true) ∧ ((0 : Fin 5).val = 4 → (st [(A.SYS_MODE, 5), (A.DBG_C_VTSTAT 0, 1), (A.DBG_C_TXD 0, 7)] : State).mode = .standby) := by decide +kernel

theorem test_wit_debugAndTestAccess_4_2 : ((st [(A.SYS_MODE, 5), (A.DBG_C_VTSTAT 0, 1), (A.DBG_C_TXD 0, 7)] : State).operating = true) ∧ (isCore (.coreA 0 true : Writer) = true) ∧ ((st [(A.SYS_MODE, 5), (A.DBG_C_VTSTAT 0, 1), (A.DBG_C_TXD 0, 7)] : State).dbgMay (.coreA 0 true : Writer) (0 : Fin 5) = true) ∧ ((st [(A.SYS_MODE, 5), (A.DBG_C_VTSTAT 0, 1), (A.DBG_C_TXD 0, 7)] : State).bit (F.DBG_C_VTSTAT_TXFULL (0 : Fin 5)) = true) := by decide +kernel

theorem test_wit_debugAndTestAccess_7_2 : ((st [(A.SYS_MODE, 5), (A.DBG_C_VTSTAT 0, 1), (A.DBG_C_TXD 0, 7)] : State).operating = true) ∧ (isCore (.coreA 0 true : Writer) = true) ∧ (readsOwn (.coreA 0 true : Writer) (0 : Fin 5) = true) ∧ ((st [(A.SYS_MODE, 5), (A.DBG_C_VTSTAT 0, 1), (A.DBG_C_TXD 0, 7)] : State).rxdOld (0 : Fin 5) = none) := by decide +kernel

theorem test_wit_debugAndTestAccess_2_3 : ((st [(A.SYS_MODE, 5)] : State).operating = true) ∧ (isCore (.coreA 1 true : Writer) = true) ∧ ((st [(A.SYS_MODE, 5)] : State).dbgMay (.coreA 1 true : Writer) (0 : Fin 5) = false) := by decide +kernel

theorem test_wit_debugAndTestAccess_5_4 : ((st [(A.SYS_MODE, 5), (A.DBG_AUTHSTAT, 1)] : State).operating = true) ∧ ((st [(A.SYS_MODE, 5), (A.DBG_AUTHSTAT, 1)] : State).bit F.DBG_AUTHSTAT_OK = true) ∧ ((st [(A.SYS_MODE, 5), (A.DBG_AUTHSTAT, 1)] : State).bit (F.DBG_C_VTSTAT_RXFULL (3 : Fin 5)) = false) ∧ ((st [(A.SYS_MODE, 5), (A.DBG_AUTHSTAT, 1)] : State).dmaDueNow = false) := by decide +kernel

theorem test_wit_debugAndTestAccess_17_4 : ((st [(A.SYS_MODE, 5), (A.DBG_AUTHSTAT, 1)] : State).jsvcLive = true) ∧ ((st [(A.SYS_MODE, 5), (A.DBG_AUTHSTAT, 1)] : State).bit F.DBG_AUTHSTAT_OK = true) ∧ (isRegion (0x03000009 : Nat) = false) ∧ (isRegion ((0x03000009 : Nat) + 5) = false) ∧ (nodeOf (0x03000009 : Nat) = nodeOf ((0x03000009 : Nat) + 5)) ∧ (region (0x03000009 : Nat) ≠ .rom) ∧ ((st [(A.SYS_MODE, 5), (A.DBG_AUTHSTAT, 1)] : State).fresh.2.memRead (0x03000009 : Nat) 6 = (none, (st [(A.SYS_MODE, 5), (A.DBG_AUTHSTAT, 1)] : State).fresh.2)) := by decide +kernel

theorem test_wit_debugAndTestAccess_18_4 : ((st [(A.SYS_MODE, 5), (A.DBG_AUTHSTAT, 1)] : State).jsvcLive = true) ∧ ((st [(A.SYS_MODE, 5), (A.DBG_AUTHSTAT, 1)] : State).bit F.DBG_AUTHSTAT_OK = true) ∧ (isRegion (0x03000009 : Nat) = false) ∧ (isRegion ((0x03000009 : Nat) + 5) = false) ∧ (nodeOf (0x03000009 : Nat) = nodeOf ((0x03000009 : Nat) + 5)) ∧ ((st [(A.SYS_MODE, 5), (A.DBG_AUTHSTAT, 1)] : State).fresh.2.memWriteErr .debugger (0x03000009 : Nat) 6 = none) ∧ (∀ i : Fin 6, region ((0x03000009 : Nat) + i) ≠ .table ∧ (st [(A.SYS_MODE, 5), (A.DBG_AUTHSTAT, 1)] : State).tornAt ((0x03000009 : Nat) + i) = none) ∧ ((st [(A.SYS_MODE, 5), (A.DBG_AUTHSTAT, 1)] : State).dmaDueNow = false) := by decide +kernel

theorem test_wit_debugAndTestAccess_6_5 : (((st [(A.SYS_MODE, 5), (A.DBG_AUTHSTAT, 1), (A.DBG_C_VTSTAT 3, 0x6), (A.DBG_C_RXD 3, 5)]).setBytes 0x0300000A [1, 2, 3, 4, 5, 6] : State).operating = true) ∧ (((st [(A.SYS_MODE, 5), (A.DBG_AUTHSTAT, 1), (A.DBG_C_VTSTAT 3, 0x6), (A.DBG_C_RXD 3, 5)]).setBytes 0x0300000A [1, 2, 3, 4, 5, 6] : State).bit F.DBG_AUTHSTAT_OK = true) ∧ (((st [(A.SYS_MODE, 5), (A.DBG_AUTHSTAT, 1), (A.DBG_C_VTSTAT 3, 0x6), (A.DBG_C_RXD 3, 5)]).setBytes 0x0300000A [1, 2, 3, 4, 5, 6] : State).bit (F.DBG_C_VTSTAT_RXFULL (3 : Fin 5)) = true) ∧ (((st [(A.SYS_MODE, 5), (A.DBG_AUTHSTAT, 1), (A.DBG_C_VTSTAT 3, 0x6), (A.DBG_C_RXD 3, 5)]).setBytes 0x0300000A [1, 2, 3, 4, 5, 6] : State).dmaDueNow = false) := by decide +kernel

theorem test_wit_debugAndTestAccess_17_5 : (((st [(A.SYS_MODE, 5), (A.DBG_AUTHSTAT, 1), (A.DBG_C_VTSTAT 3, 0x6), (A.DBG_C_RXD 3, 5)]).setBytes 0x0300000A [1, 2, 3, 4, 5, 6] : State).jsvcLive = true) ∧ (((st [(A.SYS_MODE, 5), (A.DBG_AUTHSTAT, 1), (A.DBG_C_VTSTAT 3, 0x6), (A.DBG_C_RXD 3, 5)]).setBytes 0x0300000A [1, 2, 3, 4, 5, 6] : State).bit F.DBG_AUTHSTAT_OK = true) ∧ (isRegion (0x0300000A : Nat) = false) ∧ (isRegion ((0x0300000A : Nat) + 5) = false) ∧ (nodeOf (0x0300000A : Nat) = nodeOf ((0x0300000A : Nat) + 5)) ∧ (region (0x0300000A : Nat) ≠ .rom) ∧ (((st [(A.SYS_MODE, 5), (A.DBG_AUTHSTAT, 1), (A.DBG_C_VTSTAT 3, 0x6), (A.DBG_C_RXD 3, 5)]).setBytes 0x0300000A [1, 2, 3, 4, 5, 6] : State).fresh.2.memRead (0x0300000A : Nat) 6 = (none, ((st [(A.SYS_MODE, 5), (A.DBG_AUTHSTAT, 1), (A.DBG_C_VTSTAT 3, 0x6), (A.DBG_C_RXD 3, 5)]).setBytes 0x0300000A [1, 2, 3, 4, 5, 6] : State).fresh.2)) := by decide +kernel

theorem test_wit_debugAndTestAccess_8_6 : ((st [(A.SYS_MODE, 5)] : State).operating = true) ∧ ((.debugger : Writer) = .debugger ∨ isCore (.debugger : Writer) = true) ∧ ((st [(A.SYS_MODE, 5)] : State).bit F.DBG_AUTHSTAT_LOCKOUT = false) ∧ ((st [(A.SYS_MODE, 5)] : State).bit F.DBG_AUTHSTAT_BUSY = false) ∧ ((st [(A.SYS_MODE, 5)] : State).dmaDueNow = false) := by decide +kernel

theorem test_wit_debugAndTestAccess_16_6 : ((st [(A.SYS_MODE, 5)] : State).jsvcLive = true) ∧ ((st [(A.SYS_MODE, 5)] : State).bit F.DBG_AUTHSTAT_OK = false) := by decide +kernel

theorem test_wit_debugAndTestAccess_19_6 : ((st [(A.SYS_MODE, 5)] : State).jsvcLive = true) ∧ ((st [(A.SYS_MODE, 5)] : State).bit F.DBG_AUTHSTAT_OK = false) ∧ (openRange (0x08110100 : Nat) = false) := by decide +kernel

theorem test_wit_debugAndTestAccess_10_7 : (({ st [(A.SYS_MODE, 5), (A.CRY_OTPSTAT, 0), (A.DBG_AUTHSTAT, 0xA)] with authKey := some 3 } : State).authKey = some (3 : Nat)) := by decide +kernel

theorem test_wit_debugAndTestAccess_11_8 : (({ st [(A.SYS_MODE, 3), (A.DBG_AUTHSTAT, 1)] with boundary := [true] } : State).jsvcLive = true) := by decide +kernel

theorem test_wit_debugAndTestAccess_13_8 : (({ st [(A.SYS_MODE, 3), (A.DBG_AUTHSTAT, 1)] with boundary := [true] } : State).jsvcLive = true) := by decide +kernel

theorem test_wit_debugAndTestAccess_14_8 : (({ st [(A.SYS_MODE, 3), (A.DBG_AUTHSTAT, 1)] with boundary := [true] } : State).scanOpen = true) := by decide +kernel

theorem test_wit_debugAndTestAccess_15_8 : (({ st [(A.SYS_MODE, 3), (A.DBG_AUTHSTAT, 1)] with boundary := [true] } : State).scanOpen = true) ∧ (({ st [(A.SYS_MODE, 3), (A.DBG_AUTHSTAT, 1)] with boundary := [true] } : State).bit F.DBG_AUTHSTAT_OK = true) := by decide +kernel

theorem test_wit_debugAndTestAccess_19_9 : ((st [(A.SYS_MODE, 5)] : State).jsvcLive = true) ∧ ((st [(A.SYS_MODE, 5)] : State).bit F.DBG_AUTHSTAT_OK = false) ∧ (openRange (0x08000018 : Nat) = false) := by decide +kernel

theorem test_wit_debugAndTestAccess_21_10 : ((st [(A.SYS_MODE, 3), (A.TST_CTL, 0x3F8)] : State).operating = true) ∧ (isCore (.coreA 2 false : Writer) = true) ∧ ((st [(A.SYS_MODE, 3), (A.TST_CTL, 0x3F8)] : State).tstOpen = false) ∧ ((st [(A.SYS_MODE, 3), (A.TST_CTL, 0x3F8)] : State).mode ≠ .run) ∧ (getBits (0x8 : Word) 3 7 ≠ (st [(A.SYS_MODE, 3), (A.TST_CTL, 0x3F8)] : State).rd F.TST_CTL_EN) := by decide +kernel

theorem test_wit_debugAndTestAccess_22_11 : ((st [(A.SYS_MODE, 5), (A.TST_CTL, 0x3FD)] : State).operating = true) ∧ (isCore (.coreA 2 false : Writer) = true) ∧ ((st [(A.SYS_MODE, 5), (A.TST_CTL, 0x3FD)] : State).mode = .run) ∧ ((st [(A.SYS_MODE, 5), (A.TST_CTL, 0x3FD)] : State).bit F.TST_CTL_ACTIVE = true) ∧ (Nat.land (getBits (0x200 : Word) 3 7) ((st [(A.SYS_MODE, 5), (A.TST_CTL, 0x3FD)] : State).rd F.TST_CTL_EN) = getBits (0x200 : Word) 3 7) := by decide +kernel

theorem test_wit_debugAndTestAccess_23_12 : ((st [(A.SYS_MODE, 3), (A.TST_CTL, 1)] : State).operating = true) ∧ (isCore (.coreA 2 false : Writer) = true) ∧ ((st [(A.SYS_MODE, 3), (A.TST_CTL, 1)] : State).tstOpen = true) ∧ (2 ≤ (3 : Fin 9).val) ∧ ((tstRange (3 : Fin 9) (0xFFFFFF060002 : Word)).all (fun (f : Nat × Nat × Bool) ↦ f.2.2) = true) := by decide +kernel

theorem test_wit_debugAndTestAccess_23_13 : ((st [(A.SYS_MODE, 3), (A.TST_CTL, 1)] : State).operating = true) ∧ (isCore (.coreS : Writer) = true) ∧ ((st [(A.SYS_MODE, 3), (A.TST_CTL, 1)] : State).tstOpen = true) ∧ (2 ≤ (2 : Fin 9).val) ∧ ((tstRange (2 : Fin 9) (1000 : Word)).all (fun (f : Nat × Nat × Bool) ↦ f.2.2) = true) := by decide +kernel

theorem test_wit_debugAndTestAccess_24_14 : (({ st [(A.SYS_MODE, 5), (A.DBG_C_RXD 3, 7), (A.DBG_C_VTSTAT 3, 2)] with rxWas := [(3, (5, (1000000, 0)))] } : State).operating = true) ∧ (isCore (.coreA 3 false : Writer) = true) ∧ (readsOwn (.coreA 3 false : Writer) (3 : Fin 5) = true) ∧ (({ st [(A.SYS_MODE, 5), (A.DBG_C_RXD 3, 7), (A.DBG_C_VTSTAT 3, 2)] with rxWas := [(3, (5, (1000000, 0)))] } : State).rxdOld (3 : Fin 5) = some (5 : Word)) := by decide +kernel

theorem test_wit_debugAndTestAccess_2_15 : ((st [(A.SYS_MODE, 5)] : State).operating = true) ∧ (isCore (.coreA 0 false : Writer) = true) ∧ ((st [(A.SYS_MODE, 5)] : State).dbgMay (.coreA 0 false : Writer) (0 : Fin 5) = false) := by decide +kernel

/-! ### Operands that the check refuses, one for each of its conditions -/

theorem test_wf_write_outside_the_map : (Instr.registerWrite .coreS 0x40000000 0).wf = false := by decide
theorem test_wf_write_at_the_top_of_the_map : (Instr.registerWrite .coreS 0x3FFFFFF8 0).wf = true := by decide
theorem test_wf_calibration_code_missing : (Instr.adcCalibrationDone (List.replicate 101 0)).wf = false := by decide
theorem test_wf_unlock_key : (Instr.unlockWindowExpire 0x30).wf = false := by decide
theorem test_wf_conversion_code_missing : (Instr.adcConversionDone 0 (List.replicate 7 8192)).wf = false := by decide
theorem test_wf_conversion_code_of_15_bits : (Instr.adcConversionDone 0 (16384 :: List.replicate 7 8192)).wf = false := by decide
theorem test_wf_recalibration_code_missing : (Instr.adcRecalDone (List.replicate 53 0)).wf = false := by decide
theorem test_wf_auxiliary_code_of_15_bits : (Instr.auxConversion 0 0 16384).wf = false := by decide
theorem test_wf_above_and_below : (Instr.cmpCrossing 57 true true).wf = false := by decide
theorem test_wf_sampled_above_and_below : (Instr.cmpSampleWindow 3 true true).wf = false := by decide
theorem test_wf_entry_before_the_tables : (Instr.tableEntryWrite .coreS 0x08FFFFFF 0).wf = false := by decide
theorem test_wf_entry_past_the_tables : (Instr.tableEntryWrite .coreS 0x090BFFFB 0).wf = false := by decide
theorem test_wf_reply_of_6_bytes : (Instr.tephraReply 0 (some [0, 0, 0, 0, 0, 0]) false).wf = false := by decide
theorem test_wf_line_voltage_of_17_bits : (Instr.lineHalfCycle 65536 50 0).wf = false := by decide
theorem test_wf_line_frequency_of_17_bits : (Instr.lineHalfCycle 230 65536 0).wf = false := by decide
theorem test_wf_line_peak_of_17_bits : (Instr.lineHalfCycle 230 50 65536).wf = false := by decide
theorem test_wf_identification_of_127_bytes : (Instr.sfpInsertion 0 (List.replicate 127 0) true).wf = false := by decide +kernel
theorem test_wf_frame_without_type : (Instr.frameReceive 1 (List.replicate 13 0)).wf = false := by decide
theorem test_wf_debug_access_outside_the_map : (Instr.memap true 0x40000000 0).wf = false := by decide

/-! ### Single steps, their results from the spec's own worked examples -/

/-- What core 1 holds in w8 after an instruction on w9 and w10. -/
def Sys2Proof.Wit.w8 (mk : Fin 5 → Fields → Instr) (a b : Word) (n : BitVec 22) : Option Word :=
  match exec (mk 1 ⟨8, 9, 10, n⟩) (run (st [(A.SYS_MODE, 5)]) 1 [(9, a), (10, b)]) with
  | .next u => some (u.getR 1 8)
  | _ => none

-- 14, the table of multiplication examples after R390
theorem test_mulf_rounds_up : w8 .mulf 3 1 1 = some 2 := by decide +kernel
theorem test_mulf_rounds_up_below_zero : w8 .mulf (-3) 1 1 = some (-1) := by decide +kernel
theorem test_mulf_saturates : w8 .mulf 0x7FFFFFFFFFFF 2 0 = some 0x7FFFFFFFFFFF := by decide +kernel
theorem test_mul_wraps : w8 .mul 0x7FFFFFFFFFFF 2 0 = some 0xFFFFFFFFFFFE := by decide +kernel
theorem test_mulf_gain_times_current : w8 .mulf 0x000000800000 0x038000000000 24 = some 0x01C000000000 := by decide +kernel

-- 00, the example after R10
theorem test_word_in_memory : (State.reset.store 0x03000010 6 0x038000000000).bytes 0x03000010 6 = [0, 0, 0, 0, 0x80, 0x03] := by
  decide +kernel

-- 01, the example of node 5 after R45
theorem test_pointer_of_node_5 : (nodeOf 0x000160001230, localOf 0x000160001230) = (5, 0x20001230) := by decide
theorem test_load_across_nodes : State.reset.misaligned 0x00017FFFFFFC 6 = true := by decide

-- 06, the example of one θ-axis sample: AX8's calibration and raw codes
theorem test_corrected_currents : (match exec (.adcConversionDone 2 [9420, 7300]) { st
      [(A.SYS_MODE, 5), (A.ADC_STATUS, 1), (A.ADC_AX_OFS 8, 0xFF8000C0), (A.ADC_AX_GAIN 8, 0x400000410000)] with
        quads := [(2, { Quad.init with busy := true })] } with
    | .next u => some [(u.reg (A.ADC_AX_IU 8)).toInt, (u.reg (A.ADC_AX_IV 8)).toInt * 1000000000 / 2 ^ 40]
    | _ => none) = some [0x0303E0000000, -2158203125] := by decide +kernel

-- 04, the example of lap waiting: TMR_T4 with RELOAD 37 499
theorem test_lap_counter_wraps : (match exec (.timerWrap 4) (st [(A.SYS_MODE, 5), (A.TMR_RUN, 0x10),
      (A.TMR_T_RELOAD 4, 37499), (A.TMR_T_COUNT 4, 37499)]) with
    | .next u => some (u.reg (A.TMR_T_COUNT 4))
    | _ => none) = some 0 := by decide +kernel
theorem test_lap_compare_out_of_range : (match exec (.timerCmpWrite .coreS 4 0 40000) (st [(A.SYS_MODE, 5), (A.TMR_RUN, 0x10),
      (A.TMR_T_CTL 4, 0x10), (A.TMR_T_RELOAD 4, 37499), (A.TMR_T_COUNT 4, 10000)]) with
    | .next u => some (u.bitAt (F.TMR_T_FLAG_CMP_RANGE 4) 0)
    | _ => none) = some true := by decide +kernel

-- the queue: the front command runs first, and the block's own bits spell none
theorem test_first_in_first_out : (match step { st [(A.SYS_MODE, 3)] with
      pending := [.tickFrameWrite .coreS false 5000, .tickFrameWrite .coreS false 6000] } with
    | .next u => some (u.rd F.TICK_FRAME_COUNTS, u.pending)
    | _ => none) = some (5000, [.tickFrameWrite .coreS false 6000]) := by decide +kernel
end

section
/-! SUPPORT. What every meaning of the model keeps, one lemma for each function that leads to a state: the queue of waiting
commands is the one before it, and a canonical register space and memory stay canonical. A lemma has the name of its function and
stands in the model's order; its proof names the functions that the definition applies, in their order, with `.ite` at an `if`. -/
namespace Sys2Proof.Machine
set_option Elab.async false

/-- What every meaning keeps on its way from `s` to `t`: the queue of waiting commands, and the canonical form. -/
structure State.Keeps (s t : State) : Prop where
  pending : t.pending = s.pending
  canonical : s.Canonical → t.Canonical

/-- A command's answer is a next state, which keeps what every meaning keeps. -/
def State.Goes (s : State) (r : Result) : Prop := ∃ t, r = .next t ∧ s.Keeps t

/-- The state in the answer of an instruction's effect. -/
def ZOut.state : ZOut → State
  | .done s _ => s
  | .jump s _ => s
  | .again s _ => s
  | .raise s _ _ => s
  | .left s => s

/-- The state in the answer of a data access. -/
def MOut.state : MOut → State
  | .got s _ => s
  | .fault s _ _ => s
  | .far s => s

variable {s t : State} {a c k n p q : Nat} {v : Word} {w : Writer}

/-! ### How meanings are put together -/

theorem State.Keeps.refl (s : State) : s.Keeps s := ⟨rfl, id⟩

/-- A record update that leaves the queue alone and keeps the register space and the memory canonical; where it leaves these two
alone there is nothing more to show.  It is said field by field, so that it applies to every `{ t with … }` as it stands. -/
theorem State.Keeps.update
    {alarms now regs held heldNew heldAt bistRunning freeCtr mem eccSoft eccHard rdata timers cores axes phases comps
    evrLast evrArr evrSoft evrOld evrOldAt wakeLatch ssFromRun lanes learn tickAt tblWr tblSeal ssCauses stoForce brkWait
    windows ports rxs emus quads latches epochs epoch nsPhase auxOn auxAt beat clocked bulkOk lineGood lg stoIn mwdtSecond
    cwdLen dmaBuf dmaRd dramUntil flcQueue flcOp jUntil torn ffUnits flcHalf flcRst bootStage cryJob cryWriter cryStage
    cryTodo crySlot otpKeys settings rstWait mainsOn offHold dormAt fromShutdown aonFrac fabLatch bootAt calAt wakeAt
    lbist egress fabPorts sess farOps farTag fabSeq hostMac cycKey cycKeyNext cycBuf cycBufNo cycOld cycOldNo snapAt
    cycGot cycOpen cycAt heldCyc fabOfs syncSeen timeSet ofsBad dropNo attestWait dioExt padOut authDraw authSig authKey
    tapIr tapData tapStat tapWord boundary icuEdges expAt flcDone flcGoAt txHold cycBad ackWas rxWas}
    (h : s.Keeps t) (hr : Tab.wf regReset t.regs = true → Tab.wf regReset regs = true := by exact id)
    (hm : Memory.wf t.mem → Memory.wf mem := by exact id) :
    s.Keeps
      ⟨t.pending, alarms, now, regs, held, heldNew, heldAt, bistRunning, freeCtr, mem, eccSoft, eccHard, rdata, timers,
      cores, axes, phases, comps, evrLast, evrArr, evrSoft, evrOld, evrOldAt, wakeLatch, ssFromRun, lanes, learn, tickAt,
      tblWr, tblSeal, ssCauses, stoForce, brkWait, windows, ports, rxs, emus, quads, latches, epochs, epoch, nsPhase,
      auxOn, auxAt, beat, clocked, bulkOk, lineGood, lg, stoIn, mwdtSecond, cwdLen, dmaBuf, dmaRd, dramUntil, flcQueue,
      flcOp, jUntil, torn, ffUnits, flcHalf, flcRst, bootStage, cryJob, cryWriter, cryStage, cryTodo, crySlot, otpKeys,
      settings, rstWait, mainsOn, offHold, dormAt, fromShutdown, aonFrac, fabLatch, bootAt, calAt, wakeAt, lbist, egress,
      fabPorts, sess, farOps, farTag, fabSeq, hostMac, cycKey, cycKeyNext, cycBuf, cycBufNo, cycOld, cycOldNo, snapAt,
      cycGot, cycOpen, cycAt, heldCyc, fabOfs, syncSeen, timeSet, ofsBad, dropNo, attestWait, dioExt, padOut, authDraw,
      authSig, authKey, tapIr, tapData, tapStat, tapWord, boundary, icuEdges, expAt, flcDone, flcGoAt, txHold, cycBad,
      ackWas, rxWas⟩ :=
  ⟨h.pending, fun w => ⟨hr (h.canonical w).1, hm (h.canonical w).2⟩⟩

theorem State.Keeps.ofSnd {α : Type} {x y : α × State} (h : s.Keeps x.2) (e : x = y) : s.Keeps y.2 := e ▸ h

theorem State.Keeps.ofMem {x y : MOut} (h : s.Keeps x.state) (e : x = y) : s.Keeps y.state := e ▸ h

section
variable {b : Prop} [Decidable b]

theorem State.Keeps.ite {u : State} (h : s.Keeps t) (k : s.Keeps u) : s.Keeps (if b then t else u) := by
  split <;> assumption

theorem State.Keeps.iteId {g : State → State} (h : s.Keeps t) (k : s.Keeps (g t)) : s.Keeps ((if b then id else g) t) := by
  split <;> assumption

theorem State.Keeps.iteFst {α : Type} {x y : State × α} (h : s.Keeps x.1) (k : s.Keeps y.1) : s.Keeps (if b then x else y).1 := by
  split <;> assumption

theorem State.Keeps.iteSnd {α : Type} {x y : α × State} (h : s.Keeps x.2) (k : s.Keeps y.2) : s.Keeps (if b then x else y).2 := by
  split <;> assumption

theorem State.Keeps.iteTrd {α β : Type} {x y : α × β × State} (h : s.Keeps x.2.2) (k : s.Keeps y.2.2) :
    s.Keeps (if b then x else y).2.2 := by
  split <;> assumption

theorem State.Keeps.iteOut {x y : ZOut} (h : s.Keeps x.state) (k : s.Keeps y.state) : s.Keeps (if b then x else y).state := by
  split <;> assumption

theorem State.Keeps.iteMem {x y : MOut} (h : s.Keeps x.state) (k : s.Keeps y.state) : s.Keeps (if b then x else y).state := by
  split <;> assumption

theorem State.Goes.ite {x y : Result} (h : s.Goes x) (k : s.Goes y) : s.Goes (if b then x else y) := by
  split <;> assumption

end

theorem State.Keeps.foldl {α : Type} {g : State → α → State} {l : List α} (h : s.Keeps t)
    (k : ∀ u x, s.Keeps u → s.Keeps (g u x)) : s.Keeps (l.foldl g t) := by
  induction l generalizing t with
  | nil => exact h
  | cons x l ih => exact ih (k t x h)

theorem State.Keeps.foldlSnd {α β : Type} {g : β × State → α → β × State} {x : β × State} {l : List α} (h : s.Keeps x.2)
    (k : ∀ y z, s.Keeps y.2 → s.Keeps (g y z).2) : s.Keeps (l.foldl g x).2 := by
  induction l generalizing x with
  | nil => exact h
  | cons z l ih => exact ih (k x z h)

theorem State.Keeps.foldlFst {α β : Type} {g : State × β → α → State × β} {x : State × β} {l : List α} (h : s.Keeps x.1)
    (k : ∀ y z, s.Keeps y.1 → s.Keeps (g y z).1) : s.Keeps (l.foldl g x).1 := by
  induction l generalizing x with
  | nil => exact h
  | cons z l ih => exact ih (k x z h)

theorem State.Goes.ok (h : s.Keeps t) : s.Goes (ok t) := ⟨_, rfl, h.update⟩

/-! ### Registers, the event routing of a source and an interrupt request -/

theorem State.Keeps.setReg (h : s.Keeps t) : s.Keeps (t.setReg a v) := h.update (State.wf_setReg t a v)

theorem State.Keeps.wr {f : Fld} {v : Nat} (h : s.Keeps t) : s.Keeps (t.wr f v) := h.setReg

theorem State.Keeps.on {f : Fld} (h : s.Keeps t) : s.Keeps (t.on f) := h.wr

theorem State.Keeps.off0 {f : Fld} (h : s.Keeps t) : s.Keeps (t.off0 f) := h.wr

theorem State.Keeps.wrb {f : Fld} {b : Bool} (h : s.Keeps t) : s.Keeps (t.wrb f b) := h.wr

theorem State.Keeps.setBitAt {f : Fld} {i : Nat} {b : Bool} (h : s.Keeps t) : s.Keeps (t.setBitAt f i b) := h.wr

theorem State.Keeps.inc {f : Fld} (h : s.Keeps t) : s.Keeps (t.inc f) := .ite h.wr h

theorem State.Keeps.wrI {f : Fld} {v : Int} (h : s.Keeps t) : s.Keeps (t.wrI f v) := h.wr

theorem State.Keeps.upto {g : Nat → State → State} (h : s.Keeps t) (k : ∀ i u, s.Keeps u → s.Keeps (g i u)) :
    s.Keeps (t.upto n g) := h.foldl fun u i => k i u

theorem State.Keeps.setCore {x : Core} (h : s.Keeps t) : s.Keeps (t.setCore c x) := h.update

theorem State.Keeps.setSreg (h : s.Keeps t) : s.Keeps (t.setSreg c n v) := h.setCore

theorem State.Keeps.hold (h : s.Keeps t) : s.Keeps (t.hold a v) := h.update.setReg

theorem State.Keeps.setHeld (h : s.Keeps t) : s.Keeps (t.setHeld a v) := .ite h h.hold

theorem State.Keeps.heldTick (h : s.Keeps t) : s.Keeps t.heldTick := h.update

theorem State.Keeps.cancel {e : Instr} (h : s.Keeps t) : s.Keeps (t.cancel e) := h.update

theorem State.Keeps.after {e : Instr} (h : s.Keeps t) : s.Keeps (t.after n e) := h.cancel.update

theorem State.Keeps.fresh (h : s.Keeps t) : s.Keeps t.fresh.2 := h.update

theorem State.Keeps.noteEdge {src : Nat} (h : s.Keeps t) : s.Keeps (t.noteEdge c src) := h.update

theorem State.Keeps.latchPend {src : Nat} (h : s.Keeps t) : s.Keeps (t.latchPend c src) := .ite h.noteEdge.inc h.noteEdge.on

theorem State.Keeps.groupFire {g : Nat} (h : s.Keeps t) : s.Keeps (t.groupFire c g) := h.latchPend.wr.off0.cancel

theorem State.Keeps.groupTimer {g : Nat} (h : s.Keeps t) : s.Keeps (t.groupTimer c g) := .ite h h.on.after

theorem State.Keeps.groupCount {g : Nat} (h : s.Keeps t) : s.Keeps (t.groupCount c g) :=
  have h2 := Keeps.ite h.wr.groupTimer h.wr
  .ite h2.groupFire h2

theorem State.Keeps.edge {src : Nat} (h : s.Keeps t) : s.Keeps (t.edge c src) :=
  .ite (.ite h.latchPend.groupCount h.latchPend) h

theorem State.Keeps.irq {src : Nat} (h : s.Keeps t) : s.Keeps (t.irq src) := h.upto (fun _ _ k => k.edge)

theorem State.Keeps.irqS {src : Nat} (h : s.Keeps t) : s.Keeps (t.irqS src) := h.edge

theorem State.Keeps.spViol {addr : Nat} (h : s.Keeps t) : s.Keeps (t.spViol w addr) := h.inc.wr.wr.irqS

theorem State.Keeps.plainWrite (h : s.Keeps t) : s.Keeps (t.plainWrite w a v) := .ite h.setReg.spViol h.setReg

theorem State.Keeps.rise {flag ien : Fld} {src : Nat} (h : s.Keeps t) : s.Keeps (t.rise flag ien k src) :=
  .ite h (.ite h.on.irq h.on)

/-! ### The memory -/

theorem State.Keeps.setByte {b : Byte} (h : s.Keeps t) : s.Keeps (t.setByte a b) := h.update id (Memory.wf_setByte t a b)

theorem State.Keeps.setBytes {l : List Byte} (h : s.Keeps t) : s.Keeps (t.setBytes a l) := by
  induction l generalizing t a with
  | nil => exact h
  | cons b l ih => exact ih h.setByte

theorem State.Keeps.tblFlag (h : s.Keeps t) : s.Keeps (t.tblFlag a k) := .ite h (.ite h.on.irq h.on)

theorem State.Keeps.eccNote {u : Nat} {hard : Bool} (h : s.Keeps t) : s.Keeps (t.eccNote u hard) :=
  .ite h.tblFlag (.ite (.ite h.on.irqS h) (.ite (.ite h.wr.on.inc h.wr.on.inc) (.ite h.wr.wr.on.inc.irqS h.wr.wr.on.inc)))

theorem State.Keeps.eccRead (h : s.Keeps t) : s.Keeps (t.eccRead a n).2 :=
  h.foldl fun _ _ k => .ite k.eccNote (.ite k.eccNote (.ite k.update.eccNote k))

theorem State.Keeps.eccWrite (h : s.Keeps t) : s.Keeps (t.eccWrite a n) := h.update

/-! ### Banks of the servo parameters -/

theorem State.Keeps.setAxis {x : Axis} (h : s.Keeps t) : s.Keeps (t.setAxis a x) := h.update

theorem State.Keeps.leIrq (h : s.Keeps t) : s.Keeps (t.leIrq q) := h.irq

theorem State.Keeps.leFlag (h : s.Keeps t) : s.Keeps (t.leFlag a k) := .ite h (.ite h.on.leIrq h.on)

theorem State.Keeps.leLevel {b : Bool} (h : s.Keeps t) : s.Keeps (t.leLevel a k b) := .ite h.leFlag h.off0

theorem State.Keeps.showLoad (h : s.Keeps t) : s.Keeps (t.showLoad q) := h.wr.wr

theorem State.Keeps.commitRefuse {cause : Nat} (h : s.Keeps t) : s.Keeps (t.commitRefuse a cause) := h.off0.setBitAt.on.wr.irq

theorem State.Keeps.commitAxis {cause : Nat} (h : s.Keeps t) : s.Keeps (t.commitAxis a cause) :=
  .ite (.ite h ((Keeps.ite h.off0.wr h).on.setBitAt.setAxis)) h.commitRefuse.setAxis

theorem State.Keeps.commitRequest {mask : Nat} (h : s.Keeps t) : s.Keeps (t.commitRequest mask) :=
  h.foldl fun _ _ k => .ite k.commitAxis k

theorem State.Keeps.commitTask (h : s.Keeps t) : s.Keeps t.commitTask := .ite h.commitRequest h

theorem State.Keeps.copyBank (h : s.Keeps t) : s.Keeps (t.copyBank a) := h.foldl fun _ _ k => .ite k.setReg k

/-! ### Timer operations -/

theorem State.Keeps.setTmr {j : Nat} {x : Timer} (h : s.Keeps t) : s.Keeps (t.setTmr j x) := h.update

theorem State.Keeps.cmpRange {j : Nat} (h : s.Keeps t) : s.Keeps (t.cmpRange j) := .ite h.wr.irq h.wr

theorem State.Keeps.tmrStart {mask : Nat} (h : s.Keeps t) : s.Keeps (t.tmrStart mask) :=
  h.upto (fun _ _ k => .ite k.setBitAt.setTmr k)

theorem State.Keeps.tmrStop {mask : Nat} (h : s.Keeps t) : s.Keeps (t.tmrStop mask) :=
  h.upto (fun _ _ k => .ite k.setBitAt.setTmr k)

theorem State.Keeps.gstartTask (h : s.Keeps t) : s.Keeps t.gstartTask := .ite h.tmrStart h

theorem State.Keeps.setCapQ {j : Nat} {q : List Word} (h : s.Keeps t) : s.Keeps (t.setCapQ j k q) := h.setTmr.wr.wrb

theorem State.Keeps.capLost {j : Nat} (h : s.Keeps t) : s.Keeps (t.capLost j k) := h.inc.rise

theorem State.Keeps.setLost {j : Nat} {v : Option Word} (h : s.Keeps t) : s.Keeps (t.setLost j k v) := h.setTmr

theorem State.Keeps.capture {j : Nat} (h : s.Keeps t) : s.Keeps (t.capture j k) :=
  .ite h (.ite (.ite (.ite h.setCapQ.setTmr.irq h.setCapQ.setTmr) h.setCapQ) (.ite h.setLost h.capLost))

theorem State.Keeps.capSettle (h : s.Keeps t) : s.Keeps t.capSettle := h.upto (fun _ _ k => .ite k.setLost.capLost k)

theorem State.Keeps.capRead {r : Writer} {j : Nat} (h : s.Keeps t) : s.Keeps (t.capRead r j k).2 :=
  .iteSnd (.ite h.off0 h) (.ite h.setLost.setCapQ.wrb h)

theorem State.Keeps.tmrCountWrite {j : Nat} (h : s.Keeps t) : s.Keeps (t.tmrCountWrite j v) := .ite h.rise h.setReg

theorem State.Keeps.tmrReloadWrite {j : Nat} (h : s.Keeps t) : s.Keeps (t.tmrReloadWrite j v) :=
  (Keeps.ite h.setTmr h.setTmr).setReg.cmpRange

theorem State.Keeps.tmrCtlWrite {j : Nat} (h : s.Keeps t) : s.Keeps (t.tmrCtlWrite w j v) :=
  (Keeps.ite h (.ite h.setTmr h.setTmr)).plainWrite.cmpRange

theorem State.Keeps.tmrCmpWrite {j : Nat} (h : s.Keeps t) : s.Keeps (t.tmrCmpWrite j k v) := h.setReg.cmpRange

theorem State.Keeps.tmrStopAll (h : s.Keeps t) : s.Keeps t.tmrStopAll := h.tmrStop

/-! ### The event router -/

theorem State.Keeps.dioFollow (h : s.Keeps t) : s.Keeps (t.dioFollow k) := .ite h.cancel h.after

theorem State.Keeps.dioFollowAll (h : s.Keeps t) : s.Keeps t.dioFollowAll := h.upto (fun _ _ k => k.dioFollow)

theorem State.Keeps.evrNote (h : s.Keeps t) : s.Keeps (t.evrNote a) := h.update

theorem State.Keeps.noteArrival {j : Nat} (h : s.Keeps t) : s.Keeps (t.noteArrival j) := h.update

theorem State.Keeps.arrive {win j : Nat} {act : State → State} (h : s.Keeps t) (k : ∀ u, s.Keeps u → s.Keeps (act u)) :
    s.Keeps (t.arrive j win act) := .ite h.inc (k _ h.noteArrival)

theorem State.Keeps.wakeSet {ch : Nat} (h : s.Keeps t) : s.Keeps (t.wakeSet ch) := by
  unfold State.wakeSet
  split
  · exact h
  · exact h.update

theorem State.Keeps.groupTask {g : Nat} {gen : Bool} (h : s.Keeps t) : s.Keeps (t.groupTask g gen) :=
  .ite h (.ite (h.arrive (fun _ k => .ite k k.evrNote.setBitAt)) (h.arrive (fun _ k => k.evrNote.setBitAt)))

theorem State.Keeps.dioTask {act : Nat} (h : s.Keeps t) : s.Keeps (t.dioTask k act) := by
  refine .ite h ?_
  dsimp only
  split
  · exact (Keeps.ite h.inc h).arrive (fun _ k => .ite k k.setBitAt.dioFollow)
  · exact (Keeps.ite h.inc h).arrive (fun _ k => k.setBitAt.dioFollow)
  · exact .ite h.inc (h.arrive (fun _ k => k.setBitAt.dioFollow))
  · exact h

theorem State.Keeps.dioActions (h : s.Keeps t) : s.Keeps t.dioActions :=
  h.upto (fun _ _ k => .ite k (.ite k.setBitAt (.ite k.setBitAt (.ite k.setBitAt k))))

theorem State.Keeps.evrDeliver {ch : Nat} (h : s.Keeps t) : s.Keeps (t.evrDeliver ch) :=
  have h := Keeps.ite h (h.upto (fun _ _ k => .ite k.edge k))
  have h := Keeps.ite h.wakeSet h
  have h := Keeps.ite (h.arrive (fun _ k => k.gstartTask)) h
  have h := Keeps.ite (h.arrive (fun _ k => k.commitTask)) h
  have h := Keeps.ite h.groupTask h
  have h := Keeps.ite h.groupTask h
  have h := Keeps.ite (h.arrive (fun _ k => k.capture)) h
  .ite h.dioTask h

theorem State.Keeps.evrFireCh {ch : Nat} (h : s.Keeps t) : s.Keeps (t.evrFireCh ch) :=
  .ite h (.ite h.inc (.ite h.on.irq ((Keeps.ite h.wr.after h.wr).update.evrDeliver)))

theorem State.Keeps.fire {ch inp : Nat} (h : s.Keeps t) : s.Keeps (t.fire ch inp) := .ite h.evrFireCh h

theorem State.Keeps.evrFireWrite {hi : Bool} (h : s.Keeps t) : s.Keeps (t.evrFireWrite hi v) := h.update

theorem State.Keeps.softFire (h : s.Keeps t) : s.Keeps t.softFire :=
  .ite h (h.update.upto (fun _ _ k => .ite k (.ite k.on (.ite k.on.evrFireCh k.evrFireCh))))

theorem State.Keeps.evrStatWrite {ch : Nat} (h : s.Keeps t) : s.Keeps (t.evrStatWrite w ch v) :=
  .ite h.plainWrite.wr h.plainWrite

theorem State.Keeps.evrCfgWrite {ch : Nat} (h : s.Keeps t) : s.Keeps (t.evrCfgWrite w ch v) :=
  .ite h <|
    have h2 := Keeps.ite h.evrNote.plainWrite.wr h.evrNote.plainWrite
    .ite h2.on h2

theorem State.Keeps.evrSrcWrite {ch : Nat} (h : s.Keeps t) : s.Keeps (t.evrSrcWrite ch v) := .ite h h.evrNote.wr

theorem State.Keeps.evrLinkWrite {ch : Nat} (h : s.Keeps t) : s.Keeps (t.evrLinkWrite ch v) := .ite h h.evrNote.wr

theorem State.Keeps.evrGrpWrite {f : Fld} (h : s.Keeps t) : s.Keeps (t.evrGrpWrite f v) :=
  h.evrNote.upto (fun _ _ k => .ite k k.setBitAt)

theorem State.Keeps.grpEnWrite (h : s.Keeps t) : s.Keeps (t.grpEnWrite v) :=
  h.evrGrpWrite.upto (fun _ _ k => .ite k (.ite k.setBitAt (.ite k.setBitAt k)))

theorem State.Keeps.evrWindow (h : s.Keeps t) : s.Keeps t.evrWindow := h.upto (fun _ _ k => .ite k.wr k)

theorem State.Keeps.dioEdge {b : Bool} (h : s.Keeps t) : s.Keeps (t.dioEdge k b) := .ite h h.setBitAt.fire

theorem State.Keeps.setReady {b : Bool} (h : s.Keeps t) : s.Keeps (t.setReady k b) := .ite h h.wrb.on.irq.fire

/-! ### Comparator operations -/

theorem State.Keeps.setComp {x : Comp} (h : s.Keeps t) : s.Keeps (t.setComp n x) := h.update

theorem State.Keeps.lvlFall (h : s.Keeps t) : s.Keeps (t.lvlFall a) := .ite h.setAxis h

theorem State.Keeps.blankStart (h : s.Keeps t) : s.Keeps (t.blankStart n) := .ite h h.setComp.after

theorem State.Keeps.blankIf {b : Nat} (h : s.Keeps t) : s.Keeps (t.blankIf b n) := .ite h.blankStart h

theorem State.Keeps.blankCarrier {b : Nat} (h : s.Keeps t) : s.Keeps (t.blankCarrier q b) :=
  (h.foldl fun _ _ k => k.blankIf).upto (fun _ _ k => k.lvlFall)

theorem State.Keeps.gateEdge (h : s.Keeps t) : s.Keeps (t.gateEdge a) :=
  .ite (h.foldl fun _ _ k => .ite k.setComp k) (h.blankIf.blankIf.blankIf.upto (fun _ _ k => k.lvlFall))

theorem State.Keeps.blankTimer {j : Nat} (h : s.Keeps t) : s.Keeps (t.blankTimer j) :=
  (h.upto (fun _ _ k => .ite k.blankIf k)).upto (fun _ _ k => k.lvlFall)

/-! ### PWM operations -/

theorem State.Keeps.setPhase {x : Phase} (h : s.Keeps t) : s.Keeps (t.setPhase a p x) := h.update

theorem State.Keeps.undrop (h : s.Keeps t) : s.Keeps (t.undrop a p) := h.setPhase

theorem State.Keeps.setGate {g : Gate} (h : s.Keeps t) : s.Keeps (t.setGate a p g) :=
  .ite h (.ite h.setPhase.gateEdge h.setPhase)

theorem State.Keeps.turn {hi : Bool} (h : s.Keeps t) : s.Keeps (t.turn a p hi) := by
  unfold State.turn
  dsimp only
  split
  · exact .ite h (.ite h.setGate h.setGate.after)
  · exact .ite (.ite h.setGate h.setGate.after) h
  · exact .ite h (.ite h.setGate h.setGate.after)
  · exact h.setGate
  · exact h.setGate

theorem State.Keeps.tripPhase (h : s.Keeps t) : s.Keeps (t.tripPhase a p) := by
  refine .ite ?_ h.undrop.setGate.cancel
  split
  · exact h.undrop
  · exact h.undrop
  · exact h.undrop.turn
  · exact h.undrop.setGate.cancel

theorem State.Keeps.allOff (h : s.Keeps t) : s.Keeps (t.allOff a) := h.upto (fun _ _ k => k.undrop.setGate.cancel)

theorem State.Keeps.holdLook (h : s.Keeps t) : s.Keeps (t.holdLook a) := .ite h.leLevel h

theorem State.Keeps.drive (h : s.Keeps t) : s.Keeps (t.drive a) :=
  .ite h.holdLook.allOff (.ite (h.holdLook.upto (fun _ _ k => k.tripPhase))
    (h.holdLook.upto (fun _ _ k => .ite k k.undrop.turn)))

theorem State.Keeps.pwmIrq (h : s.Keeps t) : s.Keeps (t.pwmIrq q) := h.irq

theorem State.Keeps.pwmRefuse (h : s.Keeps t) : s.Keeps (t.pwmRefuse q) := .ite h h.on.pwmIrq

theorem State.Keeps.pwmFlag {f : Fld} (h : s.Keeps t) : s.Keeps (t.pwmFlag a f) := .ite h h.on.pwmIrq

theorem State.Keeps.intClear (h : s.Keeps t) : s.Keeps (t.intClear a) := h.setAxis.setReg.setReg.setReg

theorem State.Keeps.loopClear (h : s.Keeps t) : s.Keeps (t.loopClear a) := h.intClear.setAxis.setReg

theorem State.Keeps.tripEdge (h : s.Keeps t) : s.Keeps (t.tripEdge a) :=
  (Keeps.ite h h.loopClear).setAxis.drive.on.inc.pwmIrq.fire.fire

theorem State.Keeps.tripLook (h : s.Keeps t) : s.Keeps (t.tripLook a) := .ite h.tripEdge (.ite h.setAxis h)

theorem State.Keeps.tripLookAll (h : s.Keeps t) : s.Keeps t.tripLookAll := h.upto (fun _ _ k => k.tripLook)

theorem State.Keeps.driveAll (h : s.Keeps t) : s.Keeps t.driveAll := h.upto (fun _ _ k => (Keeps.ite k k.setAxis).drive)

theorem State.Keeps.carrierStop (h : s.Keeps t) : s.Keeps (t.carrierStop q) := h.off0.upto (fun _ _ k => k.setAxis.drive)

theorem State.Keeps.leaveRun (h : s.Keeps t) : s.Keeps t.leaveRun :=
  h.upto (fun _ _ k => k.upto (fun _ _ k => .ite k.inc.after (.ite k.undrop.turn.cancel k)))

/-! ### Comparators -/

theorem State.Keeps.compFlags {bits : List Nat} (h : s.Keeps t) : s.Keeps (t.compFlags n bits) :=
  have h1 := h.foldl fun _ _ k => k.on
  .ite h1.irq h1

theorem State.Keeps.compLook (h : s.Keeps t) : s.Keeps (t.compLook n) :=
  .ite h.tripLook (.ite (h.upto (fun _ _ k => k.tripLook)) h.tripLookAll)

theorem State.Keeps.compLatch (h : s.Keeps t) : s.Keeps (t.compLatch n) := h.setComp.compFlags.irqS.fire

theorem State.Keeps.compFlag (h : s.Keeps t) : s.Keeps (t.compFlag n) :=
  .ite h <|
    have h2 := Keeps.ite h.setComp.inc h.setComp
    have h3 := Keeps.ite h2.inc h2
    have h5 := Keeps.ite h3.compFlags h3.compFlags.off0
    have h6 := Keeps.ite h5.fire h5
    .ite h6.fire h6

theorem State.Keeps.compAct (h : s.Keeps t) : s.Keeps (t.compAct n) := (Keeps.ite h.compLatch h).compLook

theorem State.Keeps.compEval (h : s.Keeps t) : s.Keeps (t.compEval n) := h.compAct.compFlag

theorem State.Keeps.compSample {phase : Nat} (h : s.Keeps t) : s.Keeps (t.compSample phase n) :=
  .ite (.ite h (.ite h.setComp h.setComp.compEval)) (.ite h h.setComp.compEval)

theorem State.Keeps.compCycle {phase : Nat} (h : s.Keeps t) : s.Keeps (t.compCycle phase) := by
  refine .ite h (h.foldl fun _ _ k => ?_)
  dsimp only
  split
  · exact .ite k.compSample.setComp.blankStart.compLook k.compSample
  · exact k.compSample

theorem State.Keeps.compClear (h : s.Keeps t) : s.Keeps (t.compClear n) := .ite h (.ite h.compFlags h.setComp.off0.compLook)

theorem State.Keeps.compPeriod (h : s.Keeps t) : s.Keeps (t.compPeriod n) := .ite h.compClear h

theorem State.Keeps.compClearBy {set : Bool} (h : s.Keeps t) : s.Keeps (t.compClearBy w n set) :=
  .ite (.ite h.compFlags h) h.compClear

theorem State.Keeps.compStatWrite (h : s.Keeps t) : s.Keeps (t.compStatWrite w n v) :=
  .ite h.plainWrite.compClearBy h.plainWrite

theorem State.Keeps.compClrAll (h : s.Keeps t) : s.Keeps (t.compClrAll w v) := .ite (h.upto (fun _ _ k => k.compClearBy)) h

theorem State.Keeps.compThrWrite (h : s.Keeps t) : s.Keeps (t.compThrWrite n v) := .ite h.setHeld h.compFlags

theorem State.Keeps.compCfgWrite (h : s.Keeps t) : s.Keeps (t.compCfgWrite n v) := .ite h.setHeld.compFlags h.setHeld

theorem State.Keeps.compRouteWrite {m : Nat} (h : s.Keeps t) : s.Keeps (t.compRouteWrite m v) := h.setHeld

theorem State.Keeps.compShow (h : s.Keeps t) : s.Keeps (t.compShow n) := .ite (.ite h h.compLatch) h.off0

theorem State.Keeps.compMove (h : s.Keeps t) : s.Keeps t.compMove := by
  refine h.upto (fun _ _ k => ?_)
  dsimp only
  split
  · exact k
  · exact .ite k (.ite k.setComp (.ite k.setComp k))

theorem State.Keeps.compTick (h : s.Keeps t) : s.Keeps t.compTick :=
  h.upto fun _ _ k =>
    have h2 := Keeps.ite k.compShow.compFlags k.compShow.off0
    (Keeps.ite h2.compPeriod h2).compEval

theorem State.Keeps.execCmpCrossing {n : Fin 58} {above below : Bool} (h : s.Keeps t) :
    s.Goes (execCmpCrossing n above below t) :=
  .ite (.ok h) (.ite (.ok h.setComp) (.ok h.setComp.compEval))

theorem State.Keeps.execCmpBlankingEnd {n : Fin 58} (h : s.Keeps t) : s.Goes (execCmpBlankingEnd n t) :=
  .ite (.ok h.setComp.cancel.compEval) (.ok h)

theorem State.Keeps.execCmpSampleWindow {m : Fin 4} {above below : Bool} (h : s.Keeps t) :
    s.Goes (execCmpSampleWindow m above below t) :=
  .ite (.ok h) (.ok h.setComp.compEval)

/-! ### PWM -/

theorem State.Keeps.dutyLoad (h : s.Keeps t) : s.Keeps (t.dutyLoad q) :=
  h.upto (fun _ _ k => .ite (have h1 := k.upto (fun _ _ k => k.setPhase); .ite h1.setAxis h1.off0.setAxis) k)

theorem State.Keeps.armDuties {u v w : Nat} (h : s.Keeps t) : s.Keeps (t.armDuties a u v w) :=
  (Keeps.ite h.wr.wr.wr.pwmFlag h.wr.wr.wr).on.setAxis

theorem State.Keeps.bootValley (h : s.Keeps t) : s.Keeps (t.bootValley a p) := h.setPhase

theorem State.Keeps.bootPeak (h : s.Keeps t) : s.Keeps (t.bootPeak a p) := .ite h.setPhase (.ite h.setPhase.after h.setPhase)

theorem State.Keeps.uvloRelease (h : s.Keeps t) : s.Keeps (t.uvloRelease a p) := .ite h.setPhase h

theorem State.Keeps.axisValley (h : s.Keeps t) : s.Keeps (t.axisValley a) := by
  unfold State.axisValley
  extract_lets s1 oen x x1
  have h1 : s.Keeps s1 := h.upto fun _ _ k => k.bootValley.uvloRelease
  exact .ite h1.setAxis.drive (.ite h1.setAxis.drive h1.setAxis)

theorem State.Keeps.pulseStart {e : Nat} (h : s.Keeps t) : s.Keeps (t.pulseStart a p e) := .ite h.setPhase h.setPhase.inc

theorem State.Keeps.openHigh (h : s.Keeps t) : s.Keeps (t.openHigh a p) := by
  refine .ite h.setPhase ?_
  split
  · exact h.setPhase.inc
  · exact h.pulseStart.turn

theorem State.Keeps.openLow (h : s.Keeps t) : s.Keeps (t.openLow a p) := by
  refine .ite h.setPhase (.ite h.pulseStart.turn ?_)
  split
  · exact h.setPhase.inc
  · exact h.pulseStart.turn

theorem State.Keeps.windowEdge (h : s.Keeps t) : s.Keeps (t.windowEdge a p) :=
  .ite h (.ite h.undrop.turn (.ite h.undrop.turn (.ite h.openLow h.openHigh)))

theorem State.Keeps.edgeDue (h : s.Keeps t) : s.Keeps (t.edgeDue a p) := h.after

theorem State.Keeps.edgeLook (h : s.Keeps t) : s.Keeps (t.edgeLook a p) := .ite h (.ite h.edgeDue h)

theorem State.Keeps.edgeTurn (h : s.Keeps t) : s.Keeps (t.edgeTurn a p) := .ite h (.ite (.ite h.openHigh h.openLow) h.edgeDue)

theorem State.Keeps.edgeTurns (h : s.Keeps t) : s.Keeps (t.edgeTurns q) := h.upto (fun _ _ k => k.edgeTurn)

theorem State.Keeps.execCarrierValley {q : Fin 6} (h : s.Keeps t) : s.Goes (execCarrierValley q t) :=
  .ite (.ok h.cancel) <|
    have h3 := h.cancel.wr.wr.blankCarrier.foldl fun _ _ k => k.compPeriod
    .ok (((Keeps.ite h3.fire.dutyLoad h3.fire).upto (fun _ _ k => k.axisValley)).edgeTurns)

theorem State.Keeps.execCarrierPeak {q : Fin 6} (h : s.Keeps t) : s.Goes (execCarrierPeak q t) :=
  .ite (.ok h.cancel) (.ok (((Keeps.ite h.cancel.wr.wr.blankCarrier.fire.dutyLoad h.cancel.wr.wr.blankCarrier.fire).upto
    (fun _ _ k => k.bootPeak)).edgeTurns))

theorem State.Keeps.execPwmWindowEdge {a : Fin 24} {ph : Fin 3} (h : s.Keeps t) : s.Goes (execPwmWindowEdge a ph t) :=
  .ok h.cancel.windowEdge

theorem State.Keeps.execPwmDeadTimeEnd {a : Fin 24} {ph : Fin 3} (h : s.Keeps t) : s.Goes (execPwmDeadTimeEnd a ph t) := by
  unfold Sys2Proof.Machine.execPwmDeadTimeEnd
  dsimp only
  split
  · exact .ok h.cancel.setGate
  · exact .ok h.cancel

theorem State.Keeps.execBootstrapRefresh {a : Fin 24} {ph : Fin 3} (h : s.Keeps t) : s.Goes (execBootstrapRefresh a ph t) :=
  .ite (.ok h.cancel.setPhase.inc) (.ok h.cancel)

theorem State.Keeps.execBootstrapUvlo {a : Fin 24} {ph : Fin 3} (h : s.Keeps t) : s.Goes (execBootstrapUvlo a ph t) := by
  refine .ite (.ok h) ?_
  extract_lets x s1 s2
  have h2 : s.Keeps s2 := by
    unfold s2
    split
    · exact h.setPhase.undrop.turn
    · exact h.setPhase.undrop.turn
    · exact h.setPhase
  exact .ok h2.on.pwmIrq

theorem State.Keeps.execAxisTrip {a : Fin 24} {inp : Fin 6} (h : s.Keeps t) : s.Goes (execAxisTrip a inp t) :=
  .ok (Keeps.ite h.setBitAt h).tripLook

theorem State.Keeps.dutyStage {d : Nat} (h : s.Keeps t) : s.Keeps (t.dutyStage a p d) :=
  have h0 := Keeps.ite h h.setPhase
  .ite h0.wr (.ite h0.wr ((Keeps.ite h0.wr.pwmFlag h0.wr).on.setAxis))

theorem State.Keeps.dutyWrite (h : s.Keeps t) : s.Keeps (t.dutyWrite a p v) := .ite h (.ite (.ite h h.pwmFlag) h.dutyStage)

theorem State.Keeps.oenWrite {v : Bool} (h : s.Keeps t) : s.Keeps (t.oenWrite a v) :=
  .ite h (.ite (.ite h.wrb h.wrb.setAxis.drive) h.pwmRefuse)

theorem State.Keeps.dsrcWrite {v : Bool} (h : s.Keeps t) : s.Keeps (t.dsrcWrite a v) := .ite h (.ite h.setHeld h.pwmRefuse)

theorem State.Keeps.tripstWrite {codes : Nat} (h : s.Keeps t) : s.Keeps (t.tripstWrite a codes) :=
  .ite h <|
    .ite (have h2 := Keeps.ite h.wr.pwmFlag h.wr; have h3 := Keeps.ite h2.pwmFlag h2.off0; .ite h3.drive h3) h.pwmRefuse

theorem State.Keeps.axCtlWrite (h : s.Keeps t) : s.Keeps (t.axCtlWrite a v) := h.oenWrite.dsrcWrite.tripstWrite

theorem State.Keeps.quadCfgWrite {addr : Nat} (h : s.Keeps t) : s.Keeps (t.quadCfgWrite q addr v) :=
  .ite (.ite h.setHeld h.setHeld.pwmRefuse) (.ite h h.pwmRefuse)

theorem State.Keeps.swtripWrite (h : s.Keeps t) : s.Keeps (t.swtripWrite q v) := h.wr.upto (fun _ _ k => k.tripLook)

theorem State.Keeps.swtripSet (h : s.Keeps t) : s.Keeps (t.swtripSet a) := h.setBitAt.tripLook

theorem State.Keeps.gateenWrite (h : s.Keeps t) : s.Keeps (t.gateenWrite v) := h.wr.driveAll

theorem State.Keeps.quadCheck {f : Fld} {bad : Bool} (h : s.Keeps t) : s.Keeps (t.quadCheck q f bad) :=
  .ite (.ite h h.on.pwmIrq) h.off0

theorem State.Keeps.carrierTick (h : s.Keeps t) : s.Keeps (t.carrierTick q) :=
  .ite (.ite h.quadCheck.setBitAt.quadCheck h.quadCheck.setBitAt.quadCheck.on.wr.wrb)
    (.ite h.quadCheck.setBitAt.quadCheck.carrierStop h.quadCheck.setBitAt.quadCheck)

/-! ### The servo lanes -/

theorem State.Keeps.setLane {x : Lane} (h : s.Keeps t) : s.Keeps (t.setLane q x) := h.update

theorem State.Keeps.leFlags {l : List Nat} (h : s.Keeps t) : s.Keeps (t.leFlags a l) := h.foldl fun _ _ k => k.leFlag

theorem State.Keeps.show {addr : Nat} {v : Int} (h : s.Keeps t) : s.Keeps (t.show addr v) := h.setReg

theorem State.Keeps.laneOverrun (h : s.Keeps t) : s.Keeps (t.laneOverrun q k) := h.on.on.inc.leIrq.fire.fire

theorem State.Keeps.entry {friction : Bool} (h : s.Keeps t) : s.Keeps (t.entry a friction k).2 := h.eccRead

theorem State.Keeps.cogging {p : Int} (h : s.Keeps t) : s.Keeps (t.cogging a p).2.2 := h.entry.entry

theorem State.Keeps.feedbackLoss (h : s.Keeps t) : s.Keeps (t.feedbackLoss a) := h.leFlag.swtripSet

theorem State.Keeps.speedLost (h : s.Keeps t) : s.Keeps (t.speedLost a) := h.setAxis.setReg.setReg

theorem State.Keeps.axisPass {second : Bool} (h : s.Keeps t) : s.Keeps (t.axisPass a second) :=
  .ite h.leLevel.leLevel.setAxis <|
    have h1 := Keeps.ite h.leLevel.leLevel.setAxis.feedbackLoss h.leLevel.leLevel.setAxis
    have h2 := Keeps.ite h1.speedLost h1
    have h3 := Keeps.ite h2 h2.intClear
    have h5 := (Keeps.iteTrd h3.cogging h3).setAxis
    have h9 := Keeps.ite h5.show.show.show.show.show.show.show.show.wr.show h5.show.show.show.show.show.show.show.show.wr
    .ite h9.leFlags.armDuties h9.leFlags

theorem State.Keeps.learnStep {sidx : Nat} {rec : List Byte} (h : s.Keeps t) : s.Keeps (t.learnStep a sidx rec) :=
  .ite h (.ite h.update (.ite h.update.after h.update.inc))

theorem State.Keeps.outerCompute {sidx : Nat} (h : s.Keeps t) : s.Keeps (t.outerCompute q sidx).2 := h.update

theorem State.Keeps.outerApply {sidx : Nat} {r : OuterRes} (h : s.Keeps t) : s.Keeps (t.outerApply sidx r).2 :=
  have h3 := (h.setAxis.foldl fun _ _ k => .ite k k.setReg).leFlags.foldl fun _ _ k => k.tblFlag
  have h4 := Keeps.ite h3 h3.swtripSet
  .ite h4.learnStep h4

theorem State.Keeps.outerEnd {sidx : Nat} {l : List OuterRes} (h : s.Keeps t) : s.Keeps (t.outerEnd sidx l).2 :=
  h.foldlSnd fun _ _ k => k.outerApply

theorem State.Keeps.passLate (h : s.Keeps t) : s.Keeps (t.passLate q) := by
  unfold State.passLate
  split
  · exact h
  · exact (h.upto (fun _ _ k => .ite k.leFlag k)).laneOverrun

theorem State.Keeps.passBegin (h : s.Keeps t) : s.Keeps (t.passBegin q) := h.passLate.setLane.after

theorem State.Keeps.loopInit (h : s.Keeps t) : s.Keeps (t.loopInit a) := by
  refine Keeps.loopClear ?_
  split
  · exact h.setAxis.setLane
  · exact h.setAxis

theorem State.Keeps.thetaInit (h : s.Keeps t) : s.Keeps (t.thetaInit a) := h.setAxis

theorem State.Keeps.loopInitAll (h : s.Keeps t) : s.Keeps t.loopInitAll := h.upto (fun _ _ k => k.loopInit)

theorem State.Keeps.laneTick (h : s.Keeps t) : s.Keeps (t.laneTick q) :=
  .ite ((h.showLoad.wrb.wrb.wrb.wrb.wrb.setBitAt.wrb.setLane.upto (fun _ _ k => k.loopInit)).upto (fun _ _ k => k.holdLook))
    (.ite h.showLoad.wrb.wrb.wrb.wrb.wrb.setBitAt.wrb.setLane.cancel h.showLoad.wrb.wrb.wrb.wrb.wrb.setBitAt.wrb)

theorem State.Keeps.readyLe (h : s.Keeps t) : s.Keeps t.readyLe := h.setReady

theorem State.Keeps.lanesStop (h : s.Keeps t) : s.Keeps t.lanesStop := (h.upto (fun _ _ k => k.setBitAt.off0.setLane)).setReady

theorem State.Keeps.learnPut (h : s.Keeps t) : s.Keeps t.learnPut := .ite h h.setBytes.eccWrite.update.inc.cancel

theorem State.Keeps.learnEnd (h : s.Keeps t) : s.Keeps t.learnEnd := h.leIrq.fire

theorem State.Keeps.learnWrite (h : s.Keeps t) : s.Keeps t.learnWrite := .ite h.learnPut.off0.on.learnEnd h.learnPut

theorem State.Keeps.learnAbort (h : s.Keeps t) : s.Keeps t.learnAbort :=
  .ite h.learnWrite (.ite h.learnPut.off0.off0.on.learnEnd h)

theorem State.Keeps.learnTick (h : s.Keeps t) : s.Keeps t.learnTick := .ite h.off0.on.update h

theorem State.Keeps.swapInit {u : State} (h : s.Keeps t) : s.Keeps (t.swapInit u a) := h.setAxis

theorem State.Keeps.bankSwap (h : s.Keeps t) : s.Keeps (t.bankSwap a n) := by
  unfold State.bankSwap
  extract_lets s1 s2 x s3 s4
  have h2 : s.Keeps s2 := h.wr.off0.setBitAt.swapInit
  have h4 : s.Keeps s4 := h2.setAxis.after
  exact .ite h4.learnAbort h4

theorem State.Keeps.swapAll (h : s.Keeps t) : s.Keeps t.swapAll :=
  h.upto fun _ _ k =>
    have ht2 := (k.foldl fun _ _ k => .ite k k.commitRefuse).foldlFst fun _ _ k => k.bankSwap
    .ite ht2 ht2.fire.showLoad

theorem State.Keeps.untrained (h : s.Keeps t) : s.Keeps (t.untrained a) := h.wrb.wrb

theorem State.Keeps.copyDone (h : s.Keeps t) : s.Keeps (t.copyDone a) := h.copyBank.setAxis.foldl fun _ _ k => k.setReg

theorem State.Keeps.takeSetpoints (h : s.Keeps t) : s.Keeps (t.takeSetpoints a) :=
  have h2 := Keeps.ite h.setAxis.on h.setAxis.off0
  .ite h2 h2.inc

theorem State.Keeps.spStore (h : s.Keeps t) : s.Keeps (t.spStore a k v) := .ite h.setAxis.setReg.on.on h.setAxis.setReg.on

theorem State.Keeps.rampStart (h : s.Keeps t) : s.Keeps t.rampStart :=
  h.upto (fun _ _ k => .ite k (.ite k.setAxis k.setAxis.setReg))

theorem State.Keeps.rampEnd (h : s.Keeps t) : s.Keeps t.rampEnd := h.upto (fun _ _ k => k.setAxis)

/-! ### Stops and holds -/

theorem State.Keeps.brakeLook (h : s.Keeps t) : s.Keeps t.brakeLook := h.upto (fun _ _ k => (Keeps.ite k.update k).setBitAt)

theorem State.Keeps.tstLook (h : s.Keeps t) : s.Keeps t.tstLook := by
  refine .ite h (.ite h.on ?_)
  extract_lets s1 s2 s3
  have h1 : s.Keeps s1 := h.upto fun _ _ k => by
    dsimp only
    split
    · exact k.update.after
    · exact k
  have h2 : s.Keeps s2 := .ite h1.after h1
  have h3 : s.Keeps s3 := by
    unfold s3
    split
    · exact h2.after
    · exact h2
  exact h3.off0

theorem State.Keeps.monitorDrop (h : s.Keeps t) : s.Keeps t.monitorDrop :=
  .ite h (.ite h.off0.setSreg.setCore (h.off0.upto (fun _ _ k => .ite k.setSreg.setSreg k)))

theorem State.Keeps.driftClear (h : s.Keeps t) : s.Keeps t.driftClear := h.upto (fun _ _ k => .ite k k.setAxis)

theorem State.Keeps.setMode {m : Mode} (h : s.Keeps t) : s.Keeps (t.setMode m) :=
  have h2 := Keeps.ite h.wr.wr.wr.off0.driftClear.monitorDrop h.wr.wr.wr
  (Keeps.ite h2 h2.update).tstLook.irqS.fire

theorem State.Keeps.modeRefuse {reason : Nat} (h : s.Keeps t) : s.Keeps (t.modeRefuse reason) := h.off0.on.wr.irq.cancel

theorem State.Keeps.stoAssert (h : s.Keeps t) : s.Keeps t.stoAssert :=
  .ite h.cancel ((Keeps.ite h.cancel.on.on h.cancel.on).wr.driveAll.brakeLook.fire.irqS)

theorem State.Keeps.stoLook (h : s.Keeps t) : s.Keeps t.stoLook := .ite h.stoAssert (.ite (.ite h h.after) h.cancel)

theorem State.Keeps.execStoChainRelease (h : s.Keeps t) : s.Goes (execStoChainRelease t) :=
  .ite (.ok h.cancel.off0.driveAll.brakeLook.fire.irqS) (.ok h.cancel)

theorem State.Keeps.ssBounds (h : s.Keeps t) : s.Keeps t.ssBounds := h.upto (fun _ _ k => k.setAxis)

theorem State.Keeps.enterSafeStop {kind : Nat} (h : s.Keeps t) : s.Keeps (t.enterSafeStop kind) :=
  have h0 := Keeps.ite h.modeRefuse h
  have h3 := Keeps.ite h0.learnAbort.setMode.update.wr.fire.ssBounds.rampStart.on.after h0.learnAbort.setMode.update.wr.fire
  have h4 := (Keeps.ite h3.on h3).brakeLook
  .ite h4 h4.stoAssert.stoLook

theorem State.Keeps.ackUndo {causes from_ : Nat} {run : Bool} {kind : Nat} (h : s.Keeps t) :
    s.Keeps (t.ackUndo causes from_ run kind) :=
  h.wr.wr.wr.update.modeRefuse.tstLook.brakeLook.stoLook

theorem State.Keeps.safeStop {kind : Nat} (h : s.Keeps t) : s.Keeps (t.safeStop kind) := by
  unfold State.safeStop
  split
  · exact h.enterSafeStop
  · exact h.enterSafeStop
  · split
    · exact .ite h.ackUndo (.ite h.enterSafeStop h)
    · exact .ite h.enterSafeStop h
  · exact .ite h.update.modeRefuse h.update
  · exact h

theorem State.Keeps.safetyFault {f : Fld} (h : s.Keeps t) : s.Keeps (t.safetyFault f) := h.on.safeStop.stoLook

theorem State.Keeps.driveFault {f : Fld} (h : s.Keeps t) : s.Keeps (t.driveFault f) := .ite h.on.stoLook h.safetyFault

/-! ### Core states -/

theorem State.Keeps.setPsr {sup ie : Bool} {level : Nat} (h : s.Keeps t) : s.Keeps (t.setPsr c sup ie level) := h.setSreg

theorem State.Keeps.resvClear (h : s.Keeps t) : s.Keeps (t.resvClear c) := h.setCore

theorem State.Keeps.resvStore (h : s.Keeps t) : s.Keeps (t.resvStore a n) := by
  refine h.upto (fun _ _ k => ?_)
  split
  · exact .ite k.resvClear k
  · exact k

theorem State.Keeps.windowClose (h : s.Keeps t) : s.Keeps (t.windowClose k) := h.update.cancel

theorem State.Keeps.keyWrite (h : s.Keeps t) : s.Keeps (t.keyWrite w v) := .ite h h.windowClose.update.off0.after

theorem State.Keeps.protect {act : State → State} (h : s.Keeps t) (k : ∀ u, s.Keeps u → s.Keeps (act u)) :
    s.Keeps (t.protect w act) := .ite (k _ h.windowClose) h.on

theorem State.Keeps.execUnlockWindowExpire {key : Nat} (h : s.Keeps t) : s.Goes (execUnlockWindowExpire key t) :=
  .ok h.windowClose

theorem State.Keeps.cwdStart (h : s.Keeps t) : s.Keeps (t.cwdStart c) := .ite h.update.after h.cancel

theorem State.Keeps.cwdStop (h : s.Keeps t) : s.Keeps (t.cwdStop c) := h.update.cancel

theorem State.Keeps.cwdResume (h : s.Keeps t) : s.Keeps (t.cwdResume c) := .ite h.after h

theorem State.Keeps.icuReset (h : s.Keeps t) : s.Keeps (t.icuReset c) :=
  (h.upto (fun _ _ k => k.setReg.setReg)).off0.off0.upto (fun _ _ k => k.wr.off0.cancel)

theorem State.Keeps.coreHold (h : s.Keeps t) : s.Keeps (t.coreHold c) :=
  (h.setCore.update.cancel.setSreg.icuReset.off0.off0.off0.upto (fun _ _ k => .ite k.off0 k)).windowClose.cwdStop.setReady

theorem State.Keeps.coreGo (h : s.Keeps t) : s.Keeps (t.coreGo c) := h.setCore.cwdStart.setReady

theorem State.Keeps.coreCause (h : s.Keeps t) : s.Keeps (t.coreCause c k) := h.wr

theorem State.Keeps.coreReset (h : s.Keeps t) : s.Keeps (t.coreReset c k) := .ite h h.coreHold.coreCause.after

theorem State.Keeps.execCoreResetRelease {c : Fin 4} (h : s.Keeps t) : s.Goes (execCoreResetRelease c t) :=
  .ok (.ite h.cancel.coreGo h.cancel)

theorem State.Keeps.coreHoldWrite (h : s.Keeps t) : s.Keeps (t.coreHoldWrite w v) :=
  h.wr.upto (fun _ _ k => .ite k.coreHold.coreCause.after (.ite k.coreGo k))

theorem State.Keeps.cwdService (h : s.Keeps t) : s.Keeps (t.cwdService w c v) := .ite h (.ite h.coreReset h.cwdStart)

theorem State.Keeps.execCwdExpire {c : Fin 4} (h : s.Keeps t) : s.Goes (execCwdExpire c t) :=
  .ok (.ite h.cancel.coreReset h.cancel)

theorem State.Keeps.corerstWrite (h : s.Keeps t) : s.Keeps (t.corerstWrite w v) := h.protect (fun _ k => k.coreHoldWrite)

theorem State.Keeps.icuClaim {r : Writer} (h : s.Keeps t) : s.Keeps (t.icuClaim r c).2 := by
  unfold State.icuClaim
  split
  · exact .ite h.on h
  · exact .ite h.wrb.on h

theorem State.Keeps.icuEoi (h : s.Keeps t) : s.Keeps (t.icuEoi c v) := .ite h.off0 h.on

theorem State.Keeps.icuPendWrite {r : Nat} (h : s.Keeps t) : s.Keeps (t.icuPendWrite c r v) :=
  h.upto (fun _ _ k => .ite k.off0 k)

theorem State.Keeps.icuSwi (h : s.Keeps t) : s.Keeps (t.icuSwi c v) := h.upto (fun _ _ k => .ite k.edge k)

theorem State.Keeps.icuCfgWrite {r : Nat} (h : s.Keeps t) : s.Keeps (t.icuCfgWrite c r v) :=
  h.upto (fun _ _ k => .ite k (have h1 := Keeps.ite k.on k.wr; (Keeps.ite h1.on h1.wrb).wr))

theorem State.Keeps.icuGrpWrite {g : Nat} (h : s.Keeps t) : s.Keeps (t.icuGrpWrite c g v) := (Keeps.ite h.on h.wr).wr

theorem State.Keeps.execIcuSourceEdge {c : Fin 5} {src : Fin 512} (h : s.Keeps t) : s.Goes (execIcuSourceEdge c src t) :=
  .ok h.edge

theorem State.Keeps.execIcuGroupTimeout {c : Fin 5} {g : Fin 32} (h : s.Keeps t) : s.Goes (execIcuGroupTimeout c g t) :=
  .ok (.ite h (.ite h.groupFire h.groupFire.wr.groupTimer))

/-! ### Feedback ports -/

theorem State.Keeps.setPort {x : Port} (h : s.Keeps t) : s.Keeps (t.setPort a x) := h.update

theorem State.Keeps.setRx {x : Rx} (h : s.Keeps t) : s.Keeps (t.setRx a x) := h.update

theorem State.Keeps.setQuad {x : Quad} (h : s.Keeps t) : s.Keeps (t.setQuad q x) := h.update

theorem State.Keeps.fbFlag (h : s.Keeps t) : s.Keeps (t.fbFlag a k) := .ite h (.ite h.on.irq h.on)

theorem State.Keeps.fbBlend (h : s.Keeps t) : s.Keeps (t.fbBlend a n) := h.setPort.wr.wrb.wrb

theorem State.Keeps.fbShow (h : s.Keeps t) : s.Keeps (t.fbShow a) := h.wrb.wrb.setReg

theorem State.Keeps.fbEvent {ch j : Nat} (h : s.Keeps t) : s.Keeps (t.fbEvent a ch j) := h.fire.fire

theorem State.Keeps.serStop (h : s.Keeps t) : s.Keeps (t.serStop a) := h.setPort.cancel

theorem State.Keeps.fbLoss (h : s.Keeps t) : s.Keeps (t.fbLoss a k) :=
  have h := Keeps.ite h.serStop h
  .ite h.wr.off0.setPort h.wr.off0.setPort.off0.fbShow.fbFlag.fbEvent

theorem State.Keeps.fbValid (h : s.Keeps t) : s.Keeps (t.fbValid a) := h.on.fbShow

theorem State.Keeps.serCheck (h : s.Keeps t) : s.Keeps (t.serCheck a) :=
  .ite h.off0 <|
    .ite h <|
      have h1 := Keeps.ite h.setPort.fbFlag h.setPort
      have h2 := Keeps.ite h1.fbFlag h1.off0
      .ite h2.fbLoss h2

theorem State.Keeps.fbStop (h : s.Keeps t) : s.Keeps (t.fbStop a) := h.setPort.off0.off0.off0.cancel.cancel.cancel.fbShow

/-- The steps of `fbStart` after its grid is known, said apart: there the grid `g` is free, and nothing tries to compute it. -/
theorem State.Keeps.fbBegin {g : Nat → Word → Nat × Nat} {m : Nat} (h : s.Keeps t) :
    s.Keeps (
      let (u, r) := g n v
      let s1 := (t.setPort a { t.port a with mode := m, n, t := u, r, held := v, pser := v }).off0 (F.FB_AX_STAT_REF a)
      let s2 := ((s1.wrb (F.FB_AX_STAT_POSVALID a) (m == 1)).off0 (F.FB_AX_STAT_METHOD a)).off0 (F.FB_AX_STAT_BLEND a)
      let s3 := (s2.serCheck a).fbShow a
      if s3.encOn (a / 4) then s3 else s3.fbLoss a 2) := by
  split
  have k {x b} : s.Keeps ((((((((t.setPort a x).off0 (F.FB_AX_STAT_REF a)).wrb (F.FB_AX_STAT_POSVALID a) b).off0
      (F.FB_AX_STAT_METHOD a)).off0 (F.FB_AX_STAT_BLEND a)).serCheck a).fbShow a)) :=
    h.setPort.off0.wrb.off0.off0.serCheck.fbShow
  exact .ite k k.fbLoss

theorem State.Keeps.fbStart (h : s.Keeps t) : s.Keeps (t.fbStart a) := by
  unfold State.fbStart
  generalize gridOf = g
  exact .ite h.fbStop h.fbStop.fbBegin

theorem State.Keeps.fbStartAll (h : s.Keeps t) : s.Keeps t.fbStartAll := h.upto (fun _ _ k => k.fbStart)

theorem State.Keeps.fbStopAll (h : s.Keeps t) : s.Keeps t.fbStopAll := h.upto (fun _ _ k => k.fbStop)

theorem State.Keeps.fbWake (h : s.Keeps t) : s.Keeps t.fbWake := h.fbStartAll.upto (fun _ _ k => .ite k.fbLoss k)

theorem State.Keeps.fbEdge {fwd : Bool} (h : s.Keeps t) : s.Keeps (t.fbEdge a fwd) :=
  .ite h.setPort.wrb.fbFlag.inc.fbEvent h.setPort.wrb

theorem State.Keeps.rxError (h : s.Keeps t) : s.Keeps (t.rxError a) := h.setRx.off0.irqS

theorem State.Keeps.rxQuad {na nb : Bool} (h : s.Keeps t) : s.Keeps (t.rxQuad a na nb) := by
  refine .ite h ?_
  dsimp only
  split
  · exact h
  · exact h.setRx.rxError
  · exact h.setRx

theorem State.Keeps.execQuadEdge {a : Fin 24} {na nb : Bool} (h : s.Keeps t) : s.Goes (execQuadEdge a na nb t) := by
  refine .ite (.ok h.rxQuad) ?_
  dsimp only
  split
  · exact .ok h.rxQuad
  · exact .ok (.ite h.rxQuad.setPort.fbFlag.inc.fbLoss h.rxQuad.setPort.fbFlag.inc)
  · exact .ok h.rxQuad.setPort.fbEdge.fbShow

theorem State.Keeps.presetTake (h : s.Keeps t) : s.Keeps (t.presetTake a) := by
  unfold State.presetTake
  extract_lets x p
  split
  · split
    exact h.setPort.on
  · exact .ite h.setPort.on (.ite h.setPort h.setPort)

theorem State.Keeps.execIndexEdge {z : ZLevel} (h : s.Keeps t) : s.Goes (execIndexEdge z t) := by
  refine .ite (.ok h) (.ite (.ok h.setPort)
    (have h2 := Keeps.ite h.setPort.fbFlag.setReg.fbEvent.setPort h.setPort.fbFlag.setReg.fbEvent; .ite
      (.ok (.ite h2.presetTake.off0.setPort.fbValid h2.presetTake.off0.setPort.fbShow)) ?_))
  split
  · exact .ok (.ite h2.fbFlag h2)
  · exact .ok h2

theorem State.Keeps.rxHall (h : s.Keeps t) : s.Keeps (t.rxHall a c) := by
  refine .ite h ?_
  split
  · exact h.rxError
  · exact .ite h.setRx.rxError h.setRx

theorem State.Keeps.execHallTransition {a : Fin 24} {code : BitVec 3} (h : s.Keeps t) :
    s.Goes (execHallTransition a code t) := by
  unfold Sys2Proof.Machine.execHallTransition
  extract_lets s1 old x s2 s3 y s0 lost back
  have h2 : s.Keeps s2 := h.rxHall.setPort
  refine .ite (.ok h.rxHall) ?_
  split
  · exact .ok (.ite h2.fbFlag h2.fbFlag.after)
  · split
    extract_lets u1 u2 u3
    have k1 : s.Keeps u1 := h2.cancel.setPort
    have k2 : s.Keeps u2 := .ite k1.fbFlag k1
    have k3 : s.Keeps u3 := by
      unfold u3
      split
      · exact k2.fbEdge
      · exact k2
    exact .ok (.ite k3.fbValid k3.fbShow)

theorem State.Keeps.execHallInvalidTimeout {a : Fin 24} (h : s.Keeps t) : s.Goes (execHallInvalidTimeout a t) :=
  .ok (.ite h.cancel.fbLoss h.cancel)

theorem State.Keeps.execLineFault {p : PairBand} (h : s.Keeps t) : s.Goes (execLineFault p t) :=
  .ite (.ok h) (.ok (.ite h.setPort.fbFlag.fbLoss h.setPort))

theorem State.Keeps.encLost (h : s.Keeps t) : s.Keeps (t.encLost q) := h.upto (fun _ _ k => .ite k k.fbLoss)

theorem State.Keeps.execSerialTrigger {a : Fin 24} (h : s.Keeps t) : s.Goes (execSerialTrigger a t) :=
  .ite (.ok h.cancel) (.ite (.ok h.cancel.setPort) (.ok h.cancel.setPort.after))

theorem State.Keeps.serReject {jump : Bool} (h : s.Keeps t) : s.Keeps (t.serReject a jump) :=
  have h3 := Keeps.ite h.setPort.inc.fbFlag.fbFlag h.setPort.inc.fbFlag
  .ite h3.fbLoss h3

theorem State.Keeps.rxSerial {mode : Nat} {v : Int} {full : Nat} (h : s.Keeps t) : s.Keeps (t.rxSerial a mode v full) :=
  .ite h h.setRx

theorem State.Keeps.serSample {v : Int} {full : Nat} {raw : Word} (h : s.Keeps t) : s.Keeps (t.serSample a v full raw) :=
  .ite h.serReject <|
    have h2 := Keeps.ite h.setPort.setReg h.setPort.setReg.wrb
    have h3 := Keeps.ite h2.fbFlag.inc.fbEvent h2
    .ite h3.fbValid h3.fbShow

theorem State.Keeps.execSsiTransactionDone {a : Fin 24} {raw : Word} {ended : Bool} (h : s.Keeps t) :
    s.Goes (execSsiTransactionDone a raw ended t) :=
  .ite (.ok h) <|
    have h0 := Keeps.ite h.rxSerial (.ite h.rxError h)
    .ite (.ok h0.serReject) (.ok h0.serSample)

theorem State.Keeps.tephraDone {bytes : List Byte} {formErr : Bool} (h : s.Keeps t) : s.Keeps (t.tephraDone a bytes formErr) :=
  .ite ((Keeps.ite h.cancel.rxError h.cancel).serReject) <|
    .ite ((((Keeps.ite h.cancel.rxError h.cancel).setPort).fbFlag).fbLoss) <|
      have h1 := Keeps.ite h.cancel.fbFlag.off0 h.cancel
      .ite h1.setPort.setReg h1.rxSerial.serSample

theorem State.Keeps.execTephraReply {a : Fin 24} {bytes : Option (List Byte)} {formErr : Bool} (h : s.Keeps t) :
    s.Goes (execTephraReply a bytes formErr t) := by
  refine .ite (.ok h) ?_
  split
  · exact .ok h.after
  · exact .ok h.tephraDone

theorem State.Keeps.execTephraTimeout {a : Fin 24} (h : s.Keeps t) : s.Goes (execTephraTimeout a t) :=
  .ite (.ok h.cancel) (.ok ((Keeps.ite h.cancel.rxError h.cancel).serReject))

theorem State.Keeps.fbLatch {sidx : Nat} (h : s.Keeps t) : s.Keeps (t.fbLatch a sidx n) :=
  have h1 := Keeps.ite (.ite h.presetTake.setPort.on h.presetTake.setPort) h
  (Keeps.ite h1.fbBlend h1).fbShow.setReg.setReg.setReg.wr.wr.setPort

theorem State.Keeps.setEmu {x : Emu} (h : s.Keeps t) : s.Keeps (t.setEmu n x) := h.update

theorem State.Keeps.emuSample {sidx span : Nat} (h : s.Keeps t) : s.Keeps (t.emuSample n sidx span) :=
  .ite h <|
    .ite h.cancel.setEmu.on <|
      .ite h.cancel.off0.setEmu.wrI.on <|
        have h2 := Keeps.ite h.cancel.off0.on h.cancel.off0
        .ite h2.setEmu h2.setEmu.after

theorem State.Keeps.execEmuEdgeOutput {n : Fin 2} (h : s.Keeps t) : s.Goes (execEmuEdgeOutput n t) :=
  .ite (.ok h.cancel) (.ite (.ok h.cancel.setEmu.wrI) (.ok h.cancel.setEmu.wrI.after))

theorem State.Keeps.emuTick (h : s.Keeps t) : s.Keeps (t.emuTick n) :=
  .ite (.ite h.setEmu.on.wrI h.setEmu.on.on) (.ite h.setEmu.off0.cancel h)

theorem State.Keeps.emuCtlWrite (h : s.Keeps t) : s.Keeps (t.emuCtlWrite n v) :=
  .ite (.ite h.setHeld h.setHeld.on) (.ite h h.on)

theorem State.Keeps.regrid (h : s.Keeps t) : s.Keeps (t.regrid a) := by
  refine .ite h (.ite ?_ (.ite h.setPort h))
  split
  exact h.setPort

theorem State.Keeps.fbTick (h : s.Keeps t) : s.Keeps (t.fbTick a) :=
  have h1 := Keeps.ite h.fbStart h.regrid.setPort.serCheck
  have h2 := Keeps.ite h1.fbLatch h1.fbShow
  .ite h2.after h2.cancel

theorem State.Keeps.tephraCmd (h : s.Keeps t) : s.Keeps (t.tephraCmd a k) := .ite h.setPort h.setPort

theorem State.Keeps.fbCmdWrite (h : s.Keeps t) : s.Keeps (t.fbCmdWrite a v) :=
  have h1 := Keeps.ite (.ite h.setPort h.fbFlag) h
  have h2 := Keeps.ite h1.off0.fbValid h1
  have h3 := Keeps.ite h2.on h2
  .ite h3.tephraCmd (.ite h3.tephraCmd h3)

theorem State.Keeps.fbCfgWrite {r : Nat} (h : s.Keeps t) : s.Keeps (t.fbCfgWrite a r v) :=
  .ite (.ite h.setHeld h.setHeld.fbFlag) (.ite h h.fbFlag)

theorem State.Keeps.possRead {r : Writer} (h : s.Keeps t) : s.Keeps (t.possRead r a).2 := .ite h.update h

/-! ### The converters -/

theorem State.Keeps.adcIrq (h : s.Keeps t) : s.Keeps (t.adcIrq q) := h.irq

theorem State.Keeps.adcFlag (h : s.Keeps t) : s.Keeps (t.adcFlag a k) := .ite h h.on.adcIrq

theorem State.Keeps.execAdcSample {q : Fin 6} {second : Bool} (h : s.Keeps t) : s.Goes (execAdcSample q second t) :=
  .ite (.ok h.cancel) (.ok ((h.cancel.setQuad.upto (fun _ _ k => k.fbLatch)).upto (fun _ _ k => .ite k.emuSample k)))

theorem State.Keeps.adcResult {u v : Nat} (h : s.Keeps t) : s.Keeps (t.adcResult a u v) :=
  have h5 := Keeps.ite h.show.show.show.wr.wr.wrb.wr.wr.setAxis.adcFlag h.show.show.show.wr.wr.wrb.wr.wr.setAxis
  have h6 := Keeps.ite h5.adcFlag h5
  .ite h6.adcFlag h6

theorem State.Keeps.laneSet (h : s.Keeps t) : s.Keeps (t.laneSet q) :=
  .ite h <|
    .ite ((Keeps.ite h.laneOverrun h).setLane) <|
      have h1 := Keeps.ite h.laneOverrun h
      .ite h1.setLane.passBegin h1.setLane.after

theorem State.Keeps.execAdcConversionDone {q : Fin 6} {codes : List Nat} (h : s.Keeps t) :
    s.Goes (execAdcConversionDone q codes t) :=
  .ite (.ok h) (.ok (h.setQuad.upto (fun _ _ k => k.adcResult)).fire.laneSet)

theorem State.Keeps.iuRead {r : Writer} (h : s.Keeps t) : s.Keeps (t.iuRead r a).2 := .ite h.update h

theorem State.Keeps.sampWrite (h : s.Keeps t) : s.Keeps (t.sampWrite q v) := .ite h.setHeld (.ite h h.on.adcIrq)

theorem State.Keeps.calReq (h : s.Keeps t) : s.Keeps (t.calReq v) := .ite h (.ite h.on h.on)

theorem State.Keeps.calApply {codes : List Nat} (h : s.Keeps t) : s.Keeps (t.calApply codes) :=
  ((h.upto (fun _ _ k => k.wrI.wrI.wrb.wrb.setBitAt)).upto (fun _ _ k => k.setBitAt.off0)).wrb.on

theorem State.Keeps.execAdcRecalDone {codes : List Nat} (h : s.Keeps t) : s.Goes (execAdcRecalDone codes t) :=
  .ite (.ok h) (.ok h.calApply.off0)

theorem State.Keeps.gainCheck {codes : List Nat} (h : s.Keeps t) : s.Keeps (t.gainCheck codes) :=
  h.upto (fun _ _ k => .ite ((Keeps.ite k.adcFlag k.off0).adcFlag) ((Keeps.ite k.adcFlag k.off0).off0))

theorem State.Keeps.baseplate {j : Int} {first : Bool} (h : s.Keeps t) : s.Keeps (t.baseplate j first) :=
  have h2 := Keeps.ite (h.show.upto (fun _ _ k => k.show)) h.show
  .ite h2.wrb <|
    have h4 := Keeps.ite h2.wrb h2.wrb.on.irqS
    .ite h4.safeStop h4

theorem State.Keeps.busLook (h : s.Keeps t) : s.Keeps t.busLook :=
  have h2 := Keeps.ite (.ite h.show h.show.after) h.show.cancel
  have h3 := Keeps.ite (.ite h2 h2.after) h2.cancel
  have h4 := Keeps.ite (.ite h3 h3.after) h3.cancel
  have h5 := Keeps.ite (.ite h4 h4.after) h4.cancel
  have h6 := Keeps.ite (.ite h5 h5.after) h5.cancel
  (Keeps.ite (.ite h6 h6.after) h6.cancel).brakeLook

theorem State.Keeps.execAuxConversion {q : Fin 6} {inp : Fin 4} {code : Nat} (h : s.Keeps t) :
    s.Goes (execAuxConversion q inp code t) :=
  .ite (.ok h) (.ok (.ite h.show.setBitAt.busLook (.ite h.show.setBitAt.baseplate h.show.setBitAt)))

theorem State.Keeps.adcTick (h : s.Keeps t) : s.Keeps (t.adcTick q) :=
  (Keeps.ite h (.ite (.ite h h.on.adcIrq) h.off0)).setQuad.upto
    (fun _ _ k => .ite (.ite k.setAxis.adcFlag k.setAxis) (.ite k k.setAxis))

theorem State.Keeps.carrierPoint (h : s.Keeps t) : s.Keeps (t.carrierPoint q) :=
  have h1 := Keeps.ite h.after (.ite h.after h)
  have h2 := Keeps.ite h1.after h1
  .ite h2.after h2

theorem State.Keeps.carrierPlaced (h : s.Keeps t) : s.Keeps (t.carrierPlaced q) :=
  .ite h h.cancel.cancel.cancel.cancel.carrierPoint

/-! ### Events of the lanes -/

theorem State.Keeps.stageBegin {sidx cycles : Nat} (h : s.Keeps t) : s.Keeps (t.stageBegin q sidx cycles) :=
  h.outerCompute.setLane.after

theorem State.Keeps.outerDue {sidx : Nat} (h : s.Keeps t) : s.Keeps (t.outerDue q sidx) :=
  .ite (.ite h.setLane.stageBegin h.setLane) h

theorem State.Keeps.lanePass (h : s.Keeps t) : s.Keeps (t.lanePass q) :=
  have h2 := h.setLane.upto (fun _ _ k => k.axisPass)
  .ite h2.fire.outerDue.setLane.passBegin h2.fire.outerDue

theorem State.Keeps.execLaneCurrentPass {q : Fin 6} (h : s.Keeps t) : s.Goes (execLaneCurrentPass q t) :=
  .ite (.ok h.cancel) (.ite (.ok h.cancel.passBegin) (.ok ((Keeps.ite h.cancel.passLate h.cancel).lanePass)))

theorem State.Keeps.execLaneOuterStage {q : Fin 6} (h : s.Keeps t) : s.Goes (execLaneOuterStage q t) := by
  unfold Sys2Proof.Machine.execLaneOuterStage
  extract_lets s1 j
  have h1 : s.Keeps s1 := h.cancel
  split
  · exact .ok h1
  · refine .ite (.ok h1) (.ite (.ok h1.after) ?_)
    split
    next l u e =>
    have hu : s.Keeps u := by
      split at e
      · cases e
        exact h1
      · exact h1.outerCompute.ofSnd e
    split
    next f u1 e1 =>
    have k1 : s.Keeps u1 := hu.outerEnd.ofSnd e1
    extract_lets x s2 s3
    have h2 : s.Keeps s2 := k1.setLane
    have h3 : s.Keeps s3 := by
      unfold s3
      split
      · exact h2
      · exact h2.stageBegin
    exact .ok (.ite h3.safeStop h3)

theorem State.Keeps.commitWrite (h : s.Keeps t) : s.Keeps (t.commitWrite v) := h.commitRequest

theorem State.Keeps.execLeCommitEvent (h : s.Keeps t) : s.Goes (execLeCommitEvent t) :=
  .ok (.ite h (h.arrive (fun _ k => k.commitTask)))

theorem State.Keeps.execLeBankCopyDone {a : Fin 24} (h : s.Keeps t) : s.Goes (execLeBankCopyDone a t) :=
  .ok (.ite h.cancel.copyDone h.cancel)

theorem State.Keeps.paramWrite {o : Nat} (h : s.Keeps t) : s.Keeps (t.paramWrite a o v) := by
  unfold State.paramWrite
  dsimp only
  split
  · exact h
  · exact
      have h1 := Keeps.ite h h.leFlag
      .ite (.ite h1.setAxis.on h1.setAxis) h1.setReg

theorem State.Keeps.spWrite (h : s.Keeps t) : s.Keeps (t.spWrite w a k v) := .ite h.spStore (.ite h h.leFlag)

theorem State.Keeps.leCtlWrite (h : s.Keeps t) : s.Keeps (t.leCtlWrite a v) :=
  have h1 := Keeps.ite h.leFlag h
  .ite h1 (.ite h1.setHeld h1.leFlag)

theorem State.Keeps.tableStore {addr : Nat} {l : List Byte} (h : s.Keeps t) : s.Keeps (t.tableStore addr l) :=
  .ite h (.ite h.tblFlag ((Keeps.ite h.setBytes.eccWrite.tblFlag h.setBytes.eccWrite).update.off0.untrained))

theorem State.Keeps.entryWrite {addr : Nat} (h : s.Keeps t) : s.Keeps (t.entryWrite addr v) := .ite h.tableStore h

theorem State.Keeps.sealWrite (h : s.Keeps t) : s.Keeps (t.sealWrite a v) :=
  .ite h ((h.upto (fun _ _ k => .ite k (.ite k.off0 (.ite k.off0.tblFlag k.update.on)))).untrained)

theorem State.Keeps.learnRefuse {cause : Nat} (h : s.Keeps t) : s.Keeps (t.learnRefuse cause) := h.on.wr

theorem State.Keeps.learnStart (h : s.Keeps t) : s.Keeps t.learnStart := .ite h.learnRefuse h.on.wr.wr

theorem State.Keeps.learnStop (h : s.Keeps t) : s.Keeps t.learnStop := .ite h.learnPut.off0.off0.fire h.learnPut.off0.off0

theorem State.Keeps.learnCtlWrite (h : s.Keeps t) : s.Keeps (t.learnCtlWrite v) :=
  have h0 := Keeps.ite h.learnStop h
  have h1 := Keeps.ite h0.learnRefuse h0.setReg
  .ite h1.learnStart h1

theorem State.Keeps.learnBufWrite {addr : Nat} (h : s.Keeps t) : s.Keeps (t.learnBufWrite w addr v) :=
  .ite h.learnRefuse h.plainWrite

theorem State.Keeps.execLearnRecordWrite (h : s.Keeps t) : s.Goes (execLearnRecordWrite t) := .ok h.cancel.learnWrite

/-! ### Timers and TICK -/

theorem State.Keeps.tmrFlag {j : Nat} (h : s.Keeps t) : s.Keeps (t.tmrFlag j k) := .ite h.on.irq h.on

theorem State.Keeps.tmrMatch {j : Nat} (h : s.Keeps t) : s.Keeps (t.tmrMatch j) :=
  h.upto (fun _ _ k => .ite ((Keeps.ite k.blankTimer k).tmrFlag.fire) k)

theorem State.Keeps.tmrMove {j : Nat} (h : s.Keeps t) : s.Keeps (t.tmrMove j) := .ite h.setTmr.setReg h.setTmr.wr

theorem State.Keeps.tmrMoved {j : Nat} {w : Bool} (h : s.Keeps t) : s.Keeps (t.tmrMoved j w) :=
  (Keeps.ite h.cmpRange.tmrFlag.fire h).tmrMatch

theorem State.Keeps.tmrClock {j : Nat} (h : s.Keeps t) : s.Keeps (t.tmrClock j) := h.tmrMove.tmrMoved

theorem State.Keeps.tmrCycle {reset : Bool} {x : State × List (Nat × Bool)} {j : Nat} (h : s.Keeps x.1) :
    s.Keeps (tmrCycle reset x j).1 := .iteFst h (.iteFst (.iteFst h h.tmrMove) h.setTmr)

theorem State.Keeps.tmrCycles (h : s.Keeps t) : s.Keeps t.tmrCycles := by
  unfold State.tmrCycles
  extract_lets x
  have hx : s.Keeps x.1 := Keeps.foldlFst h fun _ _ k => k.tmrCycle
  exact hx.foldl fun _ _ k => k.tmrMoved

theorem State.Keeps.tmrTickReset {j : Nat} (h : s.Keeps t) : s.Keeps (t.tmrTickReset j) :=
  .ite h (.ite h.setTmr.setReg h.setTmr.setReg.tmrMatch)

theorem State.Keeps.execTimerWrap {j : Fin 16} (h : s.Keeps t) : s.Goes (execTimerWrap j t) := .ok (.ite h.tmrClock h)

theorem State.Keeps.execTimerMatch {j : Fin 16} {k : Fin 4} (h : s.Keeps t) : s.Goes (execTimerMatch j k t) :=
  .ok (.ite h.tmrClock h)

theorem State.Keeps.gstartWrite (h : s.Keeps t) : s.Keeps (t.gstartWrite v) := .ite h.tmrStart h

theorem State.Keeps.execTimerGstartEvent (h : s.Keeps t) : s.Goes (execTimerGstartEvent t) :=
  .ok (.ite (h.arrive (fun _ k => k.gstartTask)) h)

theorem State.Keeps.execTimerCapture {j : Fin 16} {k : Fin 2} (h : s.Keeps t) : s.Goes (execTimerCapture j k t) :=
  .ok (.ite (h.arrive (fun _ k => k.capture)) h)

theorem State.Keeps.timeAdd (h : s.Keeps t) : s.Keeps (t.timeAdd n) := .ite h.setReg.update h.setReg

theorem State.Keeps.timeCycle (h : s.Keeps t) : s.Keeps t.timeCycle := h.timeAdd.update

theorem State.Keeps.execSystimeNsWrap (h : s.Keeps t) : s.Goes (execSystimeNsWrap t) := .ok (.ite h.timeCycle h)

theorem State.Keeps.nsRead {r : Writer} (h : s.Keeps t) : s.Keeps (t.nsRead r).2 := .ite h.update h

theorem State.Keeps.tickStart {fresh : Bool} (h : s.Keeps t) : s.Keeps (t.tickStart fresh) :=
  (Keeps.ite h.on.wr.wr.wr.setReg.update h.on.wr.wr.wr).update

theorem State.Keeps.tickWrite {addr : Nat} (h : s.Keeps t) : s.Keeps (t.tickWrite addr v) :=
  .ite (have h1 := Keeps.ite h.hold h.setHeld; .ite h1 h1.on) (.ite h h.on)

theorem State.Keeps.doneWrite (h : s.Keeps t) : s.Keeps (t.doneWrite v) := h.upto (fun _ _ k => .ite k.off0 k)

theorem State.Keeps.slotTick (h : s.Keeps t) : s.Keeps (t.slotTick n) :=
  .ite h ((Keeps.ite h.setBitAt.inc.edge.fire h).on.edge.fire)

theorem State.Keeps.tickDeliver (h : s.Keeps t) : s.Keeps t.tickDeliver :=
  have h2 := (h.upto (fun _ _ k => k.tmrTickReset)).upto (fun _ _ k => k.slotTick)
  .ite h2.fire.fire h2.fire

theorem State.Keeps.execTickJitterDelivery (h : s.Keeps t) : s.Goes (execTickJitterDelivery t) :=
  .ok (.ite h.cancel.tickDeliver h)

/-! ### Power -/

theorem State.Keeps.pwrIrq (h : s.Keeps t) : s.Keeps t.pwrIrq := h.irq

theorem State.Keeps.pwrFlag (h : s.Keeps t) : s.Keeps (t.pwrFlag k) := h.rise

theorem State.Keeps.isoLook (h : s.Keeps t) : s.Keeps t.isoLook := .ite h (.ite h.pwrFlag h.off0)

theorem State.Keeps.execIsoConverterStop (h : s.Keeps t) : s.Goes (execIsoConverterStop t) := .ok h.cancel.update.isoLook

theorem State.Keeps.execIsoConverterStart (h : s.Keeps t) : s.Goes (execIsoConverterStart t) := .ok h.cancel.update.isoLook

theorem State.Keeps.lineShow (h : s.Keeps t) : s.Keeps t.lineShow := .ite h.setReg.setReg.pwrFlag h.setReg.setReg.off0

theorem State.Keeps.execLineHalfCycle {vrms freq peak : Nat} (h : s.Keeps t) : s.Goes (execLineHalfCycle vrms freq peak t) :=
  .ite (.ok h) <|
    have h2 := Keeps.ite h.wr.wr.lineShow.after h.wr.wr.lineShow
    .ite (.ok h2.update) (.ok (.ite h2.update.after h2.update))

theorem State.Keeps.execMainsLoss (h : s.Keeps t) : s.Goes (execMainsLoss t) :=
  .ite (.ok h.cancel) (.ok (.ite h.cancel.pwrFlag.off0.lineShow.update.inc.fire.irqS.safeStop
    h.cancel.pwrFlag.off0.lineShow.update.inc.fire.irqS))

theorem State.Keeps.execMainsReturn (h : s.Keeps t) : s.Goes (execMainsReturn t) :=
  .ite (.ok h.cancel) (.ok (((Keeps.ite h.cancel.off0.update.pwrFlag h.cancel.off0.update).lineShow).after))

theorem State.Keeps.execBusRegulationSet (h : s.Keeps t) : s.Goes (execBusRegulationSet t) :=
  .ite (.ok h.cancel) (.ok h.cancel.pwrFlag.setReady)

theorem State.Keeps.execBusRegulationLost (h : s.Keeps t) : s.Goes (execBusRegulationLost t) :=
  .ite (.ok h.cancel) (.ok h.cancel.off0.setReady.fire)

theorem State.Keeps.execChopperOn (h : s.Keeps t) : s.Goes (execChopperOn t) := .ite (.ok h.cancel) (.ok h.cancel.pwrFlag.fire)

theorem State.Keeps.execChopperOff (h : s.Keeps t) : s.Goes (execChopperOff t) := .ok (.ite h.cancel.off0 h.cancel)

theorem State.Keeps.execBusOvervoltage (h : s.Keeps t) : s.Goes (execBusOvervoltage t) :=
  .ite (.ok h.cancel) <|
    have h1 := Keeps.ite h.cancel h.cancel.pwrFlag.irqS
    .ok (.ite h1.safeStop h1)

theorem State.Keeps.execBusUndervoltage (h : s.Keeps t) : s.Goes (execBusUndervoltage t) :=
  .ite (.ok h.cancel) (.ok h.cancel.pwrFlag.irqS.safeStop)

theorem State.Keeps.geyser {vbulk draw : Int} (h : s.Keeps t) : s.Keeps (t.geyser vbulk draw) :=
  have h3 := Keeps.ite h.show.show.show.show.wr.pwrFlag h.show.show.show.show.wr.off0
  (Keeps.ite h3.update.pwrFlag.inc.fire (.ite h3.update.off0 h3.update)).setReady

theorem State.Keeps.chopper (h : s.Keeps t) : s.Keeps t.chopper :=
  have h2 := Keeps.ite h.show.pwrFlag h.show.off0
  .ite h2.pwrFlag.inc.off0 (.ite h2.off0.busLook h2)

theorem State.Keeps.thmFlag {f : Fld} {b : Bool} (h : s.Keeps t) : s.Keeps (t.thmFlag f b) := .ite (.ite h h.on.pwrIrq) h.off0

theorem State.Keeps.axisLimit (h : s.Keeps t) : s.Keeps (t.axisLimit a) :=
  .ite h.show.show.setAxis.thmFlag.thmFlag.wrb.show.thmFlag.swtripSet h.show.show.setAxis.thmFlag.thmFlag.wrb.show

theorem State.Keeps.execPwrUpdate {vbulk pdraw pout : Word} (h : s.Keeps t) : s.Goes (execPwrUpdate vbulk pdraw pout t) :=
  .ite (.ok h) <|
    have h2 := Keeps.ite h.setReg.setReg.setReg.pwrFlag h.setReg.setReg.setReg
    .ok ((Keeps.ite h2.after (.ite h2.after h2)).geyser.chopper.upto (fun _ _ k => k.axisLimit))

theorem State.Keeps.pwrRefuse (h : s.Keeps t) : s.Keeps t.pwrRefuse := h.pwrFlag

theorem State.Keeps.pwrCtlWrite (h : s.Keeps t) : s.Keeps (t.pwrCtlWrite w v) := .ite h (.ite h.plainWrite.isoLook h.pwrRefuse)

theorem State.Keeps.supctlWrite (h : s.Keeps t) : s.Keeps (t.supctlWrite v) :=
  .ite (have h1 := h.upto (fun _ _ k => .ite k.setBitAt.setBitAt (.ite k.setBitAt.encLost k.setBitAt)); .ite h1.wrb.off0 h1.wrb)
    (.ite h h.pwrRefuse)

theorem State.Keeps.execAux24OvercurrentOff (h : s.Keeps t) : s.Goes (execAux24OvercurrentOff t) := .ok (.ite h.off0.pwrFlag h)

theorem State.Keeps.execEnc5vOvercurrentOff {q : Fin 6} (h : s.Keeps t) : s.Goes (execEnc5vOvercurrentOff q t) :=
  .ok (.ite h.setBitAt.pwrFlag.encLost h)

theorem State.Keeps.brkCtlWrite (h : s.Keeps t) : s.Keeps (t.brkCtlWrite v) :=
  have h1 := Keeps.ite h.wr ((Keeps.ite h h.pwrRefuse).wr)
  ((Keeps.ite h1 (.ite h1.wr h1.pwrRefuse)).foldl fun _ _ k => .ite k (.ite k.wr k.pwrRefuse)).brakeLook

theorem State.Keeps.execBrakeIlimOff {k : Fin 4} (h : s.Keeps t) : s.Goes (execBrakeIlimOff k t) :=
  .ite (.ok h) (.ok h.setBitAt.update.pwrIrq.brakeLook)

theorem State.Keeps.brkStatWrite (h : s.Keeps t) : s.Keeps (t.brkStatWrite v) :=
  (h.upto (fun _ _ k => .ite k.setBitAt.setBitAt k)).brakeLook

/-! ### Safety -/

theorem State.Keeps.discLook (h : s.Keeps t) : s.Keeps t.discLook := .ite h.cancel (.ite h h.after)

theorem State.Keeps.execStoInputAssert {b : Bool} (h : s.Keeps t) : s.Goes (execStoInputAssert b t) :=
  .ite (.ok h.update) (.ok ((Keeps.ite h.update.off0.discLook.safeStop h.update.off0.discLook).stoLook))

theorem State.Keeps.execStoInputRelease {b : Bool} (h : s.Keeps t) : s.Goes (execStoInputRelease b t) :=
  .ok (.ite h.update.on.discLook.stoLook h.update)

theorem State.Keeps.stoSample (h : s.Keeps t) : s.Keeps t.stoSample := h.wrb.wrb.discLook

theorem State.Keeps.execStoDiscrepancy (h : s.Keeps t) : s.Goes (execStoDiscrepancy t) :=
  .ite (.ok h.cancel) (.ok ((Keeps.ite h.cancel h.cancel.irqS).safetyFault))

theorem State.Keeps.faultClear (h : s.Keeps t) : s.Keeps (t.faultClear w v) := h.plainWrite.stoLook

theorem State.Keeps.stoctlWrite (h : s.Keeps t) : s.Keeps (t.stoctlWrite v) :=
  have h1 := Keeps.ite h h.wr
  .ite h1.safetyFault h1.stoLook

theorem State.Keeps.execSs1Expire (h : s.Keeps t) : s.Goes (execSs1Expire t) :=
  .ite (.ok h.cancel) (.ok h.cancel.stoAssert.off0)

theorem State.Keeps.leaveSafeStop (h : s.Keeps t) : s.Keeps t.leaveSafeStop :=
  h.update.off0.cancel.setMode.rampEnd.update.isoLook.driveAll.brakeLook.stoLook

theorem State.Keeps.ackWrite (h : s.Keeps t) : s.Keeps (t.ackWrite v) := .ite h (.ite h.on (.ite h.leaveSafeStop h))

theorem State.Keeps.execSafeStopAckTimeout (h : s.Keeps t) : s.Goes (execSafeStopAckTimeout t) :=
  .ok (.ite h.cancel.modeRefuse h.cancel)

theorem State.Keeps.rxLatch (h : s.Keeps t) : s.Keeps (t.rxLatch a) := .ite h.setRx.setReg.wrb.show h.setRx.setReg.wrb.setReg

theorem State.Keeps.ss1Check (h : s.Keeps t) : s.Keeps (t.ss1Check a) := .ite h.on.stoAssert h

theorem State.Keeps.crossCheck (h : s.Keeps t) : s.Keeps (t.crossCheck a) :=
  .ite (.ite ((Keeps.ite h h.on.irqS).driveFault) h) h

theorem State.Keeps.slsCheck (h : s.Keeps t) : s.Keeps (t.slsCheck a) :=
  have h2 := Keeps.ite h.wrb h.wrb.setAxis
  .ite ((Keeps.ite h2 h2.on.irqS).setAxis.driveFault) h2

theorem State.Keeps.safTick (h : s.Keeps t) : s.Keeps t.safTick :=
  (h.upto (fun _ _ k => k.rxLatch)).upto (fun _ _ k => k.ss1Check.crossCheck.slsCheck)

theorem State.Keeps.mwdtStart (h : s.Keeps t) : s.Keeps t.mwdtStart := h.after.after

theorem State.Keeps.mwdtStop (h : s.Keeps t) : s.Keeps t.mwdtStop := h.cancel.cancel

theorem State.Keeps.execMwdtHalf (h : s.Keeps t) : s.Goes (execMwdtHalf t) := .ok (.ite h.cancel.irqS h.cancel)

theorem State.Keeps.noteWrite (h : s.Keeps t) : s.Keeps (t.noteWrite v) := .ite h.wr.irq h.wr

theorem State.Keeps.cwdWrite (h : s.Keeps t) : s.Keeps (t.cwdWrite w c v) :=
  .ite h.plainWrite.cwdStart (.ite h.plainWrite.cwdStop h.plainWrite)

/-! ### DMA -/

theorem State.Keeps.dmaSetBusy {b : Bool} (h : s.Keeps t) : s.Keeps (t.dmaSetBusy n b) := h.wrb.setBitAt

theorem State.Keeps.dmaDiscard (h : s.Keeps t) : s.Keeps (t.dmaDiscard n) := by
  unfold State.dmaDiscard
  extract_lets s1
  have h1 : s.Keeps s1 := by
    unfold s1
    split
    · exact h
    · exact h.setReg
  exact h1.update.cancel.cancel

theorem State.Keeps.dmaKick (h : s.Keeps t) : s.Keeps t.dmaKick :=
  have h1 := by split; exacts [h, .ite h h.after]
  .ite h1 h1.update.after

theorem State.Keeps.dmaDone (h : s.Keeps t) : s.Keeps (t.dmaDone n) := (Keeps.ite h.dmaSetBusy.on.irq h.dmaSetBusy.on).fire

theorem State.Keeps.dmaError {cause : Nat} {write : Bool} {addr : Nat} (h : s.Keeps t) :
    s.Keeps (t.dmaError n cause write addr) :=
  (Keeps.ite h.dmaDiscard.dmaSetBusy.on.wr.wrb.setReg.irq h.dmaDiscard.dmaSetBusy.on.wr.wrb.setReg).fire

theorem State.Keeps.dmaStart (h : s.Keeps t) : s.Keeps (t.dmaStart n) :=
  .ite h (.ite h.on (.ite h.dmaError
    (.ite h.dmaError (.ite h.dmaError (.ite (((Keeps.ite h.irq h).on).fire) h.off0.off0.off0.dmaSetBusy.dmaKick)))))

theorem State.Keeps.dmaAbort (h : s.Keeps t) : s.Keeps (t.dmaAbort n) :=
  .ite h (.ite h.dmaDiscard.update h.update.cancel.dmaDiscard.dmaSetBusy.on.dmaKick)

theorem State.Keeps.dmaCtlWrite (h : s.Keeps t) : s.Keeps (t.dmaCtlWrite n v) :=
  have h1 := Keeps.ite h (.ite h.wr h.on)
  have h2 := Keeps.ite h1.dmaAbort (.ite h1.dmaStart h1)
  .ite h2.wr h2

theorem State.Keeps.dmaGstart (h : s.Keeps t) : s.Keeps (t.dmaGstart v) := h.upto (fun _ _ k => .ite k.dmaStart k)

theorem State.Keeps.dmaAbortAll (h : s.Keeps t) : s.Keeps (t.dmaAbortAll v) := .ite (h.upto (fun _ _ k => k.dmaAbort)) h

theorem State.Keeps.dmaRegWrite {addr : Nat} (h : s.Keeps t) : s.Keeps (t.dmaRegWrite w n addr v) := .ite h.on h.plainWrite

theorem State.Keeps.execDramRefresh (h : s.Keeps t) : s.Goes (execDramRefresh t) := .ok (.ite h.cancel.update.after h.cancel)

/-! ### Flash -/

theorem State.Keeps.tornCut (h : s.Keeps t) : s.Keeps (t.tornCut a n) := h.update

theorem State.Keeps.tear (h : s.Keeps t) : s.Keeps (t.tear a n) := h.tornCut.update

theorem State.Keeps.unitProgram {u : Nat} {l : List Byte} (h : s.Keeps t) : s.Keeps (t.unitProgram u l) :=
  .ite h.tornCut.setBytes.eccWrite.update h.tornCut.setBytes.eccWrite

theorem State.Keeps.sectorErase {bank sec : Nat} (h : s.Keeps t) : s.Keeps (t.sectorErase bank sec) :=
  h.tornCut.update id (Tab.wf_filter memDefault _ _)

theorem State.Keeps.journalSync (h : s.Keeps t) : s.Keeps t.journalSync := h.wr.wr.wr

theorem State.Keeps.journalAdd {j type bank sec : Nat} (h : s.Keeps t) : s.Keeps (t.journalAdd j type bank sec) := by
  unfold State.journalAdd
  rcases t.journalRecords with _ | _
  · exact .ite h.fresh.unitProgram.journalSync h.fresh
  · exact .ite h.unitProgram.journalSync h

theorem State.Keeps.journalHeader {j : Nat} (h : s.Keeps t) : s.Keeps (t.journalHeader j) := h.unitProgram.journalSync

theorem State.Keeps.flcKick (h : s.Keeps t) : s.Keeps t.flcKick := .ite h.after h

theorem State.Keeps.flcEnd {result : Nat} (h : s.Keeps t) : s.Keeps (t.flcEnd k result) := .ite h.wr.wr.irq h.wr.wr

theorem State.Keeps.unitStart (h : s.Keeps t) : s.Keeps (t.unitStart k) :=
  .ite h.update.after (((Keeps.iteSnd h.eccRead h).update).after)

theorem State.Keeps.eraseStart {bank sec : Nat} (h : s.Keeps t) : s.Keeps (t.eraseStart k bank sec) := h.journalAdd.update.after

theorem State.Keeps.compactStart (h : s.Keeps t) : s.Keeps t.compactStart := h.journalAdd.update.after

theorem State.Keeps.execFlcOpStart (h : s.Keeps t) : s.Goes (execFlcOpStart t) := by
  refine .ite (.ok h.cancel) (.ite ?_ (.ite (.ok h.cancel) ?_))
  · split
    · exact .ite (.ok h.cancel.compactStart) (.ok h.cancel.eraseStart)
    · exact .ok h.cancel
  · split
    · exact .ok h.cancel
    · exact .ite (.ok h.cancel.compactStart) (.ok (.ite h.cancel.update.wr.wr.eraseStart h.cancel.update.wr.wr.unitStart))

theorem State.Keeps.flcSettle {result : Nat} (h : s.Keeps t) : s.Keeps (t.flcSettle k result) :=
  have h1 := Keeps.ite h.update (.ite h.update.flcEnd (.ite h.update.flcEnd.update h.update.unitStart))
  have h2 := Keeps.ite h1.update h1
  (Keeps.ite h2.after h2).flcKick

theorem State.Keeps.flcFinish {result bank : Nat} (h : s.Keeps t) : s.Keeps (t.flcFinish k result bank) :=
  .ite h.update.after h.flcSettle

theorem State.Keeps.execFlcProgramUnitDone {done : Bool} (h : s.Keeps t) : s.Goes (execFlcProgramUnitDone done t) := by
  unfold Sys2Proof.Machine.execFlcProgramUnitDone
  dsimp only
  split
  · split
    · exact .ok h.cancel.flcFinish
    · exact .ite (.ok h.cancel.flcFinish) (.ok h.cancel.unitProgram.wr.flcFinish)
  · exact .ok h

theorem State.Keeps.execFlcProgramTimeout (h : s.Keeps t) : s.Goes (execFlcProgramTimeout t) := by
  unfold Sys2Proof.Machine.execFlcProgramTimeout
  split
  · exact .ok h.cancel.tear.flcFinish
  · exact .ok h

theorem State.Keeps.reeraseEnd {state : Nat} (h : s.Keeps t) : s.Keeps (t.reeraseEnd state) := by
  unfold State.reeraseEnd
  dsimp only
  split
  · exact h.wr.update
  · exact h.wr.update.wr.wr.wr.wrb

theorem State.Keeps.execFlcEraseDone (h : s.Keeps t) : s.Goes (execFlcEraseDone t) := by
  unfold Sys2Proof.Machine.execFlcEraseDone
  dsimp only
  split
  · exact
      have h2 := Keeps.ite h.cancel.sectorErase.journalHeader.journalAdd h.cancel.sectorErase.journalAdd
      .ok ((Keeps.ite h2.reeraseEnd h2).flcFinish)
  · exact .ok h

theorem State.Keeps.execFlcEraseTimeout (h : s.Keeps t) : s.Goes (execFlcEraseTimeout t) := by
  unfold Sys2Proof.Machine.execFlcEraseTimeout
  split
  · exact .ok ((Keeps.ite h.cancel.tear.reeraseEnd h.cancel.tear).flcFinish)
  · exact .ok h

theorem State.Keeps.compactEnd (h : s.Keeps t) : s.Keeps t.compactEnd := h.sectorErase.journalHeader.journalAdd

theorem State.Keeps.execFlcCompaction (h : s.Keeps t) : s.Goes (execFlcCompaction t) := by
  unfold Sys2Proof.Machine.execFlcCompaction
  dsimp only
  split
  · exact .ok h.cancel.compactEnd.flcFinish
  · exact .ok h

theorem State.Keeps.execFlashBusyStretchEnd {bank : Bool} (h : s.Keeps t) : s.Goes (execFlashBusyStretchEnd bank t) := by
  unfold Sys2Proof.Machine.execFlashBusyStretchEnd
  dsimp only
  split
  · exact .ok (.ite h.cancel.flcSettle h)
  · exact .ok h

theorem State.Keeps.flcAlloc {r : Writer} (h : s.Keeps t) : s.Keeps (t.flcAlloc r).2 := by
  refine .iteSnd h ?_
  split
  · exact h
  · exact h.wr.wr.wr

theorem State.Keeps.flcGo (h : s.Keeps t) : s.Keeps (t.flcGo w k) := .ite h (.ite h.wr.flcEnd h.wr.update.wr.flcKick)

theorem State.Keeps.flcFreeSlot (h : s.Keeps t) : s.Keeps (t.flcFreeSlot k) := .ite h.wr h

theorem State.Keeps.flcCtlWrite (h : s.Keeps t) : s.Keeps (t.flcCtlWrite w k v) :=
  have h1 := Keeps.ite h.wr h
  have h2 := Keeps.ite h1.flcFreeSlot (.ite h1.flcGo h1)
  .ite h2.wr h2

theorem State.Keeps.flcRegWrite {addr : Nat} (h : s.Keeps t) : s.Keeps (t.flcRegWrite k addr v) := .ite h.setReg h

theorem State.Keeps.flcFlush (h : s.Keeps t) : s.Keeps t.flcFlush := (h.foldl fun _ _ k => k.flcEnd).update

theorem State.Keeps.flcGoRefuse (h : s.Keeps t) : s.Keeps t.flcGoRefuse := h.update.foldl fun _ _ k => k.flcEnd

theorem State.Keeps.flcDefer (h : s.Keeps t) : s.Keeps t.flcDefer := h.update.on.cancel.flcGoRefuse.flcFlush

theorem State.Keeps.flcCut (h : s.Keeps t) : s.Keeps t.flcCut := by
  refine Keeps.update ?_
  split
  · exact h.tear
  · exact h.tear
  · exact h.tear
  · exact h

/-! ### Memory accesses -/

theorem State.Keeps.readPart (h : s.Keeps t) : s.Keeps (t.readPart a n).2 := by
  unfold State.readPart
  split
  · exact h
  · exact h.eccRead

theorem State.Keeps.memRead (h : s.Keeps t) : s.Keeps (t.memRead a n).2 := by
  refine Keeps.foldlSnd h fun y z k => ?_
  obtain ⟨_ | _, u⟩ := y
  · dsimp only
    split
    · next e => exact k.readPart.ofSnd e
    · next e => exact k.readPart.ofSnd e
  · exact k

theorem State.Keeps.partWrite {l : List Byte} (h : s.Keeps t) : s.Keeps (t.partWrite a l) :=
  .ite h.tableStore h.setBytes.eccWrite.resvStore

theorem State.Keeps.entryCodes (h : s.Keeps t) : s.Keeps (t.entryCodes a n) := .ite h.eccWrite h

theorem State.Keeps.memWrite {l : List Byte} (h : s.Keeps t) : s.Keeps (t.memWrite w a l).2 := by
  unfold State.memWrite
  split
  · exact .ite h.spViol h
  · exact (h.foldl fun _ _ k => k.partWrite).entryCodes

/-! ### Images -/

theorem State.Keeps.commitSync (h : s.Keeps t) : s.Keeps t.commitSync := h.wr.wr

theorem State.Keeps.romCommit {app : Bool} {slot : Nat} (h : s.Keeps t) : s.Keeps (t.romCommit app slot) := .ite h.unitProgram h

theorem State.Keeps.loadSection {b : Nat} {x : Section} (h : s.Keeps t) : s.Keeps (t.loadSection b x) :=
  .ite h.setBytes.eccWrite h

theorem State.Keeps.loadImage {app : Bool} {slot : Nat} (h : s.Keeps t) : s.Keeps (t.loadImage app slot) :=
  h.foldl fun _ _ k => k.loadSection

theorem State.Keeps.digestWrite {d : List Byte} (h : s.Keeps t) : s.Keeps (t.digestWrite a d) := h.upto (fun _ _ k => k.setReg)

/-! ### Cryptography -/

theorem State.Keeps.blockRead (h : s.Keeps t) : s.Keeps (t.blockRead a n).2 := by
  refine .iteSnd h ?_
  dsimp only
  refine .iteSnd ?_ ?_
  all_goals
    refine Keeps.foldlSnd h fun y z k => .iteSnd k ?_
    split
    · next e => exact k.readPart.ofSnd e
    · next e => exact k.readPart.ofSnd e

theorem State.Keeps.blockWrite {l : List Byte} (h : s.Keeps t) : s.Keeps (t.blockWrite w a l).2 := by
  refine .iteSnd h ?_
  dsimp only
  split
  · exact .ite h.spViol h
  · exact h.foldl fun _ _ k => k.partWrite

theorem State.Keeps.cryFinish {result : Nat} (h : s.Keeps t) : s.Keeps (t.cryFinish result) :=
  .ite h.update.off0.on.wr.irq h.update.off0.on.wr

theorem State.Keeps.cryCommand (h : s.Keeps t) : s.Keeps (t.cryCommand w v) :=
  .ite h.wr (.ite h.wr.wr.cryFinish h.wr.wr.on.update.after)

theorem State.Keeps.cryCheck {key : List Byte} (h : s.Keeps t) : s.Keeps (t.cryCheck key) := by
  unfold State.cryCheck
  split
  · next e => exact (h.blockRead.ofSnd e).cryFinish
  · next e =>
    split
    · next e2 => exact ((h.blockRead.ofSnd e).blockRead.ofSnd e2).cryFinish
    · next e2 => exact ((h.blockRead.ofSnd e).blockRead.ofSnd e2).cryFinish

theorem State.Keeps.cryOut {l : List Byte} (h : s.Keeps t) : s.Keeps (t.cryOut l) := by
  unfold State.cryOut
  split
  · next e => exact (h.blockWrite.ofSnd e).cryFinish
  · next e => exact (h.blockWrite.ofSnd e).cryFinish

theorem State.Keeps.cryNext (h : s.Keeps t) : s.Keeps t.cryNext := by
  unfold State.cryNext
  split
  · exact h.commitSync.cryFinish
  · refine .ite h.cryFinish ?_
    split
    · exact h.update
    · exact h.setReg.setReg.setReg.wr.wr.wr.update.flcGo

theorem State.Keeps.cryStep (h : s.Keeps t) : s.Keeps (t.cryStep k) :=
  .ite h.flcFreeSlot.update.update.cryNext h.flcFreeSlot.update.cryFinish

theorem State.Keeps.cryCommit {cmd : Nat} (h : s.Keeps t) : s.Keeps (t.cryCommit cmd) :=
  .ite h.cryFinish (.ite h.cryFinish h.update.cryNext)

theorem State.Keeps.cryCompactJob (h : s.Keeps t) : s.Keeps t.cryCompactJob := .ite h.cryFinish h.update.cryNext

theorem State.Keeps.cryOtp {cmd : Nat} (h : s.Keeps t) : s.Keeps (t.cryOtp cmd) := by
  unfold State.cryOtp
  dsimp only
  split
  · refine .ite h.cryFinish ?_
    split
    · next e => exact (h.blockRead.ofSnd e).cryFinish
    · next e => exact (h.blockRead.ofSnd e).update.setBitAt.cryFinish
  · exact .ite h.setBitAt.cryFinish h.cryFinish
  · exact .ite h.wr.cryFinish h.cryFinish
  · exact h.on.cryFinish

theorem State.Keeps.cryCompute (h : s.Keeps t) : s.Keeps t.cryCompute := by
  unfold State.cryCompute
  dsimp only
  split
  · split
    · next e => exact (h.blockRead.ofSnd e).cryFinish
    · next e => exact (h.blockRead.ofSnd e).cryOut
  · split
    · next e => exact (h.blockRead.ofSnd e).cryFinish
    · next e => exact (h.blockRead.ofSnd e).cryCheck
  · exact .ite h.cryCheck h.cryFinish
  · split
    · next e => exact (h.blockRead.ofSnd e).cryFinish
    · next e => exact (h.blockRead.ofSnd e).cryOut
  · exact h.cryCommit
  · exact h.cryCompactJob
  · exact h.cryOtp

theorem State.Keeps.execCryJobDone (h : s.Keeps t) : s.Goes (execCryJobDone t) := by
  refine .ite (.ok h) ?_
  split
  · exact .ok h.cancel.cryCompute
  · split
    · exact .ok (.ite h.cancel.cryStep h.cancel)
    · exact .ok h.cancel
  · exact .ok h.cancel.cryNext

theorem State.Keeps.cryPoll (h : s.Keeps t) : s.Keeps t.cryPoll := .ite h.after h

/-! ### Resets -/

theorem State.Keeps.resetRegs {causes : Nat} {u : State} (h : s.Keeps u) : s.Keeps (t.resetRegs causes u) :=
  have h3 := Keeps.ite h.setReg.setReg h.setReg.setReg.setReg
  (Keeps.ite h3 h3.setReg).setReg.setReg

theorem State.Keeps.moduleReset {causes stage : Nat} (h : s.Keeps t) : s.Keeps (t.moduleReset causes stage) :=
  .resetRegs ⟨h.pending, fun w => ⟨rfl, Tab.wf_filter memDefault _ _ (h.canonical w).2⟩⟩

theorem State.Keeps.takeReset {more : Nat} (h : s.Keeps t) : s.Keeps (t.takeReset more) := h.flcFlush.moduleReset

theorem State.Keeps.requestReset (h : s.Keeps t) : s.Keeps (t.requestReset k) :=
  .ite h.update (.ite h.update.takeReset h.flcDefer.on.update.after.safeStop)

theorem State.Keeps.execModuleReset (h : s.Keeps t) : s.Goes (execModuleReset t) := .ok (.ite h.cancel.takeReset h.cancel)

theorem State.Keeps.execResetHardcut (h : s.Keeps t) : s.Goes (execResetHardcut t) :=
  .ite (.ok h.cancel.flcCut.update.takeReset) (.ok h.cancel)

theorem State.Keeps.rstreqWrite (h : s.Keeps t) : s.Keeps (t.rstreqWrite w v) := by
  refine h.protect (fun _ k => ?_)
  refine .ite k ?_
  split
  · exact k.requestReset
  · exact k.requestReset
  · exact k.requestReset
  · exact k.requestReset
  · exact k.requestReset
  · exact k.requestReset
  · exact k

theorem State.Keeps.execBrownout (h : s.Keeps t) : s.Goes (execBrownout t) := .ite (.ok h.flcCut.stoAssert.moduleReset) (.ok h)

theorem State.Keeps.execBootPorRelease (h : s.Keeps t) : s.Goes (execBootPorRelease t) :=
  .ite (.ok h.moduleReset.update) (.ok h)

theorem State.Keeps.execMainsApplied (h : s.Keeps t) : s.Goes (execMainsApplied t) :=
  .ite (.ok h) (.ite (.ok h.update) (.ok (.ite h.update.update.after h.update)))

theorem State.Keeps.powerOff (h : s.Keeps t) : s.Keeps t.powerOff :=
  (h.flcCut.stoAssert.moduleReset.update fun _ => (rfl : Tab.wf regReset [] = true)).setReg.setReg.wr.setReg

theorem State.Keeps.execMainsLostOff (h : s.Keeps t) : s.Goes (execMainsLostOff t) := .ite (.ok h.powerOff.update) (.ok h)

/-! ### The settings -/

theorem State.Keeps.catWrite {f : CatField} {inst : Nat} {v : Int} (h : s.Keeps t) : s.Keeps (t.catWrite f inst v) :=
  .ite h.update (.ite h.wrI.wrI h.wrI)

theorem State.Keeps.cfgRecord {params : List Byte} {u recno : Nat} (h : s.Keeps t) :
    s.Keeps (t.cfgRecord params u recno).2.2 := by
  refine .iteTrd h ?_
  split
  · exact h
  · split
    · exact h
    · exact .iteTrd h.catWrite (.iteTrd h.catWrite h.catWrite)

theorem State.Keeps.cfgRecords {params : List Byte} (h : s.Keeps t) : s.Keeps (t.cfgRecords params k n).2 :=
  h.foldlSnd fun _ _ k => k.cfgRecord

theorem State.Keeps.report {l : List RptEntry} (h : s.Keeps t) : s.Keeps (t.report l) :=
  (h.foldl fun _ _ k => k.setReg).setReg.setReg.wrb.wr.on

theorem State.Keeps.safetySettings {params : List Byte} (h : s.Keeps t) : s.Keeps (t.safetySettings params) :=
  h.foldl fun _ _ k => k.setReg

theorem State.Keeps.configure {params : List Byte} (h : s.Keeps t) : s.Keeps (t.configure params) := by
  unfold State.configure
  dsimp only
  split
  · exact h.safetySettings.wrb.wrb.wrb.wrb.wr.report
  · exact h.safetySettings.wrb.wrb.wrb.wrb.cfgRecords.wr.wrb.wr.digestWrite.report

/-! ### Boot -/

theorem State.Keeps.bootNext {j : Nat} {e : Instr} (h : s.Keeps t) : s.Keeps (t.bootNext n j e) := h.update.after

theorem State.Keeps.execBootClockLock (h : s.Keeps t) : s.Goes (execBootClockLock t) := .ok (.ite h.cancel.bootNext h.cancel)

theorem State.Keeps.recoverySet (h : s.Keeps t) : s.Keeps t.recoverySet := by
  unfold State.recoverySet
  dsimp only
  split
  · exact h
  · exact h.update.wr.wr.wr.wrb.wrb.on

theorem State.Keeps.lbistShow (h : s.Keeps t) : s.Keeps t.lbistShow := by
  unfold State.lbistShow
  split
  · exact h.setReg
  · exact h.on.wrb.wrb

theorem State.Keeps.execBootJournalScan (h : s.Keeps t) : s.Goes (execBootJournalScan t) :=
  .ok (.ite h.cancel.stoSample.recoverySet.journalSync.commitSync.lbistShow.bootNext h.cancel)

theorem State.Keeps.safetyStart (h : s.Keeps t) : s.Keeps t.safetyStart := h.setCore.mwdtStart

theorem State.Keeps.bootHold (h : s.Keeps t) : s.Keeps t.bootHold := h.on.on.setReady.after.flcKick

theorem State.Keeps.execBootSafetyImage (h : s.Keeps t) : s.Goes (execBootSafetyImage t) := by
  refine .ite (.ok h.cancel) ?_
  dsimp only
  split
  · exact .ok h.cancel.wr.update.bootHold
  · exact
      have h2 := ((Keeps.ite h.cancel.wr.update.romCommit.commitSync h.cancel.wr.update).wrb).wr
      .ok (.ite h2.wr.wr.digestWrite.loadImage.safetyStart.setReady.setReady.bootNext
        h2.wr.wr.digestWrite.loadImage.safetyStart.setReady.setReady)

theorem State.Keeps.execBootPfcStart {bulk tb : Word} (h : s.Keeps t) : s.Goes (execBootPfcStart bulk tb t) :=
  .ite (.ok h) (.ok (.ite h.update.setReg.baseplate.pwrFlag.after h.update.setReg.baseplate.pwrFlag.after.bootNext))

theorem State.Keeps.memoryModes (h : s.Keeps t) : s.Keeps t.memoryModes := h.upto (fun _ _ k => k.setSreg)

theorem State.Keeps.followSettings (h : s.Keeps t) : s.Keeps t.followSettings :=
  ((h.upto (fun _ _ k => k.cmpRange)).upto (fun _ _ k => k.quadCheck)).upto
    (fun _ _ k => (Keeps.ite k.pwmFlag k.off0).untrained.thetaInit)

theorem State.Keeps.compImage (h : s.Keeps t) : s.Keeps (t.compImage n) :=
  have h1 := Keeps.ite h h.setReg.compFlags
  have h2 := Keeps.ite h1.wr.compFlags h1
  .ite h2.wr h2

theorem State.Keeps.configChecks (h : s.Keeps t) : s.Keeps t.configChecks := (h.upto (fun _ _ k => k.compImage)).followSettings

theorem State.Keeps.execBootConfigRead (h : s.Keeps t) : s.Goes (execBootConfigRead t) :=
  .ok (.ite h.cancel.configure.memoryModes.configChecks.setReady.fbStartAll.stoLook.bootNext h.cancel)

theorem State.Keeps.execBootTickStart (h : s.Keeps t) : s.Goes (execBootTickStart t) :=
  .ok (.ite h.cancel.tickStart.setReady.bootNext h.cancel)

theorem State.Keeps.execBootAppImage (h : s.Keeps t) : s.Goes (execBootAppImage t) := by
  refine .ite (.ok h.cancel) ?_
  dsimp only
  split
  · exact .ok h.cancel.bootNext.on.flcKick
  · exact .ok (((Keeps.ite h.cancel.bootNext.romCommit.commitSync
      h.cancel.bootNext).wrb).wr).wr.wr.digestWrite.loadImage.flcKick

theorem State.Keeps.dramReady (h : s.Keeps t) : s.Keeps t.dramReady := h.setReady.wr.after

theorem State.Keeps.execBootDramInit (h : s.Keeps t) : s.Goes (execBootDramInit t) :=
  have hz := h.cancel.update id (Tab.wf_filter memDefault _ _)
  .ite (.ok hz.dramReady.bootNext) (.ite (.ok hz.dramReady.bootNext) (.ok h.cancel))

theorem State.Keeps.trimLoad (h : s.Keeps t) : s.Keeps (t.trimLoad a) := .ite h.wr.wr h.wr.wr.on.on

theorem State.Keeps.execAdcCalibrationStart (h : s.Keeps t) : s.Goes (execAdcCalibrationStart t) :=
  .ok (.ite (((h.cancel.upto (fun _ _ k => k.trimLoad)).on).update) h.cancel)

theorem State.Keeps.execAdcCalibrationDone {codes : List Nat} (h : s.Keeps t) : s.Goes (execAdcCalibrationDone codes t) :=
  .ok (.ite h.cancel (.ite h.cancel.after
    (.ite h.cancel.calApply.gainCheck.setReady.off0.update h.cancel.calApply.gainCheck.setReady.off0.bootNext)))

theorem State.Keeps.appStart (h : s.Keeps t) : s.Keeps t.appStart :=
  .ite h (h.upto (fun _ _ k => .ite k.setCore k.setCore.coreGo))

theorem State.Keeps.execBootCoreRelease (h : s.Keeps t) : s.Goes (execBootCoreRelease t) :=
  .ok (.ite h.cancel.wr.setMode.update.appStart.stoSample.stoLook.isoLook.dioFollowAll h.cancel)

/-! ### Fabric operations -/

theorem State.Keeps.fabFlag (h : s.Keeps t) : s.Keeps (t.fabFlag k) := h.rise

theorem State.Keeps.cycFlag (h : s.Keeps t) : s.Keeps (t.cycFlag k) := .ite h.rise h.on

theorem State.Keeps.setFport {x : FabPort} (h : s.Keeps t) : s.Keeps (t.setFport p x) := h.update

theorem State.Keeps.fabcLook (h : s.Keeps t) : s.Keeps t.fabcLook := h.setReady.wrb

theorem State.Keeps.timeRise {l : List Nat} (h : s.Keeps t) : s.Keeps (t.timeRise l) :=
  have h1 := h.foldl fun _ _ k => k.on
  .ite h1.irq h1

theorem State.Keeps.timeValid {b : Bool} {why : List Nat} (h : s.Keeps t) : s.Keeps (t.timeValid b why) :=
  .ite (h.foldl fun _ _ k => k.on) ((Keeps.ite h.timeRise.off0 h.off0.timeRise.off0.off0.wr.update).fire.fabcLook)

theorem State.Keeps.routeLook (h : s.Keeps t) : s.Keeps t.routeLook := .ite h.fabFlag h.off0

theorem State.Keeps.routeLearn (h : s.Keeps t) : s.Keeps (t.routeLearn n p) := .ite h.wr.routeLook h

theorem State.Keeps.routeClear (h : s.Keeps t) : s.Keeps t.routeClear :=
  (h.upto (fun _ _ k => .ite k (k.foldl fun _ _ k => .ite k k.wr))).routeLook

theorem State.Keeps.routeWrite {addr : Nat} (h : s.Keeps t) : s.Keeps (t.routeWrite addr v) :=
  (h.foldl fun _ _ k => .ite k.fabFlag k.wr).routeLook

theorem State.Keeps.fabEmit {frame : List Byte} (h : s.Keeps t) : s.Keeps (t.fabEmit p frame) := .ite h.inc.update h

theorem State.Keeps.originate {dest tags : List Byte} {type flags dst : Nat} {payload : List Byte} {key : Option (List Byte)}
  (h : s.Keeps t) :
    s.Keeps (t.originate p dest tags type flags dst payload key).2 :=
  h.update

theorem State.Keeps.stamp (h : s.Keeps t) : s.Keeps t.stamp.2 := h.fresh

theorem State.Keeps.txPayload {x : TxFrame} (h : s.Keeps t) : s.Keeps (t.txPayload x).2 := by
  unfold State.txPayload
  dsimp only
  split
  · exact h.stamp.setFport
  · exact h.stamp
  · exact h
  · exact h

theorem State.Keeps.txNow {x : TxFrame} (h : s.Keeps t) : s.Keeps (t.txNow x) := h.txPayload.originate.fabEmit

theorem State.Keeps.txFlush (h : s.Keeps t) : s.Keeps t.txFlush := h.update.foldl fun _ _ k => k.txNow

theorem State.Keeps.sendOn {dest tags : List Byte} {type flags dst : Nat} {payload : List Byte} {key : Option (List Byte)}
  (h : s.Keeps t) :
    s.Keeps (t.sendOn p dest tags type flags dst payload key) :=
  .ite h.update h.txNow

theorem State.Keeps.sendTo {dest tags : List Byte} {type flags dst : Nat} {payload : List Byte} {key : Option (List Byte)}
  (h : s.Keeps t) :
    s.Keeps (t.sendTo dest tags type flags dst payload key) := by
  unfold State.sendTo
  split
  · exact h.sendOn
  · exact h

theorem State.Keeps.sendAll {type : Nat} {payload : List Byte} (h : s.Keeps t) : s.Keeps (t.sendAll type payload) :=
  h.foldl fun _ _ k => .ite k.sendOn k

theorem State.Keeps.topology {up : Bool} (h : s.Keeps t) : s.Keeps (t.topology p up) := .ite h.sendOn h

theorem State.Keeps.idLost {st : Nat} (h : s.Keeps t) : s.Keeps (t.idLost st) := h.wr.off0.wr.fabFlag.fabcLook

theorem State.Keeps.idTake {id : Nat} (h : s.Keeps t) : s.Keeps (t.idTake id) := h.wr.on.wr.fabcLook

theorem State.Keeps.idConflict (h : s.Keeps t) : s.Keeps t.idConflict := (Keeps.ite h.on.on h.on.on.irq).wr.off0.wr.fabcLook

theorem State.Keeps.execNodeIdLost (h : s.Keeps t) : s.Goes (execNodeIdLost t) := .ok (.ite h.cancel.idLost h.cancel)

theorem State.Keeps.txLook (h : s.Keeps t) : s.Keeps (t.txLook p) := h.wrb

theorem State.Keeps.execSfpInsertion {p : Fin 2} {ident : List Byte} {readable : Bool} (h : s.Keeps t) :
    s.Goes (execSfpInsertion p ident readable t) := by
  refine .ite (.ok h) ?_
  dsimp only
  split
  · exact .ok h.on.off0.wr.txLook
  · exact .ite (.ok h.on.off0.wr.on.txLook) (.ok h.on.on.wr.off0.txLook)

theorem State.Keeps.lockChange {lock : Bool} (h : s.Keeps t) : s.Keeps (t.lockChange p lock) :=
  .ite (.ite h.wrb.cancel h.wrb.cancel.after) (.ite h.wrb.cancel h.wrb.cancel.after)

theorem State.Keeps.execSfpRemoval {p : Fin 2} (h : s.Keeps t) : s.Goes (execSfpRemoval p t) :=
  .ite (.ok h) (.ok h.off0.off0.wr.off0.txLook.lockChange)

theorem State.Keeps.execBlockLockChange {p : Fin 2} {lock : Bool} (h : s.Keeps t) : s.Goes (execBlockLockChange p lock t) :=
  .ite (.ok h) (.ok h.lockChange)

theorem State.Keeps.nexchShow (h : s.Keeps t) : s.Keeps t.nexchShow := h.wr

theorem State.Keeps.execPortUp {p : Fin 2} (h : s.Keeps t) : s.Goes (execPortUp p t) :=
  .ite (.ok h.cancel) <|
    .ite (.ok h.cancel.after) <|
      have h2 := Keeps.ite h.cancel.on.on.irq h.cancel.on.on
      have h4 := Keeps.ite h2.setFport.nexchShow.setReady.cancel.wr h2.setFport.nexchShow.setReady.cancel
      .ok (Keeps.ite h4 h4.after).topology.routeLook

theorem State.Keeps.portFalls (h : s.Keeps t) : s.Keeps (t.portFalls p) :=
  have h2 := Keeps.ite h.off0.on.inc.irq h.off0.on.inc
  have h3 := Keeps.ite h2.setReady.cancel h2
  (Keeps.ite h3 (.ite h3.after h3.wr)).topology.routeLook

theorem State.Keeps.execPortDown {p : Fin 2} (h : s.Keeps t) : s.Goes (execPortDown p t) :=
  .ok (.ite h.cancel.portFalls h.cancel)

theorem State.Keeps.portCtlWrite (h : s.Keeps t) : s.Keeps (t.portCtlWrite w p v) :=
  have h2 := Keeps.ite h.plainWrite.txLook h.plainWrite.txLook.lockChange
  .ite h2.setFport.after h2

theorem State.Keeps.execWakepulseEnd {p : Fin 2} (h : s.Keeps t) : s.Goes (execWakepulseEnd p t) := .ok h.cancel.setFport

theorem State.Keeps.execFabricWakeDetect (h : s.Keeps t) : s.Goes (execFabricWakeDetect t) := .ok (.ite h.update.fire h)

theorem State.Keeps.fabCfgWrite {addr : Nat} (h : s.Keeps t) : s.Keeps (t.fabCfgWrite w addr v) :=
  have h0 := Keeps.ite h.fabFlag h
  .ite h0.fabFlag.plainWrite h0.plainWrite.routeLook

theorem State.Keeps.cycCfgWrite {addr : Nat} (h : s.Keeps t) : s.Keeps (t.cycCfgWrite addr v) :=
  .ite h (.ite h.update.setReg h.cycFlag)

theorem State.Keeps.timeStep {ofs : Int} (h : s.Keeps t) : s.Keeps (t.timeStep ofs) :=
  .ite h.setReg.update.on h.setReg.update.on.wr.wr.on

theorem State.Keeps.masterLook (h : s.Keeps t) : s.Keeps t.masterLook :=
  .ite (have h1 := (Keeps.ite h h.timeStep).timeValid; .ite h1 h1.after) (.ite h.cancel.after h.cancel)

theorem State.Keeps.cycTick (h : s.Keeps t) : s.Keeps t.cycTick := by
  unfold State.cycTick
  extract_lets s1 s2 s3 s4
  have h3 : s.Keeps s3 := h.update.wrb.off0.wr.masterLook.fabcLook
  have h4 : s.Keeps s4 := by
    unfold s4
    split
    · exact .ite h3.update h3
    · exact h3
  exact .ite h4.update.after.after h4.update.txFlush

theorem State.Keeps.cycleLost (h : s.Keeps t) : s.Keeps t.cycleLost :=
  .ite h.cycFlag.inc.cycFlag.inc.fire.fire.wr.irqS.safeStop h.cycFlag.inc.cycFlag.inc.fire.fire.wr.irqS

theorem State.Keeps.execCyclicWindowClose (h : s.Keeps t) : s.Goes (execCyclicWindowClose t) :=
  .ok (.ite ((Keeps.ite h.cancel.update h.cancel.update.cycleLost).txFlush) h.cancel)

theorem State.Keeps.execSyncTimeout (h : s.Keeps t) : s.Goes (execSyncTimeout t) := .ok (.ite h.cancel.timeValid h.cancel)

theorem State.Keeps.execEchoSend (h : s.Keeps t) : s.Goes (execEchoSend t) :=
  .ite (.ok h.cancel) (.ok (h.cancel.foldl fun _ _ k => .ite k.setFport.sendOn k).after)

theorem State.Keeps.execSyncSend (h : s.Keeps t) : s.Goes (execSyncSend t) := .ite (.ok h.cancel) (.ok h.cancel.sendAll.after)

theorem State.Keeps.sessTouch (h : s.Keeps t) : s.Keeps (t.sessTouch n) := h.after

theorem State.Keeps.sessClose (h : s.Keeps t) : s.Keeps (t.sessClose n) := .ite h h.update.setReg.cancel.windowClose.irq

theorem State.Keeps.sessCloseAll (h : s.Keeps t) : s.Keeps t.sessCloseAll := h.upto (fun _ _ k => k.sessClose)

theorem State.Keeps.execSessionIdleTimeout {n : Fin 16} (h : s.Keeps t) : s.Goes (execSessionIdleTimeout n t) :=
  .ok h.cancel.sessClose

theorem State.Keeps.sessCloseWrite (h : s.Keeps t) : s.Keeps (t.sessCloseWrite n v) := .ite h.sessClose h

theorem State.Keeps.fabStop (h : s.Keeps t) : s.Keeps t.fabStop :=
  ((h.foldl fun _ _ k => k.cancel).foldl fun _ _ k => k.cancel.cancel.cancel).update

/-! ### DORMANT and the always-on domain -/

theorem State.Keeps.saveImage (h : s.Keeps t) : s.Keeps t.saveImage := h.setBytes.eccWrite.on.wr

theorem State.Keeps.restoreCells {g : State → Nat → Nat → Nat → Nat → State} {l : List (Nat × Nat × Nat)} {b : List Bool}
    (h : s.Keeps t) (k : ∀ u a lo w x, s.Keeps u → s.Keeps (g u a lo w x)) : s.Keeps (restoreCells g l b t).1 := by
  induction l generalizing t b with
  | nil => exact h
  | cons x l ih => exact ih (k _ _ _ _ _ h)

theorem State.Keeps.restoreImage (h : s.Keeps t) : s.Keeps t.restoreImage := by
  unfold State.restoreImage
  generalize imageCells = cells, specialCells = own, List.range 5 = cores, bankKey = b
  refine Keeps.wr (Keeps.setReg (Keeps.update ?_))
  refine Keeps.foldlFst ?_ fun _ _ k => k.restoreCells fun _ _ _ _ _ k => k.setSreg
  refine h.restoreCells fun _ _ _ _ _ k => ?_
  dsimp only
  split
  · exact k.wr.wr
  · exact k.wr

theorem State.Keeps.sbufFlush (h : s.Keeps t) : s.Keeps (t.sbufFlush c) := .ite h (h.setCore.foldl fun _ _ k => k.memWrite)

theorem State.Keeps.driveStop (h : s.Keeps t) : s.Keeps t.driveStop :=
  (((h.learnAbort.tmrStopAll.off0.upto (fun _ _ k => .ite k.carrierStop k)).lanesStop).fbStopAll).update

theorem State.Keeps.dormantAccept (h : s.Keeps t) : s.Keeps t.dormantAccept :=
  (h.on.upto (fun _ _ k => k.sbufFlush)).driveStop.fabStop.update.after

theorem State.Keeps.dramSleep (h : s.Keeps t) : s.Keeps t.dramSleep := h.setReady.wr

theorem State.Keeps.padsHold (h : s.Keeps t) : s.Keeps t.padsHold := .ite h h.update.on

theorem State.Keeps.entryStep (h : s.Keeps t) : s.Keeps t.entryStep := by
  unfold State.entryStep
  split
  · exact h
  · exact .ite h (.ite h.update.after (.ite h.saveImage (.ite h.dramSleep (.ite h.padsHold (.ite h.setReg h)))))

theorem State.Keeps.dormantBegin (h : s.Keeps t) : s.Keeps t.dormantBegin :=
  h.setReg.padsHold.dramSleep.setReg.setReg.setMode.update.stoLook

theorem State.Keeps.execDormantEntryComplete (h : s.Keeps t) : s.Goes (execDormantEntryComplete t) := by
  unfold Sys2Proof.Machine.execDormantEntryComplete
  dsimp only
  split
  · exact .ok h.cancel
  · exact .ite (.ok h.cancel.after) (.ok ((Keeps.ite h.cancel h.cancel.saveImage).dormantBegin))

theorem State.Keeps.execWake (h : s.Keeps t) : s.Goes (execWake t) :=
  .ite (.ok h.cancel) (.ite (.ok h.cancel.powerOff.update.after) (.ok h.cancel.update.setReg.after))

theorem State.Keeps.wakeBase (h : s.Keeps t) : s.Keeps t.wakeBase :=
  ⟨h.pending, fun w => ⟨Tab.wf_filter regReset _ _ (h.canonical w).1, (h.canonical w).2⟩⟩

theorem State.Keeps.execWakeRestore (h : s.Keeps t) : s.Goes (execWakeRestore t) := by
  unfold Sys2Proof.Machine.execWakeRestore
  dsimp only
  split
  · exact .ok h.cancel
  · exact .ite (.ok h.cancel.wakeBase.restoreImage.followSettings.off0.on.off0.after) (.ok h.cancel.moduleReset.wrb)

theorem State.Keeps.groupsRestart (h : s.Keeps t) : s.Keeps t.groupsRestart :=
  h.upto (fun _ _ k => k.upto (fun _ _ k => .ite k.after k))

theorem State.Keeps.coresResume (h : s.Keeps t) : s.Keeps t.coresResume :=
  h.upto (fun _ _ k => .ite k (.ite k.coreGo k.cwdStart.setReady))

theorem State.Keeps.exitStep (h : s.Keeps t) : s.Keeps t.exitStep := by
  unfold State.exitStep
  split
  · exact h
  · exact .ite h.dramReady h

theorem State.Keeps.execWakeComplete (h : s.Keeps t) : s.Goes (execWakeComplete t) := by
  unfold Sys2Proof.Machine.execWakeComplete
  extract_lets s0 s1 x s2 s3 s4
  split
  · exact .ok h.cancel
  · have h2 : s.Keeps s2 := h.cancel.timeAdd.on.setReg.tickStart.update
    have h3 : s.Keeps s3 := .iteId h2.setMode h2.setMode.dramReady
    have h4 : s.Keeps s4 := (h3.foldl fun _ _ k => k.setReady).fbWake
    exact .ok h4.coresResume.irq.mwdtStart.groupsRestart.pwrFlag.stoSample.stoLook.isoLook.after

theorem State.Keeps.execAonTimerExpire (h : s.Keeps t) : s.Goes (execAonTimerExpire t) :=
  .ok (.ite ((Keeps.ite h.cancel.update.wr.off0 h.cancel.update.wr.off0.on.irq).fire) h.cancel)

theorem State.Keeps.padWrite (h : s.Keeps t) : s.Keeps (t.padWrite v) := .ite h.off0.dioFollowAll h

theorem State.Keeps.dioOutside {b : Bool} (h : s.Keeps t) : s.Keeps (t.dioOutside k b) := h.update

theorem State.Keeps.execDioEdge {k : Fin 16} {level : Bool} (h : s.Keeps t) : s.Goes (execDioEdge k level t) := by
  refine .ite (.ok h.cancel.dioOutside.setBitAt) ?_
  split
  · exact .ok (.ite h.cancel.dioEdge h.cancel.dioOutside)
  · exact .ok h.cancel.dioOutside.dioEdge

theorem State.Keeps.shutdownEnter (h : s.Keeps t) : s.Keeps t.shutdownEnter :=
  (h.off0.learnAbort.setMode.sessCloseAll.upto (fun _ _ k => .ite k.encLost k)).isoLook.driveAll.brakeLook.stoLook.after

theorem State.Keeps.execLbistStart (h : s.Keeps t) : s.Goes (execLbistStart t) :=
  .ite (.ok h.cancel) (.ok ((((h.cancel.upto
    (fun _ _ k => k.dmaAbort)).driveStop).fabStop).mwdtStop).update.dramSleep.stoLook.isoLook)

theorem State.Keeps.execLbistDone {app saf : Bool} (h : s.Keeps t) : s.Goes (execLbistDone app saf t) :=
  .ite (.ok h) (.ok (h.update (Tab.wf_filter regReset _ _)).wr.setReg.after)

theorem State.Keeps.lbistRecord (h : s.Keeps t) : s.Keeps t.lbistRecord :=
  have h0 := Keeps.ite h.journalAdd.compactEnd h
  have h1 := Keeps.ite h0.journalAdd.sectorErase.journalAdd h0
  by unfold State.lbistRecord; dsimp only; split; exacts [h1, h1.unitProgram]

theorem State.Keeps.execLbistRecordWritten (h : s.Keeps t) : s.Goes (execLbistRecordWritten t) :=
  .ite (.ok h.cancel) (.ite (.ok h.cancel.lbistRecord.off0.dormantBegin.update) (.ok h.cancel.lbistRecord.powerOff.update))

/-! ### Mode and reset requests -/

theorem State.Keeps.modeWriterRefuse (h : s.Keeps t) : s.Keeps t.modeWriterRefuse := h.on.wr.irq

theorem State.Keeps.modeAccept {target : Nat} (h : s.Keeps t) : s.Keeps (t.modeAccept target) := by
  unfold State.modeAccept
  split
  · exact h.dormantAccept
  · exact h.shutdownEnter
  · exact h.on.after
  · exact h.on

theorem State.Keeps.modeRequest (h : s.Keeps t) : s.Keeps (t.modeRequest w v) :=
  .ite h.modeWriterRefuse (.ite h.on (.ite h.wr.wr.irqS.modeAccept h.wr.wr.irqS.modeRefuse))

theorem State.Keeps.modeTake {m : Mode} (h : s.Keeps t) : s.Keeps (t.modeTake m) :=
  have h1 := Keeps.ite h.off0.learnAbort.setMode.leaveRun h.off0.setMode
  (Keeps.ite h1.loopInitAll h1).isoLook.driveAll.brakeLook.stoLook

theorem State.Keeps.modeTick (h : s.Keeps t) : s.Keeps t.modeTick := .ite (.ite h.modeTake h.modeRefuse) h

theorem State.Keeps.safetyHalt (h : s.Keeps t) : s.Keeps t.safetyHalt := h.setCore

theorem State.Keeps.execLockstepMismatch (h : s.Keeps t) : s.Goes (execLockstepMismatch t) :=
  .ite (.ok h) (.ok h.update.stoAssert.safetyHalt.requestReset)

theorem State.Keeps.mwdtExpired (h : s.Keeps t) : s.Keeps t.mwdtExpired := h.mwdtStop.update.stoAssert.requestReset

theorem State.Keeps.execMwdtExpire (h : s.Keeps t) : s.Goes (execMwdtExpire t) := .ok (.ite h.mwdtExpired h)

theorem State.Keeps.mwdtService (h : s.Keeps t) : s.Keeps (t.mwdtService v) := .ite h (.ite h.update.mwdtStart h.mwdtExpired)

/-! ### Debug -/

theorem State.Keeps.dbgRefuse (h : s.Keeps t) : s.Keeps (t.dbgRefuse a v) := .ite h.on h

theorem State.Keeps.dbgCfgErr (h : s.Keeps t) : s.Keeps t.dbgCfgErr := h.on

theorem State.Keeps.dbgCtlWrite (h : s.Keeps t) : s.Keeps (t.dbgCtlWrite w v) :=
  .ite h.dbgRefuse ((Keeps.ite h.dbgCfgErr h.wr).wr)

theorem State.Keeps.halt (h : s.Keeps t) : s.Keeps (t.halt c) := .ite h.on h.on

theorem State.Keeps.dbgCmdWrite (h : s.Keeps t) : s.Keeps (t.dbgCmdWrite w c v) := .ite h.dbgRefuse (.ite h.halt h)

theorem State.Keeps.bpWrite (h : s.Keeps t) : s.Keeps (t.bpWrite c k v) := .ite h.setReg.dbgCfgErr h.setReg

theorem State.Keeps.wpWrite (h : s.Keeps t) : s.Keeps (t.wpWrite c k v) := .ite h.setReg.dbgCfgErr h.setReg

theorem State.Keeps.txdWrite (h : s.Keeps t) : s.Keeps (t.txdWrite w c v) :=
  .ite h.dbgRefuse (.ite h.setReg (.ite h.on h.setReg.on))

theorem State.Keeps.rxdWrite (h : s.Keeps t) : s.Keeps (t.rxdWrite w c v) :=
  .ite h.dbgRefuse (.ite h.setReg (.ite h.on (.ite h.update.setReg.on.edge h.update.setReg.on)))

theorem State.Keeps.rxdRead {r : Writer} (h : s.Keeps t) : s.Keeps (t.rxdRead r c).2 := by
  unfold State.rxdRead
  split
  · exact h
  · exact .ite h.off0 h

theorem State.Keeps.dbgCoreWrite {addr : Nat} (h : s.Keeps t) : s.Keeps (t.dbgCoreWrite w c addr v) :=
  .ite h.dbgRefuse (.ite h.bpWrite (.ite h.wpWrite h.plainWrite))

theorem State.Keeps.authStart {key : Nat} (h : s.Keeps t) : s.Keeps (t.authStart key) := .ite h h.update.on.after

theorem State.Keeps.execDbgAuthDone (h : s.Keeps t) : s.Goes (execDbgAuthDone t) := by
  unfold Sys2Proof.Machine.execDbgAuthDone
  dsimp only
  split
  · exact .ok h.cancel
  · exact .ite (.ok h.cancel.update.off0.on) (.ok (.ite h.cancel.update.off0.wr.on h.cancel.update.off0.wr))

theorem State.Keeps.authWrite (h : s.Keeps t) : s.Keeps (t.authWrite v) := .ite h.authStart (.ite h.off0 h)

theorem State.Keeps.sigWrite (h : s.Keeps t) : s.Keeps (t.sigWrite k v) := h.update

theorem State.Keeps.tstRefuse (h : s.Keeps t) : s.Keeps t.tstRefuse := h.on

theorem State.Keeps.tstCtlWrite (h : s.Keeps t) : s.Keeps (t.tstCtlWrite v) :=
  have h0 := Keeps.ite h.off0 h
  .ite h0 (.ite h0.wr h0.tstRefuse)

theorem State.Keeps.tstSetWrite {r : Nat} (h : s.Keeps t) : s.Keeps (t.tstSetWrite r v) :=
  .ite h (.ite h.tstRefuse (h.foldl fun _ _ k => .ite k.wr k.tstRefuse))

theorem State.Keeps.tstWrite {r : Nat} (h : s.Keeps t) : s.Keeps (t.tstWrite w r v) := by
  unfold State.tstWrite
  split
  · exact h.tstCtlWrite
  · exact .ite h.spViol (.ite h (.ite h.wr.tstLook h.tstRefuse))
  · exact h.tstSetWrite

/-! ### Register accesses -/

theorem State.Keeps.writeSys (h : s.Keeps t) : s.Keeps (t.writeSys w a v) :=
  .ite h.modeRequest (.ite h.rstreqWrite (.ite h.corerstWrite (.ite h.keyWrite h.plainWrite)))

theorem State.Keeps.writeTick (h : s.Keeps t) : s.Keeps (t.writeTick w a v) := .ite h.tickWrite (.ite h.doneWrite h.plainWrite)

theorem State.Keeps.writeTmr (h : s.Keeps t) : s.Keeps (t.writeTmr w a v) := by
  refine .ite h.gstartWrite (.ite h.tmrStop ?_)
  split
  · exact .ite h.tmrCtlWrite (.ite h.tmrCountWrite
      (.ite h.tmrReloadWrite (.ite h.tmrCmpWrite (.ite h.plainWrite h.plainWrite))))
  · exact h.plainWrite

theorem State.Keeps.writePwm (h : s.Keeps t) : s.Keeps (t.writePwm w a v) := by
  unfold State.writePwm
  split
  · exact .ite h.quadCfgWrite (.ite h.swtripWrite h.plainWrite)
  · exact .ite h.dutyWrite (.ite h.axCtlWrite h.plainWrite)
  · exact h.plainWrite

theorem State.Keeps.writeAdc (h : s.Keeps t) : s.Keeps (t.writeAdc w a v) := by
  refine .ite h.calReq ?_
  split
  · exact .ite h.sampWrite h.plainWrite
  · exact h.plainWrite

theorem State.Keeps.writeCmp (h : s.Keeps t) : s.Keeps (t.writeCmp w a v) := by
  refine .ite h.compClrAll ?_
  split
  · exact .ite h.compRouteWrite h.spViol
  · exact .ite h.compStatWrite (.ite h.plainWrite (.ite h.spViol (.ite h.compThrWrite h.compCfgWrite)))
  · exact h.plainWrite

theorem State.Keeps.writeLe (h : s.Keeps t) : s.Keeps (t.writeLe w a v) := by
  refine .ite h.commitWrite (.ite h.learnCtlWrite (.ite h.learnBufWrite ?_))
  split
  · exact .ite h.leCtlWrite (.ite h.spWrite (.ite h.sealWrite (.ite h.paramWrite h.plainWrite)))
  · exact h.plainWrite

theorem State.Keeps.writeFb (h : s.Keeps t) : s.Keeps (t.writeFb w a v) := by
  unfold State.writeFb
  split
  · exact .ite h.emuCtlWrite h.plainWrite
  · split
    · exact h.fbCfgWrite
    · exact .ite h.fbCmdWrite h.plainWrite
  · exact h.plainWrite

theorem State.Keeps.writeEvr (h : s.Keeps t) : s.Keeps (t.writeEvr w a v) := by
  refine .ite h (.ite h.evrFireWrite (.ite h.evrFireWrite (.ite h.grpEnWrite (.ite h.evrGrpWrite ?_))))
  split
  · exact .ite h.evrCfgWrite (.ite h.evrSrcWrite (.ite h.evrLinkWrite h.evrStatWrite))
  · exact h.plainWrite

theorem State.Keeps.writePwr (h : s.Keeps t) : s.Keeps (t.writePwr w a v) :=
  .ite h.pwrCtlWrite (.ite h.supctlWrite (.ite h.brkCtlWrite (.ite h.brkStatWrite h.plainWrite)))

theorem State.Keeps.writeIcu {o : Nat} (h : s.Keeps t) : s.Keeps (t.writeIcu w c o v) :=
  .ite h.icuEoi (.ite h.icuSwi (.ite h.icuPendWrite (.ite h.icuCfgWrite (.ite h.icuGrpWrite h.plainWrite))))

theorem State.Keeps.writeDma (h : s.Keeps t) : s.Keeps (t.writeDma w a v) := by
  refine .ite h (.ite h.dmaGstart (.ite h.dmaAbortAll (.ite h.plainWrite.dmaKick ?_)))
  split
  · exact .ite h.dmaCtlWrite (.ite h.dmaRegWrite h.plainWrite)
  · exact h.plainWrite

theorem State.Keeps.writeFlc (h : s.Keeps t) : s.Keeps (t.writeFlc w a v) := by
  refine .ite h.plainWrite.flcKick ?_
  split
  · exact .ite h.flcCtlWrite (.ite h.flcRegWrite h)
  · exact h.plainWrite

theorem State.Keeps.writeFab (h : s.Keeps t) : s.Keeps (t.writeFab w a v) := by
  refine .ite h.fabCfgWrite (.ite h.cycCfgWrite (.ite h.routeWrite ?_))
  split
  · exact .ite h.portCtlWrite h.plainWrite
  · exact .ite h.sessCloseWrite h.plainWrite
  · exact h.plainWrite

theorem State.Keeps.writeCry (h : s.Keeps t) : s.Keeps (t.writeCry w a v) := .ite h.cryCommand (.ite h h.plainWrite)

theorem State.Keeps.writeAon (h : s.Keeps t) : s.Keeps (t.writeAon w a v) := by
  refine .ite h.padWrite ?_
  split
  · exact h.cwdService
  · exact (Keeps.ite h.plainWrite.dioActions (.ite h.plainWrite.on h.plainWrite)).dioFollowAll

theorem State.Keeps.writeDbg (h : s.Keeps t) : s.Keeps (t.writeDbg w a v) := by
  refine .ite h.dbgCtlWrite (.ite h.authWrite ?_)
  split
  · exact h.sigWrite
  · exact .ite h.dbgCmdWrite (.ite h.txdWrite (.ite h.rxdWrite h.dbgCoreWrite))
  · exact h.plainWrite

theorem State.Keeps.writeTst (h : s.Keeps t) : s.Keeps (t.writeTst w a v) := by
  unfold State.writeTst
  split
  · exact h.tstWrite
  · exact h

theorem State.Keeps.writeSaf (h : s.Keeps t) : s.Keeps (t.writeSaf w a v) := by
  refine .ite h.gateenWrite (.ite h.stoctlWrite
    (.ite h.ackWrite (.ite h.mwdtService (.ite h.faultClear (.ite h.noteWrite ?_)))))
  split
  · exact h.cwdWrite
  · exact h.writeIcu
  · exact h.plainWrite

theorem State.Keeps.regWrite (h : s.Keeps t) : s.Keeps (t.regWrite w a v) := by
  unfold State.regWrite
  split
  · exact h.writeSys
  · exact h.writeTick
  · exact h.writeTmr
  · exact h.writePwm
  · exact h.writeAdc
  · exact h.writeCmp
  · exact h.writeLe
  · exact h.writeFb
  · exact h.writeEvr
  · exact h.writePwr
  · split
    · exact h.writeIcu
    · exact h
  · exact h.writeDma
  · exact h.writeFlc
  · exact h.writeFab
  · exact h.writeAon
  · exact h.writeDbg
  · exact h.writeTst
  · exact h.writeCry
  · exact h.writeSaf
  · exact h.plainWrite

theorem State.Keeps.busWrite (h : s.Keeps t) : s.Keeps (t.busWrite w a v).2 :=
  .iteSnd h (.iteSnd h (.iteSnd h (.iteSnd h.spViol (.iteSnd h.modeRequest (.iteSnd (.ite h.spViol h) h.regWrite)))))

theorem State.Keeps.icuRead {r : Writer} {o : Nat} (h : s.Keeps t) : s.Keeps (t.icuRead r c o).2 :=
  .iteSnd h.icuClaim (.iteSnd h h)

theorem State.Keeps.regRead {r : Writer} (h : s.Keeps t) : s.Keeps (t.regRead r a).2 := by
  refine .iteSnd h.nsRead (.iteSnd h.flcAlloc ?_)
  split
  · split
    · exact .iteSnd h.capRead (.iteSnd h.capRead h)
    · exact h
  · split
    · exact .iteSnd h.iuRead h
    · exact h
  · split
    · exact .iteSnd h.possRead h
    · exact h
  · split
    · exact h.icuRead
    · exact h
  · split
    · exact .iteSnd h.rxdRead h
    · exact h
  · split
    · exact h.icuRead
    · exact h
  · exact h

theorem State.Keeps.busRead {r : Writer} (h : s.Keeps t) : s.Keeps (t.busRead r a).2.2 :=
  .iteTrd h (.iteTrd h (.iteTrd h h.regRead))

/-! ### The DMA engine -/

theorem State.Keeps.locRead {r : Writer} (h : s.Keeps t) : s.Keeps (t.locRead r a n).2.2 :=
  .iteTrd h (.iteTrd (.iteTrd h.busRead h) (.iteTrd h h.memRead))

theorem State.Keeps.locWrite {l : List Byte} (h : s.Keeps t) : s.Keeps (t.locWrite w a l).2 := by
  refine .iteSnd h (.iteSnd (.iteSnd h.busWrite h) (.iteSnd h.memWrite ?_))
  split
  · exact .ite h.spViol h
  · exact h

theorem State.Keeps.farSend {x : FarOp} (h : s.Keeps t) : s.Keeps (t.farSend x) := .ite h.update.after.sendTo h.update.after

theorem State.Keeps.farFail {status addr : Nat} (h : s.Keeps t) : s.Keeps (t.farFail status addr) :=
  have h2 := Keeps.ite h.wr.wr.inc (.ite h.wr.wr.inc h.wr.wr)
  .ite h2 h2.on.irq

theorem State.Keeps.farDrop {i : Nat} (h : s.Keeps t) : s.Keeps (t.farDrop i) := h.update.cancel

theorem State.Keeps.dmaReadFail {cause addr : Nat} (h : s.Keeps t) : s.Keeps (t.dmaReadFail n cause addr) := h.update.dmaKick

theorem State.Keeps.dmaTake {l : List (List Byte)} (h : s.Keeps t) : s.Keeps (t.dmaTake n l) := by
  induction l generalizing t with
  | nil => exact h
  | cons x l ih => exact ih h.update.setReg

theorem State.Keeps.execDmaElementRead {n : Fin 16} (h : s.Keeps t) : s.Goes (execDmaElementRead n t) := by
  refine .ite (.ok h.cancel) ?_
  dsimp only
  split
  · exact .ok h.cancel.dmaReadFail
  · refine .ite (.ok h.cancel.farSend.dmaKick) ?_
    split
    · exact .ok h.cancel.locRead.dmaReadFail
    · exact .ok h.cancel.locRead.dmaTake.dmaKick

theorem State.Keeps.dmaAdvance (h : s.Keeps t) : s.Keeps (t.dmaAdvance n k) := h.foldl fun _ _ k => k.setReg.wr

theorem State.Keeps.dmaSettle (h : s.Keeps t) : s.Keeps (t.dmaSettle n) := (Keeps.ite h.dmaDone h).dmaKick

theorem State.Keeps.dmaPut {src : Nat} {l : List Byte} (h : s.Keeps t) : s.Keeps (t.dmaPut n src l) := by
  unfold State.dmaPut
  dsimp only
  split
  · exact h.dmaError.dmaKick
  · refine .ite h.update.farSend.dmaKick ?_
    split
    · exact .ite h.locWrite.dmaError.dmaKick h.locWrite.update.dmaAdvance.dmaSettle
    · exact h.locWrite.update.dmaAdvance.dmaSettle

theorem State.Keeps.dmaElementWrite {n : Fin 16} (h : s.Keeps t) : s.Keeps (t.dmaElementWrite n) := by
  unfold State.dmaElementWrite
  dsimp only
  split
  · exact h.cancel
  · exact .ite h.cancel (.ite h.cancel.dmaError.dmaKick h.cancel.dmaPut)

theorem State.Keeps.execDmaElementWrite {n : Fin 16} (h : s.Keeps t) : s.Goes (execDmaElementWrite n t) := .ok h.dmaElementWrite

theorem State.Keeps.dmaFirst (h : s.Keeps t) : s.Keeps t.dmaFirst :=
  h.upto (fun _ _ k => .ite k.update.dmaElementWrite.update k)

theorem State.Keeps.ranked (h : s.Keeps t) : s.Keeps (t.ranked w a) := by
  unfold State.ranked
  split
  · exact h.dmaFirst
  · exact h.dmaFirst
  · exact h.dmaFirst
  · exact .ite h.dmaFirst h

theorem State.Keeps.dmaFarEnd {op : FarOp} {status done : Nat} {data : List Byte} (h : s.Keeps t) :
    s.Keeps (t.dmaFarEnd n op status done data) :=
  .ite (.ite (.ite (.ite h.dmaAdvance.dmaSetBusy.dmaDone
    ((Keeps.ite h.dmaAdvance.dmaSetBusy.setReg h.dmaAdvance.dmaSetBusy).on)) h.dmaAdvance.dmaSettle)
      h.dmaAdvance.dmaDiscard.setReg.dmaError.dmaKick) (.ite h.dmaTake.dmaKick h.dmaReadFail)

theorem State.Keeps.windowAfter {u : State} (h : s.Keeps u) : s.Keeps (windowAfter w t u) := by
  unfold Sys2Proof.Machine.windowAfter
  split
  · exact .ite h.windowClose h
  · exact .ite h.windowClose h
  · exact h

theorem State.Keeps.cmdWrite (h : s.Keeps t) : s.Keeps (t.cmdWrite w a v) := h.ranked.busWrite.windowAfter

theorem State.Keeps.cmdRead {r : Writer} (h : s.Keeps t) : s.Keeps (t.cmdRead r a) := h.busRead.windowAfter.update

/-! ### Core traps and boundaries -/

theorem State.Keeps.setPhys {i : Nat} (h : s.Keeps t) : s.Keeps (t.setPhys c i v) := h.setCore

theorem State.Keeps.setR {r : BitVec 6} (h : s.Keeps t) : s.Keeps (t.setR c r v) := h.setPhys

theorem State.Keeps.setRun {r : CoreRun} (h : s.Keeps t) : s.Keeps (t.setRun c r) := h.setCore

theorem State.Keeps.writeSreg (h : s.Keeps t) : s.Keeps (t.writeSreg c n v) := h.setSreg

theorem State.Keeps.fetchAt (h : s.Keeps t) : s.Keeps (t.fetchAt c a).2 := by
  unfold State.fetchAt
  split
  · exact h
  · refine Keeps.foldlSnd h fun y z k => ?_
    obtain ⟨_ | _, u⟩ := y
    · exact k.eccRead
    · exact k

theorem State.Keeps.setWbGroup {g : Nat} (h : s.Keeps t) : s.Keeps (t.setWbGroup c g) := h.setSreg

theorem State.Keeps.setWsp {a : Word} (h : s.Keeps t) : s.Keeps (t.setWsp c a) := h.setSreg

theorem State.Keeps.setWdepth (h : s.Keeps t) : s.Keeps (t.setWdepth c n) := h.setSreg

theorem State.Keeps.setResBelow (h : s.Keeps t) : s.Keeps (t.setResBelow c n) := h.setSreg

theorem State.Keeps.setPendErr {b : Bool} (h : s.Keeps t) : s.Keeps (t.setPendErr c b) := h.setSreg

theorem State.Keeps.setWcause (h : s.Keeps t) : s.Keeps (t.setWcause c n) := h.setSreg

theorem State.Keeps.policyLater (h : s.Keeps t) : s.Keeps (t.policyLater c) := .ite h (.ite h.after (.ite h.after h))

theorem State.Keeps.saveSet {spc sps : Word} (h : s.Keeps t) : s.Keeps (t.saveSet c n spc sps) := h.setSreg.setSreg

theorem State.Keeps.enterAt {i : Nat} (h : s.Keeps t) : s.Keeps (t.enterAt c i) := h.setCore.windowClose

theorem State.Keeps.lockup (h : s.Keeps t) : s.Keeps (t.lockup c) := .ite h.setRun.update.stoAssert h.setRun.irqS

theorem State.Keeps.faultRegs {cause level esc : Nat} {addr : Option Nat} (h : s.Keeps t) :
    s.Keeps (t.faultRegs c cause level esc addr) := by
  unfold State.faultRegs
  extract_lets x
  have hx : s.Keeps x.2 := by
    unfold x
    split
    · exact h
    · exact h.fresh
  exact hx.wr.wr.wr.wrb.setReg

theorem State.Keeps.escalateAs {code : Nat} {spc sps : Word} {addr : Option Nat} (h : s.Keeps t) :
    s.Keeps (t.escalateAs c code spc sps addr) :=
  .ite h.lockup h.saveSet.faultRegs.setSreg.setSreg.setSreg.setPsr.enterAt.policyLater

theorem State.Keeps.escalate {code : Nat} {spc : Word} {addr : Option Nat} (h : s.Keeps t) :
    s.Keeps (t.escalate c code spc addr) :=
  h.escalateAs

theorem State.Keeps.exception {e : Exc} {spc : Word} {addr : Option Nat} (h : s.Keeps t) :
    s.Keeps (t.exception c e spc addr) := by
  refine .ite h.lockup (.ite h.escalate ?_)
  split
  · exact h.escalate
  · exact h.saveSet.faultRegs.setPsr.enterAt

theorem State.Keeps.takeInterrupt {m : Nat} (h : s.Keeps t) : s.Keeps (t.takeInterrupt c m) := by
  unfold State.takeInterrupt
  split
  · exact h.escalate
  · exact h.saveSet.setPsr.enterAt

theorem State.Keeps.monitorEnter {causes : Nat} {spc : Word} (h : s.Keeps t) : s.Keeps (t.monitorEnter c causes spc) := by
  unfold State.monitorEnter
  split
  · exact h.escalate
  · exact (Keeps.ite h.saveSet.wr.on.off0.off0 h.saveSet.wr.on.off0).setCore.setPsr.enterAt

theorem State.Keeps.afterInstruction {acc : List Done} {stepped : Bool} (h : s.Keeps t) :
    s.Keeps (t.afterInstruction c acc stepped) := by
  unfold State.afterInstruction
  split
  · exact .ite h.wr.wr.monitorEnter h.on
  · exact .ite h.monitorEnter h

theorem State.Keeps.finish {pc : Word} {acc : List Done} (h : s.Keeps t) : s.Keeps (t.finish c pc acc) :=
  .ite h.setCore.afterInstruction h

theorem State.Keeps.conclude {o : ZOut} (k : s.Keeps o.state) : s.Keeps (t.conclude c o) := by
  cases o with
  | done => exact .ite k k.finish
  | jump => exact k.finish
  | again => exact k.finish
  | raise u =>
    have k : s.Keeps u := k
    unfold State.conclude
    exact k.exception.afterInstruction
  | left => exact k

theorem State.Keeps.atBoundary (h : s.Keeps t) : s.Keeps (t.atBoundary c).1 :=
  have h0 := Keeps.ite h.off0.on h
  by unfold State.atBoundary; dsimp only; split; exacts [.iteFst h0.wr.monitorEnter h0.on, .iteFst h0.monitorEnter h0]

theorem State.Keeps.instruction {ill sup : Bool} {effect : State → ZOut} (h : s.Keeps t)
    (k : ∀ u, s.Keeps u → s.Keeps (effect u).state) : s.Keeps (t.instruction c ill sup effect) := by
  have hr : s.Keeps (t.setRun c .running) := h.setRun
  refine .ite h (.ite hr.takeInterrupt (.ite hr.atBoundary (.ite hr.atBoundary.monitorEnter ?_)))
  dsimp only
  split
  · exact .conclude hr.atBoundary.fetchAt
  · exact .ite (.conclude hr.atBoundary.fetchAt)
      (.ite (.conclude hr.atBoundary.fetchAt) (.conclude (k _ hr.atBoundary.fetchAt)))

/-! ### Core memory accesses -/

theorem State.Keeps.drainOne (h : s.Keeps t) : s.Keeps (t.drainOne c) := by
  unfold State.drainOne
  split
  · exact h
  · exact h.setCore.memWrite.setCore

theorem State.Keeps.drainN (h : s.Keeps t) : s.Keeps (t.drainN c n) := by
  induction n generalizing t with
  | zero => exact h
  | succ n ih => exact ih h.drainOne

theorem State.Keeps.drain (h : s.Keeps t) : s.Keeps (t.drain c) := h.drainN.cancel

theorem State.Keeps.drainFor {x : Nat} (h : s.Keeps t) : s.Keeps (t.drainFor c x n) := .ite h.drain h.drainN

theorem State.Keeps.bufferPush {l : List Byte} (h : s.Keeps t) : s.Keeps (t.bufferPush c a l) :=
  have h1 := Keeps.ite h.drainOne h
  .ite h1.setCore h1.setCore.after

theorem State.Keeps.execStoreBufferDrain {c : Fin 5} (h : s.Keeps t) : s.Goes (execStoreBufferDrain c t) :=
  .ok (.ite h.cancel.drainOne h.cancel.drainOne.after)

theorem State.Keeps.stall (h : s.Keeps t) : s.Keeps (t.stall c n) := h.setSreg

theorem State.Keeps.stallFor (h : s.Keeps t) : s.Keeps (t.stallFor c a n) := .ite h h.fresh.stall

theorem State.Keeps.loadParts {mem : Bool} (h : s.Keeps t) : s.Keeps (t.loadParts c a n mem).2 := by
  refine Keeps.foldlSnd h fun y z k => ?_
  obtain ⟨_ | _, u⟩ := y
  · refine .iteSnd k (.iteSnd ?_ k)
    split
    · next e => exact k.readPart.ofSnd e
    · next e => exact k.readPart.ofSnd e
  · exact k

theorem State.Keeps.zLoad (h : s.Keeps t) : s.Keeps (t.zLoad c a n).state := by
  refine .iteMem h (.iteMem h (.iteMem (.iteMem h.drain h) (.iteMem (.iteMem h h.drain.busRead) ?_)))
  refine .iteMem ?_ ?_
  · split
    · next e => exact h.loadParts.ofSnd e
    · next e => exact h.loadParts.ofSnd e
  · dsimp only
    split
    · next e => exact (Keeps.ite h.drain h.drainFor).loadParts.ofSnd e
    · next e => exact ((Keeps.ite h.drain h.drainFor).loadParts.ofSnd e).stallFor

theorem State.Keeps.zStore {l : List Byte} (h : s.Keeps t) : s.Keeps (t.zStore c a l).state := by
  refine .iteMem h (.iteMem h (.iteMem (.iteMem h.drain h) (.iteMem (.iteMem h h.drain.ranked.busWrite) ?_)))
  dsimp only
  split
  · exact h
  · refine .iteMem h.memWrite.stallFor (Keeps.foldl ?_ fun _ _ k => k.bufferPush)
    split
    · exact .ite h.resvClear h
    · exact h

theorem State.Keeps.coreFar {op : FarOp} (h : s.Keeps t) : s.Keeps (t.coreFar c op) :=
  (Keeps.ite h.fresh.stall h).setRun.farSend

theorem State.Keeps.loadInsn {sx : Bool} {rd : BitVec 6} (h : s.Keeps t) : s.Keeps (t.loadInsn c n sx rd a).state := by
  unfold State.loadInsn
  split
  · next e => exact (h.zLoad.ofMem e).setR
  · next e => exact h.zLoad.ofMem e
  · next e => exact (h.zLoad.ofMem e).coreFar

theorem State.Keeps.storeInsn (h : s.Keeps t) : s.Keeps (t.storeInsn c n v a).state := by
  unfold State.storeInsn
  split
  · next e => exact h.zStore.ofMem e
  · next e => exact h.zStore.ofMem e
  · next e => exact (h.zStore.ofMem e).coreFar

theorem State.Keeps.loadLink {rd : BitVec 6} (h : s.Keeps t) : s.Keeps (t.loadLink c rd a).state := by
  refine .iteOut h (.iteOut h (.iteOut h ?_))
  split
  · next e => exact (h.zLoad.ofMem e).setCore.setR
  · next e => exact h.zLoad.ofMem e
  · next e => exact h.zLoad.ofMem e

theorem State.Keeps.storeCond {rd : BitVec 6} (h : s.Keeps t) : s.Keeps (t.storeCond c rd v a).state := by
  refine .iteOut h (.iteOut h (.iteOut h ?_))
  split
  · exact h
  · exact .iteOut h.drain.memWrite.stallFor.resvClear.setR h.drain.resvClear.setR

/-! ### Register windows -/

theorem State.Keeps.stallOpen (h : s.Keeps t) : s.Keeps (t.stallOpen c a) := .ite h h.fresh.stall

theorem State.Keeps.spill {u : State} (h : s.Keeps t) (e : t.spill c = some u) : s.Keeps u := by
  unfold State.spill at e
  split at e
  · cases e
  · obtain rfl := Option.some.inj e
    exact h.memWrite.setWsp.setWdepth.setResBelow.setPendErr.stallOpen

theorem State.Keeps.loadGroup {g : Nat} {l : List Byte} (h : s.Keeps t) : s.Keeps (t.loadGroup c g l) :=
  h.upto (fun _ _ k => k.setPhys)

theorem State.Keeps.fill (h : s.Keeps t) : s.Keeps (t.fill c).2 :=
  .iteSnd h (.iteSnd h.drain (.iteSnd h.drain.eccRead h.drain.eccRead))

theorem State.Keeps.filled {u : State} (h : s.Keeps t) (e : (t.fill c).1 = some u) : s.Keeps u := by
  unfold State.fill at e
  split at e
  · cases e
  · dsimp only at e
    split at e
    · cases e
    · split at e
      · cases e
      · obtain rfl := Option.some.inj e
        exact h.drain.eccRead.loadGroup.setWsp.setWdepth.setResBelow.setPendErr.stallOpen

theorem State.Keeps.policySpill (h : s.Keeps t) : s.Keeps (t.policySpill c) := by
  unfold State.policySpill
  split
  · next e => exact h.spill e
  · exact h.setPendErr

theorem State.Keeps.policyFill (h : s.Keeps t) : s.Keeps (t.policyFill c) := by
  unfold State.policyFill
  split
  · next e => exact h.filled (congrArg Prod.fst e)
  · next e => exact (h.fill.ofSnd e).setPendErr

theorem State.Keeps.policyNow (h : s.Keeps t) : s.Keeps (t.policyNow c n) := by
  induction n generalizing t with
  | zero => exact h
  | succ n ih => exact .ite h (.ite (ih h.policySpill) (.ite (ih h.policyFill) h))

theorem State.Keeps.policy (h : s.Keeps t) : s.Keeps (t.policy c) := .ite h.policyNow h.policyLater

theorem State.Keeps.execWindowSpill {c : Fin 5} (h : s.Keeps t) : s.Goes (execWindowSpill c t) :=
  .ite (.ok h.cancel) (.ok h.cancel.policySpill.policyLater)

theorem State.Keeps.execWindowFill {c : Fin 5} (h : s.Keeps t) : s.Goes (execWindowFill c t) :=
  .ite (.ok h.cancel) (.ok h.cancel.policyFill.policyLater)

theorem State.Keeps.freeUp {need : Nat} {u : State} (h : s.Keeps t) (e : t.freeUp c need n = some u) : s.Keeps u := by
  induction n generalizing t with
  | zero => exact Option.some.inj e ▸ h
  | succ n ih =>
    unfold State.freeUp at e
    split at e
    · exact Option.some.inj e ▸ h
    · split at e
      · next e2 => exact ih (h.spill e2) e
      · cases e

theorem State.Keeps.fillUp {need : Nat} (h : s.Keeps t) : s.Keeps (t.fillUp c need n).2 := by
  induction n generalizing t with
  | zero => exact h
  | succ n ih =>
    refine .iteSnd h (.iteSnd h ?_)
    split
    · next e => exact ih (h.filled (congrArg Prod.fst e))
    · next e => exact h.fill.ofSnd e

theorem State.Keeps.call {target : Word} (h : s.Keeps t) : s.Keeps (t.call c k target).state := by
  unfold State.call
  split
  · exact h.setPendErr.setWcause
  · next e => exact (h.freeUp e).setWbGroup.setResBelow.setR.policy

theorem State.Keeps.ret (h : s.Keeps t) : s.Keeps (t.ret c).state := by
  refine .iteOut h ?_
  split
  · next e =>
    have k := h.fillUp.ofSnd e
    exact (Keeps.ite k.setPendErr k).setWcause
  · next e => exact (h.fillUp.ofSnd e).setWbGroup.setResBelow.policy

/-! ### Instructions of the ALU -/

theorem State.Keeps.alu {f : Fields} {op : Word → Word → Word} (h : s.Keeps t) : s.Keeps (t.alu c f op) :=
  h.instruction (fun _ k => k.setR)

theorem State.Keeps.aluImm {f : Fields} {bad : Bool} {op : Word → Word} (h : s.Keeps t) : s.Keeps (t.aluImm c f bad op) :=
  h.instruction (fun _ k => k.setR)

theorem State.Keeps.execNop {c : Fin 5} {f : Fields} (h : s.Keeps t) : s.Goes (execNop c f t) :=
  .ok (h.instruction (fun _ k => k))

theorem State.Keeps.execAdd {c : Fin 5} {f : Fields} (h : s.Keeps t) : s.Goes (execAdd c f t) := .ok h.alu

theorem State.Keeps.execSub {c : Fin 5} {f : Fields} (h : s.Keeps t) : s.Goes (execSub c f t) := .ok h.alu

theorem State.Keeps.execAdds {c : Fin 5} {f : Fields} (h : s.Keeps t) : s.Goes (execAdds c f t) := .ok h.alu

theorem State.Keeps.execSubs {c : Fin 5} {f : Fields} (h : s.Keeps t) : s.Goes (execSubs c f t) := .ok h.alu

theorem State.Keeps.execAnd {c : Fin 5} {f : Fields} (h : s.Keeps t) : s.Goes (execAnd c f t) := .ok h.alu

theorem State.Keeps.execOr {c : Fin 5} {f : Fields} (h : s.Keeps t) : s.Goes (execOr c f t) := .ok h.alu

theorem State.Keeps.execXor {c : Fin 5} {f : Fields} (h : s.Keeps t) : s.Goes (execXor c f t) := .ok h.alu

theorem State.Keeps.execAndn {c : Fin 5} {f : Fields} (h : s.Keeps t) : s.Goes (execAndn c f t) := .ok h.alu

theorem State.Keeps.execSll {c : Fin 5} {f : Fields} (h : s.Keeps t) : s.Goes (execSll c f t) := .ok h.alu

theorem State.Keeps.execSrl {c : Fin 5} {f : Fields} (h : s.Keeps t) : s.Goes (execSrl c f t) := .ok h.alu

theorem State.Keeps.execSra {c : Fin 5} {f : Fields} (h : s.Keeps t) : s.Goes (execSra c f t) := .ok h.alu

theorem State.Keeps.execCmpeq {c : Fin 5} {f : Fields} (h : s.Keeps t) : s.Goes (execCmpeq c f t) := .ok h.alu

theorem State.Keeps.execCmplt {c : Fin 5} {f : Fields} (h : s.Keeps t) : s.Goes (execCmplt c f t) := .ok h.alu

theorem State.Keeps.execCmpltu {c : Fin 5} {f : Fields} (h : s.Keeps t) : s.Goes (execCmpltu c f t) := .ok h.alu

theorem State.Keeps.execMin {c : Fin 5} {f : Fields} (h : s.Keeps t) : s.Goes (execMin c f t) := .ok h.alu

theorem State.Keeps.execMax {c : Fin 5} {f : Fields} (h : s.Keeps t) : s.Goes (execMax c f t) := .ok h.alu

theorem State.Keeps.execMul {c : Fin 5} {f : Fields} (h : s.Keeps t) : s.Goes (execMul c f t) := .ok h.alu

theorem State.Keeps.execMulh {c : Fin 5} {f : Fields} (h : s.Keeps t) : s.Goes (execMulh c f t) := .ok h.alu

theorem State.Keeps.execMulhu {c : Fin 5} {f : Fields} (h : s.Keeps t) : s.Goes (execMulhu c f t) := .ok h.alu

theorem State.Keeps.execDiv {c : Fin 5} {f : Fields} (h : s.Keeps t) : s.Goes (execDiv c f t) := .ok h.alu

theorem State.Keeps.execDivu {c : Fin 5} {f : Fields} (h : s.Keeps t) : s.Goes (execDivu c f t) := .ok h.alu

theorem State.Keeps.execRem {c : Fin 5} {f : Fields} (h : s.Keeps t) : s.Goes (execRem c f t) := .ok h.alu

theorem State.Keeps.execRemu {c : Fin 5} {f : Fields} (h : s.Keeps t) : s.Goes (execRemu c f t) := .ok h.alu

theorem State.Keeps.execMulf {c : Fin 5} {f : Fields} (h : s.Keeps t) : s.Goes (execMulf c f t) :=
  .ok (h.instruction (fun _ k => k.setR))

theorem State.Keeps.execMacf {c : Fin 5} {f : Fields} (h : s.Keeps t) : s.Goes (execMacf c f t) :=
  .ok (h.instruction (fun _ k => k.setR))

theorem State.Keeps.execClz {c : Fin 5} {f : Fields} (h : s.Keeps t) : s.Goes (execClz c f t) :=
  .ok (h.instruction (fun _ k => k.setR))

theorem State.Keeps.execExtb {c : Fin 5} {f : Fields} (h : s.Keeps t) : s.Goes (execExtb c f t) :=
  .ok (h.instruction (fun _ k => k.setR))

theorem State.Keeps.execInsb {c : Fin 5} {f : Fields} (h : s.Keeps t) : s.Goes (execInsb c f t) :=
  .ok (h.instruction (fun _ k => k.setR))

theorem State.Keeps.execPerm {c : Fin 5} {f : Fields} (h : s.Keeps t) : s.Goes (execPerm c f t) :=
  .ok (h.instruction (fun _ k => k.setR))

theorem State.Keeps.execAddi {c : Fin 5} {f : Fields} (h : s.Keeps t) : s.Goes (execAddi c f t) := .ok h.aluImm

theorem State.Keeps.execAndi {c : Fin 5} {f : Fields} (h : s.Keeps t) : s.Goes (execAndi c f t) := .ok h.aluImm

theorem State.Keeps.execOri {c : Fin 5} {f : Fields} (h : s.Keeps t) : s.Goes (execOri c f t) := .ok h.aluImm

theorem State.Keeps.execXori {c : Fin 5} {f : Fields} (h : s.Keeps t) : s.Goes (execXori c f t) := .ok h.aluImm

theorem State.Keeps.execSlli {c : Fin 5} {f : Fields} (h : s.Keeps t) : s.Goes (execSlli c f t) := .ok h.aluImm

theorem State.Keeps.execSrli {c : Fin 5} {f : Fields} (h : s.Keeps t) : s.Goes (execSrli c f t) := .ok h.aluImm

theorem State.Keeps.execSrai {c : Fin 5} {f : Fields} (h : s.Keeps t) : s.Goes (execSrai c f t) := .ok h.aluImm

theorem State.Keeps.execCmpeqi {c : Fin 5} {f : Fields} (h : s.Keeps t) : s.Goes (execCmpeqi c f t) := .ok h.aluImm

theorem State.Keeps.execCmplti {c : Fin 5} {f : Fields} (h : s.Keeps t) : s.Goes (execCmplti c f t) := .ok h.aluImm

theorem State.Keeps.execCmpltui {c : Fin 5} {f : Fields} (h : s.Keeps t) : s.Goes (execCmpltui c f t) := .ok h.aluImm

theorem State.Keeps.execLdhi {c : Fin 5} {f : Fields} (h : s.Keeps t) : s.Goes (execLdhi c f t) :=
  .ok (h.instruction (fun _ k => k.setR))

theorem State.Keeps.execLdi {c : Fin 5} {f : JFields} (h : s.Keeps t) : s.Goes (execLdi c f t) :=
  .ok (h.instruction (fun _ k => k.setR))

/-! ### Loads, stores and block instructions -/

theorem State.Keeps.loads {sx : Bool} {f : Fields} (h : s.Keeps t) : s.Keeps (t.loads c n sx f) :=
  h.instruction (fun _ k => k.loadInsn)

theorem State.Keeps.stores {f : Fields} (h : s.Keeps t) : s.Keeps (t.stores c n f) := h.instruction (fun _ k => k.storeInsn)

theorem State.Keeps.execLd1 {c : Fin 5} {sx : Bool} {f : Fields} (h : s.Keeps t) : s.Goes (execLd1 c sx f t) := .ok h.loads

theorem State.Keeps.execLd2 {c : Fin 5} {sx : Bool} {f : Fields} (h : s.Keeps t) : s.Goes (execLd2 c sx f t) := .ok h.loads

theorem State.Keeps.execLd6 {c : Fin 5} {f : Fields} (h : s.Keeps t) : s.Goes (execLd6 c f t) := .ok h.loads

theorem State.Keeps.execSt1 {c : Fin 5} {f : Fields} (h : s.Keeps t) : s.Goes (execSt1 c f t) := .ok h.stores

theorem State.Keeps.execSt2 {c : Fin 5} {f : Fields} (h : s.Keeps t) : s.Goes (execSt2 c f t) := .ok h.stores

theorem State.Keeps.execSt6 {c : Fin 5} {f : Fields} (h : s.Keeps t) : s.Goes (execSt6 c f t) := .ok h.stores

theorem State.Keeps.execLdl {c : Fin 5} {f : Fields} (h : s.Keeps t) : s.Goes (execLdl c f t) :=
  .ok (h.instruction (fun _ k => k.loadLink))

theorem State.Keeps.execStc {c : Fin 5} {f : Fields} (h : s.Keeps t) : s.Goes (execStc c f t) :=
  .ok (h.instruction (fun _ k => k.storeCond))

theorem State.Keeps.movePointer {r : BitVec 6} {back : Bool} (h : s.Keeps t) : s.Keeps (t.movePointer c r back) := h.setR

theorem State.Keeps.blockNext {f : Fields} {acc : List Done} {ra back : Bool} (h : s.Keeps t) :
    s.Keeps (t.blockNext c f acc ra back).state :=
  have h2 := Keeps.ite h.movePointer.movePointer h.movePointer
  .iteOut h2.setR h2.setR

theorem State.Keeps.blockLoad {kind i : Nat} {f : Fields} {got : List Word} {g : State → Word → List Word → ZOut} (h : s.Keeps t)
    (k : ∀ u x l, s.Keeps u → s.Keeps (g u x l).state) : s.Keeps (t.blockLoad c kind i f got a g).state := by
  unfold State.blockLoad
  split
  · exact k _ _ _ h
  · split
    · next e => exact k _ _ _ (h.zLoad.ofMem e)
    · next e => exact h.zLoad.ofMem e
    · next e => exact (h.zLoad.ofMem e).coreFar

theorem State.Keeps.blockStore {kind i : Nat} {f : Fields} {got : List Word} {u : State} {g : State → ZOut} (h : s.Keeps t)
    (hu : s.Keeps u) (k : ∀ x, s.Keeps x → s.Keeps (g x).state) : s.Keeps (t.blockStore u c kind i f got a v g).state := by
  unfold State.blockStore
  split
  · exact k _ hu
  · split
    · next e => exact k _ (hu.zStore.ofMem e)
    · exact h
    · next e => exact (hu.zStore.ofMem e).coreFar

theorem State.Keeps.blockStep {kind : Nat} {f : Fields} {got : List Word} (h : s.Keeps t) :
    s.Keeps (t.blockStep c kind f got).state :=
  .iteOut h (.iteOut
    (.iteOut h (.iteOut h
      (h.blockLoad fun _ _ _ k => h.blockStore k fun _ k => k.blockNext)))
   
    (.iteOut (h.blockStore h fun _ k => k.blockNext)
     
      (.iteOut
        (.iteOut h (.iteOut h (h.blockLoad fun _ _ _ k => k.blockLoad fun _ _ _ k => .iteOut k.blockNext k)))
   
            (h.blockLoad fun _ _ _ k => .iteOut k.blockNext k))))

theorem State.Keeps.block {kind : Nat} {f : Fields} (h : s.Keeps t) : s.Keeps (t.block c kind f) :=
  h.instruction (fun _ k => k.blockStep)

theorem State.Keeps.execMovblk {c : Fin 5} {f : Fields} (h : s.Keeps t) : s.Goes (execMovblk c f t) := .ok h.block

theorem State.Keeps.execFillblk {c : Fin 5} {f : Fields} (h : s.Keeps t) : s.Goes (execFillblk c f t) := .ok h.block

theorem State.Keeps.execCmpblk {c : Fin 5} {f : Fields} (h : s.Keeps t) : s.Goes (execCmpblk c f t) := .ok h.block

theorem State.Keeps.execScanblk {c : Fin 5} {f : Fields} (h : s.Keeps t) : s.Goes (execScanblk c f t) := .ok h.block

/-! ### Control instructions -/

theorem State.Keeps.branch {f : Fields} {taken : Word → Word → Bool} (h : s.Keeps t) : s.Keeps (t.branch c f taken) :=
  h.instruction (fun _ k => .iteOut k k)

theorem State.Keeps.execBeq {c : Fin 5} {f : Fields} (h : s.Keeps t) : s.Goes (execBeq c f t) := .ok h.branch

theorem State.Keeps.execBne {c : Fin 5} {f : Fields} (h : s.Keeps t) : s.Goes (execBne c f t) := .ok h.branch

theorem State.Keeps.execBlt {c : Fin 5} {f : Fields} (h : s.Keeps t) : s.Goes (execBlt c f t) := .ok h.branch

theorem State.Keeps.execBge {c : Fin 5} {f : Fields} (h : s.Keeps t) : s.Goes (execBge c f t) := .ok h.branch

theorem State.Keeps.execBltu {c : Fin 5} {f : Fields} (h : s.Keeps t) : s.Goes (execBltu c f t) := .ok h.branch

theorem State.Keeps.execBgeu {c : Fin 5} {f : Fields} (h : s.Keeps t) : s.Goes (execBgeu c f t) := .ok h.branch

theorem State.Keeps.execJmp {c : Fin 5} {f : JFields} (h : s.Keeps t) : s.Goes (execJmp c f t) :=
  .ok (h.instruction (fun _ k => k))

theorem State.Keeps.execJmpr {c : Fin 5} {f : Fields} (h : s.Keeps t) : s.Goes (execJmpr c f t) :=
  .ok (h.instruction (fun _ k => k))

theorem State.Keeps.execCall {c : Fin 5} {f : JFields} (h : s.Keeps t) : s.Goes (execCall c f t) :=
  .ok (h.instruction (fun _ k => k.call))

theorem State.Keeps.execCallr {c : Fin 5} {f : Fields} (h : s.Keeps t) : s.Goes (execCallr c f t) :=
  .ok (h.instruction (fun _ k => k.call))

theorem State.Keeps.execRet {c : Fin 5} {f : Fields} (h : s.Keeps t) : s.Goes (execRet c f t) :=
  .ok (h.instruction (fun _ k => k.ret))

theorem State.Keeps.finishMove (h : s.Keeps t) : s.Keeps (t.finishMove c) :=
  .ite (.ite h.cancel.policySpill h.cancel) (.ite (.ite h.cancel.policyFill h.cancel) h)

theorem State.Keeps.mtsr (h : s.Keeps t) : s.Keeps (t.mtsr c n v) :=
  have h1 := (Keeps.ite h.finishMove h).writeSreg
  .ite h1.policyLater h1

theorem State.Keeps.execMfsr {c : Fin 5} {f : Fields} (h : s.Keeps t) : s.Goes (execMfsr c f t) :=
  .ok (h.instruction (fun _ k => k.setR))

theorem State.Keeps.execMtsr {c : Fin 5} {f : Fields} (h : s.Keeps t) : s.Goes (execMtsr c f t) :=
  .ok (h.instruction (fun _ k => k.mtsr))

theorem State.Keeps.execFence {c : Fin 5} {f : Fields} (h : s.Keeps t) : s.Goes (execFence c f t) :=
  .ok (h.instruction (fun _ k => k.drain))

theorem State.Keeps.execFenceI {c : Fin 5} {f : Fields} (h : s.Keeps t) : s.Goes (execFenceI c f t) :=
  .ok (h.instruction (fun _ k => k.drain))

theorem State.Keeps.execSyscall {c : Fin 5} {f : Fields} (h : s.Keeps t) : s.Goes (execSyscall c f t) :=
  .ok (h.instruction (fun _ k => k))

theorem State.Keeps.unwind {depth : Nat} {u : State} (h : s.Keeps t) (e : t.unwind c depth n = some u) : s.Keeps u := by
  induction n generalizing t with
  | zero => exact Option.some.inj e ▸ h
  | succ n ih =>
    unfold State.unwind at e
    split at e
    · exact Option.some.inj e ▸ h
    · split at e
      · cases e
      · split at e
        · next e2 => exact ih (h.filled (congrArg Prod.fst e2)) e
        · cases e

theorem State.Keeps.swapStacks (h : s.Keeps t) : s.Keeps (t.swapStacks c) := h.setSreg.setSreg

theorem State.Keeps.monitorEnd (h : s.Keeps t) : s.Keeps (t.monitorEnd c) := h.off0.cwdResume.setCore

theorem State.Keeps.tailChain {m : Nat} (h : s.Keeps t) : s.Keeps (t.tailChain c n m) := by
  unfold State.tailChain
  dsimp only
  split
  · exact h.escalateAs
  · exact h.saveSet.setPsr.enterAt

theorem State.Keeps.returnFrom {mon : Bool} (h : s.Keeps t) : s.Keeps (t.returnFrom c n mon).state :=
  have h1 := Keeps.ite h.monitorEnd h
  .iteOut (.ite h1.tailChain h1.tailChain.afterInstruction) (.iteOut h1.setPsr.setCore h1.setPsr)

theorem State.Keeps.rete (h : s.Keeps t) : s.Keeps (t.rete c).state := by
  refine .iteOut h (.iteOut h (.iteOut ?_ h.returnFrom))
  split
  · exact h.lockup
  · next e => exact (h.unwind e).swapStacks.returnFrom

theorem State.Keeps.wfi (h : s.Keeps t) : s.Keeps (t.wfi c).state := .iteOut h h.setCore

theorem State.Keeps.flush {u : State} (h : s.Keeps t) (e : t.flush c n = some u) : s.Keeps u := by
  induction n generalizing t with
  | zero => exact Option.some.inj e ▸ h
  | succ n ih =>
    unfold State.flush at e
    split at e
    · exact Option.some.inj e ▸ h
    · split at e
      · next e2 => exact ih (h.spill e2) e
      · cases e

theorem State.Keeps.execRete {c : Fin 5} {f : Fields} (h : s.Keeps t) : s.Goes (execRete c f t) :=
  .ok (h.instruction (fun _ k => k.rete))

theorem State.Keeps.execWfi {c : Fin 5} {f : Fields} (h : s.Keeps t) : s.Goes (execWfi c f t) :=
  .ok (h.instruction (fun _ k => k.wfi))

theorem State.Keeps.execFlushw {c : Fin 5} {f : Fields} (h : s.Keeps t) : s.Goes (execFlushw c f t) := by
  refine .ok (h.instruction fun u k => ?_)
  split
  · next e => exact k.flush e
  · exact k.setPendErr.setWcause

theorem State.Keeps.execBrk {c : Fin 5} {f : Fields} (h : s.Keeps t) : s.Goes (execBrk c f t) :=
  .ok (h.instruction (fun _ k => .iteOut k.monitorEnter k.on))

theorem State.Keeps.execInterruptEntry {c : Fin 5} (h : s.Keeps t) : s.Goes (execInterruptEntry c t) :=
  .ok (.ite h.setRun.takeInterrupt h)

/-! ### Fabric frames -/

theorem State.Keeps.answer {x : Parsed} {type flags : Nat} {payload : List Byte} {key : Option (List Byte)} (h : s.Keeps t) :
    s.Keeps (t.answer x type flags payload key) :=
  h.sendTo

theorem State.Keeps.discoverPlace {x : Parsed} (h : s.Keeps t) : s.Keeps (t.discoverPlace p x) :=
  (Keeps.ite h.fabFlag h).wr.wr.wr.update.routeLearn

theorem State.Keeps.discoverId {x : Parsed} (h : s.Keeps t) : s.Keeps (t.discoverId x) :=
  .ite (.ite (.ite h (.ite h.idTake h.fabFlag)) (.ite h.idTake h)) h

theorem State.Keeps.discover {x : Parsed} (h : s.Keeps t) : s.Keeps (t.discover p x) :=
  .ite h <|
    have h1 := Keeps.ite h.routeClear h
    have h2 := Keeps.ite h1 h1.discoverPlace
    (Keeps.ite h2.discoverId.idConflict h2.discoverId).answer

theorem State.Keeps.assign {x : Parsed} (h : s.Keeps t) : s.Keeps (t.assign x) :=
  .ite h ((Keeps.ite h (.ite h.wr.off0.wr.fabcLook (.ite h.idTake.idConflict h.idTake))).answer)

theorem State.Keeps.sessTake {x : Parsed} (h : s.Keeps t) : s.Keeps (t.sessTake n x) := h.update.inc.sessTouch

theorem State.Keeps.sessReject (h : s.Keeps t) : s.Keeps (t.sessReject n) := .ite h.inc h

theorem State.Keeps.farElements {slot : Fin 16} {size : Nat} (h : s.Keeps t) : s.Keeps (t.farElements slot a size n).2.2 := by
  induction n generalizing t a with
  | zero => exact h
  | succ n ih =>
    unfold State.farElements
    dsimp only
    split
    · exact h.locRead
    · exact ih h.locRead

theorem State.Keeps.farStores {slot : Fin 16} {l : List (List Byte)} (h : s.Keeps t) : s.Keeps (t.farStores slot a l).2.2 := by
  induction l generalizing t a with
  | nil => exact h
  | cons x l ih =>
    unfold State.farStores
    dsimp only
    split
    · exact h.ranked.locWrite
    · exact ih h.ranked.locWrite

theorem State.Keeps.farReply {x : Parsed} {slot status done : Nat} {data : List Byte} (h : s.Keeps t) :
    s.Keeps (t.farReply x slot status done data) :=
  h.answer

theorem State.Keeps.farRequest {x : Parsed} (h : s.Keeps t) : s.Keeps (t.farRequest x) :=
  .ite h.sessReject.farReply (.ite h.sessTake.farReply
    (.ite h.sessTake.farStores.windowAfter.farReply h.sessTake.farElements.windowAfter.farReply))

theorem State.Keeps.coreFarEnd {op : FarOp} {status : Nat} {data : List Byte} (h : s.Keeps t) :
    s.Keeps (t.coreFarEnd c op status data) := by
  refine .ite h (.ite (.conclude h.setRun.farFail) ?_)
  split
  · exact .conclude (.ite h.setRun h.setRun.setR)
  · exact .conclude h.setRun.blockStep

theorem State.Keeps.farEnd {op : FarOp} {status done : Nat} {data : List Byte} (h : s.Keeps t) :
    s.Keeps (t.farEnd op status done data) :=
  .ite h.farDrop.coreFarEnd ((Keeps.ite h.farDrop h.farDrop.farFail).dmaFarEnd)

theorem State.Keeps.farResponse {x : Parsed} (h : s.Keeps t) : s.Keeps (t.farResponse x) := by
  refine .ite h.sessReject ?_
  split
  · exact h.sessTake.farEnd
  · exact h.sessTake

theorem State.Keeps.execFarTimeout {i : Fin 21} (h : s.Keeps t) : s.Goes (execFarTimeout i t) := by
  refine .ok ?_
  split
  · exact .ite h h.farEnd
  · exact h

theorem State.Keeps.echoReply {x : Parsed} (h : s.Keeps t) : s.Keeps (t.echoReply p x) := h.stamp.sendOn

theorem State.Keeps.delayShow (h : s.Keeps t) : s.Keeps (t.delayShow p) := h.wrI

theorem State.Keeps.timeTry (h : s.Keeps t) : s.Keeps t.timeTry := .ite h ((Keeps.ite h h.timeStep).update.timeValid)

theorem State.Keeps.echoTake {x : Parsed} (h : s.Keeps t) : s.Keeps (t.echoTake p x) :=
  .ite h h.stamp.setFport.delayShow.nexchShow.timeTry

theorem State.Keeps.discipline (h : s.Keeps t) : s.Keeps t.discipline := (Keeps.ite h.fresh.wrI.timeRise h.fresh.wrI.off0).wrb

theorem State.Keeps.ofsShow (h : s.Keeps t) : s.Keeps t.ofsShow := .ite h.wrI h.fresh.setReg

theorem State.Keeps.ofsLook (h : s.Keeps t) : s.Keeps t.ofsLook :=
  .ite h (.ite h.update.discipline (.ite h.update.timeValid h.update.discipline))

theorem State.Keeps.syncTake {x : Parsed} (h : s.Keeps t) : s.Keeps (t.syncTake p x) :=
  .ite h (.ite h.on.fabcLook h.stamp.update.wr.nexchShow.ofsShow.off0.after.ofsLook.timeTry.fabcLook)

theorem State.Keeps.syncPass {x : Parsed} (h : s.Keeps t) : s.Keeps (t.syncPass p x).2 := h.fresh

theorem State.Keeps.mgmtReply {x : Parsed} {op status : Nat} {rest : List Byte} {key : Option (List Byte)} (h : s.Keeps t) :
    s.Keeps (t.mgmtReply x op status rest key) :=
  h.answer

theorem State.Keeps.refuseMgmt {x : Parsed} {status : Nat} {key : Option (List Byte)} (h : s.Keeps t) :
    s.Keeps (t.refuseMgmt x status key) :=
  h.mgmtReply

theorem State.Keeps.sessGrant {x : Parsed} (h : s.Keeps t) : s.Keeps (t.sessGrant p n k x) :=
  h.fresh.update.wr.wr.wr.wr.sessTouch.irq.answer

theorem State.Keeps.mgmtOpen {x : Parsed} (h : s.Keeps t) : s.Keeps (t.mgmtOpen p x) :=
  .ite h (.ite h.refuseMgmt (.ite h.refuseMgmt (.ite h.refuseMgmt h.sessGrant)))

theorem State.Keeps.attestSend {x : Parsed} (h : s.Keeps t) : s.Keeps (t.attestSend x) := h.mgmtReply

theorem State.Keeps.attestServe (h : s.Keeps t) : s.Keeps t.attestServe := by
  unfold State.attestServe
  split
  · refine .ite h ?_
    dsimp only
    split
    · exact h.update.attestSend
    · exact h.update
  · exact h

theorem State.Keeps.mgmt {x : Parsed} {frame : List Byte} (h : s.Keeps t) : s.Keeps (t.mgmt p x frame) :=
  .ite h (.ite h.mgmtOpen (.ite (.ite h.sessReject.refuseMgmt
    (.ite h.sessTake.sessClose (.ite (.ite h.sessTake.refuseMgmt h.sessTake.update)
      (.ite h.sessTake.refuseMgmt (.ite (.ite h.sessTake.refuseMgmt h.sessTake.update) h.sessTake.attestSend))))) h))

theorem State.Keeps.cycRead (h : s.Keeps t) : s.Keeps (t.cycRead k).2 := h.locRead

theorem State.Keeps.execCyclicSnapshot (h : s.Keeps t) : s.Goes (execCyclicSnapshot t) := by
  refine .ite (.ok h.cancel) (.ok (Keeps.on (Keeps.update ?_)))
  exact Keeps.foldlSnd h.cancel fun _ _ k => k.cycRead

theorem State.Keeps.cycInsert {payload : List Byte} (h : s.Keeps t) : s.Keeps (t.cycInsert payload).2 :=
  .iteSnd h ((Keeps.ite h.cycFlag.inc.fire h).fire)

theorem State.Keeps.cycApply {x : Parsed} (h : s.Keeps t) : s.Keeps (t.cycApply x) :=
  have h2 := h.update.wr.wr.foldl fun _ _ k => k.ranked.locWrite
  .ite h2 h2.fire

theorem State.Keeps.freshBytes (h : s.Keeps t) : s.Keeps t.freshBytes.2 := h.fresh.fresh

theorem State.Keeps.cyclic {x : Parsed} (h : s.Keeps t) : s.Keeps (t.cyclic x).2 := by
  have h4 : s.Keeps (t.cycFlag 4) := h.cycFlag
  have h5 : s.Keeps (t.cycFlag 5) := h.cycFlag
  refine .iteSnd h (.iteSnd h5 (.iteSnd h (.iteSnd h4.inc (.iteSnd (.ite h.cycInsert.cycApply h.cycInsert) ?_))))
  split
  · exact h.cycInsert.freshBytes.cycFlag.inc
  · exact .ite h.cycInsert.cycFlag.inc (.ite h.cycInsert.cycApply h.cycInsert)

theorem State.Keeps.passOn {x : Parsed} {payload rest : List Byte} (h : s.Keeps t) : s.Keeps (t.passOn p x payload rest) :=
  .ite h.inc h.fabEmit

theorem State.Keeps.consume {x : Parsed} {frame : List Byte} (h : s.Keeps t) : s.Keeps (t.consume p x frame) :=
  .ite h.inc (.ite h.discover (.ite h.assign (.ite h.mgmt (.ite (.ite h.farResponse h.farRequest) (.ite h.syncTake h)))))

theorem State.Keeps.dropTest {frame : List Byte} (h : s.Keeps t) : s.Keeps (t.dropTest p frame).2 :=
  .iteSnd h (.iteSnd h.update.inc h.update)

theorem State.Keeps.frameGood {x : Parsed} {frame : List Byte} (h : s.Keeps t) : s.Keeps (t.frameGood p x frame) := by
  unfold State.frameGood
  extract_lets own s1 s2 s3 echo here passes sound x4 s4
  have h1 : s.Keeps s1 := .ite h h.inc
  have h2 : s.Keeps s2 := .ite h1 h1.routeLearn
  have h3 : s.Keeps s3 := .ite h2.idConflict h2
  have h3' : s.Keeps (s3.syncPass p x).2 := h3.syncPass
  have hx : s.Keeps x4.2 := .iteSnd h3.cyclic (.iteSnd h3' h3)
  have h4 : s.Keeps s4 := .ite hx.passOn hx
  exact .ite h4 (.ite (.ite h4 (.ite h4.echoReply h4.echoTake)) (.ite h4.consume h4))

theorem State.Keeps.frameIn {frame : List Byte} (h : s.Keeps t) : s.Keeps (t.frameIn p frame) := by
  refine .ite h (.ite h.inc.dropTest (.ite h.inc.dropTest ?_))
  split
  · exact h.inc.dropTest.inc
  · exact .ite h.inc.dropTest.inc h.inc.dropTest.frameGood

theorem State.Keeps.frameOf {frame : List Byte} {kind : Parsed → Bool} (h : s.Keeps t) : s.Keeps (t.frameOf p frame kind) := by
  unfold State.frameOf
  split
  · exact .ite h.frameIn h
  · exact h

theorem State.Keeps.execFrameReceive {p : Fin 2} {frame : List Byte} (h : s.Keeps t) : s.Goes (execFrameReceive p frame t) :=
  .ok h.frameIn

theorem State.Keeps.execDiscover {p : Fin 2} {frame : List Byte} (h : s.Keeps t) : s.Goes (execDiscover p frame t) :=
  .ok h.frameOf

theorem State.Keeps.execAssign {p : Fin 2} {frame : List Byte} (h : s.Keeps t) : s.Goes (execAssign p frame t) := .ok h.frameOf

theorem State.Keeps.execFarReadRequest {p : Fin 2} {frame : List Byte} (h : s.Keeps t) :
    s.Goes (execFarReadRequest p frame t) :=
  .ok h.frameOf

theorem State.Keeps.execFarWriteRequest {p : Fin 2} {frame : List Byte} (h : s.Keeps t) :
    s.Goes (execFarWriteRequest p frame t) :=
  .ok h.frameOf

theorem State.Keeps.execFarResponse {p : Fin 2} {frame : List Byte} (h : s.Keeps t) : s.Goes (execFarResponse p frame t) :=
  .ok h.frameOf

theorem State.Keeps.execCyclicFrame {p : Fin 2} {frame : List Byte} (h : s.Keeps t) : s.Goes (execCyclicFrame p frame t) :=
  .ok h.frameOf

theorem State.Keeps.execEchoRequest {p : Fin 2} {frame : List Byte} (h : s.Keeps t) : s.Goes (execEchoRequest p frame t) :=
  .ok h.frameOf

theorem State.Keeps.execEchoResponse {p : Fin 2} {frame : List Byte} (h : s.Keeps t) : s.Goes (execEchoResponse p frame t) :=
  .ok h.frameOf

theorem State.Keeps.execSyncReceive {p : Fin 2} {frame : List Byte} (h : s.Keeps t) : s.Goes (execSyncReceive p frame t) :=
  .ok h.frameOf

theorem State.Keeps.execMgmtOpen {p : Fin 2} {frame : List Byte} (h : s.Keeps t) : s.Goes (execMgmtOpen p frame t) :=
  .ok h.frameOf

theorem State.Keeps.execMgmtClose {p : Fin 2} {frame : List Byte} (h : s.Keeps t) : s.Goes (execMgmtClose p frame t) :=
  .ok h.frameOf

theorem State.Keeps.execMgmtCyckey {p : Fin 2} {frame : List Byte} (h : s.Keeps t) : s.Goes (execMgmtCyckey p frame t) :=
  .ok h.frameOf

theorem State.Keeps.execMgmtAttest {p : Fin 2} {frame : List Byte} (h : s.Keeps t) : s.Goes (execMgmtAttest p frame t) :=
  .ok h.frameOf

/-! ### The test access port -/

theorem State.Keeps.tapLoad {ir d : Nat} (h : s.Keeps t) : s.Keeps (t.tapLoad ir d) := h.update

theorem State.Keeps.execTapReset (h : s.Keeps t) : s.Goes (execTapReset t) := .ok (.ite h.tapLoad h)

theorem State.Keeps.execIdcode (h : s.Keeps t) : s.Goes (execIdcode t) := .ok (.ite h.tapLoad h)

theorem State.Keeps.execBypass (h : s.Keeps t) : s.Goes (execBypass t) := .ok (.ite h.tapLoad h)

theorem State.Keeps.execSamplePreload (h : s.Keeps t) : s.Goes (execSamplePreload t) :=
  .ok (.ite h (.ite h.tapLoad h.fresh.tapLoad))

theorem State.Keeps.execExtest {boundary : List Bool} (h : s.Keeps t) : s.Goes (execExtest boundary t) :=
  .ok (.ite h (.ite h.tapLoad h.fresh.tapLoad.update))

theorem State.Keeps.memapDone {addr : Nat} {wr : Bool} {data : Word} {status : Nat} (h : s.Keeps t) :
    s.Keeps (t.memapDone addr wr data status) :=
  h.tapLoad.update

theorem State.Keeps.execMemap {rd : Bool} {addr : Nat} (h : s.Keeps t) : s.Goes (execMemap rd addr v t) := by
  refine .ok (.ite h (.ite h.fresh.memapDone (.ite ?_ h.fresh.ranked.locWrite.windowAfter.memapDone)))
  dsimp only
  split
  · exact h.fresh.locRead.windowAfter.memapDone
  · exact h.fresh.locRead.windowAfter.memapDone

/-! ### A drive-base cycle -/

theorem State.Keeps.holdEvents (h : s.Keeps t) : s.Keeps t.holdEvents := .ite h.update h

theorem State.Keeps.triggerLook (h : s.Keeps t) : s.Keeps (t.triggerLook q) := h.upto (fun _ _ k => .ite k.after k)

theorem State.Keeps.carrierReach (h : s.Keeps t) : s.Keeps (t.carrierReach q) :=
  .ite h.carrierPoint (h.carrierPoint.upto (fun _ _ k => k.edgeLook))

theorem State.Keeps.carrierCycle (h : s.Keeps t) : s.Keeps (t.carrierCycle q) := .ite h h.wr.wrb.carrierReach

theorem State.Keeps.tickCycle (h : s.Keeps t) : s.Keeps t.tickCycle := .ite h (.ite h.timeCycle.wr.update h.timeCycle.wr)

theorem State.Keeps.aonCycle (h : s.Keeps t) : s.Keeps t.aonCycle :=
  have h1 := Keeps.ite h (.ite h.after h.wr)
  .ite (.ite h1.setReg.after h1.setReg) h1

theorem State.Keeps.aonClock (h : s.Keeps t) : s.Keeps t.aonClock := by
  unfold State.aonClock
  dsimp only
  split
  · exact h.update.aonCycle
  · exact h.update

theorem State.Keeps.engines (h : s.Keeps t) : s.Keeps t.engines :=
  have h0 := Keeps.ite h.stoLook h
  .ite h0.flcKick.cryPoll.attestServe.dmaKick h0.flcKick.cryPoll.attestServe

theorem State.Keeps.cycleWork (h : s.Keeps t) : s.Keeps t.cycleWork :=
  .ite h.capSettle.holdEvents.update.softFire
    (.ite h.capSettle.holdEvents.update.softFire.aonClock.entryStep.exitStep
      ((h.capSettle.holdEvents.update.softFire.aonClock.compCycle.tickCycle.upto
        (fun _ _ k => k.carrierCycle.triggerLook)).tmrCycles.engines))

theorem State.Keeps.cycle (h : s.Keeps t) : s.Keeps t.cycle := h.cycleWork.update

/-! ### Commands that access a register -/

theorem State.Keeps.execRegisterWrite {addr : Nat} (h : s.Keeps t) : s.Goes (execRegisterWrite w addr v t) :=
  .ok (.ite h.cmdWrite h)

theorem State.Keeps.execModeRequest (h : s.Keeps t) : s.Goes (execModeRequest w v t) := .ok h.cmdWrite

theorem State.Keeps.execSysRstreqWrite (h : s.Keeps t) : s.Goes (execSysRstreqWrite w v t) := .ok h.cmdWrite

theorem State.Keeps.execSysKeyWrite (h : s.Keeps t) : s.Goes (execSysKeyWrite w v t) := .ok h.cmdWrite

theorem State.Keeps.execSysCorerstWrite (h : s.Keeps t) : s.Goes (execSysCorerstWrite w v t) := .ok h.cmdWrite

theorem State.Keeps.execTickDone (h : s.Keeps t) : s.Goes (execTickDone w v t) := .ok h.cmdWrite

theorem State.Keeps.execTickFrameWrite {fcyc : Bool} (h : s.Keeps t) : s.Goes (execTickFrameWrite w fcyc v t) := .ok h.cmdWrite

theorem State.Keeps.execSystimeNsRead {r : Writer} (h : s.Keeps t) : s.Goes (execSystimeNsRead r t) := .ok h.cmdRead

theorem State.Keeps.execTimerGstart (h : s.Keeps t) : s.Goes (execTimerGstart w v t) := .ok h.cmdWrite

theorem State.Keeps.execTimerGstop (h : s.Keeps t) : s.Goes (execTimerGstop w v t) := .ok h.cmdWrite

theorem State.Keeps.execTimerCountWrite {j : Fin 16} (h : s.Keeps t) : s.Goes (execTimerCountWrite w j v t) := .ok h.cmdWrite

theorem State.Keeps.execTimerReloadWrite {j : Fin 16} {pre : Bool} (h : s.Keeps t) :
    s.Goes (execTimerReloadWrite w j pre v t) :=
  .ok h.cmdWrite

theorem State.Keeps.execTimerCmpWrite {j : Fin 16} {k : Fin 4} (h : s.Keeps t) : s.Goes (execTimerCmpWrite w j k v t) :=
  .ok h.cmdWrite

theorem State.Keeps.execTimerCapRead {r : Writer} {j : Fin 16} {k : Fin 2} (h : s.Keeps t) :
    s.Goes (execTimerCapRead r j k t) :=
  .ok h.cmdRead

theorem State.Keeps.execPwmOenWrite {a : Fin 24} {oen : Bool} (h : s.Keeps t) : s.Goes (execPwmOenWrite w a oen t) :=
  .ok h.cmdWrite

theorem State.Keeps.execPwmConfigWrite {q : Fin 6} {r : Fin 5} (h : s.Keeps t) : s.Goes (execPwmConfigWrite w q r v t) :=
  .ok h.cmdWrite

theorem State.Keeps.execPwmDutyWrite {a : Fin 24} {ph : Fin 3} (h : s.Keeps t) : s.Goes (execPwmDutyWrite w a ph v t) :=
  .ok h.cmdWrite

theorem State.Keeps.execPwmSwtripWrite {q : Fin 6} (h : s.Keeps t) : s.Goes (execPwmSwtripWrite w q v t) := .ok h.cmdWrite

theorem State.Keeps.execPwmDsrcWrite {a : Fin 24} {dsrc : Bool} (h : s.Keeps t) : s.Goes (execPwmDsrcWrite w a dsrc t) :=
  .ok h.cmdWrite

theorem State.Keeps.execPwmTripstWrite {a : Fin 24} {codes : BitVec 6} (h : s.Keeps t) :
    s.Goes (execPwmTripstWrite w a codes t) :=
  .ok h.cmdWrite

theorem State.Keeps.execGateenWrite (h : s.Keeps t) : s.Goes (execGateenWrite w v t) := .ok h.cmdWrite

theorem State.Keeps.execAdcIuRead {r : Writer} {a : Fin 24} (h : s.Keeps t) : s.Goes (execAdcIuRead r a t) := .ok h.cmdRead

theorem State.Keeps.execAdcSampWrite {q : Fin 6} (h : s.Keeps t) : s.Goes (execAdcSampWrite w q v t) := .ok h.cmdWrite

theorem State.Keeps.execAdcCalreq (h : s.Keeps t) : s.Goes (execAdcCalreq w v t) := .ok h.cmdWrite

theorem State.Keeps.execCmpLatchClear {n : Fin 58} (h : s.Keeps t) : s.Goes (execCmpLatchClear w n t) := .ok h.cmdWrite

theorem State.Keeps.execCmpClrall (h : s.Keeps t) : s.Goes (execCmpClrall w v t) := .ok h.cmdWrite

theorem State.Keeps.execCmpSpWrite {n : Fin 58} {r : Fin 3} (h : s.Keeps t) : s.Goes (execCmpSpWrite w n r v t) :=
  .ok (.ite h.cmdWrite (.ite h.cmdWrite (.ite h.cmdWrite h)))

theorem State.Keeps.execLeCommit (h : s.Keeps t) : s.Goes (execLeCommit w v t) := .ok h.cmdWrite

theorem State.Keeps.execLeParamWrite {a : Fin 24} {ofs : Fin 96} (h : s.Keeps t) : s.Goes (execLeParamWrite w a ofs v t) :=
  .ok h.cmdWrite

theorem State.Keeps.execLeSetpointWrite {a : Fin 24} {k : Fin 5} (h : s.Keeps t) : s.Goes (execLeSetpointWrite w a k v t) :=
  .ok h.cmdWrite

theorem State.Keeps.execLeCtlWrite {a : Fin 24} (h : s.Keeps t) : s.Goes (execLeCtlWrite w a v t) := .ok h.cmdWrite

theorem State.Keeps.execTableEntryWrite {addr : Nat} (h : s.Keeps t) : s.Goes (execTableEntryWrite w addr v t) :=
  .ok (.ite h.entryWrite h)

theorem State.Keeps.execTableSeal {a : Fin 24} {pages : BitVec 4} (h : s.Keeps t) : s.Goes (execTableSeal w a pages t) :=
  .ok h.cmdWrite

theorem State.Keeps.execTableUnseal {a : Fin 24} {pages : BitVec 4} (h : s.Keeps t) : s.Goes (execTableUnseal w a pages t) :=
  .ok h.cmdWrite

theorem State.Keeps.execLearnStart (h : s.Keeps t) : s.Goes (execLearnStart w v t) := .ok h.cmdWrite

theorem State.Keeps.execLearnStop (h : s.Keeps t) : s.Goes (execLearnStop w t) := .ok h.cmdWrite

theorem State.Keeps.execFbZarm {a : Fin 24} (h : s.Keeps t) : s.Goes (execFbZarm w a t) := .ok h.cmdWrite

theorem State.Keeps.execFbTid {a : Fin 24} (h : s.Keeps t) : s.Goes (execFbTid w a t) := .ok h.cmdWrite

theorem State.Keeps.execFbTclr {a : Fin 24} (h : s.Keeps t) : s.Goes (execFbTclr w a t) := .ok h.cmdWrite

theorem State.Keeps.execFbPreset {a : Fin 24} (h : s.Keeps t) : s.Goes (execFbPreset w a t) := .ok h.cmdWrite

theorem State.Keeps.execFbReval {a : Fin 24} (h : s.Keeps t) : s.Goes (execFbReval w a t) := .ok h.cmdWrite

theorem State.Keeps.execFbPossRead {r : Writer} {a : Fin 24} (h : s.Keeps t) : s.Goes (execFbPossRead r a t) := .ok h.cmdRead

theorem State.Keeps.execFbConfigWrite {a : Fin 24} {r : Fin 5} (h : s.Keeps t) : s.Goes (execFbConfigWrite w a r v t) :=
  .ok h.cmdWrite

theorem State.Keeps.execEmuCtlWrite {n : Fin 2} (h : s.Keeps t) : s.Goes (execEmuCtlWrite w n v t) := .ok h.cmdWrite

theorem State.Keeps.execEvrFire {r : Fin 2} (h : s.Keeps t) : s.Goes (execEvrFire w r v t) := .ok h.cmdWrite

theorem State.Keeps.execEvrLoopClear {ch : Fin 96} (h : s.Keeps t) : s.Goes (execEvrLoopClear w ch t) := .ok h.cmdWrite

theorem State.Keeps.execEvrChannelLock {ch : Fin 96} (h : s.Keeps t) : s.Goes (execEvrChannelLock w ch v t) := .ok h.cmdWrite

theorem State.Keeps.execPwrBusmodeWrite (h : s.Keeps t) : s.Goes (execPwrBusmodeWrite w v t) := .ok h.cmdWrite

theorem State.Keeps.execPwrSupctlWrite (h : s.Keeps t) : s.Goes (execPwrSupctlWrite w v t) := .ok h.cmdWrite

theorem State.Keeps.execBrakeCtlWrite (h : s.Keeps t) : s.Goes (execBrakeCtlWrite w v t) := .ok h.cmdWrite

theorem State.Keeps.execBrakeIlimClear {k : Fin 4} (h : s.Keeps t) : s.Goes (execBrakeIlimClear w k t) := .ok h.cmdWrite

theorem State.Keeps.execIcuClaim {r : Writer} {c : Fin 5} (h : s.Keeps t) : s.Goes (execIcuClaim r c t) := .ok h.cmdRead

theorem State.Keeps.execIcuEoi {c : Fin 5} (h : s.Keeps t) : s.Goes (execIcuEoi w c v t) := .ok h.cmdWrite

theorem State.Keeps.execIcuSwi {c : Fin 5} (h : s.Keeps t) : s.Goes (execIcuSwi w c v t) := .ok h.cmdWrite

theorem State.Keeps.execDmaStart {n : Fin 16} (h : s.Keeps t) : s.Goes (execDmaStart w n v t) := .ok h.cmdWrite

theorem State.Keeps.execDmaGstart (h : s.Keeps t) : s.Goes (execDmaGstart w v t) := .ok h.cmdWrite

theorem State.Keeps.execDmaAbort {n : Fin 16} (h : s.Keeps t) : s.Goes (execDmaAbort w n t) := .ok h.cmdWrite

theorem State.Keeps.execDmaAbortall (h : s.Keeps t) : s.Goes (execDmaAbortall w v t) := .ok h.cmdWrite

theorem State.Keeps.execFlcAlloc {r : Writer} (h : s.Keeps t) : s.Goes (execFlcAlloc r t) := .ok h.cmdRead

theorem State.Keeps.execFlcFree {k : Fin 16} (h : s.Keeps t) : s.Goes (execFlcFree w k t) := .ok h.cmdWrite

theorem State.Keeps.execFlcGo {k : Fin 16} (h : s.Keeps t) : s.Goes (execFlcGo w k v t) := .ok h.cmdWrite

theorem State.Keeps.execFabWakepulse {p : Fin 2} (h : s.Keeps t) : s.Goes (execFabWakepulse w p t) := .ok h.cmdWrite

theorem State.Keeps.execSessionCloseWrite {n : Fin 16} (h : s.Keeps t) : s.Goes (execSessionCloseWrite w n v t) :=
  .ok h.cmdWrite

theorem State.Keeps.execSafFaultClear (h : s.Keeps t) : s.Goes (execSafFaultClear w v t) := .ok h.cmdWrite

theorem State.Keeps.execSafDeclare (h : s.Keeps t) : s.Goes (execSafDeclare w t) := .ok h.cmdWrite

theorem State.Keeps.execSafHoldWrite {hold : Bool} (h : s.Keeps t) : s.Goes (execSafHoldWrite w hold t) := .ok h.cmdWrite

theorem State.Keeps.execSafAck (h : s.Keeps t) : s.Goes (execSafAck w t) := .ok h.cmdWrite

theorem State.Keeps.execMwdtService (h : s.Keeps t) : s.Goes (execMwdtService w v t) := .ok h.cmdWrite

theorem State.Keeps.execCwdService {n : Fin 4} (h : s.Keeps t) : s.Goes (execCwdService w n v t) := .ok h.cmdWrite

theorem State.Keeps.execCryHash (h : s.Keeps t) : s.Goes (execCryHash w v t) := .ok h.cmdWrite

theorem State.Keeps.execCryVerify (h : s.Keeps t) : s.Goes (execCryVerify w v t) := .ok h.cmdWrite

theorem State.Keeps.execCryVerifyOwner (h : s.Keeps t) : s.Goes (execCryVerifyOwner w v t) := .ok h.cmdWrite

theorem State.Keeps.execCrySignDev (h : s.Keeps t) : s.Goes (execCrySignDev w v t) := .ok h.cmdWrite

theorem State.Keeps.execCryCommit (h : s.Keeps t) : s.Goes (execCryCommit w v t) := .ok h.cmdWrite

theorem State.Keeps.execCryCompact (h : s.Keeps t) : s.Goes (execCryCompact w v t) := .ok h.cmdWrite

theorem State.Keeps.execOtpProv (h : s.Keeps t) : s.Goes (execOtpProv w v t) := .ok h.cmdWrite

theorem State.Keeps.execOtpRevoke (h : s.Keeps t) : s.Goes (execOtpRevoke w v t) := .ok h.cmdWrite

theorem State.Keeps.execOtpEpoch (h : s.Keeps t) : s.Goes (execOtpEpoch w v t) := .ok h.cmdWrite

theorem State.Keeps.execOtpCfgsig (h : s.Keeps t) : s.Goes (execOtpCfgsig w v t) := .ok h.cmdWrite

theorem State.Keeps.execPadRelease (h : s.Keeps t) : s.Goes (execPadRelease w v t) := .ok h.cmdWrite

theorem State.Keeps.execDbgHalt {c : Fin 5} (h : s.Keeps t) : s.Goes (execDbgHalt w c t) := .ok h.cmdWrite

theorem State.Keeps.execVtTxdWrite {c : Fin 5} (h : s.Keeps t) : s.Goes (execVtTxdWrite w c v t) := .ok h.cmdWrite

theorem State.Keeps.execVtRxdWrite {c : Fin 5} (h : s.Keeps t) : s.Goes (execVtRxdWrite w c v t) := .ok h.cmdWrite

theorem State.Keeps.execVtRxdRead {r : Writer} {c : Fin 5} (h : s.Keeps t) : s.Goes (execVtRxdRead r c t) := .ok h.cmdRead

theorem State.Keeps.execDbgAuthVerify (h : s.Keeps t) : s.Goes (execDbgAuthVerify w v t) := .ok h.cmdWrite

theorem State.Keeps.execDbgAuthWithdraw (h : s.Keeps t) : s.Goes (execDbgAuthWithdraw w v t) := .ok h.cmdWrite

theorem State.Keeps.execTstCtlWrite {r : Fin 9} (h : s.Keeps t) : s.Goes (execTstCtlWrite w r v t) := .ok h.cmdWrite

/-! ### The frame tick -/

theorem State.Keeps.tickCount (h : s.Keeps t) : s.Keeps t.tickCount :=
  .ite h.heldTick.update.wr.wr.wr h.heldTick.update.wr.wr.wr

theorem State.Keeps.laneFrame (h : s.Keeps t) : s.Keeps (t.laneFrame q) := (Keeps.ite h.laneOverrun h).laneTick

theorem State.Keeps.tickSpread (h : s.Keeps t) : s.Keeps t.tickSpread := .ite h.fresh.after h.tickDeliver

theorem State.Keeps.frameTick (h : s.Keeps t) : s.Keeps t.frameTick :=
  have h8 := ((((((Keeps.ite h h.evrWindow).modeTick.compMove.tickCount.upto
    (fun _ _ k => k.carrierTick.adcTick.carrierPlaced)).compTick.upto (fun _ _ k => k.fbTick)).swapAll.upto
      (fun _ _ k => k.laneFrame)).readyLe).upto (fun _ _ k => k.takeSetpoints.untrained)).learnTick.tickSpread.irqS.safTick.upto
        (fun _ _ k => k.emuTick)
  .ite h8.cycTick h8

theorem State.Keeps.execFrameTick (h : s.Keeps t) : s.Goes (execFrameTick t) := .ok (.ite h.cancel.frameTick h.cancel)

theorem State.Keeps.execEvrProducerEdge {ch : Fin 96} {inp : Fin 32} (h : s.Keeps t) : s.Goes (execEvrProducerEdge ch inp t) :=
  .ok h.fire

theorem State.Keeps.execEvrWindowExpire (h : s.Keeps t) : s.Goes (execEvrWindowExpire t) :=
  .ok (.ite h.cancel h.cancel.evrWindow)

/-! ### Every command, and a step -/

/-- The table of the meanings, as `exec` lists them. -/
theorem State.Keeps.exec (h : s.Keeps t) : (i : Instr) → s.Goes (exec i t)
  | .registerWrite .. => h.execRegisterWrite
  | .bootPfcStart .. => h.execBootPfcStart
  | .adcCalibrationDone .. => h.execAdcCalibrationDone
  | .modeRequest .. => h.execModeRequest
  | .sysRstreqWrite .. => h.execSysRstreqWrite
  | .sysKeyWrite .. => h.execSysKeyWrite
  | .unlockWindowExpire .. => h.execUnlockWindowExpire
  | .sysCorerstWrite .. => h.execSysCorerstWrite
  | .coreResetRelease .. => h.execCoreResetRelease
  | .tickDone .. => h.execTickDone
  | .tickFrameWrite .. => h.execTickFrameWrite
  | .systimeNsRead .. => h.execSystimeNsRead
  | .timerWrap .. => h.execTimerWrap
  | .timerMatch .. => h.execTimerMatch
  | .timerGstart .. => h.execTimerGstart
  | .timerGstop .. => h.execTimerGstop
  | .timerCountWrite .. => h.execTimerCountWrite
  | .timerReloadWrite .. => h.execTimerReloadWrite
  | .timerCmpWrite .. => h.execTimerCmpWrite
  | .timerCapture .. => h.execTimerCapture
  | .timerCapRead .. => h.execTimerCapRead
  | .pwmOenWrite .. => h.execPwmOenWrite
  | .pwmConfigWrite .. => h.execPwmConfigWrite
  | .carrierValley .. => h.execCarrierValley
  | .carrierPeak .. => h.execCarrierPeak
  | .pwmDutyWrite .. => h.execPwmDutyWrite
  | .pwmWindowEdge .. => h.execPwmWindowEdge
  | .pwmDeadTimeEnd .. => h.execPwmDeadTimeEnd
  | .bootstrapRefresh .. => h.execBootstrapRefresh
  | .bootstrapUvlo .. => h.execBootstrapUvlo
  | .axisTrip .. => h.execAxisTrip
  | .pwmSwtripWrite .. => h.execPwmSwtripWrite
  | .pwmDsrcWrite .. => h.execPwmDsrcWrite
  | .pwmTripstWrite .. => h.execPwmTripstWrite
  | .gateenWrite .. => h.execGateenWrite
  | .adcSample .. => h.execAdcSample
  | .adcConversionDone .. => h.execAdcConversionDone
  | .adcIuRead .. => h.execAdcIuRead
  | .adcSampWrite .. => h.execAdcSampWrite
  | .adcCalreq .. => h.execAdcCalreq
  | .adcRecalDone .. => h.execAdcRecalDone
  | .auxConversion .. => h.execAuxConversion
  | .cmpCrossing .. => h.execCmpCrossing
  | .cmpBlankingEnd .. => h.execCmpBlankingEnd
  | .cmpLatchClear .. => h.execCmpLatchClear
  | .cmpClrall .. => h.execCmpClrall
  | .cmpSpWrite .. => h.execCmpSpWrite
  | .cmpSampleWindow .. => h.execCmpSampleWindow
  | .laneCurrentPass .. => h.execLaneCurrentPass
  | .laneOuterStage .. => h.execLaneOuterStage
  | .leCommit .. => h.execLeCommit
  | .leBankCopyDone .. => h.execLeBankCopyDone
  | .leParamWrite .. => h.execLeParamWrite
  | .leSetpointWrite .. => h.execLeSetpointWrite
  | .leCtlWrite .. => h.execLeCtlWrite
  | .tableEntryWrite .. => h.execTableEntryWrite
  | .tableSeal .. => h.execTableSeal
  | .tableUnseal .. => h.execTableUnseal
  | .learnStart .. => h.execLearnStart
  | .learnStop .. => h.execLearnStop
  | .quadEdge .. => h.execQuadEdge
  | .indexEdge .. => h.execIndexEdge
  | .fbZarm .. => h.execFbZarm
  | .hallTransition .. => h.execHallTransition
  | .hallInvalidTimeout .. => h.execHallInvalidTimeout
  | .lineFault .. => h.execLineFault
  | .serialTrigger .. => h.execSerialTrigger
  | .ssiTransactionDone .. => h.execSsiTransactionDone
  | .tephraReply .. => h.execTephraReply
  | .tephraTimeout .. => h.execTephraTimeout
  | .fbTid .. => h.execFbTid
  | .fbTclr .. => h.execFbTclr
  | .fbPreset .. => h.execFbPreset
  | .fbReval .. => h.execFbReval
  | .fbPossRead .. => h.execFbPossRead
  | .fbConfigWrite .. => h.execFbConfigWrite
  | .emuCtlWrite .. => h.execEmuCtlWrite
  | .emuEdgeOutput .. => h.execEmuEdgeOutput
  | .dioEdge .. => h.execDioEdge
  | .evrProducerEdge .. => h.execEvrProducerEdge
  | .evrFire .. => h.execEvrFire
  | .evrLoopClear .. => h.execEvrLoopClear
  | .evrChannelLock .. => h.execEvrChannelLock
  | .lineHalfCycle .. => h.execLineHalfCycle
  | .pwrBusmodeWrite .. => h.execPwrBusmodeWrite
  | .pwrUpdate .. => h.execPwrUpdate
  | .enc5vOvercurrentOff .. => h.execEnc5vOvercurrentOff
  | .pwrSupctlWrite .. => h.execPwrSupctlWrite
  | .brakeCtlWrite .. => h.execBrakeCtlWrite
  | .brakeIlimOff .. => h.execBrakeIlimOff
  | .brakeIlimClear .. => h.execBrakeIlimClear
  | .nop .. => h.execNop
  | .add .. => h.execAdd
  | .sub .. => h.execSub
  | .adds .. => h.execAdds
  | .subs .. => h.execSubs
  | .and .. => h.execAnd
  | .or .. => h.execOr
  | .xor .. => h.execXor
  | .andn .. => h.execAndn
  | .sll .. => h.execSll
  | .srl .. => h.execSrl
  | .sra .. => h.execSra
  | .cmpeq .. => h.execCmpeq
  | .cmplt .. => h.execCmplt
  | .cmpltu .. => h.execCmpltu
  | .min .. => h.execMin
  | .max .. => h.execMax
  | .mul .. => h.execMul
  | .mulh .. => h.execMulh
  | .mulhu .. => h.execMulhu
  | .mulf .. => h.execMulf
  | .macf .. => h.execMacf
  | .div .. => h.execDiv
  | .divu .. => h.execDivu
  | .rem .. => h.execRem
  | .remu .. => h.execRemu
  | .clz .. => h.execClz
  | .extb .. => h.execExtb
  | .insb .. => h.execInsb
  | .perm .. => h.execPerm
  | .addi .. => h.execAddi
  | .andi .. => h.execAndi
  | .ori .. => h.execOri
  | .xori .. => h.execXori
  | .slli .. => h.execSlli
  | .srli .. => h.execSrli
  | .srai .. => h.execSrai
  | .cmpeqi .. => h.execCmpeqi
  | .cmplti .. => h.execCmplti
  | .cmpltui .. => h.execCmpltui
  | .ldhi .. => h.execLdhi
  | .ldi .. => h.execLdi
  | .ld1 .. => h.execLd1
  | .ld2 .. => h.execLd2
  | .ld6 .. => h.execLd6
  | .st1 .. => h.execSt1
  | .st2 .. => h.execSt2
  | .st6 .. => h.execSt6
  | .ldl .. => h.execLdl
  | .stc .. => h.execStc
  | .movblk .. => h.execMovblk
  | .fillblk .. => h.execFillblk
  | .cmpblk .. => h.execCmpblk
  | .scanblk .. => h.execScanblk
  | .beq .. => h.execBeq
  | .bne .. => h.execBne
  | .blt .. => h.execBlt
  | .bge .. => h.execBge
  | .bltu .. => h.execBltu
  | .bgeu .. => h.execBgeu
  | .jmp .. => h.execJmp
  | .jmpr .. => h.execJmpr
  | .call .. => h.execCall
  | .callr .. => h.execCallr
  | .ret .. => h.execRet
  | .mfsr .. => h.execMfsr
  | .mtsr .. => h.execMtsr
  | .fence .. => h.execFence
  | .fenceI .. => h.execFenceI
  | .syscall .. => h.execSyscall
  | .rete .. => h.execRete
  | .wfi .. => h.execWfi
  | .flushw .. => h.execFlushw
  | .brk .. => h.execBrk
  | .storeBufferDrain .. => h.execStoreBufferDrain
  | .windowSpill .. => h.execWindowSpill
  | .windowFill .. => h.execWindowFill
  | .interruptEntry .. => h.execInterruptEntry
  | .icuSourceEdge .. => h.execIcuSourceEdge
  | .icuClaim .. => h.execIcuClaim
  | .icuEoi .. => h.execIcuEoi
  | .icuSwi .. => h.execIcuSwi
  | .icuGroupTimeout .. => h.execIcuGroupTimeout
  | .dmaStart .. => h.execDmaStart
  | .dmaGstart .. => h.execDmaGstart
  | .dmaAbort .. => h.execDmaAbort
  | .dmaAbortall .. => h.execDmaAbortall
  | .dmaElementRead .. => h.execDmaElementRead
  | .dmaElementWrite .. => h.execDmaElementWrite
  | .flcAlloc .. => h.execFlcAlloc
  | .flcFree .. => h.execFlcFree
  | .flcGo .. => h.execFlcGo
  | .flcProgramUnitDone .. => h.execFlcProgramUnitDone
  | .sfpInsertion .. => h.execSfpInsertion
  | .portUp .. => h.execPortUp
  | .portDown .. => h.execPortDown
  | .frameReceive .. => h.execFrameReceive
  | .discover .. => h.execDiscover
  | .assign .. => h.execAssign
  | .farReadRequest .. => h.execFarReadRequest
  | .farWriteRequest .. => h.execFarWriteRequest
  | .farResponse .. => h.execFarResponse
  | .farTimeout .. => h.execFarTimeout
  | .fabWakepulse .. => h.execFabWakepulse
  | .wakepulseEnd .. => h.execWakepulseEnd
  | .cyclicFrame .. => h.execCyclicFrame
  | .echoRequest .. => h.execEchoRequest
  | .echoResponse .. => h.execEchoResponse
  | .syncReceive .. => h.execSyncReceive
  | .mgmtOpen .. => h.execMgmtOpen
  | .mgmtClose .. => h.execMgmtClose
  | .mgmtCyckey .. => h.execMgmtCyckey
  | .mgmtAttest .. => h.execMgmtAttest
  | .sessionIdleTimeout .. => h.execSessionIdleTimeout
  | .sessionCloseWrite .. => h.execSessionCloseWrite
  | .stoInputAssert .. => h.execStoInputAssert
  | .stoInputRelease .. => h.execStoInputRelease
  | .safFaultClear .. => h.execSafFaultClear
  | .safDeclare .. => h.execSafDeclare
  | .safHoldWrite .. => h.execSafHoldWrite
  | .safAck .. => h.execSafAck
  | .mwdtService .. => h.execMwdtService
  | .cwdService .. => h.execCwdService
  | .cwdExpire .. => h.execCwdExpire
  | .cryHash .. => h.execCryHash
  | .cryVerify .. => h.execCryVerify
  | .cryVerifyOwner .. => h.execCryVerifyOwner
  | .crySignDev .. => h.execCrySignDev
  | .cryCommit .. => h.execCryCommit
  | .cryCompact .. => h.execCryCompact
  | .otpProv .. => h.execOtpProv
  | .otpRevoke .. => h.execOtpRevoke
  | .otpEpoch .. => h.execOtpEpoch
  | .otpCfgsig .. => h.execOtpCfgsig
  | .padRelease .. => h.execPadRelease
  | .lbistDone .. => h.execLbistDone
  | .dbgHalt .. => h.execDbgHalt
  | .vtTxdWrite .. => h.execVtTxdWrite
  | .vtRxdWrite .. => h.execVtRxdWrite
  | .vtRxdRead .. => h.execVtRxdRead
  | .extest .. => h.execExtest
  | .memap .. => h.execMemap
  | .dbgAuthVerify .. => h.execDbgAuthVerify
  | .dbgAuthWithdraw .. => h.execDbgAuthWithdraw
  | .tstCtlWrite .. => h.execTstCtlWrite
  | .flashBusyStretchEnd .. => h.execFlashBusyStretchEnd
  | .blockLockChange .. => h.execBlockLockChange
  | .sfpRemoval .. => h.execSfpRemoval
  | .mainsApplied => h.execMainsApplied
  | .bootPorRelease => h.execBootPorRelease
  | .bootClockLock => h.execBootClockLock
  | .bootJournalScan => h.execBootJournalScan
  | .bootSafetyImage => h.execBootSafetyImage
  | .bootConfigRead => h.execBootConfigRead
  | .bootTickStart => h.execBootTickStart
  | .bootAppImage => h.execBootAppImage
  | .bootDramInit => h.execBootDramInit
  | .adcCalibrationStart => h.execAdcCalibrationStart
  | .bootCoreRelease => h.execBootCoreRelease
  | .mainsLostOff => h.execMainsLostOff
  | .brownout => h.execBrownout
  | .moduleReset => h.execModuleReset
  | .resetHardcut => h.execResetHardcut
  | .frameTick => h.execFrameTick
  | .systimeNsWrap => h.execSystimeNsWrap
  | .timerGstartEvent => h.execTimerGstartEvent
  | .leCommitEvent => h.execLeCommitEvent
  | .learnRecordWrite => h.execLearnRecordWrite
  | .evrWindowExpire => h.execEvrWindowExpire
  | .mainsLoss => h.execMainsLoss
  | .mainsReturn => h.execMainsReturn
  | .busRegulationSet => h.execBusRegulationSet
  | .busRegulationLost => h.execBusRegulationLost
  | .isoConverterStop => h.execIsoConverterStop
  | .chopperOn => h.execChopperOn
  | .chopperOff => h.execChopperOff
  | .busOvervoltage => h.execBusOvervoltage
  | .busUndervoltage => h.execBusUndervoltage
  | .aux24OvercurrentOff => h.execAux24OvercurrentOff
  | .dramRefresh => h.execDramRefresh
  | .flcOpStart => h.execFlcOpStart
  | .flcProgramTimeout => h.execFlcProgramTimeout
  | .flcEraseDone => h.execFlcEraseDone
  | .flcEraseTimeout => h.execFlcEraseTimeout
  | .flcCompaction => h.execFlcCompaction
  | .nodeIdLost => h.execNodeIdLost
  | .fabricWakeDetect => h.execFabricWakeDetect
  | .cyclicSnapshot => h.execCyclicSnapshot
  | .cyclicWindowClose => h.execCyclicWindowClose
  | .echoSend => h.execEchoSend
  | .syncSend => h.execSyncSend
  | .syncTimeout => h.execSyncTimeout
  | .stoChainRelease => h.execStoChainRelease
  | .stoDiscrepancy => h.execStoDiscrepancy
  | .ss1Expire => h.execSs1Expire
  | .safeStopAckTimeout => h.execSafeStopAckTimeout
  | .lockstepMismatch => h.execLockstepMismatch
  | .mwdtHalf => h.execMwdtHalf
  | .mwdtExpire => h.execMwdtExpire
  | .cryJobDone => h.execCryJobDone
  | .dormantEntryComplete => h.execDormantEntryComplete
  | .wake => h.execWake
  | .wakeRestore => h.execWakeRestore
  | .wakeComplete => h.execWakeComplete
  | .aonTimerExpire => h.execAonTimerExpire
  | .lbistStart => h.execLbistStart
  | .lbistRecordWritten => h.execLbistRecordWritten
  | .tapReset => h.execTapReset
  | .idcode => h.execIdcode
  | .samplePreload => h.execSamplePreload
  | .bypass => h.execBypass
  | .dbgAuthDone => h.execDbgAuthDone
  | .tickJitterDelivery => h.execTickJitterDelivery
  | .isoConverterStart => h.execIsoConverterStart

/-- A meaning run on `s` itself: the answer is a next state, which keeps what `s` has. -/
theorem exec_goes (i : Instr) (s : State) : s.Goes (exec i s) := (State.Keeps.refl s).exec i

theorem State.Keeps.of_exec {i : Instr} (h : s.Keeps t) {u : State} (e : Machine.exec i t = .next u) : s.Keeps u := by
  obtain ⟨x, ex, k⟩ := h.exec i
  obtain rfl : u = x := by simpa [ex] using e.symm
  exact k

theorem State.Keeps.idle {u : State} (h : s.Keeps t) (e : Machine.idle t = .next u) : s.Keeps u := by
  unfold Machine.idle at e
  split at e
  · obtain rfl := Host.Outcome.next.inj e
    exact h.cycle
  · split at e
    · next ex =>
      obtain rfl := Host.Outcome.next.inj e
      exact (State.Keeps.of_exec h.update ex).update
    · cases e
    · cases e

end Sys2Proof.Machine

open Sys2Proof Sys2Proof.Machine

/-- Settles O3: `State.Keeps.exec` gives the next state command by command. -/
theorem noCommandStops : Obligations.NoCommandStops := fun c s =>
  have ⟨t, e, _⟩ := exec_goes c s
  ⟨t, e⟩

/-- Settles O4: `State.Keeps.exec`, command by command. -/
theorem commandsKeepTheQueue : Obligations.CommandsKeepTheQueue := fun _ _ _ e => (State.Keeps.of_exec (.refl _) e).pending

/-- Settles O5: every meaning keeps the canonical form (`State.Keeps.exec`), whether the queue or the clock brings it, and so does
a drive-base cycle; taking the command off the queue touches neither the register space nor the memory. -/
theorem stepsKeepTheCanonicalForm : Obligations.StepsKeepTheCanonicalForm := by
  intro s t hs e
  unfold step at e
  split at e
  · exact (State.Keeps.idle (.refl s) e).canonical hs
  · exact (State.Keeps.of_exec (.refl _) e).canonical hs

/-- Settles O1. -/
theorem stepRunsTheFrontCommand : Obligations.StepRunsTheFrontCommand := by
  intro c rest s h
  unfold step
  rw [h]

/-- Settles O6: the register space of the reset state lists two words, its memory nothing. -/
theorem resetIsCanonical : Obligations.ResetIsCanonical :=
  ⟨⟨by decide, rfl⟩, rfl⟩
end

section
/-! SUPPORT. A DMA write that is due in the same cycle lands before a core's write to the DMA block, also before one that is then
refused: the state that refutes O38. -/
open Sys2Proof Sys2Proof.Machine

/-- In STANDBY, channel 0 of the DMA moves its last element to SRAM in this cycle. -/
def Sys2Proof.Machine.lastElementDue : State :=
  { State.reset with
    alarms := [(0, .dmaElementWrite 0)]
    dmaBuf := [(0, 0x02000000, [0x55])]
    regs := [(A.SYS_MODE, 3), (A.DMA_BUSY, 1), (A.DMA_CH_DST 0, 0x02000100), (A.DMA_CH_CNT 0, 1), (A.DMA_CH_STAT 0, 1)] }

/-- Zenou-S writes at a misaligned address of the DMA block: the element of channel 0 lands first, and its count goes to 0. -/
theorem Sys2Proof.Machine.misalignedWrite_count :
    (match exec (.registerWrite .coreS 0x080D0001 0) lastElementDue with
      | .next u => u.reg (A.DMA_CH_CNT 0)
      | _ => 1) = 0 := by
  decide +kernel

/-- Refutes O38: a write at a misaligned address of the DMA block, in the cycle in which a DMA element is due to be written. The
element lands first (R33, R448), so that the command changes the channel's count although its own write is refused. -/
theorem not_registerWritesGoFieldByField : ¬ Obligations.RegisterWritesGoFieldByField := by
  intro h
  obtain ⟨-, -, hmis⟩ := h lastElementDue 0 false .coreS 0x080D0001 0 (by decide) rfl
  obtain ⟨u, hu, hregs, -⟩ := hmis (.inl (by decide))
  have hcount := misalignedWrite_count
  rw [hu] at hcount
  have hsame : u.reg (A.DMA_CH_CNT 0) = 1 := by
    unfold State.reg
    rw [hregs]
    decide
  exact absurd (hsame.symm.trans hcount) (by decide)
end

section
/-! SUPPORT. What a step does on an empty queue: an equation for each case of the event that is due, and the rank by which that
event is chosen among the others. -/
open Sys2Proof Sys2Proof.Machine

namespace Sys2Proof.Machine
variable {s t : State} {p q : Nat × Instr}

/-- On an empty queue a step is an idle step. -/
theorem step_eq_idle (hs : s.pending = []) : step s = idle s := by
  unfold step
  rw [hs]

theorem idle_of_dueNow_none (hd : s.dueNow = none) : idle s = .next s.cycle := by
  unfold idle
  rw [hd]

theorem idle_of_dueNow_some (hd : s.dueNow = some p) (he : exec p.2 { s with clocked := true } = .next t) :
    idle s = .next { t with beat := s.beat, clocked := false, alarms := t.alarms.filter (fun x => x != p) } := by
  unfold idle
  simp only [hd, he]

theorem eventRank_le_two (e : Instr) : eventRank e ≤ 2 := by
  unfold eventRank
  split <;> decide

/-- No event that is due goes before the one chosen: the search takes rank 0 first, then rank 1, and with neither found only
events of rank 2 are due (R33, R258). -/
theorem eventRank_le_of_dueNow (hd : s.dueNow = some p) (hq : q ∈ s.alarms) (hnow : q.1 ≤ s.now)
    (hclk : s.standsStill q.2 = false) : eventRank p.2 ≤ eventRank q.2 := by
  have hdue : q ∈ s.alarms.filter (fun x => decide (x.1 ≤ s.now) && !s.standsStill x.2) := by
    simp [hq, hnow, hclk]
  unfold State.dueNow at hd
  dsimp only at hd
  split at hd
  next found0 =>
    cases hd
    have rank0 : eventRank p.2 = 0 := by simpa using List.find?_some found0
    omega
  next none0 =>
    have notRank0 : eventRank q.2 ≠ 0 := by simpa using List.find?_eq_none.mp none0 q hdue
    split at hd
    next found1 =>
      cases hd
      have rank1 : eventRank p.2 = 1 := by simpa using List.find?_some found1
      omega
    next none1 =>
      have notRank1 : eventRank q.2 ≠ 1 := by simpa using List.find?_eq_none.mp none1 q hdue
      have := eventRank_le_two p.2
      omega

end Sys2Proof.Machine

/-- Settles O2: the two cases of an idle step, and the rank of the event that it takes. -/
theorem idleStepLetsTimePass : Obligations.IdleStepLetsTimePass := by
  intro s hs
  rw [step_eq_idle hs]
  exact ⟨idle_of_dueNow_none, fun _ _ hd he => idle_of_dueNow_some hd he,
    fun _ _ hd hq hnow hclk => eventRank_le_of_dueNow hd hq hnow hclk⟩
end

section
/-! SUPPORT. Reading after operations that leave a register alone: a field, a bit and the mode in a frame, what makes up a register
block, and the answer of a command whose meaning always goes on. -/
namespace Sys2Proof.Machine
set_option Elab.async false

variable {s t u : State} {p : Nat → Bool} {f g : Fld} {e : Instr} {l : List Nat} {a b n : Nat}

/-- `t` with one more command executed. -/
def State.counted (t : State) : State := { t with beat := t.beat + 1 }

/-- A command whose meaning answers `ok t` answers a next state, which differs from `t` in the command counter alone. -/
theorem next_of_ok {r : Result} {Q : State → Prop} (h : r = ok t) (hq : Q t.counted) : ∃ u, r = .next u ∧ Q u :=
  ⟨_, h, hq⟩

@[simp] theorem State.counted_reg (t : State) (a : Nat) : t.counted.reg a = t.reg a := rfl
@[simp] theorem State.counted_mode (t : State) : t.counted.mode = t.mode := rfl
@[simp] theorem State.counted_alarms (t : State) : t.counted.alarms = t.alarms := rfl
@[simp] theorem State.counted_dueIn (t : State) (n : Nat) (e : Instr) : t.counted.dueIn n e = t.dueIn n e := rfl
@[simp] theorem State.counted_bootStage (t : State) : t.counted.bootStage = t.bootStage := rfl
@[simp] theorem State.counted_mainsOn (t : State) : t.counted.mainsOn = t.mainsOn := rfl

/-! ### Instances in turn -/

theorem State.upto_succ (s : State) (n : Nat) (g : Nat → State → State) : s.upto (n + 1) g = g n (s.upto n g) := by
  simp [State.upto, List.range_succ]

/-- A property that `g i` takes from `i` to `i + 1` holds after the instances below `n`. -/
theorem State.upto_invariant {P : Nat → State → Prop} {g : Nat → State → State} (h0 : P 0 s)
    (step : ∀ i < n, ∀ t, P i t → P (i + 1) (g i t)) : P n (s.upto n g) := by
  induction n with
  | zero => exact h0
  | succ n ih =>
    rw [State.upto_succ]
    exact step n n.lt_succ_self _ (ih fun i hi => step i (hi.trans n.lt_succ_self))

/-! ### Fields in a frame -/

theorem sameRegs.trans (h : sameRegs p s t) (k : sameRegs p t u) : sameRegs p s u := fun a ha => (k a ha).trans (h a ha)

theorem sameRegs.rd (h : sameRegs p s t) (hf : p f.addr = false) : t.rd f = s.rd f := by
  unfold State.rd
  rw [h _ hf]

theorem sameRegs.bit (h : sameRegs p s t) (hf : p f.addr = false) : t.bit f = s.bit f := by
  unfold State.bit
  rw [h.rd hf]

theorem sameRegs.bitAt (h : sameRegs p s t) (hf : p f.addr = false) (i : Nat) : t.bitAt f i = s.bitAt f i := by
  unfold State.bitAt
  rw [h.rd hf]

theorem sameRegs.mode (h : sameRegs p s t) (hp : p A.SYS_MODE = false) : t.mode = s.mode := by
  unfold State.mode
  rw [h.rd (f := F.SYS_MODE_MODE) hp]

theorem sameRegs.modeIn (h : sameRegs p s t) (hp : p A.SYS_MODE = false) (m : List Mode) : t.modeIn m = s.modeIn m := by
  unfold State.modeIn
  rw [h.mode hp]

/-- A write of field `f` leaves field `g`: another register, or other bits. -/
def Fld.clears (f g : Fld) : Bool :=
  decide (g.lo + g.w ≤ 48) && (f.addr != g.addr || decide (g.lo + g.w ≤ f.lo) || decide (f.lo + f.w ≤ g.lo))

theorem State.rd_wr_clear (s : State) (n : Nat) (h : f.clears g = true) : (s.wr f n).rd g = s.rd g := by
  simp only [Fld.clears, Bool.and_eq_true, decide_eq_true_eq, Bool.or_eq_true, bne_iff_ne, ne_eq] at h
  exact State.rd_wr_ne s f g n h.1 (or_assoc.mp h.2)

theorem State.bit_wr_clear (s : State) (n : Nat) (h : f.clears g = true) : (s.wr f n).bit g = s.bit g := by
  unfold State.bit
  rw [State.rd_wr_clear s n h]

theorem State.bit_on_clear (s : State) (h : f.clears g = true) : (s.on f).bit g = s.bit g := State.bit_wr_clear s 1 h

theorem State.bit_off0_clear (s : State) (h : f.clears g = true) : (s.off0 f).bit g = s.bit g := State.bit_wr_clear s 0 h

/-- The code of a mode names it. -/
theorem Mode.ofCode_code (m : Mode) : Mode.ofCode m.code = m := by cases m <;> rfl

/-! ### Register blocks -/

theorem blocks_of_div (h : a / 0x10000 = b) (hb : l.contains b = true) : blocks l a = true := by
  unfold blocks
  rwa [h]

theorem blocksIcu_of_div (h : a / 0x10000 = b) (hb : l.contains b = true) : blocksIcu l a = true := by
  simp [blocksIcu, blocks_of_div h hb]

theorem blocksIcu_of_icu (h : icuReach a = true) : blocksIcu l a = true := by simp [blocksIcu, h]

/-- What an event firing reaches, in blocks. -/
theorem blocksIcu_of_event (hl : [0x803, 0x807, 0x80A, 0x810].all l.contains = true) (h : eventReach a = true) : blocksIcu l a = true := by
  simp only [List.all_cons, List.all_nil, Bool.and_true, Bool.and_eq_true] at hl
  obtain ⟨htmr, hle, hevr, haon⟩ := hl
  unfold eventReach at h
  simp only [Bool.or_eq_true, beq_iff_eq] at h
  rcases h with ((((h | h) | h) | h) | h) | h
  · exact blocksIcu_of_div h hevr
  · exact blocksIcu_of_icu (by simp [icuReach, h])
  · exact blocksIcu_of_div h htmr
  · exact blocksIcu_of_div h hle
  · exact blocksIcu_of_div h haon
  · exact blocksIcu_of_icu (by simp [icuReach, h])

/-- A wider list of blocks reaches more. -/
theorem blocksIcu_mono {m : List Nat} (hl : l.all m.contains = true) (h : blocksIcu l a = true) : blocksIcu m a = true := by
  unfold blocksIcu at h
  rcases Bool.or_eq_true _ _ ▸ h with h | h
  · exact blocksIcu_of_div rfl (List.all_eq_true.mp hl _ (List.contains_iff_mem.mp h))
  · exact blocksIcu_of_icu h

end Sys2Proof.Machine
end

section
/-! SUPPORT. Mode requests (R70-R74, R78): a write that a core makes to a register past BOOT, and the reasons for a refusal, which
depend on nothing that the write of SYS_MODEREQ and its interrupt change. -/
namespace Sys2Proof.Machine
set_option Elab.async false

variable {s t : State} {w : Writer} {v : Word} {a n : Nat} {f : Fld}

/-! ### Writes by software on a core -/

theorem State.operating_iff : s.operating = true ↔ s.busLive = true ∧ s.mode ≠ .boot := by
  simp [State.operating]

theorem isCore_cases (hw : isCore w = true) : (∃ n sup, w = .coreA n sup) ∨ w = .coreS := by
  cases w <;> simp_all [isCore]

theorem State.ranked_core (hw : isCore w = true) (hd : a / 0x10000 ≠ 0x80D) : s.ranked w a = s := by
  obtain ⟨n, sup, rfl⟩ | rfl := isCore_cases hw <;> exact if_neg hd

theorem windowAfter_core (hw : isCore w = true) : windowAfter w s t = t := by
  obtain ⟨n, sup, rfl⟩ | rfl := isCore_cases hw <;> rfl

/-- A core's write of SYS_MODEREQ past BOOT is a mode request. -/
theorem cmdWrite_modereq (hs : s.operating = true) (hw : isCore w = true) : s.cmdWrite w A.SYS_MODEREQ v = s.modeRequest w v := by
  obtain ⟨hlive, hboot⟩ := State.operating_iff.mp hs
  have reaches : s.reaches w A.SYS_MODEREQ = true := by obtain ⟨n, sup, rfl⟩ | rfl := isCore_cases hw <;> rfl
  have may : s.accessMay w A.SYS_MODEREQ true = true := by obtain ⟨n, sup, rfl⟩ | rfl := isCore_cases hw <;> rfl
  have bootMay : s.bootMay w A.SYS_MODEREQ = true := by simp [State.bootMay, hboot]
  have write : s.regWrite w A.SYS_MODEREQ v = s.modeRequest w v := rfl
  have aligned : ¬ A.SYS_MODEREQ % 8 ≠ 0 := by decide
  have outside : region A.SYS_MODEREQ ≠ .saf := by decide
  unfold State.cmdWrite
  rw [windowAfter_core hw, State.ranked_core hw (by decide)]
  cases hm : s.modeWriter w <;> simp [State.busWrite, aligned, outside, hlive, reaches, may, bootMay, write, hm]

/-- Zenou-S's write of SAF_ACK past BOOT. -/
theorem cmdWrite_ack (hs : s.operating = true) : s.cmdWrite .coreS A.SAF_ACK v = s.ackWrite v := by
  obtain ⟨hlive, hboot⟩ := State.operating_iff.mp hs
  have bootMay : s.bootMay .coreS A.SAF_ACK = true := by simp [State.bootMay, hboot]
  have write : s.regWrite .coreS A.SAF_ACK v = s.ackWrite v := rfl
  have aligned : ¬ A.SAF_ACK % 8 ≠ 0 := by decide
  have other : A.SAF_ACK ≠ A.SYS_MODEREQ := by decide
  unfold State.cmdWrite
  rw [windowAfter_core rfl, State.ranked_core rfl (by decide)]
  simp [State.busWrite, aligned, other, hlive, bootMay, write, State.reaches, State.accessMay, isSafety]

theorem modeWriter_of_sup (hw : isCore w = true) (hsup : isSup w = true) : s.modeWriter w = true := by
  obtain ⟨n, sup, rfl⟩ | rfl := isCore_cases hw
  · exact hsup
  · rfl

/-! ### The reasons for a refusal -/

/-- What an accepted write of SYS_MODEREQ changes before its request is checked: the register, and interrupt controllers (R70, R553). -/
def requestReach (a : Nat) : Bool := a == A.SYS_MODEREQ || icuReach a

/-- No register of a group of `n` instances is one of them, if its first and its last one lie on one side of the controllers. -/
theorem requestReach_group {base stride : Nat} (ha : a < n)
    (h : 0 < stride ∧ 0x08010000 ≤ base ∧ (base + stride * n ≤ 0x080C0000 ∨ 0x080D0000 ≤ base ∧ base + stride * n ≤ 0x0C001000
      ∨ 0x0C002000 ≤ base) := by decide) :
    requestReach (base + stride * a) = false := by
  have below : stride * a + stride ≤ stride * n := Nat.mul_le_mul_left stride ha
  have other : base + stride * a ≠ A.SYS_MODEREQ := by
    show base + stride * a ≠ 0x08000010
    omega
  have block : (base + stride * a) / 0x10000 ≠ 0x80C := by omega
  have safety : 0x0C001000 ≤ base + stride * a → 0x0C002000 ≤ base + stride * a := by omega
  simpa [requestReach, icuReach, other, block] using safety

/-- Two checks of all that lies below `n` agree when each one's do. -/
theorem range_any_congr {g h : Nat → Bool} (k : ∀ i < n, g i = h i) : (List.range n).any g = (List.range n).any h := by
  rw [Bool.eq_iff_iff]
  simp only [List.any_eq_true, List.mem_range]
  exact exists_congr fun i => and_congr_right fun hi => by rw [k i hi]

/-- `t` has what the checks of a mode request rest on from `s`. -/
structure State.SameAsk (s t : State) : Prop where
  regs : sameRegs requestReach s t
  held : t.held = s.held
  flcQueue : t.flcQueue = s.flcQueue
  flcOp : t.flcOp = s.flcOp
  ssCauses : t.ssCauses = s.ssCauses

namespace State.SameAsk

theorem inForce (h : s.SameAsk t) (hf : requestReach f.addr = false) : t.inForce f = s.inForce f := by
  unfold State.inForce
  rw [h.held, h.regs.rd hf]

theorem regInForce (h : s.SameAsk t) (ha : requestReach a = false) : t.regInForce a = s.regInForce a := by
  unfold State.regInForce
  rw [h.held, h.regs a ha]

theorem mode (h : s.SameAsk t) : t.mode = s.mode := h.regs.mode (by decide)

theorem safMis (h : s.SameAsk t) (ha : a < 24) : t.safMis a = s.safMis a := by
  unfold State.safMis
  rw [h.inForce (f := F.FB_AX_CFG_MODE a) (requestReach_group ha), h.inForce (f := F.FB_AX_CPE_CPE a) (requestReach_group ha),
    h.inForce (f := F.FB_AX_CFG_HPP a) (requestReach_group ha), h.regInForce (a := A.FB_AX_SER a) (requestReach_group ha),
    h.regs.rd (f := F.SAF_AX_RXCFG_MODE a) (requestReach_group ha), h.regs.rd (f := F.SAF_AX_RXCFG_CPE a) (requestReach_group ha),
    h.regs.rd (f := F.SAF_AX_RXCFG_HPP a) (requestReach_group ha), h.regs.rd (f := F.SAF_AX_RXSER_SER a) (requestReach_group ha)]

theorem consentHeld (h : s.SameAsk t) : t.consentHeld = s.consentHeld := by
  unfold State.consentHeld
  refine range_any_congr fun a ha => ?_
  rw [h.safMis ha, h.regs.bitAt (f := F.SAF_GATEEN_EN) (by decide), h.regs.bit (f := F.SAF_AX_CFG_XEN a) (requestReach_group ha),
    h.regs.bit (f := F.SAF_AX_STAT_VALID a) (requestReach_group ha)]

theorem calMissing (h : s.SameAsk t) : t.calMissing = s.calMissing := by
  unfold State.calMissing
  rw [h.regs.bit (f := F.SYS_READY_ADC) (by decide), h.regs.bit (f := F.ADC_STATUS_CALBUSY) (by decide)]
  congr 1
  refine range_any_congr fun a ha => ?_
  rw [h.regs.bitAt (f := F.ADC_CALERR_AXIS) (by decide), h.regs.bit (f := F.PWM_AX_CTL_OEN a) (requestReach_group ha)]

theorem latchBlocks (h : s.SameAsk t) : t.latchBlocks = s.latchBlocks := by
  unfold State.latchBlocks State.compTripen
  refine range_any_congr fun k hk => ?_
  rw [h.regs.bit (f := F.CMP_CH_STAT_LATCH k) (requestReach_group hk), h.inForce (f := F.CMP_CH_CFG_TRIPEN_HI k) (requestReach_group hk),
    h.inForce (f := F.CMP_CH_CFG_TRIPEN_LO k) (requestReach_group hk)]

theorem anyApp (h : s.SameAsk t) : t.anyApp = s.anyApp := by
  unfold State.anyApp
  rw [h.regs.rd (f := F.SYS_READY_APP) (by decide)]

theorem leMode (h : s.SameAsk t) (ha : a < 24) : t.leMode a = s.leMode a := by
  have bank : t.actBank a = s.actBank a := h.regs.rd (f := F.LE_AX_BSTAT_ACTIVE a) (requestReach_group ha)
  have lt : s.actBank a < 2 := State.rd_lt s (F.LE_AX_BSTAT_ACTIVE a)
  unfold State.leMode State.par
  rw [bank]
  refine h.regs.rd ?_
  show requestReach (0x08071100 + 0x400 * a + s.actBank a * 0x100000000) = false
  obtain h0 | h1 : s.actBank a = 0 ∨ s.actBank a = 1 := by omega
  · rw [h0, Nat.zero_mul, Nat.add_zero]
    exact requestReach_group ha
  · rw [h1, Nat.add_right_comm]
    exact requestReach_group ha

theorem anyLacking (h : s.SameAsk t) : t.anyLacking = s.anyLacking := by
  unfold State.anyLacking State.laneDrives
  refine range_any_congr fun a ha => ?_
  rw [h.leMode ha, h.regs.bit (f := F.PWM_AX_CTL_OEN a) (requestReach_group ha), h.inForce (f := F.PWM_AX_CTL_DSRC a) (requestReach_group ha),
    h.regs.bit (f := F.FB_AX_STAT_POSVALID a) (requestReach_group ha), h.inForce (f := F.LE_AX_CTL_OPENSTART a) (requestReach_group ha)]

theorem busyFor (h : s.SameAsk t) (d : Bool) : t.busyFor d = s.busyFor d := by
  have dma : (List.range 16).any (fun k => t.dmaBusy k) = (List.range 16).any (fun k => s.dmaBusy k) :=
    range_any_congr fun k hk => h.regs.bit (f := F.DMA_CH_STAT_BUSY k) (requestReach_group hk)
  have sess : t.anySession = s.anySession := range_any_congr fun k hk => by
    rw [h.regs.rd (f := F.FAB_SESS_STAT_STATE k) (requestReach_group hk)]
  unfold State.busyFor
  rw [dma, sess, h.flcQueue, h.flcOp]

theorem causePresent (h : s.SameAsk t) (k : Nat) : t.causePresent k = s.causePresent k := by
  unfold State.causePresent State.busMean State.rdS
  rw [h.regs A.SAF_FAULT (by decide), h.regs.bit (f := F.SAF_STATUS_STOA_REL) (by decide),
    h.regs.bit (f := F.SAF_STATUS_STOB_REL) (by decide), h.regs.bit (f := F.PWR_STATUS_MAINSLOSS) (by decide),
    h.regs.rd (f := F.PWR_VBUS_V) (by decide), h.regs.rd (f := F.THM_TB_T) (by decide),
    h.regs.bit (f := F.SYS_MODESTAT_RST_PENDING) (by decide), h.regs.bit (f := F.FAB_CYC_STAT_CONSEC) (by decide),
    h.regs.bit (f := F.SYS_READY_BUS) (by decide)]

theorem anyCausePresent (h : s.SameAsk t) : t.anyCausePresent = s.anyCausePresent :=
  range_any_congr fun k _ => by rw [h.ssCauses, h.causePresent]

/-- The reason for a refusal is the same. -/
theorem modeReason (h : s.SameAsk t) (target : Nat) : t.modeReason target = s.modeReason target := by
  unfold State.modeReason State.lanesReady
  rw [h.mode, h.consentHeld, h.calMissing, h.latchBlocks, h.anyApp, h.anyLacking, h.anyCausePresent, h.busyFor, h.busyFor,
    h.regs.bit (f := F.SAF_CONSENT_ARM) (by decide), h.regs.bit (f := F.SAF_STATUS_STO) (by decide),
    h.regs.bit (f := F.SYS_READY_BUS) (by decide), h.regs.bit (f := F.SAF_CONSENT_RUN) (by decide),
    h.regs.bit (f := F.SYS_READY_GEY50) (by decide), h.regs.bit (f := F.SYS_READY_LE) (by decide)]

end State.SameAsk

end Sys2Proof.Machine
end

section
/-! SUPPORT. What a mode request leaves (R70-R72, R78): refused because of its writer, lost behind a pending one, refused with its
reason, or pending. -/
namespace Sys2Proof.Machine
set_option Elab.async false

variable {s t : State} {w : Writer} {v : Word} {k : Nat}

/-- The mode status and the interrupt controllers: what an answer to a mode request changes. -/
def statReach (a : Nat) : Bool := a == A.SYS_MODESTAT || icuReach a

theorem statReach_of_icu (a : Nat) (h : icuReach a = true) : statReach a = true := by simp [statReach, h]

theorem sys_of_statReach (a : Nat) (h : statReach a = true) : blocksIcu [0x800] a = true := by
  simp only [statReach, Bool.or_eq_true, beq_iff_eq] at h
  obtain rfl | h := h
  · decide
  · exact blocksIcu_of_icu h

theorem sys_of_requestReach (a : Nat) (h : requestReach a = true) : blocksIcu [0x800] a = true := by
  simp only [requestReach, Bool.or_eq_true, beq_iff_eq] at h
  obtain rfl | h := h
  · decide
  · exact blocksIcu_of_icu h

/-! ### Refusals -/

theorem State.Quiet.modeWriterRefuse (s : State) : State.Quiet statReach s s.modeWriterRefuse :=
  ((State.Quiet.wr s F.SYS_MODESTAT_REFUSED 1 (by decide)).trans (.wr _ F.SYS_MODESTAT_REASON 2 (by decide))).trans
    ((State.Quiet.irq _ 80).mono statReach_of_icu)

theorem State.Quiet.modeRefuse (s : State) (r : Nat) : State.Quiet statReach s (s.modeRefuse r) :=
  ((((State.Quiet.wr s F.SYS_MODESTAT_PEND 0 (by decide)).trans (.wr _ F.SYS_MODESTAT_REFUSED 1 (by decide))).trans
    (.wr _ F.SYS_MODESTAT_REASON r (by decide))).trans ((State.Quiet.irq _ 80).mono statReach_of_icu)).trans (.cancel _ _ _)

/-- A flag outside the interrupt controllers after an interrupt edge. -/
theorem State.bit_irq {f : Fld} (s : State) (src : Nat) (hf : icuReach f.addr = false) : (s.irq src).bit f = s.bit f :=
  (State.Quiet.irq s src).1.bit hf

/-- A refusal because of the writer leaves a pending request. -/
theorem State.modeWriterRefuse_pend (s : State) : s.modeWriterRefuse.bit F.SYS_MODESTAT_PEND = s.bit F.SYS_MODESTAT_PEND :=
  (State.bit_irq _ 80 (by decide)).trans ((State.bit_wr_clear _ 2 (by decide)).trans (State.bit_on_clear s (by decide)))

theorem State.modeWriterRefuse_reason (s : State) : s.modeWriterRefuse.rd F.SYS_MODESTAT_REASON = 2 :=
  ((State.Quiet.irq _ 80).1.rd (by decide)).trans (State.rd_wr_self _ F.SYS_MODESTAT_REASON 2 (by decide))

theorem State.modeWriterRefuse_refused (s : State) : s.modeWriterRefuse.bit F.SYS_MODESTAT_REFUSED = true :=
  (State.bit_irq _ 80 (by decide)).trans
    ((State.bit_wr_clear _ 2 (by decide)).trans (State.bit_on_self s _ (by decide) (by decide)))

theorem State.modeRefuse_reason (s : State) {r : Nat} (hr : r < 16) : (s.modeRefuse r).rd F.SYS_MODESTAT_REASON = r :=
  ((State.Quiet.irq _ 80).1.rd (by decide)).trans
    ((State.rd_wr_self _ F.SYS_MODESTAT_REASON r (by decide)).trans (Nat.mod_eq_of_lt hr))

theorem State.modeRefuse_refused (s : State) (r : Nat) : (s.modeRefuse r).bit F.SYS_MODESTAT_REFUSED = true :=
  (State.bit_irq _ 80 (by decide)).trans
    ((State.bit_wr_clear _ r (by decide)).trans (State.bit_on_self _ _ (by decide) (by decide)))

theorem State.modeRefuse_pend (s : State) (r : Nat) : (s.modeRefuse r).bit F.SYS_MODESTAT_PEND = false :=
  (State.bit_irq _ 80 (by decide)).trans ((State.bit_wr_clear _ r (by decide)).trans
    ((State.bit_on_clear _ (by decide)).trans (State.bit_off0_self s F.SYS_MODESTAT_PEND (by decide))))

/-! ### Requests -/

theorem firstReason_lt {l : List (Nat × Bool)} (h : l.all (fun q => decide (q.1 < 16)) = true) : firstReason l < 16 := by
  induction l with
  | nil => decide
  | cons q l ih =>
    obtain ⟨k, b⟩ := q
    simp only [List.all_cons, Bool.and_eq_true, decide_eq_true_eq] at h
    cases b
    · exact ih h.2
    · exact h.1

/-- A reason fits its field. -/
theorem State.modeReason_lt (s : State) (k : Nat) : s.modeReason k < 16 := by
  unfold State.modeReason
  split
  · exact firstReason_lt rfl
  · exact firstReason_lt rfl
  · decide
  · decide
  · exact firstReason_lt rfl
  · exact firstReason_lt rfl
  · exact firstReason_lt rfl
  · decide

/-- From RUN a request for STANDBY is not one of R74's changes. -/
theorem State.modeReason_run_standby (hrun : s.mode = .run) : s.modeReason 3 = 1 := by
  unfold State.modeReason
  rw [hrun]
  rfl

theorem State.modeReason_run_armed (hrun : s.mode = .run) : s.modeReason 4 = 0 := by
  unfold State.modeReason
  rw [hrun]
  rfl

/-- `s` with a mode request written to SYS_MODEREQ and reported to Zenou-S, before its check (R70, R553). -/
def State.requested (s : State) (v : Word) : State :=
  ((s.wr F.SYS_MODEREQ_TARGET (getBits v 0 3)).wr F.SYS_MODEREQ_END (getBits v 4 1)).irqS 17

theorem State.Quiet.requested (s : State) (v : Word) : State.Quiet requestReach s (s.requested v) :=
  ((State.Quiet.wr s F.SYS_MODEREQ_TARGET _ (by decide)).trans (.wr _ F.SYS_MODEREQ_END _ (by decide))).trans
    ((State.Quiet.irqS _ 17).mono (fun a h => by simp [requestReach, h]))

theorem State.requested_regsOnly (s : State) (v : Word) : s.RegsOnly (s.requested v) :=
  (State.RegsOnly.wr s _ _).trans ((State.RegsOnly.wr _ _ _).trans (.irqS _ 17))

theorem State.requested_sameAsk (s : State) (v : Word) : s.SameAsk (s.requested v) := by
  have h := s.requested_regsOnly v
  unfold State.RegsOnly at h
  exact ⟨(State.Quiet.requested s v).1, by rw [h], by rw [h], by rw [h], by rw [h]⟩

theorem State.requested_target (s : State) (v : Word) : (s.requested v).rd F.SYS_MODEREQ_TARGET = getBits v 0 3 := by
  have kept : (s.requested v).rd F.SYS_MODEREQ_TARGET
      = ((s.wr F.SYS_MODEREQ_TARGET (getBits v 0 3)).wr F.SYS_MODEREQ_END (getBits v 4 1)).rd F.SYS_MODEREQ_TARGET :=
    (State.Quiet.irqS _ 17).1.rd (by decide)
  rw [kept, State.rd_wr_clear _ _ (by decide), State.rd_wr_self _ _ _ (by decide)]
  exact Nat.mod_eq_of_lt (getBits_lt v 0 3)

theorem modeRequest_of_writer (hw : s.modeWriter w = false) : s.modeRequest w v = s.modeWriterRefuse := by
  simp [State.modeRequest, hw]

theorem modeRequest_of_pending (hw : s.modeWriter w = true) (hp : s.bit F.SYS_MODESTAT_PEND = true) :
    s.modeRequest w v = s.on F.SYS_MODESTAT_REQ_LOST := by
  simp [State.modeRequest, hw, hp]

/-- A request that meets none pending is answered by its check. -/
theorem modeRequest_of_free (hw : s.modeWriter w = true) (hp : s.bit F.SYS_MODESTAT_PEND = false) :
    s.modeRequest w v = if s.modeReason (getBits v 0 3) = 0 then (s.requested v).modeAccept (getBits v 0 3)
      else (s.requested v).modeRefuse (s.modeReason (getBits v 0 3)) := by
  rw [← (s.requested_sameAsk v).modeReason (getBits v 0 3)]
  unfold State.modeRequest
  rw [if_neg (by simp [hw]), if_neg (by simp [hp])]
  rfl

/-- An accepted request for STANDBY, ARMED or RUN waits, from SAFE_STOP at most 100 ms (R548). -/
theorem modeAccept_waits (s : State) (hlo : 3 ≤ k) (hhi : k ≤ 5) :
    s.modeAccept k = s.on F.SYS_MODESTAT_PEND ∨
    s.modeAccept k = (s.on F.SYS_MODESTAT_PEND).after (ms 100) .safeStopAckTimeout := by
  obtain rfl | rfl | rfl : k = 3 ∨ k = 4 ∨ k = 5 := by omega
  all_goals
    unfold State.modeAccept
    cases s.mode <;> simp [Mode.ofCode]

/-- What an accepted request for STANDBY, ARMED or RUN leaves. -/
theorem modeAccept_pends (s : State) (hlo : 3 ≤ k) (hhi : k ≤ 5) :
    State.Quiet statReach s (s.modeAccept k) ∧ (s.modeAccept k).bit F.SYS_MODESTAT_PEND = true := by
  have quiet : State.Quiet statReach s (s.on F.SYS_MODESTAT_PEND) := .wr s F.SYS_MODESTAT_PEND 1 (by decide)
  have pend : (s.on F.SYS_MODESTAT_PEND).bit F.SYS_MODESTAT_PEND = true := State.bit_on_self s _ (by decide) (by decide)
  obtain h | h := modeAccept_waits s hlo hhi <;> rw [h]
  · exact ⟨quiet, pend⟩
  · exact ⟨quiet.trans (.after _ _ _ _), pend⟩

/-- A change that an answer to a mode request makes leaves the mode, and the memory. -/
theorem State.Quiet.stat_frame (h : State.Quiet statReach s t) :
    t.mode = s.mode ∧ sameRegs (blocksIcu [0x800]) s t ∧ Machine.sameMem s t :=
  ⟨h.1.mode (by decide), (h.mono sys_of_statReach).1, h.sameMem⟩

theorem State.requested_frame (h : State.Quiet statReach (s.requested v) t) :
    t.mode = s.mode ∧ sameRegs (blocksIcu [0x800]) s t ∧ sameMem s t := by
  have all := ((State.Quiet.requested s v).mono sys_of_requestReach).trans (h.mono sys_of_statReach)
  exact ⟨(h.1.mode (by decide)).trans (s.requested_sameAsk v).mode, all.1, all.sameMem⟩

/-- A refused request (R72). -/
theorem modeRequest_refuses (hw : s.modeWriter w = true) (hp : s.bit F.SYS_MODESTAT_PEND = false)
    (hr : s.modeReason (getBits v 0 3) ≠ 0) :
    (s.modeRequest w v).bit F.SYS_MODESTAT_REFUSED = true ∧
    (s.modeRequest w v).rd F.SYS_MODESTAT_REASON = s.modeReason (getBits v 0 3) ∧
    (s.modeRequest w v).bit F.SYS_MODESTAT_PEND = false ∧ (s.modeRequest w v).mode = s.mode ∧
    sameRegs (blocksIcu [0x800]) s (s.modeRequest w v) ∧ sameMem s (s.modeRequest w v) := by
  rw [modeRequest_of_free hw hp, if_neg hr]
  exact ⟨State.modeRefuse_refused _ _, State.modeRefuse_reason _ (s.modeReason_lt _), State.modeRefuse_pend _ _,
    State.requested_frame (.modeRefuse _ _)⟩

/-- A permitted request between STANDBY, ARMED and RUN pends (R72, R74). -/
theorem modeRequest_accepts (hw : s.modeWriter w = true) (hp : s.bit F.SYS_MODESTAT_PEND = false)
    (hr : s.modeReason (getBits v 0 3) = 0) (hlo : 3 ≤ getBits v 0 3) (hhi : getBits v 0 3 ≤ 5) :
    (s.modeRequest w v).bit F.SYS_MODESTAT_PEND = true ∧
    (s.modeRequest w v).rd F.SYS_MODEREQ_TARGET = getBits v 0 3 ∧ (s.modeRequest w v).mode = s.mode ∧
    sameRegs (blocksIcu [0x800]) s (s.modeRequest w v) ∧ sameMem s (s.modeRequest w v) := by
  rw [modeRequest_of_free hw hp, if_pos hr]
  obtain ⟨quiet, pend⟩ := modeAccept_pends (s.requested v) hlo hhi
  exact ⟨pend, (quiet.1.rd (by decide)).trans (s.requested_target v), State.requested_frame quiet⟩

end Sys2Proof.Machine

open Sys2Proof Sys2Proof.Machine

/-- A core's mode request past BOOT answers the state that the request leaves. -/
theorem Sys2Proof.Machine.exec_modeRequest {s : State} {w : Writer} {v : Word} (hs : s.operating = true) (hw : isCore w = true) :
    exec (.modeRequest w v) s = ok (s.modeRequest w v) := by
  show ok (s.cmdWrite w A.SYS_MODEREQ v) = _
  rw [cmdWrite_modereq hs hw]

/-- Settles O20: the four answers of a mode request. -/
theorem modeRequests : Obligations.ModeRequests := by
  intro s w n v hs
  refine ⟨next_of_ok (exec_modeRequest hs rfl) ?_, fun hw hsup hp => next_of_ok (exec_modeRequest hs hw) ?_,
    fun hw hsup hp hr => next_of_ok (exec_modeRequest hs hw) ?_,
    fun hw hsup hp hr hlo hhi => next_of_ok (exec_modeRequest hs hw) ?_⟩
  · rw [modeRequest_of_writer rfl]
    exact ⟨s.modeWriterRefuse_refused, s.modeWriterRefuse_reason, s.modeWriterRefuse_pend,
      (State.Quiet.modeWriterRefuse s).stat_frame⟩
  · rw [modeRequest_of_pending (modeWriter_of_sup hw hsup) hp]
    have quiet : State.Quiet statReach s (s.on F.SYS_MODESTAT_REQ_LOST) := .wr s F.SYS_MODESTAT_REQ_LOST 1 (by decide)
    obtain ⟨mode, frame⟩ := quiet.stat_frame
    exact ⟨State.bit_on_self s _ (by decide) (by decide), mode, quiet.1.rd (by decide), frame⟩
  · exact modeRequest_refuses (modeWriter_of_sup hw hsup) hp hr
  · exact modeRequest_accepts (modeWriter_of_sup hw hsup) hp hr hlo hhi

/-- Settles O21: from RUN only ARMED is permitted. -/
theorem runLeavesThroughArmed : Obligations.RunLeavesThroughArmed := by
  intro s w v hs hw hsup hrun hp
  have writer : s.modeWriter w = true := modeWriter_of_sup hw hsup
  refine ⟨fun h3 => next_of_ok (exec_modeRequest hs hw) ?_, fun h4 => next_of_ok (exec_modeRequest hs hw) ?_⟩
  · have reason : s.modeReason (getBits v 0 3) = 1 := by rw [h3, State.modeReason_run_standby hrun]
    obtain ⟨refused, why, pend, mode, frame⟩ := modeRequest_refuses writer hp (by rw [reason]; decide)
    exact ⟨refused, why.trans reason, mode.trans hrun, pend, frame⟩
  · have reason : s.modeReason (getBits v 0 3) = 0 := by rw [h4, State.modeReason_run_armed hrun]
    obtain ⟨pend, target, -, frame⟩ := modeRequest_accepts writer hp reason (by omega) (by omega)
    exact ⟨pend, target.trans h4, frame⟩
end

section
/-! SUPPORT. What events leave alone apart from registers and memory: the cores, the row of BOOT, the epoch and the end of a core's
reset. One lemma for each function of the event router, named after it; its proof names the functions that the definition applies. -/
namespace Sys2Proof.Machine
set_option Elab.async false

variable {s t u : State} {f flag ien : Fld} {a c g k n src : Nat} {b : Bool} {v : Word} {e : Instr}

/-- Whether event `e` ends a core's reset (R97). -/
def endsCoreReset : Instr → Bool
  | .coreResetRelease _ => true
  | _ => false

/-- `t` has the cores, the row of BOOT, the epoch and the ends of core resets of `s`. -/
structure State.Rest (s t : State) : Prop where
  cores : t.cores = s.cores
  bootStage : t.bootStage = s.bootStage
  epoch : t.epoch = s.epoch
  due : ∀ c, t.due (.coreResetRelease c) = s.due (.coreResetRelease c)

theorem due_cancel_ne {e f : Instr} (h : f ≠ e) : (t.cancel e).due f = t.due f := by
  have set := State.due_after_ne t 0 h
  simp only [State.due, State.after, alarmInsert_any, beq_eq_false_iff_ne.mpr (Ne.symm h), Bool.false_or] at set
  exact set

namespace State.Rest

theorem refl (s : State) : s.Rest s := ⟨rfl, rfl, rfl, fun _ => rfl⟩

/-- An update of other state. -/
theorem update (h : s.Rest t) (cores : u.cores = t.cores := by rfl) (bootStage : u.bootStage = t.bootStage := by rfl)
    (epoch : u.epoch = t.epoch := by rfl) (alarms : u.alarms = t.alarms := by rfl) : s.Rest u :=
  ⟨cores.trans h.cores, bootStage.trans h.bootStage, epoch.trans h.epoch, fun c => by
    rw [← h.due c]
    unfold State.due
    rw [alarms]⟩

theorem ite {p : Prop} [Decidable p] (h : s.Rest t) (k : s.Rest u) : s.Rest (if p then t else u) := by split <;> assumption

theorem setReg (h : s.Rest t) : s.Rest (t.setReg a v) := h.update

theorem wr (h : s.Rest t) : s.Rest (t.wr f n) := h.update

theorem on (h : s.Rest t) : s.Rest (t.on f) := h.update

theorem off0 (h : s.Rest t) : s.Rest (t.off0 f) := h.update

theorem wrb (h : s.Rest t) : s.Rest (t.wrb f b) := h.update

theorem setBitAt (h : s.Rest t) : s.Rest (t.setBitAt f k b) := h.update

theorem inc (h : s.Rest t) : s.Rest (t.inc f) := .ite h.wr h

theorem upto {g : Nat → State → State} (h : s.Rest t) (k : ∀ i u, s.Rest u → s.Rest (g i u)) : s.Rest (t.upto n g) :=
  State.upto_invariant (P := fun _ u => s.Rest u) h fun i _ u => k i u

theorem cancel (h : s.Rest t) (he : endsCoreReset e = false := by rfl) : s.Rest (t.cancel e) :=
  ⟨h.cores, h.bootStage, h.epoch, fun c => (due_cancel_ne (by rintro rfl; cases he)).trans (h.due c)⟩

theorem after (h : s.Rest t) (he : endsCoreReset e = false := by rfl) : s.Rest (t.after n e) :=
  ⟨h.cores, h.bootStage, h.epoch, fun c => (State.due_after_ne t n (by rintro rfl; cases he)).trans (h.due c)⟩

/-! ### Interrupts -/

theorem latchPend (h : s.Rest t) : s.Rest (t.latchPend c src) :=
  have noted : s.Rest (t.noteEdge c src) := h.update
  .ite noted.inc noted.on

theorem groupFire (h : s.Rest t) : s.Rest (t.groupFire c g) := h.latchPend.wr.off0.cancel

theorem groupTimer (h : s.Rest t) : s.Rest (t.groupTimer c g) := .ite h h.on.after

theorem groupCount (h : s.Rest t) : s.Rest (t.groupCount c g) :=
  have counted := Rest.ite h.wr.groupTimer h.wr
  .ite counted.groupFire counted

theorem edge (h : s.Rest t) : s.Rest (t.edge c src) := .ite (.ite h.latchPend.groupCount h.latchPend) h

theorem irq (h : s.Rest t) : s.Rest (t.irq src) := h.upto fun _ _ k => k.edge

theorem irqS (h : s.Rest t) : s.Rest (t.irqS src) := h.edge

theorem rise (h : s.Rest t) : s.Rest (t.rise flag ien k src) := .ite h (.ite h.on.irq h.on)

/-! ### The tasks of the event router -/

theorem setTmr {x : Timer} (h : s.Rest t) : s.Rest (t.setTmr a x) := h.update

theorem tmrStart (h : s.Rest t) : s.Rest (t.tmrStart n) := h.upto fun _ _ k => .ite k.setBitAt.setTmr k

theorem gstartTask (h : s.Rest t) : s.Rest t.gstartTask := .ite h.tmrStart h

theorem setCapQ {q : List Word} (h : s.Rest t) : s.Rest (t.setCapQ a k q) := h.setTmr.wr.wrb

theorem capture (h : s.Rest t) : s.Rest (t.capture a k) :=
  .ite h (.ite (.ite (.ite h.setCapQ.setTmr.irq h.setCapQ.setTmr) h.setCapQ) (.ite h.setTmr h.inc.rise))

theorem setAxis {x : Axis} (h : s.Rest t) : s.Rest (t.setAxis a x) := h.update

theorem commitRefuse (h : s.Rest t) : s.Rest (t.commitRefuse a c) := h.off0.setBitAt.on.wr.irq

theorem commitAxis (h : s.Rest t) : s.Rest (t.commitAxis a c) :=
  .ite (.ite h (Rest.ite h.off0.wr h).on.setBitAt.setAxis) h.commitRefuse.setAxis

theorem commitTask (h : s.Rest t) : s.Rest t.commitTask := .ite (h.upto fun _ _ k => .ite k.commitAxis k) h

theorem dioFollow (h : s.Rest t) : s.Rest (t.dioFollow k) := .ite h.cancel h.after

theorem arrive {act : State → State} (h : s.Rest t) (k : ∀ u, s.Rest u → s.Rest (act u)) : s.Rest (t.arrive a n act) :=
  .ite h.inc (k _ h.update)

theorem wakeSet (h : s.Rest t) : s.Rest (t.wakeSet c) := by
  unfold State.wakeSet
  split
  · exact h
  · exact h.update

theorem evrNote (h : s.Rest t) : s.Rest (t.evrNote a) := h.update

theorem groupTask (h : s.Rest t) : s.Rest (t.groupTask g b) :=
  .ite h (.ite (h.arrive fun _ k => .ite k k.evrNote.setBitAt) (h.arrive fun _ k => k.evrNote.setBitAt))

theorem dioTask (h : s.Rest t) : s.Rest (t.dioTask k a) := by
  refine .ite h ?_
  dsimp only
  split
  · exact (Rest.ite h.inc h).arrive fun _ k => .ite k k.setBitAt.dioFollow
  · exact (Rest.ite h.inc h).arrive fun _ k => k.setBitAt.dioFollow
  · exact .ite h.inc (h.arrive fun _ k => k.setBitAt.dioFollow)
  · exact h

theorem evrDeliver (h : s.Rest t) : s.Rest (t.evrDeliver c) :=
  have edges := Rest.ite h (h.upto fun _ _ k => .ite k.edge k)
  have wake := Rest.ite edges.wakeSet edges
  have start := Rest.ite (wake.arrive fun _ k => k.gstartTask) wake
  have commit := Rest.ite (start.arrive fun _ k => k.commitTask) start
  have enable := Rest.ite commit.groupTask commit
  have disable := Rest.ite enable.groupTask enable
  have captured := Rest.ite (disable.arrive fun _ k => k.capture) disable
  .ite captured.dioTask captured

theorem evrLast {x : Tab (Nat × Nat)} (h : s.Rest t) : s.Rest { t with evrLast := x } := h.update

theorem evrFireCh (h : s.Rest t) : s.Rest (t.evrFireCh c) :=
  .ite h (.ite h.inc (.ite h.on.irq (Rest.ite h.wr.after h.wr).evrLast.evrDeliver))

theorem fire (h : s.Rest t) : s.Rest (t.fire c n) := .ite h.evrFireCh h

theorem setReady (h : s.Rest t) : s.Rest (t.setReady k b) := .ite h h.wrb.on.irq.fire

end State.Rest
end Sys2Proof.Machine
end

section
/-! SUPPORT. What the gate outputs, the brakes, the STO chain and a change of mode reach: registers of a few blocks and of the
interrupt controllers, no byte of memory, no core. One lemma for each function of the model, named after it. -/
namespace Sys2Proof.Machine
set_option Elab.async false

variable {s t u : State} {f flag ien : Fld} {a c g k n p src : Nat} {b : Bool} {v : Word} {e : Instr} {l m : List Nat}

/-- `t` differs from `s` in registers of the blocks `l` and of interrupt controllers, and not in memory or `State.Rest`. -/
structure State.Steady (l : List Nat) (s t : State) : Prop where
  quiet : State.Quiet (blocksIcu l) s t
  rest : s.Rest t

/-- The blocks that the STO chain reaches: timers, Caldera, event routing, PWR, AON, the safety region (R310, R538). -/
def chainBlocks : List Nat := [0x803, 0x807, 0x80A, 0x80B, 0x810, 0xC00]

/-- The blocks that a change of mode reaches beside them: SYS, DBG and TST. -/
def modeBlocks : List Nat := [0x800, 0x803, 0x807, 0x80A, 0x80B, 0x810, 0x811, 0x812, 0xC00]

/-- The register `base + stride * a` of a group of `n` lies in the block of its base. -/
theorem div_group {base stride : Nat} (ha : a < n) (h : 0 < stride ∧ base % 0x10000 + stride * n ≤ 0x10000 := by decide) :
    (base + stride * a) / 0x10000 = base / 0x10000 := by
  have below : stride * a + stride ≤ stride * n := Nat.mul_le_mul_left stride ha
  omega

namespace State.Steady

theorem refl (l : List Nat) (s : State) : s.Steady l s := ⟨.refl _ s, .refl s⟩

theorem mono (h : s.Steady l t) (hl : l.all m.contains = true := by decide) : s.Steady m t :=
  ⟨h.quiet.mono fun _ => blocksIcu_mono hl, h.rest⟩

theorem ite {p : Prop} [Decidable p] (h : s.Steady l t) (k : s.Steady l u) : s.Steady l (if p then t else u) := by
  split <;> assumption

/-- An update of other state. -/
theorem update (h : s.Steady l t) (regs : u.regs = t.regs := by rfl) (mem : u.mem = t.mem := by rfl) (torn : u.torn = t.torn := by rfl)
    (cores : u.cores = t.cores := by rfl) (bootStage : u.bootStage = t.bootStage := by rfl) (epoch : u.epoch = t.epoch := by rfl)
    (alarms : u.alarms = t.alarms := by rfl) : s.Steady l u :=
  ⟨h.quiet.trans (.of_eq _ regs mem torn), h.rest.update cores bootStage epoch alarms⟩

theorem setReg (h : s.Steady l t) (ha : blocksIcu l a = true) : s.Steady l (t.setReg a v) :=
  ⟨h.quiet.trans (.setReg t a v ha), h.rest.setReg⟩

theorem wr (h : s.Steady l t) (hf : blocksIcu l f.addr = true := by decide) : s.Steady l (t.wr f n) :=
  ⟨h.quiet.trans (.wr t f n hf), h.rest.wr⟩

theorem on (h : s.Steady l t) (hf : blocksIcu l f.addr = true := by decide) : s.Steady l (t.on f) := h.wr hf

theorem off0 (h : s.Steady l t) (hf : blocksIcu l f.addr = true := by decide) : s.Steady l (t.off0 f) := h.wr hf

theorem wrb (h : s.Steady l t) (hf : blocksIcu l f.addr = true := by decide) : s.Steady l (t.wrb f b) := h.wr hf

theorem setBitAt (h : s.Steady l t) (hf : blocksIcu l f.addr = true := by decide) : s.Steady l (t.setBitAt f k b) := h.wr hf

theorem cancel (h : s.Steady l t) (he : endsCoreReset e = false := by rfl) : s.Steady l (t.cancel e) :=
  ⟨h.quiet.trans (.cancel _ t e), h.rest.cancel he⟩

theorem after (h : s.Steady l t) (he : endsCoreReset e = false := by rfl) : s.Steady l (t.after n e) :=
  ⟨h.quiet.trans (.after _ t n e), h.rest.after he⟩

theorem irq (h : s.Steady l t) : s.Steady l (t.irq src) :=
  ⟨h.quiet.trans ((State.Quiet.irq t src).mono fun _ => blocksIcu_of_icu), h.rest.irq⟩

theorem irqS (h : s.Steady l t) : s.Steady l (t.irqS src) :=
  ⟨h.quiet.trans ((State.Quiet.irqS t src).mono fun _ => blocksIcu_of_icu), h.rest.irqS⟩

theorem fire (h : s.Steady l t) (hl : [0x803, 0x807, 0x80A, 0x810].all l.contains = true := by decide) (hc : c < 96 := by decide) :
    s.Steady l (t.fire c n) :=
  ⟨h.quiet.trans ((State.Quiet.fire t n hc).mono fun _ => blocksIcu_of_event hl), h.rest.fire⟩

theorem rise (h : s.Steady l t) (hf : blocksIcu l flag.addr = true := by decide) : s.Steady l (t.rise flag ien k src) :=
  .ite h (.ite (h.on hf).irq (h.on hf))

theorem upto {g : Nat → State → State} (h : s.Steady l t) (k : ∀ i < n, ∀ u, s.Steady l u → s.Steady l (g i u)) :
    s.Steady l (t.upto n g) := State.upto_invariant (P := fun _ u => s.Steady l u) h k

theorem setAxis {x : Axis} (h : s.Steady l t) : s.Steady l (t.setAxis a x) := h.update

/-! ### Gate outputs -/

theorem leLevel (h : s.Steady chainBlocks t) (ha : a < 24) : s.Steady chainBlocks (t.leLevel a k b) := by
  have flag : blocksIcu chainBlocks (A.LE_AX_FLAG a) = true := blocksIcu_of_div (div_group ha) (by decide)
  exact .ite (.ite h (.ite (h.on flag).irq (h.on flag))) (h.off0 flag)

theorem holdLook (h : s.Steady chainBlocks t) (ha : a < 24) : s.Steady chainBlocks (t.holdLook a) := .ite (h.leLevel ha) h

theorem undrop (h : s.Steady l t) : s.Steady l (t.undrop a p) := h.update

theorem setComp {x : Comp} (h : s.Steady l t) : s.Steady l (t.setComp n x) := h.update

theorem lvlFall (h : s.Steady l t) : s.Steady l (t.lvlFall a) := .ite h.setAxis h

theorem blankIf (h : s.Steady l t) : s.Steady l (t.blankIf k n) := .ite (.ite h h.setComp.after) h

theorem gateEdge (h : s.Steady l t) : s.Steady l (t.gateEdge a) :=
  have one : ∀ (n : Nat) (u : State), s.Steady l u → s.Steady l (if (u.inForce (F.CMP_CH_CFG_BSRC n)).testBit 2
      then u.setComp n { u.comp n with gateAt := some (u.now + tripLag) } else u) := fun _ _ k => .ite k.setComp k
  .ite (one _ _ (one _ _ (one _ _ h))) (h.blankIf.blankIf.blankIf.upto fun _ _ _ k => k.lvlFall)

theorem setPhase {x : Phase} (h : s.Steady l t) : s.Steady l (t.setPhase a p x) := h.update

theorem setGate {x : Gate} (h : s.Steady l t) : s.Steady l (t.setGate a p x) := .ite h (.ite h.setPhase.gateEdge h.setPhase)

theorem turn (h : s.Steady l t) : s.Steady l (t.turn a p b) := by
  have wait : s.Steady l (if t.deadSteps (a / 4) = 0 then t.setGate a p (if b then .high else .low)
      else (t.setGate a p (.dead b)).after ((t.deadSteps (a / 4) + 7) / 8) (deadEvent a p)) := .ite h.setGate h.setGate.after
  unfold State.turn
  dsimp only
  split
  · exact .ite h wait
  · exact .ite wait h
  · exact .ite h wait
  · exact h.setGate
  · exact h.setGate

theorem tripPhase (h : s.Steady l t) : s.Steady l (t.tripPhase a p) := by
  refine .ite ?_ h.undrop.setGate.cancel
  split
  · exact h.undrop
  · exact h.undrop
  · exact h.undrop.turn
  · exact h.undrop.setGate.cancel

theorem allOff (h : s.Steady l t) : s.Steady l (t.allOff a) := h.upto fun _ _ _ k => k.undrop.setGate.cancel

theorem drive (h : s.Steady chainBlocks t) (ha : a < 24) : s.Steady chainBlocks (t.drive a) :=
  have held := h.holdLook ha
  .ite held.allOff (.ite (held.upto fun _ _ _ k => k.tripPhase) (held.upto fun _ _ _ k => .ite k k.undrop.turn))

theorem driveAll (h : s.Steady chainBlocks t) : s.Steady chainBlocks t.driveAll :=
  h.upto fun _ ha _ k => (Steady.ite k k.setAxis).drive ha

/-! ### The STO chain -/

theorem brkWait (h : s.Steady l t) : s.Steady l { t with brkWait := n } := h.update

theorem brakeLook (h : s.Steady chainBlocks t) : s.Steady chainBlocks t.brakeLook :=
  h.upto fun _ _ _ k => (Steady.ite k.brkWait k).setBitAt

theorem stoAssert (h : s.Steady chainBlocks t) : s.Steady chainBlocks t.stoAssert :=
  .ite h.cancel (Steady.ite h.cancel.on.on h.cancel.on).wr.driveAll.brakeLook.fire.irqS

theorem stoLook (h : s.Steady chainBlocks t) : s.Steady chainBlocks t.stoLook :=
  .ite h.stoAssert (.ite (.ite h h.after) h.cancel)

theorem discLook (h : s.Steady l t) : s.Steady l t.discLook := .ite h.cancel (.ite h h.after)

theorem stoSample (h : s.Steady chainBlocks t) : s.Steady chainBlocks t.stoSample := h.wrb.wrb.discLook

/-! ### Modes -/

theorem isoLook (h : s.Steady chainBlocks t) : s.Steady chainBlocks t.isoLook := .ite h (.ite h.rise h.off0)

theorem rampEnd (h : s.Steady l t) : s.Steady l t.rampEnd := h.upto fun _ _ _ k => k.setAxis

theorem dioFollowAll (h : s.Steady l t) : s.Steady l t.dioFollowAll := h.upto fun _ _ _ k => .ite k.cancel k.after

theorem lanes {x : Tab Lane} (h : s.Steady l t) : s.Steady l { t with lanes := x } := h.update

theorem tstLook (h : s.Steady l t) (hl : blocksIcu l A.TST_CTL = true := by decide) : s.Steady l t.tstLook := by
  refine .ite h (.ite (h.on hl) ?_)
  extract_lets passes jitter stretch
  have hpasses : s.Steady l passes := h.upto fun _ _ _ k => by
    dsimp only
    split
    · exact k.lanes.after
    · exact k
  have hjitter : s.Steady l jitter := .ite hpasses.after hpasses
  have hstretch : s.Steady l stretch := by
    unfold stretch
    split
    · exact hjitter.after
    · exact hjitter
  exact hstretch.off0 hl

theorem tap {x y : Nat} {z : List Bool} (h : s.Steady l t) : s.Steady l { t with tapIr := x, tapData := y, boundary := z } := h.update

theorem trans (h : s.Steady l t) (k : t.Steady l u) : s.Steady l u :=
  ⟨h.quiet.trans k.quiet, k.rest.cores.trans h.rest.cores, k.rest.bootStage.trans h.rest.bootStage,
    k.rest.epoch.trans h.rest.epoch, fun c => (k.rest.due c).trans (h.rest.due c)⟩

end State.Steady

/-! ### A change of mode -/

/-- `s` with mode `m` shown in SYS_MODE and in the mode status (R20). -/
def State.modeShown (s : State) (m : Mode) : State :=
  ((s.wr F.SYS_MODE_MODE m.code).wr F.SYS_MODESTAT_LAST_FROM (s.rd F.SYS_MODE_MODE)).wr F.SYS_MODESTAT_LAST_TO m.code

theorem State.modeShown_mode (s : State) (m : Mode) : (s.modeShown m).mode = m := by
  have code : m.code % 2 ^ 3 = m.code := by cases m <;> rfl
  have shown : (s.modeShown m).rd F.SYS_MODE_MODE = m.code := by
    unfold State.modeShown
    rw [State.rd_wr_clear _ _ (by decide), State.rd_wr_clear _ _ (by decide), State.rd_wr_self _ _ _ (by decide)]
    exact code
  unfold State.mode
  rw [shown, Mode.ofCode_code]

/-- A flag of SYS that lies apart from what shows the mode. -/
theorem State.modeShown_bit (s : State) (m : Mode)
    (hf : ([F.SYS_MODE_MODE, F.SYS_MODESTAT_LAST_FROM, F.SYS_MODESTAT_LAST_TO].all fun g => g.clears f) = true) :
    (s.modeShown m).bit f = s.bit f := by
  simp only [List.all_cons, List.all_nil, Bool.and_true, Bool.and_eq_true] at hf
  obtain ⟨hmode, hfrom, hto⟩ := hf
  unfold State.modeShown
  rw [State.bit_wr_clear _ _ hto, State.bit_wr_clear _ _ hfrom, State.bit_wr_clear _ _ hmode]

/-- What a change of mode reaches once the mode is shown, made outside STANDBY: a monitor of Zenou-S goes on (R604). -/
theorem State.setMode_steady {m : Mode} (hm : s.mode ≠ .standby) :
    (s.modeShown m).Steady [0x803, 0x807, 0x80A, 0x810, 0x812] (s.setMode m) := by
  have outside : s.rd F.SYS_MODE_MODE ≠ 3 := fun e => hm (by unfold State.mode; rw [e]; rfl)
  unfold State.setMode
  extract_lets old shown left bypass
  have hshown : (s.modeShown m).Steady [0x803, 0x807, 0x80A, 0x810, 0x812] shown := .refl _ _
  have hleft : (s.modeShown m).Steady [0x803, 0x807, 0x80A, 0x810, 0x812] left := by
    unfold left
    rwa [if_neg outside]
  exact (State.Steady.ite hleft hleft.tap).tstLook.irqS.fire

theorem State.setMode_mode {m : Mode} (hm : s.mode ≠ .standby) : (s.setMode m).mode = m :=
  ((State.setMode_steady hm).quiet.1.mode (by decide)).trans (s.modeShown_mode m)

theorem State.Steady.setMode {m : Mode} (h : s.Steady modeBlocks t) (hm : t.mode ≠ .standby) : s.Steady modeBlocks (t.setMode m) :=
  have shown : s.Steady modeBlocks (t.modeShown m) := h.wr.wr.wr
  shown.trans (State.setMode_steady hm).mono

end Sys2Proof.Machine
end

section
/-! SUPPORT. The acknowledge that ends SAFE_STOP (R74, R548). -/
namespace Sys2Proof.Machine
set_option Elab.async false

variable {s t : State} {l : List Nat}

theorem State.ackWaits_iff : s.ackWaits = true ↔ s.mode = .safeStop ∧ s.bit F.SYS_MODESTAT_PEND = true := by
  simp [State.ackWaits]

/-- `s` as the module leaves SAFE_STOP, before the mode changes: what the acknowledge found, and no request waiting (R548). -/
def State.acknowledged (s : State) : State :=
  ({ s with ackWas := some (s.instant, s.ssCauses, s.rd F.SYS_MODESTAT_LAST_FROM, s.ssFromRun) }.off0 F.SYS_MODESTAT_PEND).cancel
    .safeStopAckTimeout

theorem State.acknowledged_steady (s : State) : s.Steady modeBlocks s.acknowledged :=
  have noted : s.Steady modeBlocks { s with
    ackWas := some (s.instant, s.ssCauses, s.rd F.SYS_MODESTAT_LAST_FROM, s.ssFromRun) } := (State.Steady.refl _ s).update
  noted.off0.cancel

theorem State.acknowledged_mode (s : State) : s.acknowledged.mode = s.mode := by
  unfold State.mode
  exact congrArg Mode.ofCode (State.rd_wr_clear (f := F.SYS_MODESTAT_PEND) (g := F.SYS_MODE_MODE) _ 0 (by decide))

theorem State.acknowledged_pend (s : State) : s.acknowledged.bit F.SYS_MODESTAT_PEND = false :=
  State.bit_off0_self _ F.SYS_MODESTAT_PEND (by decide)

theorem State.Steady.causesCleared (h : s.Steady l t) : s.Steady l { t with ssFromRun := false, ssCauses := 0 } := h.update

/-- Once the mode has changed, the module's outputs and the chain follow it. -/
theorem State.leaveSafeStop_steady (s : State) : (s.acknowledged.setMode .standby).Steady chainBlocks s.leaveSafeStop :=
  ((State.Steady.refl chainBlocks (s.acknowledged.setMode .standby)).rampEnd.causesCleared.isoLook.driveAll.brakeLook).stoLook

/-- The module leaves SAFE_STOP for STANDBY with no request pending (R74, R548). -/
theorem State.leaveSafeStop_leaves (hm : s.mode = .safeStop) :
    s.leaveSafeStop.mode = .standby ∧ s.leaveSafeStop.bit F.SYS_MODESTAT_PEND = false ∧ s.Steady modeBlocks s.leaveSafeStop := by
  have outside : s.acknowledged.mode ≠ .standby := by rw [s.acknowledged_mode, hm]; decide
  have follow := s.leaveSafeStop_steady
  have pend : (s.acknowledged.setMode .standby).bit F.SYS_MODESTAT_PEND = false :=
    ((State.setMode_steady outside).quiet.1.bit (by decide)).trans
      ((State.modeShown_bit _ _ (by decide)).trans s.acknowledged_pend)
  exact ⟨(follow.quiet.1.mode (by decide)).trans (State.setMode_mode outside), (follow.quiet.1.bit (by decide)).trans pend,
    (s.acknowledged_steady.setMode outside).trans follow.mono⟩

/-- Zenou-S's acknowledge with everything in order (R548). -/
theorem ackWrite_leaves (hw : s.ackWaits = true) (hd : s.ss1Done = true) (hf : s.reg A.SAF_FAULT = 0)
    (hc : s.anyCausePresent = false) : s.ackWrite 1 = s.leaveSafeStop := by
  simp [State.ackWrite, hw, hd, hf, hc]

/-- Zenou-S's acknowledge with no request waiting (R548). -/
theorem ackWrite_errs (hw : s.ackWaits = false) : s.ackWrite 1 = s.on F.SAF_STATUS_ACK_ERR := by
  simp [State.ackWrite, hw]

theorem exec_safAck (hs : s.operating = true) : exec (.safAck .coreS) s = ok (s.ackWrite 1) := by
  show ok (s.cmdWrite .coreS A.SAF_ACK 1) = _
  rw [cmdWrite_ack hs]

theorem exec_safeStopAckTimeout (hw : s.ackWaits = true) :
    exec .safeStopAckTimeout s = ok ((s.cancel .safeStopAckTimeout).modeRefuse 12) := by
  show ok (if s.ackWaits then (s.cancel .safeStopAckTimeout).modeRefuse 12 else s.cancel .safeStopAckTimeout) = _
  rw [if_pos hw]

end Sys2Proof.Machine

open Sys2Proof Sys2Proof.Machine

/-- Settles O34: an acknowledge that finds everything in order, one that finds no request, and none in time. -/
theorem safeStopAcknowledge : Obligations.SafeStopAcknowledge := by
  intro s
  refine ⟨fun hs hw hd hf hc => next_of_ok (exec_safAck hs) ?_, fun hs hw => next_of_ok (exec_safAck hs) ?_,
    fun hw => next_of_ok (exec_safeStopAckTimeout hw) ?_⟩
  · obtain ⟨mode, pend, steady⟩ := State.leaveSafeStop_leaves (State.ackWaits_iff.mp hw).1
    rw [ackWrite_leaves hw hd hf hc]
    exact ⟨mode, pend, steady.quiet.1, steady.quiet.sameMem⟩
  · have quiet : State.Quiet (blocksIcu modeBlocks) s (s.on F.SAF_STATUS_ACK_ERR) := .wr s F.SAF_STATUS_ACK_ERR 1 (by decide)
    have alone : State.Quiet (blocksIcu [0xC00]) s (s.on F.SAF_STATUS_ACK_ERR) := .wr s F.SAF_STATUS_ACK_ERR 1 (by decide)
    rw [ackWrite_errs hw]
    exact ⟨State.bit_on_self s _ (by decide) (by decide), alone.1.mode (by decide), quiet.1, quiet.sameMem⟩
  · have quiet := (State.Quiet.cancel statReach s .safeStopAckTimeout).trans (.modeRefuse _ 12)
    obtain ⟨mode, frame⟩ := quiet.stat_frame
    exact ⟨State.modeRefuse_pend _ _, State.modeRefuse_refused _ _, State.modeRefuse_reason _ (by decide),
      mode.trans (State.ackWaits_iff.mp hw).1, frame⟩
end

section
/-! SUPPORT. Mains, the power-on reset and OFF (R74, R81), and what a module reset leaves of the registers (R95, R379). -/
namespace Sys2Proof.Machine
set_option Elab.async false

variable {s t : State} {w : Writer} {v : Word} {a n k : Nat} {e : Instr} {causes stage : Nat}

/-! ### Alarms -/

theorem mem_alarmInsert (p : Nat × Instr) (l : List (Nat × Instr)) : p ∈ alarmInsert p l := by
  induction l with
  | nil => simp [alarmInsert]
  | cons q l ih =>
    unfold alarmInsert
    split
    · simp
    · exact List.mem_cons_of_mem q ih

/-- An event that was set is due at its time. -/
theorem State.dueIn_after_self (s : State) (n : Nat) (e : Instr) : (s.after n e).dueIn n e = true :=
  List.contains_iff_mem.mpr (mem_alarmInsert (s.now + n, e) _)

/-! ### What a module reset leaves -/

/-- The registers that a module reset does not leave at their reset values (R95, R472, R559, R68). -/
def resetKeeps (a : Nat) : Bool :=
  [A.SYS_RSTCAUSE, A.SYS_RSTCAUSE_PREV, A.SYS_RSTCNT, A.FLC_RSTINFO, A.CRY_OTPSTAT, A.AON_DIOIN].contains a

/-- Those of them that are written after SYS_RSTCAUSE. -/
def resetKeepsLater (a : Nat) : Bool :=
  [A.SYS_RSTCAUSE_PREV, A.SYS_RSTCNT, A.FLC_RSTINFO, A.CRY_OTPSTAT, A.AON_DIOIN].contains a

theorem State.Quiet.resetRegs_later (s : State) (causes : Nat) (fresh : State) :
    State.Quiet resetKeepsLater (fresh.setReg A.SYS_RSTCAUSE (BitVec.ofNat 48 causes)) (s.resetRegs causes fresh) := by
  unfold State.resetRegs
  extract_lets por cold n n0 n1 n2 s1 s2 s3 s4
  have h2 : State.Quiet resetKeepsLater s1 s2 := .setReg _ _ _ (by decide)
  have h3 : State.Quiet resetKeepsLater s2 s3 := .ite (.refl _ _) (.setReg _ _ _ (by decide))
  have h4 : State.Quiet resetKeepsLater s3 s4 := .ite (.refl _ _) (.setReg _ _ _ (by decide))
  exact ((h2.trans h3).trans h4).trans ((State.Quiet.setReg _ _ _ (by decide)).trans (.setReg _ _ _ (by decide)))

/-- SYS_RSTCAUSE shows the causes (R95). -/
theorem State.resetRegs_cause (s : State) (causes : Nat) (fresh : State) :
    (s.resetRegs causes fresh).reg A.SYS_RSTCAUSE = BitVec.ofNat 48 causes :=
  ((State.Quiet.resetRegs_later s causes fresh).1 A.SYS_RSTCAUSE (by decide)).trans (State.reg_setReg_self _ _ _)

theorem State.resetRegs_reg (s : State) (causes : Nat) (fresh : State) (ha : resetKeeps a = false) :
    (s.resetRegs causes fresh).reg a = fresh.reg a := by
  simp only [resetKeeps, List.contains_cons, Bool.or_eq_false_iff, beq_eq_false_iff_ne, ne_eq] at ha
  obtain ⟨hcause, hlater⟩ := ha
  have later : resetKeepsLater a = false := by simpa [resetKeepsLater] using hlater
  exact ((State.Quiet.resetRegs_later s causes fresh).1 a later).trans (State.reg_setReg_ne _ _ hcause)

/-- `t` differs from `s` in registers alone. -/
def State.RegsAlone (s t : State) : Prop := t = { s with regs := t.regs }

theorem State.RegsAlone.trans {u : State} (h : s.RegsAlone t) (k : t.RegsAlone u) : s.RegsAlone u := by
  unfold State.RegsAlone at h k ⊢
  rw [k, h]

theorem State.RegsAlone.setReg (s : State) (a : Nat) (v : Word) : s.RegsAlone (s.setReg a v) := rfl

theorem State.RegsAlone.unless {p : Prop} [Decidable p] (s : State) (a : Nat) (v : Word) :
    s.RegsAlone (if p then s else s.setReg a v) := by split <;> rfl

theorem State.RegsAlone.resetRegs (s : State) (causes : Nat) (fresh : State) : fresh.RegsAlone (s.resetRegs causes fresh) := by
  unfold State.resetRegs
  extract_lets por cold n n0 n1 n2 s1 s2 s3 s4
  have h12 : fresh.RegsAlone s2 := (State.RegsAlone.setReg fresh _ _).trans (.setReg s1 _ _)
  have h34 : s2.RegsAlone s4 := (State.RegsAlone.unless s2 _ _).trans (.unless s3 _ _)
  exact (h12.trans h34).trans ((State.RegsAlone.setReg s4 _ _).trans (.setReg _ _ _))

theorem State.resetRegs_alarms (s : State) (causes : Nat) (fresh : State) : (s.resetRegs causes fresh).alarms = fresh.alarms := by
  rw [State.RegsAlone.resetRegs s causes fresh]

theorem State.resetRegs_bootStage (s : State) (causes : Nat) (fresh : State) :
    (s.resetRegs causes fresh).bootStage = fresh.bootStage := by
  rw [State.RegsAlone.resetRegs s causes fresh]

theorem State.resetRegs_now (s : State) (causes : Nat) (fresh : State) : (s.resetRegs causes fresh).now = fresh.now := by
  rw [State.RegsAlone.resetRegs s causes fresh]

/-- After a module reset every other register has its reset value (R95). -/
theorem State.moduleReset_reg (s : State) (causes stage : Nat) (ha : resetKeeps a = false) :
    (s.moduleReset causes stage).reg a = regReset a := State.resetRegs_reg s causes _ ha

theorem State.moduleReset_mode (s : State) (causes stage : Nat) : (s.moduleReset causes stage).mode = .boot := by
  have shown : (s.moduleReset causes stage).rd F.SYS_MODE_MODE = 2 := by
    unfold State.rd
    rw [State.moduleReset_reg s causes stage (by decide)]
    decide
  unfold State.mode
  rw [shown]
  rfl

/-! ### Mains -/

/-- Mains comes in OFF (R81): the power-on reset releases 18 ms later. -/
theorem exec_mainsApplied (hm : s.mainsOn = false) (hoff : s.mode = .off) (hh : s.offHold = false) : exec .mainsApplied s =
    ok ({ s with mainsOn := true, offHold := false, bootAt := s.now }.after (ms 18) .bootPorRelease) := by
  show execMainsApplied s = _
  have off : { s with mainsOn := true, offHold := false }.mode = .off := hoff
  simp [execMainsApplied, hm, hh, off]

/-- BOOT starts from the power-on reset with the PFC off; its time counts from mains (R81). -/
def State.porReleased (t : State) (start : Nat) : State := { t with bootAt := start, bulkOk := false, auxOn := false }

@[simp] theorem State.porReleased_mode (t : State) (n : Nat) : (t.porReleased n).mode = t.mode := rfl
@[simp] theorem State.porReleased_reg (t : State) (n a : Nat) : (t.porReleased n).reg a = t.reg a := rfl
@[simp] theorem State.porReleased_bootStage (t : State) (n : Nat) : (t.porReleased n).bootStage = t.bootStage := rfl
@[simp] theorem State.porReleased_dueIn (t : State) (n k : Nat) (e : Instr) : (t.porReleased n).dueIn k e = t.dueIn k e := rfl

theorem exec_bootPorRelease (hoff : s.mode = .off) (hm : s.mainsOn = true) (hh : s.offHold = false) : exec .bootPorRelease s =
    ok ((s.moduleReset 1 1).porReleased s.bootAt) := by
  show execBootPorRelease s = _
  simp [execBootPorRelease, hoff, hm, hh, State.porReleased]

/-- The clocks lock 3 ms after the power-on reset (R81). -/
theorem State.moduleReset_clocks (s : State) (causes : Nat) : (s.moduleReset causes 1).dueIn (ms 3) .bootClockLock = true := by
  unfold State.dueIn State.moduleReset
  rw [State.resetRegs_alarms, State.resetRegs_now]
  exact List.contains_iff_mem.mpr List.mem_cons_self

theorem State.moduleReset_bootStage (s : State) (causes stage : Nat) : (s.moduleReset causes stage).bootStage = stage :=
  State.resetRegs_bootStage s causes _

theorem State.moduleReset_cause (s : State) (causes stage : Nat) :
    (s.moduleReset causes stage).reg A.SYS_RSTCAUSE = BitVec.ofNat 48 causes := State.resetRegs_cause s causes _

/-- Without its supplies the module is in OFF, and nothing is due (R20, R74). -/
theorem State.powerOff_mode (s : State) : s.powerOff.mode = .off := by
  have shown : s.powerOff.rd F.SYS_MODE_MODE = 0 := by
    unfold State.powerOff
    extract_lets s1 s2
    unfold State.rd
    rw [State.reg_setReg_ne _ _ (by decide)]
    exact State.rd_wr_self _ F.SYS_MODE_MODE 0 (by decide)
  unfold State.mode
  rw [shown]
  rfl

theorem State.powerOff_alarms (s : State) : s.powerOff.alarms = [] := rfl

/-- What mains lost beyond the hold-up leaves beside the state without supplies. -/
def State.mainsGone (t : State) (hold : Bool) (since : Nat) : State := { t with mainsOn := false, offHold := hold, bootAt := since }

@[simp] theorem State.mainsGone_mode (t : State) (b : Bool) (n : Nat) : (t.mainsGone b n).mode = t.mode := rfl
@[simp] theorem State.mainsGone_mainsOn (t : State) (b : Bool) (n : Nat) : (t.mainsGone b n).mainsOn = false := rfl
@[simp] theorem State.mainsGone_alarms (t : State) (b : Bool) (n : Nat) : (t.mainsGone b n).alarms = t.alarms := rfl

theorem exec_mainsLostOff (hm : s.mainsOn = true) : exec .mainsLostOff s = ok (s.powerOff.mainsGone s.offHold s.now) := by
  show execMainsLostOff s = _
  simp [execMainsLostOff, hm, State.mainsGone]

end Sys2Proof.Machine

open Sys2Proof Sys2Proof.Machine

/-- Settles O25: mains applied, the power-on reset, and mains lost beyond the hold-up. -/
theorem powerComesAndGoes : Obligations.PowerComesAndGoes := by
  intro s
  refine ⟨fun hm hoff hh => next_of_ok (exec_mainsApplied hm hoff hh) ?_,
    fun hoff hm hh => next_of_ok (exec_bootPorRelease hoff hm hh) ?_, fun hm => next_of_ok (exec_mainsLostOff hm) ?_⟩
  · exact ⟨rfl, State.dueIn_after_self _ _ _, rfl, fun _ => rfl⟩
  · simpa using ⟨s.moduleReset_mode 1 1, s.moduleReset_cause 1 1, s.moduleReset_bootStage 1 1, s.moduleReset_clocks 1⟩
  · simpa using ⟨s.powerOff_mode, s.powerOff_alarms⟩
end

section
/-! SUPPORT. A module reset that a core asks for (R95, R99): it leaves the registers of every block at their reset values. -/
namespace Sys2Proof.Machine
set_option Elab.async false

variable {s : State} {w : Writer} {v : Word} {a k : Nat}

/-- The next state that `ok t` answers, but for the command counter, is `t`. -/
theorem ok_eq_next {t u : State} (h : ok t = .next u) : u = t.counted := by
  cases h
  rfl

/-- A core's write of SYS_RSTREQ past BOOT. -/
theorem cmdWrite_rstreq (hs : s.operating = true) (hw : isCore w = true) : s.cmdWrite w A.SYS_RSTREQ v = s.rstreqWrite w v := by
  obtain ⟨hlive, hboot⟩ := State.operating_iff.mp hs
  have reaches : s.reaches w A.SYS_RSTREQ = true := by obtain ⟨n, sup, rfl⟩ | rfl := isCore_cases hw <;> rfl
  have may : s.accessMay w A.SYS_RSTREQ true = true := by obtain ⟨n, sup, rfl⟩ | rfl := isCore_cases hw <;> rfl
  have bootMay : s.bootMay w A.SYS_RSTREQ = true := by simp [State.bootMay, hboot]
  have write : s.regWrite w A.SYS_RSTREQ v = s.rstreqWrite w v := rfl
  have aligned : ¬ A.SYS_RSTREQ % 8 ≠ 0 := by decide
  have outside : region A.SYS_RSTREQ ≠ .saf := by decide
  have other : A.SYS_RSTREQ ≠ A.SYS_MODEREQ := by decide
  unfold State.cmdWrite
  rw [windowAfter_core hw, State.ranked_core hw (by decide)]
  simp [State.busWrite, aligned, outside, other, hlive, reaches, may, bootMay, write]

/-- The cause that a core's request shows: Zenou-S's or a Zenou-A core's (R95). -/
def coreCause (w : Writer) : Nat := if w = .coreS then 4 else 5

/-- 0x5A written by a supervisor inside its unlock window asks for a reset (R95, R99). -/
theorem rstreqWrite_asks (hw : isCore w = true) (hsup : isSup w = true) (ho : s.windowOpen (writerKey w) = true)
    (hv : getBits v 0 8 = 0x5A) : s.rstreqWrite w v = (s.windowClose (writerKey w)).requestReset (coreCause w) := by
  obtain ⟨n, sup, rfl⟩ | rfl := isCore_cases hw
  · obtain rfl : sup = true := hsup
    simp [State.rstreqWrite, State.protect, ho, hv, coreCause]
  · simp [State.rstreqWrite, State.protect, ho, hv, coreCause]

/-- A reset that no other one and no flash operation stands before is taken at once (R95, R96). -/
theorem requestReset_free (hf : s.resetFree = true) : s.requestReset k = { s with flcRst := 0 }.takeReset (2 ^ k) := by
  obtain ⟨pending, idle⟩ : s.bit F.SYS_MODESTAT_RST_PENDING = false ∧ s.flcOp = .idle := by simpa [State.resetFree] using hf
  simp [State.requestReset, pending, idle]

/-- After a reset that is taken, a register of no reset cause and no kept state has its reset value. -/
theorem State.takeReset_reg (s : State) (more : Nat) (ha : resetKeeps a = false) : (s.takeReset more).reg a = regReset a :=
  State.moduleReset_reg _ _ _ ha

/-- A reset that a supervisor core asks for inside its unlock window is taken (R95, R99). -/
theorem exec_sysRstreqWrite (hs : s.operating = true) (hw : isCore w = true) (hsup : isSup w = true)
    (ho : s.windowOpen (writerKey w) = true) (hv : getBits v 0 8 = 0x5A) (hf : s.resetFree = true) :
    exec (.sysRstreqWrite w v) s = ok ({ s.windowClose (writerKey w) with flcRst := 0 }.takeReset (2 ^ coreCause w)) := by
  have free : (s.windowClose (writerKey w)).resetFree = true := hf
  show ok (s.cmdWrite w A.SYS_RSTREQ v) = _
  rw [cmdWrite_rstreq hs hw, rstreqWrite_asks hw hsup ho hv, requestReset_free free]

/-! ### A core asks for a reset while the frame time is not at its reset value -/

/-- STANDBY, the unlock window of Zenou-A 0 open, and a frame of 5000 drive-base cycles where the reset value is 0x927C. -/
def shortFrame : State := { State.reset with windows := [0], regs := [(A.SYS_MODE, 3), (A.TICK_FRAME, 5000)] }

/-- TICK is no block of the frame that the statement names. -/
theorem tick_outside : blocksIcu [0x800, 0x803, 0x807, 0x809, 0x80A, 0x80B, 0x80E, 0x810, 0x811, 0x812, 0x813, 0xC00] A.TICK_FRAME =
    false := by decide

theorem exec_sysRstreqWrite_shortFrame : exec (.sysRstreqWrite (.coreA 0 true) 0x5A) shortFrame =
    ok ({ shortFrame.windowClose 0 with flcRst := 0 }.takeReset (2 ^ 5)) :=
  exec_sysRstreqWrite (w := .coreA 0 true) (v := 0x5A) (by decide) rfl rfl (by decide) (by decide) (by decide)

end Sys2Proof.Machine

open Sys2Proof Sys2Proof.Machine

/-- Refutes O24: its first clause leaves every register outside a list of blocks as it was, but a module reset gives those
registers too their reset values (R95). Witness: SYS_RSTREQ written with TICK_FRAME at 5000, which the reset makes 0x927C. -/
theorem not_moduleResets : ¬ Obligations.ModuleResets := by
  intro h
  obtain ⟨asked, -⟩ := h shortFrame (.coreA 0 true) 0x5A
  obtain ⟨u, hu, -, -, -, frame⟩ := asked (by decide) rfl rfl (by decide) (by decide) (by decide)
  have reset : u.reg A.TICK_FRAME = regReset A.TICK_FRAME := by
    rw [ok_eq_next (exec_sysRstreqWrite_shortFrame.symm.trans hu), State.counted_reg]
    exact State.takeReset_reg _ _ (by decide)
  have before : shortFrame.reg A.TICK_FRAME = 5000 := by decide
  have changed : regReset A.TICK_FRAME ≠ 5000 := by decide
  exact changed (reset.symm.trans ((frame _ tick_outside).trans before))
end

section
/-! SUPPORT. The first rows of BOOT (R81): the clocks lock, the journal scan, and the Zenou-S image, selected and started or the hold
of R83. -/
namespace Sys2Proof.Machine
set_option Elab.async false

variable {s t u : State} {f : Fld} {a c k n m : Nat} {b : Bool} {l : List Nat} {e : Instr} {p : Nat → Bool}

/-! ### Frames, step by step -/

namespace State.Quiet

theorem thenSetReg {v : Word} (h : State.Quiet p s t) (ha : p a = true := by decide) : State.Quiet p s (t.setReg a v) :=
  h.trans (.setReg t a v ha)

theorem thenWr (h : State.Quiet p s t) (hf : p f.addr = true := by decide) : State.Quiet p s (t.wr f n) := h.trans (.wr t f n hf)

theorem thenWrb (h : State.Quiet p s t) (hf : p f.addr = true := by decide) : State.Quiet p s (t.wrb f b) := h.thenWr hf

theorem thenOn (h : State.Quiet p s t) (hf : p f.addr = true := by decide) : State.Quiet p s (t.on f) := h.thenWr hf

theorem thenOff0 (h : State.Quiet p s t) (hf : p f.addr = true := by decide) : State.Quiet p s (t.off0 f) := h.thenWr hf

/-- An update of other state. -/
theorem update (h : State.Quiet p s t) (regs : u.regs = t.regs := by rfl) (mem : u.mem = t.mem := by rfl)
    (torn : u.torn = t.torn := by rfl) : State.Quiet p s u := h.trans (.of_eq p regs mem torn)

end State.Quiet

/-! ### The next row -/

/-- The next row is due at its time. -/
theorem State.bootNext_dueIn (s : State) (n m : Nat) (e : Instr) : (s.bootNext n m e).dueIn m e = true :=
  State.dueIn_after_self _ _ _

/-- `u` is `t` with row `n` reached and event `e` due in `m`. -/
structure State.Row (n m : Nat) (e : Instr) (t u : State) : Prop where
  bootStage : u.bootStage = n
  due : u.dueIn m e = true
  quiet : State.Quiet (fun _ => false) t u
  epoch : u.epoch = t.epoch

/-- A row answers with the next row due, and changes nothing else at its end. -/
theorem next_of_row {r : Result} {Q : State → Prop} (h : r = ok (t.bootNext n m e)) (hq : ∀ u, State.Row n m e t u → Q u) :
    ∃ u, r = .next u ∧ Q u :=
  next_of_ok h (hq _ ⟨rfl, State.bootNext_dueIn t n m e, .of_eq _ rfl rfl rfl, rfl⟩)

theorem State.Row.frame (h : State.Row n m e t u) (k : State.Quiet p s t) : State.Quiet p s u :=
  k.trans (h.quiet.mono fun _ no => absurd no Bool.false_ne_true)

theorem State.Row.bit (h : State.Row n m e t u) (f : Fld) : u.bit f = t.bit f := h.quiet.1.bit rfl

theorem State.Row.reg (h : State.Row n m e t u) (a : Nat) : u.reg a = t.reg a := h.quiet.1 a rfl

theorem State.bootAtRow_iff : s.bootAtRow n = true ↔ s.mode = .boot ∧ s.bootStage = n := by simp [State.bootAtRow]

/-! ### The clocks and the journal -/

theorem exec_bootClockLock (h : s.bootAtRow 1 = true) :
    exec .bootClockLock s = ok ((s.cancel .bootClockLock).bootNext 2 (ms 2) .bootJournalScan) := by
  show execBootClockLock s = _
  exact congrArg ok (if_pos h)

/-- What the journal scan leaves but for the row (R81, R469, R577, R593). -/
def State.scanned (s : State) : State := s.stoSample.recoverySet.journalSync.commitSync.lbistShow

/-- The blocks that show what the scan finds: SYS, FLC, CRY, and the inputs of the STO chain. -/
def scanReach (a : Nat) : Bool := blocks [0x800, 0x80E, 0x813, 0xC00] a

theorem State.Quiet.halfErased {x : List (Nat × Nat)} (h : State.Quiet p s t) : State.Quiet p s { t with flcHalf := x } := h.update

theorem State.Quiet.recoverySet (h : State.Quiet scanReach s t) : State.Quiet scanReach s t.recoverySet := by
  unfold State.recoverySet
  dsimp only
  split
  · exact h
  · exact h.halfErased.thenWr.thenWr.thenWr.thenWrb.thenWrb.thenOn

theorem State.Quiet.lbistShow (h : State.Quiet scanReach s t) : State.Quiet scanReach s t.lbistShow := by
  unfold State.lbistShow
  split
  · exact h.thenSetReg
  · exact h.thenOn.thenWrb.thenWrb

theorem State.Quiet.discLook (h : State.Quiet p s t) : State.Quiet p s t.discLook :=
  .ite h.update (.ite h h.update)

theorem State.Quiet.scanned (s : State) : State.Quiet scanReach s s.scanned :=
  have sampled : State.Quiet scanReach s s.stoSample := (State.Quiet.refl scanReach s).thenWrb.thenWrb.discLook
  have journal : State.Quiet scanReach s s.stoSample.recoverySet.journalSync := sampled.recoverySet.thenWr.thenWr.thenWr
  have commits : State.Quiet scanReach s s.stoSample.recoverySet.journalSync.commitSync := journal.thenWr.thenWr
  commits.lbistShow

theorem exec_bootJournalScan (h : s.bootAtRow 2 = true) :
    exec .bootJournalScan s = ok ((s.cancel .bootJournalScan).scanned.bootNext 3 (ms 3) .bootSafetyImage) := by
  show execBootJournalScan s = _
  exact congrArg ok (if_pos h)

/-- Row 1: the clocks lock. -/
theorem bootRow_clockLock (h : s.bootAtRow 1 = true) : ∃ u, exec .bootClockLock s = .next u ∧
    u.bootStage = 2 ∧ u.dueIn (ms 2) .bootJournalScan = true ∧ u.regs = s.regs ∧ sameMem s u :=
  next_of_ok (exec_bootClockLock h) ⟨rfl, State.bootNext_dueIn _ _ _ _, rfl, fun _ => rfl⟩

/-- Row 2: the journal scan. -/
theorem bootRow_journalScan (h : s.bootAtRow 2 = true) : ∃ u, exec .bootJournalScan s = .next u ∧
    u.bootStage = 3 ∧ u.dueIn (ms 3) .bootSafetyImage = true ∧ sameRegs scanReach s u ∧ sameMem s u :=
  next_of_row (exec_bootJournalScan h) fun _ row =>
    have quiet := row.frame (State.Quiet.scanned (s.cancel .bootJournalScan))
    ⟨row.bootStage, row.due, quiet.1, quiet.sameMem⟩

/-! ### Ready bits -/

/-- What a change of a ready bit reaches (R92): the bit, its note, and what an interrupt and an event reach. -/
def readyReach (a : Nat) : Bool := a == A.SYS_READY || a == A.SYS_READYCHG || eventReach a

/-- A change of a ready bit once its register shows it. -/
theorem State.Quiet.readyNoted (s : State) (k : Nat) :
    State.Quiet (fun a => a == A.SYS_READYCHG || eventReach a) s (((s.on ⟨A.SYS_READYCHG, k, 1⟩).irq 81).fire 63 1) :=
  have event : ∀ a, eventReach a = true → (a == A.SYS_READYCHG || eventReach a) = true := fun _ h => by simp [h]
  ((State.Quiet.wr s ⟨A.SYS_READYCHG, k, 1⟩ 1 rfl).trans ((State.Quiet.irqEvent _ 81).mono event)).trans
    ((State.Quiet.fire _ 1 (by decide)).mono event)

theorem State.Quiet.setReady (s : State) (k : Nat) (b : Bool) : State.Quiet readyReach s (s.setReady k b) :=
  have noted : ∀ a, (a == A.SYS_READYCHG || eventReach a) = true → readyReach a = true := fun a h => by
    simp only [readyReach, Bool.or_assoc] at h ⊢
    simp [h]
  .ite (.refl _ s) ((State.Quiet.wr s ⟨A.SYS_READY, k, 1⟩ _ rfl).trans ((State.Quiet.readyNoted _ k).mono noted))

/-- The ready bit shows what it was set to. -/
theorem State.bit_setReady (s : State) (b : Bool) (hk : k < 48) : (s.setReady k b).bit ⟨A.SYS_READY, k, 1⟩ = b := by
  unfold State.setReady
  dsimp only
  split
  · assumption
  · have shown : (s.wrb ⟨A.SYS_READY, k, 1⟩ b).bit ⟨A.SYS_READY, k, 1⟩ = b :=
      State.bit_wrb_self s _ b (Nat.succ_le_of_lt hk) Nat.one_pos
    have apart : (A.SYS_READY == A.SYS_READYCHG || eventReach A.SYS_READY) = false := by decide
    exact ((State.Quiet.readyNoted _ k).1.bit apart).trans shown

/-! ### The Zenou-S image -/

/-- `t` has the cores, the row of BOOT, the epoch, the time and the events to come of `s`. -/
structure State.Calm (s t : State) : Prop where
  cores : t.cores = s.cores
  bootStage : t.bootStage = s.bootStage
  epoch : t.epoch = s.epoch
  now : t.now = s.now
  alarms : t.alarms = s.alarms

namespace State.Calm

theorem refl (s : State) : s.Calm s := ⟨rfl, rfl, rfl, rfl, rfl⟩

/-- An update of other state. -/
theorem update (h : s.Calm t) (cores : u.cores = t.cores := by rfl) (bootStage : u.bootStage = t.bootStage := by rfl)
    (epoch : u.epoch = t.epoch := by rfl) (now : u.now = t.now := by rfl) (alarms : u.alarms = t.alarms := by rfl) : s.Calm u :=
  ⟨cores.trans h.cores, bootStage.trans h.bootStage, epoch.trans h.epoch, now.trans h.now, alarms.trans h.alarms⟩

theorem rest (h : s.Calm t) : s.Rest t := (State.Rest.refl s).update h.cores h.bootStage h.epoch h.alarms

theorem ite {c : Prop} [Decidable c] (h : s.Calm t) (k : s.Calm u) : s.Calm (if c then t else u) := by split <;> assumption

theorem foldl {α : Type} {g : State → α → State} {l : List α} (h : s.Calm t) (k : ∀ x u, s.Calm u → s.Calm (g u x)) :
    s.Calm (l.foldl g t) := by
  induction l generalizing t with
  | nil => exact h
  | cons x l ih => exact ih (k x t h)

theorem wr (h : s.Calm t) : s.Calm (t.wr f n) := h.update

theorem wrb (h : s.Calm t) : s.Calm (t.wrb f b) := h.update

theorem on (h : s.Calm t) : s.Calm (t.on f) := h.update

theorem setBytes {x : List Byte} (h : s.Calm t) : s.Calm (t.setBytes a x) := by
  induction x generalizing t a with
  | nil => exact h
  | cons y x ih => exact ih (t := t.setByte a y) h.update

theorem eccWrite (h : s.Calm t) : s.Calm (t.eccWrite a n) := h.update

theorem tornCut (h : s.Calm t) : s.Calm (t.tornCut a n) := h.update

theorem ffUnits (h : s.Calm t) : s.Calm { t with ffUnits := l } := h.update

theorem unitProgram {x : List Byte} (h : s.Calm t) : s.Calm (t.unitProgram a x) :=
  .ite h.tornCut.setBytes.eccWrite.ffUnits h.tornCut.setBytes.eccWrite

theorem romCommit (h : s.Calm t) : s.Calm (t.romCommit b k) := .ite h.unitProgram h

theorem commitSync (h : s.Calm t) : s.Calm t.commitSync := h.wr.wr

theorem digestWrite {x : List Byte} (h : s.Calm t) : s.Calm (t.digestWrite a x) := h.foldl fun _ _ k => k.update

theorem loadSection {x : Section} (h : s.Calm t) : s.Calm (t.loadSection a x) := .ite h.setBytes.eccWrite h

theorem loadImage (h : s.Calm t) : s.Calm (t.loadImage b k) := h.foldl fun _ _ k => k.loadSection

end State.Calm

theorem State.Rest.flcKick (h : s.Rest t) : s.Rest t.flcKick := .ite h.after h

@[simp] theorem State.core_setCore_self (s : State) (c : Nat) (x : Core) : (s.setCore c x).core c = x := Tab.get_set_self _ _ _ _

/-- Row 4 begins with the image slots checked (R577). -/
def State.slotsChecked (s : State) : State := { s.wr F.CRY_BOOTINFO_VALID s.imagesValid with bootStage := 4 }

/-- The selected Zenou-S image is shown and loaded (R564, R566). -/
def State.safetyLoaded (s : State) (slot : Nat) (uncommitted : Bool) : State :=
  let s1 := ((if uncommitted then (s.romCommit false slot).commitSync else s).wrb F.CRY_BOOTINFO_SAF_NOCOMMIT uncommitted).wr
    F.SYS_BOOTSTAT_SAF_SLOT slot
  let s2 := (s1.wr F.CRY_SAFVER_VER (s1.load (slotBase false slot + 8) 4)).wr F.CRY_BOOTINFO_SAF_KEY
    (s1.load (slotBase false slot + 20) 1)
  (s2.digestWrite (A.CRY_SAFDIG 0) (s2.imageDigest (slotBase false slot))).loadImage false slot

/-- Zenou-S runs, and its ready bits show it. -/
def State.safetyRuns (s : State) : State := (s.safetyStart.setReady 0 true).setReady 1 true

theorem State.Calm.safetyLoaded (h : s.Calm t) : s.Calm (t.safetyLoaded k b) :=
  have committed : s.Calm (if b then (t.romCommit false k).commitSync else t) := .ite h.romCommit.commitSync h
  committed.wrb.wr.wr.wr.digestWrite.loadImage

/-- Zenou-S as it starts (R81). -/
def safetyCore : Core := { Core.init with run := .running, pc := BitVec.ofNat 48 (isramBase 4), released := true }

theorem State.safetyRuns_rest (s : State) : (s.setCore 4 safetyCore).Rest s.safetyRuns :=
  (State.Rest.refl _).after.after.setReady.setReady

theorem State.safetyRuns_bootStage (s : State) : s.safetyRuns.bootStage = s.bootStage := s.safetyRuns_rest.bootStage

theorem State.safetyRuns_runs (s : State) : (s.safetyRuns.core 4).run = .running := by
  have started : (s.setCore 4 safetyCore).core 4 = safetyCore := s.core_setCore_self 4 _
  unfold State.core at started ⊢
  rw [s.safetyRuns_rest.cores, started]
  rfl

/-- The hold shows, and the row stays (R83). -/
theorem State.bootHold_bootStage (s : State) : s.bootHold.bootStage = s.bootStage :=
  (State.Rest.refl s).on.on.setReady.after.flcKick.bootStage

theorem State.bootHold_hold (s : State) : s.bootHold.bit F.SYS_BOOTSTAT_HOLD = true := by
  have held : ((s.on F.SYS_BOOTSTAT_HOLD).on F.SYS_BOOTSTAT_SAF_IMG_BAD).bit F.SYS_BOOTSTAT_HOLD = true :=
    (State.bit_on_clear _ (by decide)).trans (State.bit_on_self s _ (by decide) (by decide))
  have later : State.Quiet readyReach ((s.on F.SYS_BOOTSTAT_HOLD).on F.SYS_BOOTSTAT_SAF_IMG_BAD) s.bootHold :=
    (State.Quiet.setReady _ 1 true).trans (.ite (.of_eq _ rfl rfl rfl) (.of_eq _ rfl rfl rfl))
  exact (later.1.bit (by decide)).trans held

theorem exec_bootSafetyImage_none (h : s.bootAtRow 3 = true)
    (hs : (s.cancel .bootSafetyImage).slotsChecked.selectSlot false = none) :
    exec .bootSafetyImage s = ok (s.cancel .bootSafetyImage).slotsChecked.bootHold := by
  show execBootSafetyImage s = _
  unfold execBootSafetyImage
  unfold State.slotsChecked at hs
  simp only [h, Bool.not_true, Bool.false_eq_true, if_false, hs]
  rfl

theorem exec_bootSafetyImage_some (h : s.bootAtRow 3 = true)
    (hs : (s.cancel .bootSafetyImage).slotsChecked.selectSlot false = some (k, b))
    (ht : t = ((s.cancel .bootSafetyImage).slotsChecked.safetyLoaded k b).safetyRuns) :
    exec .bootSafetyImage s = ok (if t.auxOn then t.bootNext 5 (ms 7) .bootConfigRead else t) := by
  subst ht
  show execBootSafetyImage s = _
  unfold execBootSafetyImage
  unfold State.slotsChecked at hs
  simp only [h, Bool.not_true, Bool.false_eq_true, if_false, hs]
  rfl

/-- Row 3: the hold, or Zenou-S runs. -/
theorem bootRow_safetyImage (h : s.bootAtRow 3 = true) : ∃ u, exec .bootSafetyImage s = .next u ∧
    (u.bootStage = 4 ∨ u.bootStage = 5) ∧ (u.bit F.SYS_BOOTSTAT_HOLD = true ∨ (u.core 4).run = .running) := by
  cases hs : (s.cancel .bootSafetyImage).slotsChecked.selectSlot false with
  | none =>
    refine next_of_ok (exec_bootSafetyImage_none h hs) ⟨.inl ?_, .inl ?_⟩
    · exact State.bootHold_bootStage _
    · exact State.bootHold_hold _
  | some slot =>
    obtain ⟨k, b⟩ := slot
    refine next_of_ok (exec_bootSafetyImage_some h hs rfl) ?_
    have stage : ((s.cancel .bootSafetyImage).slotsChecked.safetyLoaded k b).safetyRuns.bootStage = 4 :=
      (State.safetyRuns_bootStage _).trans (State.Calm.refl _).safetyLoaded.bootStage
    have runs := ((s.cancel .bootSafetyImage).slotsChecked.safetyLoaded k b).safetyRuns_runs
    split
    · exact ⟨.inr rfl, .inr runs⟩
    · exact ⟨.inl stage, .inr runs⟩

end Sys2Proof.Machine
end

section
/-! SUPPORT. The PFC starts in BOOT (R81, R328, R342): the bulk voltage and the baseplate show, and nothing but registers, the times of
events and the PFC's own state changes. -/
namespace Sys2Proof.Machine
set_option Elab.async false

variable {s t u : State} {f flag ien : Fld} {a k n src : Nat} {b : Bool} {v bulk tb : Word} {e : Instr} {p : Nat → Bool}

/-! ### Changes of registers within a reach -/

/-- `t` differs from `s` in registers of the reach `p`, in the times of events and in the edges at interrupt controllers. -/
structure State.RegsIn (p : Nat → Bool) (s t : State) : Prop where
  only : s.RegsOnly t
  quiet : State.Quiet p s t

namespace State.RegsIn

theorem refl (p : Nat → Bool) (s : State) : s.RegsIn p s := ⟨.refl s, .refl p s⟩

theorem ite {c : Prop} [Decidable c] (h : s.RegsIn p t) (k : s.RegsIn p u) : s.RegsIn p (if c then t else u) := by
  split <;> assumption

theorem setReg (h : s.RegsIn p t) (ha : p a = true := by decide) : s.RegsIn p (t.setReg a v) :=
  ⟨h.only.trans (.setReg t a v), h.quiet.thenSetReg ha⟩

theorem wr (h : s.RegsIn p t) (hf : p f.addr = true := by decide) : s.RegsIn p (t.wr f n) := h.setReg hf

theorem wrI {z : Int} (h : s.RegsIn p t) (hf : p f.addr = true := by decide) : s.RegsIn p (t.wrI f z) := h.wr hf

theorem wrb (h : s.RegsIn p t) (hf : p f.addr = true := by decide) : s.RegsIn p (t.wrb f b) := h.wr hf

theorem on (h : s.RegsIn p t) (hf : p f.addr = true := by decide) : s.RegsIn p (t.on f) := h.wr hf

theorem off0 (h : s.RegsIn p t) (hf : p f.addr = true := by decide) : s.RegsIn p (t.off0 f) := h.wr hf

theorem setBitAt (h : s.RegsIn p t) (hf : p f.addr = true := by decide) : s.RegsIn p (t.setBitAt f k b) := h.wr hf

theorem after (h : s.RegsIn p t) : s.RegsIn p (t.after n e) := ⟨h.only.trans (.after t n e), h.quiet.trans (.after p t n e)⟩

theorem irq (h : s.RegsIn p t) (hp : ∀ a, icuReach a = true → p a = true) : s.RegsIn p (t.irq src) :=
  ⟨h.only.trans (.irq t src), h.quiet.trans ((State.Quiet.irq t src).mono hp)⟩

theorem irqS (h : s.RegsIn p t) (hp : ∀ a, icuReach a = true → p a = true) : s.RegsIn p (t.irqS src) :=
  ⟨h.only.trans (.irqS t src), h.quiet.trans ((State.Quiet.irqS t src).mono hp)⟩

theorem rise (h : s.RegsIn p t) (hp : ∀ a, icuReach a = true → p a = true) (hf : p flag.addr = true := by decide) :
    s.RegsIn p (t.rise flag ien k src) := .ite h (.ite ((h.on hf).irq hp) (h.on hf))

theorem upto {g : Nat → State → State} (h : s.RegsIn p t) (k : ∀ i < n, ∀ u, s.RegsIn p u → s.RegsIn p (g i u)) :
    s.RegsIn p (t.upto n g) := State.upto_invariant (P := fun _ u => s.RegsIn p u) h k

theorem auxOn (h : s.RegsIn p t) : t.auxOn = s.auxOn := by rw [h.only]

end State.RegsIn

/-! ### The PFC -/

/-- SAFE_STOP is not entered from BOOT (R74). -/
theorem safeStop_boot (h : s.mode = .boot) : s.safeStop k = s := by simp [State.safeStop, h]

/-- A flag is set once it has risen. -/
theorem State.bit_rise (s : State) (f ien : Fld) (k src : Nat) (hf : f.lo + f.w ≤ 48) (hw : 0 < f.w) (hi : icuReach f.addr = false) :
    (s.rise f ien k src).bit f = true := by
  have shown := State.bit_on_self s f hf hw
  unfold State.rise
  dsimp only
  split
  · assumption
  · split
    · rwa [State.bit_irq _ _ hi]
    · exact shown

/-- What the start of the PFC shows beside the bulk voltage: PWR_STATUS, the temperatures, and what an interrupt reaches. -/
def pfcReach (a : Nat) : Bool := a == A.PWR_STATUS || (decide (A.THM_STATUS ≤ a) && decide (a < A.THM_AX_TJ 24)) || icuReach a

theorem pfcReach_of_icu (a : Nat) (h : icuReach a = true) : pfcReach a = true := by simp [pfcReach, h]

theorem pwr_of_pfcReach (a : Nat) (h : pfcReach a = true) : blocksIcu [0x80B] a = true := by
  unfold pfcReach at h
  simp only [Bool.or_eq_true, beq_iff_eq, Bool.and_eq_true, decide_eq_true_eq] at h
  obtain (rfl | ⟨lo, hi⟩) | icu := h
  · decide
  · have block : a / 0x10000 = 0x80B := by
      change 0x080B0100 ≤ a at lo
      change a < 0x080B0B00 at hi
      omega
    exact blocksIcu_of_div block (by decide)
  · exact blocksIcu_of_icu icu

theorem pfcReach_tj (ha : a < 24) : pfcReach (A.THM_AX_TJ a) = true := by
  have lo : A.THM_STATUS ≤ A.THM_AX_TJ a := Nat.le_add_right_of_le (by decide)
  have hi : A.THM_AX_TJ a < A.THM_AX_TJ 24 := Nat.add_lt_add_left (Nat.mul_lt_mul_of_pos_left ha (by decide)) _
  simp [pfcReach, lo, hi]

/-- The baseplate's temperature in BOOT (R340, R342). -/
theorem State.RegsIn.baseplate {x : Int} (h : s.RegsIn pfcReach t) (hm : s.mode = .boot) :
    s.RegsIn pfcReach (t.baseplate x b) := by
  unfold State.baseplate
  extract_lets shown junctions warned fault
  have hshown : s.RegsIn pfcReach shown := h.setReg
  have hjunctions : s.RegsIn pfcReach junctions := .ite (hshown.upto fun _ ha _ k => k.setReg (pfcReach_tj ha)) hshown
  have hwarned : s.RegsIn pfcReach warned := hjunctions.wrb
  split
  · exact hwarned
  · have hfault : s.RegsIn pfcReach fault := .ite hwarned (hwarned.on.irqS pfcReach_of_icu)
    rw [safeStop_boot ((hfault.quiet.1.mode (by decide)).trans hm)]
    exact .ite hfault hfault

/-- The PFC is on from now, with the bulk voltage shown. -/
def State.pfcOn (s : State) (bulk : Word) : State :=
  { s with auxOn := true, auxAt := s.now, bulkOk := decide ((280 : Int) * 2 ^ 24 ≤ signed48 bulk.toNat) }.setReg A.PWR_VBULK bulk

/-- The PFC runs (R328). -/
def State.pfcRuns (s : State) (bulk tb : Word) : State :=
  (((s.pfcOn bulk).baseplate (signed48 tb.toNat) true).pwrFlag 0).after (ms 12) .mainsLoss

theorem State.pfcRuns_regsIn (hm : s.mode = .boot) : (s.pfcOn bulk).RegsIn pfcReach (s.pfcRuns bulk tb) := by
  have mode : (s.pfcOn bulk).mode = .boot := by
    unfold State.mode State.rd
    exact (congrArg (fun x => Mode.ofCode (getBits x 0 3)) (State.reg_setReg_ne _ _ (by decide))).trans hm
  exact (((State.RegsIn.refl _ _).baseplate mode).rise pfcReach_of_icu).after

theorem State.pfcRuns_status (s : State) (bulk tb : Word) : (s.pfcRuns bulk tb).bit F.PWR_STATUS_PFCRUN = true :=
  State.bit_rise _ F.PWR_STATUS_PFCRUN _ _ _ (by decide) (by decide) (by decide)

theorem State.Quiet.pfcOn (s : State) (bulk : Word) : State.Quiet (blocksIcu [0x80B]) s (s.pfcOn bulk) :=
  .setReg _ A.PWR_VBULK bulk (by decide)

theorem exec_bootPfcStart (hm : s.mode = .boot) (hr : s.bootStage = 4) (hx : s.auxOn = false) (ht : t = s.pfcRuns bulk tb) :
    exec (.bootPfcStart bulk tb) s = ok (if t.bit F.SYS_BOOTSTAT_HOLD then t else t.bootNext 5 (ms 7) .bootConfigRead) := by
  subst ht
  show execBootPfcStart bulk tb s = _
  unfold execBootPfcStart
  rw [if_neg (by simp [hm, hr, hx])]
  rfl

/-- What a state `t` in which the PFC runs has to show for row 4. -/
theorem bootRow_pfcStart_of {r : Result}
    (meaning : r = ok (if t.bit F.SYS_BOOTSTAT_HOLD then t else t.bootNext 5 (ms 7) .bootConfigRead))
    (on : t.auxOn = true) (shown : t.reg A.PWR_VBULK = bulk) (status : t.bit F.PWR_STATUS_PFCRUN = true)
    (quiet : State.Quiet (blocksIcu [0x80B]) s t) : ∃ u, r = .next u ∧
    u.auxOn = true ∧ u.reg A.PWR_VBULK = bulk ∧ u.bit F.PWR_STATUS_PFCRUN = true ∧
    (s.bit F.SYS_BOOTSTAT_HOLD = false → u.bootStage = 5 ∧ u.dueIn (ms 7) .bootConfigRead = true) ∧
    sameRegs (blocksIcu [0x800, 0x803, 0x807, 0x809, 0x80A, 0x80B, 0x810, 0x811, 0x812, 0xC00]) s u ∧
    sameBytes s.recordPlace s u := by
  have frame := quiet.mono fun _ => blocksIcu_mono
    (m := [0x800, 0x803, 0x807, 0x809, 0x80A, 0x80B, 0x810, 0x811, 0x812, 0xC00]) (by decide)
  refine next_of_ok meaning ?_
  split
  case isTrue held =>
    have before : s.bit F.SYS_BOOTSTAT_HOLD = true := (quiet.1.bit (by decide)).symm.trans held
    exact ⟨on, shown, status, fun off => absurd (before.symm.trans off) (by decide), frame.1, fun x _ => frame.sameMem x⟩
  case isFalse =>
    exact ⟨on, shown, status, fun _ => ⟨rfl, State.bootNext_dueIn _ _ _ _⟩, frame.1, fun x _ => frame.sameMem x⟩

/-- Row 4: the PFC starts. -/
theorem bootRow_pfcStart (h : s.bootAtRow 4 = true) (hx : s.auxOn = false) : ∃ u, exec (.bootPfcStart bulk tb) s = .next u ∧
    u.auxOn = true ∧ u.reg A.PWR_VBULK = bulk ∧ u.bit F.PWR_STATUS_PFCRUN = true ∧
    (s.bit F.SYS_BOOTSTAT_HOLD = false → u.bootStage = 5 ∧ u.dueIn (ms 7) .bootConfigRead = true) ∧
    sameRegs (blocksIcu [0x800, 0x803, 0x807, 0x809, 0x80A, 0x80B, 0x810, 0x811, 0x812, 0xC00]) s u ∧
    sameBytes s.recordPlace s u := by
  obtain ⟨hm, hr⟩ := State.bootAtRow_iff.mp h
  have runs := State.pfcRuns_regsIn (bulk := bulk) (tb := tb) hm
  have shown : (s.pfcRuns bulk tb).reg A.PWR_VBULK = bulk := (runs.quiet.1 _ (by decide)).trans (State.reg_setReg_self _ _ _)
  exact bootRow_pfcStart_of (exec_bootPfcStart hm hr hx rfl) runs.auxOn shown (s.pfcRuns_status bulk tb)
    ((State.Quiet.pfcOn s bulk).trans (runs.quiet.mono pwr_of_pfcReach))

end Sys2Proof.Machine
end

section
/-! SUPPORT. The configuration and the start of TICK in BOOT (R81, R89-R94, R105): FB starts, and SYS_READY shows both. -/
namespace Sys2Proof.Machine
set_option Elab.async false

variable {s t u : State} {a c k m n : Nat} {b : Bool} {v w : Word} {l : List Byte}

/-! ### FB -/

/-- The blocks that a start of FB reaches: FB, and what an event reaches (R268, R292). -/
def fbBlocks : List Nat := [0x803, 0x807, 0x809, 0x80A, 0x810]

/-- A register of an axis of FB. -/
theorem fb_axis {base : Nat} (ha : a < 24) (h : base / 0x10000 = 0x809 ∧ base % 0x10000 + 0x100 * 24 ≤ 0x10000 := by decide) :
    blocksIcu fbBlocks (base + 0x100 * a) = true :=
  blocksIcu_of_div ((div_group ha ⟨by decide, h.2⟩).trans h.1) (by decide)

/-- The decoder of axis `a` starts in mode `m`, of `n` edges a turn, from edge `e` and rest `r` of position `p`. -/
def State.fbBegun (s : State) (a m n e r : Nat) (p : Word) : State :=
  let s1 := (s.setPort a { s.port a with mode := m, n, t := e, r, held := p, pser := p }).off0 (F.FB_AX_STAT_REF a)
  let s2 := ((s1.wrb (F.FB_AX_STAT_POSVALID a) (m == 1)).off0 (F.FB_AX_STAT_METHOD a)).off0 (F.FB_AX_STAT_BLEND a)
  let s3 := (s2.serCheck a).fbShow a
  if s3.encOn (a / 4) then s3 else s3.fbLoss a 2

namespace State.Steady

theorem setPort {x : Port} (h : s.Steady fbBlocks t) : s.Steady fbBlocks (t.setPort a x) := h.update

theorem fbFlag (h : s.Steady fbBlocks t) (ha : a < 24) : s.Steady fbBlocks (t.fbFlag a k) :=
  .ite h (.ite (h.on (fb_axis ha)).irq (h.on (fb_axis ha)))

theorem fbShow (h : s.Steady fbBlocks t) (ha : a < 24) : s.Steady fbBlocks (t.fbShow a) :=
  ((h.wrb (fb_axis ha)).wrb (fb_axis ha)).setReg (fb_axis ha)

theorem fbEvent (h : s.Steady fbBlocks t) (ha : a < 24) (hc : c < 96) : s.Steady fbBlocks (t.fbEvent a c k) :=
  (h.fire (hc := hc)).fire (hc := by omega)

theorem serStop (h : s.Steady fbBlocks t) : s.Steady fbBlocks (t.serStop a) := h.setPort.cancel

theorem fbLoss (h : s.Steady fbBlocks t) (ha : a < 24) : s.Steady fbBlocks (t.fbLoss a k) :=
  have stopped : s.Steady fbBlocks (if k = 7 then t.serStop a else t) := .ite h.serStop h
  have noted := (stopped.wr (fb_axis ha)).off0 (fb_axis ha)
  .ite noted.setPort ((((noted.setPort.off0 (fb_axis ha)).fbShow ha).fbFlag ha).fbEvent ha (by decide))

theorem serCheck (h : s.Steady fbBlocks t) (ha : a < 24) : s.Steady fbBlocks (t.serCheck a) :=
  have bad := Steady.ite (h.setPort.fbFlag ha) h.setPort
  have short := Steady.ite (bad.fbFlag ha) (bad.off0 (fb_axis ha))
  .ite (h.off0 (fb_axis ha)) (.ite h (.ite (short.fbLoss ha) short))

theorem fbStop (h : s.Steady fbBlocks t) (ha : a < 24) : s.Steady fbBlocks (t.fbStop a) :=
  (((h.setPort.off0 (fb_axis ha)).off0 (fb_axis ha)).off0 (fb_axis ha)).cancel.cancel.cancel.fbShow ha

theorem fbBegun (h : s.Steady fbBlocks t) (ha : a < 24) : s.Steady fbBlocks (t.fbBegun a m n c k v) := by
  unfold State.fbBegun
  extract_lets old placed cleared checked
  have hplaced : s.Steady fbBlocks placed := h.setPort.off0 (fb_axis ha)
  have hcleared : s.Steady fbBlocks cleared := ((hplaced.wrb (fb_axis ha)).off0 (fb_axis ha)).off0 (fb_axis ha)
  have hchecked : s.Steady fbBlocks checked := (hcleared.serCheck ha).fbShow ha
  exact .ite hchecked (hchecked.fbLoss ha)

theorem fbStart (h : s.Steady fbBlocks t) (ha : a < 24) : s.Steady fbBlocks (t.fbStart a) := by
  unfold State.fbStart
  refine .ite (h.fbStop ha) ?_
  extract_lets +onlyGivenNames pos edges
  split
  exact (h.fbStop ha).fbBegun ha

theorem fbStartAll (h : s.Steady fbBlocks t) : s.Steady fbBlocks t.fbStartAll := h.upto fun _ ha _ k => k.fbStart ha

end State.Steady

/-! ### The configuration -/

/-- The configuration is in force, and shows as ready; FB and the STO chain follow it (R89-R94). -/
def State.configured (s : State) : State :=
  ((s.configure s.safetyParams).memoryModes.configChecks.setReady 2 true).fbStartAll.stoLook

theorem State.configured_ready (s : State) : s.configured.bit F.SYS_READY_CFG = true := by
  unfold State.configured
  generalize (s.configure s.safetyParams).memoryModes.configChecks = t
  have shown : (t.setReady 2 true).bit F.SYS_READY_CFG = true := State.bit_setReady t true (by decide)
  have started := (State.Steady.refl fbBlocks (t.setReady 2 true)).fbStartAll
  have chain := (State.Steady.refl chainBlocks (t.setReady 2 true).fbStartAll).stoLook
  exact (chain.quiet.1.bit (by decide)).trans ((started.quiet.1.bit (by decide)).trans shown)

theorem exec_bootConfigRead (h : s.bootAtRow 5 = true) :
    exec .bootConfigRead s = ok ((s.cancel .bootConfigRead).configured.bootNext 6 (ms 1) .bootTickStart) := by
  show execBootConfigRead s = _
  exact congrArg ok (if_pos h)

/-- Row 5: the configuration. -/
theorem bootRow_configRead (h : s.bootAtRow 5 = true) : ∃ u, exec .bootConfigRead s = .next u ∧
    u.bootStage = 6 ∧ u.bit F.SYS_READY_CFG = true ∧ u.dueIn (ms 1) .bootTickStart = true :=
  next_of_row (exec_bootConfigRead h) fun _ row =>
    ⟨row.bootStage, (row.bit _).trans (State.configured_ready _), row.due⟩

/-! ### TICK -/

/-- TICK runs with system time from 0, and shows as ready (R105). -/
def State.tickRunning (s : State) : State := (s.tickStart true).setReady 3 true

/-- What the start of TICK shows. -/
structure State.TickFresh (s t : State) : Prop where
  running : t.bit F.TICK_STATUS_RUNNING = true
  time : t.reg A.SYSTIME_NS = 0
  epoch : t.epoch = 0
  quiet : State.Quiet (blocksIcu [0x802]) s t

/-- The frame counters of TICK from 0, and TICK running. -/
def State.tickCounters (s : State) : State :=
  (((s.on F.TICK_STATUS_RUNNING).wr F.TICK_FRAMECNT_COUNT 0).wr F.TICK_FRAMENO_IDX 0).wr F.TICK_PHASE_PHASE 0

theorem State.tickCounters_running (s : State) : s.tickCounters.bit F.TICK_STATUS_RUNNING = true := by
  unfold State.tickCounters
  rw [State.bit_wr_clear _ _ (by decide), State.bit_wr_clear _ _ (by decide), State.bit_wr_clear _ _ (by decide)]
  exact State.bit_on_self s _ (by decide) (by decide)

theorem State.Quiet.tickCounters (s : State) : State.Quiet (blocksIcu [0x802]) s s.tickCounters :=
  (State.Quiet.refl _ s).thenOn.thenWr.thenWr.thenWr

theorem State.Quiet.tickStart (s : State) : State.Quiet (fun a => a == A.SYSTIME_NS) s.tickCounters (s.tickStart true) :=
  (State.Quiet.setReg _ A.SYSTIME_NS 0 rfl).update

theorem State.tickStart_fresh (s : State) : s.TickFresh (s.tickStart true) where
  running := ((State.Quiet.tickStart s).1.bit (by decide)).trans s.tickCounters_running
  time := State.reg_setReg_self _ A.SYSTIME_NS 0
  epoch := rfl
  quiet := (State.Quiet.tickCounters s).trans ((State.Quiet.tickStart s).mono fun a ha => by
    rw [beq_iff_eq.mp ha]
    decide)

theorem blocksIcu_of_ready {l : List Nat} (hl : [0x800, 0x803, 0x807, 0x80A, 0x810].all l.contains = true)
    (h : readyReach a = true) : blocksIcu l a = true := by
  simp only [List.all_cons, Bool.and_eq_true] at hl
  unfold readyReach at h
  simp only [Bool.or_eq_true, beq_iff_eq] at h
  obtain (rfl | rfl) | event := h
  · exact blocksIcu_of_div (b := 0x800) (by decide) hl.1
  · exact blocksIcu_of_div (b := 0x800) (by decide) hl.1
  · exact blocksIcu_of_event (by simpa using hl.2) event

theorem State.tickRunning_fresh (s : State) : (s.tickStart true).Rest s.tickRunning ∧
    State.Quiet readyReach (s.tickStart true) s.tickRunning := ⟨(State.Rest.refl _).setReady, .setReady _ 3 true⟩

theorem exec_bootTickStart (h : s.bootAtRow 6 = true) :
    exec .bootTickStart s = ok ((s.cancel .bootTickStart).tickRunning.bootNext 7 (ms 4) .bootAppImage) := by
  show execBootTickStart s = _
  exact congrArg ok (if_pos h)

/-- Row 6: TICK starts. -/
theorem bootRow_tickStart (h : s.bootAtRow 6 = true) : ∃ u, exec .bootTickStart s = .next u ∧
    u.bootStage = 7 ∧ u.bit F.SYS_READY_TICK = true ∧ u.bit F.TICK_STATUS_RUNNING = true ∧ u.reg A.SYSTIME_NS = 0 ∧
    u.epoch = 0 ∧ u.dueIn (ms 4) .bootAppImage = true ∧
    sameRegs (blocksIcu [0x800, 0x802, 0x803, 0x807, 0x80A, 0x810]) s u ∧ sameMem s u := by
  refine next_of_row (exec_bootTickStart h) fun u row => ?_
  obtain ⟨running, time, epoch, quiet⟩ := (s.cancel .bootTickStart).tickStart_fresh
  obtain ⟨rest, ready⟩ := (s.cancel .bootTickStart).tickRunning_fresh
  have canceled : State.Quiet (blocksIcu [0x802]) s (s.cancel .bootTickStart) := .cancel _ s _
  have shown : (s.cancel .bootTickStart).tickRunning.bit F.SYS_READY_TICK = true := State.bit_setReady _ true (by decide)
  have frame : State.Quiet (blocksIcu [0x800, 0x802, 0x803, 0x807, 0x80A, 0x810]) s u :=
    row.frame (((canceled.trans quiet).mono fun _ => blocksIcu_mono (by decide)).trans
      (ready.mono fun _ => blocksIcu_of_ready (by decide)))
  exact ⟨row.bootStage, (row.bit _).trans shown, (row.bit _).trans ((ready.1.bit (by decide)).trans running),
    (row.reg _).trans ((ready.1 _ (by decide)).trans time), row.epoch.trans (rest.epoch.trans epoch),
    row.due, frame.1, frame.sameMem⟩

end Sys2Proof.Machine
end

section
/-! SUPPORT. The application image and the DRAM in BOOT (R81, R435, R566). -/
namespace Sys2Proof.Machine
set_option Elab.async false

variable {s t u : State} {a k m n : Nat} {b : Bool} {e f : Instr}

/-! ### An event that waits -/

theorem State.Calm.dueIn (h : s.Calm t) : t.dueIn n e = s.dueIn n e := by
  unfold State.dueIn
  rw [h.now, h.alarms]

/-- Setting one event leaves another's time. -/
theorem State.dueIn_after_ne (s : State) (n m : Nat) (h : f ≠ e) (w : s.dueIn n e = true) : (s.after m f).dueIn n e = true := by
  unfold State.dueIn State.after State.cancel at *
  rw [List.contains_eq_any_beq, alarmInsert_any, ← List.contains_eq_any_beq, Bool.or_eq_true]
  refine .inr (List.contains_iff_mem.mpr (List.mem_filter.mpr ⟨List.contains_iff_mem.mp w, ?_⟩))
  exact bne_iff_ne.mpr (Ne.symm h)

theorem State.dueIn_flcKick (s : State) (h : Instr.flcOpStart ≠ e) (w : s.dueIn n e = true) : s.flcKick.dueIn n e = true := by
  unfold State.flcKick
  split
  · exact State.dueIn_after_ne s n 1 h w
  · exact w

/-! ### The application image -/

/-- The selected application image is shown and loaded (R564, R566). -/
def State.appLoaded (s : State) (slot : Nat) (uncommitted : Bool) : State :=
  let s1 := ((if uncommitted then (s.romCommit true slot).commitSync else s).wrb F.CRY_BOOTINFO_APP_NOCOMMIT uncommitted).wr
    F.SYS_BOOTSTAT_APP_SLOT slot
  let s2 := (s1.wr F.CRY_APPVER_VER (s1.load (slotBase true slot + 8) 4)).wr F.CRY_BOOTINFO_APP_KEY
    (s1.load (slotBase true slot + 20) 1)
  (s2.digestWrite (A.CRY_APPDIG 0) (s2.imageDigest (slotBase true slot))).loadImage true slot

theorem State.Calm.appLoaded (h : s.Calm t) : s.Calm (t.appLoaded k b) :=
  have committed : s.Calm (if b then (t.romCommit true k).commitSync else t) := .ite h.romCommit.commitSync h
  committed.wrb.wr.wr.wr.digestWrite.loadImage

/-- Row 8 is due once the images have been looked at. -/
def State.appSelecting (s : State) : State := s.bootNext 8 (ms 31) .bootDramInit

theorem exec_bootAppImage_none (h : s.bootAtRow 7 = true)
    (hs : (s.cancel .bootAppImage).appSelecting.selectSlot true = none) :
    exec .bootAppImage s = ok ((s.cancel .bootAppImage).appSelecting.on F.SYS_BOOTSTAT_APP_IMG_BAD).flcKick := by
  show execBootAppImage s = _
  unfold execBootAppImage
  unfold State.appSelecting at hs
  simp only [h, Bool.not_true, Bool.false_eq_true, if_false, hs]
  rfl

theorem exec_bootAppImage_some (h : s.bootAtRow 7 = true)
    (hs : (s.cancel .bootAppImage).appSelecting.selectSlot true = some (k, b)) :
    exec .bootAppImage s = ok ((s.cancel .bootAppImage).appSelecting.appLoaded k b).flcKick := by
  show execBootAppImage s = _
  unfold execBootAppImage
  unfold State.appSelecting at hs
  simp only [h, Bool.not_true, Bool.false_eq_true, if_false, hs]
  rfl

/-- Whatever was loaded, row 8 is due. -/
theorem State.Calm.kicked (h : s.appSelecting.Calm t) :
    t.flcKick.counted.bootStage = 8 ∧ t.flcKick.counted.dueIn (ms 31) .bootDramInit = true :=
  ⟨(State.Rest.refl t).flcKick.bootStage.trans h.bootStage,
    State.dueIn_flcKick t (by decide) (h.dueIn.trans (State.bootNext_dueIn s 8 (ms 31) .bootDramInit))⟩

/-- Row 7: the application image. -/
theorem bootRow_appImage (h : s.bootAtRow 7 = true) : ∃ u, exec .bootAppImage s = .next u ∧
    u.bootStage = 8 ∧ u.dueIn (ms 31) .bootDramInit = true := by
  cases hs : (s.cancel .bootAppImage).appSelecting.selectSlot true with
  | none => exact next_of_ok (exec_bootAppImage_none h hs) (State.Calm.refl _).on.kicked
  | some slot =>
    obtain ⟨k, b⟩ := slot
    exact next_of_ok (exec_bootAppImage_some h hs) (State.Calm.refl _).appLoaded.kicked

/-! ### DRAM -/

/-- A table restricted to some keys reads as before at these, and lists no other. -/
theorem Tab.find_filter {α : Type} (t : Tab α) (q : Nat → Bool) (k : Nat) :
    Tab.find (t.filter fun p => q p.1) k = if q k then Tab.find t k else none := by
  induction t with
  | nil => simp
  | cons p t ih =>
    obtain ⟨j, v⟩ := p
    by_cases hj : j = k
    · subst hj
      cases hq : q j <;> simp [hq, Tab.find, ih]
    · cases hq : q j <;> simp [hq, Tab.find, ih, hj]

/-- `s` with the DRAM empty (R435). -/
def State.dramCleared (s : State) : State :=
  { s with
    mem := s.mem.filter (fun p => !inDram p.1)
    eccSoft := s.eccSoft.filter (fun a => !inDram a)
    eccHard := s.eccHard.filter (fun a => !inDram a) }

theorem State.dramCleared_find (s : State) (a : Nat) :
    Tab.find s.dramCleared.mem a = if !inDram a then Tab.find s.mem a else none := Tab.find_filter s.mem (fun x => !inDram x) a

/-- The bytes of the DRAM read 0, unless an operation left them undefined. -/
theorem State.dramCleared_byte (s : State) (hlo : 0x20000000 ≤ a) (hhi : a < 0x40000000) (ht : s.tornAt a = none) :
    s.dramCleared.byte a = 0 := by
  have torn : s.dramCleared.tornAt a = none := ht
  have inside : inDram a = true := by simp [inDram, hlo, hhi]
  have zero : memDefault a = 0 := if_neg (by omega)
  unfold State.byte
  rw [torn]
  simp [Tab.get, State.dramCleared_find, inside, zero]

theorem State.dramCleared_sameBytes (s : State) : sameBytes inDram s s.dramCleared := by
  intro a outside
  have torn : s.dramCleared.tornAt a = s.tornAt a := rfl
  unfold State.byte
  rw [torn]
  simp [Tab.get, State.dramCleared_find, outside]

/-- The blocks that the start of the DRAM reaches: SYS, AON, and what an event reaches. -/
def dramReach (a : Nat) : Bool := blocksIcu [0x800, 0x803, 0x807, 0x80A, 0x810] a

theorem State.Quiet.dramReady (s : State) : State.Quiet dramReach s s.dramReady :=
  have ready : State.Quiet dramReach s (s.setReady 4 true) :=
    (State.Quiet.setReady s 4 true).mono fun _ => blocksIcu_of_ready (by decide)
  (ready.thenWr (f := F.AON_PWRSTAT_DRAM)).update

theorem State.dramReady_ready (s : State) : s.dramReady.bit F.SYS_READY_DRAM = true := by
  have shown : (s.setReady 4 true).bit F.SYS_READY_DRAM = true := State.bit_setReady s true (by decide)
  exact (State.bit_wr_clear (f := F.AON_PWRSTAT_DRAM) _ 2 (by decide)).trans shown

theorem exec_bootDramInit (h : s.bootAtRow 8 = true) : exec .bootDramInit s =
    ok ((s.cancel .bootDramInit).dramCleared.dramReady.bootNext 9 (ms 140) .adcCalibrationStart) := by
  show execBootDramInit s = _
  exact if_pos h

/-- Row 8: the DRAM reads 0 and is ready. -/
theorem bootRow_dramInit (h : s.bootAtRow 8 = true) (hlo : 0x20000000 ≤ a) (hhi : a < 0x40000000) (ht : s.tornAt a = none) :
    ∃ u, exec .bootDramInit s = .next u ∧ u.byte a = 0 ∧ u.bit F.SYS_READY_DRAM = true ∧ u.bootStage = 9 ∧
    u.dueIn (ms 140) .adcCalibrationStart = true ∧ sameBytes inDram s u ∧ sameRegs dramReach s u := by
  refine next_of_row (exec_bootDramInit h) fun u row => ?_
  have ready := State.Quiet.dramReady (s.cancel .bootDramInit).dramCleared
  have quiet : State.Quiet dramReach (s.cancel .bootDramInit).dramCleared u := row.frame ready
  have regs : sameRegs dramReach s (s.cancel .bootDramInit).dramCleared := fun _ _ => rfl
  exact ⟨(quiet.sameMem a).trans ((s.cancel .bootDramInit).dramCleared_byte hlo hhi ht),
    (row.bit _).trans (State.dramReady_ready _), row.bootStage, row.due,
    fun x hx => (quiet.sameMem x).trans ((s.cancel .bootDramInit).dramCleared_sameBytes x hx), regs.trans quiet.1⟩

end Sys2Proof.Machine
end

section
/-! SUPPORT. The calibration of the converters in BOOT (R81, R172-R174): its start, its end, and its 120 ms. -/
namespace Sys2Proof.Machine
set_option Elab.async false

variable {s t u : State} {a k m n : Nat} {b : Bool} {e f : Instr} {codes : List Nat} {p : Nat → Bool}

/-- A register of an axis or a quad of the ADC. -/
theorem adc_group {base : Nat} (ha : a < 24) (h : base / 0x10000 = 0x805 ∧ base % 0x10000 + 0x40 * 24 ≤ 0x10000 := by decide) :
    blocks [0x805] (base + 0x40 * a) = true :=
  blocks_of_div ((div_group ha ⟨by decide, h.2⟩).trans h.1) (by decide)

/-! ### The start -/

theorem State.RegsIn.trimLoad (h : s.RegsIn (blocks [0x805]) t) (ha : a < 24) : s.RegsIn (blocks [0x805]) (t.trimLoad a) :=
  have gains := (h.wr (adc_group ha)).wr (adc_group ha)
  .ite gains ((gains.on (adc_group ha)).on)

/-- The gain trims of every axis (R173). -/
def State.trimsLoaded (s : State) : State := s.upto 24 fun a s => s.trimLoad a

theorem State.trimsLoaded_regsIn (s : State) : s.RegsIn (blocks [0x805]) s.trimsLoaded :=
  (State.RegsIn.refl _ s).upto fun _ ha _ k => k.trimLoad ha

theorem State.RegsOnly.bytes (h : s.RegsOnly t) (a n : Nat) : t.bytes a n = s.bytes a n :=
  List.map_congr_left fun _ _ => h.byte _

theorem State.RegsOnly.hardAt (h : s.RegsOnly t) (a : Nat) : t.hardAt a = s.hardAt a := by
  rw [h]
  rfl

/-- The calibration record is in memory. -/
theorem State.RegsOnly.calGood (h : s.RegsOnly t) : t.calGood = s.calGood := by
  have hard : t.hardAt = s.hardAt := funext h.hardAt
  unfold State.calGood State.load
  rw [h.bytes, h.bytes, h.bytes, hard]

/-- Without a good record an axis has no trims of its own (R457). -/
theorem State.trimLoad_missing (h : s.calGood = false) : (s.trimLoad a).bit F.ADC_STATUS_TRIM_MISSING = true := by
  unfold State.trimLoad
  simp only [h, Bool.false_and, Bool.and_self, Bool.false_eq_true, if_false]
  exact State.bit_on_self _ _ (by decide) (by decide)

theorem State.trimsLoaded_missing (h : s.calGood = false) : s.trimsLoaded.bit F.ADC_STATUS_TRIM_MISSING = true := by
  have before : s.RegsIn (blocks [0x805]) (s.upto 23 fun a s => s.trimLoad a) :=
    (State.RegsIn.refl _ s).upto fun _ ha _ k => k.trimLoad (Nat.lt_succ_of_lt ha)
  unfold State.trimsLoaded
  rw [State.upto_succ]
  exact State.trimLoad_missing (before.only.calGood.trans h)

/-- The calibration lasts from `n` on (R172). -/
def State.calFrom (s : State) (n : Nat) : State := { s with bootStage := 11, calAt := n }

theorem State.Quiet.calFrom (h : State.Quiet p s t) : State.Quiet p s (t.calFrom n) := h.update

theorem State.calFrom_bit (s : State) (n : Nat) (f : Fld) : (s.calFrom n).bit f = s.bit f := rfl

/-- The calibration runs from now. -/
def State.calRunning (s : State) : State := (s.trimsLoaded.on F.ADC_STATUS_CALBUSY).calFrom s.now

theorem State.Quiet.calRunning (s : State) : State.Quiet (blocks [0x805]) s s.calRunning :=
  (s.trimsLoaded_regsIn.on (f := F.ADC_STATUS_CALBUSY)).quiet.calFrom

theorem State.calRunning_busy (s : State) : s.calRunning.bit F.ADC_STATUS_CALBUSY = true :=
  (State.calFrom_bit _ _ _).trans (State.bit_on_self s.trimsLoaded F.ADC_STATUS_CALBUSY (by decide) (by decide))

theorem State.calRunning_missing (h : s.calGood = false) : s.calRunning.bit F.ADC_STATUS_TRIM_MISSING = true := by
  unfold State.calRunning
  rw [State.calFrom_bit, State.bit_on_clear _ (by decide)]
  exact State.trimsLoaded_missing h

theorem exec_adcCalibrationStart (h : s.bootAtRow 9 = true) :
    exec .adcCalibrationStart s = ok (s.cancel .adcCalibrationStart).calRunning := by
  show execAdcCalibrationStart s = _
  exact congrArg ok (if_pos h)

/-- Row 10 begins: the calibration runs. -/
theorem bootRow_calStart (h : s.bootAtRow 9 = true) : ∃ u, exec .adcCalibrationStart s = .next u ∧
    u.bootStage = 11 ∧ u.calAt = s.now ∧ u.bit F.ADC_STATUS_CALBUSY = true ∧
    (s.calGood = false → u.bit F.ADC_STATUS_TRIM_MISSING = true) ∧ sameRegs (blocks [0x805]) s u ∧ sameMem s u := by
  have canceled : State.Quiet (blocks [0x805]) s (s.cancel .adcCalibrationStart) := .cancel _ s _
  have quiet := canceled.trans (.calRunning _)
  have record : (s.cancel .adcCalibrationStart).calGood = s.calGood := (State.RegsOnly.cancel s .adcCalibrationStart).calGood
  have busy := (s.cancel .adcCalibrationStart).calRunning_busy
  have missing (h : s.calGood = false) := State.calRunning_missing (record.trans h)
  have stage : (s.cancel .adcCalibrationStart).calRunning.bootStage = 11 := rfl
  have start : (s.cancel .adcCalibrationStart).calRunning.calAt = s.now := rfl
  refine next_of_ok (exec_adcCalibrationStart h) ?_
  generalize (s.cancel .adcCalibrationStart).calRunning = t at *
  exact ⟨stage, start, busy, missing, quiet.1, quiet.sameMem⟩

/-! ### The end -/

/-- The registers of the axes of the ADC, and what an interrupt reaches. -/
def adcAxisReach (a : Nat) : Bool := (decide (A.ADC_AX_IU 0 ≤ a) && decide (a < A.ADC_AX_IU 24)) || icuReach a

theorem adcAxisReach_of_icu (a : Nat) (h : icuReach a = true) : adcAxisReach a = true := by simp [adcAxisReach, h]

theorem adcAxisReach_flag (ha : a < 24) : adcAxisReach (A.ADC_AX_FLAG a) = true := by
  have lo : A.ADC_AX_IU 0 ≤ A.ADC_AX_FLAG a := by
    show 0x08050800 ≤ 0x08050820 + 0x40 * a
    omega
  have hi : A.ADC_AX_FLAG a < A.ADC_AX_IU 24 := by
    show 0x08050820 + 0x40 * a < 0x08050E00
    omega
  simp [adcAxisReach, lo, hi]

theorem adc_of_adcAxisReach (a : Nat) (h : adcAxisReach a = true) : blocksIcu [0x805] a = true := by
  unfold adcAxisReach at h
  simp only [Bool.or_eq_true, Bool.and_eq_true, decide_eq_true_eq] at h
  obtain ⟨lo, hi⟩ | icu := h
  · have block : a / 0x10000 = 0x805 := by
      change 0x08050800 ≤ a at lo
      change a < 0x08050E00 at hi
      omega
    exact blocksIcu_of_div block (by decide)
  · exact blocksIcu_of_icu icu

/-- The offsets of the calibration (R172, R174). -/
theorem State.calApply_regsIn (s : State) (codes : List Nat) : s.RegsIn (blocks [0x805]) (s.calApply codes) := by
  unfold State.calApply
  extract_lets +onlyGivenNames ofs clip bad axes aux
  have haxes : s.RegsIn (blocks [0x805]) axes := (State.RegsIn.refl _ s).upto fun _ ha _ k =>
    ((((k.wrI (adc_group ha)).wrI (adc_group ha)).wrb (adc_group ha)).wrb (adc_group ha)).setBitAt
  have haux : s.RegsIn (blocks [0x805]) aux := haxes.upto fun _ hq _ k => k.setBitAt.off0 (adc_group (hq.trans (by decide)))
  exact haux.wrb.on

theorem State.calApply_done (s : State) (codes : List Nat) : (s.calApply codes).bit F.ADC_STATUS_CALDONE = true :=
  State.bit_on_self _ F.ADC_STATUS_CALDONE (by decide) (by decide)

theorem State.RegsIn.adcFlag (h : s.RegsIn adcAxisReach t) (ha : a < 24) : s.RegsIn adcAxisReach (t.adcFlag a k) :=
  .ite h ((h.on (adcAxisReach_flag ha)).irq adcAxisReach_of_icu)

/-- The measured gains beside their trims (R174). -/
theorem State.gainCheck_regsIn (s : State) (codes : List Nat) : s.RegsIn adcAxisReach (s.gainCheck codes) :=
  (State.RegsIn.refl _ s).upto fun _ ha _ k =>
    have u := State.RegsIn.ite (k.adcFlag ha) (k.off0 (adcAxisReach_flag ha))
    .ite (u.adcFlag ha) (u.off0 (adcAxisReach_flag ha))

/-- The calibration has ended, and the converters show as ready (R172). -/
def State.calEnded (s : State) (codes : List Nat) : State :=
  (((s.calApply codes).gainCheck codes).setReady 7 true).off0 F.ADC_STATUS_CALBUSY

/-- The blocks that the end of the calibration reaches: SYS, ADC, and what an event reaches. -/
def calReach (a : Nat) : Bool := blocksIcu [0x800, 0x803, 0x805, 0x807, 0x80A, 0x810] a

/-- What the end of the calibration shows. -/
structure State.Calibrated (s t : State) : Prop where
  ready : t.bit F.SYS_READY_ADC = true
  done : t.bit F.ADC_STATUS_CALDONE = true
  busy : t.bit F.ADC_STATUS_CALBUSY = false
  hold : t.bit F.SYS_BOOTSTAT_HOLD = s.bit F.SYS_BOOTSTAT_HOLD
  quiet : State.Quiet calReach s t

theorem State.calEnded_calibrated (s : State) (codes : List Nat) : s.Calibrated (s.calEnded codes) := by
  have offsets := (s.calApply_regsIn codes).quiet
  have gains := ((s.calApply codes).gainCheck_regsIn codes).quiet
  have ready := State.Quiet.setReady ((s.calApply codes).gainCheck codes) 7 true
  have shown : (((s.calApply codes).gainCheck codes).setReady 7 true).bit F.SYS_READY_ADC = true :=
    State.bit_setReady _ true (by decide)
  have done := s.calApply_done codes
  unfold State.calEnded
  generalize s.calApply codes = t at *
  generalize t.gainCheck codes = u at *
  generalize u.setReady 7 true = v at *
  refine ⟨?_, ?_, State.bit_off0_self v _ (by decide), ?_, ?_⟩
  · rw [State.bit_off0_clear v (by decide), shown]
  · rw [State.bit_off0_clear v (by decide), ready.1.bit (by decide), gains.1.bit (by decide), done]
  · rw [State.bit_off0_clear v (by decide), ready.1.bit (by decide), gains.1.bit (by decide), offsets.1.bit (by decide)]
  · have before : State.Quiet calReach s t :=
      offsets.mono fun _ h => blocksIcu_mono (l := [0x805]) (by decide) (by simp [blocksIcu, h])
    have checked : State.Quiet calReach s u :=
      before.trans (gains.mono fun a h => blocksIcu_mono (by decide) (adc_of_adcAxisReach a h))
    exact (checked.trans (ready.mono fun _ => blocksIcu_of_ready (by decide))).thenOff0

theorem exec_adcCalibrationDone (h : s.bootAtRow 11 = true) (hw : s.calAt + ms 120 ≤ s.now)
    (ht : t = (s.cancel (.adcCalibrationDone codes)).calEnded codes) : exec (.adcCalibrationDone codes) s =
    ok (if t.bit F.SYS_BOOTSTAT_HOLD then { t with bootStage := 12 } else t.bootNext 12 (ms 5) .bootCoreRelease) := by
  subst ht
  have row : ¬ (!(s.cancel (.adcCalibrationDone codes)).bootAtRow 11) = true := by
    rw [show (s.cancel (.adcCalibrationDone codes)).bootAtRow 11 = true from h]
    decide
  have late : ¬ (s.cancel (.adcCalibrationDone codes)).now < (s.cancel (.adcCalibrationDone codes)).calAt + ms 120 :=
    Nat.not_lt.mpr hw
  show execAdcCalibrationDone codes s = _
  exact congrArg ok ((if_neg row).trans (if_neg late))

theorem exec_adcCalibrationDone_early (h : s.bootAtRow 11 = true) (hw : s.now < s.calAt + ms 120) :
    exec (.adcCalibrationDone codes) s =
    ok ((s.cancel (.adcCalibrationDone codes)).after (s.calAt + ms 120 - s.now) (.adcCalibrationDone codes)) := by
  have row : ¬ (!(s.cancel (.adcCalibrationDone codes)).bootAtRow 11) = true := by
    rw [show (s.cancel (.adcCalibrationDone codes)).bootAtRow 11 = true from h]
    decide
  show execAdcCalibrationDone codes s = _
  exact congrArg ok ((if_neg row).trans (if_pos hw))

/-- What a calibrated state `t` has to show for row 11. -/
theorem State.Calibrated.row {r : Result} (h : s.Calibrated t)
    (meaning : r = ok (if t.bit F.SYS_BOOTSTAT_HOLD then { t with bootStage := 12 } else t.bootNext 12 (ms 5) .bootCoreRelease)) :
    ∃ u, r = .next u ∧ u.bootStage = 12 ∧ u.bit F.SYS_READY_ADC = true ∧ u.bit F.ADC_STATUS_CALDONE = true ∧
    u.bit F.ADC_STATUS_CALBUSY = false ∧ (s.bit F.SYS_BOOTSTAT_HOLD = false → u.dueIn (ms 5) .bootCoreRelease = true) ∧
    sameRegs calReach s u ∧ sameMem s u := by
  refine next_of_ok meaning ?_
  split
  case isTrue held =>
    have before : s.bit F.SYS_BOOTSTAT_HOLD = true := h.hold.symm.trans held
    exact ⟨rfl, h.ready, h.done, h.busy, fun off => absurd (before.symm.trans off) (by decide), h.quiet.1, h.quiet.sameMem⟩
  case isFalse =>
    exact ⟨rfl, h.ready, h.done, h.busy, fun _ => State.bootNext_dueIn _ _ _ _, h.quiet.1, h.quiet.sameMem⟩

/-- Row 11: the calibration ends after its 120 ms. -/
theorem bootRow_calDone (h : s.bootAtRow 11 = true) (hw : s.calAt + ms 120 ≤ s.now) :
    ∃ u, exec (.adcCalibrationDone codes) s = .next u ∧ u.bootStage = 12 ∧ u.bit F.SYS_READY_ADC = true ∧
    u.bit F.ADC_STATUS_CALDONE = true ∧ u.bit F.ADC_STATUS_CALBUSY = false ∧
    (s.bit F.SYS_BOOTSTAT_HOLD = false → u.dueIn (ms 5) .bootCoreRelease = true) ∧ sameRegs calReach s u ∧ sameMem s u :=
  have same : State.Quiet calReach s (s.cancel (.adcCalibrationDone codes)) := .cancel _ s _
  have ended := (s.cancel (.adcCalibrationDone codes)).calEnded_calibrated codes
  State.Calibrated.row ⟨ended.ready, ended.done, ended.busy, ended.hold, same.trans ended.quiet⟩
    (exec_adcCalibrationDone h hw rfl)

/-- Row 11 before its 120 ms are over: it waits for their end. -/
theorem bootRow_calEarly (h : s.bootAtRow 11 = true) (hw : s.now < s.calAt + ms 120) :
    ∃ u, exec (.adcCalibrationDone codes) s = .next u ∧ u.bootStage = 11 ∧
    u.dueIn (s.calAt + ms 120 - s.now) (.adcCalibrationDone codes) = true ∧ sameRegs calReach s u ∧ sameMem s u :=
  next_of_ok (exec_adcCalibrationDone_early h hw)
    ⟨(State.bootAtRow_iff.mp h).2, State.dueIn_after_self _ _ _, fun _ _ => rfl, fun _ => rfl⟩

end Sys2Proof.Machine
end

section
/-! SUPPORT. The release of the cores that ends BOOT (R74, R81, R83, R97), and the rows of BOOT together. -/
namespace Sys2Proof.Machine
set_option Elab.async false

variable {s t u : State} {a c j k n : Nat} {p : Nat → Bool}

/-! ### The Zenou-A cores -/

theorem State.core_setCore_ne (s : State) (x : Core) (h : j ≠ c) : (s.setCore c x).core j = s.core j := Tab.get_set_ne _ _ _ _ h

/-- Core `c` is set to its reset vector. -/
def State.coreReady (s : State) (c : Nat) : State :=
  s.setCore c { s.core c with pc := BitVec.ofNat 48 (isramBase c), released := true }

/-- Core `c` is at its reset vector, and goes unless it is held (R97). -/
def State.appStep (c : Nat) (s : State) : State :=
  if (s.coreReady c).bitAt F.SYS_CORERST_HOLD c || (s.coreReady c).due (coreEvent c) then s.coreReady c
  else (s.coreReady c).coreGo c

theorem appStart_eq : s.appStart = if s.bit F.SYS_BOOTSTAT_APP_IMG_BAD then s else s.upto 4 State.appStep := rfl

/-- Core `c` as it goes. -/
def goCore (x : Core) : Core := { x with run := .running, released := true, fresh := false }

theorem State.Rest.cwdStart (h : s.Rest t) : s.Rest (t.cwdStart c) :=
  have counted : s.Rest { t with cwdLen := Tab.put t.cwdLen c (75000 * t.rd (F.SAF_CWD_TMO c)) } := h.update
  .ite counted.after h.cancel

theorem State.Quiet.cwdStart (p : Nat → Bool) (s : State) (c : Nat) : State.Quiet p s (s.cwdStart c) :=
  .ite (.of_eq p rfl rfl rfl) (.of_eq p rfl rfl rfl)

/-- A core that goes leaves all that is not a core's, but for its ready bit. -/
theorem State.coreGo_rest (s : State) (c : Nat) : (s.setCore c (goCore (s.core c))).Rest (s.coreGo c) :=
  (State.Rest.refl _).cwdStart.setReady

theorem State.Quiet.coreGo (s : State) (c : Nat) : State.Quiet readyReach s (s.coreGo c) :=
  have set : State.Quiet readyReach s (s.setCore c (goCore (s.core c))) := .of_eq _ rfl rfl rfl
  (set.trans (.cwdStart _ _ c)).trans (.setReady _ _ _)

/-- `t` has the registers of `s` but for ready bits and events, its memory, its row of BOOT and its resets of cores. -/
structure State.Apart (s t : State) : Prop where
  quiet : State.Quiet readyReach s t
  bootStage : t.bootStage = s.bootStage
  due : ∀ c, t.due (.coreResetRelease c) = s.due (.coreResetRelease c)

theorem State.Apart.trans (h : s.Apart t) (k : t.Apart u) : s.Apart u :=
  ⟨h.quiet.trans k.quiet, k.bootStage.trans h.bootStage, fun c => (k.due c).trans (h.due c)⟩

theorem State.coreReady_apart (s : State) (c : Nat) : s.Apart (s.coreReady c) := ⟨.of_eq _ rfl rfl rfl, rfl, fun _ => rfl⟩

theorem State.coreGo_apart (s : State) (c : Nat) : s.Apart (s.coreGo c) :=
  ⟨.coreGo s c, (s.coreGo_rest c).bootStage, (s.coreGo_rest c).due⟩

theorem State.appStep_apart (s : State) (c : Nat) : s.Apart (s.appStep c) := by
  unfold State.appStep
  split
  · exact s.coreReady_apart c
  · exact (s.coreReady_apart c).trans ((s.coreReady c).coreGo_apart c)

theorem State.coreGo_core (s : State) (c j : Nat) : (s.coreGo c).core j = (s.setCore c (goCore (s.core c))).core j :=
  congrArg (fun l => Tab.get Core.init l j) (s.coreGo_rest c).cores

theorem State.appStep_core_ne (s : State) (h : j ≠ c) : (s.appStep c).core j = s.core j := by
  have ready : (s.coreReady c).core j = s.core j := s.core_setCore_ne _ h
  unfold State.appStep
  split
  · exact ready
  · rw [State.coreGo_core, State.core_setCore_ne _ _ h, ready]

/-- Whether nothing holds core `c` in reset (R97). -/
def State.coreFree (s : State) (c : Nat) : Bool := !s.bitAt F.SYS_CORERST_HOLD c && !s.due (coreEvent c)

/-- Whether core `c` runs from its reset vector (R379). -/
def State.coreStarted (s : State) (c : Nat) : Prop := (s.core c).run = .running ∧ (s.core c).pc = BitVec.ofNat 48 (isramBase c)

theorem State.Apart.coreFree (h : s.Apart t) (c : Nat) : t.coreFree c = s.coreFree c := by
  unfold State.coreFree coreEvent
  rw [h.quiet.1.bitAt (by decide), h.due]

theorem State.appStep_started (h : s.coreFree c = true) : (s.appStep c).coreStarted c := by
  have free : (s.coreReady c).coreFree c = true := ((s.coreReady_apart c).coreFree c).trans h
  have held : ¬ ((s.coreReady c).bitAt F.SYS_CORERST_HOLD c || (s.coreReady c).due (coreEvent c)) = true := by
    simpa [State.coreFree] using free
  have going : (s.appStep c).core c = goCore ((s.coreReady c).core c) := by
    unfold State.appStep
    rw [if_neg held, State.coreGo_core, State.core_setCore_self]
  have vector : (s.coreReady c).core c = { s.core c with pc := BitVec.ofNat 48 (isramBase c), released := true } :=
    s.core_setCore_self c _
  unfold State.coreStarted
  rw [going, vector]
  exact ⟨rfl, rfl⟩

/-- The cores below `n` that nothing holds have started, and nothing else has changed. -/
structure State.CoresUp (s : State) (n : Nat) (t : State) : Prop where
  apart : s.Apart t
  started : ∀ c < n, s.coreFree c = true → t.coreStarted c

theorem State.coresUp_upto (s : State) (n : Nat) : s.CoresUp n (s.upto n State.appStep) := by
  refine State.upto_invariant (P := s.CoresUp) ⟨⟨.refl _ s, rfl, fun _ => rfl⟩, fun c hc => absurd hc (Nat.not_lt_zero c)⟩ ?_
  intro i _ t h
  refine ⟨h.apart.trans (t.appStep_apart i), fun c hc free => ?_⟩
  by_cases hi : c = i
  · subst hi
    exact State.appStep_started ((h.apart.coreFree c).trans free)
  · have before := h.started c (by omega) free
    unfold State.coreStarted at before ⊢
    rwa [t.appStep_core_ne hi]

theorem State.appStart_apart (s : State) : s.Apart s.appStart := by
  rw [appStart_eq]
  split
  · exact ⟨.refl _ s, rfl, fun _ => rfl⟩
  · exact (s.coresUp_upto 4).apart

theorem State.appStart_started (hb : s.bit F.SYS_BOOTSTAT_APP_IMG_BAD = false) (hc : c < 4) (hf : s.coreFree c = true) :
    s.appStart.coreStarted c := by
  rw [appStart_eq, if_neg (by simp [hb])]
  exact (s.coresUp_upto 4).started c hc hf

/-! ### The end of BOOT -/

/-- The time of BOOT shows as it ends. -/
def State.bootTimed (s : State) : State := s.wr F.SYS_BOOTSTAT_BOOT_MS s.bootMs

/-- STANDBY with BOOT over (R74). -/
def State.bootLeft (s : State) : State := { s.bootTimed.setMode .standby with bootStage := 13 }

/-- The outputs and the chain follow the first STANDBY. -/
def State.outputsFollow (s : State) : State := s.stoSample.stoLook.isoLook.dioFollowAll

theorem State.outputsFollow_steady (s : State) : s.Steady chainBlocks s.outputsFollow :=
  (State.Steady.refl chainBlocks s).stoSample.stoLook.isoLook.dioFollowAll

theorem State.bootTimed_mode (s : State) : s.bootTimed.mode = s.mode := by
  unfold State.mode
  exact congrArg Mode.ofCode (State.rd_wr_clear (f := F.SYS_BOOTSTAT_BOOT_MS) (g := F.SYS_MODE_MODE) _ _ (by decide))

/-- What the end of BOOT leaves before the cores start. -/
structure State.BootOver (s t : State) : Prop where
  mode : t.mode = .standby
  bootStage : t.bootStage = 13
  quiet : State.Quiet (blocksIcu modeBlocks) s t
  image : t.bit F.SYS_BOOTSTAT_APP_IMG_BAD = s.bit F.SYS_BOOTSTAT_APP_IMG_BAD
  free : ∀ c, t.coreFree c = s.coreFree c

theorem State.bootTimed_steady (s : State) : s.Steady modeBlocks s.bootTimed := (State.Steady.refl modeBlocks s).wr

theorem State.bootLeft_over (hm : s.mode = .boot) : s.BootOver s.bootLeft := by
  have outside : s.bootTimed.mode ≠ .standby := by rw [s.bootTimed_mode, hm]; decide
  have steady : s.Steady modeBlocks (s.bootTimed.setMode .standby) := s.bootTimed_steady.setMode outside
  have mode : (s.bootTimed.setMode .standby).mode = .standby := State.setMode_mode outside
  have timed : State.Quiet (fun a => a == A.SYS_BOOTSTAT) s s.bootTimed := .wr s _ _ rfl
  have image : s.bootTimed.bit F.SYS_BOOTSTAT_APP_IMG_BAD = s.bit F.SYS_BOOTSTAT_APP_IMG_BAD := State.bit_wr_clear s _ (by decide)
  have shown : State.Quiet (fun a => a == A.SYS_MODE || a == A.SYS_MODESTAT) s.bootTimed (s.bootTimed.modeShown .standby) :=
    (((State.Quiet.refl _ s.bootTimed).thenWr).thenWr).thenWr
  have changed := (State.setMode_steady (m := .standby) outside).quiet
  have due := steady.rest.due
  unfold State.bootLeft
  generalize s.bootTimed.setMode .standby = t at *
  have hold : ∀ c, t.bitAt F.SYS_CORERST_HOLD c = s.bitAt F.SYS_CORERST_HOLD c := fun c =>
    (changed.1.bitAt (by decide) c).trans ((shown.1.bitAt (by decide) c).trans (timed.1.bitAt (by decide) c))
  refine ⟨mode, rfl, steady.quiet.update, ?_, fun c => ?_⟩
  · exact (changed.1.bit (by decide)).trans ((shown.1.bit (by decide)).trans image)
  · exact congrArg₂ (fun x y => !x && !y) (hold c) (due _)

theorem exec_bootCoreRelease (h : s.bootAtRow 12 = true) (hb : s.bit F.SYS_BOOTSTAT_HOLD = false) :
    exec .bootCoreRelease s = ok (s.cancel .bootCoreRelease).bootLeft.appStart.outputsFollow := by
  show execBootCoreRelease s = _
  exact congrArg ok (if_pos (by simp [h, hb]))

/-- What the released state `t` shows, in the terms of the state before. -/
structure State.Released (s t : State) : Prop where
  mode : t.mode = .standby
  bootStage : t.bootStage = 13
  started : s.bit F.SYS_BOOTSTAT_APP_IMG_BAD = false → ∀ c < 4, s.coreFree c = true → t.coreStarted c
  quiet : State.Quiet (blocksIcu modeBlocks) s t

theorem State.BootOver.released (h : s.BootOver t) : s.Released t.appStart.outputsFollow := by
  have apart := t.appStart_apart
  have started (hb) (c) (hc) := t.appStart_started (c := c) hb hc
  generalize t.appStart = u at *
  have follow := u.outputsFollow_steady
  generalize u.outputsFollow = v at *
  have cores : ∀ c, v.core c = u.core c := fun c => congrArg (fun l => Tab.get Core.init l c) follow.rest.cores
  refine ⟨?_, ?_, fun hb c hc hf => ?_, ?_⟩
  · exact (follow.quiet.1.mode (by decide)).trans ((apart.quiet.1.mode (by decide)).trans h.mode)
  · exact follow.rest.bootStage.trans (apart.bootStage.trans h.bootStage)
  · have up := started (h.image.trans hb) c hc ((h.free c).trans hf)
    unfold State.coreStarted at up ⊢
    rwa [cores c]
  · exact (h.quiet.trans (apart.quiet.mono fun _ => blocksIcu_of_ready (by decide))).trans (follow.mono (m := modeBlocks)).quiet

/-- Row 12: the cores are released, and BOOT is over. -/
theorem bootRow_coreRelease (h : s.bootAtRow 12 = true) (hb : s.bit F.SYS_BOOTSTAT_HOLD = false) :
    ∃ u, exec .bootCoreRelease s = .next u ∧ u.mode = .standby ∧ u.bootStage = 13 ∧
    (s.bit F.SYS_BOOTSTAT_APP_IMG_BAD = false → ∀ c : Fin 4, s.bitAt F.SYS_CORERST_HOLD c = false →
      s.due (.coreResetRelease c) = false → (u.core c).run = .running ∧ (u.core c).pc = BitVec.ofNat 48 (isramBase c)) ∧
    sameRegs (blocksIcu modeBlocks) s u ∧ sameMem s u := by
  have ended : (s.cancel .bootCoreRelease).BootOver (s.cancel .bootCoreRelease).bootLeft :=
    State.bootLeft_over (State.bootAtRow_iff.mp h).1
  have released := ended.released
  have meaning := exec_bootCoreRelease h hb
  have image : (s.cancel .bootCoreRelease).bit F.SYS_BOOTSTAT_APP_IMG_BAD = s.bit F.SYS_BOOTSTAT_APP_IMG_BAD := rfl
  have canceled : State.Quiet (blocksIcu modeBlocks) s (s.cancel .bootCoreRelease) := .cancel _ s _
  have free (c : Fin 4) (hold : s.bitAt F.SYS_CORERST_HOLD c = false) (due : s.due (.coreResetRelease c) = false) :
      (s.cancel .bootCoreRelease).coreFree c = true := by
    have same : (s.cancel .bootCoreRelease).due (.coreResetRelease c) = s.due (.coreResetRelease c) := due_cancel_ne (by simp)
    have hold' : (s.cancel .bootCoreRelease).bitAt F.SYS_CORERST_HOLD c = false := hold
    simp [State.coreFree, coreEvent, hold', same, due]
  generalize (s.cancel .bootCoreRelease).bootLeft.appStart.outputsFollow = t at *
  have quiet := canceled.trans released.quiet
  exact next_of_ok meaning ⟨released.mode, released.bootStage,
    fun hb c hold due => released.started (image.trans hb) c c.isLt (free c hold due), quiet.1, quiet.sameMem⟩

end Sys2Proof.Machine

open Sys2Proof Sys2Proof.Machine

/-- Settles O26: the rows of BOOT, one after the other. -/
theorem bootRows : Obligations.BootRows := fun _ _ _ _ _ =>
  ⟨bootRow_clockLock, bootRow_journalScan, bootRow_safetyImage, bootRow_pfcStart, bootRow_configRead, bootRow_tickStart,
    bootRow_appImage, bootRow_dramInit, bootRow_calStart, bootRow_calDone, bootRow_calEarly, bootRow_coreRelease⟩
end
section
/-! SUPPORT. What a change of a gate leaves alone (R139-R141, R145, R146): the registers, the memory, the duties and the lockouts. One
lemma for each function of the half-bridges, named after it, and the gate state that a switch of sides gives. -/
namespace Sys2Proof.Machine
set_option Elab.async false

variable {s t u : State} {a b c n p q r : Nat} {g : Gate} {hi : Bool} {e : Instr}

/-- What holds of the state that a command's meaning answers, and does not rest on the command counter. -/
theorem next_of_shown {r : Result} {P : State → Prop} (h : r = ok t) (hp : P t) (hc : ∀ t : State, P t → P t.counted) :
    ∃ u, r = .next u ∧ P u := next_of_ok h (hc t hp)

/-! ### Half-bridges and axes in their tables -/

theorem State.phase_setPhase (s : State) (a p b r : Nat) (x : Phase) :
    (s.setPhase a p x).phase b r = if 3 * b + r = 3 * a + p then x else s.phase b r := by
  unfold State.phase State.setPhase
  split
  next same => rw [same]; exact Tab.get_set_self _ _ _ _
  next other => exact Tab.get_set_ne _ _ _ _ other

@[simp] theorem State.phase_setPhase_self (s : State) (a p : Nat) (x : Phase) : (s.setPhase a p x).phase a p = x := by
  simp [State.phase_setPhase]

theorem State.axis_setAxis (s : State) (a b : Nat) (x : Axis) : (s.setAxis a x).axis b = if b = a then x else s.axis b := by
  unfold State.axis State.setAxis
  split
  next same => rw [same]; exact Tab.get_set_self _ _ _ _
  next other => exact Tab.get_set_ne _ _ _ _ other

@[simp] theorem State.axis_setAxis_self (s : State) (a : Nat) (x : Axis) : (s.setAxis a x).axis a = x := by
  simp [State.axis_setAxis]

/-- What a half-bridge's new state has of the old one, every half-bridge has of its own. -/
theorem State.view_setPhase {α : Type} {x : Phase} (f : Phase → α) (hx : f x = f (s.phase a p)) (b r : Nat) :
    f ((s.setPhase a p x).phase b r) = f (s.phase b r) := by
  rw [State.phase_setPhase]
  split
  next same =>
    have key : s.phase b r = s.phase a p := by
      unfold State.phase
      rw [same]
    rw [hx, key]
  next => rfl

theorem State.view_setAxis {α : Type} {x : Axis} (f : Axis → α) (hx : f x = f (s.axis a)) (b : Nat) :
    f ((s.setAxis a x).axis b) = f (s.axis b) := by
  rw [State.axis_setAxis]
  split
  next same => rw [hx, same]
  next => rfl

/-! ### What a change of a gate leaves -/

/-- What gate changes leave of a half-bridge: its duties, its bootstrap supply, its lockout. -/
def Phase.kept (x : Phase) : Phase := { x with gate := .allOff, dropHigh := false, dropLow := false, ext := 0, onAt := 0 }

/-- What gate changes leave of an axis: all but the level of its trip inputs, which blanking lets fall (R194). -/
def Axis.kept (x : Axis) : Axis := { x with lvl := false }

/-- `t` differs from `s` in gates, blanking windows, trip levels and the times of events alone. -/
structure State.GatesOnly (s t : State) : Prop where
  rest : t = { s with phases := t.phases, comps := t.comps, axes := t.axes, alarms := t.alarms }
  phase : ∀ a p, (t.phase a p).kept = (s.phase a p).kept
  axis : ∀ a, (t.axis a).kept = (s.axis a).kept

namespace State.GatesOnly

theorem refl (s : State) : s.GatesOnly s := ⟨rfl, fun _ _ => rfl, fun _ => rfl⟩

theorem trans (h : s.GatesOnly t) (k : t.GatesOnly u) : s.GatesOnly u :=
  ⟨by rw [k.rest, h.rest], fun a p => (k.phase a p).trans (h.phase a p), fun a => (k.axis a).trans (h.axis a)⟩

theorem ite {c : Prop} [Decidable c] (h : s.GatesOnly t) (k : s.GatesOnly u) : s.GatesOnly (if c then t else u) := by
  split <;> assumption

theorem setComp {x : Comp} (h : s.GatesOnly t) : s.GatesOnly (t.setComp n x) := h.trans ⟨rfl, fun _ _ => rfl, fun _ => rfl⟩

theorem cancel (h : s.GatesOnly t) : s.GatesOnly (t.cancel e) := h.trans ⟨rfl, fun _ _ => rfl, fun _ => rfl⟩

theorem after (h : s.GatesOnly t) : s.GatesOnly (t.after n e) := h.trans ⟨rfl, fun _ _ => rfl, fun _ => rfl⟩

theorem setPhase {x : Phase} (h : s.GatesOnly t) (hx : x.kept = (t.phase a p).kept := by rfl) : s.GatesOnly (t.setPhase a p x) :=
  h.trans ⟨rfl, State.view_setPhase Phase.kept hx, fun _ => rfl⟩

theorem setAxis {x : Axis} (h : s.GatesOnly t) (hx : x.kept = (t.axis a).kept := by rfl) : s.GatesOnly (t.setAxis a x) :=
  h.trans ⟨rfl, fun _ _ => rfl, State.view_setAxis Axis.kept hx⟩

theorem upto {f : Nat → State → State} (h : s.GatesOnly t) (k : ∀ i u, s.GatesOnly u → s.GatesOnly (f i u)) :
    s.GatesOnly (t.upto n f) := State.upto_invariant (P := fun _ u => s.GatesOnly u) h fun i _ u => k i u

theorem lvlFall (h : s.GatesOnly t) : s.GatesOnly (t.lvlFall a) := .ite h.setAxis h

theorem blankIf (h : s.GatesOnly t) : s.GatesOnly (t.blankIf b n) := .ite (.ite h h.setComp.after) h

theorem gateEdge (h : s.GatesOnly t) : s.GatesOnly (t.gateEdge a) :=
  have one : ∀ (n : Nat) (u : State), s.GatesOnly u → s.GatesOnly (if (u.inForce (F.CMP_CH_CFG_BSRC n)).testBit 2
      then u.setComp n { u.comp n with gateAt := some (u.now + tripLag) } else u) := fun _ _ k => .ite k.setComp k
  .ite (one _ _ (one _ _ (one _ _ h))) (h.blankIf.blankIf.blankIf.upto fun _ _ k => k.lvlFall)

theorem setGate (h : s.GatesOnly t) : s.GatesOnly (t.setGate a p g) := .ite h (.ite h.setPhase.gateEdge h.setPhase)

theorem undrop (h : s.GatesOnly t) : s.GatesOnly (t.undrop a p) := h.setPhase

/-- No register changes, and no byte of memory. -/
theorem regs (h : s.GatesOnly t) : t.regs = s.regs := by rw [h.rest]

theorem held (h : s.GatesOnly t) : t.held = s.held := by rw [h.rest]

theorem quiet (h : s.GatesOnly t) (l : Nat → Bool) : State.Quiet l s t := .of_eq l h.regs (by rw [h.rest]) (by rw [h.rest])

theorem duty (h : s.GatesOnly t) (a p : Nat) : (t.phase a p).duty = (s.phase a p).duty := (congrArg Phase.duty (h.phase a p) :)

theorem uvlo (h : s.GatesOnly t) (a p : Nat) : (t.phase a p).uvlo = (s.phase a p).uvlo := (congrArg Phase.uvlo (h.phase a p) :)

end State.GatesOnly

/-! ### Gate edges -/

@[simp] theorem State.lvlFall_phases (s : State) (a : Nat) : (s.lvlFall a).phases = s.phases := by
  unfold State.lvlFall
  dsimp only
  split <;> rfl

@[simp] theorem State.blankIf_phases (s : State) (b n : Nat) : (s.blankIf b n).phases = s.phases := by
  unfold State.blankIf State.blankStart
  split
  · dsimp only
    split <;> rfl
  · rfl

/-- What starts blanking windows switches nothing. -/
@[simp] theorem State.gateEdge_phases (s : State) (a : Nat) : (s.gateEdge a).phases = s.phases := by
  have one : ∀ (n : Nat) (u : State), (if (u.inForce (F.CMP_CH_CFG_BSRC n)).testBit 2
      then u.setComp n { u.comp n with gateAt := some (u.now + tripLag) } else u).phases = u.phases := by
    intro n u
    split <;> rfl
  unfold State.gateEdge
  split
  · exact (one _ _).trans ((one _ _).trans (one _ _))
  · refine State.upto_invariant (P := fun _ u => u.phases = s.phases) (by simp) fun i _ u hu => ?_
    simpa using hu

@[simp] theorem State.gateEdge_phase (s : State) (a b r : Nat) : (s.gateEdge a).phase b r = s.phase b r := by
  unfold State.phase
  rw [State.gateEdge_phases]

/-! ### Switching -/

/-- Half-bridge `p` of axis `a` is in the gate state that it takes. -/
theorem State.setGate_gate (s : State) (a p : Nat) (g : Gate) : ((s.setGate a p g).phase a p).gate = g := by
  unfold State.setGate
  dsimp only
  split
  · assumption
  · split <;> simp

/-- The other half-bridges stay as they are. -/
theorem State.setGate_phase_ne (s : State) (g : Gate) (h : 3 * b + r ≠ 3 * a + p) :
    (s.setGate a p g).phase b r = s.phase b r := by
  unfold State.setGate
  dsimp only
  split
  · rfl
  · split <;> simp [State.phase_setPhase, h]

/-- The gate state of a side that is on. -/
def onSide (hi : Bool) : Gate := if hi then .high else .low

/-- A switch of sides leaves a half-bridge that is on its way; one with both switches off, or without a dead time, turns the side on
at once; else the side waits for its dead time (R140). -/
theorem State.turn_eq (s : State) (a p : Nat) (hi : Bool) : s.turn a p hi =
    if (s.phase a p).gate = onSide hi ∨ (s.phase a p).gate = .dead hi then s
    else if ((s.phase a p).gate = .allOff ∨ (s.phase a p).gate = .gatesLow) ∨ s.deadSteps (a / 4) = 0 then s.setGate a p (onSide hi)
    else (s.setGate a p (.dead hi)).after ((s.deadSteps (a / 4) + 7) / 8) (deadEvent a p) := by
  unfold State.turn onSide
  dsimp only
  cases (s.phase a p).gate with
  | allOff => cases hi <;> rfl
  | gatesLow => cases hi <;> rfl
  | high => cases hi <;> simp
  | low => cases hi <;> simp
  | dead d => cases hi <;> cases d <;> simp

theorem State.turn_cases (s : State) (a p : Nat) (hi : Bool) :
    (s.turn a p hi = s ∧ ((s.phase a p).gate = onSide hi ∨ (s.phase a p).gate = .dead hi)) ∨
    s.turn a p hi = s.setGate a p (onSide hi) ∨
    s.turn a p hi = (s.setGate a p (.dead hi)).after ((s.deadSteps (a / 4) + 7) / 8) (deadEvent a p) := by
  rw [State.turn_eq]
  split
  next there => exact .inl ⟨rfl, there⟩
  next =>
    split
    · exact .inr (.inl rfl)
    · exact .inr (.inr rfl)

/-- After a switch of sides the side is on, or waits for its dead time (R140). -/
theorem State.turn_gate (s : State) (a p : Nat) (hi : Bool) :
    ((s.turn a p hi).phase a p).gate = onSide hi ∨ ((s.turn a p hi).phase a p).gate = .dead hi := by
  obtain ⟨same, on⟩ | on | waits := s.turn_cases a p hi
  · rwa [same]
  · rw [on]
    exact .inl (s.setGate_gate a p _)
  · rw [waits]
    exact .inr (s.setGate_gate a p _)

namespace State.GatesOnly

theorem turn (h : s.GatesOnly t) : s.GatesOnly (t.turn a p hi) := by
  obtain ⟨same, -⟩ | on | waits := t.turn_cases a p hi
  · rwa [same]
  · rw [on]
    exact h.setGate
  · rw [waits]
    exact h.setGate.after

theorem tripPhase (h : s.GatesOnly t) : s.GatesOnly (t.tripPhase a p) := by
  refine .ite ?_ h.undrop.setGate.cancel
  split
  · exact h.undrop
  · exact h.undrop
  · exact h.undrop.turn
  · exact h.undrop.setGate.cancel

theorem allOff (h : s.GatesOnly t) : s.GatesOnly (t.allOff a) := h.upto fun _ _ k => k.undrop.setGate.cancel

end State.GatesOnly

/-- A register of an axis of PWM. -/
theorem pwm_axis {base : Nat} (ha : a < 24) (h : base / 0x10000 = 0x804 ∧ base % 0x10000 + 0x40 * 24 ≤ 0x10000 := by decide) :
    blocks [0x804] (base + 0x40 * a) = true :=
  blocks_of_div ((div_group ha ⟨by decide, h.2⟩).trans h.1) rfl

/-- A register of another block is none of an interrupt controller. -/
theorem icuReach_of_div {x d : Nat} (h : x / 0x10000 = d) (hd : d ≠ 0x80C ∧ d ≠ 0xC00 := by decide) : icuReach x = false := by
  have range : 0x0C001000 ≤ x → 0x0C002000 ≤ x := by omega
  simpa [icuReach, h, hd.1] using range

/-! ### Window edges -/

theorem State.edgesAct_iff : s.edgesAct a = true ↔ s.powered a = true ∧ (s.axis a).inTrip = false ∧ s.carrierOn (a / 4) = true := by
  simp [State.edgesAct, and_assoc]

/-- An edge in the rising half opens the high-side window of a duty between none and full (R139). -/
theorem windowEdge_rising (ha : s.edgesAct a = true) (hd : s.bit (F.PWM_Q_CNT_DIR (a / 4)) = false) (h0 : 0 < s.edgeDuty a p)
    (hf : s.edgeDuty a p < s.periodSteps (a / 4)) : s.windowEdge a p = s.openHigh a p := by
  simp [State.windowEdge, ha, hd, h0.ne', hf.ne]

/-- An edge in the falling half closes it (R139). -/
theorem windowEdge_falling (ha : s.edgesAct a = true) (hd : s.bit (F.PWM_Q_CNT_DIR (a / 4)) = true) (h0 : 0 < s.edgeDuty a p)
    (hf : s.edgeDuty a p < s.periodSteps (a / 4)) : s.windowEdge a p = s.openLow a p := by
  simp [State.windowEdge, ha, hd, h0.ne', hf.ne]

/-- A window of 120 steps past its dead time has a pulse as long as it is (R141). -/
theorem pulseChoice_fits {x : Bool} {w dt : Nat} (h : 120 ≤ w - dt) : pulseChoice x w dt = some 0 := if_pos (by omega)

/-- A shorter one is dropped unless short pulses are widened (R141). -/
theorem pulseChoice_drops {w dt : Nat} (h : w - dt < 120) : pulseChoice false w dt = none := if_neg (by omega)

theorem openHigh_turns (hx : (s.phase a p).dropLow = false) (hw : 120 ≤ s.edgeDuty a p - s.deadSteps (a / 4)) :
    s.openHigh a p = (s.pulseStart a p 0).turn a p true := by
  simp [State.openHigh, hx, pulseChoice_fits hw]

theorem openHigh_drops (hx : (s.phase a p).dropLow = false) (hm : s.extends (a / 4) = false)
    (hw : s.edgeDuty a p - s.deadSteps (a / 4) < 120) : s.openHigh a p =
    (s.setPhase a p { s.phase a p with dropHigh := true, ext := 0 }).inc (F.PWM_AX_CNT_MPCNT a) := by
  simp [State.openHigh, hx, hm, pulseChoice_drops hw]

@[simp] theorem State.inc_phase (s : State) (f : Fld) (b r : Nat) : (s.inc f).phase b r = s.phase b r := by
  unfold State.inc
  split <;> rfl

/-- A dropped pulse leaves the gate as it is. -/
theorem openHigh_drops_phase (hx : (s.phase a p).dropLow = false) (hm : s.extends (a / 4) = false)
    (hw : s.edgeDuty a p - s.deadSteps (a / 4) < 120) :
    (s.openHigh a p).phase a p = { s.phase a p with dropHigh := true, ext := 0 } := by
  rw [openHigh_drops hx hm hw, State.inc_phase, State.phase_setPhase_self]

theorem openLow_turns (hx : (s.phase a p).dropHigh = false)
    (hw : 120 ≤ s.periodSteps (a / 4) - s.edgeDuty a p - s.deadSteps (a / 4)) :
    s.openLow a p = (s.pulseStart a p 0).turn a p false := by
  simp [State.openLow, hx, pulseChoice_fits hw]

theorem State.GatesOnly.pulseStart (h : s.GatesOnly t) : s.GatesOnly (t.pulseStart a p 0) := h.setPhase

/-- A counter below its end counts on. -/
theorem State.rd_inc {f : Fld} (s : State) (h : f.lo + f.w ≤ 48) (hn : s.rd f + 1 < 2 ^ f.w) : (s.inc f).rd f = s.rd f + 1 := by
  unfold State.inc
  rw [if_pos hn, State.rd_wr_self _ _ _ h, Nat.mod_eq_of_lt hn]

/-! ### The lockout -/

/-- The UVLO flag of phase `p` fits its register. -/
theorem bit_uvlo (s : State) (a : Nat) (hp : p < 3) : (s.on (uvloFld a p)).bit (uvloFld a p) = true :=
  State.bit_on_self s _ (show 6 + p + 1 ≤ 48 by omega) Nat.one_pos

/-- `s` with phase `p` of axis `a` locked out and its high side off (R146). -/
def State.lockedOut (s : State) (a p : Nat) : State :=
  let s1 := s.setPhase a p { s.phase a p with uvlo := true }
  match (s1.phase a p).gate with
  | .high => (s1.undrop a p).turn a p false
  | .dead true => (s1.undrop a p).turn a p false
  | _ => s1

theorem State.lockedOut_cases (ht : t = s.setPhase a p { s.phase a p with uvlo := true }) :
    s.lockedOut a p = (t.undrop a p).turn a p false ∨
    s.lockedOut a p = t ∧ (t.phase a p).gate ≠ .high ∧ (t.phase a p).gate ≠ .dead true := by
  subst ht
  unfold State.lockedOut
  dsimp only
  split
  · exact .inl rfl
  · exact .inl rfl
  next high dead => exact .inr ⟨rfl, high, dead⟩

theorem State.lockedOut_gatesOnly (s : State) (a p : Nat) :
    (s.setPhase a p { s.phase a p with uvlo := true }).GatesOnly (s.lockedOut a p) := by
  obtain turns | ⟨same, -⟩ := State.lockedOut_cases (s := s) (a := a) (p := p) rfl
  · rw [turns]
    exact (State.GatesOnly.refl _).undrop.turn
  · rw [same]
    exact .refl _

theorem State.lockedOut_uvlo (s : State) (a p : Nat) : ((s.lockedOut a p).phase a p).uvlo = true := by
  rw [(s.lockedOut_gatesOnly a p).uvlo, State.phase_setPhase_self]

theorem State.lockedOut_gate (s : State) (a p : Nat) :
    ((s.lockedOut a p).phase a p).gate ≠ .high ∧ ((s.lockedOut a p).phase a p).gate ≠ .dead true := by
  obtain turns | ⟨same, off⟩ := State.lockedOut_cases (s := s) (a := a) (p := p) rfl
  · rw [turns]
    obtain low | dead := State.turn_gate (((s.setPhase a p { s.phase a p with uvlo := true }).undrop a p)) a p false
    · simp [low, onSide]
    · simp [dead]
  · rwa [same]

end Sys2Proof.Machine
end

section
/-! SUPPORT. The commands of the window edges, the dead times and the bootstrap supplies of a half-bridge (R139-R141, R145, R146). -/
namespace Sys2Proof.Machine
set_option Elab.async false

variable {s t : State} {a : Fin 24} {p : Fin 3} {hi : Bool}

/-- A window edge that switches a half-bridge to one side. -/
theorem exec_windowEdge_turns
    (hv : (s.cancel (.pwmWindowEdge a p)).windowEdge a p = ((s.cancel (.pwmWindowEdge a p)).pulseStart a p 0).turn a p hi) :
    ∃ u, exec (.pwmWindowEdge a p) s = .next u ∧ ((u.phase a p).gate = onSide hi ∨ (u.phase a p).gate = .dead hi) ∧
    sameRegs (blocks [0x804]) s u ∧ sameMem s u := by
  have quiet : State.Quiet (blocks [0x804]) s (((s.cancel (.pwmWindowEdge a p)).pulseStart a p 0).turn a p hi) :=
    (State.GatesOnly.refl s).cancel.pulseStart.turn.quiet _
  exact next_of_shown (congrArg ok hv) ⟨State.turn_gate _ _ _ _, quiet.1, quiet.sameMem⟩ fun _ h => h

/-- A window edge whose pulse is dropped. -/
theorem exec_windowEdge_drops (hv : (s.cancel (.pwmWindowEdge a p)).windowEdge a p = (s.cancel (.pwmWindowEdge a p)).openHigh a p)
    (hx : (s.phase a p).dropLow = false) (hm : s.extends (a / 4) = false) (hw : s.edgeDuty a p - s.deadSteps (a / 4) < 120) :
    ∃ u, exec (.pwmWindowEdge a p) s = .next u ∧ (u.phase a p).gate = (s.phase a p).gate ∧ (u.phase a p).dropHigh = true ∧
    sameRegs (blocks [0x804]) s u ∧ sameMem s u := by
  have phase : ((s.cancel (.pwmWindowEdge a p)).openHigh a p).phase a p = { s.phase a p with dropHigh := true, ext := 0 } :=
    openHigh_drops_phase hx hm hw
  have quiet : State.Quiet (blocks [0x804]) s ((s.cancel (.pwmWindowEdge a p)).openHigh a p) := by
    rw [openHigh_drops (s := s.cancel (.pwmWindowEdge a p)) hx hm hw]
    exact ((State.GatesOnly.refl s).cancel.setPhase.quiet _).trans (.inc _ _ (pwm_axis a.isLt))
  exact next_of_shown (congrArg ok hv)
    ⟨(congrArg Phase.gate phase :), (congrArg Phase.dropHigh phase :), quiet.1, quiet.sameMem⟩ fun _ h => h

/-- The end of a dead time (R140). -/
theorem exec_deadTimeEnd (hg : (s.phase a p).gate = .dead hi) : ∃ u, exec (.pwmDeadTimeEnd a p) s = .next u ∧
    (u.phase a p).gate = onSide hi ∧ u.regs = s.regs ∧ sameMem s u := by
  have meaning : exec (.pwmDeadTimeEnd a p) s = ok ((s.cancel (.pwmDeadTimeEnd a p)).setGate a p (onSide hi)) := by
    show execPwmDeadTimeEnd a p s = _
    unfold execPwmDeadTimeEnd
    rw [hg]
    rfl
  have gates : s.GatesOnly ((s.cancel (.pwmDeadTimeEnd a p)).setGate a p (onSide hi)) := (State.GatesOnly.refl s).cancel.setGate
  exact next_of_shown meaning ⟨State.setGate_gate _ _ _ _, gates.regs, (gates.quiet (blocks [])).sameMem⟩ fun _ h => h

/-- A refresh that is due (R145). -/
theorem exec_bootstrapRefresh (hd : s.inForce (F.PWM_Q_CTL_BSMODE (a / 4)) = 1 ∧
      s.inForce (F.PWM_Q_BOOT_BSMAX (a / 4)) ≤ (s.phase a p).bs ∧ (!(s.phase a p).refresh) = true ∧ s.carrierOn (a / 4) = true)
    (hn : s.rd (F.PWM_AX_CNT_BSCNT a) < 65535) : ∃ u, exec (.bootstrapRefresh a p) s = .next u ∧
    (u.phase a p).refresh = true ∧ u.rd (F.PWM_AX_CNT_BSCNT a) = s.rd (F.PWM_AX_CNT_BSCNT a) + 1 ∧
    sameRegs (blocks [0x804]) s u ∧ sameMem s u := by
  generalize hv : (s.cancel (.bootstrapRefresh a p)).setPhase a p { s.phase a p with refresh := true } = v
  have quiet : State.Quiet (blocks [0x804]) s v := by
    subst hv
    exact .of_eq _ rfl rfl rfl
  have counts : v.rd (F.PWM_AX_CNT_BSCNT a) = s.rd (F.PWM_AX_CNT_BSCNT a) := by
    subst hv
    rfl
  have inserted : (v.inc (F.PWM_AX_CNT_BSCNT a)).phase a p = { s.phase a p with refresh := true } := by
    rw [State.inc_phase, ← hv, State.phase_setPhase_self]
  have all := quiet.trans (.inc v (F.PWM_AX_CNT_BSCNT a) (pwm_axis a.isLt))
  refine next_of_shown (if_pos hd) (hv ▸ ⟨(congrArg Phase.refresh inserted :), ?_, all.1, all.sameMem⟩) fun _ h => h
  rw [← counts]
  exact State.rd_inc v (by decide : 24 + 16 ≤ 48) (by rw [counts]; exact Nat.succ_lt_succ hn)

/-- A lockout of a supply that can be that low (R146). -/
theorem exec_bootstrapUvlo (hl : s.lockoutMay a p = true) : ∃ u, exec (.bootstrapUvlo a p) s = .next u ∧
    (u.phase a p).uvlo = true ∧ (u.phase a p).gate ≠ .high ∧ (u.phase a p).gate ≠ .dead true ∧ u.bit (uvloFld a p) = true ∧
    sameRegs (blocksIcu [0x804]) s u ∧ sameMem s u := by
  have meaning : exec (.bootstrapUvlo a p) s = ok (((s.lockedOut a p).on (uvloFld a p)).pwmIrq (a / 4)) :=
    if_neg (by simp [hl])
  have register : (uvloFld a p).addr / 0x10000 = 0x804 := div_group a.isLt
  have phase : ((((s.lockedOut a p).on (uvloFld a p)).pwmIrq (a / 4)).phase a p) = (s.lockedOut a p).phase a p := by
    unfold State.pwmIrq
    rw [State.RegsOnly.irq ((s.lockedOut a p).on (uvloFld a p)) (48 + a / 4)]
    rfl
  have shown : State.Quiet icuReach ((s.lockedOut a p).on (uvloFld a p)) (((s.lockedOut a p).on (uvloFld a p)).pwmIrq (a / 4)) :=
    .irq _ _
  have gates : State.Quiet (blocksIcu [0x804]) s (s.lockedOut a p) :=
    (State.Quiet.of_eq _ rfl rfl rfl).trans ((s.lockedOut_gatesOnly a p).quiet _)
  have quiet := (gates.trans (.wr _ (uvloFld a p) 1 (blocksIcu_of_div register (by decide)))).trans
    (shown.mono fun _ => blocksIcu_of_icu)
  have off := s.lockedOut_gate a p
  rw [← phase] at off
  refine next_of_shown meaning ⟨?_, off.1, off.2, ?_, quiet.1, quiet.sameMem⟩ fun _ h => h
  · exact (congrArg Phase.uvlo phase).trans (s.lockedOut_uvlo a p)
  · exact (shown.1.bit (f := uvloFld a p) (icuReach_of_div register)).trans (bit_uvlo _ a p.isLt)

end Sys2Proof.Machine

open Sys2Proof Sys2Proof.Machine

/-- Settles O15: the edges by `State.turn_gate`, the lockout by `State.lockedOut_gate`. -/
theorem gateEdges : Obligations.GateEdges := by
  intro s a p hi
  refine ⟨fun hp ht hc hd hf hw hx => ?_, fun hp ht hc hd hf h0 hw hm hx => ?_, fun hp ht hc hd h0 hw hx => ?_,
    exec_deadTimeEnd, fun hm hn hr hc => exec_bootstrapRefresh ⟨hm, hn, by rw [hr]; rfl, hc⟩, exec_bootstrapUvlo,
    fun hl => ⟨_, if_pos (by rw [hl]; rfl), rfl⟩⟩
  · have acts : (s.cancel (.pwmWindowEdge a p)).edgesAct a = true := State.edgesAct_iff.mpr ⟨hp, ht, hc⟩
    have window : 0 < s.edgeDuty a p := by omega
    exact exec_windowEdge_turns (hi := true) ((windowEdge_rising acts hd window hf).trans (openHigh_turns hx hw))
  · have acts : (s.cancel (.pwmWindowEdge a p)).edgesAct a = true := State.edgesAct_iff.mpr ⟨hp, ht, hc⟩
    exact exec_windowEdge_drops (windowEdge_rising acts hd h0 hf) hx (by simp [State.extends, hm]) hw
  · have acts : (s.cancel (.pwmWindowEdge a p)).edgesAct a = true := State.edgesAct_iff.mpr ⟨hp, ht, hc⟩
    have window : s.edgeDuty a p < s.periodSteps (a / 4) := by omega
    exact exec_windowEdge_turns (hi := false) ((windowEdge_falling acts hd h0 window).trans (openLow_turns hx hw))
end

section
/-! SUPPORT. Writes of the registers of PWM by software on a core (R134, R138, R142-R144, R148, R153): what the write of a register is,
what waits for the frame tick, and what a refusal, a flag and a change of the outputs leave alone. -/
namespace Sys2Proof.Machine
set_option Elab.async false

variable {s t u : State} {w : Writer} {v : Word} {f g : Fld} {a d i j k n o p q r x base stride : Nat} {b : Bool} {l : List Nat}

/-! ### The write of a register -/

theorem inGroup_some (hi : i < n) (ho : o < stride) : inGroup base stride n (base + stride * i + o) = some (i, o) := by
  have last : stride * i + stride ≤ stride * n := Nat.mul_le_mul_left stride hi
  have offset : base + stride * i + o - base = o + stride * i := by omega
  unfold inGroup
  rw [if_pos (by omega), offset, Nat.add_mul_div_left _ _ (by omega), Nat.add_mul_mod_self_left, Nat.div_eq_of_lt ho,
    Nat.mod_eq_of_lt ho, Nat.zero_add]

theorem inGroup_none (h : x < base ∨ base + stride * n ≤ x) : inGroup base stride n x = none := if_neg (by omega)

/-- A core's write past BOOT at a register of PWM. -/
theorem cmdWrite_pwm (hs : s.operating = true) (hw : isCore w = true) (ha : x % 8 = 0) (hb : x / 0x10000 = 0x804) :
    s.cmdWrite w x v = s.writePwm w x v := by
  obtain ⟨hlive, hboot⟩ := State.operating_iff.mp hs
  have reaches : s.reaches w x = true := by obtain ⟨n, sup, rfl⟩ | rfl := isCore_cases hw <;> rfl
  have may : s.accessMay w x true = true := by obtain ⟨n, sup, rfl⟩ | rfl := isCore_cases hw <;> rfl
  have bootMay : s.bootMay w x = true := by simp [State.bootMay, hboot]
  have write : s.regWrite w x v = s.writePwm w x v := by simp [State.regWrite, hb]
  have past : ¬ x < 0x20000 := by omega
  have outside : region x ≠ .saf := by simp [region, hb, past]
  have other : x ≠ A.SYS_MODEREQ := by
    rintro rfl
    exact absurd hb (by decide)
  unfold State.cmdWrite
  rw [windowAfter_core hw, State.ranked_core hw (by omega)]
  simp [State.busWrite, ha, hlive, reaches, outside, other, may, bootMay, write]

/-- A register of the carrier configuration of quad `q` (R138). -/
theorem cmdWrite_quadCfg (hs : s.operating = true) (hw : isCore w = true) (hq : q < 6) (hr : r < 5) :
    s.cmdWrite w (A.PWM_Q_CTL q + 8 * r) v = s.quadCfgWrite q (A.PWM_Q_CTL q + 8 * r) v := by
  have place : inGroup 0x08040100 64 6 (A.PWM_Q_CTL q + 8 * r) = some (q, 8 * r) := inGroup_some hq (by omega)
  have config : 8 * r < 0x28 := by omega
  rw [cmdWrite_pwm hs hw (by unfold A.PWM_Q_CTL; omega) (by unfold A.PWM_Q_CTL; omega)]
  simp [State.writePwm, place, config]

/-- The place of a register of axis `a`. -/
theorem pwmAxis_place (ha : a < 24) (ho : o < 64) : inGroup 0x08040100 64 6 (0x08040800 + 0x40 * a + o) = none ∧
    inGroup 0x08040800 64 24 (0x08040800 + 0x40 * a + o) = some (a, o) :=
  ⟨inGroup_none (by omega), inGroup_some ha ho⟩

/-- PWM_AXa_CTL. -/
theorem cmdWrite_axCtl (hs : s.operating = true) (hw : isCore w = true) (ha : a < 24) :
    s.cmdWrite w (A.PWM_AX_CTL a) v = s.axCtlWrite a v := by
  have address : A.PWM_AX_CTL a = 0x08040800 + 0x40 * a + 0x18 := by unfold A.PWM_AX_CTL; omega
  obtain ⟨outside, place⟩ := pwmAxis_place ha (o := 0x18) (by decide)
  rw [cmdWrite_pwm hs hw (by omega) (by omega), address]
  simp [State.writePwm, outside, place]

/-- The duty of phase `p`. -/
theorem cmdWrite_duty (hs : s.operating = true) (hw : isCore w = true) (ha : a < 24) (hp : p < 3) :
    s.cmdWrite w (A.PWM_AX_DUTYU a + 8 * p) v = s.dutyWrite a p v := by
  obtain ⟨outside, place⟩ := pwmAxis_place ha (o := 8 * p) (by omega)
  have duty : 8 * p < 0x18 := by omega
  rw [cmdWrite_pwm hs hw (by unfold A.PWM_AX_DUTYU; omega) (by unfold A.PWM_AX_DUTYU; omega)]
  unfold A.PWM_AX_DUTYU
  simp [State.writePwm, outside, place, duty]

theorem fieldsAt_axCtl : ∀ a : Fin 24, fieldsAt (A.PWM_AX_CTL a) = fieldsAt (A.PWM_AX_CTL 0) := by decide

/-- A writer of single fields of PWM_AXa_CTL writes the others back as they are: all of them are read-write. -/
theorem keepWord_axCtl (s : State) (a : Fin 24) (e : Nat × Nat × Nat) :
    s.keepWord (A.PWM_AX_CTL a) [e] = setBits (s.reg (A.PWM_AX_CTL a)) e.1 e.2.1 e.2.2 := by
  unfold State.keepWord
  rw [fieldsAt_axCtl]
  rfl

/-- A flag is a bit of its register. -/
theorem State.bit_eq_getLsbD (s : State) (a k : Nat) : s.bit ⟨a, k, 1⟩ = (s.reg a).getLsbD k := by
  have low : (getBits (s.reg a) k 1).testBit 0 = (s.reg a).getLsbD k := by
    rw [getBits_testBit]
    simp
  have lt := getBits_lt (s.reg a) k 1
  rw [← low]
  unfold State.bit State.rd
  obtain h | h : getBits (s.reg a) k 1 = 0 ∨ getBits (s.reg a) k 1 = 1 := by omega
  · simp [h]
  · simp [h]

/-! ### Registers alone -/

/-- A change of one register, and of interrupt controllers. -/
def oneReach (r x : Nat) : Bool := x == r || icuReach x

theorem oneReach_self (r : Nat) : oneReach r r = true := by simp [oneReach]

theorem oneReach_of_icu {r x : Nat} (h : icuReach x = true) : oneReach r x = true := by simp [oneReach, h]

/-- It leaves every other register outside the controllers. -/
theorem oneReach_ne (h : x ≠ r) (hi : icuReach x = false) : oneReach r x = false := by simp [oneReach, h, hi]

theorem blocksIcu_of_oneReach (hr : r / 0x10000 = d) (h : oneReach r x = true) (hd : l.contains d = true := by decide) :
    blocksIcu l x = true := by
  simp only [oneReach, Bool.or_eq_true, beq_iff_eq] at h
  obtain rfl | h := h
  · exact blocksIcu_of_div hr hd
  · exact blocksIcu_of_icu h

/-- A register of an axis or a quad of PWM is none of an interrupt controller. -/
theorem pwm_icu (h : x / 0x10000 = 0x804) : icuReach x = false := icuReach_of_div h

/-! ### What waits for the frame tick -/

theorem State.inForce_eq (s : State) (f : Fld) : s.inForce f = getBits (s.regInForce f.addr) f.lo f.w := by
  unfold State.inForce State.regInForce
  split <;> rfl

theorem State.reg_setHeld_self (s : State) (a : Nat) (v : Word) : (s.setHeld a v).reg a = v := by
  unfold State.setHeld
  split
  next same => exact same.symm
  next => exact State.reg_setReg_self _ _ _

/-- The value in force stays (R138, R144). -/
theorem State.regInForce_setHeld (s : State) (a : Nat) (v : Word) : (s.setHeld a v).regInForce a = s.regInForce a := by
  unfold State.setHeld
  split
  · rfl
  · cases hf : Tab.find s.held a <;> simp [State.regInForce, State.hold, hf]

theorem State.Quiet.setHeld {p : Nat → Bool} (s : State) (v : Word) (h : p a = true) : State.Quiet p s (s.setHeld a v) :=
  .ite (.refl p s) ((State.Quiet.of_eq p rfl rfl rfl).trans (.setReg _ a v h))

/-! ### Refusals and flags -/

theorem State.Quiet.pwmRefuse (s : State) (q : Nat) : State.Quiet (oneReach (A.PWM_Q_STATUS q)) s (s.pwmRefuse q) :=
  .ite (.refl _ s) ((State.Quiet.wr s (F.PWM_Q_STATUS_WR_REFUSED q) 1 (oneReach_self _)).trans
    ((State.Quiet.irq _ _).mono fun _ => oneReach_of_icu))

theorem State.Quiet.pwmFlag (s : State) (a : Nat) (f : Fld) : State.Quiet (oneReach f.addr) s (s.pwmFlag a f) :=
  .ite (.refl _ s) ((State.Quiet.wr s f 1 (oneReach_self _)).trans ((State.Quiet.irq _ _).mono fun _ => oneReach_of_icu))

/-- A flag that has risen is set. -/
theorem State.bit_pwmFlag (s : State) (a : Nat) (hf : f.lo + f.w ≤ 48 ∧ 0 < f.w) (hi : icuReach f.addr = false) :
    (s.pwmFlag a f).bit f = true := by
  unfold State.pwmFlag
  split
  · assumption
  · exact (State.bit_irq _ _ hi).trans (State.bit_on_self s f hf.1 hf.2)

/-- A refused write sets WR_REFUSED. -/
theorem State.bit_pwmRefuse (s : State) (hq : q < 6) : (s.pwmRefuse q).bit (F.PWM_Q_STATUS_WR_REFUSED q) = true := by
  unfold State.pwmRefuse
  dsimp only
  split
  · assumption
  · exact (State.bit_irq _ _ (pwm_icu (div_group hq))).trans (State.bit_on_self s _ (by decide : 2 + 1 ≤ 48) Nat.one_pos)

/-! ### The outputs of an axis -/

/-- TRIPHOLD follows (R239). -/
theorem State.holdLook_regsIn (s : State) (a : Nat) : s.RegsIn (oneReach (A.LE_AX_FLAG a)) (s.holdLook a) :=
  have refl := State.RegsIn.refl (oneReach (A.LE_AX_FLAG a)) s
  have flag : oneReach (A.LE_AX_FLAG a) (A.LE_AX_FLAG a) = true := oneReach_self _
  .ite (.ite (.ite refl (.ite ((refl.on flag).irq fun _ => oneReach_of_icu) (refl.on flag))) (refl.off0 flag)) refl

theorem State.GatesOnly.drive (s : State) (a : Nat) : (s.holdLook a).GatesOnly (s.drive a) :=
  have held := State.GatesOnly.refl (s.holdLook a)
  .ite held.allOff (.ite (held.upto fun _ _ k => k.tripPhase) (held.upto fun _ _ k => .ite k k.undrop.turn))

/-- A change of the outputs of axis `a` shows in its TRIPHOLD alone. -/
theorem State.Quiet.drive (s : State) (a : Nat) : State.Quiet (oneReach (A.LE_AX_FLAG a)) s (s.drive a) :=
  (s.holdLook_regsIn a).quiet.trans ((State.GatesOnly.drive s a).quiet _)

theorem State.undrop_phase_ne (s : State) (h : 3 * j + r ≠ 3 * a + p) : (s.undrop a p).phase j r = s.phase j r := by
  unfold State.undrop
  rw [State.phase_setPhase, if_neg h]

/-- With both switches of every phase off (R133). -/
theorem State.allOff_gate (s : State) (a : Nat) (hj : j < 3) : ((s.allOff a).phase a j).gate = .allOff := by
  refine State.upto_invariant (n := 3) (P := fun i t => ∀ j < i, (t.phase a j).gate = .allOff)
    (fun j hj => absurd hj j.not_lt_zero) (fun i _ t ht j hj => ?_) j hj
  show (((t.undrop a i).setGate a i .allOff).phase a j).gate = .allOff
  obtain rfl | before : j = i ∨ j < i := by omega
  · exact State.setGate_gate _ _ _ _
  · rw [State.setGate_phase_ne _ _ (by omega), State.undrop_phase_ne _ (by omega)]
    exact ht j before

/-- An axis whose output enable is not in effect goes off at once (R134). -/
theorem State.drive_disabled (h : (s.axis a).oenEff = false) : s.drive a = (s.holdLook a).allOff a := by
  have same : (s.holdLook a).axis a = s.axis a := by
    rw [(s.holdLook_regsIn a).only]
    rfl
  have unpowered : (s.holdLook a).powered a = false := by simp [State.powered, same, h]
  exact if_pos (by rw [unpowered]; rfl)

/-! ### PWM_AXa_CTL -/

/-- The three trip-state codes of axis `a` as one field. -/
def tripstFld (a : Nat) : Fld := ⟨A.PWM_AX_CTL a, 2, 6⟩

theorem oenWrite_same (h : s.bit (F.PWM_AX_CTL_OEN a) = b) : s.oenWrite a b = s := if_pos h

theorem dsrcWrite_same (h : s.bit (F.PWM_AX_CTL_DSRC a) = b) : s.dsrcWrite a b = s := if_pos h

theorem tripstWrite_same (h : s.rd (tripstFld a) = n) : s.tripstWrite a n = s := if_pos h

/-- `s` with OEN of axis `a` written (R134). -/
def State.oenTaken (s : State) (a : Nat) (b : Bool) : State :=
  let t := s.wrb (F.PWM_AX_CTL_OEN a) b
  if b then t else (t.setAxis a { t.axis a with oenEff := false }).drive a

theorem oenWrite_taken (hm : s.mode = .standby ∨ s.mode = .armed ∨ s.mode = .run) (hb : s.bit (F.PWM_AX_CTL_OEN a) ≠ b) :
    s.oenWrite a b = s.oenTaken a b := by
  have may : (s.modeIn [.standby, .armed, .run] || (s.mode == .safeStop && !b)) = true := by
    obtain h | h | h := hm <;> simp [State.modeIn, h]
  exact (if_neg hb).trans (if_pos may)

theorem oenWrite_refused (hm : s.mode = .safeStop) (hb : s.bit (F.PWM_AX_CTL_OEN a) = false) :
    s.oenWrite a true = s.pwmRefuse (a / 4) := by
  simp [State.oenWrite, State.modeIn, hm, hb]

/-- Once OEN is written, the outputs change. -/
theorem State.Quiet.oenTaken (s : State) (a : Nat) (b : Bool) :
    State.Quiet (oneReach (A.LE_AX_FLAG a)) (s.wrb (F.PWM_AX_CTL_OEN a) b) (s.oenTaken a b) := by
  unfold State.oenTaken
  dsimp only
  split
  · exact .refl _ _
  · exact (State.Quiet.setAxis _ _ a _).trans (.drive _ a)

theorem State.oenTaken_off (s : State) (a : Nat) (hj : j < 3) : ((s.oenTaken a false).phase a j).gate = .allOff := by
  unfold State.oenTaken
  dsimp only
  rw [if_neg Bool.false_ne_true, State.drive_disabled (by simp)]
  exact State.allOff_gate _ a hj

/-- A change of TRIPHOLD leaves the registers of PWM. -/
theorem flag_ne_pwm (ha : a < 24) (hx : x / 0x10000 = 0x804) : oneReach (A.LE_AX_FLAG a) x = false := by
  have flag : A.LE_AX_FLAG a / 0x10000 = 0x807 := div_group ha
  refine oneReach_ne ?_ (pwm_icu hx)
  rintro rfl
  omega

theorem axCtl_block (ha : a < 24) : A.PWM_AX_CTL a / 0x10000 = 0x804 := div_group ha

theorem axStatus_block (ha : a < 24) : A.PWM_AX_STATUS a / 0x10000 = 0x804 := div_group ha

/-- A field of PWM_AXa_CTL beside OEN stays when OEN is written. -/
theorem State.rd_oenTaken (s : State) (ha : a < 24) (b : Bool) (hg : g.addr = A.PWM_AX_CTL a) (hlo : 1 ≤ g.lo) (hw : g.lo + g.w ≤ 48) :
    (s.oenTaken a b).rd g = s.rd g :=
  ((State.Quiet.oenTaken s a b).1.rd (flag_ne_pwm ha (by rw [hg]; exact axCtl_block ha))).trans
    (State.rd_wr_ne s (F.PWM_AX_CTL_OEN a) g _ hw (.inr (.inr hlo)))

theorem dsrcWrite_taken (hm : s.mode = .standby ∨ s.mode = .armed) (hb : s.bit (F.PWM_AX_CTL_DSRC a) ≠ b) :
    s.dsrcWrite a b = s.setHeld (A.PWM_AX_CTL a) (setBits (s.reg (A.PWM_AX_CTL a)) 1 1 (if b then 1 else 0)) := by
  have may : s.modeIn [.standby, .armed] = true := by
    obtain h | h := hm <;> simp [State.modeIn, h]
  exact (if_neg hb).trans (if_pos may)

/-! ### The trip states -/

/-- LS_ERR shows a mixed LS_SHORT (R148). -/
def State.lsShown (s : State) (a : Nat) : State :=
  if s.lsMixed a then s.pwmFlag a (F.PWM_AX_STATUS_LS_ERR a) else s.off0 (F.PWM_AX_STATUS_LS_ERR a)

theorem State.Quiet.lsShown (s : State) (a : Nat) : State.Quiet (oneReach (A.PWM_AX_STATUS a)) s (s.lsShown a) :=
  .ite (.pwmFlag s a (F.PWM_AX_STATUS_LS_ERR a)) (.wr s (F.PWM_AX_STATUS_LS_ERR a) 0 (oneReach_self _))

theorem State.bit_lsShown (s : State) (ha : a < 24) : (s.lsShown a).bit (F.PWM_AX_STATUS_LS_ERR a) = s.lsMixed a := by
  unfold State.lsShown
  split
  next mixed => rw [mixed]; exact State.bit_pwmFlag s a ⟨show 9 + 1 ≤ 48 by decide, Nat.one_pos⟩ (pwm_icu (axStatus_block ha))
  next plain => rw [Bool.eq_false_iff.mpr plain]; exact State.bit_off0_self s _ (by decide : 9 + 1 ≤ 48)

/-- Whether LS_SHORT is mixed rests on the trip states alone. -/
theorem State.lsMixed_congr (h : t.reg (A.PWM_AX_CTL a) = s.reg (A.PWM_AX_CTL a)) : t.lsMixed a = s.lsMixed a := by
  have field : ∀ lo w, t.rd ⟨A.PWM_AX_CTL a, lo, w⟩ = s.rd ⟨A.PWM_AX_CTL a, lo, w⟩ := fun lo w => congrArg (getBits · lo w) h
  have code : ∀ p, t.tripCode a p = s.tripCode a p := fun p => by
    unfold State.tripCode F.PWM_AX_CTL_TRIPSTU F.PWM_AX_CTL_TRIPSTV F.PWM_AX_CTL_TRIPSTW
    rw [field, field, field]
  unfold State.lsMixed
  simp only [code]

/-- `s` with the trip states of axis `a` written, LS_ERR following (R148). -/
def State.tripstTaken (s : State) (a n : Nat) : State :=
  let t := (s.wr (tripstFld a) n).lsShown a
  if (t.axis a).inTrip then t.drive a else t

/-- Three codes, none of them reserved, are taken as they are. -/
theorem tripstWrite_taken (hm : s.mode = .standby ∨ s.mode = .armed) (hn : n < 64) (hc : ∀ j < 3, n / 4 ^ j % 4 ≠ 3)
    (hne : s.rd (tripstFld a) ≠ n) : s.tripstWrite a n = s.tripstTaken a n := by
  have may : s.modeIn [.standby, .armed] = true := by
    obtain h | h := hm <;> simp [State.modeIn, h]
  have u := hc 0 (by decide)
  have v := hc 1 (by decide)
  have w := hc 2 (by decide)
  have whole : n / 4 ^ 0 % 4 + 4 * (n / 4 ^ 1 % 4) + 16 * (n / 4 ^ 2 % 4) = n := by omega
  have good : ((List.range 3).any fun p => n / 4 ^ p % 4 == 3) = false := by
    simp only [List.any_eq_false, List.mem_range, beq_iff_eq]
    exact hc
  refine (if_neg hne).trans ((if_pos may).trans ?_)
  extract_lets one bad written flagged shown
  have first : written = s.wr (tripstFld a) n := by
    show s.wr (tripstFld a) (one 0 + 4 * one 1 + 16 * one 2) = _
    rw [show one 0 = n / 4 ^ 0 % 4 from if_neg u, show one 1 = n / 4 ^ 1 % 4 from if_neg v, show one 2 = n / 4 ^ 2 % 4 from if_neg w,
      whole]
  have second : flagged = s.wr (tripstFld a) n := (if_neg (by simp [bad, good])).trans first
  have third : shown = (s.wr (tripstFld a) n).lsShown a := congrArg (State.lsShown · a) second
  rw [third]
  rfl

theorem State.Quiet.tripstTaken (s : State) (a n : Nat) :
    State.Quiet (oneReach (A.LE_AX_FLAG a)) ((s.wr (tripstFld a) n).lsShown a) (s.tripstTaken a n) :=
  .ite (.drive _ a) (.refl _ _)

theorem State.tripstTaken_reg (s : State) (ha : a < 24) (n : Nat) :
    (s.tripstTaken a n).reg (A.PWM_AX_CTL a) = (s.wr (tripstFld a) n).reg (A.PWM_AX_CTL a) := by
  have apart : A.PWM_AX_CTL a ≠ A.PWM_AX_STATUS a := by unfold A.PWM_AX_CTL A.PWM_AX_STATUS; omega
  exact ((State.Quiet.tripstTaken s a n).1 _ (flag_ne_pwm ha (axCtl_block ha))).trans
    ((State.Quiet.lsShown _ a).1 _ (oneReach_ne apart (pwm_icu (axCtl_block ha))))

/-- LS_ERR shows whether the new trip states are mixed. -/
theorem State.tripstTaken_lsErr (s : State) (ha : a < 24) (n : Nat) :
    (s.tripstTaken a n).bit (F.PWM_AX_STATUS_LS_ERR a) = (s.tripstTaken a n).lsMixed a := by
  rw [State.lsMixed_congr (State.tripstTaken_reg s ha n), ← State.bit_lsShown _ ha]
  exact (State.Quiet.tripstTaken s a n).1.bit (flag_ne_pwm ha (axStatus_block ha))

/-! ### The duties -/

theorem axDuty_block (ha : a < 24) (hp : p < 3) : (A.PWM_AX_DUTYU a + 8 * p) / 0x10000 = 0x804 := by
  unfold A.PWM_AX_DUTYU
  omega

/-- The staged duty of phase `p`, a field of its own register. -/
def dutyFld (a p : Nat) : Fld := ⟨A.PWM_AX_DUTYU a + 8 * p, 0, 20⟩

theorem dutyFld_v (a : Nat) : F.PWM_AX_DUTYV_D a = dutyFld a 1 := by
  unfold F.PWM_AX_DUTYV_D dutyFld A.PWM_AX_DUTYV A.PWM_AX_DUTYU
  congr 1
  omega

theorem dutyFld_w (a : Nat) : F.PWM_AX_DUTYW_D a = dutyFld a 2 := by
  unfold F.PWM_AX_DUTYW_D dutyFld A.PWM_AX_DUTYW A.PWM_AX_DUTYU
  congr 1
  omega

theorem State.staged_eq (s : State) (a : Nat) (hp : p < 3) : s.staged a p = s.rd (dutyFld a p) := by
  obtain rfl | rfl | rfl : p = 0 ∨ p = 1 ∨ p = 2 := by omega
  · rfl
  · exact congrArg s.rd (dutyFld_v a)
  · exact congrArg s.rd (dutyFld_w a)

/-- `s` with the instant of a write of a staged duty noted (R143). -/
def State.stageNoted (s : State) (a p : Nat) : State :=
  if s.sameAs (s.phase a p).stgAt then s
  else s.setPhase a p { s.phase a p with stgOld := s.staged a p, stgAt := some s.instant }

/-- `s` with a staged duty written. -/
def State.dutyTaken (s : State) (a p d : Nat) : State := (s.stageNoted a p).wr (dutyFld a p) d

theorem axDuty_ne_status (hp : p < 3) : A.PWM_AX_DUTYU a + 8 * p ≠ A.PWM_AX_STATUS a := by
  unfold A.PWM_AX_DUTYU A.PWM_AX_STATUS
  omega

theorem State.stageNoted_regs (s : State) (a p : Nat) :
    (s.stageNoted a p).regs = s.regs ∧ (s.stageNoted a p).mem = s.mem ∧ (s.stageNoted a p).torn = s.torn := by
  unfold State.stageNoted
  split <;> exact ⟨rfl, rfl, rfl⟩

theorem State.Quiet.dutyTaken (s : State) (a p d : Nat) :
    State.Quiet (oneReach (A.PWM_AX_DUTYU a + 8 * p)) s (s.dutyTaken a p d) := by
  obtain ⟨regs, mem, torn⟩ := s.stageNoted_regs a p
  exact (State.Quiet.of_eq _ regs mem torn).trans (.wr _ (dutyFld a p) d (oneReach_self _))

theorem State.dutyTaken_staged (s : State) (a : Nat) (hp : p < 3) (hd : d < 2 ^ 20) : (s.dutyTaken a p d).staged a p = d := by
  rw [State.staged_eq _ _ hp]
  exact (State.rd_wr_self _ (dutyFld a p) d (by decide : 0 + 20 ≤ 48)).trans (Nat.mod_eq_of_lt hd)

/-- The U and V duties are staged. -/
theorem dutyStage_uv (hp : p < 2) : s.dutyStage a p d = s.dutyTaken a p d := by
  obtain rfl | rfl : p = 0 ∨ p = 1 := by omega
  · rfl
  · unfold State.dutyTaken
    rw [← dutyFld_v]
    rfl

/-- The W duty is staged, and the axis armed (R143). -/
theorem dutyStage_w (s : State) (a d : Nat) :
    State.Quiet (oneReach (A.PWM_AX_STATUS a)) (s.dutyTaken a 2 d) (s.dutyStage a 2 d) ∧
    (s.dutyStage a 2 d).bit (F.PWM_AX_STATUS_ARM a) = true := by
  unfold State.dutyTaken
  rw [← dutyFld_w]
  constructor
  · exact (State.Quiet.ite (.pwmFlag _ a (F.PWM_AX_STATUS_OVWR a)) (.refl _ _)).trans
      ((State.Quiet.wr _ (F.PWM_AX_STATUS_ARM a) 1 (oneReach_self _)).trans (.of_eq _ rfl rfl rfl))
  · exact State.bit_on_self _ (F.PWM_AX_STATUS_ARM a) (by decide : 0 + 1 ≤ 48) Nat.one_pos

/-- A duty that software stages (R142, R143). -/
theorem dutyStage_stages (s : State) (ha : a < 24) (hp : p < 3) (hd : d < 2 ^ 20) :
    (s.dutyStage a p d).staged a p = d ∧ (p = 2 → (s.dutyStage a p d).bit (F.PWM_AX_STATUS_ARM a) = true) ∧
    State.Quiet (blocksIcu [0x804]) s (s.dutyStage a p d) := by
  have taken := (State.Quiet.dutyTaken s a p d).mono fun _ => blocksIcu_of_oneReach (l := [0x804]) (axDuty_block ha hp)
  obtain uv | rfl : p < 2 ∨ p = 2 := by omega
  · rw [dutyStage_uv uv]
    exact ⟨State.dutyTaken_staged s a hp hd, fun w => by omega, taken⟩
  · obtain ⟨quiet, armed⟩ := dutyStage_w s a d
    refine ⟨?_, fun _ => armed, taken.trans (quiet.mono fun _ => blocksIcu_of_oneReach (axStatus_block ha))⟩
    rw [State.staged_eq _ _ hp, quiet.1.rd (oneReach_ne (axDuty_ne_status hp) (pwm_icu (axDuty_block ha hp))), ← State.staged_eq _ _ hp]
    exact State.dutyTaken_staged s a hp hd

theorem dutyWrite_taken (hs : s.operating = true) (hm : s.mode ≠ .shutdown) (hk : s.mode ≠ .safeStop)
    (hd : s.inForce (F.PWM_AX_CTL_DSRC a) ≠ 0) : s.dutyWrite a p v = s.dutyStage a p (getBits v 0 20) := by
  have boot := (State.operating_iff.mp hs).2
  simp [State.dutyWrite, State.modeIn, boot, hm, hk, hd]

/-- A duty that software does not own (R144, R153). -/
theorem dutyWrite_owned (hs : s.operating = true) (hm : s.mode ≠ .shutdown)
    (ho : s.mode = .safeStop ∨ s.inForce (F.PWM_AX_CTL_DSRC a) = 0) : s.dutyWrite a p v =
    if getBits v 0 20 = s.staged a p then s else s.pwmFlag a (F.PWM_AX_STATUS_WR_OWNED a) := by
  have boot := (State.operating_iff.mp hs).2
  simp [State.dutyWrite, State.modeIn, boot, hm, ho]

/-- A flag of PWM_AXa_STATUS leaves the staged duties. -/
theorem State.staged_pwmFlag (s : State) (ha : a < 24) (hp : p < 3) (hf : f.addr = A.PWM_AX_STATUS a) :
    (s.pwmFlag a f).staged a p = s.staged a p := by
  rw [State.staged_eq _ _ hp, State.staged_eq _ _ hp]
  refine (State.Quiet.pwmFlag s a f).1.rd (oneReach_ne ?_ (pwm_icu (axDuty_block ha hp)))
  rw [hf]
  exact axDuty_ne_status hp

end Sys2Proof.Machine
end

section
/-! SUPPORT. The commands that write PWM_AXa_CTL, a duty or a register of the carrier configuration (R134, R138, R142-R144, R148). -/
namespace Sys2Proof.Machine
set_option Elab.async false

variable {s t : State} {w : Writer} {v : Word} {a : Fin 24} {b : Bool} {p : Fin 3} {codes : BitVec 6} {lo n k : Nat}

/-- A write of one field of PWM_AXa_CTL, the others as they are. -/
theorem cmdWrite_keepWord (hs : s.operating = true) (hw : isCore w = true) (a : Fin 24) (e : Nat × Nat × Nat) :
    s.cmdWrite w (A.PWM_AX_CTL a) (s.keepWord (A.PWM_AX_CTL a) [e]) =
    s.axCtlWrite a (setBits (s.reg (A.PWM_AX_CTL a)) e.1 e.2.1 e.2.2) := by
  rw [cmdWrite_axCtl hs hw a.isLt, keepWord_axCtl]

theorem getLsbD_setBits_ne (x : Word) (h : k < 48) (hk : k < lo ∨ lo + n ≤ k) (d : Nat) :
    (setBits x lo n d).getLsbD k = x.getLsbD k := by
  rw [setBits_getLsbD _ _ _ _ _ h, if_neg (by omega)]

/-- OEN alone is written. -/
theorem exec_pwmOenWrite (hs : s.operating = true) (hw : isCore w = true)
    (hd : (s.oenWrite a b).bit (F.PWM_AX_CTL_DSRC a) = s.bit (F.PWM_AX_CTL_DSRC a))
    (ht : (s.oenWrite a b).rd (tripstFld a) = s.rd (tripstFld a)) : exec (.pwmOenWrite w a b) s = ok (s.oenWrite a b) := by
  have oen : (setBits (s.reg (A.PWM_AX_CTL a)) 0 1 (if b then 1 else 0)).getLsbD 0 = b := by
    rw [setBits_getLsbD _ _ _ _ _ (by decide)]
    cases b <;> rfl
  have dsrc : (setBits (s.reg (A.PWM_AX_CTL a)) 0 1 (if b then 1 else 0)).getLsbD 1 = s.bit (F.PWM_AX_CTL_DSRC a) :=
    (getLsbD_setBits_ne _ (by decide) (by decide) _).trans (s.bit_eq_getLsbD _ 1).symm
  have codes : getBits (setBits (s.reg (A.PWM_AX_CTL a)) 0 1 (if b then 1 else 0)) 2 6 = s.rd (tripstFld a) :=
    getBits_setBits_ne _ _ _ _ _ _ (by decide) (by decide)
  refine congrArg ok ((cmdWrite_keepWord hs hw a (0, 1, if b then 1 else 0)).trans ?_)
  unfold State.axCtlWrite
  rw [oen, dsrc, codes, dsrcWrite_same hd, tripstWrite_same ht]

/-- DSRC alone is written. -/
theorem exec_pwmDsrcWrite (hs : s.operating = true) (hw : isCore w = true)
    (ht : (s.dsrcWrite a b).rd (tripstFld a) = s.rd (tripstFld a)) : exec (.pwmDsrcWrite w a b) s = ok (s.dsrcWrite a b) := by
  have oen : (setBits (s.reg (A.PWM_AX_CTL a)) 1 1 (if b then 1 else 0)).getLsbD 0 = s.bit (F.PWM_AX_CTL_OEN a) :=
    (getLsbD_setBits_ne _ (by decide) (by decide) _).trans (s.bit_eq_getLsbD _ 0).symm
  have dsrc : (setBits (s.reg (A.PWM_AX_CTL a)) 1 1 (if b then 1 else 0)).getLsbD 1 = b := by
    rw [setBits_getLsbD _ _ _ _ _ (by decide)]
    cases b <;> rfl
  have codes : getBits (setBits (s.reg (A.PWM_AX_CTL a)) 1 1 (if b then 1 else 0)) 2 6 = s.rd (tripstFld a) :=
    getBits_setBits_ne _ _ _ _ _ _ (by decide) (by decide)
  refine congrArg ok ((cmdWrite_keepWord hs hw a (1, 1, if b then 1 else 0)).trans ?_)
  unfold State.axCtlWrite
  rw [oen, dsrc, codes, oenWrite_same rfl, tripstWrite_same ht]

/-- The trip states alone are written. -/
theorem exec_pwmTripstWrite (hs : s.operating = true) (hw : isCore w = true) :
    exec (.pwmTripstWrite w a codes) s = ok (s.tripstWrite a codes.toNat) := by
  have oen : (setBits (s.reg (A.PWM_AX_CTL a)) 2 6 codes.toNat).getLsbD 0 = s.bit (F.PWM_AX_CTL_OEN a) :=
    (getLsbD_setBits_ne _ (by decide) (by decide) _).trans (s.bit_eq_getLsbD _ 0).symm
  have dsrc : (setBits (s.reg (A.PWM_AX_CTL a)) 2 6 codes.toNat).getLsbD 1 = s.bit (F.PWM_AX_CTL_DSRC a) :=
    (getLsbD_setBits_ne _ (by decide) (by decide) _).trans (s.bit_eq_getLsbD _ 1).symm
  have taken : getBits (setBits (s.reg (A.PWM_AX_CTL a)) 2 6 codes.toNat) 2 6 = codes.toNat :=
    (getBits_setBits _ _ _ _ (by decide)).trans (Nat.mod_eq_of_lt codes.isLt)
  refine congrArg ok ((cmdWrite_keepWord hs hw a (2, 6, codes.toNat)).trans ?_)
  unfold State.axCtlWrite
  rw [oen, dsrc, taken, oenWrite_same rfl, dsrcWrite_same rfl]

theorem exec_pwmDutyWrite (hs : s.operating = true) (hw : isCore w = true) :
    exec (.pwmDutyWrite w a p v) s = ok (s.dutyWrite a p v) := congrArg ok (cmdWrite_duty hs hw a.isLt p.isLt)

/-- OEN where it is taken: it shows, the outputs that it disables are off, and the other fields of the register stay. -/
theorem oenWrite_shows (s : State) (a : Fin 24) (hm : s.mode = .standby ∨ s.mode = .armed ∨ s.mode = .run) (b : Bool) :
    (s.oenWrite a b).bit (F.PWM_AX_CTL_OEN a) = b ∧
    (b = false → s.bit (F.PWM_AX_CTL_OEN a) = true → ∀ j : Fin 3, ((s.oenWrite a b).phase a j).gate = .allOff) ∧
    State.Quiet (blocksIcu [0x804, 0x807]) s (s.oenWrite a b) ∧
    (s.oenWrite a b).bit (F.PWM_AX_CTL_DSRC a) = s.bit (F.PWM_AX_CTL_DSRC a) ∧
    (s.oenWrite a b).rd (tripstFld a) = s.rd (tripstFld a) := by
  by_cases hb : s.bit (F.PWM_AX_CTL_OEN a) = b
  · rw [oenWrite_same hb]
    exact ⟨hb, fun off on => absurd (on.symm.trans (hb.trans off)) (by decide), .refl _ s, rfl, rfl⟩
  · have ctl := axCtl_block a.isLt
    have shown : (s.oenTaken a b).bit (F.PWM_AX_CTL_OEN a) = b :=
      ((State.Quiet.oenTaken s a b).1.bit (flag_ne_pwm a.isLt ctl)).trans
        (State.bit_wrb_self s _ b (by decide : 0 + 1 ≤ 48) Nat.one_pos)
    have written : State.Quiet (blocksIcu [0x804, 0x807]) s (s.wrb (F.PWM_AX_CTL_OEN a) b) :=
      .wr s (F.PWM_AX_CTL_OEN a) _ (blocksIcu_of_div ctl (by decide))
    have followed := (State.Quiet.oenTaken s a b).mono fun _ => blocksIcu_of_oneReach (l := [0x804, 0x807]) (d := 0x807) (div_group a.isLt)
    have dsrc := State.rd_oenTaken s a.isLt b (g := F.PWM_AX_CTL_DSRC a) rfl (by decide : 1 ≤ 1) (by decide : 1 + 1 ≤ 48)
    have codes := State.rd_oenTaken s a.isLt b (g := tripstFld a) rfl (by decide : 1 ≤ 2) (by decide : 2 + 6 ≤ 48)
    rw [oenWrite_taken hm hb]
    refine ⟨shown, ?_, written.trans followed, congrArg (· != 0) dsrc, codes⟩
    rintro rfl - j
    exact State.oenTaken_off s a j.isLt

/-- DSRC where it is taken: it shows, and the value in force stays (R144). -/
theorem dsrcWrite_shows (s : State) (a : Fin 24) (hm : s.mode = .standby ∨ s.mode = .armed) (b : Bool) :
    (s.dsrcWrite a b).bit (F.PWM_AX_CTL_DSRC a) = b ∧
    (s.dsrcWrite a b).inForce (F.PWM_AX_CTL_DSRC a) = s.inForce (F.PWM_AX_CTL_DSRC a) ∧
    State.Quiet (blocksIcu [0x804, 0x807]) s (s.dsrcWrite a b) ∧ (s.dsrcWrite a b).rd (tripstFld a) = s.rd (tripstFld a) := by
  by_cases hb : s.bit (F.PWM_AX_CTL_DSRC a) = b
  · rw [dsrcWrite_same hb]
    exact ⟨hb, rfl, .refl _ s, rfl⟩
  · rw [dsrcWrite_taken hm hb]
    generalize hx : setBits (s.reg (A.PWM_AX_CTL a)) 1 1 (if b then 1 else 0) = x
    have word := s.reg_setHeld_self (A.PWM_AX_CTL a) x
    refine ⟨?_, ?_, .setHeld s _ (blocksIcu_of_div (axCtl_block a.isLt) (by decide)), ?_⟩
    · refine (State.bit_eq_getLsbD _ _ 1).trans ?_
      rw [word, ← hx, setBits_getLsbD _ _ _ _ _ (by decide)]
      cases b <;> rfl
    · rw [State.inForce_eq, State.inForce_eq]
      exact congrArg (getBits · 1 1) (s.regInForce_setHeld _ _)
    · refine (congrArg (getBits · 2 6) word).trans ?_
      rw [← hx]
      exact getBits_setBits_ne _ _ _ _ _ _ (by decide) (by decide)

/-- The trip states where they are taken (R148). -/
theorem tripstTaken_shows (s : State) (a : Fin 24) (hn : n < 64) :
    getBits ((s.tripstTaken a n).reg (A.PWM_AX_CTL a)) 2 6 = n ∧
    (s.tripstTaken a n).bit (F.PWM_AX_STATUS_LS_ERR a) = (s.tripstTaken a n).lsMixed a ∧
    State.Quiet (blocksIcu [0x804, 0x807]) s (s.tripstTaken a n) := by
  refine ⟨?_, State.tripstTaken_lsErr s a.isLt n, ?_⟩
  · rw [State.tripstTaken_reg s a.isLt]
    exact (State.rd_wr_self s (tripstFld a) n (by decide : 2 + 6 ≤ 48)).trans (Nat.mod_eq_of_lt hn)
  · have written : State.Quiet (blocksIcu [0x804, 0x807]) s (s.wr (tripstFld a) n) :=
      .wr s (tripstFld a) n (blocksIcu_of_div (axCtl_block a.isLt) (by decide))
    exact (written.trans ((State.Quiet.lsShown _ _).mono fun _ => blocksIcu_of_oneReach (axStatus_block a.isLt))).trans
      ((State.Quiet.tripstTaken s a n).mono fun _ => blocksIcu_of_oneReach (d := 0x807) (div_group a.isLt))

/-- A refused write of PWM leaves the registers but WR_REFUSED (R134). -/
theorem pwmRefuse_block (s : State) {q : Nat} (hq : q < 6) {l : List Nat} (hl : l.contains 0x804 = true) :
    State.Quiet (blocksIcu l) s (s.pwmRefuse q) :=
  (State.Quiet.pwmRefuse s q).mono fun _ h => blocksIcu_of_oneReach (d := 0x804) (div_group hq) h hl

end Sys2Proof.Machine

open Sys2Proof Sys2Proof.Machine

/-- Settles O13: a lemma for each of the fields, the duties by `dutyStage_stages`. -/
theorem axisOutputWrites : Obligations.AxisOutputWrites := by
  intro s w a b p codes v hs hw
  have quad : (a : Nat) / 4 < 6 := by omega
  refine ⟨fun hm => ?_, fun hm hb => ?_, fun hm => ?_, fun hm hc hne => ?_, fun hm hk hd => ?_, fun hm ho hne => ?_,
    fun hm ho he => ?_⟩
  · obtain ⟨shown, off, quiet, dsrc, trip⟩ := oenWrite_shows s a hm b
    exact next_of_shown (exec_pwmOenWrite hs hw dsrc trip) ⟨shown, off, quiet.1, quiet.sameMem⟩ fun _ h => h
  · have refused := oenWrite_refused hm hb
    have leaves := (State.Quiet.pwmRefuse s (a / 4)).1
    have ctl : oneReach (A.PWM_Q_STATUS (a / 4)) (A.PWM_AX_CTL a) = false :=
      oneReach_ne (by unfold A.PWM_Q_STATUS A.PWM_AX_CTL; omega) (pwm_icu (axCtl_block a.isLt))
    have quiet := pwmRefuse_block s quad (l := [0x804, 0x807]) (by decide)
    have meaning := exec_pwmOenWrite hs hw (b := true) (by rw [refused]; exact leaves.bit ctl) (by rw [refused]; exact leaves.rd ctl)
    rw [refused] at meaning
    exact next_of_shown meaning ⟨(leaves.bit ctl).trans hb, State.bit_pwmRefuse s quad, quiet.1, quiet.sameMem⟩ fun _ h => h
  · obtain ⟨shown, inForce, quiet, trip⟩ := dsrcWrite_shows s a hm b
    exact next_of_shown (exec_pwmDsrcWrite hs hw trip) ⟨shown, inForce, quiet.1, quiet.sameMem⟩ fun _ h => h
  · have taken := tripstWrite_taken hm codes.isLt (fun j hj => hc ⟨j, hj⟩) hne
    obtain ⟨shown, lsErr, quiet⟩ := tripstTaken_shows s a codes.isLt
    exact next_of_shown ((exec_pwmTripstWrite hs hw).trans (congrArg ok taken)) ⟨shown, lsErr, quiet.1, quiet.sameMem⟩ fun _ h => h
  · obtain ⟨staged, armed, quiet⟩ := dutyStage_stages s a.isLt p.isLt (getBits_lt v 0 20)
    exact next_of_shown ((exec_pwmDutyWrite hs hw).trans (congrArg ok (dutyWrite_taken hs hm hk hd)))
      ⟨staged, fun w => armed (congrArg Fin.val w), quiet.1, quiet.sameMem⟩ fun _ h => h
  · have meaning := (dutyWrite_owned hs hm ho (p := p) (v := v)).trans (if_neg hne)
    have quiet := (State.Quiet.pwmFlag s a (F.PWM_AX_STATUS_WR_OWNED a)).mono
      fun _ => blocksIcu_of_oneReach (l := [0x804]) (axStatus_block a.isLt)
    have raised := State.bit_pwmFlag s a (f := F.PWM_AX_STATUS_WR_OWNED a) ⟨show 5 + 1 ≤ 48 by decide, Nat.one_pos⟩
      (pwm_icu (axStatus_block a.isLt))
    exact next_of_shown ((exec_pwmDutyWrite hs hw).trans (congrArg ok meaning))
      ⟨State.staged_pwmFlag s a.isLt p.isLt rfl, raised, quiet.1, quiet.sameMem⟩ fun _ h => h
  · have meaning := (dutyWrite_owned hs hm ho (p := p) (v := v)).trans (if_pos he)
    exact next_of_shown ((exec_pwmDutyWrite hs hw).trans (congrArg ok meaning)) ⟨rfl, rfl, fun _ _ => rfl, fun _ => rfl⟩ fun _ h => h

/-- Settles O14: a value taken waits for the frame tick (`State.regInForce_setHeld`), one refused leaves the register. -/
theorem carrierConfigurationWrites : Obligations.CarrierConfigurationWrites := by
  intro s w q r v hs hw
  have place : (A.PWM_Q_CTL q + 8 * r) / 0x10000 = 0x804 := by unfold A.PWM_Q_CTL; omega
  have meaning : exec (.pwmConfigWrite w q r v) s = ok (s.quadCfgWrite q (A.PWM_Q_CTL q + 8 * r) v) :=
    congrArg ok (cmdWrite_quadCfg hs hw q.isLt r.isLt)
  refine ⟨fun hm hr => ?_, fun hm hne => ?_⟩
  · have taken : s.quadCfgWrite q (A.PWM_Q_CTL q + 8 * r) v = s.setHeld (A.PWM_Q_CTL q + 8 * r)
        (rowWrite false (fieldsAt (A.PWM_Q_CTL q + 8 * r)) (s.reg (A.PWM_Q_CTL q + 8 * r)) v) := by
      simp [State.quadCfgWrite, hm, hr]
    have quiet := State.Quiet.setHeld (p := blocksIcu [0x804]) s (a := A.PWM_Q_CTL q + 8 * r)
      (rowWrite false (fieldsAt (A.PWM_Q_CTL q + 8 * r)) (s.reg (A.PWM_Q_CTL q + 8 * r)) v) (blocksIcu_of_div place (by decide))
    exact next_of_shown (meaning.trans (congrArg ok taken))
      ⟨s.reg_setHeld_self _ _, s.regInForce_setHeld _ _, quiet.1, quiet.sameMem⟩ fun _ h => h
  · have refused : s.quadCfgWrite q (A.PWM_Q_CTL q + 8 * r) v = s.pwmRefuse q := by
      simp [State.quadCfgWrite, hm, hne]
    have quiet := pwmRefuse_block s q.isLt (l := [0x804]) (by decide)
    have other : A.PWM_Q_CTL q + 8 * r ≠ A.PWM_Q_STATUS q := by unfold A.PWM_Q_CTL A.PWM_Q_STATUS; omega
    have kept := (State.Quiet.pwmRefuse s q).1 _ (oneReach_ne other (pwm_icu place))
    exact next_of_shown (meaning.trans (congrArg ok refused)) ⟨kept, State.bit_pwmRefuse s q.isLt, quiet.1, quiet.sameMem⟩ fun _ h => h
end

section
/-! SUPPORT. What a firing of an event channel leaves alone apart from registers and memory (R304-R318): everything but timers, the
commits that wait, and the event router's own state. One lemma for each function that a firing leads to, named after it. -/
namespace Sys2Proof.Machine
set_option Elab.async false

variable {s t u : State} {f flag ien : Fld} {a c g k n src : Nat} {b : Bool} {v : Word} {e : Instr}

/-- What a commit request leaves of an axis (R230). -/
def Axis.uncommitted (x : Axis) : Axis := { x with refAt := none, pendAt := none }

/-- `t` differs from `s` in registers, the times of events, timers, waiting commits and the state of the event router alone. -/
structure State.EventsOnly (s t : State) : Prop where
  rest : t = { s with
    regs := t.regs, alarms := t.alarms, icuEdges := t.icuEdges, timers := t.timers, axes := t.axes, evrLast := t.evrLast,
    evrArr := t.evrArr, evrOld := t.evrOld, evrOldAt := t.evrOldAt, wakeLatch := t.wakeLatch }
  axis : ∀ a, (t.axis a).uncommitted = (s.axis a).uncommitted

namespace State.EventsOnly

theorem refl (s : State) : s.EventsOnly s := ⟨rfl, fun _ => rfl⟩

theorem trans (h : s.EventsOnly t) (k : t.EventsOnly u) : s.EventsOnly u :=
  ⟨by rw [k.rest, h.rest], fun a => (k.axis a).trans (h.axis a)⟩

/-- An update of the event router's state or of a timer. -/
theorem update (h : s.EventsOnly t) (rest : u = { t with
    regs := u.regs, alarms := u.alarms, timers := u.timers, evrLast := u.evrLast, evrArr := u.evrArr, evrOld := u.evrOld,
    evrOldAt := u.evrOldAt, wakeLatch := u.wakeLatch } := by rfl) : s.EventsOnly u :=
  h.trans ⟨by rw [rest], fun a => by rw [rest]; rfl⟩

theorem only (h : s.EventsOnly t) (k : t.RegsOnly u) : s.EventsOnly u := h.trans ⟨by rw [k], fun a => by rw [k]; rfl⟩

theorem ite {p : Prop} [Decidable p] (h : s.EventsOnly t) (k : s.EventsOnly u) : s.EventsOnly (if p then t else u) := by
  split <;> assumption

theorem upto {f : Nat → State → State} (h : s.EventsOnly t) (k : ∀ i u, s.EventsOnly u → s.EventsOnly (f i u)) :
    s.EventsOnly (t.upto n f) := State.upto_invariant (P := fun _ u => s.EventsOnly u) h fun i _ u => k i u

theorem wr (h : s.EventsOnly t) : s.EventsOnly (t.wr f n) := h.update

theorem on (h : s.EventsOnly t) : s.EventsOnly (t.on f) := h.update

theorem off0 (h : s.EventsOnly t) : s.EventsOnly (t.off0 f) := h.update

theorem wrb (h : s.EventsOnly t) : s.EventsOnly (t.wrb f b) := h.update

theorem setBitAt (h : s.EventsOnly t) : s.EventsOnly (t.setBitAt f k b) := h.update

theorem after (h : s.EventsOnly t) : s.EventsOnly (t.after n e) := h.update

theorem inc (h : s.EventsOnly t) : s.EventsOnly (t.inc f) := h.only (.inc t f)

theorem irq (h : s.EventsOnly t) : s.EventsOnly (t.irq src) := h.only (.irq t src)

theorem edge (h : s.EventsOnly t) : s.EventsOnly (t.edge c src) := h.only (.edge t c src)

theorem rise (h : s.EventsOnly t) : s.EventsOnly (t.rise flag ien k src) := h.only (.rise t flag ien k src)

theorem setTmr {x : Timer} (h : s.EventsOnly t) : s.EventsOnly (t.setTmr a x) := h.update

theorem setAxis {x : Axis} (h : s.EventsOnly t) (hx : x.uncommitted = (t.axis a).uncommitted := by rfl) :
    s.EventsOnly (t.setAxis a x) := h.trans ⟨rfl, State.view_setAxis Axis.uncommitted hx⟩

theorem gstartTask (h : s.EventsOnly t) : s.EventsOnly t.gstartTask :=
  .ite (h.upto fun _ _ k => .ite k.setBitAt.setTmr k) h

theorem setCapQ {q : List Word} (h : s.EventsOnly t) : s.EventsOnly (t.setCapQ a k q) := h.setTmr.wr.wrb

theorem capture (h : s.EventsOnly t) : s.EventsOnly (t.capture a k) :=
  .ite h (.ite (.ite (.ite h.setCapQ.setTmr.irq h.setCapQ.setTmr) h.setCapQ) (.ite h.setTmr h.inc.rise))

theorem commitRefuse (h : s.EventsOnly t) : s.EventsOnly (t.commitRefuse a c) := h.off0.setBitAt.on.wr.irq

theorem commitAxis (h : s.EventsOnly t) : s.EventsOnly (t.commitAxis a c) :=
  .ite (.ite h (EventsOnly.ite h.off0.wr h).on.setBitAt.setAxis) h.commitRefuse.setAxis

theorem commitTask (h : s.EventsOnly t) : s.EventsOnly t.commitTask := .ite (h.upto fun _ _ k => .ite k.commitAxis k) h

theorem dioFollow (h : s.EventsOnly t) : s.EventsOnly (t.dioFollow k) := .ite (h.only (.cancel t _)) h.after

theorem arrive {act : State → State} (h : s.EventsOnly t) (k : ∀ u, s.EventsOnly u → s.EventsOnly (act u)) :
    s.EventsOnly (t.arrive a n act) := .ite h.inc (k _ h.update)

theorem wakeSet (h : s.EventsOnly t) : s.EventsOnly (t.wakeSet c) := by
  unfold State.wakeSet
  split
  · exact h
  · exact h.update

theorem evrNote (h : s.EventsOnly t) : s.EventsOnly (t.evrNote a) := h.update

theorem groupTask (h : s.EventsOnly t) : s.EventsOnly (t.groupTask g b) :=
  .ite h (.ite (h.arrive fun _ k => .ite k k.evrNote.setBitAt) (h.arrive fun _ k => k.evrNote.setBitAt))

theorem dioTask (h : s.EventsOnly t) : s.EventsOnly (t.dioTask k a) := by
  refine .ite h ?_
  dsimp only
  split
  · exact (EventsOnly.ite h.inc h).arrive fun _ k => .ite k (k.setBitAt.dioFollow)
  · exact (EventsOnly.ite h.inc h).arrive fun _ k => k.setBitAt.dioFollow
  · exact .ite h.inc (h.arrive fun _ k => k.setBitAt.dioFollow)
  · exact h

theorem evrDeliver (h : s.EventsOnly t) : s.EventsOnly (t.evrDeliver c) :=
  have edges := EventsOnly.ite h (h.upto fun _ _ k => .ite k.edge k)
  have wake := EventsOnly.ite edges.wakeSet edges
  have start := EventsOnly.ite (wake.arrive fun _ k => k.gstartTask) wake
  have commit := EventsOnly.ite (start.arrive fun _ k => k.commitTask) start
  have enable := EventsOnly.ite commit.groupTask commit
  have disable := EventsOnly.ite enable.groupTask enable
  have captured := EventsOnly.ite (disable.arrive fun _ k => k.capture) disable
  .ite captured.dioTask captured

theorem evrLast {x : Tab (Nat × Nat)} (h : s.EventsOnly t) : s.EventsOnly { t with evrLast := x } := h.update

theorem evrFireCh (h : s.EventsOnly t) : s.EventsOnly (t.evrFireCh c) :=
  .ite h (.ite h.inc (.ite h.on.irq (EventsOnly.ite h.wr.after h.wr).evrLast.evrDeliver))

theorem fire (h : s.EventsOnly t) : s.EventsOnly (t.fire c n) := .ite h.evrFireCh h

end State.EventsOnly

end Sys2Proof.Machine
end

section
/-! SUPPORT. What a valley or a peak leaves of the duties, staged or active, and of the arming of the axes (R142, R143): one lemma for
each function that a carrier's turn leads to, named after it. -/
namespace Sys2Proof.Machine
set_option Elab.async false

variable {s t u : State} {f : Fld} {a c d e k n p q r x : Nat} {b hi : Bool} {v : Word} {ev : Instr}

/-! ### The registers that a turn of a carrier reaches -/

/-- The blocks that a turn of a carrier reaches beside PWM: what events reach, and with `b` the comparators (R190, R305, R310). -/
def turnBlocks (b : Bool) : List Nat := (if b then [0x806] else []) ++ [0x803, 0x807, 0x80A, 0x810]

/-- PWM_AXa_STATUS and PWM_AXa_CNT. -/
def axisReach (x : Nat) : Bool := decide (0x08040800 ≤ x) && decide (x < 0x08040E00) && decide (0x20 ≤ x % 0x40)

/-- What a turn of a carrier reaches once its position is shown. -/
def turnReach (b : Bool) (x : Nat) : Bool := blocksIcu (turnBlocks b) x || axisReach x

theorem turnReach_of_block (h : blocksIcu (turnBlocks b) x = true) : turnReach b x = true := by simp [turnReach, h]

/-- A register of PWM beside those of the axes' states is not reached. -/
theorem turnReach_pwm (hx : x / 0x10000 = 0x804) (ha : x < 0x08040800 ∨ x % 0x40 < 0x20) : turnReach b x = false := by
  have blocks : blocks (turnBlocks b) x = false := by
    unfold Machine.blocks
    rw [hx]
    cases b <;> rfl
  have axis : axisReach x = false := by
    simp only [axisReach, Bool.and_eq_false_iff, decide_eq_false_iff_not]
    omega
  simp [turnReach, blocksIcu, blocks, axis, pwm_icu hx]

theorem axisReach_status (ha : a < 24) : axisReach (A.PWM_AX_STATUS a) = true := by
  have range : 0x08040800 ≤ A.PWM_AX_STATUS a ∧ A.PWM_AX_STATUS a < 0x08040E00 ∧ 0x20 ≤ A.PWM_AX_STATUS a % 0x40 := by
    unfold A.PWM_AX_STATUS
    omega
  simp [axisReach, range]

theorem axisReach_cnt (ha : a < 24) : axisReach (A.PWM_AX_CNT a) = true := by
  have range : 0x08040800 ≤ A.PWM_AX_CNT a ∧ A.PWM_AX_CNT a < 0x08040E00 ∧ 0x20 ≤ A.PWM_AX_CNT a % 0x40 := by
    unfold A.PWM_AX_CNT
    omega
  simp [axisReach, range]

/-- In blocks. -/
theorem blocks_of_turnReach {l : List Nat} (h : turnReach b x = true)
    (hl : (0x804 :: turnBlocks b).all l.contains = true := by decide) : blocksIcu l x = true := by
  refine blocksIcu_mono hl ?_
  rcases Bool.or_eq_true _ _ ▸ h with h | h
  · exact blocksIcu_mono (List.all_eq_true.mpr fun y hy => List.contains_iff_mem.mpr (List.mem_cons_of_mem _ hy)) h
  · simp only [axisReach, Bool.and_eq_true, decide_eq_true_eq] at h
    exact blocksIcu_of_div (b := 0x804) (by omega) (by simp)

/-! ### What update points rest on -/

/-- What a write of a staged duty notes in its half-bridge (R143). -/
def Phase.staging (x : Phase) : Nat × Option (Nat × Nat) := (x.stgOld, x.stgAt)

/-- The active duty of a half-bridge, and what a write of its staged one notes. -/
def Phase.load (x : Phase) : Nat × Nat × Option (Nat × Nat) := (x.duty, x.staging)

/-- What the arming of an axis notes (R143). -/
def Axis.arming (x : Axis) : Option (Nat × Nat) × Bool := (x.armAt, x.armOld)

/-- `t` has the clock of `s`, and the instant of the present command. -/
def State.SameClock (s t : State) : Prop := t.now = s.now ∧ t.clocked = s.clocked ∧ t.beat = s.beat

theorem State.SameClock.sameAs (h : s.SameClock t) (o : Option (Nat × Nat)) : t.sameAs o = s.sameAs o := by
  obtain ⟨now, clocked, beat⟩ := h
  unfold State.sameAs State.same
  rw [now, clocked, beat]

theorem stagedBefore_congr (h : s.SameClock t) (hx : (t.phase a p).staging = (s.phase a p).staging)
    (hd : t.staged a p = s.staged a p) : t.stagedBefore a p = s.stagedBefore a p := by
  have at' : (t.phase a p).stgAt = (s.phase a p).stgAt := congrArg Prod.snd hx
  have old : (t.phase a p).stgOld = (s.phase a p).stgOld := congrArg Prod.fst hx
  unfold State.stagedBefore
  rw [at', old, hd, h.sameAs]

theorem armedBefore_congr (h : s.SameClock t) (hx : (t.axis a).arming = (s.axis a).arming)
    (hb : t.bit (F.PWM_AX_STATUS_ARM a) = s.bit (F.PWM_AX_STATUS_ARM a)) : t.armedBefore a = s.armedBefore a := by
  have at' : (t.axis a).armAt = (s.axis a).armAt := congrArg Prod.fst hx
  have old : (t.axis a).armOld = (s.axis a).armOld := congrArg Prod.snd hx
  unfold State.armedBefore
  rw [at', old, hb, h.sameAs]

/-- The staged duties rest on their registers. -/
theorem State.Quiet.staged {l : Nat → Bool} (h : State.Quiet l s t) (hp : p < 3) (hl : l (A.PWM_AX_DUTYU a + 8 * p) = false) :
    t.staged a p = s.staged a p := by
  rw [State.staged_eq _ _ hp, State.staged_eq _ _ hp]
  exact h.1.rd hl

theorem turnReach_duty (ha : a < 24) (hp : p < 3) : turnReach b (A.PWM_AX_DUTYU a + 8 * p) = false :=
  turnReach_pwm (axDuty_block ha hp) (.inr (by unfold A.PWM_AX_DUTYU; omega))

/-- A turn of a carrier but for its duty loads: `t` has the clock, the duties, the staging and the arming of `s`. -/
structure State.Turns (b : Bool) (s t : State) : Prop where
  quiet : State.Quiet (turnReach b) s t
  clock : s.SameClock t
  held : t.held = s.held
  load : ∀ a p, (t.phase a p).load = (s.phase a p).load
  arming : ∀ a, (t.axis a).arming = (s.axis a).arming
  armed : ∀ a < 24, t.bit (F.PWM_AX_STATUS_ARM a) = s.bit (F.PWM_AX_STATUS_ARM a)

namespace State.Turns

theorem refl (b : Bool) (s : State) : s.Turns b s :=
  ⟨.refl _ s, ⟨rfl, rfl, rfl⟩, rfl, fun _ _ => rfl, fun _ => rfl, fun _ _ => rfl⟩

theorem trans (h : s.Turns b t) (k : t.Turns b u) : s.Turns b u where
  quiet := h.quiet.trans k.quiet
  clock := ⟨k.clock.1.trans h.clock.1, k.clock.2.1.trans h.clock.2.1, k.clock.2.2.trans h.clock.2.2⟩
  held := k.held.trans h.held
  load a p := (k.load a p).trans (h.load a p)
  arming a := (k.arming a).trans (h.arming a)
  armed a ha := (k.armed a ha).trans (h.armed a ha)

theorem ite {p : Prop} [Decidable p] (h : s.Turns b t) (k : s.Turns b u) : s.Turns b (if p then t else u) := by
  split <;> assumption

theorem upto {g : Nat → State → State} (h : s.Turns b t) (k : ∀ i < n, ∀ u, s.Turns b u → s.Turns b (g i u)) :
    s.Turns b (t.upto n g) := State.upto_invariant (P := fun _ u => s.Turns b u) h k

/-- The register of ARM is not reached by what leaves PWM alone. -/
theorem armed_of_quiet (h : State.Quiet (blocksIcu (turnBlocks b)) t u) (ha : a < 24) :
    u.bit (F.PWM_AX_STATUS_ARM a) = t.bit (F.PWM_AX_STATUS_ARM a) := by
  refine h.1.bit ?_
  have block := axStatus_block ha
  have outside : blocks (turnBlocks b) (A.PWM_AX_STATUS a) = false := by
    unfold blocks
    rw [block]
    cases b <;> rfl
  show blocksIcu (turnBlocks b) (A.PWM_AX_STATUS a) = false
  simp [blocksIcu, outside, pwm_icu block]

theorem gates (h : s.Turns b t) (k : t.GatesOnly u) : s.Turns b u := h.trans
  { quiet := k.quiet _
    clock := by
      rw [k.rest]
      exact ⟨rfl, rfl, rfl⟩
    held := k.held
    load := fun a p => (congrArg Phase.load (k.phase a p) :)
    arming := fun a => (congrArg Axis.arming (k.axis a) :)
    armed := fun a _ => (k.quiet (blocks [])).1.bit rfl }

/-- A change of registers outside PWM. -/
theorem regs (h : s.Turns b t) (k : t.RegsIn (blocksIcu (turnBlocks b)) u) : s.Turns b u := h.trans
  { quiet := k.quiet.mono fun _ => turnReach_of_block
    clock := by
      rw [k.only]
      exact ⟨rfl, rfl, rfl⟩
    held := by rw [k.only]
    load := fun a p => by rw [k.only]; rfl
    arming := fun a => by rw [k.only]; rfl
    armed := fun a ha => armed_of_quiet k.quiet ha }

/-- A change of the state of an axis, beside ARM. -/
theorem axisReg (h : s.Turns b t) (k : t.RegsOnly u) (q : State.Quiet axisReach t u)
    (armed : ∀ a < 24, u.bit (F.PWM_AX_STATUS_ARM a) = t.bit (F.PWM_AX_STATUS_ARM a)) : s.Turns b u := h.trans
  { quiet := q.mono fun x hx => by simp [turnReach, hx]
    clock := by
      rw [k]
      exact ⟨rfl, rfl, rfl⟩
    held := by rw [k]
    load := fun a p => by rw [k]; rfl
    arming := fun a => by rw [k]; rfl
    armed := armed }

/-- What an event reaches is reached by a turn of a carrier. -/
theorem turnReach_event (h : eventReach x = true) : blocksIcu (turnBlocks b) x = true :=
  blocksIcu_of_event (by cases b <;> rfl) h

theorem fire (h : s.Turns b t) (hc : c < 96) : s.Turns b (t.fire c n) := by
  have k := (State.EventsOnly.refl t).fire (c := c) (n := n)
  have q := (State.Quiet.fire t n hc).mono fun _ => turnReach_event (b := b)
  generalize t.fire c n = u at k q
  exact h.trans
    { quiet := q.mono fun _ => turnReach_of_block
      clock := by
        rw [k.rest]
        exact ⟨rfl, rfl, rfl⟩
      held := by rw [k.rest]
      load := fun a p => by rw [k.rest]; rfl
      arming := fun a => (congrArg Axis.arming (k.axis a) :)
      armed := fun a ha => armed_of_quiet q ha }

theorem setPhase {y : Phase} (h : s.Turns b t) (hy : y.load = (t.phase a p).load := by rfl) : s.Turns b (t.setPhase a p y) :=
  h.trans ⟨.of_eq _ rfl rfl rfl, ⟨rfl, rfl, rfl⟩, rfl, State.view_setPhase Phase.load hy, fun _ => rfl, fun _ _ => rfl⟩

theorem setAxis {y : Axis} (h : s.Turns b t) (hy : y.arming = (t.axis a).arming := by rfl) : s.Turns b (t.setAxis a y) :=
  h.trans ⟨.of_eq _ rfl rfl rfl, ⟨rfl, rfl, rfl⟩, rfl, fun _ _ => rfl, State.view_setAxis Axis.arming hy, fun _ _ => rfl⟩

theorem duty (h : s.Turns b t) (a p : Nat) : (t.phase a p).duty = (s.phase a p).duty := congrArg Prod.fst (h.load a p)

theorem staging (h : s.Turns b t) (a p : Nat) : (t.phase a p).staging = (s.phase a p).staging := congrArg Prod.snd (h.load a p)

theorem setComp {y : Comp} (h : s.Turns b t) : s.Turns b (t.setComp n y) := h.gates (State.GatesOnly.refl t).setComp

theorem after (h : s.Turns b t) : s.Turns b (t.after n ev) := h.gates (State.GatesOnly.refl t).after

/-- A counter of an axis. -/
theorem count (h : s.Turns b t) (ha : a < 24) (hf : f.addr = A.PWM_AX_CNT a) : s.Turns b (t.inc f) := by
  refine h.axisReg (.inc t f) (.inc t f (by rw [hf]; exact axisReach_cnt ha)) fun c _ => ?_
  have counts : State.Quiet (fun x => x == A.PWM_AX_CNT a) t (t.inc f) := .inc t f (by simp [hf])
  refine counts.1.bit ?_
  show (A.PWM_AX_STATUS c == A.PWM_AX_CNT a) = false
  rw [beq_eq_false_iff_ne]
  unfold A.PWM_AX_STATUS A.PWM_AX_CNT
  omega

/-- A flag of PWM_AXa_STATUS beside ARM. -/
theorem status (h : s.Turns b t) (ha : a < 24) (hf : f.addr = A.PWM_AX_STATUS a) (hlo : 1 ≤ f.lo) : s.Turns b (t.on f) :=
  h.axisReg (.wr t f 1) (.wr t f 1 (by rw [hf]; exact axisReach_status ha)) fun c _ =>
    State.bit_wr_ne t f (F.PWM_AX_STATUS_ARM c) 1 (by decide : 0 + 1 ≤ 48) (.inr (.inl hlo))

theorem irq (h : s.Turns b t) : s.Turns b (t.irq n) := h.regs ((State.RegsIn.refl _ t).irq fun _ => blocksIcu_of_icu)

/-! ### The outputs -/

theorem lane_block (ha : a < 24) {base : Nat} (h : base / 0x10000 = 0x807 ∧ base % 0x10000 + 0x400 * 24 ≤ 0x10000 := by decide) :
    blocksIcu (turnBlocks b) (base + 0x400 * a) = true :=
  blocksIcu_of_div ((div_group ha ⟨by decide, h.2⟩).trans h.1) (by cases b <;> rfl)

theorem setLane {base : Nat} (h : s.Turns b t) (ha : a < 24)
    (hb : base / 0x10000 = 0x807 ∧ base % 0x10000 + 0x400 * 24 ≤ 0x10000 := by decide) : s.Turns b (t.setReg (base + 0x400 * a) v) :=
  h.regs ((State.RegsIn.refl _ t).setReg (lane_block ha hb))

theorem drive (h : s.Turns b t) (ha : a < 24) : s.Turns b (t.drive a) :=
  have held := t.holdLook_regsIn a
  have flag := held.quiet.mono fun _ => blocksIcu_of_oneReach (l := turnBlocks b) (d := 0x807) (div_group ha)
    (hd := by cases b <;> rfl)
  (h.regs ⟨held.only, flag⟩).gates (State.GatesOnly.drive t a)

theorem turn (h : s.Turns b t) : s.Turns b (t.turn a p hi) := h.gates (State.GatesOnly.refl t).turn

end State.Turns

end Sys2Proof.Machine
end

section
/-! SUPPORT. The comparators and the trip inputs at a valley (R150, R187, R190-R194): none of them touches a duty or arms an axis. -/
namespace Sys2Proof.Machine
set_option Elab.async false

variable {s t u : State} {a k n p q : Nat} {b hi : Bool}

theorem State.GatesOnly.foldl {α : Type} {g : State → α → State} {l : List α} (h : s.GatesOnly t)
    (k : ∀ x u, s.GatesOnly u → s.GatesOnly (g u x)) : s.GatesOnly (l.foldl g t) := by
  induction l generalizing t with
  | nil => exact h
  | cons x l ih => exact ih (k x t h)

theorem State.GatesOnly.blankCarrier (s : State) (q k : Nat) : s.GatesOnly (s.blankCarrier q k) :=
  ((State.GatesOnly.refl s).foldl fun _ _ k => k.blankIf).upto fun _ _ k => k.lvlFall

/-- The channels of a quad's comparators are no EXT channels. -/
theorem quadComps_lt (hq : q < 6) : ∀ n ∈ quadComps q, n < 54 := by
  intro n hn
  simp only [quadComps, List.mem_append, List.mem_map, List.mem_range, List.mem_singleton] at hn
  omega

/-- A flag of comparator `n`. -/
theorem State.RegsIn.compFlag_one (h : s.RegsIn (blocksIcu (turnBlocks true)) t) (hn : n < 58) (k : Nat) :
    s.RegsIn (blocksIcu (turnBlocks true)) (t.compFlags n [k]) := by
  have register : blocksIcu (turnBlocks true) (A.CMP_CH_STAT n) = true := blocksIcu_of_div (b := 0x806) (div_group hn) (by decide)
  have set : s.RegsIn (blocksIcu (turnBlocks true)) (t.on ⟨A.CMP_CH_STAT n, k, 1⟩) := h.on register
  exact .ite (set.irq fun _ => blocksIcu_of_icu) set

namespace State.Turns

theorem intClear (h : s.Turns b t) (ha : a < 24) : s.Turns b (t.intClear a) := ((h.setAxis.setLane ha).setLane ha).setLane ha

theorem loopClear (h : s.Turns b t) (ha : a < 24) : s.Turns b (t.loopClear a) := (h.intClear ha).setAxis.setLane ha

theorem tripEdge (h : s.Turns b t) (ha : a < 24) : s.Turns b (t.tripEdge a) := by
  unfold State.tripEdge
  extract_lets cleared src off counted
  have hcleared : s.Turns b cleared := .ite h (h.loopClear ha)
  clear_value cleared
  have hoff : s.Turns b off := hcleared.setAxis.drive ha
  clear_value off
  have hcounted : s.Turns b counted := ((hoff.status ha rfl (by decide : 1 ≤ 3)).count ha rfl).irq
  clear_value counted
  exact (hcounted.fire (by decide)).fire (by decide)

theorem tripLook (h : s.Turns b t) (ha : a < 24) : s.Turns b (t.tripLook a) := .ite (h.tripEdge ha) (.ite h.setAxis h)

theorem compLook (h : s.Turns b t) (hn : n < 54) : s.Turns b (t.compLook n) := by
  unfold State.compLook
  split
  next phase => exact h.tripLook (by omega)
  next bus => exact h.upto fun _ hk _ k => k.tripLook (by omega)

/-- A PERIOD clear (R190). -/
theorem compPeriod (h : s.Turns true t) (hn : n < 54) : s.Turns true (t.compPeriod n) := by
  have register : blocksIcu (turnBlocks true) (A.CMP_CH_STAT n) = true := blocksIcu_of_div (b := 0x806) (div_group hn) (by decide)
  have refused : s.Turns true (t.compFlags n [4]) := h.regs ((State.RegsIn.refl _ t).compFlag_one (by omega) 4)
  have cleared : s.Turns true ((t.setComp n { t.comp n with latch := false }).off0 (F.CMP_CH_STAT_LATCH n)) :=
    h.setComp.regs ((State.RegsIn.refl _ _).off0 register)
  exact .ite (.ite h (.ite refused (cleared.compLook hn))) h

theorem compPeriods (h : s.Turns true t) (hq : q < 6) : s.Turns true ((quadComps q).foldl (fun s n => s.compPeriod n) t) := by
  have each := quadComps_lt hq
  generalize quadComps q = l at each
  induction l generalizing t with
  | nil => exact h
  | cons n l ih => exact ih (h.compPeriod (each n List.mem_cons_self)) fun m hm => each m (List.mem_cons_of_mem n hm)

/-! ### The bootstrap supplies and the axes at a valley, and at a peak -/

theorem bootValley (h : s.Turns b t) : s.Turns b (t.bootValley a p) := by
  unfold State.bootValley
  refine h.setPhase ?_
  split <;> split <;> rfl

theorem uvloRelease (h : s.Turns b t) : s.Turns b (t.uvloRelease a p) := .ite h.setPhase h

theorem axisValley (h : s.Turns b t) (ha : a < 24) : s.Turns b (t.axisValley a) := by
  unfold State.axisValley
  extract_lets booted oen x x1
  have hbooted : s.Turns b booted := h.upto fun _ _ _ k => k.bootValley.uvloRelease
  clear_value booted
  exact .ite (hbooted.setAxis.drive ha) (.ite (hbooted.setAxis.drive ha) hbooted.setAxis)

theorem bootPeak (h : s.Turns b t) : s.Turns b (t.bootPeak a p) := by
  unfold State.bootPeak
  extract_lets q x x1 s1
  have ended : x1.load = x.load := by
    unfold x1
    split <;> rfl
  have counted : s.Turns b s1 := h.setPhase ended
  exact .ite (h.setPhase ended) (.ite counted.after counted)

/-! ### The windows -/

theorem pulseStart (h : s.Turns b t) (ha : a < 24) : s.Turns b (t.pulseStart a p n) :=
  .ite h.setPhase (h.setPhase.count ha rfl)

theorem openHigh (h : s.Turns b t) (ha : a < 24) : s.Turns b (t.openHigh a p) := by
  unfold State.openHigh
  dsimp only
  split
  · exact h.setPhase
  · split
    · exact h.setPhase.count ha rfl
    · exact (h.pulseStart ha).turn

theorem openLow (h : s.Turns b t) (ha : a < 24) : s.Turns b (t.openLow a p) := by
  unfold State.openLow
  dsimp only
  split
  · exact h.setPhase
  · split
    · exact (h.pulseStart ha).turn
    · split
      · exact h.setPhase.count ha rfl
      · exact (h.pulseStart ha).turn

theorem edgeTurn (h : s.Turns b t) (ha : a < 24) : s.Turns b (t.edgeTurn a p) :=
  .ite h (.ite (.ite (h.openHigh ha) (h.openLow ha)) h.after)

theorem edgeTurns (h : s.Turns b t) (hq : q < 6) : s.Turns b (t.edgeTurns q) := h.upto fun _ _ _ k => k.edgeTurn (by omega)

end State.Turns

end Sys2Proof.Machine
end

section
/-! SUPPORT. The duty load of a quad (R142, R143), and the position, the duties and the frame of a carrier's turn around it. -/
namespace Sys2Proof.Machine
set_option Elab.async false

variable {s t u v : State} {a d e i k n p q : Nat} {b : Bool} {ev : Instr}

/-! ### The load of an axis -/

/-- `s` with the staged duties of axis `a` copied to the active ones. -/
def State.dutiesTaken (s : State) (a : Nat) : State :=
  s.upto 3 (fun p s => s.setPhase a p { s.phase a p with duty := s.stagedBefore a p })

/-- What an update point does for axis `a`. -/
def State.axisLoad (s : State) (a : Nat) : State :=
  if s.armedBefore a then
    if s.sameAs (s.axis a).armAt then (s.dutiesTaken a).setAxis a { (s.dutiesTaken a).axis a with armOld := false }
    else ((s.dutiesTaken a).off0 (F.PWM_AX_STATUS_ARM a)).setAxis a
      { (s.dutiesTaken a).axis a with armAt := none, armOld := false }
  else s

theorem dutyLoad_eq (s : State) (q : Nat) : s.dutyLoad q = s.upto 4 (fun k t => t.axisLoad (4 * q + k)) := rfl

/-- `t` is `s` after loads of axis `a`: the staged duties are those of `s`, and so are the other axes. -/
structure State.Loads (b : Bool) (a : Nat) (s t : State) : Prop where
  quiet : State.Quiet (turnReach b) s t
  clock : s.SameClock t
  staging : ∀ c p, (t.phase c p).staging = (s.phase c p).staging
  duty : ∀ c ≠ a, ∀ p < 3, (t.phase c p).duty = (s.phase c p).duty
  arming : ∀ c ≠ a, (t.axis c).arming = (s.axis c).arming
  armed : ∀ c ≠ a, t.bit (F.PWM_AX_STATUS_ARM c) = s.bit (F.PWM_AX_STATUS_ARM c)

namespace State.Loads

theorem refl (b : Bool) (a : Nat) (s : State) : s.Loads b a s :=
  ⟨.refl _ s, ⟨rfl, rfl, rfl⟩, fun _ _ => rfl, fun _ _ _ _ => rfl, fun _ _ => rfl, fun _ _ => rfl⟩

theorem stagedBefore (h : s.Loads b a t) {c : Nat} (hc : c < 24) (hp : p < 3) : t.stagedBefore c p = s.stagedBefore c p :=
  stagedBefore_congr h.clock (h.staging c p) (h.quiet.staged hp (turnReach_duty hc hp))

theorem armedBefore (h : s.Loads b a t) {c : Nat} (hc : c ≠ a) : t.armedBefore c = s.armedBefore c :=
  armedBefore_congr h.clock (h.arming c hc) (h.armed c hc)

/-- One duty. -/
theorem setDuty (h : s.Loads b a t) (hp : p < 3) : s.Loads b a (t.setPhase a p { t.phase a p with duty := n }) where
  quiet := h.quiet.trans (.of_eq _ rfl rfl rfl)
  clock := h.clock
  staging c r := (State.view_setPhase (x := { t.phase a p with duty := n }) Phase.staging rfl c r).trans (h.staging c r)
  duty c hc r hr := by
    rw [State.phase_setPhase, if_neg (by omega)]
    exact h.duty c hc r hr
  arming := h.arming
  armed := h.armed

/-- What axis `a` notes of its arming. -/
theorem setAxis {x : Axis} (h : s.Loads b a t) : s.Loads b a (t.setAxis a x) where
  quiet := h.quiet.trans (.of_eq _ rfl rfl rfl)
  clock := h.clock
  staging := h.staging
  duty := h.duty
  arming c hc := by
    rw [State.axis_setAxis, if_neg hc]
    exact h.arming c hc
  armed := h.armed

theorem disarm (h : s.Loads b a t) (ha : a < 24) : s.Loads b a (t.off0 (F.PWM_AX_STATUS_ARM a)) where
  quiet := h.quiet.trans (.wr t (F.PWM_AX_STATUS_ARM a) 0 (by
    show turnReach b (A.PWM_AX_STATUS a) = true
    simp [turnReach, axisReach_status ha]))
  clock := h.clock
  staging := h.staging
  duty := h.duty
  arming := h.arming
  armed c hc := by
    have apart : A.PWM_AX_STATUS a ≠ A.PWM_AX_STATUS c := by
      unfold A.PWM_AX_STATUS
      omega
    exact (State.bit_wr_ne t (F.PWM_AX_STATUS_ARM a) (F.PWM_AX_STATUS_ARM c) 0 (by decide : 0 + 1 ≤ 48) (.inl apart)).trans
      (h.armed c hc)

end State.Loads

/-- The three duties are what was staged before. -/
theorem dutiesTaken_loads (b : Bool) (s : State) (ha : a < 24) :
    s.Loads b a (s.dutiesTaken a) ∧ ∀ r < 3, ((s.dutiesTaken a).phase a r).duty = s.stagedBefore a r := by
  refine State.upto_invariant (n := 3) (P := fun i t => s.Loads b a t ∧ ∀ r < i, (t.phase a r).duty = s.stagedBefore a r)
    ⟨.refl b a s, fun r hr => absurd hr r.not_lt_zero⟩ fun i hi t ht => ?_
  obtain ⟨loads, taken⟩ := ht
  refine ⟨loads.setDuty hi, fun r hr => ?_⟩
  obtain rfl | before : r = i ∨ r < i := by omega
  · rw [State.phase_setPhase_self]
    exact loads.stagedBefore ha hi
  · rw [State.phase_setPhase, if_neg (by omega)]
    exact taken r before

theorem axisLoad_loads (b : Bool) (s : State) (ha : a < 24) : s.Loads b a (s.axisLoad a) ∧
    (s.armedBefore a = true → ∀ r < 3, ((s.axisLoad a).phase a r).duty = s.stagedBefore a r) := by
  obtain ⟨loads, taken⟩ := dutiesTaken_loads b s ha
  unfold State.axisLoad
  generalize s.dutiesTaken a = t at loads taken ⊢
  split
  · split
    · exact ⟨loads.setAxis, fun _ => taken⟩
    · exact ⟨(loads.disarm ha).setAxis, fun _ => taken⟩
  next unarmed => exact ⟨.refl b a s, fun armed => absurd armed unarmed⟩

/-! ### The load of a quad -/

/-- `t` is `s` after the loads of the first `i` axes of quad `q`. -/
structure State.QuadLoads (b : Bool) (q i : Nat) (s t : State) : Prop where
  quiet : State.Quiet (turnReach b) s t
  staged : ∀ c < 24, ∀ p < 3, t.stagedBefore c p = s.stagedBefore c p
  armed : ∀ k, i ≤ k → t.armedBefore (4 * q + k) = s.armedBefore (4 * q + k)
  loaded : ∀ k < i, s.armedBefore (4 * q + k) = true → ∀ p < 3, (t.phase (4 * q + k) p).duty = s.stagedBefore (4 * q + k) p

theorem State.QuadLoads.next (h : s.QuadLoads b q i t) (ha : 4 * q + i < 24) : s.QuadLoads b q (i + 1) (t.axisLoad (4 * q + i)) := by
  obtain ⟨loads, taken⟩ := axisLoad_loads b t ha
  refine ⟨h.quiet.trans loads.quiet, fun c hc p hp => (loads.stagedBefore hc hp).trans (h.staged c hc p hp),
    fun k hk => (loads.armedBefore (by omega)).trans (h.armed k (by omega)), fun k hk armed p hp => ?_⟩
  obtain rfl | before : k = i ∨ k < i := by omega
  · exact (taken ((h.armed k le_rfl).trans armed) p hp).trans (h.staged _ ha p hp)
  · exact (loads.duty _ (by omega) p hp).trans (h.loaded k before armed p hp)

/-- An update point loads the axes armed before (R142, R143). -/
theorem dutyLoad_loads (b : Bool) (s : State) (hq : q < 6) : s.QuadLoads b q 4 (s.dutyLoad q) := by
  rw [dutyLoad_eq]
  exact State.upto_invariant (P := fun i t => s.QuadLoads b q i t)
    ⟨.refl _ s, fun _ _ _ _ => rfl, fun _ _ => rfl, fun k hk => absurd hk k.not_lt_zero⟩ fun i _ t ht => ht.next (by omega)

/-! ### The turn of a carrier -/

/-- `s` with the turn of the carrier of quad `q` shown. -/
def State.carrierShown (s : State) (ev : Instr) (q n d : Nat) : State :=
  ((s.cancel ev).wr (F.PWM_Q_CNT_POS q) n).wr (F.PWM_Q_CNT_DIR q) d

/-- An update point, where the quad updates there. -/
def State.loadAt (s : State) (q k : Nat) : State := if s.updAt q k then s.dutyLoad q else s

theorem updAt_congr (hh : t.held = s.held) (hr : t.rd (F.PWM_Q_CTL_UPD q) = s.rd (F.PWM_Q_CTL_UPD q)) :
    t.updAt q k = s.updAt q k := by
  unfold State.updAt State.inForce
  rw [hh, hr]

theorem carrierShown_quiet (s : State) (ev : Instr) (q n d : Nat) :
    State.Quiet (fun x => x == A.PWM_Q_CNT q) s (s.carrierShown ev q n d) := by
  have shown : ∀ (t : State) (f : Fld), f.addr = A.PWM_Q_CNT q → ∀ n, State.Quiet (fun x => x == A.PWM_Q_CNT q) t (t.wr f n) :=
    fun t f hf n => .wr t f n (beq_iff_eq.mpr hf)
  exact (State.Quiet.cancel _ s ev).trans ((shown _ (F.PWM_Q_CNT_POS q) rfl n).trans (shown _ (F.PWM_Q_CNT_DIR q) rfl d))

theorem carrierShown_pos (s : State) (ev : Instr) (q d : Nat) (hn : n < 2 ^ 16) :
    (s.carrierShown ev q n d).rd (F.PWM_Q_CNT_POS q) = n :=
  (State.rd_wr_ne _ (F.PWM_Q_CNT_DIR q) (F.PWM_Q_CNT_POS q) d (by decide : 0 + 16 ≤ 48) (.inr (.inl (by decide : 0 + 16 ≤ 16)))).trans
    ((State.rd_wr_self _ (F.PWM_Q_CNT_POS q) n (by decide : 0 + 16 ≤ 48)).trans (Nat.mod_eq_of_lt hn))

theorem carrierShown_dir (s : State) (ev : Instr) (q n : Nat) (hd : d < 2 ^ 1) :
    (s.carrierShown ev q n d).rd (F.PWM_Q_CNT_DIR q) = d :=
  (State.rd_wr_self _ (F.PWM_Q_CNT_DIR q) d (by decide : 16 + 1 ≤ 48)).trans (Nat.mod_eq_of_lt hd)

theorem quadCnt_block (hq : q < 6) : A.PWM_Q_CNT q / 0x10000 = 0x804 ∧ A.PWM_Q_CNT q < 0x08040800 := by
  unfold A.PWM_Q_CNT
  omega

theorem quadCtl_block (hq : q < 6) : A.PWM_Q_CTL q / 0x10000 = 0x804 ∧ A.PWM_Q_CTL q < 0x08040800 := by
  unfold A.PWM_Q_CTL
  omega

/-- Where the quad updates is as before the turn. -/
theorem turns_updAt (h : (s.carrierShown ev q n d).Turns b t) (hq : q < 6) : t.updAt q k = s.updAt q k := by
  obtain ⟨block, low⟩ := quadCtl_block hq
  have apart : (A.PWM_Q_CTL q == A.PWM_Q_CNT q) = false := by
    rw [beq_eq_false_iff_ne]
    unfold A.PWM_Q_CTL A.PWM_Q_CNT
    omega
  exact updAt_congr h.held ((h.quiet.1.rd (f := F.PWM_Q_CTL_UPD q) (turnReach_pwm block (.inl low))).trans
    ((carrierShown_quiet s ev q n d).1.rd apart))

/-- What is staged before the turn stays so up to the update point. -/
theorem turns_stagedBefore (h : (s.carrierShown ev q n d).Turns b t) (ha : a < 24) (hp : p < 3) :
    t.stagedBefore a p = s.stagedBefore a p := by
  have apart : (A.PWM_AX_DUTYU a + 8 * p == A.PWM_Q_CNT q) = false := by
    rw [beq_eq_false_iff_ne]
    unfold A.PWM_AX_DUTYU A.PWM_Q_CNT
    omega
  exact stagedBefore_congr h.clock (h.staging a p)
    ((h.quiet.staged hp (turnReach_duty ha hp)).trans ((carrierShown_quiet s ev q n d).staged hp apart))

/-- What is armed before the turn stays so up to the update point. -/
theorem turns_armedBefore (h : (s.carrierShown ev q n d).Turns b t) (ha : a < 24) : t.armedBefore a = s.armedBefore a := by
  have apart : (A.PWM_AX_STATUS a == A.PWM_Q_CNT q) = false := by
    rw [beq_eq_false_iff_ne]
    unfold A.PWM_AX_STATUS A.PWM_Q_CNT
    omega
  exact armedBefore_congr h.clock (h.arming a) ((h.armed a ha).trans ((carrierShown_quiet s ev q n d).1.bit apart))

/-- A turn with its update point: `t` is the state in which the quad loads, and `u` the end. -/
theorem turn_loads (before : (s.carrierShown ev q n d).Turns b t) (after : (t.loadAt q k).Turns b u) (hq : q < 6) (hk : s.updAt q k = true)
    {j : Nat} (hj : j < 4) (armed : s.armedBefore (4 * q + j) = true) (hp : p < 3) :
    (u.phase (4 * q + j) p).duty = s.stagedBefore (4 * q + j) p := by
  have axis : 4 * q + j < 24 := by omega
  have load : t.loadAt q k = t.dutyLoad q := if_pos ((turns_updAt before hq).trans hk)
  have loaded := (dutyLoad_loads b t hq).loaded j hj ((turns_armedBefore before axis).trans armed) p hp
  rw [after.duty, load, loaded]
  exact turns_stagedBefore before axis hp

theorem turn_quiet (before : (s.carrierShown ev q n d).Turns b t) (after : (t.loadAt q k).Turns b u) (hq : q < 6) :
    State.Quiet (turnReach b) (s.carrierShown ev q n d) u :=
  (before.quiet.trans (.ite (dutyLoad_loads b t hq).quiet (.refl _ t))).trans after.quiet

/-- The carrier's position and direction at its turn, the duties that it loads, and its frame (R131, R142, R143). -/
theorem turn_shows {l : List Nat} (before : (s.carrierShown ev q n d).Turns b t) (after : (t.loadAt q k).Turns b u)
    (hq : q < 6) (hn : n < 2 ^ 16) (hd : d < 2 ^ 1) (hl : (0x804 :: turnBlocks b).all l.contains = true) :
    u.rd (F.PWM_Q_CNT_POS q) = n ∧ u.rd (F.PWM_Q_CNT_DIR q) = d ∧
    (s.updAt q k = true → ∀ j : Fin 4, s.armedBefore (4 * q + j) = true → ∀ p : Fin 3,
      (u.phase (4 * q + j) p).duty = s.stagedBefore (4 * q + j) p) ∧
    sameRegs (blocksIcu l) s u ∧ sameMem s u := by
  obtain ⟨block, low⟩ := quadCnt_block hq
  have quiet := turn_quiet before after hq
  have cnt : turnReach b (A.PWM_Q_CNT q) = false := turnReach_pwm block (.inl low)
  have pwm : l.contains 0x804 = true := List.all_eq_true.mp hl _ List.mem_cons_self
  have frame : State.Quiet (blocksIcu l) s u :=
    ((carrierShown_quiet s ev q n d).mono fun x hx => blocksIcu_of_div (beq_iff_eq.mp hx ▸ block) pwm).trans
      (quiet.mono fun _ hx => blocks_of_turnReach hx hl)
  exact ⟨(quiet.1.rd cnt).trans (carrierShown_pos s ev q d hn), (quiet.1.rd cnt).trans (carrierShown_dir s ev q n hd),
    fun hk j armed p => turn_loads before after hq hk j.isLt armed p.isLt, frame.1, frame.sameMem⟩

/-! ### The commands -/

/-- `s` when the quad loads at a valley: the blanking, the PERIOD clears and the event are through. -/
def State.valleyLook (s : State) (q : Nat) : State :=
  ((quadComps q).foldl (fun s n => s.compPeriod n) (s.blankCarrier q 0)).fire (24 + q) 0

theorem valleyLook_turns (s : State) (hq : q < 6) : s.Turns true (s.valleyLook q) :=
  (((State.Turns.refl true s).gates (.blankCarrier s q 0)).compPeriods hq).fire (by omega)

/-- The rest of a valley, after the update point. -/
def State.valleyRest (s : State) (q : Nat) : State := (s.upto 4 (fun k s => s.axisValley (4 * q + k))).edgeTurns q

theorem valleyRest_turns (s : State) (hq : q < 6) : s.Turns true (s.valleyRest q) :=
  ((State.Turns.refl true s).upto fun _ _ _ k => k.axisValley (by omega)).edgeTurns hq

theorem exec_carrierValley {q : Fin 6} (h : s.carrierOn q = true) : exec (.carrierValley q) s =
    ok ((((s.carrierShown (.carrierValley q) q 0 0).valleyLook q).loadAt q 0).valleyRest q) := if_neg (by
  show ¬ (!s.carrierOn q) = true
  simp [h])

/-- `s` when the quad loads at a peak. -/
def State.peakLook (s : State) (q : Nat) : State := (s.blankCarrier q 1).fire (24 + q) 1

theorem peakLook_turns (s : State) (hq : q < 6) : s.Turns false (s.peakLook q) :=
  ((State.Turns.refl false s).gates (.blankCarrier s q 1)).fire (by omega)

/-- The rest of a peak. -/
def State.peakRest (s : State) (q : Nat) : State := (s.upto 12 (fun k s => s.bootPeak (4 * q + k / 3) (k % 3))).edgeTurns q

theorem peakRest_turns (s : State) (hq : q < 6) : s.Turns false (s.peakRest q) :=
  ((State.Turns.refl false s).upto fun _ _ _ k => k.bootPeak).edgeTurns hq

theorem exec_carrierPeak {q : Fin 6} (h : s.carrierOn q = true) : exec (.carrierPeak q) s =
    ok ((((s.carrierShown (.carrierPeak q) q (s.inForce (F.PWM_Q_PERIOD_PEAK q)) 1).peakLook q).loadAt q 1).peakRest q) := if_neg (by
  show ¬ (!s.carrierOn q) = true
  simp [h])

/-- A carrier's peak fits its position. -/
theorem inForce_peak_lt (s : State) (q : Nat) : s.inForce (F.PWM_Q_PERIOD_PEAK q) < 2 ^ 16 := by
  rw [State.inForce_eq]
  exact (getBits_lt _ 0 15).trans (by decide)

end Sys2Proof.Machine

open Sys2Proof Sys2Proof.Machine

/-- Settles O12: a turn shows the position first, and nothing before or after the update point touches a duty (`turn_shows`). -/
theorem carrierTurns : Obligations.CarrierTurns := by
  intro s q running
  constructor
  · exact next_of_shown (exec_carrierValley running)
      (turn_shows (valleyLook_turns _ q.isLt) (valleyRest_turns _ q.isLt) q.isLt (by decide) (by decide) (by decide)) fun _ h => h
  · exact next_of_shown (exec_carrierPeak running)
      (turn_shows (peakLook_turns _ q.isLt) (peakRest_turns _ q.isLt) q.isLt (inForce_peak_lt s q) (by decide) (by decide))
      fun _ h => h
end
